-- ==== Sys2Proof/Word.lean ====
section
/-! DEFINITION. The word types of the device and the plainest arithmetic on them (00 R8: registers are 32 bits,
little-endian; bytes are the unit of images, sheets and messages). -/
namespace Sys2Proof

/-- One byte of an image, a sheet, a message or of memory. -/
abbrev Byte := BitVec 8
/-- A 32-bit register (00 R8). -/
abbrev Reg32 := BitVec 32
/-- A 64-bit field. -/
abbrev Reg64 := BitVec 64

/-- A counter of `w` bits that saturates (00 R8, Table 05-3 LOST and its like). -/
def satInc (w n : Nat) : Nat := if n + 1 < 2 ^ w then n + 1 else 2 ^ w - 1

/-- A saturating sum of `w` bits. -/
def satAdd (w n k : Nat) : Nat := if n + k < 2 ^ w then n + k else 2 ^ w - 1

end Sys2Proof
end

