-- ==== Sys2Proof/Parts/Base.lean ====
section
/-! DEFINITION. Plain-data helpers of the state: tables of a fixed number of like things, and byte memory in one
canonical form (a list of address and byte pairs, addresses strictly rising, no entry equal to what an unlisted address
reads as). -/
namespace Sys2Proof.Machine

/-- A table of `n` like things, read and written by number. -/
abbrev Table (α : Type) (n : Nat) := Vector α n

/-- Entry `i`, or `d` where the table has no such entry. -/
def Table.at {α : Type} {n : Nat} (t : Vector α n) (i : Nat) (d : α) : α := (t[i]?).getD d

/-- The table with entry `i` replaced; a number outside the table changes nothing. -/
def Table.put {α : Type} {n : Nat} (t : Vector α n) (i : Nat) (x : α) : Vector α n := t.setIfInBounds i x

/-- The table with entry `i` changed by `f`; a number outside the table changes nothing. -/
def Table.upd {α : Type} {n : Nat} (t : Vector α n) (i : Nat) (f : α → α) : Vector α n :=
  match t[i]? with
  | some x => t.setIfInBounds i (f x)
  | none => t

/-- The seven device states (03 Table 03-2). -/
inductive DevState where
  | off | dormant | standby | anneal | serving | held | safe
  deriving DecidableEq, Repr

/-- The encoding of a device state in PWR_STATE (03 Table 03-4); OFF is never read. -/
def DevState.code : DevState → Nat
  | .off => 0 | .dormant => 1 | .standby => 2 | .anneal => 3 | .serving => 4 | .held => 5 | .safe => 6

/-- The Damem status codes (05 Table 05-5). -/
inductive Status where
  | ok | busy | busyBooting | fwRestarting | held | deniedEnvelope | badOpcode | badArg | notOwner | timeout
  | precond | aborted | scorerOff | notReady
  deriving DecidableEq, Repr

/-- The value of a status code (05 Table 05-5, 00 R13). -/
def Status.code : Status → Nat
  | .ok => 0 | .busy => 1 | .busyBooting => 2 | .fwRestarting => 3 | .held => 4 | .deniedEnvelope => 5
  | .badOpcode => 6 | .badArg => 7 | .notOwner => 8 | .timeout => 9 | .precond => 10 | .aborted => 11
  | .scorerOff => 12 | .notReady => 13

/-- A path on which requests arrive (05 R201): mailboxes 0 to 16, and MCTP, which is one path for its three bindings. -/
inductive Path where
  | mbx (m : Fin 17)
  | mctp
  deriving DecidableEq, Repr

/-- An MCTP binding (05 R228). -/
inductive Binding where
  | smbus | i3c | vdm
  deriving DecidableEq, Repr

/-- A Damem request as it was posted (05 Table 05-4): the path, the header fields, and the payload bytes up to LEN
(16 bytes of bulk descriptor first when FLAGS.DATA = 1, R198). `bulkIn` is what the bulk buffer holds when the device reads
it, `bulkOk` whether the device can reach the buffer; over MCTP `vendorOk` says that the message carries the device's PCI vendor ID
(R230). -/
structure Req where
  path : Path
  binding : Binding := .smbus
  tag : Nat
  flags : Nat := 0
  len : Nat
  version : Nat := 1
  rsv07 : Nat := 0
  seq : Nat := 0
  rsv0C : Nat := 0
  payload : List Byte
  bulkIn : List Byte := []
  bulkOk : Bool := true
  vendorOk : Bool := true
  deriving DecidableEq, Repr

/-- Byte memory: address and byte pairs, addresses strictly rising (see `Mem.wf` in Machine/Ops.lean). -/
abbrev Mem := List (Nat × BitVec 8)

end Sys2Proof.Machine
end

