-- ==== Sys2Proof/Parts/Analog.lean ====
section
/-! DEFINITION. State of the analog array (chapter 14). Each field's docstring reads: meaning; width; file and rule;
where its reset value comes from. -/
namespace Sys2Proof.Machine

/-- Cell modes (14 Table 14-2). -/
inductive CellMode where
  | off | pga | biquad | comp | rect
  deriving DecidableEq, Repr

/-- Sources of the switch matrix (14 Table 14-3). -/
inductive MatrixSrc where
  | ain (n : Nat)
  | cmp (n : Nat)
  | tach (n : Nat)
  | cell (n : Nat)
  | trim (n : Nat)
  | sine (n : Nat)
  | sense (n : Nat)
  deriving DecidableEq, Repr, Inhabited

/-- Sinks of the switch matrix (14 Table 14-3): a cell's input, an entry of a delta-sigma or SAR converter's scan, the alternate input
of an always-on comparator, a tooth tracker's input. -/
inductive MatrixSink where
  | cellIn (n : Nat)
  | ds (n k : Nat)
  | sar (n k : Nat)
  | cmpAlt (n : Nat)
  | tracker (n : Nat)
  deriving DecidableEq, Repr, Inhabited

/-- A sink and its source, or its differential pair of sources (14 R584). -/
structure Route where
  sink : MatrixSink
  src : MatrixSrc
  neg : Option MatrixSrc := none
  deriving DecidableEq, Repr, Inhabited

/-- An element of the excitation string: the AEXC land that feeds it, its largest resistance in ohms, and whether it is a plate RTD
(14 R589, 02 R53). -/
structure Element where
  land : Nat
  maxOhm : Nat
  plate : Bool := false
  deriving DecidableEq, Repr, Inhabited

/-- An analog cell. -/
structure Cell where
  /-- mode; 3 bits; 14 Table 14-2; DESIGN CHOICE 2 (OFF until the loop program is applied) -/
  mode : CellMode := .off
  /-- PGA gain as a power of two, 0-7; 3 bits; 14 Table 14-2; DESIGN CHOICE 2 -/
  gain : Nat := 0
  /-- COMP threshold; 10 bits; 14 Table 14-2; DESIGN CHOICE 2 -/
  thr : Nat := 0
  /-- COMP hysteresis; 4 bits; 14 Table 14-2; DESIGN CHOICE 2 -/
  hyst : Nat := 0
  /-- RECT reference phase, degrees; 9 bits; 14 Table 14-2; DESIGN CHOICE 2 -/
  phase : Nat := 0
  /-- BIQUAD f0 in Hz and Q in 1/100, as tuned; 2 x 18 bits; 14 Table 14-2; DESIGN CHOICE 2 -/
  f0 : Nat := 0
  q : Nat := 0
  deriving DecidableEq, Repr, Inhabited

/-- A delta-sigma converter (14 Table 14-7). -/
structure DsConv where
  /-- EN; 1 bit; 14 Table 14-7; spec: 0 -/
  en : Bool := false
  /-- REF, true for TOUCH; 1 bit; 14 Table 14-7; spec: 0 -/
  touch : Bool := false
  /-- GAIN; 3 bits; 14 Table 14-7; spec: 0 -/
  gain : Nat := 0
  /-- RATE; 3 bits; 14 Table 14-7; spec: 0 -/
  rate : Nat := 0
  /-- NSCAN; 3 bits; 14 Table 14-7; spec: 0 -/
  nscan : Nat := 0
  /-- AAR_DSn_Sk; 8 x 32 bits; 14 Table 14-7; spec: 0 -/
  sample : Vector Reg32 8 := Vector.replicate 8 0
  /-- conversions that still carry NBR; 4 bits; 14 R595; spec: 0 -/
  nbr : Nat := 0
  /-- withdrawn by Planish; 1 bit; 14 R607; spec: no -/
  cal : Bool := false
  /-- the entry that the scan converts next; 3 bits; 14 R586; spec -/
  next : Nat := 0
  deriving DecidableEq, Repr, Inhabited

/-- A SAR converter (14 R592). -/
structure SarConv where
  /-- scan length, 0 while not configured; 5 bits; 14 R592; DESIGN CHOICE 2 -/
  nscan : Nat := 0
  /-- entry range, true for BI; 16 bits; 14 R592; DESIGN CHOICE 2 -/
  bi : BitVec 16 := 0
  /-- AAR_SARn_Sk; 16 x 32 bits; 14 Table 14-7; spec: 0 -/
  sample : Vector Reg32 16 := Vector.replicate 16 0
  /-- conversions that still carry NBR; 4 bits; 14 R595; spec: 0 -/
  nbr : Nat := 0
  /-- withdrawn by Planish; 1 bit; 14 R607; spec: no -/
  cal : Bool := false
  /-- the entry that the scan converts next; 4 bits; 14 R592; spec -/
  next : Nat := 0
  /-- the loop slot whose samples trigger a scan, none for a scan that runs continuously; 7 bits; 14 R592; DESIGN CHOICE 2 -/
  trigger : Option Nat := none
  /-- a triggered scan is under way; 1 bit; 14 R592; spec: no -/
  armed : Bool := false
  deriving DecidableEq, Repr, Inhabited

/-- An output (14 Table 14-6, 14-7). -/
structure AOut where
  /-- SPAN in force; 2 bits; 14 Table 14-7; spec: 0 OFF -/
  span : Nat := 0
  /-- SLOT, none for 0xFF; 8 bits; 14 Table 14-7; spec: 0xFF -/
  slot : Option Nat := none
  /-- CODE; 16 bits; 14 Table 14-7; spec: 0 -/
  code : Nat := 0
  /-- HOLD (SAFE follows from it and the state of the device): the target span, and the last code written since the SPAN write; 20 bits; 14
  R599; spec: none -/
  hold : Option (Nat × Option Nat) := none
  /-- COMPL_LOST; 1 bit; 14 Table 14-7; spec: 0 -/
  complLost : Bool := false
  /-- CLAMP; 1 bit; 14 Table 14-7; spec: 0 -/
  clamp : Bool := false
  /-- SENSE; 16 bits; 14 Table 14-7; spec: 0 -/
  sense : Nat := 0
  /-- outputs released at boot complete; 1 bit; 04 R132; spec: no -/
  released : Bool := false
  deriving DecidableEq, Repr, Inhabited

/-- A sine generator (14 Table 14-7). -/
structure Sine where
  /-- EN; 1 bit; 14 Table 14-7; spec: 0 -/
  en : Bool := false
  /-- AMPL; 16 bits; 14 Table 14-7; spec: 0 -/
  ampl : Nat := 0
  /-- INC; 32 bits; 14 Table 14-7; spec: 0 -/
  inc : Nat := 0
  deriving DecidableEq, Repr, Inhabited

/-- The analog array. -/
structure Analog where
  /-- AAR_STAT.VLOOP_OK; 1 bit; 14 Table 14-7; spec: 0 -/
  vloopOk : Bool := false
  /-- VLOOP_OK has been 1 for 100 ms, so outputs deliver; 1 bit; 14 R598; spec: no -/
  vloopUse : Bool := false
  /-- AAR_STAT.STRING_OK; 1 bit; 14 Table 14-7; spec: 0 -/
  stringOk : Bool := false
  /-- AAR_STAT.CONV_CAL; 1 bit; 14 Table 14-7; spec: 0 -/
  convCal : Bool := false
  /-- AAR_EXC.EN; 1 bit; 14 Table 14-7; spec: 0 -/
  excEn : Bool := false
  /-- AAR_EXC.CUR; 1 bit; 14 Table 14-7; spec: 0 -/
  excCur : Bool := false
  /-- the string's elements in their order (AAR_EXC.ELEMENTS counts them); at most 4; 14 R589, Table 14-7; spec: 0 -/
  elements : List Element := []
  /-- the 24 cells; 14 Table 14-2; spec -/
  cell : Vector Cell 24 := Vector.replicate 24 {}
  /-- the switch matrix; 14 Table 14-3; DESIGN CHOICE 2 (open) -/
  switches : List Route := []
  /-- DS0-DS3; 14 Table 14-7; spec -/
  ds : Vector DsConv 4 := Vector.replicate 4 {}
  /-- SAR0-SAR1; 14 R592; spec -/
  sar : Vector SarConv 2 := Vector.replicate 2 {}
  /-- AOUT0-AOUT7; 14 Table 14-7; spec -/
  aout : Vector AOut 8 := Vector.replicate 8 {}
  /-- AAR_TRIMn.USE; 4 bits; 14 Table 14-7; spec: 0 -/
  trimUse : Vector Bool 4 := Vector.replicate 4 false
  /-- AAR_TRIMn.CODE; 4 x 12 bits; 14 Table 14-7; spec: 0x800 -/
  trim : Vector Nat 4 := Vector.replicate 4 0x800
  /-- the sine generators; 14 Table 14-7; spec -/
  sine : Vector Sine 2 := Vector.replicate 2 {}
  /-- CMP0-3 read the rectifiers and not the pulses; 1 bit; 14 R604; spec: pulses -/
  ropeRect : Bool := false
  /-- the next pulse on ASINE0 and ASINE1 is negative; 1 bit; 03 R106; DESIGN CHOICE 2 (the first is positive) -/
  pulseNeg : Bool := false
  deriving DecidableEq, Repr, Inhabited

end Sys2Proof.Machine
end

