-- ==== Sys2Proof/Parts/Boot.lean ====
section
/-! DEFINITION. State of the boot chain, the Hallmark store, OTP and the flash (chapter 04), and of live firmware update
(chapter 05). Each field's docstring reads: meaning; width; file and rule; where its reset value comes from. -/
namespace Sys2Proof.Machine

/-- OTP (04 Table 04-7). OTP outlives every reset; log entry 3 says what a device that nothing has burned holds. -/
structure Otp where
  /-- DEV_ID; 64 bits; 04 Table 04-7; DESIGN CHOICE 3 -/
  devId : Nat := 0
  /-- ORDER_CODE; 4 bits; 04 Table 04-7; DESIGN CHOICE 3 -/
  orderCode : Nat := 1
  /-- ROOT_HASH0-3, none while the validity bit is unburned; 4 x 384 bits; 04 Table 04-7; DESIGN CHOICE 3 -/
  rootHash : Vector (Option (List Byte)) 4 := Vector.replicate 4 none
  /-- ROOT_REVOKE; 4 bits; 04 Table 04-7; DESIGN CHOICE 3 -/
  rootRevoke : Vector Bool 4 := Vector.replicate 4 false
  /-- OWN_HASH0-3, none while blank; 4 x 384 bits; 04 Table 04-7; DESIGN CHOICE 3 -/
  ownHash : Vector (Option (List Byte)) 4 := Vector.replicate 4 none
  /-- OWN_REVOKE; 4 bits; 04 Table 04-7; DESIGN CHOICE 3 -/
  ownRevoke : Vector Bool 4 := Vector.replicate 4 false
  /-- FW_SVN thermometer, as its count; 0-64; 04 Table 04-7; DESIGN CHOICE 3 -/
  fwSvn : Nat := 0
  /-- OWN_SVN thermometer, as its count; 0-64; 04 Table 04-7; DESIGN CHOICE 3 -/
  ownSvn : Nat := 0
  /-- DEBUG_PERM; 1 bit; 04 Table 04-7; DESIGN CHOICE 3 -/
  debugPerm : Bool := false
  deriving DecidableEq, Repr, Inhabited

/-- The flash part (04 R134, R135). -/
structure Flash where
  /-- every byte that is not 0xFF; 512 Mbit; 04 Table 04-3; DESIGN CHOICE 3 (erased) -/
  bytes : Mem := []
  /-- size in bytes; 32 bits; 04 R134; DESIGN CHOICE 3 (the least size the rule allows) -/
  size : Nat := 0x4000000
  /-- the part needs the 3.3 V bank; 1 bit; 02 Table 02-12; DESIGN CHOICE 3 -/
  volts33 : Bool := false
  /-- the SFDP table is present and readable; 1 bit; 04 R134; DESIGN CHOICE 3 -/
  sfdp : Bool := true
  /-- SFDP offers 1-1-4 read; 1 bit; 04 R134; DESIGN CHOICE 3 -/
  quad : Bool := true
  deriving DecidableEq, Repr, Inhabited

/-- The sealed envelope, the HMK_ registers (04 Table 04-8). -/
structure Hmk where
  /-- HMK_SEAL.SEAL; 1 bit; 04 R153; spec: 0 -/
  sealed : Bool := false
  /-- HMK_ENV_ID; 32 bits; 04 R154; spec: 0 (read before any seal, as the held envelope) -/
  envId : Reg32 := 0
  /-- HMK_LIMITS; 32 bits; 04 Table 04-9; spec: 0 -/
  limits : Reg32 := 0
  /-- HMK_TAGS; 32 bits; 04 R148; spec: 0 -/
  tags : Reg32 := 0
  /-- HMK_COOL; 32 bits; 04 Table 04-10; spec: 0 -/
  cool : Reg32 := 0
  /-- HMK_LASER; 32 bits; 04 R149; spec: 0 -/
  laser : Reg32 := 0
  /-- HMK_ROLE; 32 bits; 04 Table 04-11; spec: 0 -/
  role : Reg32 := 0
  /-- HMK_FILPIN0-2; 3 x 32 bits; 04 R151; spec: 0 -/
  filpin : Vector Reg32 3 := Vector.replicate 3 0
  /-- HMK_VFv_CEIL0, v = 1-16; 16 x 32 bits; 04 Table 04-12; spec: 0 -/
  ceil0 : Vector Reg32 16 := Vector.replicate 16 0
  /-- HMK_VFv_CEIL1, v = 1-16; 16 x 32 bits; 04 Table 04-13; spec: 0 -/
  ceil1 : Vector Reg32 16 := Vector.replicate 16 0
  deriving DecidableEq, Repr, Inhabited

/-- Where a boot stands (04 R126, R128). -/
inductive BootPhase where
  /-- no boot in progress: held in reset, or boot ended -/
  | idle
  /-- cold boot waiting for the straps to be sampled (02 R72) -/
  | strapWait
  /-- board test: STRAP_TAP high, the device does not boot (02 Table 02-12) -/
  | boardTest
  /-- boot code runs -/
  | code
  /-- firmware runs and boot complete is not reached -/
  | firmware
  deriving DecidableEq, Repr

/-- One entry of the directory (04 R137). -/
structure DirEntry where
  trial : Bool := false
  lgValid : Bool := false
  lastGood : Bool := false
  active : Bool := false
  deriving DecidableEq, Repr, Inhabited

/-- A directory copy as decoded (04 Table 04-4). -/
structure Directory where
  seq : Nat := 0
  /-- entries FW, ENV, ROW, LOOP, FIL -/
  ent : Vector DirEntry 5 := Vector.replicate 5 {}
  provReq : Nat := 0
  fwSvnReq : Nat := 0
  ownSvnReq : Nat := 0
  provHash : List Byte := List.replicate 48 0
  deriving DecidableEq, Repr, Inhabited

/-- HMK_BOOT_STAT and the progress of a boot. -/
structure Boot where
  /-- HMK_BOOT_STAT.COLD_NEEDED; 1 bit; 04 Table 04-14; spec: 0 -/
  coldNeeded : Bool := false
  /-- HMK_BOOT_STAT.STAGE; 4 bits; 04 Table 04-14; spec: 0 -/
  stage : Nat := 0
  /-- HMK_BOOT_STAT.REASON; 8 bits; 04 Table 04-14; spec: 0 -/
  reason : Nat := 0
  /-- HMK_BOOT_STAT.DETAIL; 8 bits; 04 Table 04-14; spec: 0 -/
  detail : Nat := 0
  /-- HMK_BOOT_STAT.COPY; 1 bit; 04 Table 04-14; spec: 0 -/
  copy : Bool := false
  /-- HMK_BOOT_STAT.FW_SLOT; 1 bit; 04 Table 04-14; spec: 0 -/
  fwSlot : Bool := false
  /-- HMK_BOOT_STAT.CMP_ENV; 1 bit; 04 Table 04-14; spec: 0 -/
  cmpEnv : Bool := false
  /-- where the boot stands; model data; 04 R126; spec -/
  phase : BootPhase := .idle
  /-- the boot in progress is a recovery boot; 1 bit; 04 R128; spec -/
  recovery : Bool := false
  /-- boot complete reached since the last boot began; 1 bit; 04 R126; spec -/
  complete : Bool := false
  /-- the directory copy in use, 0 or 1, none where no copy is in use; 2 bits; 04 R138; spec: none -/
  dirInUse : Option Bool := none
  /-- the device's own copy of the directory in use; 84 bytes; 04 R138, 05 R216; DESIGN CHOICE 2 -/
  dir : Directory := {}
  /-- the row configuration image passed in the last boot; 1 bit; 04 R145; spec -/
  rowOk : Bool := false
  /-- what the flash answered at the last boot: usable; 1 bit; 04 R158, 19 R761; spec -/
  flashUsable : Bool := false
  /-- the 2 s watchdog runs, from firmware start; 1 bit; 04 R133; spec -/
  watchdog : Bool := false
  /-- debug token accepted since cold reset; 1 bit; 04 R150; spec: none -/
  debugToken : Bool := false
  /-- FW_VER of the running firmware, 0 until firmware runs; 32 bits; 21 Table 21-4; spec: 0 -/
  fwVer : Nat := 0
  /-- COMPAT of the running firmware; 16 bits; 21 Table 21-4; spec: 0 -/
  compat : Nat := 0
  /-- BODY_DIGEST of the firmware image in SRAM, recorded as it starts; 384 bits; 08 R346; spec: none until firmware runs -/
  fwDigest : List Byte := []
  deriving DecidableEq, Repr, Inhabited

/-- A live hand-over in progress (05 Table 05-15). -/
structure Handover where
  /-- target slot; 1 bit; 05 R223; n/a -/
  slot : Bool
  /-- slot to fall back to; 1 bit; 05 R225; n/a -/
  old : Bool
  /-- TRIAL_S of the request; 16 bits; 05 R226; n/a -/
  trialS : Nat
  /-- the roll-back runs; 1 bit; 05 R225; n/a -/
  rollback : Bool
  /-- uptime of the acceptance; 48 bits; 05 Table 05-15; n/a -/
  began : Nat
  /-- uptime of the quiesce, none while the old firmware still serves; 48 bits; 05 Table 05-15; n/a -/
  quiesceAt : Option Nat
  deriving DecidableEq, Repr

/-- Live update and Assay restarts (05 R222-R227). -/
structure Update where
  /-- hand-over in progress; model data; 05 R223; spec: none -/
  handover : Option Handover := none
  /-- a trial runs since a live hand-over; 1 bit; 05 R226; spec: none -/
  trial : Bool := false
  /-- TRIAL_S of the trial; 16 bits; 05 R226; spec -/
  trialS : Nat := 0
  /-- the Assay core restarts (MBX_STAT.RESTARTING); 1 bit; 05 R227, Table 05-3; spec: 0 -/
  restarting : Bool := false
  /-- uptime at which the latest restart began; 48 bits; 08 R346; spec: none -/
  restartAt : Nat := 0
  /-- the firmware image in SRAM does not match its recorded digest, and is reloaded; 1 bit; 08 R346; spec: no -/
  reload : Bool := false
  deriving DecidableEq, Repr, Inhabited

/-- The row configuration body (04 Table 04-19). -/
structure RowCfg where
  /-- ROW_SIZE; 8 bits; 04 Table 04-19; DESIGN CHOICE 2 (no row image is read at reset) -/
  rowSize : Nat := 2
  /-- POSITION; 8 bits; 04 Table 04-19; DESIGN CHOICE 2 -/
  position : Nat := 0
  /-- START; 3 bits; 04 Table 04-19; DESIGN CHOICE 2 -/
  start : DevState := .standby
  /-- FLAGS.WAKE_WARN; 1 bit; 04 Table 04-19; DESIGN CHOICE 2 -/
  wakeWarn : Bool := false
  /-- FLAGS.SCORER_EN; 1 bit; 04 Table 04-19; DESIGN CHOICE 2 -/
  scorerEn : Bool := false
  /-- MCTP_ADDR as used (0 stands for 0x2C); 7 bits; 04 Table 04-19; spec: default 0x2C -/
  mctpAddr : Nat := 0x2C
  /-- SMB_RATE; 8 bits; 04 Table 04-19; DESIGN CHOICE 2 -/
  smbRate : Nat := 0
  /-- DEGRADE_MIN; 8 bits; 10 Table 10-1; spec: 48 -/
  degradeMin : Nat := 48
  /-- XTAL_OFS; 16 bits signed; 04 Table 04-19; DESIGN CHOICE 2 -/
  xtalOfs : Int := 0
  /-- XTAL_PARA; 16 bits signed; 04 Table 04-19; DESIGN CHOICE 2 -/
  xtalPara : Int := 0
  /-- XTAL_TURN; 16 bits; 04 Table 04-19; DESIGN CHOICE 2 -/
  xtalTurn : Nat := 0
  /-- FALLBACK_W; 16 bits; 04 Table 04-19; DESIGN CHOICE 2 -/
  fallbackW : Nat := 0
  /-- WARM limit in force (0 stands for 500); 16 bits; 04 Table 04-19; spec: default 500 W -/
  warmW : Nat := 500
  /-- IDLE_S; 16 bits; 04 Table 04-19; DESIGN CHOICE 2 -/
  idleS : Nat := 0
  /-- THRESH of groups 0-4 as written; 5 x 32 bits; 04 Table 04-19; spec: 0 takes the default -/
  thresh : Vector Reg32 5 := Vector.replicate 5 0
  /-- PLN_INT as written; 12 x 32 bits; 04 Table 04-19; spec: 0 takes the default -/
  plnInt : Vector Nat 12 := Vector.replicate 12 0
  /-- FLOW_DEV in force; 16 bits; 04 Table 04-19; spec: default 2.00 L/min -/
  flowDev : Nat := 200
  /-- RET_RISE in force; 16 bits; 04 Table 04-19; spec: default 12.00 K -/
  retRise : Nat := 1200
  /-- HX_MAX; 16 bits; 04 Table 04-19; DESIGN CHOICE 2 -/
  hxMax : Nat := 0
  /-- MARGIN in force; 16 bits; 04 Table 04-19; spec: default 5.0 % -/
  margin : Nat := 50
  /-- K_C in force; 16 bits; 04 Table 04-19; spec: default 4,153 -/
  kC : Nat := 4153
  /-- SUPPLY_DEF; 16 bits; 04 Table 04-19; DESIGN CHOICE 2 -/
  supplyDef : Nat := 0
  /-- SUPPLY_SLEW in force; 16 bits; 04 Table 04-19; spec: default 50 -/
  supplySlew : Nat := 50
  /-- ROPE[n].POS_MASK; 4 x 64 bits; 04 Table 04-19; DESIGN CHOICE 2 -/
  ropePos : Vector Nat 4 := Vector.replicate 4 0
  /-- ROPE[n].VALVE_MASK; 4 x 8 bits; 04 Table 04-19; DESIGN CHOICE 2 -/
  ropeValve : Vector Nat 4 := Vector.replicate 4 0
  /-- ROPE[n].FLAGS.ISOLATE; 4 x 1 bit; 04 Table 04-19; DESIGN CHOICE 2 -/
  ropeIsolate : Vector Bool 4 := Vector.replicate 4 false
  /-- PINFN[n]; 48 x 8 bits; 04 Table 04-19; DESIGN CHOICE 2 -/
  pinFn : Vector Nat 48 := Vector.replicate 48 0
  /-- RATE[i] as (CODE, B, R); up to 1,024 entries; 04 Table 04-19; spec: none, the defaults hold -/
  rates : List (Nat × Nat × Nat) := []
  deriving DecidableEq, Repr, Inhabited

end Sys2Proof.Machine
end

