-- ==== Sys2Proof/Parts/Compute.lean ====
section
/-! DEFINITION. State of partitions, rings, sheets (chapter 06), Moulds and thread groups (chapters 07 and 08), memory,
translation and tallies (chapter 09). Each field's docstring reads: meaning; width; file and rule; where its reset
value comes from. -/
namespace Sys2Proof.Machine

/-- Partition states, codes of 06 Table 06-3. -/
inductive PState where
  | none | stopped | starting | started | draining | aborting | resetting
  deriving DecidableEq, Repr

/-- Why a sheet was stopped: the DETAIL of an ABORTED completion with TRAP = 0 (06 Table 06-10). -/
inductive StopCause where
  | abort | drainDeadline | reset | flr | perst | safe | mouldFailure | fault
  deriving DecidableEq, Repr

/-- A loaded kernel image (06 Table 06-5). -/
structure KImage where
  /-- device number of the granule that holds it in its last 16 MiB; 7 bits; 06 R255; n/a -/
  granule : Nat
  /-- ENTRY_TABLE; up to 4,096 offsets; 06 Table 06-5; n/a -/
  entries : List Nat
  /-- CODE; up to 16 MiB; 06 Table 06-5; n/a -/
  code : List Byte
  /-- length of the whole image; 25 bits; 06 R255; n/a -/
  total : Nat
  deriving DecidableEq, Repr

/-- One queued translation invalidation (09 R384): all translations, or `count` pages of 64 KiB from `vpn`. -/
structure Inval where
  all : Bool
  vpn : Nat
  count : Nat
  deriving DecidableEq, Repr

/-- A partition (06 Table 06-2, 06-14; 09 Tables 09-4 and 09-9). -/
structure Part where
  /-- STATE; 3 bits; 06 Table 06-14; spec: 0 None -/
  state : PState := .none
  /-- EPOCH; 16 bits; 06 Table 06-14; spec: 0 -/
  epoch : Nat := 0
  /-- FAULTED; 1 bit; 06 Table 06-14; spec: 0 -/
  faulted : Bool := false
  /-- CAUSE; 4 bits; 06 Table 06-14; spec: 0 -/
  cause : Nat := 0
  /-- RNG_PART_LATE; 32 bits; 06 Table 06-14; spec: 0 -/
  late : Nat := 0
  /-- Moulds held at present, in the order of grant; 16 units; 06 R243; spec: none -/
  moulds : List Nat := []
  /-- stacked SRAM slices, by rank; 48 units; 09 R375; spec: none -/
  slices : List Nat := []
  /-- HBM granules, by rank; 96 units; 09 R375; spec: none -/
  granules : List Nat := []
  /-- rings held; 64 units; 06 R243; spec: none -/
  rings : List Nat := []
  /-- tally groups held; 32 units; 06 R243; spec: none -/
  tallies : List Nat := []
  /-- CHL shares; 7 bits; 06 R244; spec: 0 -/
  chl : Nat := 0
  /-- WMK shares; 7 bits; 06 R244; spec: 0 -/
  wmk : Nat := 0
  /-- row partition tag; 16 bits; 05 Table 05-10; spec: 0 -/
  tag : Nat := 0
  /-- POLICY.OPTICAL; 1 bit; 05 Table 05-10; spec: 0 -/
  optical : Bool := false
  /-- POLICY.FALLBACK; 1 bit; 05 Table 05-10; spec: 0 -/
  fallback : Bool := false
  /-- DRAIN_MS; 16 bits; 05 Table 05-10; spec: 0 -/
  drainMs : Nat := 0
  /-- kernel image; 16 MiB; 06 R255; spec: none -/
  image : Option KImage := none
  /-- memory lost since the partition last ran, to be cleared before first use; 1 bit; 03 R90; spec -/
  memLost : Bool := false
  /-- intake stopped: Chainline requests that arrive are answered ABORTED; 1 bit; 06 R273; spec -/
  intakeOff : Bool := true
  /-- what the remaining sheets complete with when the stop in progress escalates; model data; 06 R274; spec: none -/
  stopCause : Option StopCause := none
  /-- sheets completed normally since the stop was accepted; 32 bits; 05 Table 05-9; spec: 0 -/
  done : Nat := 0
  /-- sheets completed ABORTED since the stop was accepted; 32 bits; 05 Table 05-9; spec: 0 -/
  aborted : Nat := 0
  /-- the ring whose sheet started dispatch last (round robin); 6 bits; 06 R269; DESIGN CHOICE 2 -/
  lastRing : Nat := 63
  /-- sheets that have started dispatch, which orders their groups; model data; 07 R294; n/a -/
  starts : Nat := 0
  /-- RNG_XLT_ROOT.EN; 1 bit; 09 Table 09-4; spec: 0 -/
  xltEn : Bool := false
  /-- RNG_XLT_ROOT_LO and _HI: PPA[47:12] of the level 0 table; 36 bits; 09 Table 09-4; spec: 0 -/
  xltRoot : Nat := 0
  /-- RNG_XLT_INV_LO and _HI: VA[47:16]; 32 bits; 09 Table 09-4; spec: 0 -/
  invVa : Nat := 0
  /-- invalidations queued or running, oldest first, at most 16 (PENDING is their number); 16 entries; 09 R384; spec: none -/
  invQ : List Inval := []
  /-- RNG_XLT_INV_SEQ.DONE; 16 bits; 09 Table 09-4; spec: 0 -/
  invDone : Nat := 0
  /-- RNG_XLT_BAD; 32 bits; 09 Table 09-4; spec: 0 -/
  xltBad : Nat := 0
  /-- RNG_XLT_BARMISS; 32 bits; 09 Table 09-4; spec: 0 -/
  barMiss : Nat := 0
  /-- RNG_XLT_INVLOST; 32 bits; 09 Table 09-4; spec: 0 -/
  invLost : Nat := 0
  /-- TLY_STAT.TIMEOUTS; 32 bits; 09 Table 09-9; spec: 0 -/
  timeouts : Nat := 0
  /-- Bus Master Enable of VF p + 1; 1 bit; 06 Table 06-12; DESIGN CHOICE 2 (PCI resets it to 0) -/
  busMaster : Bool := false
  deriving DecidableEq, Repr, Inhabited

/-- A completion (06 Table 06-9), without PHASE and SPILLED, which its place gives. -/
structure Completion where
  userId : Nat
  subIndex : Nat
  status : Status
  detail : Nat
  trap : Bool
  digital : Bool
  viaOvf : Bool
  elapsed : Nat
  irq : Bool
  /-- uptime at which the entry came into overflow (06 R265) -/
  since : Nat
  /-- its write to host memory meets a DMA error (06 Table 06-12) -/
  dmaErr : Bool := false
  deriving DecidableEq, Repr

/-- The kinds of a sheet (06 Table 06-8). -/
inductive SheetKind where
  | kernel | fence | nop
  deriving DecidableEq, Repr

/-- A sheet as accepted, with what has become of it (06 Table 06-8, R272). -/
structure Sheet where
  kind : SheetKind
  barrier : Bool
  irq : Bool
  sigAny : Bool
  entry : Nat
  userId : Nat
  gridX : Nat
  gridY : Nat
  gridZ : Nat
  args : Nat
  stackKib : Nat
  scratchKib : Nat
  waitTally : Nat
  signalTally : Nat
  waitValue : Nat
  signalValue : Nat
  deadlineUs : Nat
  /-- SUB_INDEX -/
  subIndex : Nat
  /-- uptime of acceptance -/
  acceptedAt : Nat
  /-- dispatch has begun -/
  started : Bool := false
  /-- thread groups dispatched so far, in the linear order of 07 R294 -/
  dispatched : Nat := 0
  /-- thread groups that have ended -/
  ended : Nat := 0
  /-- its place in the order in which the partition's sheets started dispatch (07 R294) -/
  order : Nat := 0
  /-- the wait on WAIT_TALLY has been satisfied (09 R397) -/
  waitOk : Bool := false
  /-- some scoring ran digitally (completion FLAGS.DIGITAL) -/
  digital : Bool := false
  /-- stopped: the DETAIL of a stop -/
  stop : Option StopCause := none
  /-- TIMEOUT: its DETAIL -/
  timeout : Option Nat := none
  /-- first trap that killed a group: its code -/
  trap : Option Nat := none
  /-- a request reached no peer: row position of the peer -/
  notReady : Option Nat := none
  /-- a tally not owned or a target that refused: DETAIL -/
  notOwner : Option Nat := none
  /-- the optical path was off with FALLBACK = 0 -/
  scorerOff : Bool := false
  /-- the write of its completion will meet a DMA error (06 Table 06-12): what the outside does with it -/
  dmaErr : Bool := false
  deriving DecidableEq, Repr

/-- A ring (06 Tables 06-6 and 06-7). -/
structure Ring where
  /-- SETUP; 1 bit; 06 Table 06-7; spec: 0 -/
  setup : Bool := false
  /-- DISABLED; 1 bit; 06 Table 06-7; spec: 0 -/
  disabled : Bool := false
  /-- INTAKE; 1 bit; 06 Table 06-7; spec: 0 -/
  intake : Bool := false
  /-- DMA_ERR; 1 bit; 06 Table 06-7; spec: 0 -/
  dmaErr : Bool := false
  /-- CREDIT_OUT; 1 bit; 06 Table 06-7; spec: 0 -/
  creditOut : Bool := false
  /-- SPILLING; 1 bit; 06 Table 06-7; spec: 0 -/
  spilling : Bool := false
  /-- OVERDUE; 1 bit; 06 Table 06-7; spec: 0 -/
  overdue : Bool := false
  /-- RNG_SUB_PI; 32 bits; 06 Table 06-6; spec: 0 -/
  subPi : Nat := 0
  /-- RNG_CPL_CI; 32 bits; 06 Table 06-6; spec: 0 -/
  cplCi : Nat := 0
  /-- RNG_SPILL_CI; 32 bits; 06 Table 06-6; spec: 0 -/
  spillCi : Nat := 0
  /-- RNG_SUB_CI; 32 bits; 06 Table 06-6; spec: 0 -/
  subCi : Nat := 0
  /-- RNG_CPL_PI; 32 bits; 06 Table 06-6; spec: 0 -/
  cplPi : Nat := 0
  /-- RNG_SPILL_PI; 32 bits; 06 Table 06-6; spec: 0 -/
  spillPi : Nat := 0
  /-- RNG_DISCARD; 32 bits; 06 Table 06-6; spec: 0 -/
  discard : Nat := 0
  /-- RNG_BAD_DB; 32 bits; 06 Table 06-6; spec: 0 -/
  badDb : Nat := 0
  /-- LOG2_ENTRIES; 5 bits; 05 Table 05-9; spec: 0 until set up -/
  log2 : Nat := 0
  /-- SPILL_EN; 1 bit; 05 Table 05-9; spec: 0 until set up -/
  spillEn : Bool := false
  /-- SPILL_LOG2; 5 bits; 05 Table 05-9; spec: 0 until set up -/
  spillLog2 : Nat := 0
  /-- MSIX_VEC; 16 bits; 05 Table 05-9; spec: 0 until set up -/
  msix : Nat := 0
  /-- SUB_BASE; 64 bits; 05 Table 05-9; spec: 0 until set up -/
  subBase : Nat := 0
  /-- CPL_BASE; 64 bits; 05 Table 05-9; spec: 0 until set up -/
  cplBase : Nat := 0
  /-- SPILL_BASE; 64 bits; 05 Table 05-9; spec: 0 until set up -/
  spillBase : Nat := 0
  /-- DRAIN_BOUND_US; 32 bits; 05 Table 05-9; spec: 0 until set up -/
  drainBound : Nat := 0
  /-- the overflow reserve, oldest first (RNG_OVF is its length); 4,096 x 16 bytes; 06 R262; spec: empty -/
  overflow : List Completion := []
  /-- accepted sheets without a completion, oldest first; model data; 06 R260; spec: none -/
  sheets : List Sheet := []
  deriving DecidableEq, Repr, Inhabited

/-- A save slot (08 Table 08-3). -/
structure SaveSlot where
  kind : Nat := 0
  inHandler : Bool := false
  copyFault : Bool := false
  parked : Bool := false
  faultPc : Nat := 0
  faultAddr : Nat := 0
  faultMask : BitVec 32 := 0
  active : BitVec 32 := 0
  live : BitVec 32 := 0
  barrier : BitVec 32 := 0
  /-- INSTR, 16 bytes as one number -/
  instr : Nat := 0
  sp : Nat := 0
  handler : Nat := 0
  pred : Vector (BitVec 32) 8 := Vector.replicate 8 0
  pc : Vector Nat 32 := Vector.replicate 32 0
  sreg : Vector Reg32 64 := Vector.replicate 64 0
  deriving DecidableEq, Repr, Inhabited

/-- A bulk copy between partition memory and scratch (07 R316). -/
structure Copy where
  toScratch : Bool
  scratch : Nat
  va : Nat
  len : Nat
  /-- code offset of the MCOPY -/
  pc : Nat
  /-- which copy of its group this is, in issue order: the answers to its requests name it -/
  id : Nat := 0
  /-- requests over Chainline that have not been answered (09 R388) -/
  pending : Nat := 0
  /-- the fault that the covering CWAIT traps on: kind, address, replayable (07 R316, 08 R334) -/
  fault : Option (Nat × Nat × Bool) := none
  deriving DecidableEq, Repr

/-- What becomes of the answer to a remote request of a thread group. -/
inductive Dest where
  /-- elements to lanes of a vector register: register, (lane, byte offset in the answer), bytes, sign extension -/
  | load (rd : Nat) (lanes : List (Nat × Nat)) (bytes : Nat) (signed : Bool)
  | copy (c : Copy)
  | store
  | atomic (rd lane bytes : Nat)
  | tally (sreg : Option Nat)
  | watch
  | none
  deriving DecidableEq, Repr

/-- What a remote access of a group still waits for: where its answer goes, and the instruction that made it: the code offset, and
the encoding for the save slot (07 R297, 08 R336). -/
structure Pend where
  dest : Dest
  pc : Nat
  raw : Nat
  deriving DecidableEq, Repr

/-- A tally wait of a group (09 R395). -/
structure TallyWait where
  tally : Nat
  row : Option Nat
  eq : Bool
  operand : Nat
  /-- polling, because the home device answered FULL (09 R397) -/
  polling : Bool
  deriving DecidableEq, Repr

/-- What holds a group back (07 R297). -/
inductive GWait where
  | none
  /-- waits until every earlier matrix instruction on the handle has ended (MWAIT, MREL) -/
  | matrix (h : Nat)
  /-- waits for a tile (MACQ) -/
  | tile (h : Nat)
  /-- waits for a wide accumulator (WACQ) -/
  | wide (h : Nat)
  /-- CWAIT: at most `n` copies outstanding; the length and encoding of the CWAIT, and the threads that executed it, which advance
  when it is satisfied -/
  | copies (n len raw : Nat) (set : BitVec 32)
  /-- a ninth MCOPY -/
  | copySlot (c : Copy)
  /-- TWAIT -/
  | tally (w : TallyWait)
  /-- SWAIT: at most `n` batches outstanding -/
  | score (n : Nat)
  /-- a SCORE that finds four batches outstanding or the optical queue full (10 R420) -/
  | scoreRoom
  deriving DecidableEq, Repr

/-- A resident thread group (07 R292-R304, 08 R336). -/
structure Group where
  part : Nat
  ring : Nat
  subIndex : Nat
  /-- place in the linear order of 07 R294 -/
  number : Nat
  x : Nat
  y : Nat
  z : Nat
  vregBlocks : Nat
  matrix : Bool
  /-- scratch: its granules of 16 KiB in the Mould's scratch, in the order of its offsets; bytes of SCRATCH_KIB, bytes of STACK_KIB -/
  gran : List Nat
  scratchBytes : Nat
  stackBytes : Nat
  /-- vector registers: one row of 32 threads each -/
  vreg : List (Vector Reg32 32)
  sreg : Vector Reg32 64
  pred : Vector (BitVec 32) 8
  pc : Vector Nat 32
  /-- threads that have not exited -/
  live : BitVec 32
  /-- threads waiting at BAR.G -/
  barrier : BitVec 32
  /-- the starvation escape's set while it holds (07 R302), with its issues so far -/
  escape : Option (BitVec 32 × Nat) := none
  /-- consecutive issues with the same non-empty set of live threads outside the active set (07 R302) -/
  starve : Nat := 0
  /-- that set, and the set that issued last -/
  outside : BitVec 32 := 0
  last : BitVec 32 := 0
  /-- tile handles a0, a1: tile numbers -/
  tiles : Vector (Option Nat) 2 := Vector.replicate 2 none
  /-- wide-accumulator handles w0-w3 -/
  wides : Vector (Option Nat) 4 := Vector.replicate 4 none
  /-- copies outstanding, oldest first, at most 8 -/
  copies : List Copy := []
  /-- copies started so far -/
  copySeq : Nat := 0
  wait : GWait := .none
  /-- remote accesses whose answers have not come, oldest first (07 R297, 09 R388) -/
  pending : List Pend := []
  /-- an acquire follows the remote answers that the group waits for (09 R391) -/
  acq : Bool := false
  /-- the addresses of the instruction that a parked group replays (08 R344) -/
  parkVas : List Nat := []
  save : SaveSlot := {}
  deriving DecidableEq, Repr

/-- An accumulator tile (07 Table 07-1): who holds it, and its 128 x 128 FP32 elements, row-major. -/
structure Tile where
  /-- group slot and handle that hold the tile; 5 bits; 07 R309; spec: free -/
  holder : Option (Nat × Nat) := none
  /-- elements, row-major, none given before the first write after MACQ; 64 KiB; 07 Table 07-1; spec: not given -/
  data : List Reg32 := []
  /-- the free values that such elements read as (log entry 7); model data; 07 R309; n/a -/
  seed : Nat := 0
  deriving DecidableEq, Repr, Inhabited

/-- One lane of a wide accumulator (08 Table 08-7). -/
structure Lane where
  sum : BitVec 320 := 0
  count : Nat := 0
  nan : Bool := false
  pinf : Bool := false
  ninf : Bool := false
  ovf : Bool := false
  bound : Bool := false
  deriving DecidableEq, Repr, Inhabited

/-- A wide accumulator (08 R355). -/
structure Wide where
  /-- group slot and handle that hold it; 6 bits; 08 R355; spec: free -/
  holder : Option (Nat × Nat) := none
  /-- lanes; 32 x 56 bytes; 08 Table 08-7; spec: zeroed when acquired -/
  lanes : Vector Lane 32 := Vector.replicate 32 {}
  deriving DecidableEq, Repr, Inhabited

/-- A floating-point format of the device (08 Tables 08-4, R352). -/
inductive Fmt where
  | fp32 | bf16 | e4m3 | e5m2 | pb8 | pb4
  deriving DecidableEq, Repr

/-- A matrix instruction in the unit (07 Table 07-4). -/
inductive MatOp where
  | zero
  | load (off : Nat)
  | mma (fa fb : Fmt) (aOff bOff k bExp : Nat)
  | store (f : Fmt) (off : Nat)
  /-- the tile is released in its turn (MREL) -/
  | rel
  deriving DecidableEq, Repr

/-- A matrix instruction queued for a group's handle. -/
structure MatEntry where
  slot : Nat
  handle : Nat
  tile : Nat
  op : MatOp
  deriving DecidableEq, Repr

/-- A quarter of a Mould. -/
structure Quarter where
  /-- resident groups by slot; 16 slots; 07 R293; spec: none -/
  slots : Vector (Option Group) 16 := Vector.replicate 16 none
  /-- accumulator tiles; 4 x 64 KiB; 07 R309; spec: free -/
  tiles : Vector Tile 4 := Vector.replicate 4 {}
  /-- wide accumulators; 16; 08 R355; spec: free -/
  wides : Vector Wide 16 := Vector.replicate 16 {}
  /-- groups waiting for a tile, as (slot, handle), FIFO; 07 R309; spec: none -/
  tileQ : List (Nat × Nat) := []
  /-- groups waiting for a wide accumulator, FIFO; 08 R355; spec: none -/
  wideQ : List (Nat × Nat) := []
  /-- the matrix unit: the executing instruction first, then a queue of two; 3 entries; 07 R312; spec: none -/
  matrix : List MatEntry := []
  /-- the slot that issued last; 4 bits; 07 R298; DESIGN CHOICE 2 -/
  lastSlot : Nat := 15
  deriving DecidableEq, Repr, Inhabited

/-- MLD_STAT.STATE (07 Table 07-6). -/
inductive MState where
  | free | stopped | running | selfTest | retired
  deriving DecidableEq, Repr

/-- A translation that a Mould caches: of a page, or of the part of the address space that a table covers (09 R382). -/
structure XEntry where
  part : Nat
  /-- the level of the table that the entry leads to; none for a page -/
  table : Option Nat := none
  /-- the bits of the VA that the page or the table has in common; VA[47:16] for a page of 64 KiB -/
  vpn : Nat
  /-- PPA of that page or table -/
  ppa : Nat
  w : Bool
  deriving DecidableEq, Repr

/-- A Mould. -/
structure Mould where
  /-- MLD_STAT.STATE; 3 bits; 07 Table 07-6; spec: 0b000 free -/
  state : MState := .free
  /-- MLD_STAT.PART, none for 0xFF; 8 bits; 07 Table 07-6; spec: 0xFF -/
  part : Option Nat := none
  /-- MLD_CLK.MULT; 8 bits; 07 Table 07-6; spec: 0 -/
  mult : Nat := 0
  /-- MLD_CLK.MULT_MAX; 8 bits; 07 Table 07-6; spec: 156 -/
  multMax : Nat := 156
  /-- MLD_STAT.THROTTLE; 5 bits; 07 Table 07-6; spec: 0 -/
  throttle : Nat := 0
  /-- M_ref of the throttle; 8 bits; 13 R547; spec: set at entry -/
  mref : Nat := 0
  /-- the throttle is being released; 1 bit; 13 R547; spec -/
  releasing : Bool := false
  /-- sr.cycle: Mould cycles since cold reset; 64 bits; 07 Table 07-3; spec: 0 -/
  cycles : Nat := 0
  /-- part of a cycle that has gone by, in 1/8,192; 13 bits; 07 Table 07-3, R320; spec: 0 -/
  cycFrac : Nat := 0
  /-- the four quarters; 07 Table 07-1; spec -/
  q : Vector Quarter 4 := Vector.replicate 4 {}
  /-- scratch, bytes that are not 0; 8 MiB; 07 R315; spec: zeroed for a new partition -/
  scratch : Mem := []
  /-- cached translations, newest first, at most 2,048; 09 R382; spec: none -/
  xlt : List XEntry := []
  /-- load cache lines as (device sector, 64 bytes), newest first; 09 R390; DESIGN CHOICE 2 (empty) -/
  lcache : List (Nat × List Byte) := []
  /-- the partition the Mould was removed from, to return to it after a passed self-test; 4 bits; 06 R281; spec: none -/
  removedFrom : Option Nat := none
  /-- its place in the order of grants, later grants higher; a Mould back from its self-test keeps it; model data; 06 R254; n/a -/
  rank : Nat := 0
  deriving DecidableEq, Repr, Inhabited

/-- Memory of the compute die (09 Table 09-2), by device physical address. -/
structure Memory where
  /-- bytes that are not 0; 192 GiB + 1,536 MiB; 09 Table 09-2; DESIGN CHOICE 4 (unlisted bytes read 0) -/
  bytes : Mem := []
  /-- marked blocks of 64 KiB, as (first block, number of blocks); 06 R253; spec: none -/
  marked : List (Nat × Nat) := []
  /-- poisoned 64-byte sectors; 09 R373; spec: none -/
  poisoned : List Nat := []
  /-- rows with one correctable error, as (row key, uptime); 06 R282, 09 R374; spec: none -/
  rowErrors : List (Nat × Nat) := []
  /-- spare rows used of each slice, of 128; 48 counts; 06 R282; spec: 0 -/
  spareUsed : Vector Nat 48 := Vector.replicate 48 0
  /-- HBM rows repaired, reapplied at each power-up; 09 R374; spec: none -/
  hbmRepairs : List Nat := []
  /-- HBM banks with no spare row left; 09 R374; DESIGN CHOICE 2 -/
  hbmExhausted : List Nat := []
  /-- HBM is in self-refresh; 1 bit; 09 R372; spec: not powered -/
  selfRefresh : Bool := false
  /-- the refresh rate is doubled, by stack; 8 bits; 09 R372; spec -/
  refresh2 : Vector Bool 8 := Vector.replicate 8 false
  deriving DecidableEq, Repr, Inhabited

/-- A watch registered at its home device (09 R397). -/
structure Watch where
  tally : Nat
  eq : Bool
  operand : Nat
  /-- row position of the waiter and its request identity -/
  src : Nat
  reqId : Nat
  epoch : Nat
  strand : Nat
  srcPart : Nat
  deriving DecidableEq, Repr

/-- The tallies (09 Table 09-9). -/
structure Tallies where
  /-- TLY_VALn; 512 x 32 bits; 09 Table 09-9; spec: 0 -/
  val : Vector Reg32 512 := Vector.replicate 512 0
  /-- TLY_CFGg.TIMEOUT_MS; 32 x 16 bits; 09 Table 09-9; spec: 0 -/
  cfg : Vector Nat 32 := Vector.replicate 32 0
  /-- the remote watch table, at most 256; 09 R397; spec: empty -/
  watches : List Watch := []
  deriving DecidableEq, Repr, Inhabited

/-- SR-IOV state of the endpoint (06 R247). -/
structure Sriov where
  /-- VF Enable; 1 bit; 06 R247; DESIGN CHOICE 2 (PCI resets it to 0) -/
  vfEnable : Bool := false
  /-- NumVFs; 16 bits; 06 R247; DESIGN CHOICE 2 (PCI resets it to 0) -/
  numVfs : Nat := 0
  /-- latched _HI words, as (function, register offset, value); 21 R807; spec: none pending -/
  latches : List (Nat × Nat × Nat) := []
  /-- the partition whose sheet was fetched last, for the round robin of sheet fetch; 4 bits; 20 R786, R791; DESIGN CHOICE 2 -/
  lastFetch : Nat := 15
  /-- the words of the functions' MSI-X tables that are not 0, as (function, word, value); 2,048 x 128 bits; 21 R803, Table 21-2;
  DESIGN CHOICE 2 -/
  msix : List (Nat × Nat × Nat) := []
  deriving DecidableEq, Repr, Inhabited

end Sys2Proof.Machine
end

