-- ==== Sys2Proof/Parts/Damem.lean ====
section
/-! DEFINITION. State of the mailboxes, the requests in flight, MCTP and PLDM (chapter 05) and of the Calender
(chapter 19). Each field's docstring reads: meaning; width; file and rule; where its reset value comes from. -/
namespace Sys2Proof.Machine

/-- A Calender record (19 Table 19-2). -/
structure Rec where
  code : Nat
  timeInvalid : Bool
  raise : Bool
  persist : Bool
  hw : Bool
  repeatSat : Bool := false
  part : Nat
  timeS : Nat
  timeF : Nat
  repeats : Nat := 0
  index : Nat
  param : List Byte
  deriving DecidableEq, Repr, Inhabited

/-- A notice (05 Table 05-14). -/
structure Notice where
  nclass : Nat
  code : Nat
  nseq : Nat
  timeS : Nat
  timeF : Nat
  timeInvalid : Bool
  raise : Bool
  param : List Byte
  deriving DecidableEq, Repr, Inhabited

/-- A response in a slot (05 Table 05-4). `opcode`, `payload` and `bulkOut` are what the device writes. -/
structure Resp where
  opcode : Nat
  tag : Nat
  status : Status
  seq : Nat
  hint : Nat := 0
  detail : Nat := 0
  payload : List Byte := []
  bulkOut : Option (List Byte) := none
  deriving DecidableEq, Repr

/-- A mailbox page (05 Tables 05-2 and 05-3). -/
structure MbxPage where
  /-- MBX_STAT.RESP_VALID; 8 bits; 05 Table 05-3; spec: 0 -/
  respValid : Vector Bool 8 := Vector.replicate 8 false
  /-- tags accepted whose RESP_VALID is not yet cleared; 8 bits; 05 R200; spec: none outstanding -/
  outstanding : Vector Bool 8 := Vector.replicate 8 false
  /-- MBX_STAT.ACK; 1 bit; 05 Table 05-3; spec: 0 -/
  ack : Bool := false
  /-- MBX_ACK.STATUS; 8 bits; 05 Table 05-3; spec: 0 -/
  ackStatus : Nat := 0
  /-- MBX_ACK.HINT; 16 bits; 05 Table 05-3; spec: 0 -/
  ackHint : Nat := 0
  /-- MBX_ACK.TAG; 3 bits; 05 Table 05-3; spec: 0 -/
  ackTag : Nat := 0
  /-- MBX_INT_CFG.ACK_IE; 1 bit; 05 Table 05-3; spec: 0 -/
  ackIe : Bool := false
  /-- MBX_INT_CFG.RESP_IE; 1 bit; 05 Table 05-3; spec: 0 -/
  respIe : Bool := false
  /-- MBX_INT_CFG.NOTICE_IE; 1 bit; 05 Table 05-3; spec: 0 -/
  noticeIe : Bool := false
  /-- MBX_INT_CFG.VEC; 11 bits; 05 Table 05-3; spec: 0 -/
  vec : Nat := 0
  /-- MBX_NOTICE_MASK.CLASS; 9 bits; 05 R220; spec: the permitted set -/
  mask : BitVec 9 := 0b100010111
  /-- MBX_NOTICE_PI; 8 bits; 05 Table 05-3; spec: 0 -/
  pi : Nat := 0
  /-- MBX_NOTICE_CI; 8 bits; 05 Table 05-3; spec: 0 -/
  ci : Nat := 0
  /-- MBX_NOTICE_LOST; 32 bits; 05 Table 05-3; spec: 0 -/
  lost : Nat := 0
  /-- a lost-notices entry is due before any newer notice; 1 bit; 05 R219; spec -/
  lostDue : Bool := false
  /-- NSEQ of the next notice; 32 bits; 05 Table 05-14; spec: 0 -/
  nseq : Nat := 0
  /-- MBX_STAT.REQ_BUSY: a POST waits for its acknowledge; 1 bit; 05 Table 05-3; spec: 0 -/
  reqBusy : Bool := false
  /-- the request window; 1,024 bytes, those beyond the list 0; 05 Table 05-2; DESIGN CHOICE 2 -/
  window : List Byte := []
  /-- notice ring entries 0-7; 8 x 32 bytes; 05 Table 05-2; DESIGN CHOICE 2 -/
  ring : Vector (Option Notice) 8 := Vector.replicate 8 none
  /-- response slots 0-7; 8 x 256 bytes; 05 Table 05-2; DESIGN CHOICE 2 -/
  slots : Vector (Option Resp) 8 := Vector.replicate 8 none
  /-- notices waiting for the endpoint, at most 8, oldest first; 8 x 32 bytes; 05 R221; spec: none -/
  queued : List Notice := []
  deriving DecidableEq, Repr, Inhabited

/-- A resource that a request locks (05 R201). -/
inductive Lock where
  | devState | part (p : Nat) | ring (r : Nat) | flash | steward | slot (n : Nat) | sector (n : Nat) | strand (n : Nat)
  | scorer | planish | calender
  /-- the free units of the device, which PART_CREATE and PART_RESIZE take in the order of their acceptance (06 R243) -/
  | grants
  deriving DecidableEq, Repr

/-- What an accepted request waits for. -/
inductive Wait where
  /-- queued behind a lock of its own path (05 R201) -/
  | queued
  /-- a device state is to be entered (05 R206) -/
  | state (target : DevState)
  /-- a partition is to be started (06 R252) -/
  | partStart (p : Nat)
  /-- a partition's stop, drained or aborted (06 R273, R274) -/
  | partStop (p : Nat)
  /-- a flash operation ends (05 R216) -/
  | flash
  /-- a recovery boot ends (04 R165) -/
  | recover
  /-- a live hand-over ends (05 R223) -/
  | handover
  /-- the steward handover ends (17 R690) -/
  | steward
  /-- the scorer's warm-up (10 R432) -/
  | scorer
  /-- a strand comes UP (11 R463) -/
  | strand (k : Nat)
  /-- a Planish step ends (16 R667) -/
  | planish (qty index : Nat)
  /-- a swap window runs (18 R737) -/
  | swap (sector : Nat)
  /-- its response is due, and is sent when firmware resumes (05 R223, R227) -/
  | owed
  deriving DecidableEq, Repr

/-- An accepted request that has not been answered, as the journal holds it (05 R227). -/
structure InFlight where
  opcode : Nat
  req : Req
  locks : List Lock
  wait : Wait
  /-- the request reached its commit point -/
  committed : Bool
  /-- uptime at which its completion bound ends, which runs from its acceptance, or from the end of its time in a queue (05 R203) -/
  due : Nat := 0
  /-- counts that the answer carries (DONE and ABORTED of a stop, RESENT, RETURNED) -/
  done : Nat := 0
  aborted : Nat := 0
  /-- the request came from PLDM effecter 200 or 201: its answer is a PLDM completion code (05 R233) -/
  pldm : Bool := false
  /-- the response that is due, while firmware is absent -/
  owed : Option Resp := none
  /-- the response is discarded: the function that posted the request has been reset (05 R238, 21 R817) -/
  drop : Bool := false
  deriving DecidableEq, Repr

/-- A flash operation in progress (05 R216, 04 R138). -/
inductive FlashOp where
  | erase (addr size count : Nat)
  | write (addr : Nat) (data : List Byte)
  | dirSet (entry : Nat) (active trial : Bool)
  | provision (hash : List Byte)
  | calFormat (upto : Nat)
  deriving DecidableEq, Repr

/-- A PLDM platform event that waits for its acknowledgement (05 R234). -/
structure PldmEvent where
  sensor : Nat
  offset : Nat
  value : Int
  tries : Nat
  deriving DecidableEq, Repr

/-- Damem beyond the pages: the journal, the flash operation in progress, MCTP and PLDM. -/
structure DamemSt where
  /-- the pages of mailboxes 0-16; 17 pages; 05 R193; spec -/
  page : Vector MbxPage 17 := (Vector.replicate 17 {}).set 16 { mask := 0b111111111 }
  /-- accepted requests without an answer, oldest first; model data; 05 R227; spec: none -/
  inflight : List InFlight := []
  /-- the flash operation in progress; model data; 05 R216; spec: none -/
  flashOp : Option FlashOp := none
  /-- MCTP endpoint ID, none until assigned; 8 bits; 05 R228; DESIGN CHOICE 2 -/
  eid : Nat := 0
  /-- the I3C dynamic address assigned by ENTDAA; 7 bits; 05 R228; spec: none -/
  i3cAddr : Option Nat := none
  /-- uptime at which the management port last left a transaction in DORMANT without acknowledge; 48 bits; 03 R104; spec: none -/
  nackAt : Option Nat := none
  /-- firmware's MCTP service answers; 1 bit; 04 Table 04-17; spec: not until firmware runs -/
  mctpUp : Bool := false
  /-- PLDM terminus ID; 8 bits; 05 R231; DESIGN CHOICE 2 -/
  tid : Nat := 0
  /-- event receiver address, none until set; 8 bits; 05 R234; spec: none -/
  receiver : Option Nat := none
  /-- platform events not yet acknowledged; model data; 05 R234; spec: none -/
  events : List PldmEvent := []
  /-- values last reported for the state sensors, as (sensor, offset, value); model data; 05 R234; spec: none -/
  reported : List (Nat × Nat × Int) := []
  deriving DecidableEq, Repr, Inhabited

/-- The token bucket of one code (19 R760). -/
structure Bucket where
  code : Nat
  tokens : Nat
  suppressed : Nat
  deriving DecidableEq, Repr

/-- The Calender (chapter 19). -/
structure Cal where
  /-- the ring of 16,384 records, newest first; 16,384 x 32 bytes; 19 R754; spec: empty -/
  recs : List Rec := []
  /-- CAL_NEXT.INDEX; 32 bits; 19 R754; spec: 0 -/
  next : Nat := 0
  /-- CAL_OLDEST.INDEX; 32 bits; 19 R764; spec: 0 -/
  oldest : Nat := 0
  /-- buckets that are not full, by rising code; 1,024 codes; 19 R760; spec: buckets start full -/
  buckets : List Bucket := []
  /-- records waiting to be mirrored, oldest first, at most 64; 64 x 32 bytes; 19 R761; spec: empty -/
  pqueue : List Rec := []
  /-- records left unmirrored since the last report; 32 bits; 19 R761; spec: 0 -/
  unmirrored : Nat := 0
  /-- the ring started empty and code 0x0003 has not been written yet; 1 bit; 19 R754; spec (after loss of VDECK) -/
  ringLost : Bool := true
  /-- events that firmware derives, met while firmware was absent, oldest first: they are recorded when it resumes, with the
  time of that moment; model data; 19 R768; spec: none -/
  deferred : List Rec := []
  /-- code 0x0008 has been written since the last CAL_CLEAR; 1 bit; 19 R766; spec: no -/
  warned90 : Bool := false
  /-- the open sector of the persistent region, none where the region is not in use; 5 bits; 19 R762; spec: none -/
  sector : Option Nat := none
  /-- the next slot of the open sector; 11 bits; 19 R762; spec -/
  slot : Nat := 1
  /-- SSEQ of the open sector; 32 bits; 19 R762; spec -/
  sseq : Nat := 0
  /-- cap packets discarded since the last 0x6006 record; 32 bits; 13 R554; spec: 0 -/
  capDiscards : Nat := 0
  deriving DecidableEq, Repr, Inhabited

end Sys2Proof.Machine
end

