-- ==== Sys2Proof/Parts/Loop.lean ====
section
/-! DEFINITION. State of the loop engine (chapter 15). Each field's docstring reads: meaning; width; file and rule;
where its reset value comes from. -/
namespace Sys2Proof.Machine

/-- Output q of a slot record (15 Table 15-5). -/
structure SlotOut where
  dest : Nat := 0xFF
  scale : Reg32 := 0
  init : Reg32 := 0
  failsafe : Reg32 := 0
  disable : Reg32 := 0
  deriving DecidableEq, Repr, Inhabited

/-- Input i of a slot record (15 Table 15-5). -/
structure SlotIn where
  src : Nat := 0xFFFF
  alt : Nat := 0xFFFF
  conv : Nat := 0
  recoverN : Nat := 1
  frozenN : Nat := 0
  gain : Reg32 := 0
  offset : Reg32 := 0
  plausLo : Reg32 := 0
  plausHi : Reg32 := 0
  frozenFloor : Reg32 := 0
  deriving DecidableEq, Repr, Inhabited

/-- A slot record of the loop program (15 Table 15-5). -/
structure SlotRec where
  en : Bool := false
  dir : Bool := false
  guard : Bool := false
  coolant : Bool := false
  warn : Bool := false
  law : Nat := 0
  nin : Nat := 1
  nout : Nat := 1
  period : Nat := 0
  start : Nat := 0
  outPhase : Nat := 0
  parent : Option Nat := none
  action1 : Nat := 1
  action2 : Nat := 1
  guardMax : Reg32 := 0
  setpoint : Reg32 := 0
  out : Vector SlotOut 4 := Vector.replicate 4 {}
  inp : Vector SlotIn 4 := Vector.replicate 4 {}
  /-- set-points 1 to m - 1 of a LAW 2 slot (15 R621) -/
  fixedSet : Vector Reg32 3 := Vector.replicate 3 0
  deriving DecidableEq, Repr, Inhabited

/-- A slot of a loop program: its record and its initial banks (15 R624). -/
structure SlotProg where
  record : SlotRec := {}
  bankA : Vector Reg32 256 := Vector.replicate 256 0
  bankB : Vector Reg32 256 := Vector.replicate 256 0
  deriving DecidableEq, Repr, Inhabited

/-- What a slot remembers of one source of an input, SRC or ALT (15 R616, R633, R635). -/
structure Stream where
  /-- SEQ of the sample last used, none before the first; 5 bits; 15 R616; spec: none -/
  seq : Option Nat := none
  /-- engine tick of the last new sample; 48 bits; 15 R633; spec -/
  newAt : Nat := 0
  /-- the last FROZEN_N new samples, newest first; 65,535 x 32 bits; 15 R633; spec: none -/
  window : List Reg32 := []
  /-- the last new sample lay outside its band or carried OVR or EXC; 1 bit; 15 R633; spec: no -/
  impl : Bool := false
  /-- the source was lost at the last sample; 1 bit; 15 R633; spec: no -/
  lost : Bool := false
  /-- consecutive new samples that were not lost; 8 bits; 15 R635; spec: 0 -/
  good : Nat := 0
  /-- the converted value last used; 32 bits; 15 R623; spec: 0 -/
  value : Reg32 := 0
  deriving DecidableEq, Repr, Inhabited

/-- The two sources of an input. -/
structure InSt where
  src : Stream := {}
  alt : Stream := {}
  deriving DecidableEq, Repr, Inhabited

/-- A slot. -/
structure Slot where
  /-- LPE_SLOTn_CFG.EN; 1 bit; 15 Table 15-9; spec: 0 -/
  en : Bool := false
  /-- LPE_SLOTn_CFG.BANK, true for B; 1 bit; 15 Table 15-9; spec: 0 -/
  bank : Bool := false
  /-- SWAP_PEND; 1 bit; 15 Table 15-9; spec: 0 -/
  swapPend : Bool := false
  /-- ACTION; 3 bits; 15 Table 15-9; spec: 0 -/
  action : Nat := 0
  /-- SAT; 1 bit; 15 Table 15-9; spec: 0 -/
  sat : Bool := false
  /-- GUARD_REJ; 1 bit; 15 Table 15-9; spec: 0 -/
  guardRej : Bool := false
  /-- STALE; 4 bits; 15 Table 15-9; spec: 0 -/
  stale : BitVec 4 := 0
  /-- FROZEN; 4 bits; 15 Table 15-9; spec: 0 -/
  frozen : BitVec 4 := 0
  /-- IMPL; 4 bits; 15 Table 15-9; spec: 0 -/
  impl : BitVec 4 := 0
  /-- ALT; 4 bits; 15 Table 15-9; spec: 0 -/
  alt : BitVec 4 := 0
  /-- ARITH; 1 bit; 15 Table 15-9; spec: 0 -/
  arith : Bool := false
  /-- the slot record (PERIOD, START, OUT_PHASE are its fields); 256 bytes; 15 Table 15-5; spec: 0 -/
  cfg : SlotRec := {}
  /-- bank A; 256 x 32 bits; 15 R618; DESIGN CHOICE 2 -/
  bankA : Vector Reg32 256 := Vector.replicate 256 0
  /-- bank B; 256 x 32 bits; 15 R618; DESIGN CHOICE 2 -/
  bankB : Vector Reg32 256 := Vector.replicate 256 0
  /-- the set-point as written, for the next sample; 32 bits; 15 R626; DESIGN CHOICE 2 -/
  setpoint : Reg32 := 0
  /-- the set-point used at the last sample; 32 bits; 15 R626; DESIGN CHOICE 2 -/
  setUsed : Reg32 := 0
  /-- what is remembered of each input; 4; 15 R616; spec -/
  ins : Vector InSt 4 := Vector.replicate 4 {}
  /-- outputs in force; 4 x 32 bits; 15 R622; DESIGN CHOICE 2 -/
  out : Vector Reg32 4 := Vector.replicate 4 0
  /-- values last delivered; 4 x 32 bits; 15 R637; DESIGN CHOICE 2 -/
  delivered : Vector Reg32 4 := Vector.replicate 4 0
  /-- LAW 1 section states s1, s2; 8 x 2 x 32 bits; 15 R620; DESIGN CHOICE 2 -/
  sec : Vector (Reg32 × Reg32) 8 := Vector.replicate 8 (0, 0)
  /-- LAW 2 observer states; 8 x 32 bits; 15 R621; DESIGN CHOICE 2 -/
  xh : Vector Reg32 8 := Vector.replicate 8 0
  /-- the start tick of the last sample; 48 bits; 15 R614; spec: none -/
  lastStart : Option Nat := none
  /-- the slot is preloaded at its next sample; 1 bit; 15 R637; spec -/
  preload : Bool := false
  /-- the destinations take DISABLE at the next output phase; 1 bit; 15 R639; spec: no -/
  disabling : Bool := false
  deriving DecidableEq, Repr, Inhabited

/-- The loop engine. -/
structure LoopEngine where
  /-- the engine runs; 1 bit; 15 R613; spec: not before boot complete -/
  running : Bool := false
  /-- ticks of 10 us since the engine started after its last stop; 48 bits; 15 R614; spec: 0 -/
  tick : Nat := 0
  /-- the engine has not started since the loop program was loaded; 1 bit; 15 R637; spec: no program is loaded -/
  fresh : Bool := false
  /-- LPE_LOAD.MAX_CYCLES; 11 bits; 15 Table 15-9; spec: 0 -/
  maxCycles : Nat := 0
  /-- the 64 slots; 15 Table 15-9; spec -/
  slot : Vector Slot 64 := Vector.replicate 64 {}
  deriving DecidableEq, Repr, Inhabited

end Sys2Proof.Machine
end

