-- ==== Sys2Proof/Parts/Mesh.lean ====
section
/-! DEFINITION. State of the Watermark scorer (chapter 10), of the Chainline mesh (chapter 11) and of what the device
promises to the mesh (chapter 20). Each field's docstring reads: meaning; width; file and rule; where its reset value
comes from. -/
namespace Sys2Proof.Machine

/-- The scorer states, codes of WMK_STAT.STATE (10 Table 10-9). -/
inductive WState where
  | off | warming | on | degraded
  deriving DecidableEq, Repr

/-- A batch (10 Table 10-3), from its SCORE issue to its result header. -/
structure Batch where
  part : Nat
  mould : Nat
  quarter : Nat
  slot : Nat
  ring : Nat
  subIndex : Nat
  /-- the group's place in the linear order of 07 R294 -/
  number : Nat
  /-- the device address of its result header, translated at issue (R416) -/
  res : Nat
  /-- the 128 bytes of the descriptor as read at issue -/
  desc : List Byte
  /-- uptime of the SCORE issue -/
  issuedAt : Nat
  /-- what kills the group or the partition discards the results (R438) -/
  discard : Bool := false
  /-- left the optical queue under R430 or R437 -/
  withdrawn : Bool := false
  /-- scored digitally in the group's slots (R429) -/
  digital : Bool := false
  /-- fewest channels in service while it ran optically (RFLAGS CHANNELS) -/
  channels : Nat := 0
  deriving DecidableEq, Repr

/-- The scorer. WMK_CFG.DEGRADE_MIN is `RowCfg.degradeMin`. -/
structure Scorer where
  /-- WMK_CFG.EN; 1 bit; 10 Table 10-9; spec: 0 -/
  en : Bool := false
  /-- WMK_STAT.STATE; 2 bits; 10 Table 10-9; spec: OFF -/
  state : WState := .off
  /-- WMK_INSVC map, channels in service (INSVC is their number); 64 bits; 10 Table 10-9; spec: 0 -/
  insvc : BitVec 64 := 0
  /-- WMK_STAT.CAL_ACTIVE and CAL_CH; 7 bits; 10 Table 10-9; spec: none -/
  calCh : Option Nat := none
  /-- the codes that the DACs of each channel's sketch and query modulators hold; 64 x 2 x 8 bits; 12 R516; spec: 128 while parked -/
  dac : Vector (Nat × Nat) 64 := Vector.replicate 64 (128, 128)
  /-- WMK_OPT_CNT; 32 bits; 10 Table 10-9; spec: 0 -/
  optCnt : Nat := 0
  /-- WMK_DIG_CNT; 32 bits; 10 Table 10-9; spec: 0 -/
  digCnt : Nat := 0
  /-- WMK_OFF_CNT; 32 bits; 10 Table 10-9; spec: 0 -/
  offCnt : Nat := 0
  /-- optical queues, one per partition, oldest first, 64 batches each; 16 x 64; 10 R420; spec: empty -/
  queue : Vector (List Batch) 16 := Vector.replicate 16 []
  /-- batches in flight, at most one per partition; 16; 10 R424; spec: none -/
  flight : List Batch := []
  /-- digital batches being scored in their groups' slots; model data; 10 R429; spec: none -/
  digitals : List Batch := []
  /-- the partition served last by the round robin; 4 bits; 10 R424; DESIGN CHOICE 2 -/
  lastPart : Nat := 15
  /-- scorer time that each partition is owed under its WMK shares, in ns x shares; model data; 06 R245, 10 R424; spec: none -/
  owed : Vector Int 16 := Vector.replicate 16 0
  /-- batch starts for which each waiting partition has been passed over; model data; 20 R786; spec: none -/
  passed : Vector Nat 16 := Vector.replicate 16 0
  /-- banks tried since WARMING began; 3 bits; 10 R431; spec: 0 -/
  tried : Nat := 0
  /-- channels whose last window was bad; 64 bits; 10 R412; spec: none -/
  badOnce : BitVec 64 := 0
  /-- channels that Planish declared failed; 64 bits; 10 R434; spec: none -/
  calFailed : BitVec 64 := 0
  /-- WMK_SET with MODE = 0 runs: the queues accept no batch; 1 bit; 10 R436; spec: no -/
  stopping : Bool := false
  /-- queued batches answered SCORER_OFF by the WMK_SET in progress (RETURNED); 32 bits; 10 R437; spec: 0 -/
  returned : Nat := 0
  deriving DecidableEq, Repr, Inhabited

/-- A Chainline packet (11 Table 11-9): header fields, and the bytes of its data flits. -/
structure Packet where
  ptype : Nat
  cls : Nat := 2
  dflits : Nat := 0
  hflags : Nat := 0
  src : Nat := 0
  dst : Nat := 0
  via : Nat := 0xFF
  rsv07 : Nat := 0
  tag : Nat := 0
  epoch : Nat := 0
  reqId : Nat := 0
  addr : Nat := 0
  len : Nat := 0
  status : Nat := 0
  op : Nat := 0
  size : Nat := 0
  rsv1E : Nat := 0
  bmask : Nat := 0
  opnd0 : Nat := 0
  opnd1 : Nat := 0
  dseq : Nat := 0
  rsv3C : Nat := 0
  data : List Byte := []
  /-- resends so far, of 8 (20 R788): the sender's own count, not a field of the header -/
  resends : Nat := 0
  deriving DecidableEq, Repr, Inhabited

/-- One flit slot of a frame (11 Table 11-3): empty, the header flit of a packet, or one of its data flits. -/
inductive Flit where
  | empty
  | header (p : Packet) (last : Bool)
  | data (cls : Nat) (bytes : List Byte) (last : Bool)
  deriving DecidableEq, Repr

/-- A frame: its control slot and nine flit slots (11 Table 11-3). -/
structure Frame where
  seq : Nat
  ack : Nat
  nak : Option Nat := none
  laneDrop : Option Nat := none
  laneAdd : Option Nat := none
  laneCal : Option Nat := none
  /-- CREDITS: MGMT, REQ, DRQ, DRS, cumulative -/
  credits : Vector Nat 4
  slots : List Flit
  deriving DecidableEq, Repr

/-- A frame in the retry buffer. -/
structure Sent where
  frame : Frame
  /-- the lane that carried it last -/
  lane : Nat
  /-- replays so far (R472) -/
  replays : Nat := 0
  /-- the packets whose last flit it carries, with their sources -/
  ends : List (Nat × Packet) := []
  deriving DecidableEq, Repr

/-- The TS block of a marker (11 Table 11-5). -/
structure TsBlock where
  magic : Nat
  version : Nat
  stage : Nat
  lane : Nat
  strand : Nat
  position : Nat
  rowSize : Nat
  compat : Nat
  lanesOk : BitVec 4
  txReq : Nat
  linkEpoch : Nat
  devId : Nat
  credits : Vector Nat 4
  rsv : Nat := 0
  crcOk : Bool := true
  deriving DecidableEq, Repr

/-- Strand states (11 Table 11-7). -/
inductive SState where
  | disabled | off | dark | safety | training | up | mgmtOnly | miswired | paused | loopback | loopTest
  deriving DecidableEq, Repr

/-- CHL_STk.STATE (11 Table 11-7). -/
def SState.code : SState → Nat
  | .disabled => 0 | .off => 1 | .dark => 2 | .safety => 3 | .training => 4 | .up => 5 | .mgmtOnly => 6
  | .miswired => 7 | .paused => 8 | .loopback => 9 | .loopTest => 10

/-- The setting of a strand's transmit shutter (12 R522): closed, probe or open. -/
inductive Tx where
  | off | probe | full
  deriving DecidableEq, Repr

/-- A strand: link state, training, retry and lanes. -/
structure Strand where
  /-- CHL_STk.STATE; 4 bits; 11 Table 11-8; spec: 0x1 OFF -/
  state : SState := .off
  /-- CHL_STk.EN; 1 bit; 11 Table 11-8; spec: 1 -/
  en : Bool := true
  /-- CHL_STk.MISW; 3 bits; 11 Table 11-8; spec: 0 -/
  misw : Nat := 0
  /-- CHL_STk.LAST_DOWN; 4 bits; 11 Table 11-8; spec: 0 -/
  lastDown : Nat := 0
  /-- CHL_STk.LANE_MAP; 4 bits; 11 Table 11-8; spec: 0 -/
  lanes : BitVec 4 := 0
  /-- CHL_STk.PEER_POS; 6 bits; 11 Table 11-8; spec: 0 -/
  peerPos : Nat := 0
  /-- CHL_STk.PEER_STRAND; 6 bits; 11 Table 11-8; spec: 0 -/
  peerStrand : Nat := 0
  /-- CHL_CNTk.DOWNS; 16 bits; 11 Table 11-8; spec: 0 -/
  downs : Nat := 0
  /-- CHL_CNTk.LANE_DROPS; 16 bits; 11 Table 11-8; spec: 0 -/
  laneDrops : Nat := 0
  /-- CHL_RPLk.REPLAYS; 32 bits; 11 Table 11-8; spec: 0 -/
  replays : Nat := 0
  /-- transmit shutter; 3 values; 12 R522; spec (dark) -/
  tx : Tx := .off
  /-- presence on the receive fibre; 1 bit; 11 R456; spec (no light yet) -/
  presence : Bool := false
  /-- probing has started for this strand's port since STANDBY entry; 1 bit; 11 R458; spec -/
  probing : Bool := false
  /-- training stage reached, 0 to 5; 3 bits; 11 Table 11-4; spec: 0 -/
  stage : Nat := 0
  /-- lanes found good in the training in progress; 4 bits; 11 Table 11-4; spec: 0 -/
  lanesOk : BitVec 4 := 0
  /-- the first failure of training has been recorded; 1 bit; 11 R460; spec: no -/
  failRecorded : Bool := false
  /-- repeats of training failure; 32 bits; 11 R460; spec: 0 -/
  failRepeats : Nat := 0
  /-- LINK_EPOCH; 16 bits; 11 Table 11-5; DESIGN CHOICE 2 -/
  epoch : Nat := 0
  /-- the peer's LINK_EPOCH; 16 bits; 11 Table 11-5; DESIGN CHOICE 2 -/
  peerEpoch : Nat := 0
  /-- transmit taps pre, main, post in 1/16; 3 x 8 bits; 11 R448, 12 R515; DESIGN CHOICE 2 -/
  taps : Vector Int 3 := #v[0, 0, 0]
  /-- tripped by loss of light: uptime, and whether from UP or PAUSED; 49 bits; 11 R482; spec: none -/
  trip : Option (Nat × Bool) := none
  /-- SEQ of the next new frame; 16 bits; 11 Table 11-3; spec: 0 at T5 -/
  txSeq : Nat := 0
  /-- SEQ expected next; 16 bits; 11 R471; spec: 0 at T5 -/
  rxSeq : Nat := 0
  /-- a NAK is owed; 1 bit; 11 R471; spec: no -/
  nak : Bool := false
  /-- the retry buffer, oldest first, at most 256 frames; 11 R471; spec: empty -/
  retry : List Sent := []
  /-- the frame from which a replay runs, none where no replay runs; 16 bits; 11 R472; spec: none -/
  replayFrom : Option Nat := none
  /-- the lane that carried the last frame; 2 bits; 11 R454; DESIGN CHOICE 2 -/
  lastLane : Nat := 3
  /-- codewords sent since the last marker, by lane (MCOUNT); 4 x 16 bits; 11 R452; spec: 0 -/
  mcount : Vector Nat 4 := Vector.replicate 4 0
  /-- flits spent since T5, of classes MGMT, REQ, DRQ, DRS; 4 x 16 bits; 11 R466; spec: 0 at T5 -/
  spent : Vector Nat 4 := Vector.replicate 4 0
  /-- flits the peer has freed, as last returned; 4 x 16 bits; 11 R466; spec: 0 at T5 -/
  returned : Vector Nat 4 := Vector.replicate 4 0
  /-- the peer's receive buffer sizes; 4 x 16 bits; 11 Table 11-5; DESIGN CHOICE 2 -/
  peerBuf : Vector Nat 4 := Vector.replicate 4 0
  /-- flits this end has freed; 4 x 16 bits; 11 R466; spec: 0 at T5 -/
  freed : Vector Nat 4 := Vector.replicate 4 0
  /-- packets waiting to be sent, by class, as (source partition, 16 for the device; packet); 5 queues; 11 R469; spec: empty -/
  txq : Vector (List (Nat × Packet)) 5 := Vector.replicate 5 []
  /-- the packet of each class in the course of being sent, with its flits sent; 5 packets; 11 R464; spec: none -/
  txNow : Vector (Option (Nat × Packet × Nat)) 5 := Vector.replicate 5 none
  /-- the source served last in each class; 5 x 5 bits; 11 R469; DESIGN CHOICE 2 -/
  lastSrc : Vector Nat 5 := Vector.replicate 5 16
  /-- slots owed to each partition under its CHL shares, in slots x shares; model data; 20 R787; spec: none -/
  owed : Vector Int 16 := Vector.replicate 16 0
  /-- rounds that each waiting source has waited, as (class, source, rounds); model data; 20 R786; spec: none -/
  ages : List (Nat × Nat × Nat) := []
  /-- packets partly received, by class; 5 packets; 11 R464; spec: none -/
  rxPart : Vector (Option Packet) 5 := Vector.replicate 5 none
  /-- packets wholly received and not yet served, oldest first; receive buffers of 11 Table 11-6; spec: empty -/
  rxBuf : List Packet := []
  /-- consecutive bad frames by lane; 4 x 4 bits; 11 R473; spec: 0 -/
  laneBad : Vector Nat 4 := Vector.replicate 4 0
  /-- a lane being dropped or re-admitted and not yet acknowledged: lane, and true for a drop; 3 bits; 11 R473; spec: none -/
  laneArg : Option (Nat × Bool) := none
  /-- the lane withdrawn by Planish (LANE_CAL); 2 bits; 11 R474; spec: none -/
  laneCal : Option Nat := none
  /-- the lane that the peer has withdrawn under LANE_CAL; 2 bits; 11 R474; spec: none -/
  peerCal : Option Nat := none
  /-- uptime at which each lane was dropped; 4 x 48 bits; 11 R474; spec: none -/
  droppedAt : Vector (Option Nat) 4 := Vector.replicate 4 none
  /-- lanes whose retest passed; 4 bits; 11 R474; spec: none -/
  retested : BitVec 4 := 0
  /-- uptime at which each lane was re-admitted last; 4 x 48 bits; 11 R474; spec: none -/
  readmitAt : Vector (Option Nat) 4 := Vector.replicate 4 none
  /-- LOOP_TEST has run since entry into STANDBY; 1 bit; 11 R486; spec: no -/
  loopTested : Bool := false
  /-- the epoch being reconciled, with the frames and waiting packets held for it; model data; 11 R475; spec: none -/
  recon : Option (Nat × List Sent × List (Nat × Packet)) := none
  /-- packets resent by the STRAND_SET in progress (RESENT); 32 bits; 11 R463; spec: 0 -/
  resentBySet : Nat := 0
  /-- last SEQ delivered in order in the epoch that ended last, for RECON_RSP; 16 bits; 11 R475; spec: none -/
  lastEpochSeq : Option (Nat × Nat) := none
  deriving DecidableEq, Repr, Inhabited

/-- A group of a Mould that waits for an answer. -/
structure Waiter where
  mould : Nat
  quarter : Nat
  slot : Nat
  dest : Dest
  deriving DecidableEq, Repr

/-- A request that an issuer has not sent yet (11 R467), or has sent and holds a reservation for. -/
structure Issue where
  part : Nat
  packet : Packet
  waiter : Option Waiter
  deriving DecidableEq, Repr

/-- A live reservation of the response buffer (11 R467, R468). -/
structure Resv where
  reqId : Nat
  epoch : Nat
  part : Nat
  peer : Nat
  strand : Nat
  flits : Nat
  /-- sent on the paths of the last change of paths but one, so the fence of R478 waits for it -/
  oldPath : Bool := false
  waiter : Option Waiter
  packet : Packet
  deriving DecidableEq, Repr

/-- The mesh as one device holds it. -/
structure Mesh where
  /-- the 64 strands; 11 Table 11-8; spec -/
  strand : Vector Strand 64 := Vector.replicate 64 {}
  /-- CHL_RESENT; 32 bits; 11 Table 11-8; spec: 0 -/
  resent : Nat := 0
  /-- CHL_NOPATH (0x034); 32 bits; 11 Table 11-8; spec: 0 -/
  nopath : Nat := 0
  /-- CHL_DROPPED; 32 bits; 11 Table 11-8; spec: 0 -/
  dropped : Nat := 0
  /-- CHL_DETOUR map; 64 bits; 11 Table 11-8; spec: 0 -/
  detour : BitVec 64 := 0
  /-- the latest LINKMAP of each position; 64 x 64 bits; 11 R476; spec: none received -/
  linkmap : Vector (BitVec 64) 64 := Vector.replicate 64 0
  /-- the intermediate in use to each position; 64 x 6 bits; 11 R476; spec: none -/
  via : Vector (Option Nat) 64 := Vector.replicate 64 none
  /-- DSEQ of the next detoured packet to each position; 64 x 32 bits; 11 R477; DESIGN CHOICE 2 (starts at 1) -/
  dseqTx : Vector Nat 64 := Vector.replicate 64 1
  /-- highest DSEQ delivered in order from each source; 64 x 32 bits; 11 R477; DESIGN CHOICE 2 -/
  dseqRx : Vector Nat 64 := Vector.replicate 64 0
  /-- detoured packets that came out of order, waiting for their DSEQ; model data; 11 R477; spec: none -/
  dwait : List Packet := []
  /-- a DACK is owed to each source; 64 bits; 11 R477; spec: none -/
  dackDue : BitVec 64 := 0
  /-- the 2 MiB detour store, oldest first; 2 MiB; 11 R477; spec: empty -/
  dstore : List Packet := []
  /-- live reservations of the response buffer, oldest first; 8 MiB; 11 R467; spec: none -/
  resv : List Resv := []
  /-- requests waiting to be issued, oldest first; model data; 11 R467; spec: none -/
  issue : List Issue := []
  /-- the next REQ_ID; 32 bits; 11 Table 11-9; DESIGN CHOICE 2 -/
  reqId : Nat := 0
  /-- peers whose set of paths has changed, with requests to wait for; 64 bits; 11 R478; spec: none -/
  fence : BitVec 64 := 0
  /-- the map of UP positions has changed since the last LINKMAP; 1 bit; 11 R484; spec: no -/
  linkDirty : Bool := false
  /-- the paths may have changed since they were last followed; 1 bit; 11 R476; spec: no -/
  pathDirty : Bool := false
  /-- groups whose request has ended NOT_READY in the command in progress, with the request; model data; 11 R475; spec: none -/
  ended : List (Waiter × Packet) := []
  /-- MGMT packets that firmware has not read, as (strand, packet), oldest first; 64 packets; 20 R784; spec: empty -/
  mgmtIn : List (Nat × Packet) := []
  /-- the last REJECT received: the position that sent it and its STATUS, in a field of the model's own (log entry 107); 6 + 16 bits;
  11 R484; spec: none -/
  rejected : Option (Nat × Nat) := none
  /-- CHL_PROMISE.HELD; 1 bit; 20 Table 20-3; spec: 0 -/
  promHeld : Bool := false
  /-- CHL_PROMISE [3:0]: OVERDUE, COMPAT, MISWIRED, NOPATH; 4 bits; 20 Table 20-3; spec: 0 -/
  promCauses : BitVec 4 := 0
  /-- CHL_PROMISE_CNT.BREACHES; 16 bits; 20 Table 20-3; spec: 0 -/
  breaches : Nat := 0
  /-- CHL_NOPATH_LO and _HI map of positions without a path; 64 bits; 20 Table 20-3; spec: 0 -/
  nopathMap : BitVec 64 := 0
  deriving DecidableEq, Repr, Inhabited

end Sys2Proof.Machine
end

