-- ==== Sys2Proof/Parts/Photonic.lean ====
section
/-! DEFINITION. State of the photonic upkeep: rings, lasers, spares and the cascade (chapter 12). Each field's docstring
reads: meaning; width; file and rule; where its reset value comes from. -/
namespace Sys2Proof.Machine

/-- Ring states, codes of PHC_RINGn.STATE (12 Table 12-3). -/
inductive RState where
  | parked | sweep | acquire | locked | lost | failed
  deriving DecidableEq, Repr

/-- PHC_RINGn.STATE (12 Table 12-3). -/
def RState.code : RState → Nat
  | .parked => 0 | .sweep => 1 | .acquire => 2 | .locked => 3 | .lost => 4 | .failed => 5

/-- A locked ring. -/
structure Ring704 where
  /-- PHC_RINGn.STATE; 3 bits; 12 Table 12-5; spec: PARKED -/
  state : RState := .parked
  /-- PHC_RINGn.RAIL; 1 bit; 12 Table 12-5; spec: 0 -/
  rail : Bool := false
  /-- the heater word: CODE in [15:4], fraction in [3:0]; 16 bits; 12 R501; spec: CODE 0 -/
  word : Nat := 0
  /-- PHC_RINGn.ERR in 0.01 pm; 12 bits signed; 12 Table 12-5; spec: 0 -/
  err : Int := 0
  /-- resonance map entry: code and zone temperature (0.01 degrees C); 28 bits; 12 R509; spec: none (cleared at cold reset) -/
  map : Option (Nat × Int) := none
  /-- target ratio of R499, set by Planish; 16 bits; 12 R499; DESIGN CHOICE 2 -/
  target : Int := 0
  /-- slope at the lock point, found at acquisition; 16 bits; 12 R504; DESIGN CHOICE 2 -/
  slope : Int := 0
  /-- heater delay of the reference; 16 bits; 12 R504; DESIGN CHOICE 2 -/
  delay : Int := 0
  /-- PI law gains, chosen by Planish; 2 x 16 bits; 12 R504; DESIGN CHOICE 2 -/
  kp : Int := 0
  ki : Int := 0
  /-- integrator of the PI law; 32 bits; 12 R504; DESIGN CHOICE 2 -/
  acc : Int := 0
  /-- dither amplitude; 16 bits; 12 R503; DESIGN CHOICE 2 -/
  dither : Int := 0
  /-- heater trim tap; 16 bits; 12 R502; DESIGN CHOICE 2 -/
  trim : Int := 0
  /-- the first heater trim since cold reset has completed; 1 bit; 12 R502; spec: no -/
  trimDone : Bool := false
  /-- failed full sweeps of this acquisition; 2 bits; 12 R510; spec: 0 -/
  sweepFails : Nat := 0
  deriving DecidableEq, Repr, Inhabited

/-- PHC_LASERa.STATE (12 Table 12-5). -/
inductive LState where
  | off | warm | on | failed | retired
  deriving DecidableEq, Repr

/-- PHC_LASERa.STATE (12 Table 12-5). -/
def LState.code : LState → Nat
  | .off => 0 | .warm => 1 | .on => 2 | .failed => 3 | .retired => 4

/-- A laser array. -/
structure Laser where
  /-- PHC_LASERa.STATE; 3 bits; 12 Table 12-5; spec: off -/
  state : LState := .off
  /-- ageing wavelengths (PHC_LASERa.AGEING is their disjunction); 16 bits; 12 R523; spec: 0 -/
  ageing : BitVec 16 := 0
  /-- PHC_LASERa.FAILED; 16 bits; 12 Table 12-5; spec: 0 -/
  failed : BitVec 16 := 0
  /-- set power per wavelength, 0.1 mW; 12 bits; 12 R520; spec: 8 mW nominal -/
  setPower : Nat := 80
  /-- bias of each wavelength; 16 x 16 bits; 12 R520; DESIGN CHOICE 2 -/
  bias : Vector Nat 16 := Vector.replicate 16 0
  /-- bias at the first calibration after cold reset; 16 x 16 bits; 12 R523; spec: none -/
  bias0 : Vector (Option Nat) 16 := Vector.replicate 16 none
  /-- PHC_LTEMPa.SUBMOUNT, 0.01 degrees C; 16 bits; 12 Table 12-5; spec: 0 -/
  submount : Int := 0
  /-- the sub-mount heater runs; 1 bit; 12 R521; spec: off -/
  heater : Bool := false
  /-- the sub-mount has reached temperature since its start; 1 bit; 12 R521; spec: no -/
  atTemp : Bool := false
  /-- laser held dark by hardware (R62, R79); 1 bit; 02 R62; spec: dark -/
  lit : Bool := false
  deriving DecidableEq, Repr, Inhabited

/-- The photonic die. -/
structure Photonic where
  /-- the 704 locked rings; 12 R498; spec -/
  ring : Vector Ring704 704 := Vector.replicate 704 {}
  /-- the 24 laser arrays; 12 R520; spec -/
  laser : Vector Laser 24 := Vector.replicate 24 {}
  /-- PHC_SPARE byte i: the array that spare 20 + i replaces, none for 0xFF; 4 x 8 bits; 12 Table 12-5; spec: 0xFF -/
  spare : Vector (Option Nat) 4 := Vector.replicate 4 none
  /-- a spare takeover in progress: (spare, array position); 2 bytes; 12 Table 12-4; spec: none -/
  takeover : List (Nat × Nat) := []
  /-- the coolant supply set-point that the outer loop's clamps stand at, 0.01 degrees C, none before slot 1's first sample; 16 bits;
  12 R518, R536; spec: none -/
  zoneRef : Option Int := none
  /-- PHC_HEAD.FIXED_FLOW; 1 bit; 12 Table 12-5; spec: 0 -/
  fixedFlow : Bool := false
  /-- port banks have been swept since cold reset; 16 bits; 12 R508; spec: none -/
  swept : BitVec 16 := 0
  /-- sub-mount set temperature, 0.01 degrees C; 16 bits; 12 R521; spec: 85.00 until the loop program is loaded -/
  submountSet : Int := 8500
  deriving DecidableEq, Repr, Inhabited

end Sys2Proof.Machine
end

