-- ==== Sys2Proof/Parts/Power.lean ====
section
/-! DEFINITION. State of the supplies, resets, straps, clocks and the always-on domain (chapters 02, 03 and 21).
Each field's docstring reads: meaning; width; file and rule; where its reset value comes from. -/
namespace Sys2Proof.Machine

/-- Where the rail sequence stands (02 R56). `up i settling last` is power-up at rail `i` of the order VAN, VSRAM, VCORE,
HBM, VPHO, VLD, VHTR, going as far as rail `last`; `down rest` is power-down with the rails of `rest` still to go, the
first of them with EN_ already low. -/
inductive RailSeq where
  | idle
  | up (rail : Nat) (settling : Bool) (last : Nat)
  | down (rest : List Nat)
  deriving DecidableEq, Repr

/-- What the rail sequence in progress leads to (03 Table 03-3). -/
inductive SeqGoal where
  | none | boot | heldEntry | toStandby | toDormant | toSafe
  deriving DecidableEq, Repr

/-- What a poll of one regulator output brings: the four transactions of 02 R60 in their order, none for one that fails. -/
structure PmbusReading where
  vout : Option Nat := none
  iout : Option Nat := none
  temp : Option Int := none
  status : Option Nat := none
  deriving DecidableEq, Repr, Inhabited

/-- Telemetry of one regulator output as last read over PMBus (02 R60). -/
structure RailTelemetry where
  /-- READ_VOUT in mV; 16 bits; 02 R60; DESIGN CHOICE 2 -/
  vout : Nat := 0
  /-- READ_IOUT in 0.1 A; 16 bits; 02 R60; DESIGN CHOICE 2 -/
  iout : Nat := 0
  /-- READ_TEMPERATURE_1 in degrees C; 16 bits; 02 R60; DESIGN CHOICE 2 -/
  temp : Int := 0
  /-- STATUS_WORD; 16 bits; 02 R60; DESIGN CHOICE 2 -/
  status : Nat := 0
  /-- consecutive failed transactions; 2 bits; 02 R84; DESIGN CHOICE 2 -/
  fails : Nat := 0
  /-- telemetry marked stale; 1 bit; 02 R84; DESIGN CHOICE 2 -/
  stale : Bool := false
  /-- uptime at which it was marked stale; 48 bits; 13 R573; spec: none -/
  staleAt : Nat := 0
  deriving DecidableEq, Repr, Inhabited

/-- The four straps (02 Table 02-12). -/
structure Straps where
  /-- STRAP_FVS high; 1 bit; 02 Table 02-12; DESIGN CHOICE 1 (an open strap reads low) -/
  fvs : Bool := false
  /-- STRAP_MGT high; 1 bit; 02 Table 02-12; DESIGN CHOICE 1 -/
  mgt : Bool := false
  /-- STRAP_TAP high; 1 bit; 02 Table 02-12; DESIGN CHOICE 1 -/
  tap : Bool := false
  /-- STRAP_TEST high; 1 bit; 02 Table 02-12; DESIGN CHOICE 1 -/
  test : Bool := false
  deriving DecidableEq, Repr, Inhabited

/-- Instructions of the test access port (02 R72, R73, 04 R150): bypass and identification, debug, and the IEEE 1149.1 and 1149.6
ones, which read and drive the boundary register and the PCIe lanes. -/
inductive TapInstr where
  | bypass | idcode | debug | boundary | acBoundary
  deriving DecidableEq, Repr

/-- The PCIe endpoint (02 R71, 03 Table 03-2). -/
inductive Endpoint where
  | off | retry | ready
  deriving DecidableEq, Repr

/-- Supplies, resets, straps and lands. -/
structure Supply where
  /-- both VDECK rails within tolerance; 1 bit; 02 R70, R79; DESIGN CHOICE 1 -/
  vdeck : Bool := true
  /-- in reset: PORST# low, the stretched reset still running, or the power-on detector holding it; 1 bit; 02 R70; DESIGN CHOICE 1 -/
  porst : Bool := true
  /-- PORST# driven low, and not yet released; 1 bit; 02 R70; DESIGN CHOICE 1 -/
  porstLow : Bool := true
  /-- PERST# asserted; 1 bit; 02 R71; DESIGN CHOICE 1 -/
  perst : Bool := true
  /-- EN_ lands in the order of R56; 7 bits; 02 R56, R70; spec (every EN_ low in reset) -/
  en : Vector Bool 7 := Vector.replicate 7 false
  /-- deglitched PG_ inputs; 7 bits; 02 R58; DESIGN CHOICE 1 -/
  pg : Vector Bool 7 := Vector.replicate 7 false
  /-- the rail sequence in progress; model data; 02 R56; spec (none runs in reset) -/
  seq : RailSeq := .idle
  /-- what the sequence leads to; model data; 03 R91; spec -/
  goal : SeqGoal := .none
  /-- VPHO within tolerance (below it the lasers are held dark); 1 bit; 02 R62; DESIGN CHOICE 1 -/
  vphoOk : Bool := false
  /-- the VCORE value requested over AVSBus, mV; 10 bits; 02 R59; spec: 750 at start -/
  avsReq : Nat := 750
  /-- the last VCORE value acknowledged, mV; 10 bits; 02 R84; spec: 750 at start -/
  avsAck : Nat := 750
  /-- AVSBus answers; 1 bit; 02 R84; DESIGN CHOICE 2 -/
  avsOk : Bool := true
  /-- regulator telemetry: the rails in the order of R56, the HBM entry being page 0 (VDD), then pages 1 and 2 of the HBM
  regulator (VDDQ, VPP), whose failures count at the HBM entry; 9 entries; 02 R60, Table 02-9; DESIGN CHOICE 2 -/
  tele : Vector RailTelemetry 9 := Vector.replicate 9 {}
  /-- strap pins as they stand; 4 bits; 02 R72; DESIGN CHOICE 1 -/
  strapPins : Straps := {}
  /-- straps as sampled, none before sampling; 4 bits; 02 R72; spec (sampled after PORST# rises) -/
  straps : Option Straps := none
  /-- the instruction that the test access port holds; model data; 02 R72, R73; PRESUMED 113 (IDCODE, as IEEE 1149.1 resets it) -/
  tapIr : TapInstr := .idcode
  /-- the boundary register: one cell for each digital signal land that is neither a PCIe lane nor a clock (`boundaryLands`);
  95 bits; 02 R73; DESIGN CHOICE 113 -/
  boundary : Vector Bool 95 := Vector.replicate 95 false
  /-- a strap change has been recorded since cold reset; 1 bit; 02 R72; spec -/
  strapRecorded : Bool := false
  /-- the PCIe endpoint; 3 values; 02 R71, 03 Table 03-2; spec (off in reset) -/
  endpoint : Endpoint := .off
  /-- WAKE# asserted; 1 bit; 03 R98; spec (released in reset) -/
  wake : Bool := false
  /-- Touchstone fault in force; 1 bit; 02 R69; spec (not yet measured) -/
  touchFault : Bool := false
  /-- last Touchstone reading, ohms; 16 bits; 02 R69; DESIGN CHOICE 2 -/
  touchOhm : Nat := 0
  deriving DecidableEq, Repr, Inhabited

/-- A calendar time offset being removed (19 R757). -/
structure Slew where
  /-- offset still to be removed at the start, ns; 64 bits; 19 R757; n/a -/
  offsetNs : Int
  /-- uptime in ticks at which the slew began; 48 bits; 19 R757; n/a -/
  began : Nat
  /-- the trim change that applies when the slew ends, in ppb; 32 bits; 19 R757; n/a -/
  trimPpb : Int
  deriving DecidableEq, Repr

/-- Clocks, the real-time clock and the alarm. -/
structure Clocks where
  /-- CLK_STAT.XTAL_OK; 1 bit; 21 R811, 02 R80; spec: 0 -/
  xtalOk : Bool := false
  /-- a crystal fault is in force, and the clock runs on the Filigree 32 kHz oscillator; 1 bit; 02 R80; DESIGN CHOICE 2 -/
  xtalFault : Bool := false
  /-- CLK_STAT.EXT_CLK; 1 bit; 21 R811, 02 R63; spec: 0 -/
  extClk : Bool := false
  /-- CLK_STAT.REFCLK_LOCK; 1 bit; 21 R811, 02 R81; spec: 0 -/
  refclkLock : Bool := false
  /-- CLK_STAT.PCIE_SRIS; 1 bit; 21 R811, 02 R66; spec: 0 -/
  sris : Bool := false
  /-- CLK_STAT.CORR_SET; 1 bit; 21 R811, 02 R64; spec: 0 -/
  corrSet : Bool := false
  /-- CLK_STAT.CORR in 0.01 ppm; 16 bits signed; 21 R811, 02 R64; spec: 0 -/
  corr : Int := 0
  /-- crystal load, code of XTAL_LOAD; 6 bits; 02 R63, 04 R159; spec: 8.0 pF (code 16) where no row image gives it -/
  xtalLoad : Nat := 16
  /-- the 192 MHz Deckle oscillator runs; 1 bit; 03 R103; spec (it runs in every state but OFF and DORMANT) -/
  osc192 : Bool := true
  /-- the 1 MHz and 48 MHz Filigree oscillators run; 1 bit; 03 R103; spec (stopped in DORMANT, and in OFF, where nothing runs) -/
  oscFil : Bool := true
  /-- real-time clock ticks (1/32,768 s) since cold reset: the uptime; 48 bits; 19 R753, 03 R102; spec: 0 -/
  uptime : Nat := 0
  /-- calendar time in femtoseconds since 2000-01-01; 80 bits; 19 R756; DESIGN CHOICE 2 (invalid at reset) -/
  calFs : Nat := 0
  /-- CAL_STAT.TIME_VALID; 1 bit; 19 R756; spec: 0 -/
  timeValid : Bool := false
  /-- frequency trim in ppb; 18 bits signed; 19 R757; spec: 0 (cleared on loss of VDECK) -/
  trimPpb : Int := 0
  /-- slew in progress; model data; 19 R757; spec: none -/
  slew : Option Slew := none
  /-- uptime of the stamped instant of the last accepted TIME_SET; 48 bits; 05 R208; spec: none -/
  lastSet : Option Nat := none
  /-- interval in ticks between the last two accepted TIME_SETs; 48 bits; 19 R758; spec: none -/
  lastInterval : Option Nat := none
  /-- TIME_SETs accepted since time became valid; 32 bits; 19 R758; spec: 0 -/
  setCount : Nat := 0
  /-- UNC_US of the last accepted TIME_SET; 20 bits; 19 R758; DESIGN CHOICE 2 -/
  lastUnc : Nat := 0
  /-- uptime of the last step; 48 bits; 19 R758; spec: none -/
  lastStep : Option Nat := none
  /-- CAL_STAT.DISC_HELD; 1 bit; 19 R758; spec: 0 -/
  discHeld : Bool := false
  /-- CAL_STAT.FREE_HELD; 1 bit; 19 R758; spec: 0 -/
  freeHeld : Bool := false
  /-- CLK_ALARM_S.SEC; 32 bits; 21 R811; spec: 0 -/
  alarmS : Nat := 0
  /-- CLK_ALARM_CTL.FRAC; 16 bits; 21 R811; spec: 0 -/
  alarmF : Nat := 0
  /-- CLK_ALARM_CTL.FIRED; 1 bit; 21 R811; spec: 0 -/
  alarmFired : Bool := false
  /-- CLK_ALARM_CTL.WAKE_EN; 1 bit; 21 R811; spec: 0 -/
  alarmWake : Bool := false
  /-- CLK_ALARM_CTL.ARM; 1 bit; 21 R811; spec: 0 -/
  alarmArm : Bool := false
  deriving DecidableEq, Repr, Inhabited

/-- A SAFE episode (03 R855). -/
structure SafeEpisode where
  /-- every cause that has arisen, newest first; 8 bits each; 03 R855; n/a -/
  causes : List Nat
  /-- the device has no verified image to serve from: it is left only by a recovery action or a cold reset; 1 bit; 03 R101; n/a -/
  fromHeld : Bool
  deriving DecidableEq, Repr

/-- The device state and what PWR_STATE reports (03 Table 03-4). -/
structure Dev where
  /-- PWR_STATE.STATE; 3 bits; 03 Table 03-4; spec: 0b010 STANDBY -/
  state : DevState := .standby
  /-- PWR_STATE.TRANS; 1 bit; 03 Table 03-4; spec: 1 -/
  trans : Bool := true
  /-- PWR_STATE.TARGET; 3 bits; 03 Table 03-4; spec: 0b010 STANDBY -/
  target : DevState := .standby
  /-- PWR_STATE.SAFE_CAUSE; 8 bits; 03 Table 03-4; spec: 0x00 -/
  safeCause : Nat := 0
  /-- PWR_STATE.WAKE_SRC; 8 bits; 03 Table 03-4; spec: 0x00 -/
  wakeSrc : Nat := 0
  /-- PWR_STATE.WARM_BAND; 1 bit; 03 Table 03-4; spec: 0 -/
  warmBand : Bool := false
  /-- the SAFE episode in progress; model data; 03 R855; spec: none -/
  episode : Option SafeEpisode := none
  /-- partition starts that wait for ANNEAL, oldest first; 4 bits each; 03 R92, R122; spec: none -/
  startsWaiting : List Nat := []
  /-- serving reference temperature in 0.01 degrees C, none before 60 s of SERVING; 16 bits; 03 R114; spec: none -/
  servingRef : Option Int := none
  /-- time spent in SERVING since cold reset, in compute-die sensor samples of 10 ms, at most 6,000 kept; 13 bits; 03 R114; spec: 0 -/
  servingSamples : List Int := []
  /-- comparator trips latched while DORMANT was being entered, in their order, to be handled after the last step; 8 numbers; 03
  R119; spec: none -/
  latchedWake : List Nat := []
  deriving DecidableEq, Repr, Inhabited

/-- One comparator (03 Table 03-7, R108, R109). -/
structure Cmp where
  /-- PWR_CMPn_CFG; 32 bits; 03 Table 03-7; spec: 0 -/
  cfg : Reg32 := 0
  /-- PWR_CMP_STAT.TRIP; 1 bit; 03 R108, 21 Table 21-4; spec: 0 -/
  trip : Bool := false
  /-- PWR_CMP_STAT.LEVEL; 1 bit; 03 R108, 21 Table 21-4; spec: 0 -/
  level : Bool := false
  /-- consecutive pulsed samples beyond the threshold; 2 bits; 03 R106; spec: 0 -/
  beyond : Nat := 0
  /-- consecutive pulsed samples past the release point; 2 bits; 03 R106; spec: 0 -/
  past : Nat := 0
  /-- uptime of the last trip and the INDEX of its record; 80 bits; 03 R109; spec: none -/
  lastTrip : Option (Nat × Nat) := none
  /-- uptime of the last release and the INDEX of its record; 80 bits; 03 R109; spec: none -/
  lastRelease : Option (Nat × Nat) := none
  deriving DecidableEq, Repr, Inhabited

end Sys2Proof.Machine
end

