-- ==== Sys2Proof/Parts/Steward.lean ====
section
/-! DEFINITION. State of the steward, the CDU loops' supervision, the tooth trackers and the leak ropes (chapter 17).
Each field's docstring reads: meaning; width; file and rule; where its reset value comes from. -/
namespace Sys2Proof.Machine

/-- A MEMBER report (17 Table 17-4), with the uptime of its receipt. -/
structure Member where
  state : Nat
  elig : Bool
  cand : Bool
  capped : Bool
  primary : Nat
  compat : Nat
  epoch : Nat
  upMs : Nat
  pkgW : Nat
  capW : Nat
  at_ : Nat
  deriving DecidableEq, Repr

/-- A STEWBEAT's contents (17 Table 17-4). -/
structure Snapshot where
  role : Nat
  standby : Nat
  epoch : Nat
  seq : Nat
  setpt : Vector Reg32 4
  aout : Vector Nat 8
  filout : Vector Int 4
  leak : Vector Nat 4
  isol : BitVec 8
  at_ : Nat
  deriving DecidableEq, Repr

/-- Where a taking or a giving up of the primary role stands (17 R679, R684, R690). -/
inductive StewSeq where
  | none
  /-- taking: K1 is driven, K0 follows 10 ms later -/
  | takeK1
  /-- taking: K0 is driven, its contacts close within 10 ms -/
  | takeK0
  /-- giving up: K0 is released, K1 follows 10 ms later; `planned` is a planned handover, `silent` with no answer -/
  | giveK0 (planned : Bool)
  /-- giving up: K1 is released -/
  | giveK1 (planned : Bool)
  /-- OFFER sent, READY awaited -/
  | offered
  /-- READY sent, DONE awaited -/
  | ready
  deriving DecidableEq, Repr

/-- The roles of a device (17 Table 17-11). -/
inductive Role where
  | none | primary | standby
  deriving DecidableEq, Repr

/-- A leak rope as the primary judges it (17 Table 17-9). -/
structure Rope where
  /-- stage; 2 bits; 17 Table 17-11; spec: 0 -/
  stage : Nat := 0
  /-- 0 dry, 1 wet, 2 open; 2 bits; 17 Table 17-11; spec: 0 -/
  cond : Nat := 0
  /-- valves isolated; 1 bit; 17 Table 17-11; spec: 0 -/
  isolated : Bool := false
  /-- uptimes at which the rope became as it is and entered its stage; 2 x 48 bits; 17 Table 17-9; spec: none -/
  condAt : Nat := 0
  stageAt : Nat := 0
  deriving DecidableEq, Repr, Inhabited

/-- A scheduled event of a tracker (17). -/
structure TrkEvent where
  angle : Nat
  target : Nat
  tbPeriod : Nat
  /-- fired in this revolution -/
  fired : Bool := false
  /-- time of its last firing, ns -/
  at_ : Option Nat := none
  deriving DecidableEq, Repr

/-- A tooth tracker (17 R697-R701); times in ns of the tracker's own clock. -/
structure Tracker where
  /-- CDU_TRKt_STAT.SYNC; 1 bit; 17 Table 17-11; spec: 0 -/
  sync : Bool := false
  /-- TIMEBASE; 1 bit; 17 Table 17-11; spec: 0 -/
  timebase : Bool := false
  /-- MISSED; 8 bits; 17 Table 17-11; spec: 0 -/
  missed : Nat := 0
  /-- NOISE; 8 bits; 17 Table 17-11; spec: 0 -/
  noise : Nat := 0
  /-- EXTRAP; 8 bits; 17 Table 17-11; spec: 0 -/
  extrap : Nat := 0
  /-- CDU_TRKt_SPEED; 24 bits; 17 Table 17-11; spec: 0 -/
  speed : Nat := 0
  /-- the speed sample word; 32 bits; 17 R699; DESIGN CHOICE 2 -/
  sample : Reg32 := 0
  /-- TPR; 7 bits; 17 R697; DESIGN CHOICE 2 -/
  tpr : Nat := 1
  /-- STALE_MS; 10 bits; 17; DESIGN CHOICE 2 -/
  staleMs : Nat := 1
  /-- P, ns; 40 bits; 17 R697; spec: none before sync -/
  p : Nat := 0
  /-- time of the last tooth, real or synthesised, ns; 64 bits; 17 R697; spec: none -/
  tLast : Option Nat := none
  /-- the interval before the last real tooth while out of sync, and real teeth in a row; 42 bits; 17 R701; spec: none -/
  lastInterval : Option Nat := none
  /-- synthesised teeth in a row; 2 bits; 17 R700; spec: 0 -/
  missedRow : Nat := 0
  /-- teeth since the reference tooth, modulo TPR; 6 bits; 17 R698; spec: 0 -/
  tooth : Nat := 0
  /-- events; at most 8; 17; DESIGN CHOICE 2 (none until the loop program is applied) -/
  events : List TrkEvent := []
  deriving DecidableEq, Repr, Inhabited

/-- The steward. -/
structure Steward where
  /-- role of this device; 2 bits; 17 Table 17-11; spec: 0 none -/
  role : Role := .none
  /-- CDU_ROLE.EPOCH, the recognised epoch; 16 bits; 17 Table 17-11; spec: 0 -/
  epoch : Nat := 0
  /-- highest EPOCH received since cold reset; 16 bits; 17 R684; spec: 0 -/
  maxEpoch : Nat := 0
  /-- CDU_ROLE.PRIMARY, none for 0xFF; 8 bits; 17 Table 17-11; spec: 0xFF -/
  primary : Option Nat := none
  /-- CDU_ROLE.STANDBY, none for 0xFF; 8 bits; 17 Table 17-11; spec: 0xFF -/
  standby : Option Nat := none
  /-- withdrawn under R687; 1 bit; 17 R687; spec: no -/
  withdrawn : Bool := false
  /-- STEW_EN0 driven; 1 bit; 17 Table 17-11; spec: 0 -/
  en0 : Bool := false
  /-- STEW_EN1 driven; 1 bit; 17 Table 17-11; spec: 0 -/
  en1 : Bool := false
  /-- CDU_STAT.BEAT; 1 bit; 17 Table 17-11; spec: 0 -/
  beat : Bool := false
  /-- this device drives ROWBEAT; 1 bit; 17 R688; spec: no -/
  driving : Bool := false
  /-- uptime of the last pulse seen; 48 bits; 17 R689; spec: none -/
  lastPulse : Option Nat := none
  /-- sequence of taking or giving up the role; model data; 17 R679; spec: none -/
  seq : StewSeq := .none
  /-- uptime of OFFER, until the planned handover's STEWARD_RELEASE is answered; 48 bits; 17 Table 17-6; spec: none -/
  offerAt : Option Nat := none
  /-- SEQ of the next STEWBEAT; 32 bits; 17 Table 17-4; DESIGN CHOICE 2 -/
  beatSeq : Nat := 0
  /-- the contents of STEWBEAT that firmware last wrote; 64 bytes; 17 R688; spec: none -/
  lastBeat : Option Snapshot := none
  /-- latest STEWBEAT of the primary; 64 bytes; 17 R691; spec: none -/
  snapshot : Option Snapshot := none
  /-- latest MEMBER reports; 64 reports; 17 R683; spec: none -/
  member : Vector (Option Member) 64 := Vector.replicate 64 none
  /-- uptime of the latest first report from a position; 48 bits; 17 R684; spec: none -/
  firstReport : Option Nat := none
  /-- CDU_STAT.CAUSE; 8 bits; 17 Table 17-11; spec: 0 -/
  cause : BitVec 8 := 0
  /-- CDU_BUDGET.AVAIL, in W; 20 bits; 17 Table 17-11; spec: 0 -/
  avail : Nat := 0
  /-- CDU_BUDGET.SENT, in W; 20 bits; 17 Table 17-11; spec: 0 -/
  sent : Nat := 0
  /-- last cap sent to each position; 64 x 11 bits; 17 R704; spec: none -/
  capSent : Vector (Option Nat) 64 := Vector.replicate 64 none
  /-- SEQ of the next cap packet; 32 bits; 13 R553; DESIGN CHOICE 2 -/
  capSeq : Nat := 0
  /-- the leak ropes; 17 Table 17-11; spec -/
  rope : Vector Rope 4 := Vector.replicate 4 {}
  /-- rack valves held closed (ISOL); 8 bits; 17 Table 17-4; spec: none -/
  isol : BitVec 8 := 0
  /-- tooth trackers; 17 Table 17-11; spec -/
  trk : Vector Tracker 2 := Vector.replicate 2 {}
  /-- stalled pumps; 2 bits; 17 R694; spec: none -/
  stalled : BitVec 2 := 0
  /-- uptimes since which the conditions of the causes have held, and since which they have been absent; 8 x 48 bits; 17 Table 17-10, R706; spec: none -/
  causeSince : Vector (Option Nat) 8 := Vector.replicate 8 none
  causeGone : Vector (Option Nat) 8 := Vector.replicate 8 none
  /-- entries of DS1 converted since K1 closed, while slot 8 waits for a full scan; 8 bits; 17 R691; spec: none -/
  scanSeen : Option (BitVec 8) := none
  /-- the supply set-point is being moved to the image default; 1 bit; 17 R695; spec: no -/
  ramping : Bool := false
  /-- uptime of the first strand's first UP since cold reset (UP_MS); 48 bits; 17 Table 17-4; spec: none -/
  firstUp : Option Nat := none
  /-- the coolant regulation figure is not held since this uptime (60 s after a takeover); 48 bits; 17 R691; spec: none -/
  takeoverAt : Option Nat := none
  deriving DecidableEq, Repr, Inhabited

end Sys2Proof.Machine
end

