-- ==== Sys2Proof/Parts/Operand.lean ====
section
/-! DEFINITION. The operands that commands carry: what comes from outside the device with an event, and the operands of
Mould instructions (whose encodings the spec does not publish). -/
namespace Sys2Proof.Machine

/-- What may cut boot code short (04 R190, R192): power lost in an OTP burn after `burns` whole ones; a double fault or lockstep
mismatch of the Assay core before the seal, after `burns` whole burns, or after the seal. -/
inductive BootCut where
  | none
  | powerLost (burns : Nat)
  | faultBeforeSeal (burns : Nat)
  | faultAfterSeal
  deriving DecidableEq, Repr, Inhabited

/-- What the boot finds outside the device (02 R63, R66, R69, 04 R158). -/
structure BootEnv where
  /-- an external 32.768 kHz clock is driven on the crystal land (02 R63) -/
  extClk : Bool := false
  /-- the crystal or external clock runs in range (02 R80) -/
  xtalOk : Bool := true
  /-- the flash answers at all (04 R158) -/
  flashReadable : Bool := true
  /-- the Touchstone as measured, ohms (02 R69) -/
  touchOhm : Nat := 10000
  /-- what cuts boot code short (04 R190, R192) -/
  cut : BootCut := .none
  deriving DecidableEq, Repr, Inhabited

/-- A resonance that a heater sweep finds (12 R508): the code, the depth in 0.1 dB, and the slope at the lock point. -/
structure Resonance where
  code : Nat
  depth : Nat
  slope : Int := 0
  deriving DecidableEq, Repr, Inhabited

/-- What the loop program's body says. The spec publishes the slot records and banks (15 R624, Table 15-5), which come as their bytes, and no
encoding of the other sections, which a boot hands over decoded. -/
structure LoopProg where
  /-- the slots 0-63 it uses, but for the steward section: the 256-byte record and the banks A and B of each (15 R624) -/
  slots : List (Nat × List Byte) := []
  /-- the steward section: slots 8-11, applied only while the device is primary (17 R692) -/
  steward : List (Nat × List Byte) := []
  /-- set-points 1 to m - 1 of a LAW 2 slot (15 R621) -/
  fixedSet : List (Nat × List Reg32) := []
  cells : List (Nat × Cell) := []
  switches : List Route := []
  /-- delta-sigma converters: converter, TOUCH, GAIN, RATE, NSCAN -/
  ds : List (Nat × Bool × Nat × Nat × Nat) := []
  /-- SAR converters: converter, scan length, BI entries, the slot that triggers its scans (none for a continuous scan) -/
  sar : List (Nat × Nat × BitVec 16 × Option Nat) := []
  /-- outputs: output, SPAN, bound slot -/
  aout : List (Nat × Nat × Option Nat) := []
  /-- string: EN, CUR, and the elements in their order -/
  exc : Bool × Bool × List Element := (false, false, [])
  sine : List (Nat × Nat × Nat) := []
  trimUse : List Bool := []
  /-- trackers: tracker, TPR, STALE_MS, events -/
  trackers : List (Nat × Nat × Nat × List TrkEvent) := []
  /-- the converter and scan entry that read the plate inlet and outlet RTDs (02 R53) -/
  inlet : Option (Nat × Nat) := none
  outlet : Option (Nat × Nat) := none
  /-- sample periods declared for Filigree input registers: register, us (15 Table 15-4) -/
  inPeriod : List (Nat × Nat) := []
  /-- open and close codes of the rack return valves 0-7 (17 Table 17-9) -/
  valveOpen : List Nat := []
  valveClose : List Nat := []
  /-- laser set powers in 0.1 mW, by array; empty for the nominal 8 mW -/
  laserPower : List (Nat × Nat) := []
  /-- sub-mount set temperature, 0.01 degrees C -/
  submount : Int := 8500
  /-- the sections pass the consistency checks that the published formats do not cover -/
  consistent : Bool := true
  deriving DecidableEq, Repr, Inhabited

/-- An error that the codes of memory find in a read (06 R282, 09 R373, R374): a device address, whether it is uncorrectable,
and, for a row of HBM, whether its bank has a spare row left; or, where a tally is named, an error in that tally's state
(09 R400). -/
structure MemError where
  dpa : Nat
  fatal : Bool
  spare : Bool := true
  tally : Option Nat := none
  deriving DecidableEq, Repr

/-- How the host's memory meets a sheet (06 Table 06-12): its fetch and its completion's write succeed, or one of them ends in a
DMA error. -/
inductive DmaCase where
  | ok
  | fetchError
  | completionError
  deriving DecidableEq, Repr

/-- A double fault or lockstep mismatch of the Assay core: its cause, and whether SRAM still holds the firmware image that was recorded
(08 R346). -/
structure AssayFault where
  cause : Nat
  ramOk : Bool
  deriving DecidableEq, Repr, Inhabited

/-- An offset in BAR0, or in BAR4 with its MSI-X table (21 R803, Table 21-2). -/
structure BarOffset where
  bar4 : Bool
  off : Nat
  deriving DecidableEq, Repr, Inhabited

/-- The lowest VCORE that the clocks need, mV, and whether the AVSBus request of the tick and its retry are acknowledged (13 R556, 02 R84). -/
structure VcoreNeed where
  vmin : Nat
  ack : Bool × Bool
  deriving DecidableEq, Repr, Inhabited

/-- What a delta-sigma converter finds at its inputs: the differential input of the entry and the voltage across the Touchstone, in nV (14 R586,
R587). -/
structure DsInput where
  vin : Int
  vt : Nat
  deriving DecidableEq, Repr, Inhabited

/-- An event of a tooth tracker, and the time at which its timebase fires it, ns (17 R700). -/
structure TimedEvent where
  event : Nat
  time : Nat
  deriving DecidableEq, Repr, Inhabited

/-- A rope, and whether its rectifier has been above 90 % of the open level for 1 s, or is below it again (17 R702). -/
structure RopeLevel where
  rope : Nat
  above : Bool
  deriving DecidableEq, Repr, Inhabited

/-- A value that a sector programs into its flash, and whether power is lost meanwhile (18 R722, R749). -/
structure FlashValue where
  value : Reg64
  cut : Bool
  deriving DecidableEq, Repr, Inhabited

/-- A page that a sector erases in its flash, and whether power is lost meanwhile (18 R722, R749). -/
structure FlashPage where
  page : Nat
  cut : Bool
  deriving DecidableEq, Repr, Inhabited

/-- A thread group's place, and what its instruction carries apart from its operands (07). The encodings of instructions are
not published (R323): operand forms are the model's own (log entry 10). -/
structure GIns where
  mould : Nat
  quarter : Nat
  slot : Nat
  /-- 8 bytes, or 16 for a long-immediate form (07 R323) -/
  len : Nat := 8
  /-- the predicate register, and true where its inverse predicates (07 R306) -/
  pred : Option (Nat × Bool) := none
  /-- the encoding as a number, for the save slot (08 Table 08-3) -/
  raw : Nat := 0
  /-- the encoding is unknown or has a non-zero reserved field (07 R323) -/
  illegal : Bool := false
  /-- slots of the quarter whose groups are not ready for what the state does not hold: the next instruction not fetched, a local
  result not landed, a unit busy (07 R297) -/
  held : BitVec 16 := 0
  /-- errors that the memory codes find while the instruction reads (09 R373) -/
  errors : List MemError := []
  deriving DecidableEq, Repr, Inhabited

/-- A source of a vector instruction: a vector register, one scalar register as a uniform operand, or an immediate (07 R306). -/
inductive VSrc where
  | v (r : Nat)
  | s (r : Nat)
  | imm (w : Reg32)
  deriving DecidableEq, Repr

/-- Comparisons. -/
inductive Cond where
  | eq | ne | ltu | leu | lts | les | feq | flt | fle
  deriving DecidableEq, Repr

/-- Vector instructions (07 Table 07-2: integer and logic, FP32, packed BF16 and FP8, the 16-cycle functions). -/
inductive VOp where
  | mov | add | sub | mul | and | or | xor | shl | shr | sar | minu | maxu | mins | maxs | sel (p : Nat)
  /-- 64-bit add on register pairs (R305) -/
  | add64
  | fadd | fsub | fmul | ffma | fdiv | fsqrt | frcp | fexp2 | flog2
  /-- packed add, multiply and fused multiply-add of a 16-bit or 8-bit format -/
  | padd (f : Fmt) | pmul (f : Fmt) | pfma (f : Fmt)
  /-- compare into a predicate register -/
  | setp (c : Cond)
  deriving DecidableEq, Repr

/-- A source of a scalar instruction. -/
inductive SSrc where
  | s (r : Nat)
  | p (r : Nat)
  | imm (w : Reg32)
  deriving DecidableEq, Repr

/-- Scalar instructions (07 R307, Table 07-2). -/
inductive SOp where
  | mov | add | sub | mul | and | or | xor | shl | shr | sar | setc (c : Cond)
  deriving DecidableEq, Repr

/-- The condition of a branch: always, a predicate register or its inverse, or a scalar register that is not 0. -/
inductive BranchCond where
  | always
  | pred (p : Nat) (inv : Bool)
  | scalar (r : Nat)
  deriving DecidableEq, Repr

/-- The special registers (07 Table 07-3). -/
inductive SReg where
  | tid | gidx | gidy | gidz | gridx | gridy | gridz | mould | quarter | slot | part | sheet | active | cycle | time | fclk
  deriving DecidableEq, Repr

/-- Operands of a memory instruction: scratch offset or partition and row address, from a vector register (a pair for a
64-bit address), a scalar register or pair, and an immediate; the data register; the element size (07 R313, R314). -/
structure MemOp where
  scratch : Bool
  rd : Nat
  ra : Option Nat := none
  rs : Option Nat := none
  imm : Int := 0
  size : Nat := 4
  signed : Bool := false
  deriving DecidableEq, Repr

/-- Atomic operations (09 R392). -/
inductive AtomKind where
  | add | mins | maxs | minu | maxu | and | or | xor | xchg | cas | fadd
  deriving DecidableEq, Repr

/-- An atomic instruction: its memory operands (`rd` receives the old value), the operand register, the compare register of
CAS, and its suffixes (09 R391, R392). -/
structure AtomOp where
  mem : MemOp
  kind : AtomKind
  rb : Nat
  rc : Nat := 0
  acq : Bool := false
  rel : Bool := false
  deriving DecidableEq, Repr

/-- A conversion: from FP32 to BF16 or FP8, or back (08 R351). -/
inductive CvtOp where
  | toF (f : Fmt)
  | fromF (f : Fmt)
  deriving DecidableEq, Repr

/-- Operands of a tally instruction: destination, tally operand, value operand (09 Table 09-7). -/
structure TallyOp where
  sd : Nat := 0
  st : Nat
  ss : Nat := 0
  deriving DecidableEq, Repr

/-- What waits on a tally: a thread group, or a sheet (09 R398). -/
inductive WaitSel where
  | group (mould quarter slot : Nat)
  | sheet (ring sub : Nat)
  deriving DecidableEq, Repr

/-- A batch that ends: that of a partition on the optical path, or a digital one by its place (10 R421). -/
inductive BatchSel where
  | optical (part : Nat)
  | digital (place : Nat)
  deriving DecidableEq, Repr

/-- What a Planish step finds in its phases 1 to 4 (16 R655). -/
structure PMeas where
  /-- phase 1: the Touchstone as measured, ohms (02 R69) -/
  touchOhm : Nat := 10000
  /-- phase 2: the part of the precondition of Table 16-4 that is measured or timed and is not in the state -/
  pre : Bool := true
  /-- phase 3: the result, in the units of Table 16-4 against design: ppm; 0.01 degrees C for a sensor; for a heater the full scale
  without trim, in uW; for a lane four level codes, the skew, three slicers and the TIA gain taps; ppm, score units and then taps
  for a channel; values themselves for a ring's loop; after its ppm figures, the codes of what a cell, an output or a rope path
  moves tap by tap -/
  result : List Int := []
  /-- correction, ppm of the coefficient's full scale (16 R662) -/
  ppm : Int := 0
  deriving DecidableEq, Repr, Inhabited

/-- What a swap window sees at a sector's boundary (18 R738-R740). -/
structure SwapEvents where
  /-- declared inputs that showed an edge in 0-32 us -/
  captured : BitVec 16 := 0
  /-- capture entries that the sector's logic has cleared since the last window (CAP_CLRi) -/
  cleared : BitVec 16 := 0
  /-- edges on undeclared inputs of HISTORY flip-flops -/
  lost : Nat := 0
  /-- levels of the HISTORY inputs at 24 us -/
  history : Nat := 0
  deriving DecidableEq, Repr, Inhabited

/-- What a register write without behaviour of its own addresses (21 R11, 06 R247). -/
inductive RegSel where
  | bar0 (offset : Nat)
  | bar4 (offset : Nat)
  | vfEnable
  | numVfs
  | busMaster (vf : Nat)
  deriving DecidableEq, Repr

end Sys2Proof.Machine
end

