-- ==== Sys2Proof/Syntax.lean ====
section
/-! DEFINITION. The commands of the device: one constructor per row of spec/opcode_table.json, in its order, each with the
rule of spec/ that the table names. -/
namespace Sys2Proof
open Sys2Proof.Machine

/-- A command (spec/opcode_table.json). -/
inductive Instr where
  /-- PORST_ASSERT, R70 -/
  | porstAssert (lowUs : Nat)
  /-- PORST_RELEASE, R70 -/
  | porstRelease
  /-- POWER_ON_DETECT, R70 -/
  | powerOnDetect (inTolerance : Bool)
  /-- VDECK_LOSS, R79 -/
  | vdeckLoss
  /-- STRAP_SAMPLE, R72 -/
  | strapSample (env : BootEnv)
  /-- STRAP_CHANGE, R72 -/
  | strapChange (strap : Nat) (high : Bool)
  /-- PERST_ASSERT, R71 -/
  | perstAssert
  /-- PERST_RELEASE, R71 -/
  | perstRelease
  /-- ENDPOINT_READY, R71 -/
  | endpointReady
  /-- PG_RISE, R56 -/
  | pgRise (rail : Nat)
  /-- RAIL_SETTLE_EXPIRY, R56 -/
  | railSettleExpiry
  /-- RAIL_OFF_WAIT_END, R56 -/
  | railOffWaitEnd
  /-- PG_TIMEOUT, R75 -/
  | pgTimeout
  /-- PG_FALL_IN_SEQUENCE, R75 -/
  | pgFallInSequence (rail : Nat)
  /-- PG_FALL_AFTER_SEQUENCE, R76 -/
  | pgFallAfterSequence (rail : Nat)
  /-- PG_VAN_FALL, R77 -/
  | pgVanFall
  /-- VPHO_OUT_OF_TOLERANCE, R62 -/
  | vphoOutOfTolerance
  /-- REFCLK_LOSS, R81 -/
  | refclkLoss
  /-- CRYSTAL_FAULT, R80 -/
  | crystalFault
  /-- CRYSTAL_RECOVER, R80 -/
  | crystalRecover
  /-- CRYSTAL_CORRECTION, R64 -/
  | crystalCorrection (temp : Int)
  /-- PMBUS_POLL, R60 -/
  | pmbusPoll (readings : List PmbusReading)
  /-- CMP_TRIP, R109 -/
  | cmpTrip (n : Nat)
  /-- CMP_RELEASE, R109 -/
  | cmpRelease (n : Nat)
  /-- LEAK_PULSE, R106 -/
  | leakPulse (beyond : Vector Bool 4) (past : Vector Bool 4)
  /-- CMP_TRIP_CLEAR, R108 -/
  | cmpTripClear (value : Reg32)
  /-- MGMT_ADDRESS_MATCH, R104 -/
  | mgmtAddressMatch
  /-- RTC_ALARM_FIRE, R812 -/
  | rtcAlarmFire
  /-- ANNEAL_IDLE_TIMEOUT, R91 -/
  | annealIdleTimeout
  /-- LAST_PARTITION_STOPPED, R91 -/
  | lastPartitionStopped
  /-- BOOT_COMPLETE, R126 -/
  | bootComplete (prog : LoopProg)
  /-- BOOT_WATCHDOG, R133 -/
  | bootWatchdog
  /-- ASSAY_DOUBLE_FAULT, R346 -/
  | assayDoubleFault (cause : AssayFault)
  /-- RESTART_COMPLETE, R227 -/
  | restartComplete
  /-- FLR_VF, R277 -/
  | flrVf (vf : Nat)
  /-- FLR_PF0, R817 -/
  | flrPf0
  /-- VF_ENABLE_CLEAR, R277 -/
  | vfEnableClear (numVfs : Nat)
  /-- BUS_MASTER_DISABLE, R277 -/
  | busMasterDisable (vf : Nat)
  /-- BUS_MASTER_ENABLE, R277 -/
  | busMasterEnable (vf : Nat)
  /-- MBX_RESP_CLEAR, R195 -/
  | mbxRespClear (m : Nat) (value : Reg32)
  /-- MBX_ACK_CLEAR, R195 -/
  | mbxAckClear (m : Nat)
  /-- MBX_NOTICE_CI_WRITE, R219 -/
  | mbxNoticeCiWrite (m : Nat) (ci : Nat)
  /-- MBX_INT_CFG_WRITE, R248 -/
  | mbxIntCfgWrite (m : Nat) (value : Reg32)
  /-- NOP, R205 -/
  | nop (r : Req)
  /-- INFO, R205 -/
  | info (r : Req)
  /-- STATE_SET_DORMANT, R206 -/
  | stateSetDormant (r : Req)
  /-- STATE_SET_STANDBY, R206 -/
  | stateSetStandby (r : Req)
  /-- STATE_SET_ANNEAL, R206 -/
  | stateSetAnneal (r : Req)
  /-- STATE_SET_SAFE, R206 -/
  | stateSetSafe (r : Req)
  /-- STATE_GET, R205 -/
  | stateGet (r : Req)
  /-- HALLMARK_QUERY, R205 -/
  | hallmarkQuery (r : Req)
  /-- DEBUG_TOKEN, R207 -/
  | debugToken (r : Req)
  /-- TIME_SET, R757 -/
  | timeSet (r : Req)
  /-- TIME_SLEW_END, R757 -/
  | timeSlewEnd
  /-- PART_CREATE, R209 -/
  | partCreate (r : Req)
  /-- PART_RESIZE, R210 -/
  | partResize (r : Req)
  /-- PART_DESTROY, R210 -/
  | partDestroy (r : Req)
  /-- PART_START, R252 -/
  | partStart (r : Req)
  /-- PART_STOP_DRAIN, R273 -/
  | partStopDrain (r : Req)
  /-- PART_STOP_ABORT, R274 -/
  | partStopAbort (r : Req)
  /-- PART_RESET, R256 -/
  | partReset (r : Req)
  /-- PART_QUERY, R205 -/
  | partQuery (r : Req)
  /-- PART_IMAGE, R255 -/
  | partImage (r : Req)
  /-- RING_SETUP, R257 -/
  | ringSetup (r : Req)
  /-- RING_TEARDOWN, R266 -/
  | ringTeardown (r : Req)
  /-- THERMAL_QUERY, R205 -/
  | thermalQuery (r : Req)
  /-- STEWARD_QUERY, R686 -/
  | stewardQuery (r : Req)
  /-- STEWARD_RELEASE, R690 -/
  | stewardRelease (r : Req)
  /-- CDU_SETPOINT, R213 -/
  | cduSetpoint (r : Req)
  /-- WMK_SET_ON, R432 -/
  | wmkSetOn (r : Req)
  /-- WMK_SET_OFF, R437 -/
  | wmkSetOff (r : Req)
  /-- STRAND_SET_DISABLE, R463 -/
  | strandSetDisable (r : Req)
  /-- STRAND_SET_ENABLE, R463 -/
  | strandSetEnable (r : Req)
  /-- LINK_QUERY, R205 -/
  | linkQuery (r : Req)
  /-- PHOTONIC_QUERY, R527 -/
  | photonicQuery (r : Req)
  /-- PLANISH_RUN, R667 -/
  | planishRun (r : Req)
  /-- PLANISH_QUERY, R668 -/
  | planishQuery (r : Req)
  /-- LOOP_COEF_WRITE_INACTIVE, R630 -/
  | loopCoefWriteInactive (r : Req)
  /-- LOOP_COEF_SWAP, R631 -/
  | loopCoefSwap (r : Req)
  /-- LOOP_COEF_SINGLE, R632 -/
  | loopCoefSingle (r : Req)
  /-- LOOP_QUERY, R640 -/
  | loopQuery (r : Req)
  /-- FIL_SECTOR_LOAD, R737 -/
  | filSectorLoad (r : Req)
  /-- FIL_SECTOR_DISABLE, R741 -/
  | filSectorDisable (r : Req)
  /-- FIL_SECTOR_ENABLE, R737 -/
  | filSectorEnable (r : Req)
  /-- CAL_READ, R764 -/
  | calRead (r : Req)
  /-- CAL_CLEAR, R765 -/
  | calClear (r : Req)
  /-- HOLD_QUERY, R164 -/
  | holdQuery (r : Req)
  /-- FLASH_READ, R216 -/
  | flashRead (r : Req)
  /-- FLASH_ERASE, R216 -/
  | flashErase (r : Req)
  /-- FLASH_WRITE, R216 -/
  | flashWrite (r : Req)
  /-- IMAGE_CHECK, R218 -/
  | imageCheck (r : Req)
  /-- DIR_SET, R164 -/
  | dirSet (r : Req)
  /-- PROVISION, R164 -/
  | provision (r : Req)
  /-- RECOVER_RETRY, R165 -/
  | recoverRetry (r : Req)
  /-- RECOVER_FALLBACK, R164 -/
  | recoverFallback (r : Req)
  /-- FW_ACTIVATE_LIVE, R223 -/
  | fwActivateLive (r : Req)
  /-- FW_ACTIVATE_NEXT_COLD, R222 -/
  | fwActivateNextCold (r : Req)
  /-- LIVE_HANDOVER_TIMEOUT, R225 -/
  | liveHandoverTimeout
  /-- FW_COMMIT, R226 -/
  | fwCommit (r : Req)
  /-- TRIAL_TIMEOUT, R226 -/
  | trialTimeout
  /-- SET_ENDPOINT_ID, R229 -/
  | setEndpointId (b : Binding) (op : Nat) (eid : Nat)
  /-- GET_ENDPOINT_ID, R229 -/
  | getEndpointId (b : Binding)
  /-- GET_ENDPOINT_UUID, R229 -/
  | getEndpointUuid (b : Binding)
  /-- GET_MCTP_VERSION_SUPPORT, R229 -/
  | getMctpVersionSupport (b : Binding) (mtype : Nat)
  /-- GET_MESSAGE_TYPE_SUPPORT, R229 -/
  | getMessageTypeSupport (b : Binding)
  /-- GET_VENDOR_DEFINED_MSG_SUPPORT, R229 -/
  | getVendorDefinedMsgSupport (b : Binding) (sel : Nat)
  /-- MCTP_UNSUPPORTED_CMD, R229 -/
  | mctpUnsupportedCmd (b : Binding) (cmd : Nat)
  /-- MCTP_OTHER_TYPE, R229 -/
  | mctpOtherType (b : Binding) (mtype : Nat)
  /-- GETTID, R231 -/
  | gettid (b : Binding)
  /-- SETTID, R231 -/
  | settid (b : Binding) (tid : Nat)
  /-- GETPLDMVERSION, R231 -/
  | getpldmversion (b : Binding) (ptype : Nat)
  /-- GETPLDMTYPES, R231 -/
  | getpldmtypes (b : Binding)
  /-- GETPLDMCOMMANDS, R231 -/
  | getpldmcommands (b : Binding) (ptype : Nat)
  /-- GETPDRREPOSITORYINFO, R232 -/
  | getpdrrepositoryinfo (b : Binding)
  /-- GETPDR, R232 -/
  | getpdr (b : Binding) (handle : Nat)
  /-- GETSENSORREADING, R232 -/
  | getsensorreading (b : Binding) (sensor : Nat)
  /-- GETSTATESENSORREADINGS, R232 -/
  | getstatesensorreadings (b : Binding) (sensor : Nat)
  /-- SETSTATEEFFECTERSTATES, R233 -/
  | setstateeffecterstates (b : Binding) (effecter : Nat) (state : Nat)
  /-- GETSTATEEFFECTERSTATES, R231 -/
  | getstateeffecterstates (b : Binding) (effecter : Nat)
  /-- SETNUMERICEFFECTERVALUE, R233 -/
  | setnumericeffectervalue (b : Binding) (effecter : Nat) (value : Int)
  /-- GETNUMERICEFFECTERVALUE, R231 -/
  | getnumericeffectervalue (b : Binding) (effecter : Nat)
  /-- SETEVENTRECEIVER, R234 -/
  | seteventreceiver (b : Binding) (addr : Nat)
  /-- GETEVENTRECEIVER, R231 -/
  | geteventreceiver (b : Binding)
  /-- PLDM_UNSUPPORTED_CMD, R231 -/
  | pldmUnsupportedCmd (b : Binding) (ptype : Nat) (cmd : Nat)
  /-- PLDM_EVENT_RESEND, R234 -/
  | pldmEventResend (sensor : Nat) (offset : Nat)
  /-- RNG_SUB_PI_WRITE, R259 -/
  | rngSubPiWrite (vf : Nat) (ring : Nat) (value : Reg32)
  /-- RNG_CPL_CI_WRITE, R259 -/
  | rngCplCiWrite (vf : Nat) (ring : Nat) (value : Reg32)
  /-- RNG_SPILL_CI_WRITE, R259 -/
  | rngSpillCiWrite (vf : Nat) (ring : Nat) (value : Reg32)
  /-- SHEET_ACCEPT, R260 -/
  | sheetAccept (ring : Nat) (bytes : List Byte) (dma : DmaCase)
  /-- SHEET_FENCE, R267 -/
  | sheetFence (ring : Nat) (sub : Nat)
  /-- SHEET_KERNEL_DISPATCH, R269 -/
  | sheetKernelDispatch (ring : Nat) (sub : Nat)
  /-- GROUP_DISPATCH, R294 -/
  | groupDispatch (ring : Nat) (sub : Nat)
  /-- OVERDUE_CHANGE, R265 -/
  | overdueChange (ring : Nat)
  /-- SHEET_DEADLINE, R270 -/
  | sheetDeadline (ring : Nat) (sub : Nat)
  /-- DRAIN_DEADLINE, R273 -/
  | drainDeadline (part : Nat)
  /-- MEMORY_SWEEP, R253 -/
  | memorySweep (first : Nat) (count : Nat)
  /-- MOULD_CLOCK_IDLE_STOP, R89 -/
  | mouldClockIdleStop (m : Nat)
  /-- MOULD_FAULT, R281 -/
  | mouldFault (m : Nat) (cause : Nat)
  /-- MOULD_WATCHDOG, R327 -/
  | mouldWatchdog (m : Nat) (quarter : Nat)
  /-- MOULD_SELFTEST_DONE, R281 -/
  | mouldSelftestDone (m : Nat) (pass : Bool)
  /-- VECTOR_OP, R300 -/
  | vectorOp (g : GIns) (op : VOp) (rd : Nat) (a : VSrc) (b : VSrc) (c : VSrc)
  /-- SCALAR_OP, R307 -/
  | scalarOp (g : GIns) (op : SOp) (rd : Nat) (a : SSrc) (b : SSrc)
  /-- BRANCH, R301 -/
  | branch (g : GIns) (cond : BranchCond) (target : Int)
  /-- YIELD, R302 -/
  | yieldOp (g : GIns)
  /-- STARVATION_ESCAPE, R302 -/
  | starvationEscape (mould : Nat) (quarter : Nat) (slot : Nat)
  /-- BAR_G, R303 -/
  | barG (g : GIns)
  /-- EXIT, R304 -/
  | exit (g : GIns)
  /-- MOVS, R308 -/
  | movs (g : GIns) (sr : SReg) (scalar : Bool) (rd : Nat)
  /-- MACQ, R309 -/
  | macq (g : GIns) (handle : Nat)
  /-- MZERO, R309 -/
  | mzero (g : GIns) (handle : Nat)
  /-- MLD, R309 -/
  | mld (g : GIns) (handle : Nat) (addr : Nat)
  /-- MMA, R311 -/
  | mma (g : GIns) (handle : Nat) (fa : Fmt) (fb : Fmt) (aAddr : Nat) (bAddr : Nat) (k : Nat) (bExp : Nat)
  /-- MST, R309 -/
  | mst (g : GIns) (handle : Nat) (fmt : Fmt) (addr : Nat)
  /-- MWAIT, R309 -/
  | mwait (g : GIns) (handle : Nat)
  /-- MREL, R309 -/
  | mrel (g : GIns) (handle : Nat)
  /-- MATRIX_OP_DONE, R312 -/
  | matrixOpDone (mould : Nat) (quarter : Nat)
  /-- MCOPY, R316 -/
  | mcopy (g : GIns) (toScratch : Bool) (scratch : Nat) (va : Nat) (len : Nat)
  /-- CWAIT, R316 -/
  | cwait (g : GIns) (n : Nat)
  /-- COPY_DONE, R316 -/
  | copyDone (mould : Nat) (quarter : Nat) (slot : Nat)
  /-- LOAD, R313 -/
  | load (g : GIns) (op : MemOp)
  /-- STORE, R313 -/
  | store (g : GIns) (op : MemOp)
  /-- ATOMIC_INSTR, R392 -/
  | atomicInstr (g : GIns) (op : AtomOp)
  /-- LD_ACQ, R391 -/
  | ldAcq (g : GIns) (op : MemOp)
  /-- ST_REL, R391 -/
  | stRel (g : GIns) (op : MemOp)
  /-- FENCE_P, R391 -/
  | fenceP (g : GIns)
  /-- FENCE_R, R391 -/
  | fenceR (g : GIns)
  /-- BRK, R332 -/
  | brk (g : GIns)
  /-- TRAPLD, R338 -/
  | trapld (g : GIns) (off : Nat) (rd : Nat)
  /-- TRAPST, R338 -/
  | trapst (g : GIns) (off : Nat) (rs : Nat)
  /-- TRAPSET, R338 -/
  | trapset (g : GIns) (rs : Nat)
  /-- TRAPRET, R341 -/
  | trapret (g : GIns) (skip : Bool)
  /-- TRAPKILL, R341 -/
  | trapkill (g : GIns) (code : Nat)
  /-- PARK_RETRANSLATE, R344 -/
  | parkRetranslate (mould : Nat) (quarter : Nat) (slot : Nat)
  /-- PARK_EXPIRED, R345 -/
  | parkExpired (mould : Nat) (quarter : Nat) (slot : Nat)
  /-- CVT, R351 -/
  | cvt (g : GIns) (op : CvtOp) (rd : Nat) (ra : Nat)
  /-- CVT_PB, R353 -/
  | cvtPb (g : GIns) (fmt : Fmt) (rd : Nat) (ra : Nat)
  /-- WACQ, R355 -/
  | wacq (g : GIns) (handle : Nat)
  /-- WZERO, R356 -/
  | wzero (g : GIns) (handle : Nat)
  /-- WADD, R357 -/
  | wadd (g : GIns) (handle : Nat) (ra : Nat)
  /-- WSUB, R356 -/
  | wsub (g : GIns) (handle : Nat) (ra : Nat)
  /-- WRED, R356 -/
  | wred (g : GIns) (handle : Nat)
  /-- WRD, R358 -/
  | wrd (g : GIns) (handle : Nat) (rd : Nat)
  /-- WRD2, R358 -/
  | wrd2 (g : GIns) (handle : Nat) (rd : Nat) (rd2 : Nat)
  /-- WFLG, R356 -/
  | wflg (g : GIns) (handle : Nat) (rd : Nat)
  /-- WST, R356 -/
  | wst (g : GIns) (handle : Nat) (addr : Nat)
  /-- WLD, R356 -/
  | wld (g : GIns) (handle : Nat) (addr : Nat)
  /-- WADDW, R356 -/
  | waddw (g : GIns) (handle : Nat) (addr : Nat)
  /-- WREL, R355 -/
  | wrel (g : GIns) (handle : Nat)
  /-- TLD, R395 -/
  | tld (g : GIns) (t : TallyOp)
  /-- TADD, R395 -/
  | tadd (g : GIns) (t : TallyOp)
  /-- TADDR, R395 -/
  | taddr (g : GIns) (t : TallyOp)
  /-- TSET, R395 -/
  | tset (g : GIns) (t : TallyOp)
  /-- TWAIT_GE, R395 -/
  | twaitGe (g : GIns) (t : TallyOp)
  /-- TWAIT_EQ, R395 -/
  | twaitEq (g : GIns) (t : TallyOp)
  /-- TALLY_WAIT_TIMEOUT, R398 -/
  | tallyWaitTimeout (w : WaitSel)
  /-- WATCH_FULL_POLL, R397 -/
  | watchFullPoll (mould : Nat) (quarter : Nat) (slot : Nat)
  /-- SCORE, R416 -/
  | score (g : GIns) (rs : Nat)
  /-- SWAIT, R421 -/
  | swait (g : GIns) (n : Nat)
  /-- XLT_ROOT_WRITE, R384 -/
  | xltRootWrite (vf : Nat) (hi : Bool) (value : Reg32)
  /-- XLT_INV_ALL, R384 -/
  | xltInvAll (vf : Nat) (value : Reg32)
  /-- XLT_INV_RANGE, R384 -/
  | xltInvRange (vf : Nat) (value : Reg32)
  /-- INVALIDATION_DONE, R384 -/
  | invalidationDone (part : Nat)
  /-- TLY_SIG_WRITE, R399 -/
  | tlySigWrite (vf : Nat) (tally : Nat) (value : Reg32)
  /-- BAR2_ACCESS, R377 -/
  | bar2Access (vf : Nat) (addr : Nat) (wr : Option (List Byte)) (len : Nat)
  /-- BATCH_START, R424 -/
  | batchStart
  /-- BATCH_END, R421 -/
  | batchEnd (sel : BatchSel)
  /-- PROBE_PULSE, R457 -/
  | probePulse (k : Nat)
  /-- PRESENCE_DETECT, R457 -/
  | presenceDetect (k : Nat)
  /-- FULL_POWER_START, R457 -/
  | fullPowerStart (k : Nat)
  /-- STRAND_START_TIME, R458 -/
  | strandStartTime (port : Nat)
  /-- TRAINING_STAGE_DONE, R457 -/
  | trainingStageDone (k : Nat) (lanesOk : BitVec 4) (ts : TsBlock)
  /-- TRAINING_STAGE_TIMEOUT, R460 -/
  | trainingStageTimeout (k : Nat)
  /-- MISWIRED_RETRY, R459 -/
  | miswiredRetry (k : Nat) (ts : TsBlock)
  /-- FRAME_TRANSMIT, R469 -/
  | frameTransmit (k : Nat)
  /-- FRAME_RECEIVE, R471 -/
  | frameReceive (k : Nat) (lane : Nat) (bad : Bool) (f : Frame)
  /-- MARKER_RECEIVE, R453 -/
  | markerReceive (k : Nat) (lane : Nat) (bad : Bool) (ts : TsBlock)
  /-- REPLAY_TIMEOUT, R472 -/
  | replayTimeout (k : Nat)
  /-- LANE_RETEST, R474 -/
  | laneRetest (k : Nat) (lane : Nat) (pass : Bool)
  /-- LANE_READMIT, R474 -/
  | laneReadmit (k : Nat) (lane : Nat)
  /-- LOSS_OF_LIGHT, R481 -/
  | lossOfLight (k : Nat)
  /-- RECON_TIMEOUT, R475 -/
  | reconTimeout (k : Nat)
  /-- LIGHT_RETURN_TIMEOUT, R480 -/
  | lightReturnTimeout (k : Nat)
  /-- LOOP_TEST_END, R486 -/
  | loopTestEnd (k : Nat)
  /-- CHL_REQUEST_ISSUE, R467 -/
  | chlRequestIssue
  /-- READ, R464 -/
  | read (k : Nat) (p : Packet)
  /-- WRITE, R465 -/
  | write (k : Nat) (p : Packet)
  /-- ATOMIC, R465 -/
  | atomic (k : Nat) (p : Packet)
  /-- TALLY, R397 -/
  | tally (k : Nat) (p : Packet)
  /-- WATCH, R397 -/
  | watch (k : Nat) (p : Packet)
  /-- WATCH_CANCEL, R464 -/
  | watchCancel (k : Nat) (p : Packet)
  /-- READ_RSP, R468 -/
  | readRsp (k : Nat) (p : Packet)
  /-- WRITE_ACK, R468 -/
  | writeAck (k : Nat) (p : Packet)
  /-- ATOMIC_RSP, R468 -/
  | atomicRsp (k : Nat) (p : Packet)
  /-- TALLY_RSP, R468 -/
  | tallyRsp (k : Nat) (p : Packet)
  /-- WATCH_ANS, R397 -/
  | watchAns (k : Nat) (p : Packet)
  /-- CANCEL_ACK, R468 -/
  | cancelAck (k : Nat) (p : Packet)
  /-- LINKMAP, R484 -/
  | linkmap (k : Nat) (p : Packet)
  /-- LINKMAP_SEND, R484 -/
  | linkmapSend
  /-- DEPART, R485 -/
  | depart (k : Nat) (p : Packet)
  /-- RECON_REQ, R475 -/
  | reconReq (k : Nat) (p : Packet)
  /-- RECON_RSP, R475 -/
  | reconRsp (k : Nat) (p : Packet)
  /-- DACK, R477 -/
  | dack (k : Nat) (p : Packet)
  /-- DACK_SEND, R477 -/
  | dackSend (dst : Nat)
  /-- MGMT_REJECT, R484 -/
  | mgmtReject (k : Nat) (p : Packet)
  /-- CAP, R554 -/
  | cap (k : Nat) (p : Packet)
  /-- STEWBEAT, R685 -/
  | stewbeat (k : Nat) (p : Packet)
  /-- STEWBEAT_SEND, R682 -/
  | stewbeatSend
  /-- MEMBER, R683 -/
  | member (k : Nat) (p : Packet)
  /-- MEMBER_SEND, R682 -/
  | memberSend
  /-- OFFER, R690 -/
  | offer (k : Nat) (p : Packet)
  /-- READY, R690 -/
  | ready (k : Nat) (p : Packet)
  /-- REFUSE, R690 -/
  | refuse (k : Nat) (p : Packet)
  /-- DONE, R690 -/
  | done (k : Nat) (p : Packet)
  /-- READY_TIMEOUT, R690 -/
  | readyTimeout
  /-- BANK_SWEEP, R508 -/
  | bankSweep (bank : Nat) (found : List (List Resonance))
  /-- SUBMOUNT_AT_TEMPERATURE, R521 -/
  | submountAtTemperature (a : Nat) (temp : Int)
  /-- RING_LOCK_UPDATE, R504 -/
  | ringLockUpdate (n : Nat) (ratio : Int)
  /-- NARROW_ACQUIRE, R509 -/
  | narrowAcquire (n : Nat) (found : Option Resonance)
  /-- RING_LOST, R511 -/
  | ringLost (n : Nat) (lowTap : Bool)
  /-- RING_RAIL, R514 -/
  | ringRail (n : Nat) (held : Bool)
  /-- LASER_POWER_UPDATE, R520 -/
  | laserPowerUpdate (a : Nat) (monitor : List Nat)
  /-- WAVELENGTH_FAIL, R523 -/
  | wavelengthFail (a : Nat) (mask : BitVec 16) (submount : Bool)
  /-- SENSOR_SAMPLE, R545 -/
  | sensorSample (n : Nat) (temp : Int)
  /-- THRESHOLD_EXIT, R545 -/
  | thresholdExit (n : Nat) (which : Nat)
  /-- THROTTLE_STEP, R547 -/
  | throttleStep (m : Nat)
  /-- THROTTLE_RELEASE_STEP, R547 -/
  | throttleReleaseStep (m : Nat)
  /-- HBM_THROTTLE_STEP, R550 -/
  | hbmThrottleStep (stack : Nat)
  /-- POWER_CONTROL_TICK, R556 -/
  | powerControlTick (activityW : Nat) (coreW : Nat) (vmin : VcoreNeed)
  /-- ESTIMATE_RESCALE, R556 -/
  | estimateRescale
  /-- CAP_UNMET, R557 -/
  | capUnmet
  /-- PREDICTOR_UPDATE, R560 -/
  | predictorUpdate
  /-- PREDICTOR_REFIT, R560 -/
  | predictorRefit (rTh : Nat) (tau : Nat)
  /-- CAP_FALLBACK, R28 -/
  | capFallback
  /-- WARN_CAUSE_SET, R566 -/
  | warnCauseSet (c : Nat)
  /-- WARN_CAUSE_CLEAR, R566 -/
  | warnCauseClear (c : Nat)
  /-- FLOW_ESTIMATE, R567 -/
  | flowEstimate
  /-- DS_CONVERSION, R586 -/
  | dsConversion (n : Nat) (k : Nat) (raw : DsInput)
  /-- SAR_CONVERSION, R592 -/
  | sarConversion (n : Nat) (k : Nat) (vin : Int)
  /-- STRING_COMPLIANCE_LOSS, R606 -/
  | stringComplianceLoss
  /-- SPAN_WRITE, R599 -/
  | spanWrite (n : Nat) (span : Nat)
  /-- SPAN_HOLD_END, R599 -/
  | spanHoldEnd (n : Nat)
  /-- COMPLIANCE_CHECK, R600 -/
  | complianceCheck (n : Nat) (limited : Bool) (sense : Nat)
  /-- VLOOP_LOSS, R609 -/
  | vloopLoss
  /-- VLOOP_RETURN, R598 -/
  | vloopReturn
  /-- SINE_CHANGE, R602 -/
  | sineChange (n : Nat) (en : Bool) (inc : Nat) (ampl : Nat)
  /-- ROPE_PATH_SWITCH, R604 -/
  | ropePathSwitch
  /-- SLOT_SAMPLE, R614 -/
  | slotSample (s : Nat)
  /-- SLOT_OUTPUT_PHASE, R622 -/
  | slotOutputPhase (s : Nat)
  /-- SETPOINT_WRITE, R626 -/
  | setpointWrite (s : Nat) (value : Reg32)
  /-- SLOT_ENABLE, R639 -/
  | slotEnable (s : Nat)
  /-- SLOT_DISABLE, R639 -/
  | slotDisable (s : Nat)
  /-- PLANISH_STEP, R655 -/
  | planishStep (qty : Nat) (index : Nat) (m : PMeas)
  /-- PLANISH_WITHDRAW, R653 -/
  | planishWithdraw (qty : Nat) (index : Nat) (m : PMeas)
  /-- PLANISH_TAP, R658 -/
  | planishTap (dom : Nat)
  /-- PLANISH_TIMEOUT, R656 -/
  | planishTimeout (dom : Nat)
  /-- PLANISH_OVERDUE, R664 -/
  | planishOverdue (qty : Nat) (index : Nat)
  /-- STEWARD_ELECTION, R684 -/
  | stewardElection
  /-- ROWBEAT_PULSE, R688 -/
  | rowbeatPulse
  /-- ROWBEAT_SEEN, R688 -/
  | rowbeatSeen (lowUs : Nat)
  /-- PRIMARY_LOST, R689 -/
  | primaryLost
  /-- RECOGNITION_DROP, R685 -/
  | recognitionDrop
  /-- STANDBY_NAMING, R686 -/
  | standbyNaming
  /-- NO_UP_STRAND, R687 -/
  | noUpStrand
  /-- RELAY_STEP, R679 -/
  | relayStep
  /-- STEW_EN_HW_RELEASE, R679 -/
  | stewEnHwRelease
  /-- ROW_BUDGET, R704 -/
  | rowBudget
  /-- SETPOINT_RAMP_STEP, R695 -/
  | setpointRampStep
  /-- PUMP_STALL, R694 -/
  | pumpStall (pump : Nat)
  /-- PUMP_RESTORE, R694 -/
  | pumpRestore
  /-- TOOTH_EDGE, R697 -/
  | toothEdge (t : Nat) (time : Nat)
  /-- TOOTH_MISSED, R697 -/
  | toothMissed (t : Nat)
  /-- TRACKER_EVENT, R698 -/
  | trackerEvent (t : Nat) (e : Nat) (time : Nat)
  /-- TIMEBASE_EVENT, R700 -/
  | timebaseEvent (t : Nat) (e : TimedEvent)
  /-- LEAK_STAGE_TIMER, R702 -/
  | leakStageTimer (rope : Nat)
  /-- ROPE_OPEN, R702 -/
  | ropeOpen (rope : RopeLevel)
  /-- FIL_RELEASE_STAGE, R731 -/
  | filReleaseStage
  /-- SWAP_WINDOW, R737 -/
  | swapWindow (n : Nat) (ev : SwapEvents)
  /-- SWAP_STAGING_TIMEOUT, R748 -/
  | swapStagingTimeout
  /-- CONFIG_SCRUB, R742 -/
  | configScrub (n : Nat) (ok : Bool)
  /-- FRAME_END, R724 -/
  | frameEnd (s : Nat)
  /-- SERIAL_CHARACTER, R723 -/
  | serialCharacter (s : Nat) (rx : Bool) (byte : Byte) (gap : Bool)
  /-- FABRIC_FLASH_PROGRAM, R722 -/
  | fabricFlashProgram (n : Nat) (word : Nat) (value : FlashValue)
  /-- FABRIC_FLASH_ERASE, R722 -/
  | fabricFlashErase (n : Nat) (page : FlashPage)
  /-- IN_REG_STROBE, R728 -/
  | inRegStrobe (r : Nat) (value : Reg32)
  /-- SEC_PULSE, R728 -/
  | secPulse
  /-- OSC_TRIM, R719 -/
  | oscTrim (t1 : Nat) (t48 : Nat)
  /-- CAL_MIRROR, R761 -/
  | calMirror
  /-- TOKEN_REFILL, R760 -/
  | tokenRefill (code : Nat)
  /-- HMK_SEAL_WRITE, R153 -/
  | hmkSealWrite (value : Reg32)
  /-- SEALED_FIELD_WRITE, R821 -/
  | sealedFieldWrite (fn : Nat) (offset : Nat) (value : Reg32)
  /-- CLK_ALARM_S_WRITE, R812 -/
  | clkAlarmSWrite (value : Reg32)
  /-- CLK_ALARM_ARM, R812 -/
  | clkAlarmArm (value : Reg32)
  /-- CLK_ALARM_FIRED_CLEAR, R811 -/
  | clkAlarmFiredClear
  /-- REG_LO_READ, R807 -/
  | regLoRead (fn : Nat) (offset : BarOffset)
  /-- REG_WRITE, R11 -/
  | regWrite (fn : Nat) (sel : RegSel) (value : Reg32) (be : Nat)
  /-- REFCLK_LOCKED, R81 -/
  | refclkLocked
  /-- STRING_COMPLIANCE_REGAIN, R590 -/
  | stringComplianceRegain
  /-- VPHO_TOLERANCE_RETURN, R62 -/
  | vphoToleranceReturn
  /-- UNKNOWN_OPCODE, R200 -/
  | unknownOpcode (opcode : Nat) (r : Req)
  /-- FLASH_OPERATION_DONE, R216 -/
  | flashOperationDone (ok : Bool)
  /-- WMK_SET_TIMEOUT, R432 -/
  | wmkSetTimeout
  /-- STRAND_SET_TIMEOUT, R463 -/
  | strandSetTimeout (k : Nat)
  /-- ENTDAA, R228 -/
  | entdaa (addr : Nat)
  /-- PLATFORM_EVENT_MESSAGE_RESPONSE, R234 -/
  | platformEventMessageResponse (sensor : Nat) (offset : Nat)
  /-- WAKE_SIGNAL_TIMEOUT, R98 -/
  | wakeSignalTimeout
  deriving DecidableEq, Repr

end Sys2Proof
end

