-- ==== Sys2Proof/Decode.lean ====
section
/-! DEFINITION. The commands that a word spells. -/
namespace Sys2Proof

/-- The command that a word spells by the bits of spec/opcode_table.json. No row of the table gives bits: the device is a
block that takes commands, and the encodings of Mould instructions are not published (07 R323), so no word spells a
command. -/
def decodeTableWord (_nbits _w : Nat) : Option Instr := none

end Sys2Proof
end

