-- ==== Sys2Proof/Config.lean ====
section
/-! DEFINITION. What the spec leaves open, as constants with no body: nothing in Lean can compute or prove a value of
one of these, so a claim holds whatever their values are. Each is named in an entry of the assumption log. -/
namespace Sys2Proof

/-- A free value: something the spec gives the machine but whose number it does not state. The first argument says
which kind of value it is, the second is the state's own counter of free values (log entry 7). -/
opaque Config.free (kind count : Nat) : Nat

/-- A free value that depends on the operands it is applied to (log entry 7): the same operands give the same value. -/
opaque Config.freeOf (kind : Nat) (args : List Nat) : Nat

/-- The number that stands for item `item` of a list of causes, reasons or verdicts which the spec names and gives no
numbers to (log entry 26); `table` says which list. -/
def Config.codeOf (table item : Nat) : Nat := Config.freeOf (1000 + table) [item] % 256

/-- SHA-384 of a string of bytes, as the 48 bytes of the digest (04 R141, R142). The spec names the published standard and
does not define it, so the function is open (log entry 8). -/
opaque Config.sha384 (data : List Byte) : List Byte

/-- Does an ECDSA P-384 signature (96 bytes, r then s) verify over the data under the public key (96 bytes, x then y)
(04 R142, 05 R207)? Open for the same reason (log entry 8). -/
opaque Config.ecdsaVerifies (pubkey data signature : List Byte) : Bool

end Sys2Proof
end

