-- ==== Sys2Proof/Parts/Filigree.lean ====
section
/-! DEFINITION. State of the Filigree fabric (chapter 18). The encoding of sector payloads is not published (R744), so
the flip-flops of a sector are kept by kind. Each field's docstring reads: meaning; width; file and rule; where its
reset value comes from. -/
namespace Sys2Proof.Machine

/-- Sector states, codes of FIL_SECn.STATE (18 Table 18-7). -/
inductive SecState where
  | empty | running | disabled | swap | fault
  deriving DecidableEq, Repr

/-- FIL_SECn.STATE (18 Table 18-7). -/
def SecState.code : SecState → Nat
  | .empty => 0 | .running => 1 | .disabled => 2 | .swap => 3 | .fault => 4

/-- A sector image as its entry and payload give it (18 Table 18-9). -/
structure SecImage where
  sector : Nat
  carry : Bool
  capCount : Nat
  globalId : Nat
  carryId : Nat
  crc : Nat
  payload : List Byte
  deriving DecidableEq, Repr

/-- A sector. -/
structure Sector where
  /-- FIL_SECn.STATE; 3 bits; 18 Table 18-10; spec: 0 EMPTY -/
  state : SecState := .empty
  /-- parked by DORMANT or SAFE while RUNNING; 1 bit; 18 R733; spec: no -/
  parked : Bool := false
  /-- FIL_SECn.FLASH_ERR; 1 bit; 18 Table 18-10; spec: 0 -/
  flashErr : Bool := false
  /-- FIL_SECn.CAP_OVF; 8 bits; 18 Table 18-10; spec: 0 -/
  capOvf : Nat := 0
  /-- FIL_SECn.LOST_EDGES; 16 bits; 18 Table 18-10; spec: 0 -/
  lostEdges : Nat := 0
  /-- the image in place (FIL_SECn_ID is its CARRY_ID); 18 Table 18-10; spec: none -/
  image : Option SecImage := none
  /-- the retained shadow copy, or an image being staged; 18 R737, R742; spec: none -/
  shadow : Option SecImage := none
  /-- the values of the CARRY, HISTORY and other flip-flops; 256 cells; 18 R738; spec: 0 (unused cells load 0) -/
  carryFf : Nat := 0
  historyFf : Nat := 0
  otherFf : Nat := 0
  /-- boundary capture register; 16 bits; 18 R739; spec: 0 -/
  capture : BitVec 16 := 0
  /-- release stage reached; 2 bits; 18 R731; spec: 0 -/
  release : Nat := 0
  /-- the release in progress reaches its next stage 4 us on; 1 bit; 18 R731; spec: none -/
  releasing : Bool := false
  deriving DecidableEq, Repr, Inhabited

/-- What the global part of a set ties to a boundary input of a sector (18 R718, Table 18-6): nothing, a boundary output of a sector, a user
pin, or a signal of firmware, the loop engine, the array or a serial port, by its number in State.edgeLevel. -/
inductive BoundarySrc where
  | open
  | output (sector bit : Nat)
  | pin (n : Nat)
  | edge (k : Nat)
  deriving DecidableEq, Repr

/-- The levels of routing (18 R718). -/
inductive RouteLevel where
  | local | cluster | global
  deriving DecidableEq, Repr

/-- A serial port (18 Table 18-10). -/
structure SPort where
  /-- MODE; 4 bits; 18 Table 18-3; spec: 0 -/
  mode : Nat := 0
  /-- SECTOR; 4 bits; 18 Table 18-10; spec: 0 -/
  sector : Nat := 0
  /-- GAP_ERR; 8 bits; 18 Table 18-10; spec: 0 -/
  gapErr : Nat := 0
  /-- CRC_ERR; 8 bits; 18 Table 18-10; spec: 0 -/
  crcErr : Nat := 0
  /-- UNDERRUN; 8 bits; 18 Table 18-10; spec: 0 -/
  underrun : Nat := 0
  /-- receive FIFO, oldest first; 256 bytes; 18 R723; spec: empty -/
  rx : List Byte := []
  /-- transmit FIFO, oldest first; 256 bytes; 18 R723; spec: empty -/
  txf : List Byte := []
  /-- bytes of the frame in progress on the line, oldest first; model data; 18 R724; spec: none -/
  frame : List Byte := []
  /-- a gap between t1.5 and t3.5 has lain inside the frame; 1 bit; 18 R724; spec: no -/
  frameGap : Bool := false
  /-- CRC_OK at the last FRAME_END; 1 bit; 18 R724; spec: 0 -/
  crcOk : Bool := false
  /-- FRAME_END raised; 1 bit; 18 R724; spec: 0 -/
  frameEnd : Bool := false
  /-- DE asserted; 1 bit; 18 R724; spec: 0 -/
  de : Bool := false
  deriving DecidableEq, Repr, Inhabited

/-- The fabric. -/
structure Filigree where
  /-- the 16 sectors; 18 Table 18-10; spec -/
  sector : Vector Sector 16 := Vector.replicate 16 {}
  /-- FIL_STAT.BUSY and BUSY_SEC; 5 bits; 18 Table 18-10; spec: none -/
  busy : Option Nat := none
  /-- FIL_STAT.RELEASE; 2 bits; 18 Table 18-10; spec: 0 -/
  release : Nat := 0
  /-- the serial ports; 18 Table 18-10; spec -/
  port : Vector SPort 8 := Vector.replicate 8 {}
  /-- park values of the 48 user pins: 0, 1 or Z (2); 48 x 2 bits; 18 R725; spec: Z where the set leaves a pin unconfigured -/
  park : Vector Nat 48 := Vector.replicate 48 2
  /-- fabric flash, bytes that are not 0xFF; 512 KiB; 18 R722; DESIGN CHOICE 3 (erased) -/
  flash : Mem := []
  /-- words programmed since their erase, by word number; 65,536 words; 18 R722; DESIGN CHOICE 3 -/
  programmed : List Nat := []
  /-- words that read uncorrectable; 65,536 words; 18 R722; DESIGN CHOICE 3 -/
  badWords : List Nat := []
  /-- owner of each flash region, none for 0xFF; 8 x 8 bits; 18 Table 18-9; DESIGN CHOICE 2 -/
  region : Vector (Option Nat) 8 := Vector.replicate 8 none
  /-- GLOBAL_ID of the running set; 32 bits; 18 Table 18-9; DESIGN CHOICE 2 -/
  globalId : Nat := 0
  /-- REG_OWN masks: OUT_REGr read by the fabric, IN_REGr written by it; 2 x 32 bits; 18 Table 18-9; DESIGN CHOICE 2 -/
  regRead : BitVec 32 := 0
  regWrite : BitVec 32 := 0
  /-- sources of the global clock lines (CLK[g]); 8 x 32 bits; 18 Table 18-9; DESIGN CHOICE 2 -/
  clk : Vector Reg32 8 := Vector.replicate 8 0
  /-- IN_REGr as latched, and SEQ of its sample; 32 x 36 bits; 18 Table 18-6; DESIGN CHOICE 2 -/
  inReg : Vector (Reg32 × Nat) 32 := Vector.replicate 32 (0, 0)
  /-- OUT_REGr; 32 x 32 bits; 18 Table 18-6; DESIGN CHOICE 2 -/
  outReg : Vector Reg32 32 := Vector.replicate 32 0
  /-- ROLE_PRIMARY and ROLE_STANDBY; 2 bits; 18 Table 18-6; spec: 0 -/
  rolePrimary : Bool := false
  roleStandby : Bool := false
  /-- LEAK0-3; 4 bits; 18 Table 18-6; spec: 0 -/
  leak : BitVec 4 := 0
  /-- TRK_TB0-1; 2 bits; 18 Table 18-6; spec: 0 -/
  trkTb : BitVec 2 := 0
  /-- the last trims of the 1 MHz and 48 MHz oscillators, none before the first; 2 x 16 bits; 18 R719; spec: none -/
  oscTrim : Option (Nat × Nat) := none
  deriving DecidableEq, Repr, Inhabited

end Sys2Proof.Machine
end

