-- ==== Sys2Proof/Parts/Out.lean ====
section
/-! DEFINITION. What the device sends out of itself: writes to host memory, vectors, messages, frames, bus transactions
and pulses. The model keeps what was sent (log entry 6). -/
namespace Sys2Proof.Machine

/-- What the device sends out of itself. The list of these is the model's own field: the spec gives the device these
outputs and the model keeps what was sent. -/
inductive Out where
  /-- an MSI-X vector of a function (0 for PF0, v for VF v) -/
  | msix (fn vec : Nat)
  /-- bytes written to host memory of a function -/
  | hostWrite (fn addr : Nat) (data : List Byte)
  /-- a Damem response over MCTP, with the PCI vendor ID that its message carries (05 R230) -/
  | mctpDamem (b : Binding) (vendor : Nat) (r : Resp)
  /-- an MCTP control response: command, completion code, data -/
  | mctpControl (cmd cc : Nat) (data : List Nat)
  /-- a PLDM response: type, command, completion code, data -/
  | pldm (type cmd cc : Nat) (data : List Int)
  /-- a PLDM platform event: receiver, sensor, offset, value -/
  | pldmEvent (receiver sensor offset : Nat) (value : Int)
  /-- a frame or a marker on a lane of a strand -/
  | frame (strand lane : Nat) (f : Frame)
  | marker (strand lane : Nat) (ts : TsBlock)
  /-- a Chainline control of a strand: what is sent -/
  | strandControl (strand : Nat) (what : String) (args : List Nat)
  /-- an AVSBus or PMBus transaction of the device -/
  | bus (what : String) (args : List Nat)
  /-- the value a host read returned: function, register offset, value -/
  | readData (fn offset : Nat) (value : Nat)
  /-- the same of a read of BAR4 -/
  | readBar4 (fn offset : Nat) (value : Nat)
  /-- a pulse on a land or to the fabric -/
  | pulse (what : String) (arg : Nat)
  deriving DecidableEq, Repr

end Sys2Proof.Machine
end

