-- ==== Sys2Proof/Parts/Planish.lean ====
section
/-! DEFINITION. State of Planish (chapter 16). Each field's docstring reads: meaning; width; file and rule; where its
reset value comes from. -/
namespace Sys2Proof.Machine

/-- The state of one calibrated item (16 Table 16-2). -/
structure PItem where
  qty : Nat
  index : Nat
  /-- PLANISH_RUN status of the latest step, none before the first (R668) -/
  last : Option Status := none
  /-- Calender seconds of its end -/
  timeS : Nat := 0
  /-- steps since cold reset -/
  count : Nat := 0
  /-- consecutive steps not ending DONE, to 3 -/
  fails : Nat := 0
  /-- FAILED (R663) -/
  failed : Bool := false
  /-- OVERDUE (R664) -/
  overdue : Bool := false
  /-- ended DONE since cold reset (R665) -/
  doneOnce : Bool := false
  /-- the results of the last DONE step, against which the next is judged (R656) -/
  coef : List Int := []
  /-- positions of the coefficients that move tap by tap, each at its place among the coefficients, in taps from design
  (R658, R660) -/
  tapPos : List Int := []
  deriving DecidableEq, Repr

/-- A step in progress (16 R655): one that has passed phase 4 and is being applied, or a withdrawn converter. -/
structure PStep where
  qty : Nat
  index : Nat
  /-- phase 1-5 -/
  phase : Nat := 5
  /-- tap-by-tap coefficients: taps to move in all, taps left -/
  taps : List (Int × Int) := []
  /-- the result measured -/
  result : List Int := []
  /-- correction, ppm -/
  ppm : Int := 0
  /-- a channel, lane or converter is withdrawn for it -/
  withdrawn : Bool := false
  deriving DecidableEq, Repr

/-- Planish. -/
structure Planish where
  /-- PLN_STAT.FIRST_PASS; 1 bit; 16 Table 16-9; spec: 0 -/
  firstPass : Bool := false
  /-- items with a history; 1,936 items; 16 Table 16-2; spec: none since cold reset -/
  items : List PItem := []
  /-- the step of each domain in progress; 5 steps; 16 Table 16-9; spec: none -/
  dom : Vector (Option PStep) 5 := Vector.replicate 5 none
  deriving DecidableEq, Repr, Inhabited

end Sys2Proof.Machine
end

