-- ==== Sys2Proof/Parts/Thermal.lean ====
section
/-! DEFINITION. State of the on-die sensors, the throttles, the power controller and the cooling warning (chapter 13).
Temperatures are in 0.01 degrees C. Each field's docstring reads: meaning; width; file and rule; where its reset value
comes from. -/
namespace Sys2Proof.Machine

/-- One threshold state (warning, throttle or critical) of a sensor (13 R545, R546). -/
structure Cross where
  /-- in the state; 1 bit; 13 Table 13-3; spec: 0 -/
  inState : Bool := false
  /-- consecutive samples at or above the threshold, to 3; 2 bits; 13 R545; spec: 0 -/
  above : Nat := 0
  /-- uptime since which the reading has stayed below the lower edge; 48 bits; 13 R545; spec: none -/
  belowSince : Option Nat := none
  /-- uptime and INDEX of the last record of an entry; 80 bits; 13 R546; spec: none -/
  recEntry : Option (Nat × Nat) := none
  /-- uptime and INDEX of the last record of an exit; 80 bits; 13 R546; spec: none -/
  recExit : Option (Nat × Nat) := none
  deriving DecidableEq, Repr, Inhabited

/-- An on-die sensor (13 Table 13-3). -/
structure Sensor where
  /-- THM_SENSn.TEMP, as last sampled; 16 bits signed; 13 Table 13-3; spec: 0 -/
  temp : Int := 0
  /-- THM_SENSn.INVALID; 1 bit; 13 Table 13-3; spec: 1 -/
  invalid : Bool := true
  /-- a sample has arrived since cold reset and is not stale; 1 bit; 13 R542; spec: no -/
  fresh : Bool := false
  /-- uptime of the last sample; 48 bits; 13 R542; spec: none -/
  sampledAt : Nat := 0
  /-- uptime at which the reading last changed; 48 bits; 13 R542; spec: none -/
  changedAt : Nat := 0
  /-- the readings of the sensor's group at that moment; 80 x 16 bits; 13 R542; spec: none -/
  groupThen : List Int := []
  /-- Planish flagged the sensor (R574); 1 bit; 13 R574; spec: no -/
  flagged : Bool := false
  /-- calibration offset, set by Planish; 16 bits; 13 R541; DESIGN CHOICE 2 -/
  offset : Int := 0
  /-- the three threshold states: warning, throttle, critical; 13 R545; spec -/
  cross : Vector Cross 3 := Vector.replicate 3 {}
  deriving DecidableEq, Repr, Inhabited


/-- Heat and power. -/
structure Thermal where
  /-- the 140 on-die sensors; 13 Table 13-2; spec -/
  sens : Vector Sensor 140 := Vector.replicate 140 {}
  /-- THM_THRg; 5 x 32 bits; 13 Table 13-5; spec: defaults of Table 13-4 -/
  thr : Vector Reg32 5 := #v[0x5F646E24, 0x5F646E24, 0x50005A20, 0x555F6924, 0x5F007320]
  /-- THM_WARN causes [10:0]; 11 bits; 13 Table 13-9; spec: 0 -/
  warn : BitVec 11 := 0
  /-- request rate of each HBM stack in eighths of peak; 8 x 4 bits; 13 R550; spec: full -/
  hbmRate : Vector Nat 8 := Vector.replicate 8 8
  /-- the Moulds that group 1 sensors throttle, as (sensor, Mould); 16 x 5 bits; 13 R548; spec: none -/
  byGroup1 : List (Nat × Nat) := []
  /-- Moulds held at step 8 for want of a valid sensor; 16 bits; 13 R570; spec: none -/
  blind : BitVec 16 := 0
  /-- PWR_CAP.CAP_W; 11 bits; 13 Table 13-8; spec: 0 -/
  capW : Nat := 0
  /-- PWR_CAP.SRC; 2 bits; 13 Table 13-8; spec: 0b01 row fallback -/
  capSrc : Nat := 1
  /-- uptime of the last accepted cap packet (PWR_CAP.AGE_MS); 48 bits; 13 Table 13-8; spec: none (0xFFFF) -/
  capAt : Option Nat := none
  /-- role epoch and SEQ of the last accepted cap packet; 48 bits; 13 R554; spec: none -/
  capSeq : Option (Nat × Nat) := none
  /-- uptime of the last 0x6006 record; 48 bits; 13 R554; spec: none -/
  capDiscardAt : Option Nat := none
  /-- the power controller's estimates of the package and of VCORE plus VSRAM, and whether it held the device at its cap, of the last
  10,000 ticks of 10 us, newest first; 10,000 x 33 bits; 13 Table 13-8, 17 Table 17-4; spec: none -/
  power : List (Nat × Nat × Bool) := []
  /-- for how many ticks of the 32,768 Hz clock how many Moulds were throttled, newest first, at most the last 10 s; model data; 13
  Table 13-9; spec: none -/
  throttleRuns : List (Nat × Nat) := []
  /-- PWR_EST.PKG_W; 16 bits; 13 Table 13-8; spec: 0 -/
  pkgW : Nat := 0
  /-- PWR_EST.CORE_W; 16 bits; 13 Table 13-8; spec: 0 -/
  coreW : Nat := 0
  /-- scale of the estimate, in 1/65,536; 32 bits; 13 R556; DESIGN CHOICE 2 (one) -/
  scale : Nat := 65536
  /-- PWR_LIM.M_CAP; 8 bits; 13 Table 13-8; spec: 156 -/
  mCap : Nat := 156
  /-- PWR_LIM.DUTY; 4 bits; 13 Table 13-8; spec: 8 -/
  duty : Nat := 8
  /-- PWR_LIM.RAMP_ALLOW; 16 bits; 13 Table 13-8; spec: 0xFFFF -/
  rampAllow : Nat := 0xFFFF
  /-- the warming load's floor on CORE_W, W, 0 while inactive; 16 bits; 13 R562; spec: 0 -/
  rampFloor : Nat := 0
  /-- t_pred in 1/65,536 degrees C; 40 bits; 13 R560; DESIGN CHOICE 2 -/
  tPred : Int := 0
  /-- r_th in 1/1,000,000 K/W; 20 bits; 13 R560; spec: 0.035 -/
  rTh : Nat := 35000
  /-- tau in ms; 13 bits; 13 R560; spec: 1.5 s -/
  tau : Nat := 1500
  /-- predictor history in ms, at most 600,000; 20 bits; 13 R560, 03 R178; spec: 0 -/
  history : Nat := 0
  /-- Moulds on which the warming load runs; 16 bits; 13 R563, 03 R115; spec: none -/
  warming : BitVec 16 := 0
  /-- the entry into the row fallback cap in force wrote its record; 1 bit; 01 R28, 04 R170; spec: no -/
  fellBack : Bool := false
  /-- a cap below the WARM floor prevents the band, and has been recorded; 1 bit; 03 R116; spec: no -/
  warmCapped : Bool := false
  /-- compute-die samples that a start in RAMP mode has taken to seed the limiter, none while no start takes them; at most 3 x 16
  bits; 03 R117; spec: none -/
  seed : Option (List Int) := none
  /-- the WARM floor in force, W; 11 bits; 03 R115; spec: 350 -/
  warmFloor : Nat := 350
  /-- a temperature fall beyond the ramp bound has been recorded for this episode; 1 bit; 13 R565; spec: no -/
  rampEpisode : Bool := false
  /-- plate inlet temperature by the plate RTD in 0.001 degrees C, none while its reading is lost; 32 bits; 02 R53; DESIGN CHOICE 2 -/
  inletM : Option Int := none
  /-- plate outlet temperature in 0.001 degrees C; 32 bits; 02 R53; DESIGN CHOICE 2 -/
  outletM : Option Int := none
  /-- inlet readings of the last 1 s, as (uptime, 0.001 degrees C), newest first; model data; 12 R528; spec: none -/
  inletHist : List (Nat × Int) := []
  /-- plate flow estimate, 0.01 L/min, none while not judged; 16 bits; 13 R567; DESIGN CHOICE 2 -/
  flow : Option Nat := none
  /-- uptime of the last COOLING notice for a further cause; 48 bits; 13 R568; spec: none -/
  coolNoticeAt : Option Nat := none
  deriving DecidableEq, Repr, Inhabited

/-- Package power over the last 100 ms, W (17 Table 17-4). -/
def Thermal.pkgMean (t : Thermal) : Nat := (t.power.map (·.1)).sum / max 1 t.power.length
/-- The controller held the device at its cap for more than half of the last 100 ms (17 R682). -/
def Thermal.capped (t : Thermal) : Bool := 5000 < (t.power.filter (·.2.2)).length

/-- Plate inlet temperature in 0.01 degrees C. -/
def Thermal.tIn (t : Thermal) : Option Int := t.inletM.map fun x => x / 10
/-- Plate outlet temperature in 0.01 degrees C. -/
def Thermal.tOut (t : Thermal) : Option Int := t.outletM.map fun x => x / 10

end Sys2Proof.Machine
end

