-- ==== Sys2Proof/Machine/State.lean ====
section
/-! DEFINITION. The state of the device: every register, buffer, counter, mode and pin that the spec gives it, in the
parts of Sys2Proof/Parts, and the queue of the commands that are waiting. -/
namespace Sys2Proof.Machine

/-- Why a command cannot act. -/
inductive Fault where
  /-- Raised by the meanings whose operands name a unit (a strand, a ring, a Mould, a sensor ...) that the device does not
  have: the spec gives no such command. Safe: the machine stops where the hardware has nothing to do. -/
  | noSuchUnit
  deriving DecidableEq, Repr

/-- Why a command has no meaning. -/
inductive Refusal where
  /-- Raised by an arm of `exec` whose command is not modelled. Safe: nothing is claimed of it. -/
  | notModelled (mnemonic : String)
  deriving DecidableEq, Repr

/-- The device. -/
structure State where
  supply : Supply := {}
  clocks : Clocks := {}
  dev : Dev := {}
  /-- the eight always-on comparators (03 Table 03-7) -/
  cmp : Vector Cmp 8 := Vector.replicate 8 {}
  otp : Otp := {}
  flash : Flash := {}
  hmk : Hmk := {}
  boot : Boot := {}
  update : Update := {}
  row : RowCfg := {}
  damem : DamemSt := {}
  cal : Cal := {}
  /-- the sixteen partitions (06) -/
  part : Vector Part 16 := Vector.replicate 16 {}
  /-- the sixty-four rings (06) -/
  ring : Vector Ring 64 := Vector.replicate 64 {}
  /-- the sixteen Moulds (07) -/
  mould : Vector Mould 16 := Vector.replicate 16 {}
  mem : Memory := {}
  tally : Tallies := {}
  sriov : Sriov := {}
  wmk : Scorer := {}
  mesh : Mesh := {}
  pho : Photonic := {}
  thm : Thermal := {}
  aar : Analog := {}
  lpe : LoopEngine := {}
  /-- the loop program in use, whose steward section is applied at a change of role (14 R581) -/
  prog : LoopProg := {}
  pln : Planish := {}
  stew : Steward := {}
  fil : Filigree := {}
  /-- what the device has sent out of itself, newest first (the model's own field, log entry 6) -/
  out : List Out := []
  /-- the number of free values taken so far (the model's own field, log entry 7) -/
  freeCtr : Nat := 0
  /-- the commands that are waiting, first in, first out -/
  pending : List Instr := []
  deriving DecidableEq, Repr, Inhabited

/-- The device in reset: VDECK present, PORST# asserted (log entry 1), every register at its reset value (log entries 2 to
4 where the spec gives none), no command waiting. -/
def State.reset : State := {}

end Sys2Proof.Machine
end

