-- ==== Sys2Proof/Machine/Operands.lean ====
section
/-! DEFINITION. Reading the fields of requests, images, sheets and messages, and laying out the fields the device writes:
everything is little-endian (00 R8, 05 Table 05-4). -/
namespace Sys2Proof.Machine

/-- Bits `lo` to `hi` of a number. -/
def bitsOf (x hi lo : Nat) : Nat := x / 2 ^ lo % 2 ^ (hi + 1 - lo)

/-- Bit `i` of a number. -/
def bitOf (x i : Nat) : Bool := x / 2 ^ i % 2 == 1

/-- A number of `n` bytes, least significant byte first. -/
def leBytes : Nat → Nat → List Byte
  | 0, _ => []
  | n + 1, x => BitVec.ofNat 8 x :: leBytes n (x / 256)

/-- The number that bytes spell, least significant first. -/
def leNat : List Byte → Nat
  | [] => 0
  | b :: r => b.toNat + 256 * leNat r

/-- The `n` bytes at offset `off`; bytes beyond the end read 0. -/
def bytesAt (l : List Byte) (off n : Nat) : List Byte :=
  let r := (l.drop off).take n
  r ++ List.replicate (n - r.length) 0

/-- A field of `n` bytes at offset `off`. -/
def fld (l : List Byte) (off n : Nat) : Nat := leNat (bytesAt l off n)

/-- A two's complement field. -/
def sgn (bits x : Nat) : Int := if x < 2 ^ (bits - 1) then x else (x : Int) - 2 ^ bits

/-- The two's complement number of `bits` bits that holds an integer. -/
def unsgn (bits : Nat) (x : Int) : Nat := (x % (2 ^ bits : Int)).toNat

/-- A signed field of `n` bytes at offset `off`. -/
def sfld (l : List Byte) (off n : Nat) : Int := sgn (8 * n) (fld l off n)

/-- All bytes of a range are 0. -/
def zeroAt (l : List Byte) (off n : Nat) : Bool := (bytesAt l off n).all (· == 0)

/-- Fields one after the other, each at the first offset that is a multiple of its own size (19 R854). -/
def layFields (fs : List (Nat × Nat)) : List Byte :=
  fs.foldl (fun acc f =>
    acc ++ List.replicate ((f.1 - acc.length % f.1) % f.1) 0 ++ leBytes f.1 f.2) []

/-- The PARAM of a record: 16 bytes, laid out from its fields as (size, value) (19 R854). -/
def param (fs : List (Nat × Nat)) : List Byte :=
  let b := layFields fs
  (b ++ List.replicate (16 - b.length) 0).take 16

/-- A register word of fields given as (low bit, value). -/
def regWord (fs : List (Nat × Nat)) : Reg32 := BitVec.ofNat 32 (fs.foldl (fun a f => a + f.2 * 2 ^ f.1) 0)

/-- 1 for true. -/
def b2n (b : Bool) : Nat := if b then 1 else 0

/-- The positions of the bits that are 1 among the lowest `n`. -/
def bitsSet (n x : Nat) : List Nat := (List.range n).filter (fun i => bitOf x i)

/-- The mask of the positions of a list. -/
def maskOf (l : List Nat) : Nat := l.foldl (fun a i => if bitOf a i then a else a + 2 ^ i) 0

/-- Rounding to nearest with ties to even of `n / d`, for a positive `d`. -/
def rneDiv (n : Int) (d : Nat) : Int :=
  let q := n.ediv d
  let r := n.emod d
  if 2 * r < d then q else if 2 * r > d then q + 1 else if q % 2 = 0 then q else q + 1

/-- A value held within a range. -/
def clampInt (lo hi x : Int) : Int := if x < lo then lo else if hi < x then hi else x

/-- Number of bits set among the lowest `n`. -/
def popCount (n x : Nat) : Nat := (bitsSet n x).length

/-- One bit of a reflected CRC with polynomial `poly`. -/
def crcBit (poly c : Nat) : Nat := if c % 2 = 1 then Nat.xor (c / 2) poly else c / 2
/-- One byte of a reflected CRC. -/
def crcByte (poly c : Nat) (b : Byte) : Nat :=
  let x := Nat.xor c b.toNat
  crcBit poly (crcBit poly (crcBit poly (crcBit poly (crcBit poly (crcBit poly (crcBit poly (crcBit poly x)))))))
/-- CRC-32 of IEEE 802.3 (04 Table 04-5). -/
def crc32 (l : List Byte) : Nat := Nat.xor (l.foldl (crcByte 0xEDB88320) 0xFFFFFFFF) 0xFFFFFFFF
/-- CRC-16 of Modbus over a frame, its own two CRC bytes included: 0 where the frame is good (18 R724). -/
def modbusCrc (l : List Byte) : Nat := l.foldl (crcByte 0xA001) 0xFFFF

end Sys2Proof.Machine
end

