-- ==== Sys2Proof/Machine/Ops.lean ====
section
/-! DEFINITION. The named operations over the state that the meanings share: time, free values, Calender records and
notices, byte memory, and one update per table of the state. -/
namespace Sys2Proof.Machine

/-- What a meaning answers. -/
abbrev Res := Host.Outcome State Fault Refusal


/-! ### Tables of the state -/

def State.updPart (s : State) (p : Nat) (f : Part → Part) : State := { s with part := Table.upd s.part p f }
def State.partAt (s : State) (p : Nat) : Part := Table.at s.part p {}
def State.updRing (s : State) (r : Nat) (f : Ring → Ring) : State := { s with ring := Table.upd s.ring r f }
def State.ringAt (s : State) (r : Nat) : Ring := Table.at s.ring r {}
def State.updMould (s : State) (m : Nat) (f : Mould → Mould) : State := { s with mould := Table.upd s.mould m f }
def State.mouldAt (s : State) (m : Nat) : Mould := Table.at s.mould m {}
def State.updCmp (s : State) (n : Nat) (f : Cmp → Cmp) : State := { s with cmp := Table.upd s.cmp n f }
def State.cmpAt (s : State) (n : Nat) : Cmp := Table.at s.cmp n {}
def State.updPage (s : State) (m : Nat) (f : MbxPage → MbxPage) : State :=
  { s with damem := { s.damem with page := Table.upd s.damem.page m f } }
def State.pageAt (s : State) (m : Nat) : MbxPage := Table.at s.damem.page m {}
def State.updStrand (s : State) (k : Nat) (f : Strand → Strand) : State :=
  { s with mesh := { s.mesh with strand := Table.upd s.mesh.strand k f } }
def State.strandAt (s : State) (k : Nat) : Strand := Table.at s.mesh.strand k {}
def State.updRing704 (s : State) (n : Nat) (f : Ring704 → Ring704) : State :=
  { s with pho := { s.pho with ring := Table.upd s.pho.ring n f } }
def State.ring704At (s : State) (n : Nat) : Ring704 := Table.at s.pho.ring n {}
def State.updLaser (s : State) (a : Nat) (f : Laser → Laser) : State :=
  { s with pho := { s.pho with laser := Table.upd s.pho.laser a f } }
def State.laserAt (s : State) (a : Nat) : Laser := Table.at s.pho.laser a {}
def State.updSens (s : State) (n : Nat) (f : Sensor → Sensor) : State :=
  { s with thm := { s.thm with sens := Table.upd s.thm.sens n f } }
def State.sensAt (s : State) (n : Nat) : Sensor := Table.at s.thm.sens n {}
def State.updAout (s : State) (n : Nat) (f : AOut → AOut) : State :=
  { s with aar := { s.aar with aout := Table.upd s.aar.aout n f } }
def State.aoutAt (s : State) (n : Nat) : AOut := Table.at s.aar.aout n {}
def State.updSlot (s : State) (n : Nat) (f : Slot → Slot) : State :=
  { s with lpe := { s.lpe with slot := Table.upd s.lpe.slot n f } }
def State.slotAt (s : State) (n : Nat) : Slot := Table.at s.lpe.slot n {}
def State.updSector (s : State) (n : Nat) (f : Sector → Sector) : State :=
  { s with fil := { s.fil with sector := Table.upd s.fil.sector n f } }
def State.sectorAt (s : State) (n : Nat) : Sector := Table.at s.fil.sector n {}
def State.updRope (s : State) (n : Nat) (f : Rope → Rope) : State :=
  { s with stew := { s.stew with rope := Table.upd s.stew.rope n f } }
def State.ropeAt (s : State) (n : Nat) : Rope := Table.at s.stew.rope n {}
def State.updTrk (s : State) (n : Nat) (f : Tracker → Tracker) : State :=
  { s with stew := { s.stew with trk := Table.upd s.stew.trk n f } }
def State.trkAt (s : State) (n : Nat) : Tracker := Table.at s.stew.trk n {}

/-! ### Outputs and free values -/

/-- The device sends something out of itself. -/
def State.emit (s : State) (o : Out) : State := { s with out := o :: s.out }

/-- A free value of a kind (log entry 7), and the state that has taken it. -/
def State.free (s : State) (kind : Nat) : Nat × State := (Config.free kind s.freeCtr, { s with freeCtr := s.freeCtr + 1 })

/-- The device's PCI vendor ID, which the spec does not state (log entry 7). -/
def pciVendor : Nat := Config.freeOf 47 [] % 65536

/-! ### Time (19 R753, R756) -/

/-- Uptime in ticks of 1/32,768 s. -/
def State.now (s : State) : Nat := s.clocks.uptime

/-- Femtoseconds in a second. -/
def fsPerS : Nat := 1000000000000000

/-- The time stamp of the present moment: TIME_INVALID, seconds, and the fraction rounded to 1/65,536 s (19 Table 19-2, R756). -/
def State.stamp (s : State) : Bool × Nat × Nat :=
  if s.clocks.timeValid then
    let n := (s.clocks.calFs * 65536 + fsPerS / 2) / fsPerS
    (false, n / 65536 % 2 ^ 32, n % 65536)
  else (true, s.clocks.uptime / 32768 % 2 ^ 32, s.clocks.uptime % 32768 * 2)

/-- Ticks in a number of microseconds, rounded down. -/
def ticksOfUs (us : Nat) : Nat := us * 32768 / 1000000

/-- Whole milliseconds in a number of ticks. -/
def msOfTicks (t : Nat) : Nat := t * 1000 / 32768

/-- The uptime that lies a number of milliseconds ahead. -/
def State.inMs (s : State) (ms : Nat) : Nat := s.now + (ms * 32768 + 999) / 1000

/-- The milliseconds that are left to an uptime, rounded up. -/
def State.msLeft (s : State) (t : Nat) : Nat := ((t - s.now) * 1000 + 32767) / 32768

/-! ### MSI-X and notices (05 R219-R221, 06 R248) -/

/-- A vector of a function, where the endpoint is ready and its table has the entry (06 R248). -/
def State.raiseMsix (s : State) (fn vec : Nat) : State :=
  if s.supply.endpoint = .ready ∧ vec < (if fn = 0 then 128 else 120) then s.emit (.msix fn vec) else s

/-- The function of mailbox `m`: VF m + 1, or PF0 for mailbox 16 (05 R193). -/
def mbxFn (m : Nat) : Nat := if m = 16 then 0 else m + 1

/-- Write one entry into the notice ring of mailbox `m`, at index PI mod 8, and raise the vector (05 R219). NSEQ numbers the entries
written: a notice that is only counted in LOST takes none (DESIGN CHOICE, log entry 114). -/
def State.putNotice (s : State) (m : Nat) (n : Notice) : State :=
  let pg := s.pageAt m
  let s1 := s.updPage m fun pg =>
    { pg with ring := Table.put pg.ring (pg.pi % 8) (some { n with nseq := pg.nseq }), pi := (pg.pi + 1) % 256,
              nseq := (pg.nseq + 1) % 2 ^ 32 }
  if pg.noticeIe then s1.raiseMsix (mbxFn m) pg.vec else s1

/-- Free entries in the notice ring of a page; none while CI is beyond PI or more than eight behind it. -/
def MbxPage.noticeRoom (pg : MbxPage) : Nat := 8 - (pg.pi + 256 - pg.ci) % 256

/-- The lost-notices entry (05 R219). No event raises it and the spec gives it neither CODE nor RAISE: CODE 0 and RAISE 1 (DESIGN CHOICE,
log entry 114). -/
def lostNotice (s : State) (lost : Nat) : Notice :=
  let t := s.stamp
  { nclass := 0xFF, code := 0, nseq := 0, timeS := t.2.1, timeF := t.2.2, timeInvalid := t.1, raise := true,
    param := param [(4, lost)] }

/-- The lost-notices entry goes first where it is due and there is room (05 R219). -/
def State.flushLost (s : State) (m : Nat) : State :=
  let pg := s.pageAt m
  if pg.lostDue ∧ 0 < pg.noticeRoom then
    (s.updPage m fun pg => { pg with lostDue := false }).putNotice m (lostNotice s pg.lost)
  else s

/-- Write a notice to mailbox `m`, or count it in LOST where the ring is full (05 R219). -/
def State.noticeTo (s : State) (m : Nat) (n : Notice) : State :=
  let s1 := s.flushLost m
  if 0 < (s1.pageAt m).noticeRoom then s1.putNotice m n
  else s1.updPage m fun pg => { pg with lost := satInc 32 pg.lost, lostDue := true }

/-- Deliver a notice to mailbox `m`: now, or queued while the endpoint is off or in reset, at most 8 (05 R221). -/
def State.deliverNotice (s : State) (m : Nat) (n : Notice) : State :=
  if s.supply.endpoint = .ready then s.noticeTo m n
  else s.updPage m fun pg =>
    if pg.queued.length < 8 then { pg with queued := pg.queued ++ [n] }
    else { pg with lost := satInc 32 pg.lost, lostDue := true }

/-- Classes permitted on a mailbox (05 Table 05-16). -/
def permittedMask (m : Nat) : BitVec 9 := if m = 16 then 0b111111111 else 0b100010111

/-- Is a notice of class `c` about partition `part` for mailbox `m`? A partition's own events, all of them on mailbox 16
(05 Table 05-16). -/
def State.noticeFor (s : State) (m c : Nat) (part : Option Nat) : Bool :=
  (s.pageAt m).mask.getLsbD c && (permittedMask m).getLsbD c && (m == 16 || c != 2 || part == some m)

/-- Post a notice to every mailbox that subscribes to its class (05 R219). -/
def State.postNotice (s : State) (c : Nat) (part : Option Nat) (n : Notice) : State :=
  (List.range 17).foldl (fun s m => if State.noticeFor s m c part then s.deliverNotice m { n with nclass := c } else s) s

/-- Post a notice of its own, with the present time (05 Table 05-14). -/
def State.noticeNow (s : State) (c code : Nat) (raise : Bool) (prm : List Byte) (part : Option Nat := none) : State :=
  let t := s.stamp
  s.postNotice c part
    { nclass := c, code := code, nseq := 0, timeS := t.2.1, timeF := t.2.2, timeInvalid := t.1,
      raise := raise, param := prm }

/-! ### Calender records (19 R753-R761, R766, R767) -/

/-- The default limit B/r of a code, none for a code that is not limited (19 Table 19-5). -/
def codeLimit (c : Nat) : Option (Nat × Nat) :=
  if c ∈ [0x0004, 0x0006, 0x0007, 0x2002, 0x2005, 0x2006, 0x4007, 0x6002, 0x6005, 0x7003, 0x8005, 0x9002] then some (8, 4)
  else if c ∈ [0x0009, 0x100A, 0x100E] then some (1, 1)
  else if c ∈ [0x1008, 0x100C, 0x100D, 0x2009, 0x4005, 0x4006, 0x6004, 0x6007, 0x6008, 0x7002, 0x8002, 0x9003, 0xA004,
      0xA005] then some (4, 1)
  else if c = 0x2001 ∨ (0x2101 ≤ c ∧ c ≤ 0x210B) ∨ (0x2200 ≤ c ∧ c ≤ 0x22FF) ∨ c = 0x3003 ∨ c = 0x3004 ∨ c = 0x9001 then
    some (16, 60)
  else if c ∈ [0x2003, 0x3002, 0x4002] then some (32, 120)
  else if c = 0x3001 ∨ (0x5001 ≤ c ∧ c ≤ 0x5008) then some (64, 600)
  else if c = 0x6006 then some (1, 6)
  else none

/-- The limit of a code in force: the row configuration image may set it for a limited code (19 R760). -/
def State.limitOf (s : State) (c : Nat) : Option (Nat × Nat) :=
  match codeLimit c with
  | none => none
  | some d => match s.row.rates.find? (fun e => e.1 == c) with
    | some e => some (e.2.1, e.2.2)
    | none => some d

/-- Does the mesh or the scorer hear of an event of laser array `a` (19 Table 19-5)? The class of the position it serves. -/
def State.arrayClass (s : State) (a : Nat) : Nat :=
  let pos := if a < 20 then a else (Table.at s.pho.spare (a - 20) none).getD a
  if pos < 16 then 3 else 4

/-- The class of the notice that a record raises (19 Table 19-5), none where it raises none. -/
def State.noticeClass (s : State) (c : Nat) (p : List Byte) : Option Nat :=
  let u8 (i : Nat) : Nat := fld p i 1
  if c ∈ [0x0001, 0x0008, 0x0009] then some 6
  else if c ∈ [0x0004, 0x0005, 0x0006, 0x0007] then some 8
  else if c ∈ [0x0003, 0x1001, 0x1002, 0x1003, 0x1004, 0x1007, 0x1009, 0xA001] then some 0
  else if c = 0x1005 then (if u8 1 = 0 then none else some 1)
  else if c ∈ [0x1008, 0x6001, 0x6003, 0x7005, 0x7006, 0x8003, 0x8004] then some 1
  else if c ∈ [0x2001, 0x2002, 0x2003, 0x2004, 0x2005, 0x2007, 0x2008] ∨ (0x2101 ≤ c ∧ c ≤ 0x210B) ∨
      (0x2200 ≤ c ∧ c ≤ 0x22FF) then some 2
  else if c = 0x3001 then (if u8 1 = 5 ∨ u8 2 = 5 ∨ u8 2 = 7 then some 3 else none)
  else if c ∈ [0x3002, 0x3003, 0x3004] then some 3
  else if c = 0x4001 then some (if fld p 0 2 < 512 then 3 else 4)
  else if c = 0x4003 then some (s.arrayClass (u8 0))
  else if c = 0x4004 then some (if u8 1 < 16 then 3 else 4)
  else if c = 0x4007 then some 4
  else if c = 0x7001 then (if (s.slotAt (u8 0)).cfg.warn then some 1 else none)
  else if c = 0x7004 then (if u8 0 = 0 then some 1 else none)
  else if c = 0x8001 ∨ c = 0x8002 then some 5
  else if c = 0xA002 ∨ c = 0xA005 then some 7
  else none

/-- Is a record mirrored to flash (19 Table 19-5, column P)? -/
def codePersists (c : Nat) (p : List Byte) : Bool :=
  let u8 (i : Nat) : Nat := fld p i 1
  if c ∈ [0x0001, 0x0003, 0x0004, 0x0007, 0x1002, 0x1003, 0x1006, 0x1007, 0x1008, 0x1009, 0x100A, 0x100B, 0x100E, 0x2004,
      0x2007, 0x2008, 0x4001, 0x4003, 0x4004, 0x4005, 0x5005, 0x5006, 0x7005, 0x7006, 0x8001, 0x8004, 0x9003, 0xA001,
      0xA002, 0xA003, 0xA005] then true
  else if c = 0x2001 then u8 1 != 0
  else if c = 0x6001 then u8 1 == 2
  else if c = 0x8003 then u8 1 == 2 || u8 1 == 3
  else if c = 0x9001 then u8 2 == 4
  else false

/-- The number of records that the SRAM ring holds (19 Table 19-1). -/
def calCapacity : Nat := 16384

/-- Put a record into the ring: INDEX counts on, the oldest is overwritten when the ring is full, and a record whose code
persists waits to be mirrored where the queue of 64 has room (19 R754, R761). -/
def Cal.push (c : Cal) (r : Rec) : Cal :=
  let room := r.persist && c.pqueue.length < 64
  let r' := { r with index := c.next, persist := room }
  { c with
    recs := (r' :: c.recs).take calCapacity,
    oldest := if c.recs.length < calCapacity then c.oldest else (c.oldest + 1) % 2 ^ 32,
    next := (c.next + 1) % 2 ^ 32,
    pqueue := if room then c.pqueue ++ [r'] else c.pqueue,
    unmirrored := if r.persist && !room then satInc 32 c.unmirrored else c.unmirrored }

/-- The bucket of a code takes one token, or counts the record as suppressed (19 R760). -/
def takeToken (b : Nat) (code : Nat) : List Bucket → Bool × List Bucket
  | [] => (true, [{ code := code, tokens := b - 1, suppressed := 0 }])
  | k :: r =>
    if k.code = code then
      (if 0 < k.tokens then (true, { k with tokens := k.tokens - 1 } :: r)
       else (false, { k with suppressed := satInc 32 k.suppressed } :: r))
    else if code < k.code then (true, { code := code, tokens := b - 1, suppressed := 0 } :: k :: r)
    else let t := takeToken b code r; (t.1, k :: t.2)

/-- The record of an event at the present time. -/
def State.mkRec (s : State) (code : Nat) (part : Option Nat) (raise hw : Bool) (prm : List Byte) : Rec :=
  let t := s.stamp
  { code := code, timeInvalid := t.1, raise := raise, persist := codePersists code prm, hw := hw,
    part := part.getD 0xFF, timeS := t.2.1, timeF := t.2.2, index := 0, param := prm }

/-- Write a record without limit or repeat checks, and raise its notice (19 R753, R767). -/
def State.writeRec (s : State) (r : Rec) (notice : Bool := true) : State :=
  let s1 := { s with cal := s.cal.push r }
  match s.noticeClass r.code r.param with
  | some c =>
    if notice then
      s1.postNotice c (if r.part = 0xFF then none else some r.part)
        { nclass := c, code := r.code, nseq := 0, timeS := r.timeS, timeF := r.timeF, timeInvalid := r.timeInvalid,
          raise := r.raise, param := r.param }
    else s1
  | none => s1

/-- Code 0x0008 once, when the records held reach 14,746 (19 R766). -/
def State.check90 (s : State) : State :=
  if 14746 ≤ s.cal.recs.length ∧ ¬ s.cal.warned90 then
    ({ s with cal := { s.cal with warned90 := true } }).writeRec
      (s.mkRec 0x0008 none true false (param [(4, s.cal.recs.length)]))
  else s

/-- The event is identical to the last record written (19 R759). -/
def Rec.same (a b : Rec) : Bool := a.code == b.code && a.part == b.part && a.raise == b.raise && a.param == b.param

/-- Count a repeat of a record (19 R759). -/
def Rec.again (r : Rec) : Rec :=
  { r with repeats := satInc 16 r.repeats, repeatSat := r.repeatSat || 65535 ≤ r.repeats + 1 }

/-- Write a record under its code's limit: it takes a token, or is counted as suppressed (19 R760, R766). -/
def State.logNew (s : State) (r : Rec) (notice : Bool) : State :=
  match s.limitOf r.code with
  | none => (s.writeRec r notice).check90
  | some l =>
    let t := takeToken l.1 r.code s.cal.buckets
    let s1 := { s with cal := { s.cal with buckets := t.2 } }
    if t.1 then (s1.writeRec r notice).check90 else s1

/-- A live hand-over is in its window: from quiesce to resume (05 R223, Table 05-15). -/
def State.inWindow (s : State) : Bool := s.update.handover.any fun h => h.quiesceAt.isSome

/-- Firmware is absent: the Assay core restarts, or a live hand-over is in its window (05 R223, R227, 19 R768). -/
def State.fwAbsent (s : State) : Bool := s.update.restarting || s.inWindow

/-- Firmware runs and serves (04 R126, 05 R222, R227). -/
def State.fwRuns (s : State) : Bool := (s.boot.phase == .firmware || s.boot.complete) && !s.fwAbsent

/-- Write a record at once: a repeat of the last record is counted in it, a code without a token is counted as suppressed,
and otherwise the record is written and its notice raised (19 R759, R760, R766). -/
def State.logNow (s : State) (r : Rec) (notice : Bool := true) : State :=
  match s.cal.recs with
  | last :: rest =>
    if r.same last then { s with cal := { s.cal with recs := last.again :: rest } }
    else s.logNew r notice
  | [] => s.logNew r notice

/-- Write a Calender record (19 R753, R759, R760). While firmware is absent the hardware event path records its own events with
HW = 1, and an event that firmware derives is recorded when firmware resumes (19 R755, R768). -/
def State.log (s : State) (code : Nat) (prm : List Byte) (part : Option Nat := none) (raise : Bool := true)
    (hw : Bool := false) (notice : Bool := true) : State :=
  let r := s.mkRec code part raise (hw && !s.fwRuns) prm
  if s.fwAbsent ∧ ¬ hw then { s with cal := { s.cal with deferred := s.cal.deferred ++ [r] } }
  else s.logNow r notice

/-- The records that waited for firmware are written, with the time of this moment (19 R768). -/
def State.flushDeferred (s : State) : State :=
  s.cal.deferred.foldl (fun (s : State) r =>
    let t := s.stamp
    s.logNow { r with timeInvalid := t.1, timeS := t.2.1, timeF := t.2.2 }) { s with cal := { s.cal with deferred := [] } }

/-- Count an event as a repeat of the record with INDEX `i` where it is still held; otherwise write it (19 R759). -/
def State.logRepeat (s : State) (i code : Nat) (prm : List Byte) (part : Option Nat := none) (raise : Bool := true)
    (hw : Bool := false) : State :=
  if s.cal.recs.any (fun r => r.index == i && r.code == code) then
    { s with cal := { s.cal with recs := s.cal.recs.map fun r => if r.index == i && r.code == code then r.again else r } }
  else s.log code prm part raise hw

/-- The INDEX that the next record takes. -/
def State.nextIndex (s : State) : Nat := s.cal.next

/-! ### Byte memory in canonical form -/

/-- The form of a byte memory whose unlisted bytes read `d`: addresses strictly rising, no entry equal to `d`. -/
def Mem.wf (d : Byte) : Mem → Bool
  | [] => true
  | [c] => c.2 != d
  | a :: b :: r => a.2 != d && a.1 < b.1 && Mem.wf d (b :: r)

/-- The byte at an address. -/
def Mem.get (d : Byte) : Mem → Nat → Byte
  | [], _ => d
  | c :: r, a => if c.1 = a then c.2 else if a < c.1 then d else Mem.get d r a

/-- The memory with one byte written. -/
def Mem.set (d : Byte) : Mem → Nat → Byte → Mem
  | [], a, b => if b = d then [] else [(a, b)]
  | c :: r, a, b =>
    if a < c.1 then (if b = d then c :: r else (a, b) :: c :: r)
    else if c.1 = a then (if b = d then r else (a, b) :: r)
    else c :: Mem.set d r a b

/-- `n` bytes from an address. -/
def Mem.read (d : Byte) (m : Mem) (a : Nat) : Nat → List Byte
  | 0 => []
  | n + 1 => m.get d a :: Mem.read d m (a + 1) n

/-- The memory with bytes written from an address. -/
def Mem.write (d : Byte) (m : Mem) (a : Nat) : List Byte → Mem
  | [] => m
  | b :: r => Mem.write d (m.set d a b) (a + 1) r

/-- Every byte of a range reads as an unlisted byte: its entries are dropped. -/
def Mem.clear (m : Mem) (a n : Nat) : Mem := m.filter fun c => c.1 < a || a + n ≤ c.1

/-! ### Latched words (21 R807) -/

/-- A word that a function reads: the one latched for it, which is spent, or the present one. -/
def State.takeLatch (s : State) (fn off present : Nat) : Nat × State :=
  match s.sriov.latches.find? fun x => x.1 == fn && x.2.1 == off with
  | some x => (x.2.2, { s with sriov := { s.sriov with latches := s.sriov.latches.filter fun y => !(y.1 == fn && y.2.1 == off) } })
  | none => (present, s)

/-- Latch a word for a function. -/
def State.putLatch (s : State) (fn off value : Nat) : State :=
  let l := s.sriov.latches.filter fun y => !(y.1 == fn && y.2.1 == off)
  { s with sriov := { s.sriov with latches := (fn, off, value) :: l } }

/-! ### The envelope (04 Tables 04-9 to 04-13) -/

/-- A field of an HMK_ word. -/
def fieldOf (w : Reg32) (hi lo : Nat) : Nat := bitsOf w.toNat hi lo
/-- PWR_CEIL, W (04 Table 04-9). -/
def State.pwrCeil (s : State) : Nat := fieldOf s.hmk.limits 31 21
/-- MAX_PART (04 Table 04-9). -/
def State.maxPart (s : State) : Nat := fieldOf s.hmk.limits 20 16
/-- SUP_MIN and SUP_MAX, 0.1 degrees C (04 Table 04-10). -/
def State.supMin (s : State) : Nat := fieldOf s.hmk.cool 31 22
def State.supMax (s : State) : Nat := fieldOf s.hmk.cool 21 12
/-- STEP_MAX, mK (04 Table 04-10). -/
def State.stepMax (s : State) : Nat := fieldOf s.hmk.cool 11 0
/-- ARRAY_CEIL, 0.1 mW (04 R149). -/
def State.arrayCeil (s : State) : Nat := fieldOf s.hmk.laser 11 0
/-- STEW_ELIG (04 Table 04-11). -/
def State.stewElig (s : State) : Bool := fieldOf s.hmk.role 31 31 == 1
/-- THM_MODE is RAMP (04 Table 04-11). -/
def State.rampMode (s : State) : Bool := fieldOf s.hmk.role 30 30 == 1

/-! ### Device states -/

/-- Leaving service: SAFE or DORMANT is being entered (03 R93, R118). -/
def State.leaving (s : State) : Bool := s.dev.trans && (s.dev.target == .safe || s.dev.target == .dormant)

/-- In service: boot complete was reached, and the device is in STANDBY, ANNEAL or SERVING and not on its way out (03 Table
03-2). PWR_STATE reads STANDBY during a boot too (03 Table 03-4). -/
def State.inService (s : State) : Bool :=
  s.boot.complete && !s.leaving && (s.dev.state == .standby || s.dev.state == .anneal || s.dev.state == .serving)

end Sys2Proof.Machine
end

