-- ==== Sys2Proof/Machine/Respond.lean ====
section
/-! DEFINITION. Answering requests: the response slot of a mailbox or the MCTP response, the journal and the locks
(05 R197, R201, R227, R230). -/
namespace Sys2Proof.Machine

/-- The PLDM completion code that stands for a Damem status (05 R231): PLDM names SUCCESS, ERROR, INVALID_DATA, NOT_READY. -/
def pldmCode : Status → Nat
  | .ok => 0
  | .badArg => 2
  | .busy | .busyBooting | .fwRestarting | .notReady => 4
  | _ => 1

/-- Write a response: into slot TAG of the mailbox, with RESP_VALID set and the vector raised, or over MCTP
(05 R197, R230). What cannot be written because the endpoint is off or in reset is discarded, bulk data included (05 R237). -/
def State.putResp (s : State) (f : InFlight) (r : Resp) : State :=
  match f.req.path with
  | .mctp =>
    if f.pldm then s.emit (.pldm 2 (if f.opcode = 0x0304 then 0x31 else 0x39) (pldmCode r.status) [])
    else s.emit (.mctpDamem f.req.binding pciVendor r)
  | .mbx m =>
    if s.supply.endpoint ≠ .ready then s
    else
    let s0 := match r.bulkOut with
      | some d => s.emit (.hostWrite (mbxFn m) (fld f.req.payload 0 8) d)
      | none => s
    let s1 := s0.updPage m fun pg =>
      { pg with slots := Table.put pg.slots r.tag (some r), respValid := Table.put pg.respValid r.tag true }
    let pg := s1.pageAt m
    if pg.respIe then s1.raiseMsix (mbxFn m) pg.vec else s1

/-- The response to a request. -/
def InFlight.resp (f : InFlight) (st : Status) (detail : Nat) (payload : List Byte) (bulk : Option (List Byte)) (hint : Nat) :
    Resp :=
  { opcode := f.opcode, tag := f.req.tag, status := st, seq := f.req.seq, hint := hint, detail := detail,
    payload := payload, bulkOut := bulk }

/-- Change one request of the journal. -/
def State.updReq (s : State) (f : InFlight) (g : InFlight → InFlight) : State :=
  { s with damem := { s.damem with inflight := s.damem.inflight.map fun x => if x = f then g x else x } }

/-- A request leaves the journal with its response. -/
def State.sendResp (s : State) (f : InFlight) (r : Resp) : State :=
  let s1 := { s with damem := { s.damem with inflight := s.damem.inflight.erase f } }
  if f.drop then s1 else s1.putResp f r

/-- Answer one request of the journal and free its locks. While firmware is absent the response waits for it (05 R223, R227). -/
def State.answer (s : State) (f : InFlight) (st : Status) (detail : Nat := 0) (payload : List Byte := [])
    (bulk : Option (List Byte) := none) (hint : Nat := 0) : State :=
  let r := f.resp st detail payload bulk hint
  if s.fwAbsent then s.updReq f fun x => { x with wait := .owed, owed := some r, locks := [], committed := true }
  else s.sendResp f r

/-- Answer every request of the journal that waits for something. -/
def State.answerWaiting (s : State) (w : Wait) (st : Status) (detail : Nat := 0) (payload : InFlight → List Byte := fun _ => []) :
    State :=
  s.damem.inflight.foldl (fun s f => if f.wait = w then s.answer f st detail (payload f) else s) s

end Sys2Proof.Machine
end

