-- ==== Sys2Proof/Machine/CalEv.lean ====
section
/-! DEFINITION. The Calender and calendar time (chapter 19), the real-time clock tick and the alarm (21 R812): what their
events do. -/
namespace Sys2Proof.Machine

/-! ### Records as bytes (19 Table 19-2) -/

/-- The 32 bytes of a record. -/
def Rec.bytes (r : Rec) : List Byte :=
  leBytes 2 r.code ++
  leBytes 1 (b2n r.timeInvalid + 2 * b2n r.raise + 4 * b2n r.persist + 8 * b2n r.hw + 16 * b2n r.repeatSat) ++
  leBytes 1 r.part ++ leBytes 4 r.timeS ++ leBytes 2 r.timeF ++ leBytes 2 r.repeats ++ leBytes 4 r.index ++ r.param

/-! ### The persistent region (19 R761-R763) -/

/-- Byte `a` of the flash: an erased or unlisted byte reads 0xFF. -/
def State.flashRead (s : State) (a n : Nat) : List Byte := Mem.read 0xFF s.flash.bytes a n

/-- Program bytes: flash can only clear bits, so what is there and what is written are ANDed (19 R762). -/
def State.flashProgram (s : State) (a : Nat) (b : List Byte) : State :=
  let old := s.flashRead a b.length
  { s with flash := { s.flash with bytes := Mem.write 0xFF s.flash.bytes a (List.zipWith (· &&& ·) old b) } }

/-- Erase a range. -/
def State.flashErase (s : State) (a n : Nat) : State :=
  { s with flash := { s.flash with bytes := Mem.clear s.flash.bytes a n } }

/-- Base of sector `k` of the persistent region. -/
def calBase (k : Nat) : Nat := 0x03E00000 + k * 0x10000

/-- The listed bytes of sector `k`. -/
def State.calBytes (s : State) (k : Nat) : Mem :=
  s.flash.bytes.filter fun c => calBase k ≤ c.1 && c.1 < calBase k + 0x10000

/-- SSEQ and FIRST_INDEX of sector `k`, where its header is valid (19 R762, R771). -/
def State.calHeader (s : State) (k : Nat) : Option (Nat × Nat) :=
  let h := s.flashRead (calBase k) 32
  if fld h 0 4 = 0x1664CA1D ∧ zeroAt h 12 16 ∧ fld h 28 4 = crc32 (h.take 28) then some (fld h 4 4, fld h 8 4) else none

/-- The slots of sector `k` that hold anything but the erased state, rising. -/
def State.calSlots (s : State) (k : Nat) : List Nat :=
  ((s.calBytes k).map fun c => (c.1 - calBase k) / 32).foldl (fun acc n => if acc.contains n || n == 0 then acc else acc ++ [n]) []

/-- Slot `n` of sector `k` holds a whole record: not erased and not torn (19 R762). -/
def State.calGood (s : State) (k n : Nat) : Bool :=
  let b := s.flashRead (calBase k + 32 * n) 32
  fld b 0 2 != 0xFFFF && fld b 2 1 < 128

/-- The number of whole records in sector `k`. -/
def State.calCount (s : State) (k : Nat) : Nat :=
  match s.calHeader k with
  | some _ => ((s.calSlots k).filter (s.calGood k)).length
  | none => 0

/-- The valid sectors, as (sector, SSEQ). -/
def State.calValid (s : State) : List (Nat × Nat) :=
  (List.range 32).filterMap fun k => (s.calHeader k).map fun h => (k, h.1)

/-- Later of two sequence numbers, modulo 2^32. -/
def seqAfter (a b : Nat) : Bool := (a + 2 ^ 32 - b) % 2 ^ 32 < 2 ^ 31 && a != b

/-- The newest valid sector. -/
def State.calNewest (s : State) : Option (Nat × Nat) :=
  s.calValid.foldl (fun acc x => match acc with
    | none => some x
    | some y => if seqAfter x.2 y.2 then some x else some y) none

/-- The highest INDEX in the persistent region, none where it holds no record (19 R754). -/
def State.calHighest (s : State) : Option Nat :=
  (s.calValid.flatMap fun x => ((s.calSlots x.1).filter (s.calGood x.1)).map fun n =>
    fld (s.flashRead (calBase x.1 + 32 * n) 32) 12 4).foldl (fun acc i => match acc with
      | none => some i
      | some j => if seqAfter i j then some i else some j) none

/-- The INDEX of the record that is mirrored next. -/
def State.calFirst (s : State) : Nat := (s.cal.pqueue.head?.map fun r => r.index).getD s.cal.next

/-- Write the header of sector `k`, whose first record has the INDEX `first`, and make it the open one (19 R762). -/
def State.calOpen (s : State) (k sseq first : Nat) : State :=
  let h := leBytes 4 0x1664CA1D ++ leBytes 4 sseq ++ leBytes 4 first ++ List.replicate 16 0
  let s1 := s.flashProgram (calBase k) (h ++ leBytes 4 (crc32 h))
  { s1 with cal := { s1.cal with sector := some k, slot := 1, sseq := sseq % 2 ^ 32 } }

/-- Erase sector `k` unless it is erased; an erase that discards records writes code 0x0009 (19 R762). -/
def State.calErase (s : State) (k : Nat) : State :=
  let n := s.calCount k
  let s1 := s.flashErase (calBase k) 0x10000
  if n = 0 then s1 else s1.log 0x0009 (param [(4, n)])

/-- The sector after the open one is opened, and the one after that is kept erased (19 R762). -/
def State.calAdvance (s : State) (first : Nat) : State :=
  let k := (s.cal.sector.getD 31 + 1) % 32
  ((s.calErase k).calOpen k (s.cal.sseq + 1) first).calErase ((k + 1) % 32)

/-- Format the region: all 32 sectors erased, sector 0 opened, code 0x0001 (19 R765, 04 R174). The first SSEQ is not stated:
a free value. -/
def State.calFormat (s : State) : State :=
  ((s.flashErase (calBase 0) (32 * 0x10000)).calOpen 0 (Config.freeOf 33 [0]) s.calFirst).log 0x0001 []

/-- Boot complete takes the region into use: as it stands where it holds valid sectors, opened where it is erased, formatted
otherwise (04 R174, 19 R762). -/
def State.calMount (s : State) : State :=
  match s.calNewest with
  | some (k, q) =>
    let used := s.calSlots k
    { s with cal := { s.cal with sector := some k, sseq := q, slot := (used.foldl max 0) + 1 } }
  | none =>
    if s.flash.bytes.all fun c => c.1 < calBase 0 || calBase 32 ≤ c.1 then s.calOpen 0 (Config.freeOf 33 [0]) s.calFirst
    else s.calFormat

/-- Is the flash free for mirroring (19 R761)? -/
def State.mirrorReady (s : State) : Bool :=
  s.boot.flashUsable && s.damem.flashOp.isNone && s.cal.sector.isSome && (s.fwRuns || s.dev.state == .held)

/-- Mirror the oldest waiting record, with the REPEAT it holds in SRAM now (19 R759, R761). -/
def State.mirrorOne (s : State) : State :=
  match s.cal.pqueue with
  | [] => s
  | r :: rest =>
    let s1 := { s with cal := { s.cal with pqueue := rest } }
    let r' := (s.cal.recs.find? fun x => x.index == r.index).getD r
    let s2 := if s1.cal.slot < 2048 then s1 else s1.calAdvance r.index
    let s3 := s2.flashProgram (calBase (s2.cal.sector.getD 0) + 32 * s2.cal.slot) r'.bytes
    { s3 with cal := { s3.cal with slot := s3.cal.slot + 1 } }

/-- The count of records left unmirrored is reported when the queue has space (19 R761). -/
def State.reportUnmirrored (s : State) : State :=
  if 0 < s.cal.unmirrored ∧ s.cal.pqueue.length < 64 then
    ({ s with cal := { s.cal with unmirrored := 0 } }).log 0x0002 (param [(2, 0xFFFF), (2, 0), (4, s.cal.unmirrored)])
  else s

/-- Mirror what waits, at most `n` records. -/
def State.mirrorAll (s : State) : Nat → State
  | 0 => s
  | n + 1 => if s.cal.pqueue.isEmpty then s else (s.mirrorOne).mirrorAll n

/-- CAL_MIRROR (19 R761). -/
def State.evCalMirror (s : State) : State :=
  if s.mirrorReady then (s.mirrorAll 64).reportUnmirrored else s

/-! ### Token buckets (19 R760) -/

/-- Give the bucket of `code` one token, up to depth `b`; a full bucket that owes nothing is not listed. -/
def giveToken (b code : Nat) (l : List Bucket) : List Bucket :=
  (l.map fun (k : Bucket) => if k.code = code then { k with tokens := min b (k.tokens + 1) } else k).filter fun k =>
    k.code != code || k.tokens < b || 0 < k.suppressed

/-- TOKEN_REFILL (19 R760): the code's bucket gains a token; where records were suppressed, code 0x0002 takes it. -/
def State.evTokenRefill (s : State) (code : Nat) : State :=
  match s.limitOf code, s.cal.buckets.find? fun k => k.code == code with
  | some l, some k =>
    if 0 < k.suppressed then
      let put (x : Bucket) : Bucket := if x.code = code then { x with suppressed := 0 } else x
      ({ s with cal := { s.cal with buckets := s.cal.buckets.map put } }).log 0x0002
        (param [(2, code), (2, 0), (4, k.suppressed)])
    else { s with cal := { s.cal with buckets := giveToken l.1 code s.cal.buckets } }
  | _, _ => s

/-! ### The view of a reader, and clearing (19 R764, R765, 05 R217) -/

/-- The records of a reader's view, oldest first. -/
def State.calView (s : State) (part : Option Nat) : List Rec :=
  let mine (r : Rec) : Bool := match part with
    | none => true
    | some p => r.part == p || (r.part == 0xFF && (match s.noticeClass r.code r.param with
      | some c => c == 0 || c == 1
      | none => false))
  (s.cal.recs.filter mine).reverse

/-- How far an INDEX lies ahead of `oldest`, modulo 2^32 (19 R764). -/
def ahead (oldest i : Nat) : Nat := (i + 2 ^ 32 - oldest) % 2 ^ 32

/-- What CAL_READ returns: NEXT, OLDEST and the records (19 R764). -/
def State.calRead (s : State) (part : Option Nat) (frm count : Nat) : Nat × Nat × List Rec :=
  let view := s.calView part
  let oldest : Nat := (view.head?.map fun r => r.index).getD s.cal.next
  let start : Nat := if ahead oldest frm < 2 ^ 31 then frm else oldest
  let l := (view.filter fun r => ahead oldest start ≤ ahead oldest r.index).take count
  ((l.getLast?.map fun r => (r.index + 1) % 2 ^ 32).getD frm, oldest, l)

/-- CAL_CLEAR of the SRAM view (19 R765, R766). -/
def State.calClear (s : State) (upto : Nat) : State :=
  let s0 := { s with cal := { s.cal with warned90 := false } }
  if 2 ^ 31 ≤ ahead s.cal.oldest upto then s0
  else if ahead s.cal.oldest s.cal.next ≤ ahead s.cal.oldest upto + 1 then
    { s0 with cal := { s0.cal with recs := [], oldest := s.cal.next } }
  else
    { s0 with cal := { s0.cal with
        recs := s.cal.recs.filter fun r => ahead s.cal.oldest upto < ahead s.cal.oldest r.index
        oldest := (upto + 1) % 2 ^ 32 } }

/-- CAL_CLEAR with PERSIST = 1, when its erase has ended (19 R765). -/
def State.calClearPersist (s : State) (upto : Nat) : State :=
  let s1 := if 2 ^ 31 ≤ ahead s.cal.oldest upto then s
    else { s with cal := { s.cal with pqueue := s.cal.pqueue.filter fun r => ahead s.cal.oldest upto < ahead s.cal.oldest r.index } }
  (s1.calClear upto).calFormat

/-- The ring starts empty: INDEX resumes above the persistent region and code 0x0003 comes first (19 R754). -/
def State.calStart (s : State) : State :=
  if s.cal.ringLost then
    let h := s.calHighest
    let n := h.elim 0 fun i => (i + 1) % 2 ^ 32
    ({ s with cal := { s.cal with ringLost := false, recs := [], next := n, oldest := n } }).log 0x0003
      (param [(4, h.getD 0xFFFFFFFF)])
  else s

/-! ### Calendar time (19 R756-R758) -/

/-- Local time in ns: the present time, or the uptime while time is invalid (19 R757). -/
def State.localNs (s : State) : Nat :=
  if s.clocks.timeValid then s.clocks.calFs / 1000000 else s.now * 1000000000 / 32768

/-- How much of a slew has been removed, in femtoseconds. -/
def Slew.removed (w : Slew) (now : Nat) : Int := w.offsetNs * 1000000 * ((min 32768 (now - w.began) : Nat) : Int) / 32768

/-- A trim held within +-100 ppm. -/
def clampTrim (x : Int) : Int := clampInt (-100000) 100000 x

/-- A slew ends where it stands, its trim change applied at once (19 R757). -/
def State.slewStop (s : State) : State :=
  match s.clocks.slew with
  | none => s
  | some w => { s with clocks := { s.clocks with slew := none, trimPpb := clampTrim (s.clocks.trimPpb + w.trimPpb) } }

/-- TIME_SLEW_END (19 R757): the whole offset has been removed, and the trim moves. -/
def State.evSlewEnd (s : State) : State :=
  match s.clocks.slew with
  | none => s
  | some w =>
    let left := w.offsetNs * 1000000 - w.removed s.now
    ({ s with clocks := { s.clocks with calFs := ((s.clocks.calFs : Int) + left).toNat } }).slewStop

/-- The disciplined figure is held (19 R758). -/
def State.discNow (s : State) : Bool :=
  let c := s.clocks
  c.timeValid && decide (2 ≤ c.setCount) && c.lastInterval.any (· ≤ 327680) &&
    c.lastSet.any (fun t => s.now ≤ t + 327680) && decide (c.lastUnc ≤ 20) &&
    c.lastStep.all (fun t => t + 1966080 ≤ s.now) && !c.xtalFault

/-- The free-running figure is held: no crystal fault, and an external clock or non-zero coefficients (02 R64, 19 R758). -/
def State.freeNow (s : State) : Bool := !s.clocks.xtalFault && (s.clocks.extClk || s.clocks.corrSet)

/-- Firmware judges both figures and records each change (19 R758). -/
def State.judgeFigures (s : State) : State :=
  if s.fwRuns then
    let s1 := if s.discNow = s.clocks.discHeld then s
      else ({ s with clocks := { s.clocks with discHeld := s.discNow } }).log 0x0006 [] none (!s.discNow)
    if s1.freeNow = s1.clocks.freeHeld then s1
    else ({ s1 with clocks := { s1.clocks with freeHeld := s1.freeNow } }).log 0x0007 (param [(1, 0)]) none (!s1.freeNow)
  else s

/-! ### The alarm (21 R812) -/

/-- Calendar time is at or beyond the alarm. -/
def State.alarmReached (s : State) : Bool :=
  s.clocks.alarmArm && s.clocks.timeValid &&
    decide (s.clocks.alarmS * 65536 + s.clocks.alarmF ≤ s.clocks.calFs * 65536 / fsPerS)

/-- The alarm fires: FIRED is set and ARM cleared. -/
def State.alarmFired (s : State) : State :=
  { s with clocks := { s.clocks with alarmFired := true, alarmArm := false } }

/-- CLK_ALARM_S written (21 R812). -/
def State.evAlarmS (s : State) (v : Nat) : State := { s with clocks := { s.clocks with alarmS := v % 2 ^ 32, alarmArm := false } }

/-- CLK_ALARM_CTL written (21 Table 21-7, R812): FIRED is W1C; a change of FRAC without ARM disarms. -/
def State.evAlarmCtl (s : State) (v : Nat) : State :=
  { s with clocks := { s.clocks with
      alarmF := bitsOf v 31 16, alarmWake := bitOf v 1, alarmArm := bitOf v 0,
      alarmFired := s.clocks.alarmFired && !bitOf v 2 } }

/-! ### TIME_SET (19 R757) -/

/-- Host time `h` in ns since 2000 is accepted, with its uncertainty: a step or a slew. -/
def State.timeAccept (s : State) (h unc : Nat) : State :=
  let s0 := s.slewStop
  let offset : Int := (h : Int) - s0.localNs
  let since := s0.clocks.lastSet.map fun t => s0.now - t
  let noted (x : State) (n : Nat) : State := { x with clocks := { x.clocks with
    lastSet := some x.now, lastInterval := since, setCount := n, lastUnc := unc } }
  if ¬ s0.clocks.timeValid ∨ 1000000 ≤ offset.natAbs then
    let s1 := { s0 with clocks := { s0.clocks with calFs := h * 1000000, timeValid := true, lastStep := some s0.now } }
    let s2 := noted s1 (if s0.clocks.timeValid then s0.clocks.setCount + 1 else 1)
    let s3 := if s0.clocks.timeValid then s2 else s2.log 0x0005 [] none false
    s3.log 0x0004 (param [(8, unsgn 64 offset), (4, unc)])
  else
    let trim : Int := match since with
      | some t => if t = 0 then 0 else offset * 32768 / ((4 * t : Nat) : Int)
      | none => 0
    noted { s0 with clocks := { s0.clocks with slew := some { offsetNs := offset, began := s0.now, trimPpb := clampTrim trim } } }
      (s0.clocks.setCount + 1)

/-! ### The tick of the real-time clock (03 R102, 19 R756) -/

/-- One period of 1/32,768 s in femtoseconds, with the crystal correction, the trim and the slew in force. The correction goes on being
applied while the clock runs on the Filigree 32 kHz oscillator, of which the spec says nothing (DESIGN CHOICE, log entry 110). -/
def State.tickFs (s : State) : Int :=
  let base : Int := 30517578125
  let slew := match s.clocks.slew with
    | some w => w.removed (s.now + 1) - w.removed s.now
    | none => 0
  base + base * s.clocks.corr / 100000000 + base * s.clocks.trimPpb / 1000000000 + slew

/-- The clock counts on: the uptime, and calendar time while it is valid. -/
def State.clockTick (s : State) : State :=
  { s with clocks := { s.clocks with
      uptime := (s.now + 1) % 2 ^ 48
      calFs := if s.clocks.timeValid then ((s.clocks.calFs : Int) + s.tickFs).toNat else s.clocks.calFs } }

/-- A running Mould clock counts its cycles, M x 12.5 MHz in the run fraction of the power controller (07 R308, R320, 13 R556). -/
def Mould.tick (duty : Nat) (x : Mould) : Mould :=
  let n := x.cycFrac + 390625 * x.mult * duty
  { x with cycles := (x.cycles + n / 8192) % 2 ^ 64, cycFrac := n % 8192 }
/-- Every Mould clock runs for a tick of the 32,768 Hz clock. -/
def State.mouldTick (s : State) : State := { s with mould := s.mould.map fun (x : Mould) => if x.mult = 0 then x else x.tick s.thm.duty }

end Sys2Proof.Machine
end

