-- ==== Sys2Proof/Machine/LoopWord.lean ====
section
/-! DEFINITION. The arithmetic of the loop engine (15 R617-R619): loop words, mantissas with a stage's exponent, sums, and the
platinum conversion of R623. Every value of a loop word or of a coefficient is a whole number of 2^-55, and every product
of two a whole number of 2^-110, so sums are formed exactly and rounded once. -/
namespace Sys2Proof.Machine

/-- The value of a loop word in units of 2^-55 (15 R617). -/
def lwVal (w : Reg32) : Int := sgn 24 (w.toNat / 256) * 2 ^ (sgn 6 (w.toNat / 4 % 64) + 32).toNat
/-- The value of a mantissa word under an exponent word, in units of 2^-55 (15 R618). -/
def coefVal (m e : Reg32) : Int := sgn 24 (m.toNat % 2 ^ 24) * 2 ^ (sgn 6 (e.toNat % 64) + 32).toNat
/-- A loop word's reserved field is 0 (15 R617). -/
def lwGood (w : Reg32) : Bool := w.toNat % 4 == 0
/-- The loop word of a mantissa and an exponent. -/
def lwPack (m e : Int) : Reg32 := BitVec.ofNat 32 (unsgn 24 m * 256 + unsgn 6 e * 4)
/-- The largest loop word of a sign. -/
def lwMax (neg : Bool) : Reg32 := if neg then lwPack (-(2 ^ 23)) 31 else lwPack (2 ^ 23 - 1) 31
/-- The mantissa fits 24 bits. -/
def mantFits (m : Int) : Bool := decide (-(2 ^ 23) ≤ m ∧ m < 2 ^ 23)

/-- The loop word nearest to `v` / 2^`k`, ties to even, with the smallest exponent that holds it, and whether it saturated
(15 R617, R619). `k` is at least 55. -/
def lwRound (k : Nat) (v : Int) : Reg32 × Bool :=
  let n := v.natAbs
  if n < 2 ^ (k - 55) then (0, false)
  else if 2 ^ (k + 31) ≤ n then (lwMax (decide (v < 0)), true)
  else
    let c0 : Int := max (-32) ((Nat.log2 n : Int) - k)
    let mant (c : Int) : Int := rneDiv v (2 ^ ((k : Int) - 23 + c).toNat)
    let c := if mantFits (mant c0) then c0 else if mantFits (mant (c0 + 1)) then c0 + 1 else c0 + 2
    if 31 < c then (lwMax (decide (v < 0)), true) else (lwPack (mant c) c, false)

/-- The loop word nearest to a fraction. -/
def lwFrac (num : Int) (den : Nat) : Reg32 × Bool :=
  -- 2^-165 is fine enough: the quotient's remainder is kept as a lowest bit that breaks ties
  let q := (num * 2 ^ 164).ediv den
  let r := (num * 2 ^ 164).emod den
  lwRound 165 (2 * q + if r = 0 then 0 else 1)

/-- A sum of terms in units of 2^-110: bits of smaller terms more than 62 places below the leading bit of the largest are
discarded, and the sum is rounded once (15 R619). -/
def lwSum (terms : List Int) : Reg32 × Bool :=
  let big := (terms.map Int.natAbs).foldl max 0
  let u : Nat := if big = 0 then 1 else 2 ^ (Nat.log2 big - 62)
  lwRound 110 ((terms.map fun (t : Int) => t.ediv (u : Int) * (u : Int)).sum)

/-- A loop word as a term of a sum. -/
def lwTerm (w : Reg32) : Int := lwVal w * 2 ^ 55

/-- Renormalise a state vector to the smallest exponent that holds its largest element (15 R619). -/
def lwShare (l : List Reg32) : List Reg32 :=
  let expo (w : Reg32) : Int := if w.toNat / 256 = 0 then -32 else sgn 6 (w.toNat / 4 % 64)
  let c := (l.map expo).foldl max (-32)
  l.map fun w =>
    let v := rneDiv (lwVal w) (2 ^ (c + 32).toNat) * 2 ^ (c + 32).toNat
    (lwRound 55 v).1

/-- Clamp a loop word between two others. -/
def lwClamp (lo hi x : Reg32) : Reg32 := if lwVal x < lwVal lo then lo else if lwVal hi < lwVal x then hi else x

/-- round(u x SCALE), ties to even (15 R622). -/
def lwScaled (u scale : Reg32) : Int := rneDiv (lwVal u * lwVal scale) (2 ^ 110)

/-! ### Platinum sensors (15 R623; the IEC 60751 coefficients, of which the spec's worked example gives the first two) -/

/-- R(T) / R0 in units of 10^-28, for T in units of 0.1 mK: 1 + A T + B T^2, and C (T - 100) T^3 below 0. -/
def ptRatio (t : Int) : Int :=
  let lin := 10 ^ 28 + 39083 * 10 ^ 17 * t - 5775 * 10 ^ 10 * t * t
  if t < 0 then lin - 4183 * (t - 1000000) * t * t * t else lin

/-- The greatest T, in 0.1 mK from -50 degrees C, whose ratio does not exceed the given one, by halving. -/
def ptSearch (num : Int) (den : Int) : Nat → Int → Int → Int
  | 0, lo, _ => lo
  | f + 1, lo, hi =>
    if hi ≤ lo + 1 then lo
    else
      let mid := (lo + hi) / 2
      if ptRatio mid * den ≤ num * 10 ^ 28 then ptSearch num den f mid hi else ptSearch num den f lo mid

/-- The temperature, in 0.1 mK, of a ratio R / R0 = num / den, the nearer of the two neighbouring steps (15 R623). -/
def ptTemp (num : Int) (den : Int) : Int :=
  if den ≤ 0 ∨ num * 10 ^ 28 < ptRatio (-500000) * den then -500000
  else
    let t := ptSearch num den 24 (-500000) 6000001
    if ptRatio (t + 1) * den - num * 10 ^ 28 < num * 10 ^ 28 - ptRatio t * den then t + 1 else t

/-! ### Least squares over fractions, for the preload of LAW 2 (15 R637) -/

/-- A matrix as its rows. -/
abbrev RMat := List (List Rat)

/-- Entry of a row. -/
def rAt (l : List Rat) (i : Nat) : Rat := (l[i]?).getD 0
/-- The product of a matrix and a vector. -/
def rMulVec (a : RMat) (x : List Rat) : List Rat := a.map fun r => (List.zipWith (· * ·) r x).sum
/-- The transpose of a matrix of `n` columns. -/
def rTrans (n : Nat) (a : RMat) : RMat := (List.range n).map fun j => a.map fun r => rAt r j
/-- The product of two matrices, the second of `n` columns. -/
def rMul (n : Nat) (a b : RMat) : RMat := a.map fun r => (rTrans n b).map fun c => (List.zipWith (· * ·) r c).sum

/-- Gauss-Jordan elimination of an augmented system, column by column. -/
def rElim : Nat → Nat → RMat → List (Nat × List Rat) → List (Nat × List Rat)
  | 0, _, _, done => done
  | f + 1, j, rows, done =>
    match rows.find? fun r => rAt r j != 0 with
    | none => rElim f (j + 1) rows done
    | some p =>
      let pv := rAt p j
      let pn := p.map (· / pv)
      let clear (r : List Rat) : List Rat := List.zipWith (fun x y => x - rAt r j * y) r pn
      rElim f (j + 1) ((rows.erase p).map clear) ((done.map fun d => (d.1, clear d.2)) ++ [(j, pn)])

/-- A solution of a consistent square system of size `n`, with the free unknowns at 0. -/
def rSolve (n : Nat) (a : RMat) (b : List Rat) : List Rat :=
  let piv := rElim n 0 (List.zipWith (fun r y => r ++ [y]) a b) []
  (List.range n).map fun j => ((piv.find? fun d => d.1 == j).map fun d => rAt d.2 n).getD 0

/-- The minimum-norm least-squares solution of a x = b, where a has `n` columns: x = a^T w with (a a^T)^2 w = (a a^T) b. -/
def rLeast (n : Nat) (a : RMat) (b : List Rat) : List Rat :=
  let at' := rTrans n a
  let m := rMul a.length a at'
  let w := rSolve a.length (rMul a.length m m) (rMulVec m b)
  rMulVec at' w

/-- A loop word as a fraction, and the loop word nearest to one. -/
def lwRat (w : Reg32) : Rat := (lwVal w : Rat) / 2 ^ 55
def ratLw (r : Rat) : Reg32 := (lwFrac r.num r.den).1

end Sys2Proof.Machine
end

