-- ==== Sys2Proof/Machine/MeshFx.lean ====
section
/-! DEFINITION. What happens to strands, lanes, packets and paths (chapters 11 and 20), as operations that the meanings of
Machine/Chainline.lean and of other families share. -/
namespace Sys2Proof.Machine

/-! ### Positions and paths -/

/-- This device's position (04 Table 04-19). -/
def State.pos (s : State) : Nat := s.row.position
/-- The position that strand `k` reaches (01 R17, 11 R449). -/
def State.peerOf (s : State) (k : Nat) : Nat := (s.pos + k + 1) % s.row.rowSize
/-- The strand at the other end (11 R449). -/
def mateOf (k : Nat) : Nat := if k = 63 then 63 else 62 - k
/-- A strand that loops back (11 R449). -/
def State.loopback (s : State) (k : Nat) : Bool := s.peerOf k == s.pos
/-- Strands that are UP to a position. -/
def State.upTo (s : State) (d : Nat) : List Nat :=
  (List.range 64).filter fun k => (s.strandAt k).state == .up && s.peerOf k == d && !s.loopback k
/-- Strands that carry the MGMT class to a position: UP or MGMT_ONLY (11 Table 11-7). -/
def State.mgmtTo (s : State) (d : Nat) : List Nat :=
  (List.range 64).filter fun k =>
    ((s.strandAt k).state == .up || (s.strandAt k).state == .mgmtOnly) && s.peerOf k == d && !s.loopback k
/-- The map of positions with an UP strand, as LINKMAP and CHL_UP count them. -/
def State.upPositions (s : State) : Nat := maskOf ((List.range s.row.rowSize).filter fun d => !(s.upTo d).isEmpty)
/-- Lowest intermediate to `d`: an UP strand to m, and m's latest LINKMAP shows an UP strand to `d` (11 R476). -/
def State.viaTo (s : State) (d : Nat) : Option Nat :=
  (List.range s.row.rowSize).find? fun m =>
    m != s.pos && m != d && !(s.upTo m).isEmpty && (Table.at s.mesh.linkmap m 0).getLsbD d
/-- A path exists to `d`: direct, or by a two-hop detour. -/
def State.hasPath (s : State) (d : Nat) : Bool := !(s.upTo d).isEmpty || (s.viaTo d).isSome

/-- Responses carry this bit in PTYPE (11 Table 11-10). -/
def Packet.isRsp (p : Packet) : Bool := 0x80 ≤ p.ptype && p.ptype != 0xC0
/-- Flits of a packet: one header and DFLITS data flits (11 R464). -/
def Packet.flits (p : Packet) : Nat := 1 + p.dflits
/-- Place of a class in CREDITS, none for RSP (11 Table 11-3). -/
def creditIx (cls : Nat) : Option Nat :=
  if cls = 0 then some 0 else if cls = 2 then some 1 else if cls = 3 then some 2 else if cls = 4 then some 3 else none

/-- The strand that the fixed hash of 11 R470 picks among those of a peer: it takes ADDR[47:12], or the tally number. The function
itself is open (log entry 20). -/
def pickStrand (ks : List Nat) (p : Packet) : Option Nat :=
  match ks with
  | [k] => some k
  | _ =>
    let tally := p.ptype % 128 = 4 ∨ p.ptype % 128 = 5 ∨ p.ptype % 128 = 6
    ks[Config.freeOf 50 [b2n (decide tally), if tally then p.addr % 512 else p.addr / 4096 % 2 ^ 36] % ks.length]?

/-- Queue a packet on a strand in its class, for a source (a partition, or 16 for the device). -/
def State.queueOn (s : State) (k src : Nat) (p : Packet) : State :=
  s.updStrand k fun t => { t with txq := Table.upd t.txq p.cls (· ++ [(src, p)]) }

/-- A MGMT packet (11 R484, Table 11-11); what its operands hold is log entry 21's choice. -/
def mgmtPacket (src dst mtype o0 o1 : Nat) (data : List Byte := []) : Packet :=
  { ptype := 0xC0, cls := 0, dflits := data.length / 64, src := src, dst := dst, op := mtype, opnd0 := o0, opnd1 := o1,
    len := data.length, data := data }

/-- Send a MGMT packet to a position: directly, relayed once, or not at all (11 R484). -/
def State.sendMgmt (s : State) (dst mtype o0 o1 : Nat) (data : List Byte := []) : State :=
  let p := mgmtPacket s.pos dst mtype o0 o1 data
  match s.mgmtTo dst with
  | k :: _ => s.queueOn k 16 p
  | [] => match s.viaTo dst with
    | some m => match s.mgmtTo m with
      | k :: _ => s.queueOn k 16 { p with hflags := 1, via := m }
      | [] => s
    | none => s

/-- REJECT: the STATUS of a message that is rejected (11 R484, Table 11-11). -/
def State.rejectMgmt (s : State) (p : Packet) (st : Status) : State :=
  let q := { mgmtPacket s.pos p.src 0x7F p.op 0 with status := st.code }
  match s.mgmtTo p.src with
  | k :: _ => s.queueOn k 16 q
  | [] => match s.viaTo p.src with
    | some m => match s.mgmtTo m with
      | k :: _ => s.queueOn k 16 { q with hflags := 1, via := m }
      | [] => s
    | none => s

/-! ### Strand states -/

/-- PARAM of code 0x3001 (19 Table 19-5). -/
def State.strandParam (s : State) (k frm dest : Nat) : List Byte :=
  let t := s.strandAt k
  param [(1, k), (1, frm), (1, dest), (1, t.lastDown), (1, s.peerOf k), (1, t.misw)]

/-- The set of paths to a position has changed: requests already sent to it fence new ones, the detour map follows, and a
LINKMAP is due (11 R476, R478, R484). -/
def State.pathsChanged (s : State) (d : Nat) : State :=
  let open_ := s.mesh.resv.any fun r => r.peer == d
  let direct := !(s.upTo d).isEmpty
  let det := !direct && (s.viaTo d).isSome
  { s with mesh := { s.mesh with
      resv := s.mesh.resv.map fun r => if r.peer = d then { r with oldPath := true } else r,
      fence := if open_ then s.mesh.fence ||| BitVec.ofNat 64 (2 ^ d) else s.mesh.fence,
      detour := if det then s.mesh.detour ||| BitVec.ofNat 64 (2 ^ d) else s.mesh.detour &&& ~~~ BitVec.ofNat 64 (2 ^ d),
      via := Table.put s.mesh.via d (if det then s.viaTo d else none),
      linkDirty := true, pathDirty := true } }

/-- Put a strand into a state, with a Calender record for the change (11 R461). Entering or leaving UP changes paths. -/
def State.strandTo (s : State) (k : Nat) (st : SState) (record : Bool := true) : State :=
  let frm := (s.strandAt k).state
  if frm = st then s
  else
    let s1 := s.updStrand k fun t => { t with state := st, downs := if frm = .up then satInc 16 t.downs else t.downs }
    let s2 := if record then s1.log 0x3001 (s1.strandParam k frm.code st.code) else s1
    let s3 := if st = .up ∧ s2.stew.firstUp = none then { s2 with stew := { s2.stew with firstUp := some s2.now } } else s2
    if frm = .up ∨ st = .up then s3.pathsChanged (s3.peerOf k) else s3

/-- Hold what a strand that leaves UP has sent and not seen acknowledged, and what it has waiting; discard packets that it
has not wholly received; and ask the peer what it delivered (11 R475). With `keep`, the buffers stay for the fast path of
R482. -/
def State.beginRecon (s : State) (k : Nat) (keep : Bool := false) : State :=
  let t := s.strandAt k
  let now := t.txNow.toList.filterMap fun x => x.map fun y => (y.1, y.2.1)
  let waiting := (now ++ t.txq.toList.flatten).filter fun x => x.2.cls != 0
  let s1 := s.updStrand k fun t =>
    if keep then { t with recon := some (t.epoch, t.retry, waiting), replayFrom := none }
    else
      { t with recon := some (t.epoch, t.retry, waiting), retry := [], replayFrom := none,
               txq := Vector.replicate 5 [], txNow := Vector.replicate 5 none, rxPart := Vector.replicate 5 none,
               lastEpochSeq := some (t.peerEpoch, (t.rxSeq + 65535) % 65536), nak := false }
  s1.sendMgmt (s1.peerOf k) 0x03 (k + t.epoch * 2 ^ 8) 0

/-- The peers that stay fenced over the reservations left: those with a request still out on an old path (11 R478). -/
def fenceOf (fence : BitVec 64) (rest : List Resv) : BitVec 64 :=
  BitVec.ofNat 64 (maskOf ((bitsSet 64 fence.toNat).filter fun d => rest.any fun r => r.peer == d && r.oldPath))

/-- A packet that has waited or been sent on a strand ends NOT_READY: its group hears of it, and its reservation is freed; a
response, or a packet that this device forwards, is discarded (11 R475). Answers whether a request ended. -/
def State.endRequest (s : State) (p : Packet) : Bool × State :=
  match (if p.isRsp then none else s.mesh.resv.find? fun r => r.reqId == p.reqId && r.epoch == p.epoch && p.src == s.pos) with
  | some r =>
    let rest := s.mesh.resv.filter fun x => !(x.reqId == r.reqId && x.epoch == r.epoch)
    let s1 := { s with mesh := { s.mesh with
      resv := rest,
      fence := fenceOf s.mesh.fence rest,
      ended := match r.waiter with
        | some w => s.mesh.ended ++ [(w, r.packet)]
        | none => s.mesh.ended } }
    (true, s1)
  | none => (false, s)

/-- A strand goes down: from UP its traffic is reconciled, and the strand takes a state with LAST_DOWN set (11 R475). -/
def State.strandDown (s : State) (k : Nat) (st : SState) (ld : Nat) (tx : Tx) (record : Bool := true) : State :=
  let t := s.strandAt k
  let wasUp := t.state == .up || t.state == .paused ||
    (t.recon.isNone && match t.trip with
      | some x => x.2
      | none => false)
  let s1 := s.updStrand k fun t => { t with lastDown := ld, tx := tx, lanes := 0, stage := 0, laneArg := none, trip := none }
  let s2 := s1.strandTo k st record
  if wasUp then s2.beginRecon k else s2.updStrand k fun t =>
    { t with retry := [], replayFrom := none, txq := Vector.replicate 5 [], txNow := Vector.replicate 5 none,
             rxPart := Vector.replicate 5 none }

/-- Drop a lane (11 R473); dropping the last lane takes the strand down with LAST_DOWN = 3. `cause` numbers R473's cases. -/
def State.dropLane (s : State) (k lane cause : Nat) : State :=
  let t := s.strandAt k
  if (t.state = .up ∨ t.state = .mgmtOnly ∨ t.state = .paused) ∧ t.lanes.getLsbD lane then
    let lanes' := t.lanes &&& ~~~ BitVec.ofNat 4 (2 ^ lane)
    let s1 := s.updStrand k fun t =>
      { t with lanes := lanes', laneDrops := satInc 16 t.laneDrops, laneArg := some (lane, true),
               droppedAt := Table.put t.droppedAt lane (some s.now),
               retested := t.retested &&& ~~~ BitVec.ofNat 4 (2 ^ lane), laneBad := Table.put t.laneBad lane 0,
               laneCal := if t.laneCal = some lane then none else t.laneCal }
    let s2 := s1.log 0x3002 (param [(1, k), (1, lane), (1, Config.codeOf 7 cause)])
    if lanes' = 0 then s2.strandDown k .dark 3 .probe else s2
  else s

/-- Is the strand's fibre allowed light: the setting is EN, the device state has Chainline lit, and the port's bank has been
swept (11 R458, R463)? -/
def State.meshLit (s : State) : Bool := s.inService
def State.strandMayTrain (s : State) (k : Nat) : Bool :=
  (s.strandAt k).en && s.meshLit && (s.pho.swept.getLsbD (k / 4))

/-- DEPART goes out on a strand before it darkens: MGMT goes before every other class, and the strand's queues end with it
(11 R469, R485). -/
def State.sendDepart (s : State) (k : Nat) : State := s.emit (.strandControl k "DEPART" [s.pos, s.peerOf k])

/-- All strands go dark: DEPART is sent first on every UP strand where the darkening is planned (11 R485, R496). -/
def State.darkenMesh (s : State) (depart : Bool) : State :=
  let s1 := if depart then
      (List.range 64).foldl (fun s k => if (s.strandAt k).state = .up then
        s.sendDepart k else s) s
    else s
  let s2 := (List.range 64).foldl (fun s k =>
      let t := s.strandAt k
      if t.state = .disabled ∨ t.state = .off then s
      else
        let first := (List.range k).all fun j => s.peerOf j != s.peerOf k
        (s.strandDown k .off 7 .off first).updStrand k fun t =>
          { t with presence := false, probing := false, rxBuf := [], loopTested := false }) s1
  s2

/-! ### Requests, resends and detours -/

/-- Give a packet the detour class, the intermediate and the next DSEQ, and keep it until a DACK covers it (11 R476, R477). -/
def State.sendDetour (s : State) (src m : Nat) (p : Packet) : State :=
  let q := Table.at s.mesh.dseqTx p.dst 1
  let p' := { p with cls := if p.isRsp then 4 else 3, via := m, dseq := q }
  let s1 := { s with mesh := { s.mesh with
    dseqTx := Table.put s.mesh.dseqTx p.dst (if q + 1 < 2 ^ 32 then q + 1 else 1), dstore := s.mesh.dstore ++ [p'] } }
  match pickStrand (s1.upTo m) p' with
  | some k => s1.queueOn k src p'
  | none => s1

/-- Bytes that the detour store holds (2 MiB of flits; 11 R477). -/
def State.dstoreRoom (s : State) : Bool := (s.mesh.dstore.map Packet.flits).sum < 32768

/-- Send a packet by its path: a strand of the peer chosen by the hash, else the detour (11 R470, R476); answers whether a
path took it. -/
def State.sendPacket (s : State) (src : Nat) (p : Packet) : Bool × State :=
  match pickStrand (s.upTo p.dst) p with
  | some k => (true, s.queueOn k src { p with cls := if p.isRsp then 1 else 2, via := 0xFF, dseq := 0 })
  | none => match s.viaTo p.dst with
    | some m => (true, s.sendDetour src m p)
    | none => (false, s)

/-- A response returns on the strand that carried its request (11 R470), or by detour. -/
def State.sendAnswer (s : State) (k src : Nat) (p : Packet) : State :=
  if (s.strandAt k).state = .up ∧ s.peerOf k = p.dst then s.queueOn k src { p with cls := 1 }
  else (s.sendPacket src p).2

/-- The live reservation that a packet of a request belongs to. -/
def State.resvOf (s : State) (p : Packet) : Option Resv :=
  s.mesh.resv.find? fun r => r.reqId == p.reqId && r.epoch == p.epoch

/-- Free a reservation; when the last request of the old paths to its peer is gone, the fence lifts (11 R468, R478). -/
def State.freeResv (s : State) (reqId epoch : Nat) : State :=
  let rest := s.mesh.resv.filter fun r => !(r.reqId == reqId && r.epoch == epoch)
  { s with mesh := { s.mesh with resv := rest, fence := fenceOf s.mesh.fence rest } }

end Sys2Proof.Machine
end

