-- ==== Sys2Proof/Machine/ScorerFx.lean ====
section
/-! DEFINITION. The scorer's channels and states (chapter 10), as operations that other families share. -/
namespace Sys2Proof.Machine

/-- Code of a scorer state (10 Table 10-9). -/
def WState.code : WState → Nat
  | .off => 0 | .warming => 1 | .on => 2 | .degraded => 3

/-- INSVC: channels in service, a channel withdrawn for calibration counted in (10 R431). -/
def State.insvcCount (s : State) : Nat := popCount 64 s.wmk.insvc.toNat

/-- WMK_SET is answered with RETURNED, which is 0 under MODE = 1 (10 R432, R437). -/
def State.answerWarm (s : State) : State := s.answerWaiting .scorer .ok 0 fun _ => leBytes 4 s.wmk.returned

/-- Change the scorer's state, with its record and notice (10 R431). -/
def State.scorerTo (s : State) (w : WState) : State :=
  let frm := s.wmk.state
  if frm = w then s
  else
    let s1 := { s with wmk := { s.wmk with state := w } }
    let s2 := s1.log 0x4007 (param [(1, frm.code), (1, w.code), (1, s1.insvcCount)])
    if frm = .warming then s2.answerWarm else s2

/-- The state that INSVC calls for: WARMING is left when INSVC reaches DEGRADE_MIN or all banks have been tried, and past
it the scorer is ON or DEGRADED (10 R431). -/
def State.scorerJudge (s : State) : State :=
  match s.wmk.state with
  | .off => s
  | .warming =>
    if s.row.degradeMin ≤ s.insvcCount then s.scorerTo .on
    else if 4 ≤ s.wmk.tried then s.scorerTo .degraded else s
  | .on | .degraded => s.scorerTo (if s.row.degradeMin ≤ s.insvcCount then .on else .degraded)

/-- Channel `c` is able to serve: its three rings are LOCKED, its wavelength is lit, and Planish has not declared it failed
(10 R431, R434, 12 R512, R525). -/
def State.channelAble (s : State) (c : Nat) : Bool :=
  let bank := c / 16
  let a := ((List.range 4).find? fun i => Table.at s.pho.spare i none == some (16 + bank)).elim (16 + bank) (20 + ·)
  let l := s.laserAt a
  ((List.range 3).all fun j => (s.ring704At (512 + 3 * c + j)).state == .locked) &&
    l.lit && !l.failed.getLsbD (c % 16) && !s.wmk.calFailed.getLsbD c

/-- Put a channel into service or take it out, as it is able. -/
def State.channelRefresh (s : State) (c : Nat) : State :=
  let b := BitVec.ofNat 64 (2 ^ c)
  let able := s.channelAble c && s.wmk.state != .off
  { s with wmk := { s.wmk with insvc := if able then s.wmk.insvc ||| b else s.wmk.insvc &&& ~~~ b,
                               badOnce := s.wmk.badOnce &&& ~~~ b } }

/-- Take one channel out of service whatever it is able to do. -/
def State.channelOut (s : State) (c : Nat) : State :=
  { s with wmk := { s.wmk with insvc := s.wmk.insvc &&& ~~~ BitVec.ofNat 64 (2 ^ c) } }

/-- Refresh the sixteen channels of a scorer bank. -/
def State.bankRefresh (s : State) (b : Nat) : State :=
  (List.range 16).foldl (fun s w => s.channelRefresh (16 * b + w)) s

end Sys2Proof.Machine
end

