-- ==== Sys2Proof/Machine/PhotonicFx.lean ====
section
/-! DEFINITION. Rings, lasers, spares and headroom (chapter 12), as operations that the meanings of Machine/Photonic.lean and
other families share. -/
namespace Sys2Proof.Machine

/-! ### What a ring serves (12 Table 12-2) -/

/-- The bank of a ring: 0-15 the ports, 16-19 the scorer banks (12 R498). -/
def bankOf (n : Nat) : Nat := if n < 512 then n / 32 else 16 + (n - 512) / 48
/-- The rings of a bank. -/
def ringsOfBank (b : Nat) : List Nat :=
  if b < 16 then (List.range 32).map (32 * b + ·) else (List.range 48).map (512 + 48 * (b - 16) + ·)
/-- The wavelength of a ring. -/
def waveOf (n : Nat) : Nat := if n < 512 then n % 16 else (n - 512) / 3 % 16
/-- The strand and lane of a port ring (11 R446, R447). -/
def strandOfRing (n : Nat) : Nat := 4 * (n / 32) + n % 4
def laneOfRing (n : Nat) : Nat := n % 16 / 4
/-- The channel of a scorer ring. -/
def channelOfRing (n : Nat) : Nat := (n - 512) / 3

/-- The array that feeds a position: its own, or the spare that replaces it (12 R498, R524). -/
def State.arrayAt (s : State) (pos : Nat) : Nat :=
  ((List.range 4).find? fun i => Table.at s.pho.spare i none == some pos).elim pos (20 + ·)
/-- The position that an array serves. -/
def State.posOfArray (s : State) (a : Nat) : Option Nat :=
  if a < 20 then (if s.arrayAt a = a then some a else none) else Table.at s.pho.spare (a - 20) none
/-- The wavelength of a ring is lit at its bank. -/
def State.waveLit (s : State) (n : Nat) : Bool :=
  let l := s.laserAt (s.arrayAt (bankOf n))
  l.lit && !l.failed.getLsbD (waveOf n)

/-- A bank is in use: port banks in STANDBY, ANNEAL and SERVING, scorer banks while the scorer is not OFF (12 R507). -/
def State.bankInUse (s : State) (b : Nat) : Bool := if b < 16 then s.meshLit else s.wmk.state != .off

/-- The lock-in engine, its slot and the dither frequency that serve a ring (12 R503, R504). -/
def lockEngine (n : Nat) : Nat := n % 16
def lockSlot (n : Nat) : Nat := n / 16
def ditherIndex (n : Nat) : Nat := n % 4
/-- A dither frequency in Hz: the phase step of its 24-bit accumulator at 16 MHz is a whole multiple of 15.625 kHz (12 R503). -/
def ditherHz (i : Nat) : Nat := 15625 * (4 + i)
/-- A ring carries dither: locked, or lost and awaiting its lock (12 Table 12-3). -/
def Ring704.dithered (r : Ring704) : Bool := r.state == .locked || r.state == .lost

/-- The mean of the photonic-die sensors in use, 0.01 degrees C; 0 before there is one (12 Table 12-5). -/
def State.zoneTemp (s : State) : Int :=
  let l := ((List.range 32).map fun k => s.sensAt (96 + k)).filter fun x => !x.invalid
  if l.isEmpty then 0 else (l.map (·.temp)).sum / (l.length : Int)

/-- The least depth of a usable resonance, 0.1 dB (12 R508). -/
def leastDepth : Nat := 60
/-- A full sweep takes the usable resonance nearest mid-range (12 R508). -/
def sweepPick (l : List Resonance) : Option (Nat × Int) :=
  let off (r : Resonance) : Nat := (2 * (r.code : Int) - 4095).natAbs
  ((l.filter fun r => leastDepth ≤ r.depth && r.code ≤ 4095).foldl (fun (b : Option Resonance) r => match b with
    | some x => if off r < off x then some r else some x
    | none => some r) none).map fun r => (r.code, r.slope)
/-- The seed of a narrow acquisition: the recorded code, corrected by 80 pm/K for the change of the zone temperature since, with 0.390625 pm
a code and the codes falling as the die warms (12 R509). -/
def narrowSeed (map : Nat × Int) (zone : Int) : Int := map.1 - (zone - map.2) * 2048 / 1000
/-- A narrow acquisition locks at a usable resonance within 128 codes of its seed (12 R509, R514). -/
def narrowPick (seed : Int) (r : Option Resonance) : Option (Nat × Int) :=
  (r.filter fun x => leastDepth ≤ x.depth && x.code ≤ 4095 && decide ((x.code - seed).natAbs ≤ 128)).map fun x => (x.code, x.slope)

/-- DAC code of a ring (12 R501): bits [15:4] of the word, and code 4,095 from 0xFFF0 up. -/
def Ring704.code (r : Ring704) : Nat := r.word / 16

/-- LOCKED rings in use, as their codes. -/
def State.lockedCodes (s : State) : List Nat :=
  (List.range 704).filterMap fun n =>
    let r := s.ring704At n
    if r.state = .locked ∧ s.bankInUse (bankOf n) then some r.code else none

/-- HEADROOM_MIN in 0.1 %, or 0xFFFF when no ring is LOCKED (12 R527). -/
def State.headroomMin (s : State) : Nat :=
  match s.lockedCodes with
  | [] => 0xFFFF
  | c :: r => (r.map fun c => min c (4095 - c)).foldl min (min c (4095 - c)) * 1000 / 4095
/-- Headroom midpoint in 0.1 % (12 R517). -/
def State.headroomMid (s : State) : Nat :=
  match s.lockedCodes with
  | [] => 0
  | c :: r => (r.foldl max c + r.foldl min c) * 1000 / (2 * 4095)

/-! ### Rings -/

/-- What loss of a ring takes out: a port ring's lane is dropped, a scorer ring's channel leaves service (12 R510, R512). -/
def State.ringOut (s : State) (n cause : Nat) : State :=
  if n < 512 then s.dropLane (strandOfRing n) (laneOfRing n) cause
  else (s.channelOut (channelOfRing n)).scorerJudge

/-- A ring locks at a code with a slope: LOCKED, with its entry in the resonance map (12 R508, R509). -/
def State.ringLock (s : State) (n code : Nat) (slope : Int) : State :=
  let was := (s.ring704At n).state
  let s1 := s.updRing704 n fun r =>
    { r with state := .locked, word := 16 * min code 4095, map := some (min code 4095, s.zoneTemp), slope := slope,
             sweepFails := 0, rail := false, acc := 0 }
  let s2 := if was = .lost then s1.log 0x4002 (param [(2, n)]) none false else s1
  if n < 512 then s2 else (s2.channelRefresh (channelOfRing n)).scorerJudge

/-- A full sweep finds no usable resonance on a ring: once more, and at the second failure FAILED (12 R510). -/
def State.sweepFail (s : State) (n : Nat) : State :=
  if (s.ring704At n).sweepFails = 0 then s.updRing704 n fun r => { r with state := .sweep, sweepFails := 1 }
  else
    let s1 := s.updRing704 n fun r => { r with state := .failed, word := 0, sweepFails := 2 }
    (s1.log 0x4001 (param [(2, n)])).ringOut n 4

/-- A ring leaves lock: LOST, with narrow acquisition to follow (12 R511, R512). -/
def State.ringLose (s : State) (n : Nat) : State :=
  let s1 := (s.updRing704 n fun r => { r with state := .lost }).log 0x4002 (param [(2, n)])
  s1.ringOut n 3

/-- The modulator DACs of a parked scorer bank hold code 128 (12 R516). -/
def State.parkDacs (s : State) (b : Nat) : State :=
  if b < 16 then s
  else { s with wmk := { s.wmk with dac := s.wmk.dac.mapIdx fun c (x : Nat × Nat) => if c / 16 = b - 16 then (128, 128) else x } }
/-- Park the rings of a bank: code 0, no dither (12 R507). FAILED rings stay so until cold reset (12 Table 12-3). -/
def State.parkBank (s : State) (b : Nat) : State :=
  (ringsOfBank b).foldl (fun s n => s.updRing704 n fun r =>
    if r.state = .failed then r else { r with state := .parked, word := 0, err := 0, rail := false, acc := 0 }) (s.parkDacs b)
/-- Park every ring. -/
def State.parkRings (s : State) : State := (List.range 20).foldl State.parkBank s

/-! ### Lasers -/

/-- An array goes dark (12 R520, 02 R62). -/
def State.laserDark (s : State) (a : Nat) : State :=
  s.updLaser a fun l => { l with lit := false, state := if l.state = .retired then .retired else if l.atTemp then .warm else .off }
/-- An array lights at set power, where its sub-mount is at temperature and VPHO is within tolerance (12 R521, 02 R62). -/
def State.laserLight (s : State) (a : Nat) : State :=
  if (s.laserAt a).atTemp ∧ (s.laserAt a).state ≠ .retired ∧ s.supply.vphoOk then
    s.updLaser a fun l => { l with lit := true, state := if l.failed = 0 then .on else .failed }
  else s
/-- Every laser goes dark. -/
def State.lasersDark (s : State) : State := (List.range 24).foldl State.laserDark s
/-- Sub-mount heaters of working arrays and free spares start, where they do not run yet (12 R521); every one stops. -/
def State.heatersStart (s : State) : State :=
  (List.range 24).foldl (fun s a => s.updLaser a fun l =>
    if l.state = .retired ∨ l.heater then l else { l with heater := true, atTemp := false }) s
def State.heatersStop (s : State) : State :=
  (List.range 24).foldl (fun s a => s.updLaser a fun l =>
    { l with heater := false, atTemp := false, lit := false, state := if l.state = .retired then .retired else .off }) s

/-- Put an array's set power into force, clamped to ARRAY_CEIL / 16 with one record when it clamps (12 R520). -/
def State.setLaserPower (s : State) (a pw : Nat) : State :=
  let lim := s.arrayCeil / 16
  if lim < pw then
    (s.updLaser a fun l => { l with setPower := lim }).log 0x4006 (param [(1, a)])
  else s.updLaser a fun l => { l with setPower := pw }

/-- The lowest-numbered spare that is free and at temperature (12 R524). -/
def State.freeSpare (s : State) : Option Nat :=
  ((List.range 4).map (20 + ·)).find? fun a =>
    Table.at s.pho.spare (a - 20) none == none && (s.laserAt a).state != .retired && (s.laserAt a).atTemp &&
      (s.laserAt a).failed == 0

/-- Failed wavelengths without a spare: each lane on one is dropped, a strand with all four failed goes down, and each
channel on one leaves service (12 R525, 11 R492). -/
def State.wavesOut (s : State) (pos : Nat) (mask : BitVec 16) : State :=
  (bitsSet 16 mask.toNat).foldl (fun s w =>
    if pos < 16 then s.dropLane (4 * pos + w % 4) (w / 4) 4
    else (s.channelOut (16 * (pos - 16) + w)).scorerJudge) s

/-- Replace the array at a position with a spare: the old one dark and retired, the port's strands PAUSED or the bank's
channels out of service, the spare routed and at set power, its bank awaiting narrow acquisition (12 R524, Table 12-4). -/
def State.takeSpare (s : State) (pos sp : Nat) : State :=
  let old := s.arrayAt pos
  let s1 := s.updLaser old fun l => { l with state := .retired, lit := false, heater := false }
  let s2 := { s1 with pho := { s1.pho with
    spare := Table.put ((s1.pho.spare.map fun x => if x = some pos then none else x)) (sp - 20) (some pos),
    takeover := (sp, pos) :: s1.pho.takeover.filter fun t => t.2 != pos } }
  let s3 := (s2.log 0x4003 (param [(1, old), (2, 0xFFFF)])).log 0x4004 (param [(1, sp), (1, pos)])
  let s4 := if pos < 16 then
      (List.range 4).foldl (fun s j =>
        let k := 4 * pos + j
        if (s.strandAt k).state = .up then
          (s.updStrand k fun t => { t with tx := .probe, trip := some (s.now, true) }).strandTo k .paused
        else s) s3
    else (List.range 16).foldl (fun s w => s.channelOut (16 * (pos - 16) + w)) s3
  let s5 := s4.laserLight sp
  let s6 := (ringsOfBank pos).foldl (fun s n => s.updRing704 n fun r =>
    if r.state = .locked ∨ r.state = .lost then { r with state := .acquire } else r) s5
  if pos < 16 then s6 else s6.scorerJudge

/-- Wavelengths of an array fail (12 R523): the whole array is replaced where a spare is free (R524), else the rest serves
on (R525). A spare that fails is a failure of the position it serves; during its own takeover it is retired (R533). -/
def State.wavesFail (s : State) (a : Nat) (mask : BitVec 16) : State :=
  let s1 := s.updLaser a fun l =>
    { l with failed := l.failed ||| mask, state := if l.state = .on then .failed else l.state }
  match s1.posOfArray a with
  | none => s1.log 0x4003 (param [(1, a), (2, mask.toNat)])
  | some pos => match s1.freeSpare with
    | some sp => s1.takeSpare pos sp
    | none => (s1.log 0x4003 (param [(1, a), (2, mask.toNat)])).wavesOut pos mask

end Sys2Proof.Machine
end

