-- ==== Sys2Proof/Machine/ThermalFx.lean ====
section
/-! DEFINITION. Sensors, thresholds, throttles, the power limit and the cooling warning (chapter 13), as operations that the
meanings of Machine/Thermal.lean and other families share. Temperatures are in 0.01 degrees C. -/
namespace Sys2Proof.Machine

/-! ### Groups and thresholds (13 Tables 13-2 to 13-5) -/

/-- The threshold group of a sensor. -/
def groupOf (n : Nat) : Nat := if n < 80 then 0 else if n < 96 then 1 else if n < 128 then 2 else if n < 136 then 3 else 4
/-- The sensors of a group. -/
def sensorsOf (g : Nat) : List Nat := (List.range 140).filter fun n => groupOf n == g
/-- The sensors of Mould `m` (13 R540). -/
def sensorsOfMould (m : Nat) : List Nat := [4 * m, 4 * m + 1, 4 * m + 2, 4 * m + 3, 64 + m]
/-- The Mould of a group 0 sensor. -/
def mouldOfSensor (n : Nat) : Nat := if n < 64 then n / 4 else n - 64
/-- A threshold of a group: 0 warning, 1 throttle (none where the group has none), 2 critical. -/
def State.threshold (s : State) (g w : Nat) : Option Int :=
  let r := Table.at s.thm.thr g 0
  if w = 0 then some (100 * (fieldOf r 31 24 : Int))
  else if w = 1 then (if fieldOf r 23 16 = 0 then none else some (100 * (fieldOf r 23 16 : Int)))
  else some (100 * (fieldOf r 15 8 : Int))
/-- The hysteresis of a threshold. -/
def State.hysteresis (s : State) (g w : Nat) : Int :=
  let r := Table.at s.thm.thr g 0
  if w = 0 then 25 * (fieldOf r 7 4 : Int) else if w = 1 then 25 * (fieldOf r 3 0 : Int) else 500
/-- A reading lies at or above the lower edge of a threshold (13 R545). -/
def State.aboveEdge (s : State) (g w : Nat) (t : Int) : Bool :=
  (s.threshold g w).elim false fun th => decide (th - s.hysteresis g w ≤ t)

/-- A valid sensor is in a threshold state. -/
def State.sensIn (s : State) (n w : Nat) : Bool :=
  let x := s.sensAt n
  !x.invalid && (Table.at x.cross w {}).inState
/-- A group is in a state while any of its valid sensors is (13 R545). -/
def State.groupIn (s : State) (g w : Nat) : Bool := (sensorsOf g).any fun n => s.sensIn n w
/-- Readings of the valid sensors of a list. -/
def State.validTemps (s : State) (l : List Nat) : List Int :=
  l.filterMap fun n => if (s.sensAt n).invalid then none else some (s.sensAt n).temp
/-- The highest of a list of readings. -/
def maxOf : List Int → Option Int
  | [] => none
  | x :: r => some (r.foldl max x)
/-- The mean of a list of readings. -/
def meanOf (l : List Int) : Option Int := if l.isEmpty then none else some (l.sum / (l.length : Int))
/-- The temperature of a Mould: the highest valid reading of its sensors (13 R540). -/
def State.mouldTemp (s : State) (m : Nat) : Option Int := maxOf (s.validTemps (sensorsOfMould m))
/-- The mean of the compute-die sensors, groups 0 and 1. -/
def State.dieMean (s : State) : Option Int := meanOf (s.validTemps (List.range 96))
/-- The coolant supply set-point that the device knows, 0.01 degrees C: slot 8's on the primary, the one in the latest STEWBEAT elsewhere, and
the image's default before either (17 R691, R695; DEDUCED, log entry 116). -/
def State.supplySetpoint (s : State) : Int :=
  let word (w : Reg32) : Int := (lwRat w * 100).floor
  if s.stew.role = .primary ∧ (s.slotAt 8).en then word (s.slotAt 8).setpoint
  else match s.stew.snapshot with
    | some b => word b.setpt[0]
    | none => s.row.supplyDef
/-- The serving reference temperature (03 R114). -/
def State.servingReference (s : State) : Int :=
  if s.dev.servingSamples.length = 6000 then (meanOf s.dev.servingSamples).getD 0 else s.supplySetpoint + 2500
/-- The band of R115 is met: the compute-die mean lies no more than 8 K below the serving reference. -/
def State.bandMet (s : State) : Bool := s.dieMean.any fun m => decide (s.servingReference - 800 ≤ m)

/-! ### Mould clocks (13 R547-R549, 07 R320) -/

/-- The highest Mould clock multiplier that the VCORE value last acknowledged supports; the spec gives no table of clock against voltage
(02 R84, log entry 7). -/
def Supply.clockFor (u : Supply) : Nat := 29 + Config.freeOf 51 [u.avsAck] % 128

/-- The multiplier limit of a Mould's throttle (13 R547). -/
def Mould.throttleLimit (x : Mould) : Nat := if x.throttle = 0 then 156 else max 29 (x.mref * (20 - x.throttle) / 20)
/-- MULT_MAX: the least of 156, the cap limit and the throttle limit (13 R549). -/
def State.multLimit (s : State) (x : Mould) : Nat := min 156 (min s.thm.mCap x.throttleLimit)
/-- The clock that a Mould's work requests: the nominal one (07 R320; log entry 23). -/
def nominalMult : Nat := 144
/-- Put a Mould's limit into force; a running clock takes the least of the limit and the request (13 R549). -/
def State.refreshMult (s : State) (m : Nat) : State :=
  let lim := s.multLimit (s.mouldAt m)
  s.updMould m fun x => { x with multMax := lim, mult := if x.mult = 0 then 0 else min lim nominalMult }
def State.refreshMults (s : State) : State := (List.range 16).foldl State.refreshMult s
/-- Start a Mould's clock. -/
def State.clockOn (s : State) (m : Nat) : State :=
  s.updMould m fun x => { x with mult := min (s.multLimit x) nominalMult }
/-- Stop a Mould's clock. -/
def State.clockOff (s : State) (m : Nat) : State := s.updMould m fun x => { x with mult := 0 }
/-- The M in force on a Mould, the reference of a throttle that begins; of a stopped clock, the one it would start at. -/
def State.multInForce (s : State) (m : Nat) : Nat :=
  let x := s.mouldAt m
  if x.mult = 0 then min (s.multLimit x) nominalMult else x.mult

/-- Mould `m` is in the throttle state: one of its own sensors is, or a group 1 sensor that chose it (13 R547, R548). -/
def State.mouldHot (s : State) (m : Nat) : Bool :=
  ((sensorsOfMould m).any fun n => s.sensIn n 1) || s.thm.byGroup1.any fun e => e.2 == m && s.sensIn e.1 1
/-- A throttle of Mould `m` adds a step: a temperature that holds it lies at or above its lower edge (13 R547, R548). -/
def State.mouldAdds (s : State) (m : Nat) : Bool :=
  (((sensorsOfMould m).any fun n => s.sensIn n 1) && (s.mouldTemp m).elim false fun t => s.aboveEdge 0 1 t) ||
  s.thm.byGroup1.any fun e => e.2 == m && s.sensIn e.1 1 && s.aboveEdge 1 1 (s.sensAt e.1).temp

/-- Bring a Mould's throttle in line with the states of the sensors: an entry takes M_ref and step 1, a new entry during a
release resumes from the present step, and leaving the state starts the release (13 R547). -/
def State.throttleFollow (s : State) (m : Nat) : State :=
  let hot := s.mouldHot m
  let x := s.mouldAt m
  if s.thm.blind.getLsbD m then s
  else if hot then
    (if x.throttle = 0 then
      (s.updMould m fun x => { x with throttle := 1, mref := s.multInForce m, releasing := false }).refreshMult m
     else s.updMould m fun x => { x with releasing := false })
  else if x.throttle ≠ 0 then s.updMould m fun x => { x with releasing := true }
  else s

/-- Bring every throttle in line, dropping the choices of group 1 sensors that have left their state (13 R548). -/
def State.throttleFollowAll (s : State) : State :=
  let s1 := { s with thm := { s.thm with byGroup1 := s.thm.byGroup1.filter fun e => s.sensIn e.1 1 } }
  (List.range 16).foldl State.throttleFollow s1

/-- The hottest Mould whose throttle can still add (13 R548). -/
def State.hottestMould (s : State) : Option Nat :=
  let l := (List.range 16).filterMap fun m =>
    if (s.mouldAt m).throttle < 16 then (s.mouldTemp m).map fun t => (t, m) else none
  (l.foldl (fun (b : Option (Int × Nat)) e => match b with
    | none => some e
    | some x => if x.1 < e.1 then some e else some x) none).map (·.2)

/-! ### The cooling-degradation warning (13 R566-R568) -/

/-- The PARAM of a 0x6003 record. -/
def State.warnParam (s : State) : List Byte := param [(4, s.thm.warn.toNat), (4, s.stew.cause.toNat)]

/-- Set a cause of THM_WARN. The first raises WARN; a further one while WARN is 1 sends its notice at most once per second
(13 R568). -/
def State.warnSet (s : State) (c : Nat) : State :=
  if s.thm.warn.getLsbD c then s
  else
    let was := s.thm.warn
    let s1 := { s with thm := { s.thm with warn := was ||| BitVec.ofNat 11 (2 ^ c) } }
    let quiet := was != 0 && s.thm.coolNoticeAt.elim false fun t => decide (s.now < t + 32768)
    let s2 := s1.log 0x6003 s1.warnParam none true false (!quiet)
    if was != 0 && !quiet then { s2 with thm := { s2.thm with coolNoticeAt := some s.now } } else s2

/-- Clear a cause. The last one clears WARN with a notice of RAISE = 0 (13 R568). -/
def State.warnClear (s : State) (c : Nat) : State :=
  if s.thm.warn.getLsbD c then
    let s1 := { s with thm := { s.thm with warn := s.thm.warn &&& ~~~ BitVec.ofNat 11 (2 ^ c) } }
    let last := s1.thm.warn == 0
    let quiet := !last && s.thm.coolNoticeAt.elim false fun t => decide (s.now < t + 32768)
    let s2 := s1.log 0x6003 s1.warnParam none (!last) false (!quiet)
    if last || quiet then s2 else { s2 with thm := { s2.thm with coolNoticeAt := some s.now } }
  else s

/-! ### Sensor validity (13 R542) -/

/-- Insert into a rising list. -/
def insertRising (x : Int) : List Int → List Int
  | [] => [x]
  | y :: r => if x ≤ y then x :: y :: r else y :: insertRising x r
/-- The median of a list: of an even number, the lower of the two in the middle (log entry 24). -/
def medianOf (l : List Int) : Option Int := (l.foldl (fun a x => insertRising x a) [])[(l.length - 1) / 2]?

/-- Two sample periods of a group in ticks of 1/32,768 s, rounded up: 50 us, or 2 ms. -/
def stalePeriod (g : Nat) : Nat := if g < 2 then 2 else 66

/-- The condition of a sensor that has been sampled, as R542 orders them: 0 valid, 1 stale, 2 frozen, 3 implausible, and 4
flagged by Planish (R574). -/
def State.sensCondition (s : State) (n : Nat) (median : Option Int) (group : List Nat) : Nat :=
  let x := s.sensAt n
  if x.flagged then 4
  else if !x.fresh || stalePeriod (groupOf n) ≤ s.now - x.sampledAt then 1
  else if 32768 ≤ s.now - x.changedAt &&
      ((group.zip x.groupThen).any fun p => p.1 != n && 100 ≤ ((s.sensAt p.1).temp - p.2).natAbs) then 2
  else if x.temp < -2000 || 15000 < x.temp || median.elim false fun md => 2000 < (x.temp - md).natAbs then 3
  else 0

/-- Take a sensor out of the thresholds or back into them, with its record (13 R542). An invalid sensor's dwell counts
start again. -/
def State.sensValidity (s : State) (n cond : Nat) : State :=
  let x := s.sensAt n
  if x.invalid = (cond != 0) then s
  else
    let s1 := s.updSens n fun x =>
      { x with invalid := cond != 0,
               cross := if cond = 0 then x.cross else x.cross.map fun (c : Cross) => { c with above := 0, belowSince := none } }
    s1.log 0x6002 (param [(1, n), (1, Config.codeOf 2 cond)]) none (cond != 0)

/-- A Mould whose sensors are all invalid is held at step 8 with M_ref at its M in force (13 R570). -/
def State.blindFollow (s : State) (m : Nat) : State :=
  let none_ := (sensorsOfMould m).all fun n => (s.sensAt n).invalid
  let b := BitVec.ofNat 16 (2 ^ m)
  if none_ ∧ ¬ s.thm.blind.getLsbD m then
    (({ s with thm := { s.thm with blind := s.thm.blind ||| b } }).updMould m fun x =>
      { x with throttle := 8, mref := s.multInForce m, releasing := false }).refreshMult m
  else if ¬ none_ ∧ s.thm.blind.getLsbD m then { s with thm := { s.thm with blind := s.thm.blind &&& ~~~ b } }
  else s

/-- Judge every sensor of a group; answers whether the last valid sensor of group 0 or of group 1 has been lost, for which
the device enters SAFE (13 R542, R570). -/
def State.judgeGroup (s : State) (g : Nat) : Bool × State :=
  let group := sensorsOf g
  let seen := group.filter fun n => (s.sensAt n).fresh
  let median := medianOf (seen.map fun n => (s.sensAt n).temp)
  let had := group.any fun n => !(s.sensAt n).invalid
  let s1 := seen.foldl (fun s n => s.sensValidity n (s.sensCondition n median group)) s
  let left := group.any fun n => !(s1.sensAt n).invalid
  let lostM := (List.range 16).filter fun m => g == 0 &&
    ((s1.thm.blind.getLsbD m) || (sensorsOfMould m).any fun n => (s.sensAt n).invalid != (s1.sensAt n).invalid)
  (had && !left && g < 2, lostM.foldl State.blindFollow s1)

/-- Ticks times throttled Moulds in the last `k` ticks of the clock. -/
def throttleSum : Nat → List (Nat × Nat) → Nat
  | _, [] => 0
  | k, (n, t) :: r => n * min k t + (if t < k then throttleSum (k - t) r else 0)
/-- The runs of the last `k` ticks. -/
def trimRuns : Nat → List (Nat × Nat) → List (Nat × Nat)
  | _, [] => []
  | k, (n, t) :: r => (n, min k t) :: (if t < k then trimRuns (k - t) r else [])
/-- A tick of the clock goes by with `n` Moulds throttled. -/
def pushRun (n : Nat) : List (Nat × Nat) → List (Nat × Nat)
  | [] => if n = 0 then [] else [(n, 1)]
  | (m, t) :: r => if m = n then (m, t + 1) :: r else (n, 1) :: (m, t) :: r
/-- The time that Moulds are held in throttle counts on, over the last 10 s (13 Table 13-9). -/
def State.throttleTime (s : State) : State :=
  let n := (s.mould.toList.filter fun (x : Mould) => x.throttle != 0).length
  { s with thm := { s.thm with throttleRuns := trimRuns 327680 (pushRun n s.thm.throttleRuns) } }

/-! ### Power (13 R553-R565) -/

/-- Put a cap into force: SRC 0 from the steward, 1 the row fallback, 2 clamped to the ceiling (13 R553, Table 13-8). -/
def State.setCap (s : State) (w src : Nat) : State := { s with thm := { s.thm with capW := w, capSrc := src } }

/-- The row fallback cap, within the ceiling (01 R28, 04 R170). -/
def State.fallbackCap (s : State) : Nat := min s.row.fallbackW s.pwrCeil

/-- A cap below the WARM floor prevents the band in ANNEAL: the cap is held and WARM_BAND clears, with one record until the cap permits the
floor again or the band holds (03 R116, 13 R558). -/
def State.warmBandCap (s : State) : State :=
  if s.dev.state = .anneal ∧ ¬ s.rampMode ∧ s.thm.capW < s.thm.warmFloor ∧ ¬ s.bandMet then
    let s1 := { s with dev := { s.dev with warmBand := false }, thm := { s.thm with warmCapped := true } }
    if s.thm.warmCapped then s1 else s1.log 0x6007 (param [(2, s.thm.capW)])
  else { s with thm := { s.thm with warmCapped := false } }

end Sys2Proof.Machine
end

