-- ==== Sys2Proof/Machine/ThermalEv.lean ====
section
/-! DEFINITION. What the events of sensors, throttles, caps and the predictor do (chapter 13). -/
namespace Sys2Proof.Machine

/-! ### Sensors -/

/-- Count a crossing: the first within 60 s writes a record, and later ones are repeats of it (13 R546). -/
def State.logCrossing (s : State) (n w : Nat) (entry : Bool) : State :=
  let c := Table.at (s.sensAt n).cross w {}
  let mine := if entry then c.recEntry else c.recExit
  let latest := max ((c.recEntry.map (·.1)).getD 0) ((c.recExit.map (·.1)).getD 0)
  let prm := param [(1, n), (1, w)]
  match mine with
  | some r =>
    if s.now < latest + 1966080 then s.logRepeat r.2 0x6001 prm none entry true
    else
      let s1 := s.log 0x6001 prm none entry true
      let mark := some (s.now, (s1.cal.next + 2 ^ 32 - 1) % 2 ^ 32)
      s1.updSens n fun x => { x with cross := Table.upd x.cross w fun c =>
        if entry then { c with recEntry := mark } else { c with recExit := mark } }
  | none =>
    let s1 := s.log 0x6001 prm none entry true
    let mark := some (s.now, (s1.cal.next + 2 ^ 32 - 1) % 2 ^ 32)
    s1.updSens n fun x => { x with cross := Table.upd x.cross w fun c =>
      if entry then { c with recEntry := mark } else { c with recExit := mark } }

/-- What entering a threshold state does, beside its record: JUNCTION; a throttle; critical, for which the caller enters
SAFE (13 R547, R548, R550, R551, Table 13-9). -/
def State.crossingEntered (s : State) (n w : Nat) : State :=
  if w = 0 then s.warnSet 2
  else if w = 1 then
    (if groupOf n = 0 then s.throttleFollow (mouldOfSensor n)
     else if groupOf n = 1 then
      match s.hottestMould with
      | some m => ({ s with thm := { s.thm with byGroup1 := s.thm.byGroup1 ++ [(n, m)] } }).throttleFollow m
      | none => s
     else { s with thm := { s.thm with hbmRate := Table.upd s.thm.hbmRate (n - 128) fun r => max 4 (r - 1) } })
  else s

/-- Compare a valid sensor's sample with one threshold (13 R545). -/
def State.compareSample (s : State) (n w : Nat) : State :=
  let x := s.sensAt n
  let g := groupOf n
  match s.threshold g w with
  | none => s
  | some th =>
    let c := Table.at x.cross w {}
    let above := if th ≤ x.temp then min 3 (c.above + 1) else 0
    let below := if s.aboveEdge g w x.temp then none else some (c.belowSince.getD s.now)
    let entry := !c.inState && above == 3
    let s1 := s.updSens n fun x => { x with cross := Table.upd x.cross w fun c =>
      { c with above := above, belowSince := below, inState := c.inState || entry } }
    if entry then (s1.logCrossing n w true).crossingEntered n w else s1

/-- SENSOR_SAMPLE (13 R542, R545): the reading with its calibration offset; the group's validity; the thresholds. HBM above
85 degrees C doubles its refresh rate (09 R372). Answers whether the device is to enter SAFE with cause 0x06. The sensors
are unpowered in DORMANT (13 R578). -/
def State.evSensorSample (s : State) (n : Nat) (temp : Int) : Bool × State :=
  if s.dev.state = .dormant ∨ s.dev.state = .off then (false, s)
  else
    let x := s.sensAt n
    let t := temp + x.offset
    let s1 := s.updSens n fun x =>
      { x with temp := t, fresh := true, sampledAt := s.now,
               changedAt := if t = x.temp ∧ x.fresh then x.changedAt else s.now,
               groupThen := if t = x.temp ∧ x.fresh then x.groupThen
                 else (sensorsOf (groupOf n)).map fun k => if k = n then t else (s.sensAt k).temp }
    let j := s1.judgeGroup (groupOf n)
    let s2 := j.2
    let s3 := if groupOf n = 3 then
        { s2 with mem := { s2.mem with refresh2 := Table.put s2.mem.refresh2 (n - 128) (decide (8500 < t)) } }
      else s2
    if (s3.sensAt n).invalid then (j.1, s3.throttleFollowAll)
    else
      let was := s3.sensIn n 2
      let s4 := (List.range 3).foldl (fun s w => s.compareSample n w) s3
      (j.1 || (!was && s4.sensIn n 2), s4.throttleFollowAll)

/-- THRESHOLD_EXIT (13 R545): a state is left when the reading has stayed below the lower edge for 20 ms. -/
def State.evThresholdExit (s : State) (n w : Nat) : State :=
  let c := Table.at (s.sensAt n).cross w {}
  if s.sensIn n w ∧ c.belowSince.isSome then
    let s1 := s.updSens n fun x => { x with cross := Table.upd x.cross w fun c => { c with inState := false } }
    (s1.logCrossing n w false).throttleFollowAll
  else s

/-! ### Throttles -/

/-- THROTTLE_STEP (13 R547): a throttled Mould at or above the lower edge gains a step, to 16. -/
def State.evThrottleStep (s : State) (m : Nat) : State :=
  let x := s.mouldAt m
  if x.throttle ≠ 0 ∧ ¬ x.releasing ∧ ¬ s.thm.blind.getLsbD m ∧ s.mouldAdds m then
    (s.updMould m fun x => { x with throttle := min 16 (x.throttle + 1) }).refreshMult m
  else s

/-- THROTTLE_RELEASE_STEP (13 R547): after the state is left, a step is removed, and at 0 the throttle ends. -/
def State.evThrottleRelease (s : State) (m : Nat) : State :=
  let x := s.mouldAt m
  if x.throttle ≠ 0 ∧ x.releasing ∧ ¬ s.thm.blind.getLsbD m then
    (s.updMould m fun x => { x with throttle := x.throttle - 1, releasing := x.throttle - 1 ≠ 0,
                                    mref := if x.throttle = 1 then 0 else x.mref }).refreshMult m
  else s

/-- HBM_THROTTLE_STEP (13 R550): a throttled stack at or above the lower edge loses 12.5 % of peak, down to 50 %; one that
has left the state regains a step. -/
def State.evHbmThrottle (s : State) (k : Nat) : State :=
  let set (f : Nat → Nat) : State := { s with thm := { s.thm with hbmRate := Table.upd s.thm.hbmRate k f } }
  if s.sensIn (128 + k) 1 then
    (if s.aboveEdge 3 1 (s.sensAt (128 + k)).temp then set fun r => max 4 (r - 1) else s)
  else set fun r => min 8 (r + 1)

/-! ### Caps -/

/-- A cap entry for this position in an accepted packet, which restarts the 1 s of R28 whatever it says: 0 keeps the cap, 1 to 349 is
invalid (so is an entry beyond 2,047, of which R553 says nothing: log entry 126), and a cap is clamped to the ceiling with one record;
leaving the row fallback after an entry into it writes its record (01 R27, R28, 13 R553). -/
def State.takeCap (s : State) (src w epoch seq : Nat) : State :=
  let s0 := { s with thm := { s.thm with capSeq := some (epoch, seq), capAt := some s.now } }
  if w = 0 then s0
  else if w < 350 ∨ 2047 < w then s0.log 0x6006 (param [(1, src), (1, Config.codeOf 3 4), (4, s0.cal.capDiscards)])
  else
    let w' := min w s.pwrCeil
    let s2 := s0.setCap w' (if w' < w then 2 else 0)
    let s3 := if s.thm.fellBack then ({ s2 with thm := { s2.thm with fellBack := false } }).log 0x6005 (param [(2, w')]) none false else s2
    (if w' < w then s3.log 0x6004 (param [(2, w)]) else s3).warmBandCap

/-- A cap packet is discarded and counted, with a record at most once per 10 s (13 R554). Reasons: 1 the sender or its
epoch is not recognised, 2 SEQ is not newer, 3 the packet's form (log entry 26). -/
def State.discardCap (s : State) (src reason : Nat) : State :=
  let n := satInc 32 s.cal.capDiscards
  let s1 := { s with cal := { s.cal with capDiscards := n } }
  if s.thm.capDiscardAt.elim true fun t => decide (t + 327680 ≤ s.now) then
    let s2 := s1.log 0x6006 (param [(1, src), (1, Config.codeOf 3 reason), (4, n)])
    { s2 with cal := { s2.cal with capDiscards := 0 }, thm := { s2.thm with capDiscardAt := some s.now } }
  else s1

/-- CAP (13 R553, R554): accepted from the recognised primary with the epoch of its election and a newer SEQ. While firmware
is absent caps are not accepted (R575). -/
def State.evCap (s : State) (p : Packet) : State :=
  if !s.fwRuns then s
  else
    let seq := p.opnd0 % 2 ^ 32
    let epoch := p.opnd0 / 2 ^ 32 % 2 ^ 16
    if p.opnd0 / 2 ^ 48 ≠ 0 ∨ p.opnd1 ≠ 0 ∨ p.dflits ≠ 2 ∨ p.len ≠ 128 then s.discardCap p.src 3
    else if s.stew.primary ≠ some p.src ∨ epoch ≠ s.stew.epoch then s.discardCap p.src 1
    else
      let newer := match s.thm.capSeq with
        | none => true
        | some l => l.1 != epoch || (1 ≤ (seq + 2 ^ 32 - l.2) % 2 ^ 32 && (seq + 2 ^ 32 - l.2) % 2 ^ 32 ≤ 2 ^ 31)
      if newer then s.takeCap p.src (fld p.data (2 * s.pos) 2) epoch seq else s.discardCap p.src 2

/-- CAP_FALLBACK (01 R28, 04 R170): 1 s without an accepted cap applies the row fallback cap, with a record unless no cap
has been accepted since cold reset. -/
def State.evCapFallback (s : State) : State :=
  if !s.fwRuns ∨ s.thm.capSrc = 1 then s
  else
    let s1 := s.setCap s.fallbackCap 1
    (if s.thm.capAt.isSome then ({ s1 with thm := { s1.thm with fellBack := true } }).log 0x6005 (param [(2, s.fallbackCap)])
     else s1).warmBandCap

/-! ### The power controller (13 R555-R557). How far a tick moves M_CAP and the duty cycle is not stated: free values. -/

/-- The error of the estimate, wider once a rail's telemetry has been stale for more than 1 s (13 R556, R573). -/
def State.estError (s : State) (w : Nat) : Nat :=
  if s.supply.tele.toList.any (fun t => t.stale && decide (t.staleAt + 32768 < s.now)) then (8 * w + 99) / 100 + 10 else (3 * w + 99) / 100 + 10

/-- The limit on package power: the cap and the bounds of R555. -/
def State.powerLimit (s : State) : Nat := min s.thm.capW 1600

/-- An AVSBus request for a value, retried once where it is not acknowledged; `ack` says which of the two transfers are. After the retry
the Mould clock is held to what the last acknowledged value supports, until AVSBus answers again (02 R84). -/
def State.avsAsk (s : State) (v : Nat) (ack : Bool × Bool) : State :=
  let ask (s : State) : State := s.emit (.bus "AVSBus VCORE" [v])
  let s1 := ask { s with supply := { s.supply with avsReq := v } }
  let s2 := if ack.1 then s1 else ask s1
  let ok := ack.1 || ack.2
  let s3 := { s2 with supply := { s2.supply with avsOk := ok, avsAck := if ok then v else s2.supply.avsAck } }
  if ok then s3 else ({ s3 with thm := { s3.thm with mCap := min s3.thm.mCap s3.supply.clockFor } }).refreshMults

/-- One AVSBus step towards a voltage: at most 25 mV, on the 5 mV grid within 0.65-0.85 V. While AVSBus is silent the last request is made
again, and the voltage is not moved (02 R59, R84). -/
def State.avsToward (s : State) (mv : Nat) (ack : Bool × Bool) : State :=
  let goal := max 650 (min 850 ((mv + 4) / 5 * 5))
  let v := s.supply.avsReq
  let v' := if v < goal then min goal (v + 25) else max goal (v - 25)
  if ¬ s.supply.avsOk then s.avsAsk v ack
  else if v' = v then s
  else s.avsAsk v' ack

/-- A tick of the controller enters the history: PKG_W and CORE_W are means of the last 1 ms (13 Table 13-8). -/
def State.powerNote (s : State) (est coreW : Nat) : State :=
  let l := ((est, coreW, decide (s.thm.mCap < 156 ∨ s.thm.duty < 8)) :: s.thm.power).take 10000
  let ms := l.take 100
  { s with thm := { s.thm with
      power := l, pkgW := min 0xFFFF ((ms.map (·.1)).sum / ms.length), coreW := min 0xFFFF ((ms.map (·.2.1)).sum / ms.length) } }

/-- How the controller acts on an estimate (13 R556): above the limit the cap limit falls, then VCORE, then the duty cycle; below
it VCORE rises first, and the duty cycle and the cap limit when the voltage has settled. `ack` says whether the AVSBus request of this
tick and its retry are acknowledged; while AVSBus is silent the clock alone enforces the limit, within what VCORE supports (02 R84). -/
def State.powerAct (s : State) (est coreW vmin : Nat) (ack : Bool × Bool) : State :=
  let high := s.powerLimit < est + s.estError est || (s.thm.rampAllow != 0xFFFF && s.thm.rampAllow < coreW)
  let f := Config.freeOf 10 [s.thm.mCap, s.thm.duty, est, s.powerLimit, coreW]
  if high then
    if 29 < s.thm.mCap then
      (({ s with thm := { s.thm with mCap := 29 + f % (s.thm.mCap - 29) } }).refreshMults).avsToward vmin ack
    else if 1 < s.thm.duty then
      ({ s with thm := { s.thm with duty := 1 + f % (s.thm.duty - 1) } }).avsToward vmin ack
    else s.avsToward vmin ack
  else if s.supply.avsOk ∧ s.supply.avsReq < min 850 vmin then s.avsToward vmin ack
  else
    let s2 := if s.supply.avsOk then s else s.avsToward vmin ack
    let top := if s2.supply.avsOk then 156 else s2.supply.clockFor
    if s2.thm.duty < 8 then { s2 with thm := { s2.thm with duty := s2.thm.duty + 1 + f % (8 - s2.thm.duty) } }
    else if s2.thm.mCap < top then
      ({ s2 with thm := { s2.thm with mCap := s2.thm.mCap + 1 + f % (top - s2.thm.mCap) } }).refreshMults
    else s2

/-- POWER_CONTROL_TICK (13 R556): the activity, scaled, is the estimate that the controller acts on. -/
def State.evPowerTick (s : State) (activityW coreW vmin : Nat) (ack : Bool × Bool) : State :=
  let est := activityW * s.thm.scale / 65536
  (s.powerAct est coreW vmin ack).powerNote est coreW

/-- ESTIMATE_RESCALE (13 R556, R573): the scale follows the sum of the PMBus readings, and is kept while a rail's telemetry is
stale. The same 10 ms carry the serving reference of R114 and the WARM loop of R115. -/
def State.evRescale (s : State) : State :=
  let sum := (s.supply.tele.toList.map fun t => t.vout * t.iout).sum / 10000
  let fresh := !(s.supply.tele.toList.any (·.stale))
  let s1 := if fresh ∧ s.thm.pkgW ≠ 0 then { s with thm := { s.thm with scale := s.thm.scale * sum / s.thm.pkgW } } else s
  let s2 := match s1.dieMean with
    | some m =>
      if s1.dev.state = DevState.serving then
        { s1 with dev := { s1.dev with servingSamples := (m :: s1.dev.servingSamples).take 6000 } }
      else s1
    | none => s1
  match s2.dieMean with
  | some m =>
    if s2.dev.state = DevState.anneal ∧ ¬ s2.rampMode then
      if s2.bandMet then
        { s2 with dev := { s2.dev with warmBand := true }, thm := { s2.thm with warmCapped := false } }
      else
        let f := Config.freeOf 11 [s2.thm.warmFloor, m.toNat]
        ({ s2 with dev := { s2.dev with warmBand := false },
                   thm := { s2.thm with warmFloor :=
                     if s2.thm.warmFloor < s2.row.warmW then s2.thm.warmFloor + 1 + f % (s2.row.warmW - s2.thm.warmFloor)
                     else s2.thm.warmFloor } }).warmBandCap
    else s2
  | none => s2

/-- CAP_UNMET (13 R557): at minimum clock and duty with the estimate above the cap for 10 ms, the cause is set. -/
def State.evCapUnmet (s : State) : State :=
  if s.thm.mCap = 29 ∧ s.thm.duty = 1 ∧ s.thm.capW < s.thm.pkgW then s.warnSet 9 else s

/-! ### The predictor and the ramp limiter (13 R560-R565), in 1/65,536 degrees C -/

/-- The ramp limiter acts: RAMP mode, in ANNEAL or SERVING (13 R561). -/
def State.ramps (s : State) : Bool := s.rampMode && (s.dev.state == .anneal || s.dev.state == .serving)

/-- 4.5 K/s times tau. -/
def State.slopeTau (s : State) : Int := (294912 * s.thm.tau : Nat) / 1000

/-- A temperature rise as a power, W (13 R562). -/
def State.riseToPower (s : State) (rise : Int) : Int := rise * 1000000 / ((65536 * s.thm.rTh : Nat) : Int)

/-- The Moulds on which a warming load may run: no resident group, in service; those held by no partition first (R563). -/
def Mould.hasGroup (x : Mould) : Bool := x.q.toList.any fun q => q.slots.toList.any (·.isSome)
def State.warmable (s : State) : List Nat :=
  let ok := (List.range 16).filter fun m =>
    let x := s.mouldAt m
    x.state != .selfTest && x.state != .retired && !x.hasGroup
  let free := ok.filter fun m => (s.mouldAt m).state == .free
  if free.isEmpty then ok else free

/-- The ramp limiter's step (13 R562, R563, R565). -/
def State.rampStep (s : State) (tin : Int) : State :=
  if s.ramps then
    let allow := clampInt 0 0xFFFE (s.riseToPower (s.thm.tPred + s.slopeTau - tin))
    let floor := clampInt 0 0xFFFE (s.riseToPower (s.thm.tPred - s.slopeTau - tin))
    let s1 := { s with thm := { s.thm with rampAllow := allow.toNat, rampFloor := floor.toNat } }
    let below := decide (s.thm.coreW < floor.toNat)
    let capped := decide (s.powerLimit < s.thm.pkgW + s.estError s.thm.pkgW)
    let throttled := (List.range 16).any fun m => (s.mouldAt m).throttle != 0
    if below && (capped || throttled) then
      let s2 := { s1 with thm := { s1.thm with warming := 0 } }
      if s2.thm.rampEpisode then s2
      else ({ s2 with thm := { s2.thm with rampEpisode := true } }).log 0x6008 (param [(1, Config.codeOf 4 (b2n capped))])
    else { s1 with thm := { s1.thm with
        warming := if below then BitVec.ofNat 16 (maskOf s.warmable) else 0, rampEpisode := s.thm.rampEpisode && below } }
  else if s.thm.rampAllow = 0xFFFF then s
  else { s with thm := { s.thm with rampAllow := 0xFFFF, rampFloor := 0, warming := 0 } }

/-- PREDICTOR_UPDATE (13 R560): t_pred by its model and by 1/64 of its difference from the measured mean; then the ramp
limiter. Without an inlet reading the prediction stands. -/
def State.evPredictor (s : State) : State :=
  let hist := if s.inService then min 600000 (s.thm.history + 1) else s.thm.history
  let s0 := { s with thm := { s.thm with history := hist } }
  match s.thm.tIn with
  | none => s0
  | some tin0 =>
    let tin := tin0 * 65536 / 100
    let drive := tin + ((s.thm.rTh * s.thm.coreW * 65536 : Nat) : Int) / 1000000
    let t1 := s.thm.tPred + (drive - s.thm.tPred) / ((max 1 s.thm.tau : Nat) : Int)
    let t2 := match meanOf (s.validTemps (List.range 80)) with
      | some m => t1 + (m * 65536 / 100 - t1) / 64
      | none => t1
    ({ s0 with thm := { s0.thm with tPred := t2 } }).rampStep tin

/-- PREDICTOR_REFIT (13 R560): with 10 minutes of history, the refitted model within its ranges. -/
def State.evRefit (s : State) (rTh tau : Nat) : State :=
  if s.thm.history = 600000 then
    { s with thm := { s.thm with rTh := max 20000 (min 60000 rTh), tau := max 500 (min 5000 tau) } }
  else s

/-! ### Degraded cooling (13 R566-R568) -/

/-- The inlet range that the causes judge: SUP_MIN - 1 K to SUP_MAX + 1 K and the ordering code's (00 R3). -/
def State.inletOut (s : State) (t : Int) : Bool :=
  let lo : Int := if s.otp.orderCode = 1 then 0 else 1500
  let hi : Int := if s.otp.orderCode = 2 then 5500 else 4500
  decide (t < (s.supMin : Int) * 10 - 100) || decide ((s.supMax : Int) * 10 + 100 < t) || decide (t < lo) || decide (hi < t)

/-- A plate RTD is a source of the slot (02 R53). -/
def State.platePart (s : State) (x : Slot) : Bool :=
  (List.range x.cfg.nin).any fun i => [s.prog.inlet, s.prog.outlet].any fun e =>
    e.elim false fun p => (Table.at x.cfg.inp i {}).src == 0x100 + 8 * p.1 + p.2

/-- Does the condition of a cause hold, as far as the state shows it (13 Table 13-9)? -/
def State.warnCondition (s : State) (c : Nat) : Bool :=
  match c with
  | 0 => s.thm.tIn.elim false s.inletOut
  | 1 => s.thm.flow.elim false fun f => decide (f < 150)
  | 2 => (List.range 5).any fun g => s.groupIn g 0
  | 4 => match s.thm.tIn, s.threshold 0 1 with
    | some t, some th =>
      decide (th - 200 ≤ t + ((s.thm.rTh * (s.thm.capW - (s.thm.pkgW - s.thm.coreW)) : Nat) : Int) / 10000)
    | _, _ => false
  | 5 => (s.slotAt 0).action == 3 || (s.aoutAt 0).complLost || (s.pho.fixedFlow && s.headroomMin < 50)
  | 3 => 32768 < throttleSum 327680 s.thm.throttleRuns
  | 6 => s.supply.touchFault || s.thm.tIn.isNone || s.thm.tOut.isNone ||
    (List.range 64).any fun n => let x := s.slotAt n; x.en && x.action != 0 && s.platePart x
  | 7 => (List.range 8).any fun n => (s.cmpAt n).trip && fieldOf (s.cmpAt n).cfg 29 28 == 1
  | 8 => s.thm.blind != 0
  | 9 => s.thm.mCap == 29 && s.thm.duty == 1 && s.thm.capW < s.thm.pkgW
  | 10 => s.stew.role == .primary && s.stew.cause != 0
  | _ => true

/-- WARN_CAUSE_SET (13 R566): a cause whose condition has held for its time is set by firmware. -/
def State.evWarnSet (s : State) (c : Nat) : State :=
  if s.fwRuns ∧ s.warnCondition c then s.warnSet c else s

/-- WARN_CAUSE_CLEAR (13 R566): a cause whose condition has been absent for 10 s clears; CAP_UNMET stays until the estimate falls below the
cap (R557). -/
def State.evWarnClear (s : State) (c : Nat) : State :=
  if s.fwRuns ∧ ¬ s.warnCondition c ∧ (c ≠ 5 ∨ ¬ s.pho.fixedFlow ∨ 100 < s.headroomMin) ∧ (c ≠ 9 ∨ s.thm.pkgW < s.thm.capW) then
    s.warnClear c
  else s

/-- FLOW_ESTIMATE (13 R567): judged only from 400 W and 2 K of rise; otherwise the last judgement stands. -/
def State.evFlow (s : State) : State :=
  match s.thm.tIn, s.thm.tOut with
  | some a, some b =>
    if s.fwRuns ∧ 400 ≤ s.thm.pkgW ∧ 200 ≤ b - a then
      { s with thm := { s.thm with flow := some (60 * s.thm.pkgW * 10000 / (s.row.kC * (b - a).toNat)) } }
    else s
  | _, _ => s

end Sys2Proof.Machine
end

