-- ==== Sys2Proof/Machine/AnalogFx.lean ====
section
/-! DEFINITION. Outputs, sample words and supplies of the analog array (chapter 14), as operations that the meanings of
Machine/Analog.lean and other families share. -/
namespace Sys2Proof.Machine

/-- VAN is on. -/
def State.vanOn (s : State) : Bool := Table.at s.supply.en 0 false && Table.at s.supply.pg 0 false
/-- The sine generators run: in STANDBY, ANNEAL, SERVING and SAFE once a boot has completed, with VAN on; never while a boot, HELD or DORMANT
pulses the ropes (14 R580, R602, 03 R106). -/
def State.sineRuns (s : State) : Bool := s.vanOn && s.boot.complete && (s.inService || s.dev.state == .safe)
/-- A sine generator runs. -/
def State.sineOn (s : State) (n : Nat) : Bool := s.sineRuns && (Table.at s.aar.sine n {}).en
/-- The array converts: VAN on, in every state but OFF and DORMANT (14 R580). -/
def State.arrayRuns (s : State) : Bool := s.vanOn && s.dev.state != .off && s.dev.state != .dormant

/-! ### Outputs (14 R596-R600) -/

/-- The safe code of a span (14 Table 14-6). -/
def safeCode (span : Nat) : Nat := if span = 3 then 32768 else 0
/-- The clamp of a span. -/
def spanClamp (span : Nat) : Nat × Nat :=
  if span = 1 then (0, 48000) else if span = 2 then (0, 64000) else if span = 3 then (768, 64768) else (0, 65535)
/-- The code that drives the output: the code in force within the clamp of its span. -/
def AOut.driven (o : AOut) : Nat := max (spanClamp o.span).1 (min (spanClamp o.span).2 o.code)

/-- The output sits at its safe code or at 0 mA (14 Table 14-7): before release, in HELD and DORMANT, without VAN, without
VLOOP, in a span change, or at that code. -/
def State.aoutSafe (s : State) (n : Nat) : Bool :=
  let o := s.aoutAt n
  !o.released || !s.arrayRuns || s.dev.state == .held || !s.aar.vloopUse || o.hold.isSome || o.span == 0 ||
    o.driven == safeCode o.span

/-- A code is written to an output: held during a span change, else in force; beyond the clamp it drives the clamp value
and sets CLAMP (14 R596, R599). -/
def State.writeCode (s : State) (n c : Nat) : State :=
  s.updAout n fun o => match o.hold with
    | some h => { o with hold := some (h.1, some c) }
    | none => { o with code := c, clamp := decide (c < (spanClamp o.span).1 ∨ (spanClamp o.span).2 < c) }

/-- A span change begins, or begins again (14 R599, R610). -/
def State.spanWrite (s : State) (n span : Nat) : State :=
  s.updAout n fun o => { o with hold := some (span, none), code := safeCode o.span, clamp := false }

/-- The hold of a span change ends: the span switches, and the last code written in the hold applies (14 R599). -/
def State.spanDone (s : State) (n : Nat) : State :=
  match (s.aoutAt n).hold with
  | some h =>
    let s1 := s.updAout n fun o => { o with span := h.1, code := safeCode h.1, hold := none }
    match h.2 with
    | some c => s1.writeCode n c
    | none => s1
  | none => s

/-- Fixed-flow mode: while slot 0 is in FAILSAFE or AOUT0 has lost compliance; on leaving it slot 0 restarts bumplessly
from the current in force (12 R519). -/
def State.fixedFlowFollow (s : State) : State :=
  let fx := (s.slotAt 0).action == 2 || (s.slotAt 0).action == 5 || (s.aoutAt 0).complLost
  if fx = s.pho.fixedFlow then s
  else
    let s1 := { s with pho := { s.pho with fixedFlow := fx } }
    if fx then s1 else s1.updSlot 0 fun x => { x with preload := true }

/-! ### Sample words (14 Table 14-5) -/

/-- A sample word. -/
def sampleWord (value : Nat) (ovr nbr exc cal : Bool) (seq : Nat) : Reg32 :=
  regWord [(8, value % 2 ^ 24), (7, b2n ovr), (6, b2n nbr), (5, b2n exc), (4, b2n cal), (0, seq % 16)]
/-- The fields of a sample word. -/
def swValue (w : Reg32) : Nat := w.toNat / 256
def swSeq (w : Reg32) : Nat := w.toNat % 16
def swCal (w : Reg32) : Bool := bitOf w.toNat 4
def swExc (w : Reg32) : Bool := bitOf w.toNat 5
def swNbr (w : Reg32) : Bool := bitOf w.toNat 6
def swOvr (w : Reg32) : Bool := bitOf w.toNat 7

/-- G V_in / reference x 2^23, rounded, of an input in nV: the reference is 2.5 V, or the voltage `vt` across the Touchstone in nV (14 R587). A
string that carries no current has the clamp of R606. -/
def DsConv.code (d : DsConv) (vin : Int) (vt : Nat) : Int :=
  let ref := if d.touch then vt else 2500000000
  if ref = 0 then (if vin < 0 then -(2 ^ 24) else 2 ^ 24) else rneDiv (2 ^ d.gain * vin * 2 ^ 23) ref
/-- V_in / 5 V x 65,536, rounded, of an input in nV (14 R592). -/
def sarCode (vin : Int) : Int := rneDiv (vin * 65536) 5000000000

/-- Conversions that an over-range conversion disturbs: 2 within 1.5 x full scale, 8 beyond it (14 R595). -/
def recoveryWindow (fullScale : Nat) (x : Int) : Nat := if 2 * x.natAbs ≤ 3 * fullScale then 2 else 8
/-- The window left after a conversion. -/
def windowAfter (left : Nat) (ovr : Bool) (fullScale : Nat) (x : Int) : Nat :=
  if ovr then max (left - 1) (recoveryWindow fullScale x) else left - 1

end Sys2Proof.Machine
end

