-- ==== Sys2Proof/Machine/AnalogEv.lean ====
section
/-! DEFINITION. What the events of the analog array do (chapter 14). -/
namespace Sys2Proof.Machine

/-- The plate temperatures follow the RTDs that the loop program routes (02 R53, 14 R582, 15 R623), in 0.001 degrees C; a
reading beyond range is lost. The inlet's readings of the last 1 s are kept for R528. -/
def State.plateFollow (s : State) (n k : Nat) (w : Reg32) (gain : Nat) : State :=
  let t : Option Int := if swOvr w || swExc w then none
    else some (ptTemp (sgn 24 (swValue w) * 10000) (2 ^ 23 * 2 ^ gain * 1000) / 10)
  let recent := s.thm.inletHist.filter fun x => s.now < x.1 + 32768
  let hist := match t with
    | some m => (s.now, m) :: recent
    | none => recent
  let s1 := if s.prog.inlet = some (n, k) then { s with thm := { s.thm with inletM := t, inletHist := hist } } else s
  if s.prog.outlet = some (n, k) then { s1 with thm := { s1.thm with outletM := t } } else s1

/-- DS_CONVERSION (14 R586-R595, R606, R607): the sample word of one settled conversion, of the entry whose turn it is in the scan; `vin` is
the differential input and `vt` the voltage across the Touchstone, in nV. A withdrawn converter repeats the last value with CAL = 1; TOUCH
without the string clamps with OVR and EXC. -/
def State.evDsConversion (s : State) (n k : Nat) (vin : Int) (vt : Nat) : State :=
  let d := Table.at s.aar.ds n {}
  if s.arrayRuns ∧ d.en ∧ k = d.next then
    let prev := Table.at d.sample k 0
    let next := if d.nscan ≤ k then 0 else k + 1
    if d.cal then
      let w := prev ||| 16#32
      { s with aar := { s.aar with ds := Table.upd s.aar.ds n fun d => { d with sample := Table.put d.sample k w, next := next } } }
    else
      let raw := d.code vin vt
      let exc := d.touch && !s.aar.stringOk
      let ovr := exc || decide (2 ^ 23 ≤ raw ∨ raw < -(2 ^ 23))
      let v : Int := if ovr then (if raw < 0 then -(2 ^ 23) else 2 ^ 23 - 1) else raw
      let w := sampleWord (unsgn 24 v) ovr (decide (0 < d.nbr)) exc false (swSeq prev + 1)
      let s1 := { s with aar := { s.aar with ds := Table.upd s.aar.ds n fun d =>
        { d with sample := Table.put d.sample k w, nbr := windowAfter d.nbr ovr (2 ^ 23) raw, next := next } } }
      if d.touch && d.nbr == 0 then s1.plateFollow n k w d.gain else s1
  else s

/-- SAR_CONVERSION (14 R592-R595): the input `vin` in nV of the entry whose turn it is, of a scan that runs continuously or that its slot has
triggered; a BI entry adds 32,768. -/
def State.evSarConversion (s : State) (n k : Nat) (vin : Int) : State :=
  let d := Table.at s.aar.sar n {}
  if s.arrayRuns ∧ k = d.next ∧ d.nscan ≠ 0 ∧ (d.trigger = none ∨ d.armed) then
    let prev := Table.at d.sample k 0
    let next := if d.nscan ≤ k + 1 then 0 else k + 1
    let armed := next != 0
    if d.cal then
      { s with aar := { s.aar with sar := Table.upd s.aar.sar n fun d =>
        { d with sample := Table.put d.sample k (prev ||| 16#32), next := next, armed := armed } } }
    else
      let raw := sarCode vin
      let bi := d.bi.getLsbD k
      let c := if bi then raw + 32768 else raw
      let ovr := decide (c < 0 ∨ 65535 < c)
      let v := (clampInt 0 65535 c).toNat
      let w := sampleWord (256 * v) ovr (decide (0 < d.nbr)) false false (swSeq prev + 1)
      { s with aar := { s.aar with sar := Table.upd s.aar.sar n fun d =>
        { d with sample := Table.put d.sample k w, nbr := windowAfter d.nbr ovr (if bi then 32768 else 65536) raw, next := next,
                 armed := armed } } }
  else s

/-- STRING_COMPLIANCE_LOSS (14 R590, R606): STRING_OK falls, with one record. -/
def State.evStringLoss (s : State) : State :=
  if s.aar.excEn ∧ s.aar.stringOk then
    ({ s with aar := { s.aar with stringOk := false } }).log 0x7006 []
  else s

/-- STRING_COMPLIANCE_REGAIN (14 R590): STRING_OK returns to 1. -/
def State.evStringRegain (s : State) : State :=
  if s.aar.excEn then { s with aar := { s.aar with stringOk := true } } else s

/-- SPAN_WRITE (14 R599): by firmware, so not while firmware is absent (R611). -/
def State.evSpanWrite (s : State) (n span : Nat) : State := if s.fwRuns ∧ span < 4 then s.spanWrite n span else s

/-- SPAN_HOLD_END (14 R599). -/
def State.evSpanHoldEnd (s : State) (n : Nat) : State := s.spanDone n

/-- The compliance test applies: CURRENT with a code of at least 1,000, V_UNI and V_BI (14 R600). -/
def State.compliedTo (s : State) (n : Nat) : Bool :=
  let o := s.aoutAt n
  (o.span == 1 && 1000 ≤ o.code) || o.span == 2 || o.span == 3

/-- The sense differs from the command: by more than 0.2 mA in CURRENT, by more than 50 mV in V_UNI and V_BI or at the 15 mA limit (14
R600). -/
def AOut.differs (o : AOut) (sense : Nat) (limited : Bool) : Bool :=
  let d := ((sense : Int) - o.driven).natAbs
  if o.span = 1 then 400 < d else if o.span = 2 then 320 < d || limited else 160 < d || limited

/-- COMPLIANCE_CHECK (14 R600, R608, 02 R85): the difference of sense and command over one output period sets COMPL_LOST, and
one period in compliance clears it, each with a record; AOUT0's loss raises the cooling-degradation warning. `limited` says that a
voltage output stood at its 15 mA limit. -/
def State.evCompliance (s : State) (n : Nat) (limited : Bool) (sense : Nat) : State :=
  let s1 := s.updAout n fun o => { o with sense := sense % 65536 }
  let lost := (s.aoutAt n).differs (sense % 65536) limited && s.compliedTo n
  if lost = (s.aoutAt n).complLost then s1
  else
    let s2 := (s1.updAout n fun o => { o with complLost := lost }).log 0x7004 (param [(1, n)]) none lost true
    if n = 0 then (if lost then s2.fixedFlowFollow.warnSet 5 else s2.fixedFlowFollow) else s2

/-- VLOOP_LOSS (14 R598, R609): current outputs fall to 0 mA and VLOOP_OK clears, with one record. -/
def State.evVloopLoss (s : State) : State :=
  if s.aar.vloopOk then
    ({ s with aar := { s.aar with vloopOk := false, vloopUse := false } }).log 0x7005 []
  else s

/-- VLOOP_RETURN (14 R598): VLOOP_OK has been 1 for 100 ms, and outputs resume the code in force. -/
def State.evVloopReturn (s : State) : State :=
  if s.aar.vloopUse then s
  else ({ s with aar := { s.aar with vloopOk := true, vloopUse := true } }).log 0x7005 [] none false true

/-- SINE_CHANGE (14 R602): the new INC, AMPL and EN take effect at the zero crossing, where the generators run. -/
def State.evSine (s : State) (n : Nat) (en : Bool) (inc ampl : Nat) : State :=
  if s.sineRuns ∧ ampl ≤ 50000 then
    { s with aar := { s.aar with sine := Table.put s.aar.sine n { en := en, ampl := ampl, inc := inc % 2 ^ 32 } } }
  else s

/-- ROPE_PATH_SWITCH (14 R604): the generators have run for 20 ms, and CMP0-CMP3 leave the pulses for the rectifiers. -/
def State.evRopePath (s : State) : State :=
  if s.sineOn 0 ∧ s.sineOn 1 then
    { s with aar := { s.aar with ropeRect := true } }
  else s

end Sys2Proof.Machine
end

