-- ==== Sys2Proof/Machine/LoopFx.lean ====
section
/-! DEFINITION. A sample of a loop slot: its inputs, the judgement of its feedback, its law and its output stage (15
R616-R638), as operations that the meanings of Machine/Loop.lean and other families share. -/
namespace Sys2Proof.Machine

/-! ### Sources (15 Table 15-4) -/

/-- What a source shows at a sample: nothing readable; a word that is not new; or a reading with its SEQ (none where each
read is new), its value as a fraction, and its OVR or EXC. -/
structure Reading where
  seq : Option Nat
  num : Int
  den : Nat := 1
  bad : Bool := false
  /-- a delta-sigma entry in TOUCH mode, with its gain, for CONV 1 -/
  touch : Option Nat := none

/-- A converter's word: one with CAL or NBR is not readable (15 R616). -/
def readWord (w : Reg32) (signed : Bool) (touch : Option Nat) : Option Reading :=
  if swCal w || swNbr w then none
  else some { seq := some (swSeq w), num := if signed then sgn 24 (swValue w) else swValue w / 256,
              bad := swOvr w || swExc w, touch := touch }

/-- Read a source. The mean of a group is in degrees C, the headroom midpoint in %; slot 0's mean needs 8 valid sensors and
the midpoint 16 LOCKED rings (12 R519). -/
def State.readSource (s : State) (src : Nat) : Option Reading :=
  if 0x0100 ≤ src ∧ src < 0x0120 then
    let d := Table.at s.aar.ds ((src - 0x100) / 8) {}
    readWord (Table.at d.sample (src % 8) 0) true (if d.touch then some d.gain else none)
  else if 0x0200 ≤ src ∧ src < 0x0220 then
    readWord (Table.at (Table.at s.aar.sar ((src - 0x200) / 16) {}).sample (src % 16) 0) false none
  else if 0x0300 ≤ src ∧ src < 0x0305 then
    let l := s.validTemps (sensorsOf (src - 0x300))
    if l.isEmpty then none
    else some { seq := none, num := l.sum, den := 100 * l.length, bad := src == 0x0302 && l.length < 8 }
  else if src = 0x0310 then
    match s.lockedCodes with
    | [] => some { seq := none, num := 0, bad := true }
    | c :: r => some { seq := none, num := 100 * (r.foldl max c + r.foldl min c : Nat), den := 2 * 4095,
                       bad := decide (r.length + 1 < 16) }
  else if 0x0400 ≤ src ∧ src < 0x0402 then
    let t := s.trkAt (src - 0x400)
    if t.sync ∨ swOvr t.sample then readWord t.sample true none else none
  else if 0x0500 ≤ src ∧ src < 0x0520 then
    let x := Table.at s.fil.inReg (src - 0x500) (0, 0)
    some { seq := some x.2, num := x.1.toInt }
  else if 0x0700 ≤ src ∧ src < 0x0708 then some { seq := none, num := (s.aoutAt (src - 0x700)).sense }
  else none

/-- A source's sample period in us; none of its own where Table 15-4 gives the slot's. -/
def State.sourcePeriod (s : State) (src slotUs : Nat) : Nat :=
  if 0x0100 ≤ src ∧ src < 0x0120 then
    let d := Table.at s.aar.ds ((src - 0x100) / 8) {}
    (d.nscan + 1) * (if d.rate = 0 then 250 else if d.rate = 1 then 1000 else if d.rate = 2 then 4000
      else if d.rate = 3 then 16000 else if d.rate = 4 then 62500 else 250000)
  else if 0x0200 ≤ src ∧ src < 0x0220 then ((Table.at s.aar.sar ((src - 0x200) / 16) {}).nscan + 1) / 2
  else if 0x0300 ≤ src ∧ src < 0x0302 then 25
  else if src < 0x0305 then 1000
  else if src = 0x0310 then 64
  else if 0x0400 ≤ src ∧ src < 0x0402 then 1000 * (s.trkAt (src - 0x400)).staleMs
  else if 0x0500 ≤ src ∧ src < 0x0520 then
    ((s.prog.inPeriod.find? fun e => e.1 == src - 0x500).map (·.2)).getD slotUs
  else slotUs

/-- Input conversion (15 R623): LIN, or PT for a TOUCH entry; an alternate that is no such entry under CONV 1 is scaled by
GAIN (log entry 27). -/
def convert (i : SlotIn) (r : Reading) : Reg32 × Bool :=
  if i.conv = 1 then
    match r.touch with
    | some g => lwFrac (ptTemp (r.num * 10000 * 2 ^ 55) (2 ^ 23 * 2 ^ g * lwVal i.offset)) 10000
    | none => lwFrac (r.num * lwVal i.gain) (r.den * 2 ^ 55)
  else lwFrac ((r.num * 2 ^ 55 - lwVal i.offset * r.den) * lwVal i.gain) (r.den * 2 ^ 110)

/-! ### Judging an input (15 R616, R633) -/

/-- The last FROZEN_N samples stayed within FROZEN_FLOOR of the first of them. -/
def frozen (i : SlotIn) (w : List Reg32) : Bool :=
  i.frozenN != 0 && w.length == i.frozenN &&
    match w.getLast? with
    | some f => w.all fun x => decide ((lwVal x - lwVal f).natAbs ≤ (lwVal i.frozenFloor).natAbs)
    | none => false

/-- Judge one source of an input at engine tick `t`: the stream, and whether it is stale, frozen and implausible. -/
def State.judgeStream (s : State) (i : SlotIn) (src period t : Nat) (x : Stream) : Stream × Bool × Bool × Bool :=
  let r := s.readSource src
  let fresh := match r with
    | some r => r.seq.elim true fun q => x.seq != some q
    | none => false
  let x1 : Stream := match r with
    | some r =>
      if fresh then
        let v := (convert i r).1
        { x with seq := r.seq, newAt := t, value := v, window := (v :: x.window).take i.frozenN,
                 impl := r.bad || decide (lwVal v < lwVal i.plausLo ∨ lwVal i.plausHi < lwVal v) }
      else x
    | none => x
  let stale := decide (2 * max (10 * period) (s.sourcePeriod src (10 * period)) < 10 * (t - x1.newAt))
  let fz := frozen i x1.window
  let lost := stale || fz || x1.impl
  ({ x1 with lost := lost, good := if lost then 0 else if fresh then min 255 (x1.good + 1) else x1.good }, stale, fz, x1.impl)

/-! ### Banks (15 Table 15-2) -/

/-- A word of a bank. -/
def bw (b : Vector Reg32 256) (i : Nat) : Reg32 := Table.at b i 0
/-- LAW, NSTAGE, NIN, NOUT, PRELOAD_ON_SWAP and INT_MASK of a header. -/
def hdrLaw (b : Vector Reg32 256) : Nat := fieldOf (bw b 0) 31 28
def hdrStages (b : Vector Reg32 256) : Nat := fieldOf (bw b 0) 27 24
def hdrIn (b : Vector Reg32 256) : Nat := fieldOf (bw b 0) 23 20
def hdrOut (b : Vector Reg32 256) : Nat := fieldOf (bw b 0) 19 16
def hdrPreload (b : Vector Reg32 256) : Bool := bitOf (bw b 0).toNat 15
def hdrInt (b : Vector Reg32 256) : Nat := fieldOf (bw b 0) 7 0
/-- The active and the inactive bank of a slot. -/
def Slot.active (x : Slot) : Vector Reg32 256 := if x.bank then x.bankB else x.bankA
def Slot.inactive (x : Slot) : Vector Reg32 256 := if x.bank then x.bankA else x.bankB
/-- OUT_MIN, OUT_MAX and RATE_LIM of output q. -/
def outMin (b : Vector Reg32 256) (q : Nat) : Reg32 := bw b (1 + q)
def outMax (b : Vector Reg32 256) (q : Nat) : Reg32 := if hdrLaw b = 1 then bw b 2 else bw b (5 + q)
def rateLim (b : Vector Reg32 256) (q : Nat) : Reg32 := if hdrLaw b = 1 then bw b 3 else bw b (9 + q)
/-- Coefficient j (b0, b1, b2, a1, a2) of section k of LAW 1. -/
def secCoef (b : Vector Reg32 256) (k j : Nat) : Int := coefVal (bw b (9 + 8 * k + j)) (bw b (8 + 8 * k))
/-- Entry (i, j) of a matrix of LAW 2 at exponent word `e`, `cols` wide. -/
def matCoef (b : Vector Reg32 256) (e cols i j : Nat) : Int := coefVal (bw b (e + 1 + cols * i + j)) (bw b e)

/-- The kind of a bank word: 0 header, 1 loop word, 2 mantissa, 3 exponent, 4 reserved (15 R618). -/
def wordKind (law i : Nat) : Nat :=
  if i = 0 then 0
  else if law = 1 then
    (if i < 4 then 1 else if i < 8 then 4
     else if i < 72 then (if (i - 8) % 8 = 0 then 3 else if (i - 8) % 8 < 6 then 2 else 4) else 4)
  else if i < 13 then 1
  else if i < 16 then 4
  else if i = 16 ∨ i = 81 ∨ i = 114 ∨ i = 147 ∨ i = 180 ∨ i = 213 then 3
  else if i < 230 then 2 else 4

/-- A word keeps the rule of its kind (15 R617, R618). -/
def wordGood (law i : Nat) (w : Reg32) : Bool :=
  match wordKind law i with
  | 0 => w.toNat / 2 ^ 8 % 2 ^ 7 == 0
  | 1 => lwGood w
  | 2 => w.toNat / 2 ^ 24 == 0
  | 3 => w.toNat / 2 ^ 6 == 0
  | _ => w == 0

/-- A bank keeps R618: its header, the kinds of its words, the size of its matrices, and 1 + a1 + a2 of every section but
the last (15 R637). -/
def bankGood (b : Vector Reg32 256) : Bool :=
  let law := hdrLaw b
  let n := hdrStages b
  let m := hdrIn b
  let p := hdrOut b
  (law == 1 || law == 2) && 1 ≤ n && n ≤ 8 && 1 ≤ m && m ≤ 4 && 1 ≤ p && p ≤ 4 &&
  (law == 2 || (m == 1 && p == 1 && hdrInt b == 0)) &&
  ((List.range 256).all fun i => wordGood law i (bw b i)) &&
  (if law = 1 then (List.range (n - 1)).all fun k => secCoef b k 3 + secCoef b k 4 + 2 ^ 55 != 0
   else
    let empty (e cols rows r c : Nat) : Bool := (List.range rows).all fun i => (List.range cols).all fun j =>
      (decide (i < r ∧ j < c)) || matCoef b e cols i j == 0
    empty 16 8 8 n n && empty 81 4 8 n p && empty 114 8 4 m n && empty 147 4 8 n m && empty 180 8 4 p n && empty 213 4 4 p m)

/-! ### The laws (15 R619-R622, R637) -/

/-- The output stage for one output: rate limit from the output in force, clamp; answers the output, SAT and ARITH. -/
def outStage (b : Vector Reg32 256) (q : Nat) (prev u : Reg32) : Reg32 × Bool × Bool :=
  let r := rateLim b q
  let lim := if r = 0 then (u, false)
    else
      let hi := lwSum [lwTerm prev, (lwVal r).natAbs * 2 ^ 55]
      let lo := lwSum [lwTerm prev, -((lwVal r).natAbs * 2 ^ 55 : Nat)]
      (lwClamp lo.1 hi.1 u, hi.2 || lo.2)
  let c := lwClamp (outMin b q) (outMax b q) lim.1
  (c, lwVal c != lwVal u, lim.2)

/-- One sample of LAW 1 (15 R620): sections from `k` on, with the input x; answers the output in force, the new section
states, SAT and ARITH. -/
def law1 (b : Vector Reg32 256) (prev : Reg32) : Nat → Nat → Reg32 → List (Reg32 × Reg32) → Bool →
    Reg32 × List (Reg32 × Reg32) × Bool × Bool
  | 0, _, _, _, ar => (prev, [], false, ar)
  | f + 1, k, x, st, ar =>
    let s := st.headD (0, 0)
    let y := lwSum [secCoef b k 0 * lwVal x, lwTerm s.1]
    let o := if f = 0 then outStage b 0 prev y.1 else (y.1, false, false)
    let s1 := lwSum [secCoef b k 1 * lwVal x, -(secCoef b k 3 * lwVal o.1), lwTerm s.2]
    let s2 := lwSum [secCoef b k 2 * lwVal x, -(secCoef b k 4 * lwVal o.1)]
    let sh := lwShare [s1.1, s2.1]
    let ar' := ar || y.2 || o.2.2 || s1.2 || s2.2
    let rest := if f = 0 then (o.1, [], o.2.1, ar') else law1 b prev f (k + 1) y.1 st.tail ar'
    (rest.1, (sh.headD 0, (sh.tail).headD 0) :: rest.2.1, rest.2.2.1, rest.2.2.2)

/-- The preload of LAW 1 (15 R637): each section but the last at its steady state, the last so that its first output is u0. -/
def preload1 (b : Vector Reg32 256) (u0 : Reg32) : Nat → Nat → Reg32 → List (Reg32 × Reg32)
  | 0, _, _ => []
  | f + 1, k, x =>
    let st (y : Reg32) : Reg32 × Reg32 :=
      ((lwSum [lwTerm y, -(secCoef b k 0 * lwVal x)]).1, (lwSum [secCoef b k 2 * lwVal x, -(secCoef b k 4 * lwVal y)]).1)
    if f = 0 then [st u0]
    else
      let num := (secCoef b k 0 + secCoef b k 1 + secCoef b k 2) * lwVal x
      let den := 2 ^ 55 + secCoef b k 3 + secCoef b k 4
      let y := (lwFrac (if den < 0 then -num else num) (den.natAbs * 2 ^ 55)).1
      st y :: preload1 b u0 f (k + 1) y

/-- A row of a matrix times a vector of loop words, as terms. -/
def rowTerms (b : Vector Reg32 256) (e cols i n : Nat) (v : List Reg32) : List Int :=
  (List.range n).map fun j => matCoef b e cols i j * lwVal ((v[j]?).getD 0)

/-- One sample of LAW 2 (15 R621): the outputs in force, the new observer states, SAT and ARITH. -/
def law2 (b : Vector Reg32 256) (prev xh y r : List Reg32) : List Reg32 × List Reg32 × Bool × Bool :=
  let n := hdrStages b
  let m := hdrIn b
  let p := hdrOut b
  let ey := (List.range m).map fun i => lwSum (lwTerm ((y[i]?).getD 0) :: (rowTerms b 114 8 i n xh).map (- ·))
  let u := (List.range p).map fun q => lwSum ((rowTerms b 180 8 q n xh).map (- ·) ++ rowTerms b 213 4 q m r)
  let o := (List.range p).map fun q => outStage b q ((prev[q]?).getD 0) ((u.map (·.1))[q]?.getD 0)
  let ua := o.map (·.1)
  let x' := (List.range n).map fun i =>
    lwSum (rowTerms b 16 8 i n xh ++ rowTerms b 81 4 i p ua ++ rowTerms b 147 4 i m (ey.map (·.1)))
  (ua, lwShare (x'.map (·.1)), o.any (·.2.1), (ey ++ u ++ x').any (·.2) || o.any (·.2.2))

/-- The preload of LAW 2 (15 R637): xh = C+ y with integrating states at 0, then those in the least-squares sense so that
-K xh + F r = u0; rounded to loop words. -/
def preload2 (b : Vector Reg32 256) (y r u0 : List Reg32) : List Reg32 :=
  let n := hdrStages b
  let m := hdrIn b
  let p := hdrOut b
  let q (e cols i j : Nat) : Rat := (matCoef b e cols i j : Rat) / 2 ^ 55
  let integ := (List.range n).filter fun i => bitOf (hdrInt b) i
  let c : RMat := (List.range m).map fun i => (List.range n).map fun j => if integ.contains j then 0 else q 114 8 i j
  let x := rLeast n c ((List.range m).map fun i => lwRat ((y[i]?).getD 0))
  let a : RMat := (List.range p).map fun i => integ.map fun j => - q 180 8 i j
  let d := (List.range p).map fun i =>
    lwRat ((u0[i]?).getD 0) - ((List.range m).map fun j => q 213 4 i j * lwRat ((r[j]?).getD 0)).sum
      + ((List.range n).map fun j => q 180 8 i j * rAt x j).sum
  let z := rLeast integ.length a d
  lwShare ((List.range n).map fun i => ratLw (match integ.idxOf? i with
    | some k => rAt z k
    | none => rAt x i))

end Sys2Proof.Machine
end

