-- ==== Sys2Proof/Machine/LoopProg.lean ====
section
/-! DEFINITION. The loop program: its slot records and banks as bytes (15 R624, Table 15-5), the cycle counts of its schedule (15 R615), and
the consistency checks that the spec publishes for it (02 R53, 12 R517, R521, 14 R582-R602, 15 R614-R628). -/
namespace Sys2Proof.Machine

/-! ### Slot records and banks (15 R624, Table 15-5) -/

/-- The 32-bit word at an offset. -/
def wordAt (b : List Byte) (o : Nat) : Reg32 := BitVec.ofNat 32 (fld b o 4)

/-- Output q of a record. -/
def slotOutOf (b : List Byte) (q : Nat) : SlotOut :=
  let o := 0x20 + 20 * q
  { dest := fld b o 1, scale := wordAt b (o + 4), init := wordAt b (o + 8), failsafe := wordAt b (o + 12), disable := wordAt b (o + 16) }

/-- Input i of a record. -/
def slotInOf (b : List Byte) (i : Nat) : SlotIn :=
  let o := 0x70 + 28 * i
  { src := fld b o 2, alt := fld b (o + 2) 2, conv := fld b (o + 4) 1, recoverN := fld b (o + 5) 1, frozenN := fld b (o + 6) 2,
    gain := wordAt b (o + 8), offset := wordAt b (o + 12), plausLo := wordAt b (o + 16), plausHi := wordAt b (o + 20),
    frozenFloor := wordAt b (o + 24) }

/-- The record of a slot. An action of 0 takes its default (DEDUCED, log entry 125). -/
def slotRecOf (b : List Byte) (fixed : List Reg32) : SlotRec :=
  let f := fld b 0 1
  let coolant := bitOf f 3
  let a1 := fld b 0x11 1
  let a2 := fld b 0x12 1
  { en := bitOf f 0, dir := bitOf f 1, guard := bitOf f 2, coolant := coolant, warn := bitOf f 4, law := fld b 1 1, nin := fld b 2 1,
    nout := fld b 3 1, period := fld b 4 4, start := fld b 8 4, outPhase := fld b 0x0C 4,
    parent := if fld b 0x10 1 = 0xFF then none else some (fld b 0x10 1),
    action1 := if a1 = 0 then (if coolant then 3 else 1) else a1, action2 := if a2 = 0 then 1 else a2, guardMax := wordAt b 0x14,
    setpoint := wordAt b 0x18, out := Vector.ofFn fun q : Fin 4 => slotOutOf b q, inp := Vector.ofFn fun i : Fin 4 => slotInOf b i,
    fixedSet := Vector.ofFn fun i : Fin 3 => (fixed[i.val]?).getD 0 }

/-- The bank that stands at an offset of a slot's bytes. -/
def bankAt (b : List Byte) (o : Nat) : Vector Reg32 256 := Vector.ofFn fun i : Fin 256 => wordAt b (o + 4 * i.val)

/-- A slot of the loop program: the record, then the banks A and B. -/
def slotProgOf (b : List Byte) (fixed : List Reg32) : SlotProg :=
  { record := slotRecOf b fixed, bankA := bankAt b 256, bankB := bankAt b 1280 }

/-- The slots of a section, in their decoded form. -/
def LoopProg.decode (p : LoopProg) (l : List (Nat × List Byte)) : List (Nat × SlotProg) :=
  l.map fun e => (e.1, slotProgOf e.2 (((p.fixedSet.find? fun x => x.1 == e.1).map (·.2)).getD []))

/-- The slots of both sections that are in use. -/
def LoopProg.used (p : LoopProg) : List (Nat × SlotProg) :=
  (p.decode (p.slots ++ p.steward)).filter fun e => e.2.record.law != 0

/-! ### Consistency of one slot -/

/-- A period of Table 15-1. -/
def periodGood (p : Nat) : Bool := p == 1000000 || (List.range 6).any fun d => p == 10 ^ d || p == 2 * 10 ^ d || p == 5 * 10 ^ d

/-- A source of Table 15-4 other than none. -/
def srcKnown (n : Nat) : Bool :=
  (0x100 ≤ n && n < 0x120) || (0x200 ≤ n && n < 0x220) || (0x300 ≤ n && n < 0x305) || n == 0x310 || n == 0x400 || n == 0x401 ||
    (0x500 ≤ n && n < 0x520) || (0x700 ≤ n && n < 0x708)

/-- A destination of Table 15-5. -/
def destKnown (n : Nat) : Bool := n < 8 || (0x40 ≤ n && n < 0xA0)

/-- The reserved fields of a record are 0, those of its loop words among them (00 R9, 15 R617). -/
def recordReserved (b : List Byte) : Bool :=
  fld b 0 1 < 32 && fld b 0x13 1 == 0 && fld b 0x1C 4 == 0 && zeroAt b 0xE0 32 && lwGood (wordAt b 0x14) && lwGood (wordAt b 0x18) &&
    ((List.range 4).all fun q => fld b (0x21 + 20 * q) 3 == 0 && (List.range 4).all fun j => lwGood (wordAt b (0x24 + 20 * q + 4 * j))) &&
    (List.range 4).all fun i => (List.range 5).all fun j => lwGood (wordAt b (0x78 + 28 * i + 4 * j))

/-- The fields of a record that is in use lie within their ranges (15 R614, R623, R624). `touch` says which scan entries are
delta-sigma entries in TOUCH mode. -/
def SlotRec.rangesGood (r : SlotRec) (touch : Nat → Bool) : Bool :=
  (r.law == 1 || r.law == 2) && 1 ≤ r.nin && r.nin ≤ 4 && 1 ≤ r.nout && r.nout ≤ 4 && periodGood r.period && r.start < r.period &&
    1 ≤ r.outPhase && r.outPhase ≤ r.period && r.parent.all (· < 64) && [1, 2, 3].contains r.action1 && [1, 2].contains r.action2 &&
    ((List.range r.nout).all fun q => destKnown (Table.at r.out q {}).dest) &&
    (List.range r.nin).all fun i =>
      let x := Table.at r.inp i {}
      srcKnown x.src && (x.alt == 0xFFFF || srcKnown x.alt) && 1 ≤ x.recoverN && (x.conv == 0 || (x.conv == 1 && touch x.src))

/-- One slot's bytes are consistent (15 R617, R618, R624): the record; bank A, with the record's NIN and NOUT; bank B, a bank or words
of 0. -/
def slotGood (touch : Nat → Bool) (b : List Byte) : Bool :=
  let p := slotProgOf b []
  let r := p.record
  b.length == 2304 && recordReserved b && r.law ≤ 2 &&
    (r.law == 0 ||
      (r.rangesGood touch && (r.law != 1 || (r.nin == 1 && r.nout == 1)) && bankGood p.bankA && hdrIn p.bankA == r.nin &&
        hdrOut p.bankA == r.nout && (p.bankB.toList.all (· == 0) || bankGood p.bankB)))

/-! ### The schedule (15 R615, Table 15-3) -/

/-- Cycles of one sample. -/
def bankCycles (b : Vector Reg32 256) : Nat :=
  let n := hdrStages b
  let m := hdrIn b
  let p := hdrOut b
  if hdrLaw b = 1 then 16 + 6 * n else 8 * m + (n * n + 2 * n * m + 2 * n * p + p * m + 3) / 4 + 8 * p

/-- Slots that are enabled at boot complete. -/
def LoopProg.enabled (p : LoopProg) : List SlotProg := (p.used.map (·.2)).filter fun x => x.record.en
/-- Cycles due in a tick. -/
def loadAt (l : List SlotProg) (t : Nat) : Nat :=
  (l.map fun x => if t % max 1 x.record.period = x.record.start then bankCycles x.bankA else 0).sum
/-- Ticks after which the schedule repeats. -/
def hyperperiod (l : List SlotProg) : Nat := (l.map fun x => max 1 x.record.period).foldl Nat.lcm 1
/-- Cycles of the busiest tick. -/
def LoopProg.busiest (p : LoopProg) : Nat := ((List.range (hyperperiod p.enabled)).map (loadAt p.enabled)).foldl max 0

/-! ### Slots among one another (12 R517, 15 R624, R628) -/

/-- The slots that output q of a used slot feeds: its destinations. -/
def SlotRec.dests (r : SlotRec) : List Nat := (List.range r.nout).map fun q => (Table.at r.out q {}).dest

/-- No destination is named by two slots. -/
def LoopProg.destsGood (p : LoopProg) : Bool :=
  p.used.all fun a => p.used.all fun b => a.1 == b.1 || a.2.record.dests.all fun d => !b.2.record.dests.contains d

/-- Slots of the chain of parents from a slot, itself included; a chain that returns runs to the bound. -/
def chainOf (l : List (Nat × SlotProg)) : Nat → Nat → Nat
  | 0, _ => 0
  | f + 1, n => match (l.find? fun e => e.1 == n).bind fun e => e.2.record.parent with
    | some o => 1 + chainOf l f o
    | none => 1

/-- The cascades keep R628. -/
def LoopProg.cascadesGood (p : LoopProg) : Bool :=
  p.used.all fun e => match e.2.record.parent with
    | none => true
    | some o => chainOf p.used 65 e.1 ≤ 4 && match p.used.find? fun x => x.1 == o with
      | none => false
      | some x =>
        x.2.record.period % e.2.record.period == 0 && x.2.record.period / e.2.record.period ≤ 256 &&
          e.2.record.period ≤ x.2.record.period && (x.2.record.dests.filter (· == 0x40 + e.1)).length == 1

/-- Slots 0 and 1 carry the photonic cascade and nothing else (12 R517). -/
def LoopProg.photonicGood (p : LoopProg) : Bool :=
  let is (r : SlotRec) (src dest period : Nat) : Bool :=
    r.nin == 1 && r.nout == 1 && (Table.at r.inp 0 {}).src == src && r.dests == [dest] && r.period == period
  p.used.all fun e =>
    if e.1 = 0 then is e.2.record 0x302 0 1000 && e.2.record.parent == some 1
    else if e.1 = 1 then is e.2.record 0x310 0x40 10000 && e.2.record.parent.isNone
    else true

/-! ### The analog sections (02 R53, 14 R582-R602) -/

/-- A delta-sigma entry in TOUCH mode. -/
def LoopProg.touchEntry (p : LoopProg) (src : Nat) : Bool :=
  0x100 ≤ src && src < 0x120 && p.ds.any fun d => d.1 == (src - 0x100) / 8 && d.2.1 && src % 8 ≤ d.2.2.2.2

/-- The mode of a cell. -/
def LoopProg.cellMode (p : LoopProg) (n : Nat) : CellMode := ((p.cells.find? fun c => c.1 == n).map fun c => c.2.mode).getD .off

/-- A source exists; a trim DAC is one where the program uses it so (14 R601). -/
def LoopProg.srcGood (p : LoopProg) : MatrixSrc → Bool
  | .ain n => n < 32
  | .cmp n | .sense n => n < 8
  | .tach n | .sine n => n < 2
  | .cell n => n < 24
  | .trim n => n < 4 && (p.trimUse[n]?).getD false

/-- A source is one of the lands AIN0-AIN5. -/
def MatrixSrc.reserved : MatrixSrc → Bool
  | .ain n => n < 6
  | _ => false

/-- The entry that reads a pair of lands of the plate RTDs (02 Table 02-6). -/
def LoopProg.plateSink (p : LoopProg) (r : Route) : Bool :=
  (p.inlet.any (fun e => r.sink == .ds e.1 e.2) && r.src == .ain 0 && r.neg == some (.ain 1)) ||
    (p.outlet.any (fun e => r.sink == .ds e.1 e.2) && r.src == .ain 3 && r.neg == some (.ain 4))

/-- A route keeps the matrix (14 R584, R585) and the reservation of AIN0-AIN5 (02 R53, 14 R582). -/
def LoopProg.routeGood (p : LoopProg) (r : Route) : Bool :=
  p.srcGood r.src && r.neg.all p.srcGood && (!(r.src.reserved || r.neg.any (·.reserved)) || p.plateSink r) &&
    match r.sink with
    | .cellIn n => n < 24
    | .ds n k => n < 4 && k < 8 && r.neg.isSome
    | .sar n k => n < 2 && k < 16 && r.neg.isNone
    | .cmpAlt n => n < 4 && r.neg.isNone
    | .tracker n => n < 2 && r.neg.isNone && match r.src with
      | .cell c => p.cellMode c == .comp
      | _ => false

/-- Cells of the longest chain that starts at a cell (14 R583). -/
def cellChain (l : List Route) : Nat → Nat → Nat
  | 0, _ => 0
  | f + 1, c => 1 + ((l.map fun r => match r.sink with
      | .cellIn d => if r.src = .cell c ∨ r.neg = some (.cell c) then cellChain l f d else 0
      | _ => 0).foldl max 0)

/-- A cell's fields lie within Table 14-2. -/
def Cell.good (c : Cell) : Bool := match c.mode with
  | .off => true
  | .pga => c.gain ≤ 7
  | .biquad => 10 ≤ c.f0 && c.f0 ≤ 200000 && 50 ≤ c.q && c.q ≤ 1000
  | .comp => c.thr < 1024 && c.hyst < 16
  | .rect => c.phase < 360

/-- The cells and the matrix. -/
def LoopProg.matrixGood (p : LoopProg) : Bool :=
  decide ((p.switches.map (·.sink)).Nodup) && p.switches.all p.routeGood && (p.cells.all fun c => c.1 < 24 && c.2.good) &&
    (List.range 24).all fun c => cellChain p.switches 6 c ≤ 4

/-- The excitation string: at most four elements, within the compliance of R589, AEXC0 and AEXC1 for the plate RTDs alone. -/
def LoopProg.stringGood (p : LoopProg) : Bool :=
  let l := p.exc.2.2
  l.length ≤ 4 && (l.all fun e => e.land < 8 && e.plate == decide (e.land < 2)) && decide ((l.map (·.land)).Nodup) &&
    (l.map (·.maxOhm)).sum ≤ (if p.exc.2.1 then 6000 else 30000)

/-- The converters, outputs, sine generators and the sub-mount temperature lie within their tables; TOUCH needs the string; AOUT0 is a
current output of slot 0. -/
def LoopProg.arrayGood (p : LoopProg) : Bool :=
  (p.ds.all fun d => d.1 < 4 && (!d.2.1 || p.exc.1) && d.2.2.1 ≤ 7 && d.2.2.2.1 ≤ 5 && d.2.2.2.2 ≤ 7) &&
    (p.sar.all fun d => d.1 < 2 && 1 ≤ d.2.1 && d.2.1 ≤ 16 && d.2.2.2.all (· < 64)) &&
    (p.aout.all fun o => o.1 < 8 && o.2.1 ≤ 3 && o.2.2.all (· < 64)) && (p.aout.find? fun o => o.1 == 0) == some (0, 1, some 0) &&
    (p.sine.all fun x => x.1 < 2 && 2 ^ 32 ≤ x.2.1 * 16384000 && x.2.1 * 16384000 ≤ 10000 * 2 ^ 32 && x.2.2 ≤ 50000) &&
    8000 ≤ p.submount && p.submount ≤ 9000

/-- The checks that the spec publishes (DETAIL 0x0A). -/
def LoopProg.good (p : LoopProg) : Bool :=
  p.consistent && decide (((p.slots ++ p.steward).map (·.1)).Nodup) && ((p.slots ++ p.steward).all fun e => e.1 < 64 && slotGood p.touchEntry e.2) &&
    p.destsGood && p.cascadesGood && p.photonicGood && p.matrixGood && p.stringGood && p.arrayGood && p.busiest ≤ 1728

end Sys2Proof.Machine
end

