-- ==== Sys2Proof/Machine/LoopEv.lean ====
section
/-! DEFINITION. What the events of loop slots do (chapter 15). -/
namespace Sys2Proof.Machine

/-! ### Starting and stopping the engine (15 R613, R637, R647) -/

/-- The value that the code in force of an analog destination represents (15 R637). -/
def codeValue (code : Nat) (scale : Reg32) : Reg32 :=
  let d := lwVal scale
  if d = 0 then 0 else (lwFrac (if d < 0 then -((code * 2 ^ 55 : Nat) : Int) else ((code * 2 ^ 55 : Nat) : Int)) d.natAbs).1

/-- u0 of output q when the engine restarts after a stop: an analog destination's present value, else the value last
delivered. -/
def State.restartValue (s : State) (x : Slot) (q : Nat) : Reg32 :=
  let o := Table.at x.cfg.out q {}
  if o.dest < 8 then
    let a := s.aoutAt o.dest
    codeValue (if s.aoutSafe o.dest then safeCode a.span else a.driven) o.scale
  else Table.at x.delivered q 0

/-- The engine restarts at tick 0, and every enabled slot starts without history: from INIT the first time after the loop program was
loaded, otherwise from what its destinations stand at (15 R625, R637, R647). -/
def State.engineRestart (s : State) : State :=
  let s1 := { s with lpe := { s.lpe with running := true, tick := 0, fresh := false }, pho := { s.pho with zoneRef := none } }
  (List.range 64).foldl (fun s1 n => s1.updSlot n fun x =>
    { x with out := if s.lpe.fresh then x.out else Vector.ofFn fun q : Fin 4 => s.restartValue x q, ins := Vector.replicate 4 {}, lastStart := none,
             preload := true, action := 0, alt := 0, stale := 0, frozen := 0, impl := 0 }) s1

/-- The engine runs: started, with VAN on (15 R613). -/
def State.engineRuns (s : State) : Bool := s.lpe.running && s.vanOn
/-- The engine stops (15 R613, R647). -/
def State.engineStop (s : State) : State := { s with lpe := { s.lpe with running := false } }

/-! ### A sample -/

/-- The start tick of a slot's next sample (15 R614). -/
def State.nextStart (s : State) (x : Slot) : Nat :=
  let p := max 1 x.cfg.period
  let a := max s.lpe.tick (x.lastStart.elim 0 (· + 1))
  a + (x.cfg.start + p - a % p) % p

/-- A pending swap takes effect: stage states carry over only where NSTAGE is equal and the new bank asks for no preload;
in HOLD or FAILSAFE the preload is left to the recovery (15 R631, R641). -/
def Slot.swap (x : Slot) : Slot :=
  if x.swapPend then
    let keep := hdrStages x.active == hdrStages x.inactive && !hdrPreload x.inactive
    { x with bank := !x.bank, swapPend := false, preload := x.preload || (!keep && (x.action == 0 || x.action == 3)) }
  else x

/-- Judge every input of a slot: the slot with its streams, and per input (stale, frozen, implausible) of the source in use. -/
def State.judgeInputs (s : State) (t : Nat) (x : Slot) : Slot × List (Bool × Bool × Bool) :=
  (List.range x.cfg.nin).foldl (fun (acc : Slot × List (Bool × Bool × Bool)) i =>
    let rc := Table.at x.cfg.inp i {}
    let st := Table.at acc.1.ins i {}
    let a := s.judgeStream rc rc.src x.cfg.period t st.src
    let b := if rc.alt = 0xFFFF then (st.alt, true, false, false) else s.judgeStream rc rc.alt x.cfg.period t st.alt
    let used := if x.alt.getLsbD i then b.2 else a.2
    ({ acc.1 with ins := Table.put acc.1.ins i { src := a.1, alt := { b.1 with lost := rc.alt == 0xFFFF || b.1.lost } } },
     acc.2 ++ [used])) (x, [])

/-- The source in use of an input. -/
def Slot.inUse (x : Slot) (i : Nat) : Stream :=
  let st := Table.at x.ins i {}
  if x.alt.getLsbD i then st.alt else st.src

/-- Switched inputs whose SRC has delivered RECOVER_N good samples return to it (15 R635, R643). -/
def Slot.returnInputs (x : Slot) : Slot :=
  let back := (List.range x.cfg.nin).filter fun i =>
    x.alt.getLsbD i && (Table.at x.cfg.inp i {}).recoverN ≤ (Table.at x.ins i {}).src.good
  if back.isEmpty then x
  else
    let alt := x.alt &&& ~~~ BitVec.ofNat 4 (maskOf back)
    { x with alt := alt, preload := true, action := if x.action = 3 ∧ alt = 0 then 0 else x.action }

/-- Stopped by HOLD or FAILSAFE. -/
def Slot.stopped (x : Slot) : Bool := x.action == 1 || x.action == 2 || x.action == 4 || x.action == 5

/-- Take ACTION2, or the action of a lost input that needs no alternate: HOLD or FAILSAFE, after SWITCH where an input is
switched. -/
def Slot.stopBy (x : Slot) (a : Nat) : Slot :=
  let code := if x.alt = 0 then a else a + 3
  { x with action := code, out := if a = 2 then x.out.mapIdx fun q (_ : Reg32) => (Table.at x.cfg.out q {}).failsafe else x.out }

/-- Take or leave the feedback-loss action that the judged inputs call for (15 R634, R635). -/
def Slot.act (x0 : Slot) : Slot :=
  let x := x0.returnInputs
  let ins := List.range x.cfg.nin
  if x.stopped then
    (if ins.all fun i => (Table.at x.cfg.inp i {}).recoverN ≤ (x.inUse i).good then
      { x with action := if x.alt = 0 then 0 else 3, preload := true }
     else x)
  else
    let lost := ins.filter fun i => (x.inUse i).lost
    if lost.isEmpty then x
    else if x.cfg.action1 = 3 then
      (if lost.all fun i => !x.alt.getLsbD i && !(Table.at x.ins i {}).alt.lost then
        { x with alt := x.alt ||| BitVec.ofNat 4 (maskOf lost), action := 3, preload := true }
       else x.stopBy x.cfg.action2)
    else x.stopBy x.cfg.action1

/-- The clamps and the slew of the outer loop of the cascade, from the coolant supply set-point they stand at (12 R518): they narrow the
bank's own (15 R628). -/
def zoneBank (b : Vector Reg32 256) (ref : Int) : Vector Reg32 256 :=
  let w (x : Int) : Reg32 := (lwFrac x 100).1
  let lo := w (ref + 1000)
  let hi := w (min 7500 (ref + 2500))
  let b1 := Table.put b 1 (if lwVal (bw b 1) < lwVal lo then lo else bw b 1)
  let b2 := Table.put b1 2 (if lwVal hi < lwVal (bw b 2) then hi else bw b 2)
  Table.put b2 3 (if bw b 3 = 0 ∨ lwVal (w 1) < lwVal (bw b 3) then w 1 else bw b 3)

/-- The clamps follow the supply set-point at the outer slew, 10 mK a period of slot 1; from the start they stand at it (12 R518, R536). -/
def State.zoneFollow (s : State) : Int :=
  match s.pho.zoneRef with
  | none => s.supplySetpoint
  | some r => r + clampInt (-1) 1 (s.supplySetpoint - r)

/-- The bank with which a slot computes (15 R618, 12 R518). -/
def State.bankInForce (s : State) (n : Nat) (x : Slot) : Vector Reg32 256 := if n = 1 then zoneBank x.active s.zoneFollow else x.active

/-- The outer loop's target in a state, %: 35 in ANNEAL in WARM mode, 50 in STANDBY and SERVING, otherwise as it stands (12 R517,
R518, 03 R115). -/
def State.zoneTarget (s : State) (st : DevState) : State :=
  let aim (v : Int) : State := if (s.slotAt 1).cfg.law = 0 then s else s.updSlot 1 fun x => { x with setpoint := (lwFrac v 1).1 }
  match st with
  | .anneal => if s.rampMode then s else aim 35
  | .standby | .serving => aim 50
  | _ => s

/-- Compute the law of a slot with a bank, and its output stage; answers the slot (15 R620-R622, R637). -/
def Slot.compute (x : Slot) (b : Vector Reg32 256) : Slot :=
  let ys := (List.range x.cfg.nin).map fun i => (x.inUse i).value
  if hdrLaw b = 1 then
    let y := ys.headD 0
    let e := if x.cfg.dir then lwSum [lwTerm y, -(lwTerm x.setpoint)] else lwSum [lwTerm x.setpoint, -(lwTerm y)]
    let u0 := Table.at x.out 0 0
    let st := if x.preload then preload1 b u0 (hdrStages b) 0 e.1 else x.sec.toList
    let r := law1 b u0 (hdrStages b) 0 e.1 st e.2
    { x with out := Table.put x.out 0 r.1, sec := x.sec.mapIdx fun i (o : Reg32 × Reg32) => (r.2.1[i]?).getD o,
             sat := r.2.2.1, arith := r.2.2.2, preload := false, setUsed := x.setpoint }
  else
    let rs := x.setpoint :: x.cfg.fixedSet.toList
    let xh := if x.preload then preload2 b ys rs x.out.toList else x.xh.toList
    let r := law2 b x.out.toList xh ys rs
    { x with out := x.out.mapIdx fun i (o : Reg32) => (r.1[i]?).getD o,
             xh := x.xh.mapIdx fun i (o : Reg32) => (r.2.1[i]?).getD o,
             sat := r.2.2.1, arith := r.2.2.2, preload := false, setUsed := x.setpoint }

/-- The condition bits of an input in a record: stale, frozen, implausible. -/
def condBits (c : Bool × Bool × Bool) : Nat := b2n c.1 + 2 * b2n c.2.1 + 4 * b2n c.2.2

/-- A slot's sample triggers the SAR scans that wait for it (14 R592). -/
def State.sarTrigger (s : State) (n : Nat) : State :=
  let sar := s.aar.sar.map fun (d : SarConv) =>
    if d.trigger = some n ∧ ¬ d.armed then { d with armed := true, next := 0 } else d
  { s with aar := { s.aar with sar := sar } }

/-- A slot with WARN = 1 enters a loss action: the warning is raised by the cause of Table 13-9 that covers the slot, SENSOR of the CDU
for slots 8 to 11 and REFERENCE for a slot that a plate RTD feeds; another slot's warning is the notice of its record (15 R636; log
entry 128). -/
def State.lossWarning (s : State) (n : Nat) (x : Slot) : State :=
  if 8 ≤ n ∧ n < 12 then ({ s with stew := { s.stew with cause := s.stew.cause ||| 16#8 } }).warnSet 10
  else if s.platePart x then s.warnSet 6
  else s

/-- SLOT_SAMPLE (15 R614, R616, R620-R637, R641, R646): one sample at the slot's next start tick. -/
def State.evSlotSample (s : State) (n : Nat) : State :=
  let x0 := s.slotAt n
  if s.engineRuns ∧ x0.en ∧ x0.cfg.law ≠ 0 then
    let t := s.nextStart x0
    let j := s.judgeInputs t x0.swap
    let conds := j.2
    let x1 := j.1.act
    let bit (f : Bool × Bool × Bool → Bool) : BitVec 4 :=
      BitVec.ofNat 4 (maskOf ((List.range conds.length).filter fun i => f ((conds[i]?).getD (false, false, false))))
    let x2 := { x1 with stale := bit (·.1), frozen := bit (·.2.1), impl := bit (·.2.2), lastStart := some t }
    let holds := x2.stopped || (n == 1 && s.pho.fixedFlow)
    let x3 := if holds then { x2 with setUsed := x2.setpoint, arith := false, sat := false } else x2.compute (s.bankInForce n x2)
    let s0 := if n = 1 then { s with pho := { s.pho with zoneRef := some s.zoneFollow } } else s
    let s1 := (({ s0 with lpe := { s0.lpe with tick := t } }).updSlot n fun _ => x3).sarTrigger n
    let changed := (List.range x0.cfg.nin).filter fun i =>
      x0.stale.getLsbD i != x3.stale.getLsbD i || x0.frozen.getLsbD i != x3.frozen.getLsbD i ||
      x0.impl.getLsbD i != x3.impl.getLsbD i || x0.alt.getLsbD i != x3.alt.getLsbD i
    let named := if changed.isEmpty ∧ x0.action ≠ x3.action then
        [((List.range x0.cfg.nin).find? fun i => (x3.inUse i).good == (Table.at x3.cfg.inp i {}).recoverN).getD 0]
      else changed
    let s2 := named.foldl (fun s i =>
      let c := condBits ((conds[i]?).getD (false, false, false))
      s.log 0x7001 (param [(1, n), (1, i), (1, Config.codeOf 5 c), (1, x3.action)]) none (c != 0) true) s1
    let s3 := if x3.arith ∧ ¬ x0.arith then s2.log 0x7002 (param [(1, n)]) none true true else s2
    if n = 0 then
      let s4 := s3.fixedFlowFollow
      if x3.stopped ∧ ¬ x0.stopped ∧ x3.action % 3 = 2 then s4.warnSet 5 else s4
    else if x3.action ≠ 0 ∧ x0.action = 0 ∧ x3.cfg.warn then s3.lossWarning n x3
    else s3
  else s

/-- Deliver a value to one destination (15 R622, R628): an analog output bound to the slot, an inner set-point, or a Filigree
output register. A product beyond 32 bits has no stated value there: free (log entry 7). -/
def State.deliverOut (s : State) (n : Nat) (o : SlotOut) (v : Reg32) : State :=
  if o.dest < 8 then
    (if (s.aoutAt o.dest).slot = some n then s.writeCode o.dest (clampInt 0 65535 (lwScaled v o.scale)).toNat else s)
  else if 0x40 ≤ o.dest ∧ o.dest < 0x80 then s.updSlot (o.dest - 0x40) fun x => { x with setpoint := v }
  else if 0x80 ≤ o.dest ∧ o.dest < 0xA0 then
    let z := lwScaled v o.scale
    let w := if -(2 ^ 31) ≤ z ∧ z < 2 ^ 31 then BitVec.ofInt 32 z else BitVec.ofNat 32 (Config.freeOf 12 [v.toNat, o.scale.toNat])
    { s with fil := { s.fil with outReg := Table.put s.fil.outReg (o.dest - 0x80) w } }
  else s

/-- SLOT_OUTPUT_PHASE (15 R614, R622, R639): the outputs in force, or the DISABLE values of a slot that has been disabled. -/
def State.evOutputPhase (s : State) (n : Nat) : State :=
  let x := s.slotAt n
  if s.engineRuns ∧ x.cfg.law ≠ 0 ∧ (x.disabling ∨ (x.en ∧ x.lastStart.isSome)) then
    let vs : List (SlotOut × Reg32) := (List.range x.cfg.nout).map fun q =>
      let o := Table.at x.cfg.out q {}
      (o, if x.disabling then o.disable else Table.at x.out q 0)
    let s1 := vs.foldl (fun s e => s.deliverOut n e.1 e.2) s
    let s2 := s1.updSlot n fun x =>
      { x with delivered := x.delivered.mapIdx fun q (d : Reg32) => ((vs[q]?).map (·.2)).getD d, disabling := false }
    { s2 with lpe := { s2.lpe with tick := max s2.lpe.tick (x.lastStart.elim 0 (· + x.cfg.outPhase)) } }
  else s

/-! ### Set-points and slots (15 R626, R639) -/

/-- What becomes of a set-point write (15 R626). -/
inductive SetRes where
  | accepted | parent | envelope | guard
  deriving DecidableEq, Repr

/-- Judge a set-point for a slot. -/
def State.judgeSetpoint (s : State) (n : Nat) (v : Reg32) : SetRes :=
  let x := s.slotAt n
  let d := (lwVal v - lwVal x.setUsed).natAbs
  if x.cfg.parent.isSome then .parent
  else if x.cfg.coolant ∧ (lwVal v * 10 < s.supMin * 2 ^ 55 ∨ (s.supMax * 2 ^ 55 : Int) < lwVal v * 10) then .envelope
  else if x.cfg.guard ∧ (if x.cfg.coolant then s.stepMax * 2 ^ 55 < d * 1000 else (lwVal x.cfg.guardMax).natAbs < d) then .guard
  else .accepted

/-- Write a slot's set-point: accepted unchanged, or rejected; a guard rejection sets GUARD_REJ with one record (15 R626). -/
def State.writeSetpoint (s : State) (n : Nat) (v : Reg32) : SetRes × State :=
  match s.judgeSetpoint n v with
  | .accepted => (.accepted, s.updSlot n fun x => { x with setpoint := v, guardRej := false })
  | .guard => (.guard, (s.updSlot n fun x => { x with guardRej := true }).log 0x7003 (param [(1, n), (4, v.toNat)]))
  | r => (r, s)

/-- SETPOINT_WRITE (15 R626, R648): by firmware, which is absent during a restart. -/
def State.evSetpoint (s : State) (n : Nat) (v : Reg32) : State :=
  if s.fwRuns ∧ (s.slotAt n).cfg.law ≠ 0 ∧ lwGood v then (s.writeSetpoint n v).2 else s

/-- Enable a slot: it starts without history at its next start tick, from the value last delivered (15 R637, R639). -/
def State.slotEnable (s : State) (n : Nat) : State :=
  if (s.slotAt n).cfg.law = 0 ∨ (s.slotAt n).en then s
  else s.updSlot n fun x =>
    { x with en := true, preload := true, disabling := false, out := x.delivered, action := 0, alt := 0, stale := 0,
             frozen := 0, impl := 0, lastStart := none,
             ins := Vector.replicate 4 { src := { newAt := s.lpe.tick }, alt := { newAt := s.lpe.tick } } }
/-- Disable a slot: its destinations take DISABLE at its next output phase (15 R639). -/
def State.slotDisable (s : State) (n : Nat) : State :=
  if (s.slotAt n).en then s.updSlot n fun x => { x with en := false, disabling := true, action := 0, alt := 0 } else s

/-- SLOT_ENABLE and SLOT_DISABLE (15 R639): by firmware. -/
def State.evSlotEnable (s : State) (n : Nat) : State := if s.fwRuns then s.slotEnable n else s
def State.evSlotDisable (s : State) (n : Nat) : State := if s.fwRuns then s.slotDisable n else s

/-- Load a slot of the loop program: its record and its initial banks, bank A active, INIT as its output in force
(15 R624, R625). -/
def State.loadSlot (s : State) (n : Nat) (p : SlotProg) : State :=
  let init : Vector Reg32 4 := Vector.ofFn fun q : Fin 4 => p.record.out[q].init
  s.updSlot n fun _ =>
    { en := p.record.en, cfg := p.record, bankA := p.bankA, bankB := p.bankB, setpoint := p.record.setpoint,
      setUsed := p.record.setpoint, out := init, delivered := init, preload := true, disabling := !p.record.en }

/-- Write words into a bank from an index. -/
def writeBank (b : Vector Reg32 256) (i : Nat) : List Reg32 → Vector Reg32 256
  | [] => b
  | w :: r => writeBank (Table.put b i w) (i + 1) r

end Sys2Proof.Machine
end

