-- ==== Sys2Proof/Machine/PlanishFx.lean ====
section
/-! DEFINITION. Planish: items, steps, outcomes and taps (chapter 16), with the Touchstone check of 02 R69. -/
namespace Sys2Proof.Machine

/-- The Touchstone check: outside 10.000 kilohm by more than 0.5 % is a fault, with a record (02 R69). -/
def State.touchCheck (s : State) (ohm : Nat) : State :=
  let bad := decide (ohm < 9950 ∨ 10050 < ohm)
  let s1 := { s with supply := { s.supply with touchFault := bad, touchOhm := ohm } }
  if bad then s1.log 0x1008 (param [(4, ohm)]) else s1

/-! ### Items (16 Tables 16-2 and 16-4) -/

/-- Quantity codes with their number of items, domain (0 ANALOG, 1 THERMAL, 2 LIGHT, 3 LINK, 4 SCORER), dependence on the
Touchstone, interval in s (default, least, most), and the place of the interval in the row image. -/
def planishKinds : List (Nat × Nat × Nat × Bool × Nat × Nat × Nat) :=
  [(0x0001, 1, 0, false, 0, 0, 0), (0x0002, 1, 0, true, 3600, 600, 86400), (0x0010, 4, 0, true, 600, 60, 3600),
   (0x0011, 2, 0, true, 600, 60, 3600), (0x0012, 24, 0, true, 3600, 600, 86400), (0x0013, 8, 0, true, 600, 60, 3600),
   (0x0014, 4, 0, true, 3600, 600, 86400), (0x0020, 140, 1, true, 3600, 600, 86400), (0x0030, 24, 2, true, 60, 10, 3600),
   (0x0031, 704, 2, true, 3600, 600, 86400), (0x0032, 704, 2, false, 600, 60, 3600), (0x0040, 256, 3, false, 600, 60, 3600),
   (0x0050, 64, 4, false, 10, 1, 600)]

/-- Number of items of a quantity; 0 where the table has no such code. -/
def planishCount (q : Nat) : Nat := ((planishKinds.find? fun k => k.1 == q).map (·.2.1)).getD 0
/-- Domain of a quantity. -/
def planishDomain (q : Nat) : Nat := ((planishKinds.find? fun k => k.1 == q).map (·.2.2.1)).getD 0
/-- Does a quantity depend on the Touchstone? -/
def planishDepends (q : Nat) : Bool := ((planishKinds.find? fun k => k.1 == q).map (·.2.2.2.1)).getD false

/-- An item is in use (16 R667): a converter that runs, a cell or output that is not OFF, a rope path whose trim DAC is its
own, an array that is lit, a ring that is not parked or failed, a lane of an UP strand or of one in LOOP_TEST, a channel
of an enabled scorer. -/
def State.itemUsed (s : State) (q i : Nat) : Bool :=
  let analog := s.arrayRuns && s.dev.state != .held
  let k := i / 4
  match planishDomain q with
  | 0 => analog && (if q = 0x0010 then (Table.at s.aar.ds i {}).en
      else if q = 0x0011 then (Table.at s.aar.sar i {}).nscan != 0
      else if q = 0x0012 then (Table.at s.aar.cell i {}).mode != .off
      else if q = 0x0013 then (s.aoutAt i).span != 0
      else if q = 0x0014 then !Table.at s.aar.trimUse i false
      else true)
  | 1 => s.dev.state != .dormant && s.dev.state != .off && s.dev.state != .held
  | 2 => if q = 0x0030 then (s.laserAt i).lit
      else (s.ring704At i).state != .parked && (s.ring704At i).state != .failed
  | 3 => (s.strandAt k).state == .up || (s.strandAt k).state == .loopTest
  | _ => s.wmk.state != .off

/-- The precondition of Table 16-4, as far as the state shows it. -/
def State.itemPre (s : State) (q i : Nat) : Bool :=
  match q with
  | 0x0002 => s.aar.excEn && s.aar.stringOk
  | 0x0013 => (s.aoutAt i).span != 0 && (s.aoutAt i).hold.isNone && !(s.aoutAt i).complLost
  | 0x0014 => !(s.cmpAt i).trip && s.sineOn (i / 2)
  | 0x0020 =>
    let g := s.validTemps (sensorsOf (groupOf i))
    (s.dev.state == .standby || s.dev.state == .anneal) && (s.mould.toList.all fun m => m.mult == 0) &&
      (match s.thm.tIn, s.thm.tOut with
       | some a, some b => decide (b - a < 20)
       | _, _ => false) &&
      (match g with
       | [] => true
       | x :: r => decide (r.foldl max x - r.foldl min x < 600))
  | 0x0030 => (s.laserAt i).lit && decide (((s.laserAt i).submount - s.pho.submountSet).natAbs ≤ 10)
  | 0x0031 => (s.ring704At i).state == .locked && 409 ≤ (s.ring704At i).code && (s.ring704At i).code ≤ 3685
  | 0x0032 => (s.ring704At i).state == .locked
  | 0x0040 => ((s.strandAt (i / 4)).state == .up && (s.strandAt (i / 4)).lanes.getLsbD (i % 4)) ||
      (s.strandAt (i / 4)).state == .loopTest
  | 0x0050 => s.wmk.insvc.getLsbD i &&
      (List.range 3).all fun j => (s.ring704At (512 + 3 * i + j)).state == .locked
  | _ => true

/-- Windows against the previous result and, for the first pass, against design, coefficient by coefficient; the last pair
stands for every further coefficient (16 Table 16-4). None: no window. -/
def itemWindows (q : Nat) : List (Option Nat × Option Nat) :=
  match q with
  | 0x0002 => [(some 100, some 5000)]
  | 0x0010 => [(some 20, some 1000), (some 50, some 5000)]
  | 0x0011 => [(some 1000, some 10000)]
  | 0x0012 => [(none, none), (some 5000, some 50000), (some 30000, some 200000), (some 50000, some 250000), (none, none)]
  | 0x0013 => [(some 2000, some 20000), (some 2000, some 20000), (none, none)]
  | 0x0014 => [(some 50000, some 100000), (none, none)]
  | 0x0020 => [(some 200, none)]
  | 0x0030 => [(some 50000, some 200000)]
  | 0x0031 => [(some 500, none)]
  | 0x0040 => List.replicate 4 (some 4, some 12) ++ [(some 2, some 8)] ++ List.replicate 3 (some 8, none) ++ [(none, none)]
  | 0x0050 => [(some 30000, some 200000), (some 64, some 512), (none, none)]
  | _ => [(none, none)]

/-- A ring's loop coefficients (bias ratio, dither amplitude, heater delay and the two gains of the law) against `ref`: the bias ratio
within 10 %, the gains within 20 %, in a first pass within 50 % (16 Table 16-4); the other two have no window. -/
def ringLoopPlausible (ref new : List Int) (first : Bool) : Bool :=
  [0, 3, 4].all fun i =>
    let p := (ref[i]?).getD 0
    let n := (new[i]?).getD p
    let pct : Int := if first then 50 else if i = 0 then 10 else 20
    p == 0 || decide (((n - p).natAbs : Int) * 100 ≤ pct * p.natAbs)

/-- The full scale of a heater by design, in uW: 25.00 mW (16 Table 16-4). -/
def heaterDesign : Int := 25000

/-- The trim, in taps of 0.01 % and of 11 bits, that brings a full scale of `uw` to the design (16 Table 16-1, R659, log entry 132). -/
def heaterTrim (uw : Int) : Int :=
  if uw ≤ 0 then 0 else clampInt (-1024) 1023 (rneDiv (heaterDesign * 10000) uw.toNat - 10000)

/-- The plausibility check of phase 4 (16 R656, R657); `design` holds a ring's loop coefficients before its first step. -/
def plausible (q : Nat) (prev : Option (List Int)) (design new : List Int) : Bool :=
  if q = 0x0032 then ringLoopPlausible (prev.getD design) new prev.isNone
  else if q = 0x0031 ∧ prev.isNone then
    (new.head?.elim true fun x => decide ((x - heaterDesign).natAbs ≤ 3000))
  else
    (List.range new.length).all fun i =>
      let x := (new[i]?).getD 0
      let w := ((itemWindows q)[i]?).getD ((itemWindows q).getLastD (none, none))
      (match prev with
       | some p => w.1.elim true fun lim => decide ((x - (p[i]?).getD 0).natAbs ≤ lim)
       | none => w.2.elim true fun lim => decide (x.natAbs ≤ lim)) &&
      (q != 0x0020 || decide (x.natAbs ≤ 500))

/-! ### Histories and outcomes -/

/-- The history of an item. -/
def State.itemAt (s : State) (q i : Nat) : PItem :=
  (s.pln.items.find? fun x => x.qty == q && x.index == i).getD { qty := q, index := i }
/-- Change the history of an item. -/
def State.updItem (s : State) (q i : Nat) (f : PItem → PItem) : State :=
  let l := s.pln.items
  let l' := if l.any (fun x => x.qty == q && x.index == i) then l.map (fun x => if x.qty = q ∧ x.index = i then f x else x)
    else l ++ [f { qty := q, index := i }]
  { s with pln := { s.pln with items := l' } }

/-- Every converter has ended DONE, and neither a converter nor the reference is FAILED or OVERDUE (14 Table 14-7, 16 R664, R666,
Table 16-8). -/
def State.convCalNow (s : State) : Bool :=
  !(s.itemAt 0x0002 0).failed && !(s.itemAt 0x0002 0).overdue &&
  (((List.range 4).map fun i => (0x0010, i)) ++ [(0x0011, 0), (0x0011, 1)]).all fun e =>
    let x := s.itemAt e.1 e.2
    x.doneOnce && !x.failed && !x.overdue
def State.convCalRefresh (s : State) : State := { s with aar := { s.aar with convCal := s.convCalNow } }

/-- The PARAM of a Planish record (16 R662). -/
def planishParam (q i code phase : Nat) (ppm : Int) : List Byte :=
  param [(2, q), (2, i), (1, Config.codeOf 6 (code % 256)), (1, phase), (2, 0), (4, unsgn 32 ppm)]

/-- The outcomes that end a step (16 Table 16-7). -/
inductive POut where
  | done | precond | reject | timeout
  deriving DecidableEq, Repr

/-- The code and PLANISH_RUN status of an outcome. -/
def POut.code : POut → Nat
  | .done => 0x5001 | .precond => 0x5002 | .reject => 0x5003 | .timeout => 0x5004
def POut.status : POut → Status
  | .done => .ok | .timeout => .timeout | _ => .precond

/-- Take an item's withdrawal back (16 R652): a converter, a lane, a channel. -/
def State.unwithdraw (s : State) (q i : Nat) : State :=
  match q with
  | 0x0010 => { s with aar := { s.aar with ds := Table.upd s.aar.ds i fun d => { d with cal := false } } }
  | 0x0011 => { s with aar := { s.aar with sar := Table.upd s.aar.sar i fun d => { d with cal := false } } }
  | 0x0040 => s.updStrand (i / 4) fun t => if t.laneCal = some (i % 4) then { t with laneCal := none } else t
  | 0x0050 => if s.wmk.calCh = some i then { s with wmk := { s.wmk with calCh := none } } else s
  | _ => s

/-- The consequence of FAILED, or its end (16 Table 16-8); a sensor is flagged also when its offset is rejected (13 R574).
Answers whether the device is to enter SAFE because no sensor of group 0 or 1 is left valid (13 R570). -/
def State.itemConsequence (s : State) (q i : Nat) (out : POut) (failed : Bool) : Bool × State :=
  if q = 0x0050 then
    let b := BitVec.ofNat 64 (2 ^ i)
    let s1 := { s with wmk := { s.wmk with calFailed := if failed then s.wmk.calFailed ||| b else s.wmk.calFailed &&& ~~~ b } }
    (false, if failed != s.wmk.calFailed.getLsbD i then (s1.channelRefresh i).scorerJudge else s1)
  else if q = 0x0020 then
    let flag := if out = .done then false else (failed || out == .reject || (s.sensAt i).flagged)
    if flag = (s.sensAt i).flagged then (false, s)
    else
      let j := (s.updSens i fun x => { x with flagged := flag }).judgeGroup (groupOf i)
      (j.1, j.2.throttleFollowAll)
  else (false, s)

/-- FIRST_PASS is recorded when every item in use has had one step since boot complete (04 R180, 16 R666). -/
def State.firstPassCheck (s : State) : State :=
  if s.pln.firstPass ∨ ¬ s.boot.complete then s
  else if planishKinds.tail.all (fun k => (List.range k.2.1).all fun i => !s.itemUsed k.1 i || (s.itemAt k.1 i).count != 0) then
    ({ s with pln := { s.pln with firstPass := true } }).log 0x5007 (planishParam 0 0 0x5007 0 0)
  else s

/-- End a step with an outcome: its record, the item's history, the consequences, and the answer to a PLANISH_RUN of the item
(16 R662-R668). -/
def State.endStep (s : State) (q i phase : Nat) (out : POut) (ppm : Int) : Bool × State :=
  let x := s.itemAt q i
  let fails := if out = .done then 0 else min 3 (x.fails + 1)
  let failNow := fails == 3 && x.fails == 2
  let code := if out = .done ∧ x.failed then 0x5006 else if failNow then 0x5005 else out.code
  let status := out.status
  let s1 := s.unwithdraw q i
  let drop (d : Option PStep) : Option PStep := d.filter fun p => !(p.qty == q && p.index == i)
  let s2 := { s1 with pln := { s1.pln with dom := Table.upd s1.pln.dom (planishDomain q) drop } }
  let s3 := s2.updItem q i fun x =>
    { x with last := some status, timeS := s.stamp.2.1, count := satInc 32 x.count, fails := fails,
             failed := if out = .done then false else x.failed || failNow, overdue := x.overdue && out != .done,
             doneOnce := x.doneOnce || out == .done }
  let s4 := s3.log code (planishParam q i code phase ppm)
  let c := s4.itemConsequence q i out (s4.itemAt q i).failed
  let s5 := if q = 0x0002 ∨ q = 0x0010 ∨ q = 0x0011 then c.2.convCalRefresh else c.2
  let s6 := s5.answerWaiting (.planish q i) status (if status = .precond then 0xFFFF else 0) fun _ => leBytes 2 code
  (c.1, s6.firstPassCheck)

/-! ### Application (16 R658-R661) -/

/-- Put the boundary coefficients of a result into force. -/
def State.applyBoundary (s : State) (q i : Nat) (r : List Int) : State :=
  let at_ (k : Nat) (d : Int) : Int := (r[k]?).getD d
  match q with
  | 0x0020 => s.updSens i fun x => { x with offset := at_ 0 x.offset }
  | 0x0032 => s.updRing704 i fun x =>
      { x with target := at_ 0 x.target, dither := at_ 1 x.dither, delay := at_ 2 x.delay, kp := at_ 3 x.kp, ki := at_ 4 x.ki }
  | _ => s

/-- Move one coefficient of the item by taps: the heater trim of a ring and the trim DAC of a rope path are state of their
own. -/
def State.moveTap (s : State) (q i k : Nat) (d : Int) : State :=
  let s1 := s.updItem q i fun x =>
    let l := x.tapPos ++ List.replicate (k + 1 - x.tapPos.length) 0
    { x with tapPos := l.mapIdx fun j v => if j = k then v + d else v }
  match q with
  | 0x0031 => s1.updRing704 i fun x => { x with trim := x.trim + d }
  | 0x0014 => if k = 0 then s1 else { s1 with aar := { s1.aar with trim := Table.upd s1.aar.trim i fun c => (clampInt 0 4095 ((c : Int) + d)).toNat } }
  | _ => s1

/-- The place of the first coefficient that moves tap by tap; the ones before it change at a boundary (16 Table 16-5). -/
def tapFrom (q : Nat) : Option Nat :=
  match q with
  | 0x0012 => some 4
  | 0x0013 => some 2
  | 0x0014 => some 1
  | 0x0031 => some 0
  | 0x0040 => some 0
  | 0x0050 => some 2
  | _ => none

/-- Where a coefficient that moves tap by tap stands now. -/
def State.tapNow (s : State) (q i k : Nat) : Int :=
  match q with
  | 0x0031 => (s.ring704At i).trim
  | 0x0014 => (Table.at s.aar.trim i 0x800 : Nat)
  | _ => ((s.itemAt q i).tapPos[k]?).getD 0

/-- The taps by which a result moves each coefficient, in the order of the coefficients (16 R658, Table 16-5). -/
def State.tapsTo (s : State) (q i : Nat) (r : List Int) : List Int :=
  match tapFrom q with
  | none => []
  | some f => r.mapIdx fun k x =>
      if k < f ∨ (q = 0x0031 ∧ k ≠ 0) then 0 else (if q = 0x0031 then heaterTrim x else x) - s.tapNow q i k

/-- The loop coefficients of a ring, as a step of its quantity gives them (16 Table 16-2). -/
def State.ringCoefs (s : State) (i : Nat) : List Int :=
  let x := s.ring704At i
  [x.target, x.dither, x.delay, x.kp, x.ki]

/-- The result of a step: a lane that is the last one in service keeps its level codes and its skew, for it is measured in markers
only (16 R654). -/
def State.stepResult (s : State) (q i : Nat) (r : List Int) : List Int :=
  let t := s.strandAt (i / 4)
  if q = 0x0040 ∧ t.state = .up ∧ popCount 4 t.lanes.toNat ≤ 1 then
    r.mapIdx fun k x => if k < 5 then s.tapNow q i k else x
  else r

/-- A step of an item reaches its commit point: a PLANISH_RUN of it no longer ends ABORTED over a restart (05 R227, 16 R660). -/
def State.planishCommit (s : State) (q i : Nat) : State :=
  { s with damem := { s.damem with
      inflight := s.damem.inflight.map fun f => if f.wait = .planish q i then { f with committed := true } else f } }

/-- One tap of every coefficient that has taps left. -/
def State.tapOnce (s : State) (p : PStep) : State × PStep :=
  (List.range p.taps.length).foldl (fun (acc : State × PStep) k =>
    let t := (acc.2.taps[k]?).getD (0, 0)
    if t.2 = 0 then acc
    else
      let d : Int := if t.2 < 0 then -1 else 1
      (acc.1.moveTap p.qty p.index k d, { acc.2 with taps := acc.2.taps.set k (t.1, t.2 - d) })) (s, p)

/-- Finish a step that has been applied in full. -/
def State.finishStep (s : State) (p : PStep) : Bool × State :=
  let s1 := (s.applyBoundary p.qty p.index p.result).updItem p.qty p.index fun x => { x with coef := p.result }
  let s2 := if p.qty = 0x0031 then s1.updRing704 p.index fun x => { x with trimDone := true } else s1
  s2.endStep p.qty p.index 5 .done p.ppm

/-- A step of a domain is in progress. -/
def State.domBusy (s : State) (d : Nat) : Bool := (Table.at s.pln.dom d none).isSome

/-- Withdraw an item for its step (16 R652-R654, R667): a converter always; a lane or a channel where asked, but never the
last lane in service. -/
def State.withdraw (s : State) (q i : Nat) (ask : Bool) : Bool × State :=
  match q with
  | 0x0010 => (true, { s with aar := { s.aar with ds := Table.upd s.aar.ds i fun d => { d with cal := true } } })
  | 0x0011 => (true, { s with aar := { s.aar with sar := Table.upd s.aar.sar i fun d => { d with cal := true } } })
  | 0x0040 =>
    let t := s.strandAt (i / 4)
    if ask ∧ t.state = .up ∧ 1 < popCount 4 t.lanes.toNat ∧ t.lanes.getLsbD (i % 4) then
      (true, s.updStrand (i / 4) fun t => { t with laneCal := some (i % 4) })
    else (false, s)
  | 0x0050 =>
    if ask ∧ s.wmk.calCh.isNone then (true, { s with wmk := { s.wmk with calCh := some i } }) else (false, s)
  | _ => (false, s)

/-- Run a step: the Touchstone, the precondition, the measurement, the plausibility check, and the start of its application;
a step with nothing left to apply ends at once, and a withdrawn converter at its next sample boundary (16 R655-R661). -/
def State.runStep (s : State) (q i : Nat) (m : PMeas) (ask : Bool) : Bool × State :=
  let s0 := if q = 0x0001 ∨ planishDepends q then s.touchCheck m.touchOhm else s
  if (q = 0x0001 ∨ planishDepends q) ∧ s0.supply.touchFault then s0.endStep q i 1 .precond 0
  else if q = 0x0001 then s0.endStep q i 5 .done 0
  else if ¬ (s0.itemUsed q i ∧ s0.itemPre q i ∧ m.pre) then s0.endStep q i 2 .precond 0
  else
    let x := s0.itemAt q i
    let prev := if x.doneOnce then some x.coef else none
    let result := s0.stepResult q i m.result
    if ¬ plausible q prev (s0.ringCoefs i) result then s0.endStep q i 4 .reject m.ppm
    else
      let tap := s0.tapsTo q i result
      let ring := s0.ring704At i
      if q = 0x0031 ∧ 4095 * (10000 + ring.trim + tap.headD 0) < ring.code * (10000 + ring.trim) then
        s0.endStep q i 5 .precond m.ppm
      else
        let w := s0.withdraw q i ask
        let p : PStep := { qty := q, index := i, taps := tap.map fun t => (t, t), result := result, ppm := m.ppm,
                           withdrawn := w.1 }
        if (q = 0x0010 ∨ q = 0x0011) ∨ tap.any (· != 0) then
          (false, { w.2 with pln := { w.2.pln with dom := Table.put w.2.pln.dom (planishDomain q) (some p) } })
        else w.2.finishStep p

/-- May a step in progress go on: its item is in use, and a lane withdrawn for it has not been dropped, nor a channel's ring lost
(16 R672, R674; PRECOND then, log entry 133)? -/
def State.stepHolds (s : State) (p : PStep) : Bool :=
  s.itemUsed p.qty p.index &&
    (match p.qty with
     | 0x0040 => !p.withdrawn || (s.strandAt (p.index / 4)).laneCal == some (p.index % 4)
     | 0x0050 => !p.withdrawn || (List.range 3).all fun j => (s.ring704At (512 + 3 * p.index + j)).state == .locked
     | _ => true)

/-- A step whose item leaves use ends PRECOND, and so does a PLANISH_RUN that still waits for its step; taps already applied stand
(16 R660, R672). -/
def State.planishLeave (s : State) : State :=
  let s1 := (List.range 5).foldl (fun s d => match Table.at s.pln.dom d none with
    | some p => if s.stepHolds p then s else (s.endStep p.qty p.index p.phase .precond p.ppm).2
    | none => s) s
  s1.damem.inflight.foldl (fun (s : State) f => match f.wait with
    | .planish q i => if s.itemUsed q i ∨ s1.domBusy (planishDomain q) then s else s.answer f .precond 0xFFFF
    | _ => s) s1

/-- A restart abandons the steps that have not reached their commit point, with no effect; the others finish in hardware
(16 R660, R673). -/
def State.planishRestart (s : State) : State :=
  (List.range 5).foldl (fun s d => match Table.at s.pln.dom d none with
    | some p =>
      if p.taps.any fun x => x.1 != x.2 then s
      else
        let s1 := s.unwithdraw p.qty p.index
        { s1 with pln := { s1.pln with dom := Table.put s1.pln.dom d none } }
    | none => s) s

end Sys2Proof.Machine
end

