-- ==== Sys2Proof/Machine/PlanishEv.lean ====
section
/-! DEFINITION. What the events of Planish do (chapter 16). Each answers also whether the device is to enter SAFE because no
sensor of group 0 or 1 is left valid (13 R570). -/
namespace Sys2Proof.Machine

/-- A PLANISH_RUN waits for a step of the item. -/
def State.runAsked (s : State) (q i : Nat) : Bool := s.damem.inflight.any fun f => f.wait == .planish q i

/-- A step may start: the code and INDEX exist, firmware runs, the boot is complete, the item is in use, no step of its domain is in
progress, and a PLANISH_RUN of the domain goes first (04 R180, 16 R651, R666, R667). -/
def State.stepMayRun (s : State) (q i : Nat) : Bool :=
  decide (i < planishCount q) && s.fwRuns && s.boot.complete && s.itemUsed q i && !s.domBusy (planishDomain q) &&
    (s.runAsked q i || !s.damem.inflight.any fun f => match f.wait with
      | .planish q' _ => planishDomain q' == planishDomain q
      | _ => false)

/-- The gap of a scheduled step is open: a scorer channel's lies between batches (16 Table 16-3). -/
def State.gapOpen (s : State) (q : Nat) : Bool := q != 0x0050 || s.wmk.flight.isEmpty

/-- PLANISH_STEP (16 R655): a scheduled step in its gap, or a PLANISH_RUN, which withdraws at once (R667). -/
def State.evPlanishStep (s : State) (q i : Nat) (m : PMeas) : Bool × State :=
  if s.stepMayRun q i ∧ (s.runAsked q i ∨ s.gapOpen q) then s.runStep q i m (s.runAsked q i) else (false, s)

/-- PLANISH_WITHDRAW (16 R653): a step that found no gap takes its channel or lane by withdrawal. -/
def State.evPlanishWithdraw (s : State) (q i : Nat) (m : PMeas) : Bool × State :=
  if s.stepMayRun q i ∧ (q = 0x0040 ∨ q = 0x0050) then s.runStep q i m true else (false, s)

/-- PLANISH_TAP (16 R658, R660): one sample period of the path of the domain's step; the step ends DONE when no tap is left.
It runs in hardware, through a restart. A withdrawn converter ends at the boundary of its own samples (`planishBoundary`). -/
def State.evPlanishTap (s : State) (d : Nat) : Bool × State :=
  match Table.at s.pln.dom d none with
  | some p =>
    if p.qty = 0x0010 ∨ p.qty = 0x0011 then (false, s)
    else
      let t := (s.planishCommit p.qty p.index).tapOnce p
      if t.2.taps.all fun x => x.2 == 0 then t.1.finishStep t.2
      else (false, { t.1 with pln := { t.1.pln with dom := Table.put t.1.pln.dom d (some t.2) } })
  | none => (false, s)

/-- The sample boundary of a withdrawn converter, at which its coefficients take effect together and it returns to service
(14 R607, 16 R658). -/
def State.planishBoundary (s : State) (q i : Nat) : Bool × State :=
  match Table.at s.pln.dom 0 none with
  | some p => if p.qty = q ∧ p.index = i then s.finishStep p else (false, s)
  | none => (false, s)

/-- PLANISH_TIMEOUT (16 R656): the step ends TIMEOUT and leaves every coefficient as it was. -/
def State.evPlanishTimeout (s : State) (d : Nat) : Bool × State :=
  match Table.at s.pln.dom d none with
  | some p =>
    let s1 := (List.range p.taps.length).foldl (fun s k =>
      let t := (p.taps[k]?).getD (0, 0)
      if t.1 = t.2 then s else s.moveTap p.qty p.index k (t.2 - t.1)) s
    s1.endStep p.qty p.index p.phase .timeout p.ppm
  | none => (false, s)

/-- PLANISH_OVERDUE (16 R664): no DONE for twice the interval. -/
def State.evPlanishOverdue (s : State) (q i : Nat) : State :=
  if i < planishCount q ∧ q ≠ 0x0001 ∧ ¬ (s.itemAt q i).overdue then
    let s1 := (s.updItem q i fun x => { x with overdue := true }).log 0x5008 (planishParam q i 0x5008 0 0)
    if q = 0x0002 ∨ q = 0x0010 ∨ q = 0x0011 then s1.convCalRefresh else s1
  else s

end Sys2Proof.Machine
end

