-- ==== Sys2Proof/Machine/StewardFx.lean ====
section
/-! DEFINITION. Roles, messages, relays, leak ropes and the row power budget of the steward (chapter 17), as operations that
the meanings of Machine/Steward.lean and other families share. -/
namespace Sys2Proof.Machine

/-! ### Candidates (17 R683) -/

/-- Code of a role (17 Table 17-11). -/
def Role.code : Role → Nat
  | .none => 0 | .primary => 1 | .standby => 2

/-- The report of a position that is current: received within 300 ms. -/
def State.current (s : State) (d : Nat) : Option Member :=
  (Table.at s.stew.member d none).filter fun m => s.now ≤ m.at_ + 9830
/-- This device is a candidate. -/
def State.selfCand (s : State) : Bool := s.stewElig && s.inService && !s.stew.withdrawn
/-- A position is a candidate. -/
def State.isCand (s : State) (d : Nat) : Bool :=
  if d = s.pos then s.selfCand
  else (s.current d).elim false fun m => m.elig && m.cand && 2 ≤ m.state && m.state ≤ 4 && m.compat == s.boot.compat
/-- The lowest candidate but for one position. -/
def State.lowestCand (s : State) (but : Nat) : Option Nat :=
  (List.range s.row.rowSize).find? fun d => d != but && s.isCand d

/-! ### Records and the Filigree side -/

/-- 0xFF for none. -/
def orFF (o : Option Nat) : Nat := o.getD 0xFF

/-- A change of role, of the recognised primary or of the named standby: its record, and the inputs of the fabric
(17 R680, R684-R690). -/
def State.roleSet (s : State) (role : Role) (primary standby : Option Nat) (epoch : Nat) : State :=
  let same := s.stew.role = role ∧ s.stew.primary = primary ∧ s.stew.standby = standby ∧ s.stew.epoch = epoch
  if same then s
  else
    let s1 := { s with
      stew := { s.stew with role := role, primary := primary, standby := standby, epoch := epoch,
                            maxEpoch := max s.stew.maxEpoch epoch },
      fil := { s.fil with rolePrimary := role == Role.primary, roleStandby := role == Role.standby } }
    s1.log 0x8001 (param [(1, role.code), (1, orFF primary), (1, orFF standby), (2, epoch)])

/-! ### STEWBEAT (17 Table 17-4) -/

/-- What a STEWBEAT says of the present. -/
def State.beatNow (s : State) : Snapshot :=
  { role := s.stew.role.code, standby := orFF s.stew.standby, epoch := s.stew.epoch, seq := s.stew.beatSeq,
    setpt := Vector.ofFn fun i : Fin 4 => (s.slotAt (8 + i)).setpoint,
    aout := Vector.ofFn fun i : Fin 8 => (s.aoutAt i).code,
    filout := Vector.ofFn fun i : Fin 4 => (Table.at s.fil.outReg i 0).toInt,
    leak := Vector.ofFn fun i : Fin 4 => (s.ropeAt i).stage,
    isol := s.stew.isol, at_ := s.now }

/-- The 128 bytes of a STEWBEAT. -/
def Snapshot.bytes (b : Snapshot) : List Byte :=
  let l := leBytes 1 b.role ++ leBytes 1 b.standby ++ leBytes 2 b.epoch ++ leBytes 4 b.seq ++
    b.setpt.toList.flatMap (fun w => leBytes 4 w.toNat) ++ b.aout.toList.flatMap (fun c => leBytes 2 c) ++
    b.filout.toList.flatMap (fun v => leBytes 4 (unsgn 32 v)) ++ b.leak.toList.flatMap (fun v => leBytes 1 v) ++
    leBytes 1 b.isol.toNat
  l ++ List.replicate (128 - l.length) 0

/-- A STEWBEAT as received. -/
def readBeat (d : List Byte) (now : Nat) : Snapshot :=
  { role := fld d 0 1, standby := fld d 1 1, epoch := fld d 2 2, seq := fld d 4 4,
    setpt := Vector.ofFn fun i : Fin 4 => BitVec.ofNat 32 (fld d (8 + 4 * i) 4),
    aout := Vector.ofFn fun i : Fin 8 => fld d (0x18 + 2 * i) 2,
    filout := Vector.ofFn fun i : Fin 4 => sfld d (0x28 + 4 * i) 4,
    leak := Vector.ofFn fun i : Fin 4 => fld d (0x38 + i) 1,
    isol := BitVec.ofNat 8 (fld d 0x3C 1), at_ := now }

/-- The other positions of the row. -/
def State.others (s : State) : List Nat := (List.range s.row.rowSize).filter (· != s.pos)

/-- Send a STEWBEAT to every position: while firmware is absent, with the contents it last wrote and SEQ advancing
(17 R682, R688). -/
def State.sendBeat (s : State) : State :=
  let b := if s.fwRuns then s.beatNow else { (s.stew.lastBeat.getD s.beatNow) with seq := s.stew.beatSeq }
  let s1 := { s with stew := { s.stew with beatSeq := (s.stew.beatSeq + 1) % 2 ^ 32, lastBeat := some b } }
  s1.others.foldl (fun s d => s.sendMgmt d 0x11 0 0 b.bytes) s1

/-! ### Taking and giving up the role (17 R679, R684-R691) -/

/-- A snapshot younger than 1 s. -/
def State.freshSnapshot (s : State) : Option Snapshot := s.stew.snapshot.filter fun b => s.now < b.at_ + 32768

/-- Drive a rack return valve's code: valves 0-3 on AOUT4-7, valves 4-7 through Filigree output registers 0-3. -/
def State.driveValve (s : State) (v code : Nat) : State :=
  if v < 4 then s.writeCode (4 + v) code
  else { s with fil := { s.fil with outReg := Table.put s.fil.outReg (v - 4) (BitVec.ofNat 32 code) } }

/-- The steward section of the loop program, with its slots still disabled, from the snapshot or from INIT (17 R691, R692). -/
def State.stewardApply (s : State) : State :=
  let s1 := (s.prog.decode s.prog.steward).foldl (fun s e =>
    (s.loadSlot e.1 e.2).updSlot e.1 fun x => { x with en := false, disabling := false }) s
  match s1.freshSnapshot with
  | some b =>
    let s2 := (List.range 4).foldl (fun s i => s.updSlot (8 + i) fun x =>
      { x with setpoint := Table.at b.setpt i 0, setUsed := Table.at b.setpt i 0,
               delivered := x.delivered.mapIdx fun q (d : Reg32) =>
                 let o := Table.at x.cfg.out q {}
                 if o.dest < 8 then codeValue (Table.at b.aout o.dest 0) o.scale else d }) s1
    let s3 := (List.range 4).foldl (fun s i => s.driveValve i (Table.at b.aout (4 + i) 0)) s2
    { s3 with
      fil := { s3.fil with outReg := s3.fil.outReg.mapIdx fun i (w : Reg32) =>
        if i < 4 then BitVec.ofInt 32 (Table.at b.filout i 0) else w },
      stew := { s3.stew with isol := b.isol, rope := s3.stew.rope.mapIdx fun i (r : Rope) =>
        { r with stage := Table.at b.leak i 0,
                 isolated := b.isol.toNat &&& Table.at s3.row.ropeValve i 0 != 0 } } }
  | none =>
    let s2 := (List.range 8).foldl (fun s v => s.driveValve v ((s.prog.valveOpen[v]?).getD 0)) s1
    { s2 with stew := { s2.stew with ramping := true } }

/-- Claim the primary role: EPOCH, ROWBEAT, STEWBEAT, and K1 first (17 R679, R684). -/
def State.claim (s : State) (epoch : Nat) : State :=
  let s1 := s.roleSet .primary (some s.pos) none epoch
  let s2 := { s1 with stew := { s1.stew with driving := true, en1 := true, seq := .takeK1, takeoverAt := some s.now } }
  (s2.stewardApply.updSlot 11 fun x =>
    { x with setpoint := (lwFrac (s.row.flowDev * s.row.rowSize : Nat) 100).1 }).sendBeat

/-- Begin to give up the role: the steward slots are disabled and K0 is released first (17 R679). -/
def State.giveUp (s : State) (planned : Bool) : State :=
  let s1 := [8, 9, 10, 11].foldl State.slotDisable s
  { s1 with stew := { s1.stew with en0 := false, scanSeen := none, seq := .giveK0 planned } }

/-- The role is given up: ROWBEAT and STEWBEAT stop; in a planned handover DONE names the new EPOCH, and STEWARD_RELEASE is answered when
the sequence has ended (17 R690, Table 17-6). -/
def State.roleEnd (s : State) (planned : Bool) : State :=
  let e := (s.stew.epoch + 1) % 65536
  let s1 := if planned then
      match s.stew.standby with
      | some d => s.sendMgmt d 0x13 (4 + e * 2 ^ 8) 0
      | none => s
    else s
  let s2 := { s1 with stew := { s1.stew with en0 := false, en1 := false, driving := false, seq := .none, ramping := false } }
  let s3 := if s2.stew.role = Role.primary then s2.roleSet .none none none s2.stew.epoch else s2
  if planned then s3 else ({ s3 with stew := { s3.stew with offerAt := none } }).answerWaiting .steward .ok

/-- 50 ms after OFFER the planned handover is complete, and STEWARD_RELEASE is answered (17 Table 17-6). -/
def State.handoverDone (s : State) : State :=
  if s.stew.seq = .none ∧ s.stew.offerAt.any fun t => decide (t + 1639 ≤ s.now) then
    ({ s with stew := { s.stew with offerAt := none } }).answerWaiting .steward .ok
  else s

/-- Release both relays and ROWBEAT at once, as SAFE and HELD do (03 R100, 04 R160). -/
def State.stewardDrop (s : State) : State :=
  if s.stew.role = Role.primary ∨ s.stew.en0 ∨ s.stew.en1 ∨ s.stew.driving then s.roleEnd false
  else if s.stew.role = Role.standby then s.roleSet .none s.stew.primary s.stew.standby s.stew.epoch
  else s

/-- K1 has closed: the trackers report nothing until they gain sync, and slot 8 waits for a full scan of DS1 (17 R691,
R701). -/
def State.k1Closed (s : State) : State :=
  { s with stew := { s.stew with
      scanSeen := some 0,
      trk := s.stew.trk.map fun (x : Tracker) => { x with sync := false, tLast := none, lastInterval := none, missedRow := 0 } } }

/-- A conversion of DS1 while slot 8 waits (17 R691). -/
def State.stewScan (s : State) (n k : Nat) : State :=
  match s.stew.scanSeen with
  | some m =>
    if n = 1 then
      let m' := m ||| BitVec.ofNat 8 (2 ^ k)
      let all := (List.range ((Table.at s.aar.ds 1 {}).nscan + 1)).all fun i => m'.getLsbD i
      if all ∧ s.stew.role = Role.primary then
        ({ s with stew := { s.stew with scanSeen := none } }).slotEnable 8
      else { s with stew := { s.stew with scanSeen := some m' } }
    else s
  | none => s

/-! ### Leak ropes (17 R702) -/

/-- Change a rope, with its record and the fabric's input. -/
def State.ropeTo (s : State) (n stage cond : Nat) : State :=
  let r := s.ropeAt n
  if r.stage = stage ∧ r.cond = cond then s
  else
    let s1 := s.updRope n fun r => { r with
      stage := stage, cond := cond, condAt := if r.cond = cond then r.condAt else s.now, stageAt := if r.stage = stage then r.stageAt else s.now }
    let b := BitVec.ofNat 4 (2 ^ n)
    let s2 := { s1 with fil := { s1.fil with leak := if stage = 0 then s1.fil.leak &&& ~~~ b else s1.fil.leak ||| b } }
    s2.log 0x8003 (param [(1, n), (1, stage), (1, cond)]) none (stage != 0 || cond != 0)

/-- Valves to close or to open again for a rope in stage 3 (17 Table 17-9). -/
def State.isolate (s : State) (n : Nat) (close : Bool) : State :=
  let mine := Table.at s.row.ropeValve n 0
  let held := maskOf ((List.range 8).filter fun v =>
    (List.range 4).any fun m => m != n && (s.ropeAt m).isolated && bitOf (Table.at s.row.ropeValve m 0) v)
  let vs := (bitsSet 8 mine).filter fun v => close || !bitOf held v
  let s1 := vs.foldl (fun s v =>
    s.driveValve v (((if close then s.prog.valveClose else s.prog.valveOpen)[v]?).getD 0)) s
  let m := BitVec.ofNat 8 (maskOf vs)
  ({ s1 with stew := { s1.stew with isol := if close then s1.stew.isol ||| m else s1.stew.isol &&& ~~~ m } }).updRope n
    fun r => { r with isolated := close }

/-- Ropes in stage 1 are confirmed while another rope is wet (17 Table 17-9). -/
def State.ropesConfirm (s : State) : State :=
  (List.range 4).foldl (fun s n =>
    if (s.ropeAt n).stage = 1 ∧ (List.range 4).any fun m => m != n && (s.ropeAt m).cond == 1 then
      s.ropeTo n 2 (s.ropeAt n).cond
    else s) s

/-- The comparator of a rope trips or releases on the primary (17 R702). -/
def State.ropeWet (s : State) (n : Nat) (wet : Bool) : State :=
  if s.stew.role = Role.primary ∧ n < 4 ∧ s.fwRuns then
    let r := s.ropeAt n
    if wet then (s.ropeTo n (max 1 r.stage) 1).ropesConfirm else s.ropeTo n r.stage 0
  else s

/-! ### CDU readings and causes (17 Table 17-10) -/

/-- Supply temperature by slot 8's input in use, none while the slot is stopped. -/
def State.cduSupply (s : State) : Option Reg32 :=
  let x := s.slotAt 8
  if x.en ∧ ¬ x.stopped then some (x.inUse 0).value else none
/-- Return temperature: DS1 entry 1, in 0.1 mK. -/
def State.cduReturn (s : State) : Option Int :=
  let d := Table.at s.aar.ds 1 {}
  let w := Table.at d.sample 1 0
  if swOvr w ∨ swExc w ∨ ¬ d.en then none else some (ptTemp (sgn 24 (swValue w) * 10000) (2 ^ 23 * 2 ^ d.gain * 1000))
/-- The flow meters that are not lost, as slot 11 converts them, l/min. -/
def State.cduFlows (s : State) : List Rat :=
  let st := Table.at (s.slotAt 11).ins 0 {}
  if (s.slotAt 11).en then
    (if st.src.lost then [] else [lwRat st.src.value]) ++ (if st.alt.lost then [] else [lwRat st.alt.value])
  else []
/-- Row flow: the mean of the meters not lost, or half the demand when both are lost (17 R704). -/
def State.rowFlow (s : State) : Rat :=
  match s.cduFlows with
  | [] => (s.row.flowDev * s.row.rowSize : Nat) / 200
  | l => l.sum / l.length

/-- Does the condition of a cause hold at this moment? -/
def State.causeNow (s : State) (c : Nat) : Bool :=
  let set := lwRat (s.slotAt 8).setUsed
  match c with
  | 0 => s.cduSupply.elim false fun w => decide (1 / 2 < |lwRat w - set|)
  | 1 => !s.cduFlows.isEmpty && decide (s.rowFlow < (9 * s.row.flowDev * s.row.rowSize : Nat) / 1000)
  | 2 => s.stew.stalled != 0 ||
      (List.range 2).any fun t => !(s.trkAt t).sync && 16000 ≤ (s.aoutAt (1 + t)).code
  | 3 => (List.range 4).any fun n => (s.ropeAt n).cond != 0
  | 4 => [8, 9, 10, 11].any fun n => (s.slotAt n).action != 0
  | 5 => let x := s.slotAt 8
    x.en && lwVal (Table.at x.out 0 0) == lwVal (outMin x.active 0) &&
      s.cduSupply.elim false fun w => decide (set + 1 / 10 < lwRat w)
  | 7 => s.stew.standby.isNone
  | _ => false

/-- How long a condition must hold, in ticks (17 Table 17-10). -/
def causeHold (c : Nat) : Nat :=
  if c = 0 ∨ c = 5 ∨ c = 7 then 327680 else if c = 1 ∨ c = 2 then 32768 else 0

/-- Judge the causes, but for OVERCOMMIT, which the budget judges (17 R706): each is set when its condition has held for its
time, and clears when it has been absent for 10 s (13 R566). A pump that has stalled raises PUMP at once (R694). -/
def State.judgeCauses (s : State) : State :=
  let step (s : State) (c : Nat) : State :=
    if c = 6 then s
    else
      let on := s.causeNow c
      let since := if on then some ((Table.at s.stew.causeSince c none).getD s.now) else none
      let gone := if on then none else some ((Table.at s.stew.causeGone c none).getD s.now)
      let b := BitVec.ofNat 8 (2 ^ c)
      let set := since.elim false fun t => decide (t + causeHold c ≤ s.now)
      let clr := gone.elim false fun t => decide (t + 327680 ≤ s.now)
      { s with stew := { s.stew with
          causeSince := Table.put s.stew.causeSince c since, causeGone := Table.put s.stew.causeGone c gone,
          cause := if set then s.stew.cause ||| b else if clr then s.stew.cause &&& ~~~ b else s.stew.cause } }
  let s1 := (List.range 8).foldl step s
  if s1.stew.cause = s.stew.cause then s1
  else if s1.stew.cause = 0 then s1
  else if s1.thm.warn.getLsbD 10 then s1.log 0x6003 s1.warnParam
  else s1.warnSet 10

/-! ### The budget (17 R704, R705) -/

/-- What the budget makes of one position: a reserve, or a want that is levelled; and whether the position is silent. -/
inductive Share where
  | silent (res : Rat)
  | leak
  | want (w : Rat)
  deriving DecidableEq

/-- A value within 350 to 1,800 W. -/
def clampW (x : Rat) : Rat := max 350 (min 1800 x)

/-- The share of a position (17 R704). -/
def State.shareOf (s : State) (d : Nat) : Share :=
  let leaky := (List.range 4).any fun n => 2 ≤ (s.ropeAt n).stage && bitOf (Table.at s.row.ropePos n 0) d
  let report : Option (Bool × Nat × Nat) :=
    if d = s.pos then some (s.thm.capped, s.thm.pkgMean, s.thm.capW)
    else (s.current d).map fun m => (m.capped, m.pkgW, m.capW)
  if leaky then .leak
  else match report with
    | none => .silent (max ((Table.at s.stew.capSent d none).getD 0) s.row.fallbackW : Nat)
    | some r => .want (clampW (if r.1 then (r.2.2 : Rat) * 11 / 10 else (r.2.1 : Rat) + 50))

/-- Insert into a rising list of fractions. -/
def insertRat (x : Rat) : List Rat → List Rat
  | [] => [x]
  | y :: r => if x ≤ y then x :: y :: r else y :: insertRat x r

/-- The largest level l with sum (min want l) at most `avail`, for rising wants (17 R704). -/
def waterLevel (avail : Rat) : List Rat → Rat
  | [] => 1800
  | w :: r => if w * (r.length + 1) ≤ avail then waterLevel (avail - w) r else avail / (r.length + 1)

/-- q of R704 and R705, W. -/
def State.rowHeat (s : State) : Rat :=
  let set := lwRat (s.slotAt 8).setUsed
  let ts := match s.cduSupply with
    | some w => lwRat w
    | none => set + 1
  let dt := max 0 (set + (s.row.retRise : Rat) / 100 - ts)
  let q := min ((s.row.kC : Rat) / 60 * s.rowFlow * dt) (10 * s.row.hxMax) * (1 - (s.row.margin : Rat) / 1000)
  if s.stew.cause.getLsbD 5 then
    match s.cduReturn with
    | some t => min q (max 0 ((s.row.kC : Rat) / 60 * s.rowFlow * ((t : Rat) / 10000 - ts)))
    | none => q
  else q

/-- The caps of one period by position, 0 for a silent one; their sum; and OVERCOMMIT (17 R704, R705). -/
def State.budget (s : State) : List Nat × Nat × Bool :=
  let q := s.rowHeat
  let shares := (List.range s.row.rowSize).map s.shareOf
  let res := (shares.map fun x => match x with
    | .silent r => r
    | .leak => 350
    | .want _ => 0).sum
  let leaks := (shares.map fun x => match x with
    | .leak => (350 : Rat)
    | _ => 0).sum
  let wants := shares.filterMap fun x => match x with
    | .want w => some w
    | _ => none
  let rep := wants.length
  let first := s.stew.capSent.toList.all (·.isNone)
  let avail := q - res
  let short := decide (avail < 350 * rep)
  let bound := (s.stew.sent : Rat) + q / 20 - leaks
  let room := if first then avail else min avail bound
  let level := waterLevel room (wants.foldl (fun l w => insertRat w l) [])
  let cap (w : Rat) : Nat :=
    if short then 350
    else
      let c := if wants.sum ≤ room then min 1800 (w + (room - wants.sum) / rep) else min w level
      max 350 c.floor.toNat
  let caps := shares.map fun x => match x with
    | .silent _ => 0
    | .leak => 350
    | .want w => cap w
  (caps, caps.sum, short)

end Sys2Proof.Machine
end

