-- ==== Sys2Proof/Machine/StewardEv.lean ====
section
/-! DEFINITION. What the events and messages of the steward do (chapter 17). -/
namespace Sys2Proof.Machine

/-! ### Messages (17 R682-R690) -/

/-- The reserved bytes of a message are 0 (17 R682). -/
def restZero (d : List Byte) (from_ : Nat) : Bool := (d.drop from_).all (· == 0)

/-- This position's claim is outranked by another (17 R685). -/
def State.outranked (s : State) (src epoch : Nat) : Bool :=
  s.stew.epoch < epoch || (epoch == s.stew.epoch && src < s.pos)

/-- The device is giving up the role. -/
def State.givingUp (s : State) : Bool :=
  match s.stew.seq with
  | .giveK0 _ => true
  | .giveK1 _ => true
  | _ => false

/-- Recognise a primary, and take or leave the standby role as it names this device or not (17 R685, R686). -/
def State.recognise (s : State) (src : Nat) (b : Snapshot) : State :=
  let named := b.standby == s.pos && s.selfCand
  let s1 := s.roleSet (if named then .standby else .none) (some src) (if b.standby = 0xFF then none else some b.standby) b.epoch
  { s1 with stew := { s1.stew with snapshot := some b } }

/-- A position field, or 0xFF for none. -/
def posOrNone (n : Nat) : Bool := n < 64 || n == 0xFF
/-- The values of a STEWBEAT are those of Table 17-4 (00 R10). -/
def Snapshot.listed (b : Snapshot) : Bool :=
  (b.role == 1 || b.role == 2) && posOrNone b.standby && b.leak.toList.all (· ≤ 3)

/-- STEWBEAT (17 R682, R685): ROLE = 1 with the highest EPOCH, ties to the lower position, is recognised; one that outranks
this device's own claim makes it give up the role. Reserved fields that are not 0 make it ignored, and values that Table 17-4 does not
list are rejected (00 R10). -/
def State.evStewbeat (s : State) (p : Packet) : State :=
  let b := readBeat p.data s.now
  if p.opnd0 ≠ 0 ∨ p.opnd1 ≠ 0 ∨ ¬ restZero p.data 0x3D then s
  else if p.len ≠ 128 ∨ p.dflits ≠ 2 ∨ ¬ b.listed then s.rejectMgmt p .badArg
  else
    let s1 := { s with stew := { s.stew with maxEpoch := max s.stew.maxEpoch b.epoch } }
    if b.role ≠ 1 then s1
    else if s.stew.role = Role.primary then
      (if s.outranked p.src b.epoch ∧ ¬ s.givingUp then s1.giveUp false else s1)
    else
      let better := match s.stew.primary with
        | none => true
        | some q => s.stew.epoch < b.epoch || (b.epoch == s.stew.epoch && p.src ≤ q)
      if better then s1.recognise p.src b else s1

/-- STEWBEAT_SEND (17 R682, R688): the primary and the named standby, every 50 ms. -/
def State.evStewbeatSend (s : State) : State :=
  if s.stew.role = Role.none then s else s.sendBeat

/-- MEMBER (17 R683): the sender's report is current from now; a first report restarts the wait of R684. -/
def State.evMember (s : State) (p : Packet) : State :=
  let d := p.data
  let fl := fld d 2 1
  if p.opnd0 ≠ 0 ∨ p.opnd1 ≠ 0 ∨ ¬ restZero d 0x10 ∨ 8 ≤ fl then s
  else if p.len ≠ 64 ∨ p.dflits ≠ 1 ∨ fld d 0 1 ≠ p.src ∨ s.row.rowSize ≤ p.src ∨ fld d 1 1 < 2 ∨ 4 < fld d 1 1 ∨ ¬ posOrNone (fld d 3 1) then
    s.rejectMgmt p .badArg
  else
    let m : Member :=
      { state := fld d 1 1, elig := bitOf fl 0, cand := bitOf fl 1, capped := bitOf fl 2, primary := fld d 3 1,
        compat := fld d 4 2, epoch := fld d 6 2, upMs := fld d 8 4, pkgW := fld d 12 2, capW := fld d 14 2, at_ := s.now }
    { s with stew := { s.stew with
        member := Table.put s.stew.member p.src (some m), maxEpoch := max s.stew.maxEpoch m.epoch,
        firstReport := if (s.current p.src).isNone then some s.now else s.stew.firstReport } }

/-- MEMBER_SEND (17 R682): every 100 ms in STANDBY, ANNEAL and SERVING. -/
def State.evMemberSend (s : State) : State :=
  if s.inService ∧ s.fwRuns then
    let flags := b2n s.stewElig + 2 * b2n s.selfCand + 4 * b2n s.thm.capped
    let up := s.stew.firstUp.elim 0 fun t => min (2 ^ 32 - 1) (msOfTicks (s.now - t))
    let l := leBytes 1 s.pos ++ leBytes 1 s.dev.state.code ++ leBytes 1 flags ++ leBytes 1 (orFF s.stew.primary) ++
      leBytes 2 s.boot.compat ++ leBytes 2 s.stew.epoch ++ leBytes 4 up ++ leBytes 2 s.thm.pkgMean ++ leBytes 2 s.thm.capW
    s.others.foldl (fun s d => s.sendMgmt d 0x12 0 0 (l ++ List.replicate (64 - l.length) 0)) s
  else s

/-- The epoch that a HANDOVER message carries. -/
def handEpoch (p : Packet) : Nat := p.opnd0 / 2 ^ 8 % 2 ^ 16
/-- A HANDOVER message's reserved fields are 0 (17 R682). -/
def handGood (p : Packet) : Bool := p.opnd0 / 2 ^ 24 == 0 && p.opnd1 == 0 && p.dflits == 0

/-- OFFER (17 R690): the standby answers READY, or REFUSE when it is not a candidate or holds a relay. -/
def State.evOffer (s : State) (p : Packet) : State :=
  if handGood p ∧ s.stew.primary = some p.src then
    let ok := s.selfCand && s.stew.role == .standby && !s.stew.en0 && !s.stew.en1
    let s1 := if ok then { s with stew := { s.stew with seq := .ready } } else s
    s1.sendMgmt p.src 0x13 ((if ok then 2 else 3) + handEpoch p * 2 ^ 8) 0
  else s

/-- READY (17 R690): the old primary releases K0, then K1. -/
def State.evReady (s : State) (p : Packet) : State :=
  if handGood p ∧ s.stew.seq = .offered ∧ s.stew.standby = some p.src then s.giveUp true else s

/-- REFUSE, or no READY within 5 ms (17 R690): the role is given up all the same, and the CDU stays at its fallback. -/
def State.evRefuse (s : State) (p : Packet) : State :=
  if handGood p ∧ s.stew.seq = .offered ∧ s.stew.standby = some p.src then s.giveUp false else s
/-- READY_TIMEOUT. -/
def State.evReadyTimeout (s : State) : State := if s.stew.seq = .offered then s.giveUp false else s

/-- DONE (17 R690): the new primary drives ROWBEAT, STEWBEAT and the relays, under the new EPOCH. -/
def State.evDone (s : State) (p : Packet) : State :=
  if handGood p ∧ s.stew.seq = .ready ∧ s.stew.primary = some p.src then s.claim (handEpoch p) else s

/-! ### Roles -/

/-- STEWARD_ELECTION (17 R684, R708): with no primary, 2 s after the latest first report and after the last STEWBEAT of one, the lowest
candidate claims the role. -/
def State.evElection (s : State) : State :=
  if s.fwRuns ∧ s.stew.primary = none ∧ s.selfCand ∧ s.lowestCand 64 = some s.pos ∧
      (s.stew.firstReport.any fun t => decide (t + 65536 ≤ s.now)) ∧ s.stew.snapshot.all fun b => decide (b.at_ + 65536 ≤ s.now) then
    s.claim ((s.stew.maxEpoch + 1) % 65536)
  else s

/-- The primary is lost: 150 ms without a pulse and without a STEWBEAT, and the pulses did not stop while STEWBEATs still came
(17 R689, R709). -/
def State.primaryGone (s : State) : Bool :=
  s.stew.lastPulse.any fun t => decide (t + 4915 ≤ s.now) && s.stew.snapshot.all fun b => decide (b.at_ + 4915 ≤ s.now) && decide (b.at_ ≤ t + 4915)

/-- PRIMARY_LOST (17 R689): the standby claims the role without the wait. -/
def State.evPrimaryLost (s : State) : State :=
  if s.fwRuns ∧ s.stew.role = Role.standby ∧ s.primaryGone then
    let s1 := if s.stew.beat then ({ s with stew := { s.stew with beat := false } }).log 0x8002 [] else s
    if s1.selfCand then s1.claim ((s1.stew.maxEpoch + 1) % 65536) else s1
  else s

/-- RECOGNITION_DROP (17 R685): 1 s after the last STEWBEAT of the primary. -/
def State.evRecognitionDrop (s : State) : State :=
  if s.stew.role = Role.primary ∨ s.stew.primary = none ∨ s.stew.snapshot.any fun b => decide (s.now < b.at_ + 32768) then s
  else s.roleSet .none none none s.stew.epoch

/-- STANDBY_NAMING (17 R686): the lowest candidate other than the primary. -/
def State.evStandbyNaming (s : State) : State :=
  if s.fwRuns ∧ s.stew.role = Role.primary then
    s.roleSet .primary s.stew.primary (s.lowestCand s.pos) s.stew.epoch
  else s

/-- NO_UP_STRAND (17 R687): a primary without an UP strand for 150 ms gives up the role. -/
def State.evNoUpStrand (s : State) : State :=
  if s.stew.role = Role.primary ∧ ((List.range 64).all fun k => (s.strandAt k).state != .up) ∧ ¬ s.givingUp then
    s.giveUp false
  else s

/-- RELAY_STEP (17 R679, Tables 17-5 and 17-6): 10 ms after a change of one relay, the next step of the order. -/
def State.evRelayStep (s : State) : State :=
  match s.stew.seq with
  | .takeK1 =>
    let s1 := s.k1Closed
    { s1 with stew := { s1.stew with en0 := true, seq := .takeK0 } }
  | .takeK0 =>
    let s1 := [9, 10, 11].foldl State.slotEnable s
    { s1 with stew := { s1.stew with seq := .none } }
  | .giveK0 pl => { s with stew := { s.stew with en1 := false, seq := .giveK1 pl } }
  | .giveK1 pl => s.roleEnd pl
  | _ => s

/-- STEW_EN_HW_RELEASE (17 R679): 100 ms after the last pulse that the device drove, hardware releases both lands. -/
def State.evStewHw (s : State) : State := { s with stew := { s.stew with en0 := false, en1 := false } }

/-- ROWBEAT_PULSE (17 R688): the primary's Deckle pulls the line low for 1 ms. -/
def State.evRowbeat (s : State) : State := if s.stew.driving then s.emit (.pulse "ROWBEAT" 1000) else s

/-- ROWBEAT_SEEN (17 R688, R709): a low of 0.5 to 2.0 ms is a pulse; the standby records the return of BEAT. -/
def State.evRowbeatSeen (s : State) (lowUs : Nat) : State :=
  if 500 ≤ lowUs ∧ lowUs ≤ 2000 then
    let s1 := { s with stew := { s.stew with beat := true, lastPulse := some s.now } }
    if ¬ s.stew.beat ∧ s.stew.role = Role.standby then s1.log 0x8002 [] none false else s1
  else s

/-- BEAT falls when no pulse has been seen for 150 ms; the standby writes one record (17 Table 17-11, R709). -/
def State.beatFollow (s : State) : State :=
  if s.stew.beat ∧ s.stew.lastPulse.elim true fun t => decide (t + 4915 < s.now) then
    let s1 := { s with stew := { s.stew with beat := false } }
    if s.stew.role = Role.standby then s1.log 0x8002 [] else s1
  else s

/-! ### The CDU -/

/-- ROW_BUDGET (17 R704-R706): one cap per position, sent under R553, the own entry applied at once; the causes judged. -/
def State.evBudget (s : State) : State :=
  if s.fwRuns ∧ s.stew.role = Role.primary then
    let b := s.budget
    let q := s.rowHeat
    let bit := BitVec.ofNat 8 (2 ^ 6)
    let seq := s.stew.capSeq
    let s1 := { s with stew := { s.stew with
      avail := q.floor.toNat, sent := b.2.1, capSeq := (seq + 1) % 2 ^ 32,
      capSent := s.stew.capSent.mapIdx fun d (o : Option Nat) =>
        let c := (b.1[d]?).getD 0
        if c = 0 then o else some c,
      cause := if b.2.2 then s.stew.cause ||| bit else s.stew.cause &&& ~~~ bit } }
    let l := b.1.flatMap fun c => leBytes 2 c
    let data := l ++ List.replicate (128 - l.length) 0
    let s2 := s1.others.foldl (fun s d => s.sendMgmt d 0x10 (seq + s.stew.epoch * 2 ^ 32) 0 data) s1
    let s3 := s2.takeCap s.pos ((b.1[s.pos]?).getD 0) s.stew.epoch seq
    let s4 := if b.2.2 ∧ ¬ s.stew.cause.getLsbD 6 then s3.warnSet 10 else s3
    s4.judgeCauses
  else s

/-- SETPOINT_RAMP_STEP (17 R695): one step towards the image's default, at most STEP_MAX and, at 100 ms spacing, at most the
image's slew. -/
def State.evRampStep (s : State) : State :=
  if s.fwRuns ∧ s.stew.role = Role.primary ∧ s.stew.ramping then
    let now : Rat := lwRat (s.slotAt 8).setpoint
    let goal : Rat := (s.row.supplyDef : Rat) / 100
    let step : Rat := min ((s.stepMax : Rat) / 1000) ((s.row.supplySlew : Rat) / 60000)
    let next := if goal < now - step then now - step else if now + step < goal then now + step else goal
    let r := s.writeSetpoint 8 (ratLw next)
    { r.2 with stew := { r.2.stew with ramping := next != goal } }
  else s

/-- Arm a swap of slot 11 (15 R630 MODE 1). -/
def State.swapFlow (s : State) : State := s.updSlot 11 fun x => { x with swapPend := true }

/-- PUMP_STALL (17 R694): slot 11 takes the one-pump bank, the stalled pump's loop its DISABLE values; cause PUMP. -/
def State.evPumpStall (s : State) (p : Nat) : State :=
  if s.fwRuns ∧ s.stew.role = Role.primary ∧ ¬ s.stew.stalled.getLsbD p then
    let s1 := if s.stew.stalled = 0 then s.swapFlow else s
    let s2 := { s1 with stew := { s1.stew with
      stalled := s1.stew.stalled ||| BitVec.ofNat 2 (2 ^ p), cause := s1.stew.cause ||| 4#8 } }
    ((s2.slotDisable (9 + p)).log 0x8004 (param [(1, p)])).warnSet 10
  else s

/-- PUMP_RESTORE (17 R694): slot 11 swaps back, and the loops of both pumps run. -/
def State.evPumpRestore (s : State) : State :=
  if s.fwRuns ∧ s.stew.role = Role.primary ∧ s.stew.stalled ≠ 0 then
    let p := if s.stew.stalled.getLsbD 0 then 0 else 1
    let s1 := { s with stew := { s.stew with stalled := 0 } }
    ((s1.swapFlow.slotEnable 9).slotEnable 10).log 0x8004 (param [(1, p)]) none false
  else s

/-! ### The tooth trackers (17 R697-R701) -/

/-- A speed sample of an interval in ns (17 R699). -/
def State.speedSample (s : State) (t interval : Nat) : State :=
  s.updTrk t fun x =>
    let v := (rneDiv (6000000000000 : Int) (max 1 (x.tpr * interval))).toNat
    let ovr := decide (0x7FFFFF < v)
    let w := min v 0x7FFFFF
    { x with sample := sampleWord w ovr false false false (swSeq x.sample + 1), speed := w }

/-- An event fires at its target: a scan trigger of a SAR converter, or an internal event input of the fabric (17 R698, 14 R592). -/
def State.fireEvent (s : State) (e : TrkEvent) (flag : String) : State :=
  if e.target < 2 then
    let arm (d : SarConv) : SarConv := if d.trigger.isSome ∧ ¬ d.armed then { d with armed := true, next := 0 } else d
    ({ s with aar := { s.aar with sar := Table.upd s.aar.sar e.target arm } }).emit (.pulse ("SAR trigger" ++ flag) e.target)
  else s.emit (.pulse ("TRK_EV" ++ flag) (e.target - 2))

/-- Event `e` of a tracker fires, and its firing is marked and counted. -/
def State.fireTrk (s : State) (t e time : Nat) (ext : Bool) : State :=
  match (s.trkAt t).events[e]? with
  | some ev =>
    (s.updTrk t fun x =>
      { x with events := x.events.set e { ev with fired := true, at_ := some time },
               extrap := if ext then satInc 8 x.extrap else x.extrap }).fireEvent ev (if ext then " EXTRAPOLATED" else "")
  | none => s

/-- A tooth of a tracker in sync arrives: events up to its angle that have not fired in this revolution fire with it (17 R698). -/
def State.catchUp (s : State) (t time : Nat) (ext : Bool) : State :=
  let x := s.trkAt t
  if x.sync then
    (List.range x.events.length).foldl (fun s e => match x.events[e]? with
      | some ev => if ¬ ev.fired ∧ ev.angle * x.tpr ≤ (x.tooth + 1) * 65536 then s.fireTrk t e time ext else s
      | none => s) s
  else s

/-- A tooth counts on; at tooth 0 a revolution begins and its events may fire again. -/
def Tracker.count (x : Tracker) (at_ : Nat) : Tracker :=
  let n := (x.tooth + 1) % max 1 x.tpr
  { x with tooth := n, tLast := some at_,
           events := if n = 0 then x.events.map fun (e : TrkEvent) => { e with fired := false } else x.events }

/-- TOOTH_EDGE (17 R697, R699, R701). -/
def State.evTooth (s : State) (t time : Nat) : State :=
  let x := s.trkAt t
  match x.tLast with
  | none => s.updTrk t fun x => x.count time
  | some l =>
    let i := time - l
    if x.sync then
      (if 10 * i < 6 * x.p then s.updTrk t fun x => { x with noise := satInc 8 x.noise }
       else
        let s1 := (s.catchUp t time false).updTrk t fun x => { x.count time with p := if x.missedRow = 0 then i else x.p, missedRow := 0 }
        s1.speedSample t i)
    else
      match x.lastInterval with
      | some i1 =>
        if 6 * i1 ≤ 10 * i ∧ 10 * i ≤ 16 * i1 then
          let s1 := s.updTrk t fun x =>
            { x.count time with p := i, sync := true, timebase := false, missedRow := 0, lastInterval := none }
          ({ s1 with fil := { s1.fil with trkTb := s1.fil.trkTb &&& ~~~ BitVec.ofNat 2 (2 ^ t) } }.speedSample t i).log 0x8005
            (param [(1, t)]) none false true
        else s.updTrk t fun x => { x.count time with lastInterval := some i }
      | none => s.updTrk t fun x => { x.count time with lastInterval := some i }

/-- TOOTH_MISSED (17 R697, R700): a tooth is synthesised at t_last + P; the second in a row drops sync. -/
def State.evToothMissed (s : State) (t : Nat) : State :=
  let x := s.trkAt t
  if x.sync then
    let s1 := (s.catchUp t (x.tLast.getD 0 + x.p) true).updTrk t fun x => { x.count (x.tLast.getD 0 + x.p) with
      missed := satInc 8 x.missed, missedRow := x.missedRow + 1 }
    if x.missedRow = 0 then s1
    else
      let s2 := s1.updTrk t fun x =>
        { x with
          sync := false, timebase := true, lastInterval := none, tLast := none,
          sample := sampleWord 0 true false false false (swSeq x.sample + 1) }
      ({ s2 with fil := { s2.fil with trkTb := s2.fil.trkTb ||| BitVec.ofNat 2 (2 ^ t) } }).log 0x8005 (param [(1, t)])
  else s

/-- The angle of an event has been reached at a time: the last tooth's angle and the part of P that has gone by since (17 R698). -/
def Tracker.reached (x : Tracker) (ev : TrkEvent) (time : Nat) : Bool :=
  x.tLast.any fun l => decide (l ≤ time) && decide (ev.angle * x.tpr * x.p ≤ (x.tooth * x.p + (time - l)) * 65536)

/-- TRACKER_EVENT (17 R698): once per revolution at its angle, carrying EXTRAPOLATED after t_last + P or after a synthesised
tooth. -/
def State.evTracker (s : State) (t e time : Nat) : State :=
  let x := s.trkAt t
  match x.events[e]? with
  | some ev =>
    if x.sync ∧ ¬ ev.fired ∧ x.reached ev time then
      s.fireTrk t e time (x.missedRow != 0 || decide (x.tLast.getD 0 + x.p < time))
    else s
  | none => s

/-- TIMEBASE_EVENT (17 R700): out of sync, each event fires TB_PERIOD after its last firing, one revolution at the last P where that
is 0, flagged TIMEBASE. -/
def State.evTimebase (s : State) (t e time : Nat) : State :=
  let x := s.trkAt t
  match x.events[e]? with
  | some ev =>
    let period := if ev.tbPeriod = 0 then x.tpr * x.p else ev.tbPeriod * 1000
    if ¬ x.sync ∧ x.timebase ∧ ev.at_.all fun l => decide (l + period ≤ time) then
      (s.updTrk t fun x => { x with events := x.events.set e { ev with at_ := some time } }).fireEvent ev " TIMEBASE"
    else s
  | none => s

/-! ### Leak ropes -/

/-- LEAK_STAGE_TIMER (17 Table 17-9): a rope dry for 60 s, in stage 3 for 600 s, leaves its stage; one that is wet for 30 s is confirmed,
and one confirmed for 60 s with ISOLATE isolates. -/
def State.evLeakTimer (s : State) (n : Nat) : State :=
  let r := s.ropeAt n
  if s.fwRuns ∧ s.stew.role = Role.primary ∧ r.stage ≠ 0 then
    let held (since seconds : Nat) : Bool := since + seconds * 32768 ≤ s.now
    if r.cond = 0 ∧ held r.condAt (if r.stage = 3 then 600 else 60) then
      let s1 := if r.isolated then s.isolate n false else s
      s1.ropeTo n 0 0
    else if r.stage = 1 ∧ r.cond = 1 ∧ held r.condAt 30 then s.ropeTo n 2 1
    else if r.stage = 2 ∧ held r.stageAt 60 ∧ Table.at s.row.ropeIsolate n false then (s.ropeTo n 3 r.cond).isolate n true
    else s
  else s

/-- ROPE_OPEN (17 R702): above 90 % of the open-circuit level for 1 s; recorded, without escalation; no longer above it, the rope is dry.
A rope whose comparator is tripped is wet. -/
def State.evRopeOpen (s : State) (n : Nat) (above : Bool) : State :=
  let r := s.ropeAt n
  if s.fwRuns ∧ s.stew.role = Role.primary ∧ r.cond ≠ 1 then s.ropeTo n r.stage (if above then 2 else 0) else s

end Sys2Proof.Machine
end

