-- ==== Sys2Proof/Machine/FilFx.lean ====
section
/-! DEFINITION. The Filigree fabric (chapter 18): set and sector images, releases, parking and pins, as operations that
the meanings of Machine/Filigree.lean and of other families share. The encoding of sector payloads is not published
(R744): what a payload says is a free value of the payload (log entry 9). -/
namespace Sys2Proof.Machine

/-! ### What a sector payload says (18 R744) -/

/-- A payload's answer to a question about it: free, the same for the same payload (log entry 9). -/
def payloadSays (kind n : Nat) (payload : List Byte) : Bool :=
  Config.freeOf kind (n :: payload.map (·.toNat)) % 2 == 1
/-- The image drives pin `n`. -/
def SecImage.drivesPin (i : SecImage) (n : Nat) : Bool := payloadSays 13 n i.payload
/-- The image uses serial port `p`. -/
def SecImage.usesPort (i : SecImage) (p : Nat) : Bool := payloadSays 14 p i.payload
/-- The image uses flash region `k`. -/
def SecImage.usesRegion (i : SecImage) (k : Nat) : Bool := payloadSays 15 k i.payload
/-- The image writes IN_REGr. -/
def SecImage.writesReg (i : SecImage) (r : Nat) : Bool := payloadSays 16 r i.payload
/-- The image passes the checks on what its payload assigns: port lines inside its sector, no flip-flop on an unused clock
line. -/
def SecImage.payloadGood (i : SecImage) : Bool := payloadSays 17 0 i.payload
/-- Initial values of the flip-flops of a kind: 0 CARRY, 1 HISTORY, 2 other. -/
def SecImage.initial (i : SecImage) (kind : Nat) : Nat := Config.freeOf 18 (kind :: i.payload.map (·.toNat))
/-- The boundary outputs by which the level (0) and the enable (1) of a pin leave the sector: free, the same for the same payload. -/
def SecImage.pinBit (i : SecImage) (n role : Nat) : Nat := Config.freeOf 19 (n :: role :: i.payload.map (·.toNat)) % 64

/-! ### Set header and sector entries (18 Table 18-9) -/

/-- A sector entry at an offset of a body, with its payload; none where the payload lies outside the body. -/
def secEntryAt (body : List Byte) (off : Nat) : Option SecImage :=
  let o := fld body (off + 0x0C) 4
  let n := fld body (off + 0x10) 4
  if o + n ≤ body.length then
    some { sector := fld body off 1, carry := bitOf (fld body (off + 1) 1) 0, capCount := fld body (off + 2) 1,
           globalId := fld body (off + 4) 4, carryId := fld body (off + 8) 4, crc := fld body (off + 0x14) 4,
           payload := bytesAt body o n }
  else none

/-- Reserved fields and ranges of a sector entry, and its CRC (18 R745). -/
def secEntryGood (body : List Byte) (off : Nat) : Bool :=
  match secEntryAt body off with
  | some i => fld body (off + 1) 1 < 2 && i.capCount ≤ 16 && zeroAt body (off + 3) 1 && zeroAt body (off + 0x18) 8 &&
      crc32 i.payload == i.crc && i.payloadGood
  | none => false

/-- A Filigree set as its body spells it. -/
structure FilSet where
  sectors : List Nat
  globalId : Nat
  pins : List Nat
  ports : List Nat
  regions : List Nat
  clks : List Nat
  regRead : Nat
  regWrite : Nat
  images : List (Option SecImage)
  deriving DecidableEq, Repr

/-- Read a set from its body. -/
def parseFilSet (b : List Byte) : FilSet :=
  { sectors := bitsSet 16 (fld b 4 2), globalId := fld b 8 4,
    pins := (List.range 48).map fun n => fld b (0x10 + 4 * n) 4,
    ports := (List.range 8).map fun n => fld b (0xD0 + 2 * n) 2,
    regions := (List.range 8).map fun n => fld b (0xE0 + n) 1,
    clks := (List.range 8).map fun n => fld b (0xE8 + 4 * n) 4,
    regRead := fld b 0x108 4, regWrite := fld b 0x10C 4,
    images := (List.range 16).map fun n => secEntryAt b (0x110 + 32 * n) }

/-- A source of a global clock line that the encoding lists (18 Table 18-9, CLK[g]). -/
def clkGood (w : Nat) : Bool :=
  let kind := bitsOf w 31 28
  let src := bitsOf w 27 24
  let div := bitsOf w 15 0
  bitsOf w 23 16 == 0 &&
  (if kind = 0 then src == 0 && div == 0
   else if kind = 1 then src < 4 && div == 0
   else if kind = 2 then src < 8 && div == 0
   else if kind = 3 then (src == 1 || src == 2) && 0 < div
   else false)

/-- The image a set carries for a sector. -/
def FilSet.image (f : FilSet) (n : Nat) : Option SecImage := (f.images[n]?).getD none

/-- Owner code of a user pin (04 R151). -/
def State.pinOwner (s : State) (n : Nat) : Nat := bitsOf (Table.at s.hmk.filpin (n / 16) 0).toNat (2 * (n % 16) + 1) (2 * (n % 16))

/-- An image drives only pins of the user's own (04 R151, R155). -/
def State.imageInEnvelope (s : State) (i : SecImage) : Bool :=
  (List.range 48).all fun n => !i.drivesPin n || s.pinOwner n == 2

/-- The checks of a set's body (18 R745, 04 R151); GLOBAL_LEN is a multiple of 64. -/
def State.filSetGood (s : State) (b : List Byte) : Bool :=
  let f := parseFilSet b
  let own (n : Nat) : Bool := f.sectors.contains n
  fld b 0 4 == 0x1664F16E && zeroAt b 6 2 && fld b 0x0C 4 % 64 == 0 &&
  f.pins.zipIdx.all (fun p => bitsOf p.1 7 4 == p.2 / 3 && bitsOf p.1 3 2 != 3 && bitsOf p.1 31 8 == 0 && bitsOf p.1 1 0 == 0) &&
  f.ports.all (fun p => bitsOf p 15 12 < 9 && bitsOf p 7 0 == 0 &&
    (if bitsOf p 15 12 = 0 then bitsOf p 11 8 == 0 else own (bitsOf p 11 8))) &&
  f.regions.all (fun r => r == 0xFF || own r) && f.clks.all clkGood &&
  f.sectors.all (fun n => secEntryGood b (0x110 + 32 * n) && match f.image n with
    | some i => i.sector == n && i.globalId == f.globalId && s.imageInEnvelope i &&
        (List.range 48).all (fun p => !i.drivesPin p || p / 3 == n)
    | none => false) &&
  (List.range 16).all (fun n => own n || zeroAt b (0x110 + 32 * n) 32) &&
  (List.range 32).all (fun r => (f.sectors.filter fun n => match f.image n with
    | some i => bitOf f.regWrite r && i.writesReg r
    | none => false).length ≤ 1)

/-! ### States of a sector -/

/-- A sector enters a state, with its record (18 R735). -/
def State.sectorTo (s : State) (n : Nat) (st : SecState) : State :=
  let frm := (s.sectorAt n).state
  if frm = st then s
  else (s.updSector n fun x => { x with state := st }).log 0x9001 (param [(1, n), (1, frm.code), (1, st.code)])

/-- The serial ports of a sector keep their line settings and lose their FIFOs (18 R733, R738). -/
def State.portsEmpty (s : State) (n : Nat) : State :=
  { s with fil := { s.fil with port := s.fil.port.map fun p : SPort =>
      if p.mode ≠ 0 ∧ p.sector = n then { p with rx := [], txf := [], frame := [], frameGap := false, de := false } else p } }

/-- Start the staged release of a sector (18 R731): its stages follow 4 us apart. -/
def State.releaseStart (s : State) (n : Nat) : State :=
  s.updSector n fun x => { x with release := 0, releasing := true }

/-- The fabric may run: not in HELD, DORMANT or SAFE (18 R733, R734). -/
def State.filRuns (s : State) : Bool := s.inService

/-- Every sector parks on entry into DORMANT or SAFE: write paths close, pins park, clocks stop, values are kept (18 R733). -/
def State.filPark (s : State) : State :=
  { s with fil := { s.fil with sector := s.fil.sector.map fun x : Sector =>
      if x.state = .running ∨ x.releasing then { x with parked := true, releasing := false, release := 0 } else x } }

/-- Every parked sector resumes by a release, its serial FIFOs emptied (18 R733). -/
def State.filResume (s : State) : State :=
  (List.range 16).foldl (fun s n =>
    if (s.sectorAt n).parked then
      ((s.updSector n fun x => { x with parked := false }).releaseStart n).portsEmpty n
    else s) s

/-- In HELD the fabric holds no image (18 R734). -/
def State.filHeld (s : State) : State :=
  { s with fil := { s.fil with
      sector := s.fil.sector.map fun x : Sector =>
        { x with state := .empty, parked := false, image := none, shadow := none, release := 0, releasing := false },
      busy := none, release := 0 } }

/-- Load a Filigree set at boot complete: the sectors it carries are released together, the others are EMPTY
(18 R732, R731). -/
def State.filLoad (s : State) (b : List Byte) : State :=
  let f := parseFilSet b
  let word (l : List Nat) (i : Nat) : Nat := (l[i]?).getD 0
  { s with fil := { s.fil with
      sector := Vector.ofFn fun i : Fin 16 => match (if f.sectors.contains i.val then f.image i.val else none) with
        | some im => { image := some im, shadow := some im, carryFf := im.initial 0, historyFf := im.initial 1,
                       otherFf := im.initial 2, releasing := true }
        | none => {},
      busy := none, release := 0,
      port := Vector.ofFn fun i : Fin 8 =>
        { mode := bitsOf (word f.ports i) 15 12, sector := bitsOf (word f.ports i) 11 8 },
      park := Vector.ofFn fun i : Fin 48 => bitsOf (word f.pins i) 3 2,
      region := Vector.ofFn fun i : Fin 8 => if word f.regions i = 0xFF then none else some (word f.regions i),
      globalId := f.globalId, regRead := BitVec.ofNat 32 f.regRead, regWrite := BitVec.ofNat 32 f.regWrite,
      clk := Vector.ofFn fun i : Fin 8 => BitVec.ofNat 32 (word f.clks i) } }

/-! ### Cells and routing (18 R717, R718) -/

/-- The cluster of a cell, and the sector of a cluster. -/
def cellCluster (c : Nat) : Nat := c / 16
def clusterSector (k : Nat) : Nat := k / 16
/-- The cell to which a cell's carry stage chains: never across a sector boundary (18 R717). -/
def carryNext (c : Nat) : Option Nat := if c % 256 = 255 then none else some (c + 1)
/-- The level of routing by which a signal of one cell reaches another: within a cluster, within a sector, or between sectors, where it passes
one boundary output and one boundary input (18 R718). -/
def routeLevel (a b : Nat) : RouteLevel :=
  if cellCluster a = cellCluster b then .local else if clusterSector (cellCluster a) = clusterSector (cellCluster b) then .cluster else .global

/-- The source of boundary input `i` of sector `n`: the unpublished global part ties it, so it is free, the same for the same set
(18 R718, R744; log entry 9). -/
def State.boundarySrc (s : State) (n i : Nat) : BoundarySrc :=
  let v := Config.freeOf 58 [s.fil.globalId, n, i]
  if v % 4 = 0 then .open
  else if v % 4 = 1 then .output (v / 4 % 16) (v / 64 % 64)
  else if v % 4 = 2 then .pin (v / 4 % 48)
  else .edge (v / 4 % 1084)

/-- Boundary output `i` of sector `n`: of a released sector the level that its logic gives, which is free at each moment; its park value
while it is parked, disabled or in FAULT; 0 of a sector without an image (18 R718, R731, R733, R741; log entry 9). -/
def State.boundaryOut (s : State) (n i : Nat) : Bool :=
  let x := s.sectorAt n
  match x.image with
  | none => false
  | some im =>
    if x.release = 0 then Config.freeOf 59 [s.fil.globalId, n, i] % 2 == 1
    else Config.freeOf 57 (i :: s.now :: s.freeCtr :: x.carryFf :: x.historyFf :: x.otherFf :: im.payload.map (·.toNat)) % 2 == 1

/-- CELL_CMPn: the output of a cell in COMP mode, which its analog input decides (free), else 0 (18 Table 18-6). -/
def State.cellCmp (s : State) (n : Nat) : Bool :=
  (Table.at s.aar.cell n {}).mode == .comp && s.vanOn && Config.freeOf 61 [n, s.now, s.freeCtr] % 2 == 1

/-- The levels at the fabric's edge (18 Table 18-6), numbered: 0 ROLE_PRIMARY, 1 ROLE_STANDBY, 2-5 LEAK, 6-7 TRK_TB, 8-31 CELL_CMP, 32-34
DEV_STATE, 35 WARN, then the bits of OUT_REG0-31, then FRAME_END, CRC_OK and DE of the serial ports. -/
def State.edgeLevel (s : State) (k : Nat) : Bool :=
  if k = 0 then s.fil.rolePrimary
  else if k = 1 then s.fil.roleStandby
  else if k < 6 then s.fil.leak.getLsbD (k - 2)
  else if k < 8 then s.fil.trkTb.getLsbD (k - 6)
  else if k < 32 then s.cellCmp (k - 8)
  else if k < 35 then bitOf s.dev.state.code (k - 32)
  else if k = 35 then s.thm.warn != 0
  else if k < 1060 then s.fil.regRead.getLsbD ((k - 36) / 32) && (Table.at s.fil.outReg ((k - 36) / 32) 0).getLsbD ((k - 36) % 32)
  else
    let p := Table.at s.fil.port ((k - 1060) / 3) {}
    if k % 3 = 1060 % 3 then p.frameEnd else if k % 3 = 1061 % 3 then p.crcOk else p.de

/-! ### Pins (18 R725-R727) -/

/-- A level of a pin: low, high, or high-impedance. -/
abbrev PinLevel := Nat

/-- Whether a firmware function is active, none for code 0 (18 Table 18-4). -/
def State.pinFunction (s : State) (code : Nat) : Option Bool :=
  if code = 1 then some s.inService
  else if code = 2 then some (s.thm.warn != 0)
  else if code = 3 then some s.fil.rolePrimary
  else if code = 4 then some (s.fil.leak != 0)
  else if code = 5 then some (!s.update.restarting && s.now % 32768 < 3277)
  else none

/-- What a firmware-owned pin of PINFN byte `w` carries: active high unless INVERT; an open-drain pin is released where it would be
high; code 0 is high-impedance (18 R726, 04 Table 04-19). -/
def pinFnLevel (w : Nat) (active : Option Bool) : PinLevel :=
  match active with
  | none => 2
  | some a => if a != bitOf w 4 then (if bitOf w 7 then 2 else 1) else 0

/-- The level of user pin `n`; the first row of Table 18-5 that applies decides (18 R727). -/
def State.pinAt (s : State) (n : Nat) : PinLevel :=
  let own := s.pinOwner n
  let x := s.sectorAt (n / 3)
  let fn := Table.at s.row.pinFn n 0
  let parkLevel := if own = 1 then pinFnLevel fn ((s.pinFunction (fn % 16)).map fun _ => false) else Table.at s.fil.park n 2
  if own = 0 ∨ own = 3 ∨ !s.supply.vdeck ∨ s.supply.porst ∨ !s.boot.complete ∨ s.dev.state = .held ∨ s.dev.state = .off then 2
  else if s.dev.state = .dormant ∨ s.dev.state = .safe then parkLevel
  else if own = 1 then pinFnLevel fn (s.pinFunction (fn % 16))
  else if x.state = .disabled ∨ x.state = .fault ∨ x.state = .empty ∨ x.release = 0 then parkLevel
  else match x.image with
    | some i => if i.drivesPin n ∧ s.boundaryOut (n / 3) (i.pinBit n 1) then b2n (s.boundaryOut (n / 3) (i.pinBit n 0)) else 2
    | none => 2

/-- Boundary input `i` of sector `n` (18 R718): an open input reads 0, a pin the level on its land, which is free where the device does not
drive it. -/
def State.boundaryIn (s : State) (n i : Nat) : Bool :=
  match s.boundarySrc n i with
  | .open => false
  | .output m j => s.boundaryOut m j
  | .pin p => let v := s.pinAt p; if v = 2 then Config.freeOf 60 [p, s.now, s.freeCtr] % 2 == 1 else v == 1
  | .edge k => s.edgeLevel k

/-- FIL_PIN_LO and FIL_PIN_HI: pins driven at present (18 Table 18-10). -/
def State.pinsDriven (s : State) : Nat := maskOf ((List.range 48).filter fun n => s.pinAt n != 2)

/-! ### Requests for a sector (18 R736-R748) -/

/-- What the running set refuses of a sector image: another global part, pins, ports or regions of other sectors, another
placement of CARRY flip-flops (18 R736 item 4, R738). -/
def State.secImageFits (s : State) (n : Nat) (i : SecImage) : Bool :=
  let x := s.sectorAt n
  i.globalId == s.fil.globalId &&
  (List.range 48).all (fun p => !i.drivesPin p || p / 3 == n) &&
  s.fil.port.toList.zipIdx.all (fun p => !i.usesPort p.2 || p.1.mode == 0 || p.1.sector == n) &&
  s.fil.region.toList.zipIdx.all (fun r => !i.usesRegion r.2 || r.1 == none || r.1 == some n) &&
  (x.state == .empty || x.state == .fault || match x.image with
    | some o => o.carryId == i.carryId
    | none => true)

/-- The next request for a sector takes the window: in acceptance order (18 R747). -/
def State.filNext (s : State) : State :=
  let w := s.damem.inflight.filterMap fun f => match f.wait with
    | .swap n => some n
    | _ => none
  { s with fil := { s.fil with busy := w.head? } }

/-- DISABLE: write paths close, pins park, clocks stop; values are kept (18 R741). -/
def State.secDisable (s : State) (n : Nat) : State :=
  (s.updSector n fun x => { x with release := 0, releasing := false }).sectorTo n .disabled

end Sys2Proof.Machine
end

