-- ==== Sys2Proof/Machine/FilEv.lean ====
section
/-! DEFINITION. Events of the Filigree fabric (chapter 18). -/
namespace Sys2Proof.Machine

/-- The next stage of every release in progress: outputs, write enables, resets; with the last one a sector is RUNNING
(18 R731). FIL_STAT.RELEASE follows the release at boot. -/
def State.evFilReleaseStage (s : State) : State :=
  let go := (List.range 16).filter fun n => (s.sectorAt n).releasing
  let s1 := if s.boot.complete ∧ s.fil.release < 3 then { s with fil := { s.fil with release := s.fil.release + 1 } } else s
  go.foldl (fun s n =>
    let st := (s.sectorAt n).release + 1
    let s1 := s.updSector n fun x => { x with release := min 3 st, releasing := decide (st < 3) }
    if 3 ≤ st then s1.sectorTo n .running else s1) s1

/-- The swap window of a sector may run: its FIL_SECTOR is next, or it is to be reloaded after a configuration fault, and
there is an image to load (18 R737, R742). -/
def State.swapReady (s : State) (n : Nat) : Bool :=
  s.filRuns && (s.sectorAt n).shadow.isSome &&
  (s.fil.busy == some n || (s.fil.busy == none && (s.sectorAt n).state == .fault))

/-- The swap window: the flip-flops load by kind, edges are captured or lost, and the sector is released and RUNNING
(18 R737-R740, R742). -/
def State.evSwapWindow (s : State) (n : Nat) (ev : SwapEvents) : State :=
  if s.swapReady n then
    match (s.sectorAt n).shadow with
    | none => s
    | some im =>
      let x := s.sectorAt n
      let keep := x.state != .empty && x.state != .fault && (x.image.map (·.carryId) == some im.carryId)
      let declared := ev.captured &&& BitVec.ofNat 16 (2 ^ im.capCount - 1)
      let kept := x.capture &&& ~~~ ev.cleared
      let again := popCount 16 (declared &&& kept).toNat
      let s1 := s.sectorTo n .swap
      let s2 := s1.updSector n fun x =>
        { x with
          image := some im,
          carryFf := if keep then x.carryFf else im.initial 0, historyFf := ev.history, otherFf := im.initial 2,
          capture := kept ||| declared, capOvf := satAdd 8 x.capOvf again,
          lostEdges := satAdd 16 x.lostEdges ev.lost, release := 3, releasing := false, parked := false }
      let s3 := (s2.portsEmpty n).sectorTo n .running
      let s4 := if ev.lost = 0 then s3 else s3.log 0x9002 (param [(1, n), (4, ev.lost)])
      if s.fil.busy = some n then (s4.answerWaiting (.swap n) .ok 0 fun _ => leBytes 4 ev.lost).filNext else s4
  else s

/-- The window has not started within 250 ms: TIMEOUT, and nothing has changed (18 R748). -/
def State.evSwapStagingTimeout (s : State) : State :=
  match s.fil.busy with
  | some n =>
    ((s.updSector n fun x => { x with shadow := x.image }).answerWaiting (.swap n) .timeout).filNext
  | none => s

/-- The scrub finds a sector's configuration different from its CRC: the sector parks in FAULT, with a persistent record;
its reload from the shadow copy, where that passes its CRC, is a SWAP_WINDOW (18 R742). -/
def State.evConfigScrub (s : State) (n : Nat) (ok : Bool) : State :=
  let x := s.sectorAt n
  if ok ∨ x.image = none ∨ x.state = .fault then s
  else
    let good := match x.shadow with
      | some i => crc32 i.payload == i.crc
      | none => false
    (s.updSector n fun x => { x with release := 0, releasing := false, shadow := if good then x.shadow else none }).sectorTo n
      .fault

/-- FRAME_END of a port in RS485 mode: CRC_OK over the frame, GAP_ERR and CRC_ERR counted, and the line direction is
released (18 R724). -/
def State.evFrameEnd (s : State) (p : Nat) : State :=
  { s with fil := { s.fil with port := Table.upd s.fil.port p fun q =>
      if q.mode ≠ 2 then q
      else if q.frame = [] then { q with de := false }
      else
        let good := modbusCrc q.frame == 0
        { q with
          frameEnd := true, crcOk := good, de := false,
          gapErr := if q.frameGap then satInc 8 q.gapErr else q.gapErr,
          crcErr := if good then q.crcErr else satInc 8 q.crcErr, frame := [], frameGap := false } } }

/-- A character received or sent by a port whose sector is released (18 R723, R724): a received one enters the FIFO, unless
DE is asserted; a sent one passes through the FIFO. `gap`: of a received character, a gap between t1.5 and t3.5 before it;
of a sent one, the FIFO empties inside the frame. How many received bytes the sector's logic has taken from the FIFO by then is free (log
entry 9). -/
def State.evSerialCharacter (s : State) (p : Nat) (rx : Bool) (byte : Byte) (gap : Bool) : State :=
  let q := Table.at s.fil.port p {}
  let x := s.sectorAt q.sector
  if q.mode = 0 ∨ !s.filRuns ∨ x.release = 0 then s
  else if rx then
    if q.mode = 2 ∧ q.de then s
    else
      let f := s.free 63
      { f.2 with fil := { s.fil with port := Table.upd s.fil.port p fun q =>
      let left := q.rx.drop (f.1 % (q.rx.length + 1))
      { q with
        rx := if left.length < 256 then left ++ [byte] else left,
        frame := q.frame ++ [byte], frameGap := q.frameGap || (gap && q.frame != []), frameEnd := false } } }
  else if x.release < 2 then s
  else
    let f := (q.txf ++ [byte]).take 256
    let s1 := { s with fil := { s.fil with port := Table.upd s.fil.port p fun q =>
      { q with
        txf := f.tail, de := q.mode == 2, underrun := if gap then satInc 8 q.underrun else q.underrun } } }
    s1.emit (.bus "SERIAL" [p, (f.headD byte).toNat])

/-- A sector programs a word of a flash region of its own that has not been programmed since its erase, once its write
enables are open (18 R722, R731). Where power is lost meanwhile, whether the word reads as uncorrectable is free (18 R749). -/
def State.evFabricFlashProgram (s : State) (n word : Nat) (value : Reg64) (cut : Bool) : State :=
  if Table.at s.fil.region (word / 8192) none = some n ∧ 2 ≤ (s.sectorAt n).release ∧ s.filRuns ∧
      ¬ s.fil.programmed.contains word then
    let f := s.free 62
    let bad := cut && f.1 % 2 == 1
    { (if cut then f.2 else s) with fil := { s.fil with
        flash := Mem.write 0xFF s.fil.flash (8 * word) (leBytes 8 value.toNat), programmed := word :: s.fil.programmed,
        badWords := if bad then word :: s.fil.badWords else s.fil.badWords } }
  else s

/-- A word of the fabric flash as a sector reads it: of its own regions alone, and all ones where the code detects an error (18 R722). -/
def State.fabricWord (s : State) (n word : Nat) : Option Reg64 :=
  if Table.at s.fil.region (word / 8192) none = some n then
    some (if s.fil.badWords.contains word then BitVec.allOnes 64 else BitVec.ofNat 64 (leNat (Mem.read 0xFF s.fil.flash (8 * word) 8)))
  else none

/-- A running sector's logic may read an uncorrectable word of its regions at any time, which is free: FLASH_ERR is set, with a record
(18 R722, Table 19-5; log entry 9). -/
def State.fabricReads (s : State) : State :=
  s.fil.badWords.foldl (fun s w => match Table.at s.fil.region (w / 8192) none with
    | some n =>
      if (s.sectorAt n).state = .running ∧ ¬ (s.sectorAt n).flashErr ∧ Config.freeOf 62 [s.now, w] % 2 = 1 then
        (s.updSector n fun x => { x with flashErr := true }).log 0x9003 (param [(1, n), (1, w / 8192), (4, 8 * (w % 8192))])
      else s
    | none => s) s

/-- A sector erases a page of 512 words of a region of its own; a page whose erase power loss cuts off holds free bytes, and must be erased
again before it is programmed (18 R722, R749). -/
def State.evFabricFlashErase (s : State) (n page : Nat) (cut : Bool) : State :=
  if Table.at s.fil.region (page / 16) none = some n ∧ 2 ≤ (s.sectorAt n).release ∧ s.filRuns then
    if cut then
      let left (i : Nat) : Byte := BitVec.ofNat 8 (Config.freeOf 62 [s.now, page, i])
      { s with fil := { s.fil with
          flash := Mem.write 0xFF s.fil.flash (4096 * page) ((List.range 4096).map left),
          programmed := (List.range 512).map (512 * page + ·) ++ s.fil.programmed.filter fun w => w / 512 != page } }
    else
    { s with fil := { s.fil with
        flash := Mem.clear s.fil.flash (4096 * page) 4096,
        programmed := s.fil.programmed.filter fun w => w / 512 != page,
        badWords := s.fil.badWords.filter fun w => w / 512 != page } }
  else s

/-- The sector that writes IN_REGr runs with its write enables open (18 R728, R731). -/
def State.strobes (s : State) (r : Nat) : Bool :=
  s.fil.regWrite.getLsbD r && s.filRuns &&
    s.fil.sector.any fun x => decide (2 ≤ x.release) && x.image.any fun i => i.writesReg r

/-- A rising STROBEr latches IN_REGr as a new sample with SEQ advanced, where the sector that writes the register has its write enables open
(18 R728, R731, R752, Table 18-6). -/
def State.evInRegStrobe (s : State) (r : Nat) (value : Reg32) : State :=
  if s.strobes r then
    { s with fil := { s.fil with
        inReg := Table.upd s.fil.inReg r fun x => (value, (x.2 + 1) % 16) } }
  else s

/-- One pulse to the fabric at a whole second (18 Table 18-6). -/
def State.evSecPulse (s : State) : State := s.emit (.pulse "SEC_PULSE" (s.now / 32768))

/-- The 1 MHz and 48 MHz oscillators are trimmed against XTAL32, where they run and no crystal fault holds (18 R719). -/
def State.evOscTrim (s : State) (t1 t48 : Nat) : State :=
  if s.clocks.xtalFault ∨ s.dev.state = .off ∨ s.dev.state = .dormant then s
  else { s with fil := { s.fil with oscTrim := some (t1, t48) } }

end Sys2Proof.Machine
end

