-- ==== Sys2Proof/Machine/BootFx.lean ====
section
/-! DEFINITION. The flash directory, the image checks, the envelope and the row configuration image, and OTP (chapter 04):
what boot code, firmware and the recovery actions share. -/
namespace Sys2Proof.Machine

/-! ### The directory (04 R136-R139) -/

/-- An entry as its word (04 R137). -/
def DirEntry.word (e : DirEntry) : Nat := b2n e.active + 2 * b2n e.lastGood + 4 * b2n e.lgValid + 8 * b2n e.trial
/-- The entry that a word spells. -/
def dirEntry (w : Nat) : DirEntry := { active := bitOf w 0, lastGood := bitOf w 1, lgValid := bitOf w 2, trial := bitOf w 3 }

/-- Bytes 0x00-0x4F of a directory copy. -/
def Directory.body (d : Directory) : List Byte :=
  leBytes 4 0x1664D1D1 ++ leBytes 4 d.seq ++ (d.ent.toList.flatMap fun e => leBytes 4 e.word) ++
    leBytes 1 d.provReq ++ leBytes 1 d.fwSvnReq ++ leBytes 1 d.ownSvnReq ++ [0] ++ d.provHash
/-- The 84 bytes of a directory copy (04 Table 04-4). -/
def Directory.bytes (d : Directory) : List Byte := d.body ++ leBytes 4 (crc32 d.body)

/-- A directory copy as read, none where it is invalid (04 R136, R137). -/
def parseDir (b : List Byte) : Option Directory :=
  let e (i : Nat) : Nat := fld b (8 + 4 * i) 4
  if fld b 0 4 = 0x1664D1D1 ∧ fld b 0x50 4 = crc32 (b.take 0x50) ∧ fld b 4 4 ≠ 0xFFFFFFFF ∧ fld b 0x1F 1 = 0 ∧
      fld b 0x1C 1 ≤ 1 ∧ fld b 0x1D 1 ≤ 64 ∧ fld b 0x1E 1 ≤ 64 ∧
      (List.range 5).all (fun i => e i < 16 && (i == 0 || !bitOf (e i) 3)) then
    some { seq := fld b 4 4, ent := Vector.ofFn fun i : Fin 5 => dirEntry (e i), provReq := fld b 0x1C 1,
           fwSvnReq := fld b 0x1D 1, ownSvnReq := fld b 0x1E 1, provHash := bytesAt b 0x20 48 }
  else none

/-- Base of a directory copy. -/
def dirBase (c : Bool) : Nat := if c then 0x10000 else 0
/-- A directory copy in flash. -/
def State.dirAt (s : State) (c : Bool) : Option Directory := parseDir (s.flashRead (dirBase c) 84)

/-- The copy that the Boot ROM uses, none where no copy is usable (04 R136). -/
def State.dirChoose (s : State) : Option (Bool × Directory) :=
  match s.dirAt false, s.dirAt true with
  | some a, some b => if b.seq < a.seq then some (false, a) else if a.seq < b.seq then some (true, b)
    else if a = b then some (false, a) else none
  | some a, none => some (false, a)
  | none, some b => some (true, b)
  | none, none => none

/-- What new contents are built from, and the copy they are written to (04 R138). The rule gives the base for HELD with REASON DIRECTORY; where no
copy is in use for another reason (STRAP_TEST, FLASH), the same base is taken: copy 0 where it is valid (DESIGN CHOICE, log entry 111). -/
def State.dirFrom (s : State) : Directory × Bool :=
  match s.boot.dirInUse with
  | some c => (s.boot.dir, !c)
  | none => match s.dirAt false, s.dirAt true with
    | some a, _ => (a, true)
    | none, some b => (b, false)
    | none, none => ({}, false)

/-- Write the directory with changed contents (04 R138): SEQ counts on, and past its end starts at 1 in the other copy with the
old one erased. -/
def State.dirWrite (s : State) (f : Directory → Directory) : State :=
  let t := s.dirFrom
  let wrap := t.1.seq + 1 = 0xFFFFFFFF
  let d : Directory := { f t.1 with seq := if wrap then 1 else t.1.seq + 1 }
  let s1 := (s.flashErase (dirBase t.2) 0x10000).flashProgram (dirBase t.2) d.bytes
  let s2 := if wrap then s1.flashErase (dirBase !t.2) 0x10000 else s1
  { s2 with boot := { s2.boot with dirInUse := some t.2, dir := d } }

/-- Entry `i`, changed. -/
def Directory.updEnt (d : Directory) (i : Nat) (f : DirEntry → DirEntry) : Directory := { d with ent := Table.upd d.ent i f }
def Directory.entry (d : Directory) (i : Nat) : DirEntry := Table.at d.ent i {}

/-- At boot complete every entry becomes last good and no trial runs; written only where that changes something (04 R139). -/
def State.dirGood (s : State) : State :=
  let good (d : Directory) : Directory :=
    { d with ent := d.ent.map fun e : DirEntry => { e with lastGood := e.active, lgValid := true, trial := false } }
  if good s.boot.dir = s.boot.dir then s else s.dirWrite good

/-! ### Image checks (04 R140-R143) -/

/-- An image as read: where it is read from, and its header's fields (04 Table 04-5). -/
structure Image where
  /-- bytes of the region that holds it -/
  read : Nat → Nat → List Byte
  /-- size of the region, and the largest image it may hold -/
  region : Nat
  most : Nat

/-- Header fields. -/
def Image.fieldAt (i : Image) (off n : Nat) : Nat := leNat (i.read off n)
def Image.bodyLen (i : Image) : Nat := i.fieldAt 0x0C 4
def Image.body (i : Image) : List Byte := i.read 0x200 i.bodyLen
def Image.format (i : Image) : Nat := i.fieldAt 6 2
def Image.svn (i : Image) : Nat := i.fieldAt 8 4
def Image.slot (i : Image) : Nat := i.fieldAt 0x10 1
/-- The first 32 bits of the digest (04 R154). -/
def Image.digest32 (i : Image) : Nat := i.fieldAt 0x80 4
/-- Where the commit word lies. -/
def Image.commitAt (i : Image) : Nat := 0x200 + (i.bodyLen + 3) / 4 * 4

/-- The kinds of image: stage 1, firmware, envelope, row configuration, loop program, Filigree set, sector image. -/
inductive ImageKind where
  | stage1 | firmware | env | row | loop | fil | sector
  deriving DecidableEq, Repr

/-- TYPE (04 Table 04-5). -/
def ImageKind.type : ImageKind → Nat
  | .stage1 => 1 | .firmware => 2 | .env => 0x10 | .row => 0x11 | .loop => 0x12 | .fil => 0x13 | .sector => 0x13
/-- Signed with a Galsoant root key, and counted by FW_SVN (04 R141). -/
def ImageKind.root : ImageKind → Bool
  | .stage1 | .firmware => true | _ => false
/-- The directory entry of a kind. -/
def ImageKind.entry : ImageKind → Nat
  | .stage1 | .firmware => 0 | .env => 1 | .row => 2 | .loop => 3 | .fil | .sector => 4
/-- The kind of a directory entry, the firmware image for entry 0. -/
def entryKind (e : Nat) : ImageKind := match e with
  | 0 => .firmware | 1 => .env | 2 => .row | 3 => .loop | _ => .fil

/-- Base, size and largest image of a kind's copy (04 Table 04-3, Table 04-6). -/
def imagePlace (k : ImageKind) (c : Bool) : Nat × Nat × Nat := match k with
  | .stage1 => (0x1000000 + b2n c * 0x1000000, 0x40000, 0x40000)
  | .firmware => (0x1000000 + b2n c * 0x1000000 + 0x40000, 0x1000000 - 0x40000, 0x800000)
  | .env => (0x3000000 + b2n c * 0x40000, 0x40000, 0x40000)
  | .row => (0x3080000 + b2n c * 0x40000, 0x40000, 0x40000)
  | .loop => (0x3100000 + b2n c * 0x100000, 0x100000, 0x100000)
  | .fil | .sector => (0x3300000 + b2n c * 0x200000, 0x200000, 0x200000)

/-- The image in a copy. -/
def State.imageAt (s : State) (k : ImageKind) (c : Bool) : Image :=
  let p := imagePlace k c
  { read := fun o n => s.flashRead (p.1 + o) n, region := p.2.1, most := p.2.2 }
/-- An image that arrives as bytes (18 R744). -/
def imageOf (b : List Byte) : Image := { read := fun o n => bytesAt b o n, region := b.length, most := b.length }

/-! #### The envelope body (04 R146, R152) -/

/-- Value `i` of the list of 43. -/
def envValue (b : List Byte) (i : Nat) : Nat := fld b (4 * i) 4
/-- Owner actions, as (OP, SLOT, HASH). -/
def envActions (b : List Byte) : List (Nat × Nat × List Byte) :=
  (List.range (fld b 0xAC 4)).map fun i => (fld b (0xB0 + 52 * i) 1, fld b (0xB1 + 52 * i) 1, bytesAt b (0xB4 + 52 * i) 48)

/-- Limits of the coolant range of the ordering code, 0.1 degrees C (00 Table 00-4). -/
def coolRange (code : Nat) : Option (Nat × Nat) :=
  if code = 1 then some (0, 450) else if code = 2 then some (150, 550) else none

/-- The reserved fields of a PWR_CMPn_CFG value are 0 (04 R152, R182, 03 Table 03-7). -/
def cmpWordClear (w : Nat) : Bool := bitsOf w 24 20 == 0 && bitsOf w 15 10 == 0
/-- A PWR_CMPn_CFG value that an envelope image may carry (04 R152, 03 Table 03-7). -/
def cmpWordGood (w : Nat) : Bool := bitsOf w 29 28 != 3 && cmpWordClear w

/-- HMK_LIMITS to HMK_FILPIN2 within their ranges (04 R152). -/
def envLimitsGood (code : Nat) (b : List Byte) : Bool :=
  let w := envValue b
  let ceil := bitsOf (w 0) 31 21
  let lo := bitsOf (w 1) 15 0
  let hi := bitsOf (w 1) 31 16
  let sMin := bitsOf (w 2) 31 22
  let sMax := bitsOf (w 2) 21 12
  decide (350 ≤ ceil) && decide (ceil ≤ 1800) && decide (bitsOf (w 0) 20 16 ≤ 16) && bitsOf (w 0) 15 0 == 0 &&
    ((lo == 0 && hi == 0) || (1 ≤ lo && lo ≤ hi)) &&
    (coolRange code).any (fun r => r.1 ≤ sMin && sMax ≤ r.2) && decide (sMin < sMax) && decide (1 ≤ bitsOf (w 2) 11 0) &&
    bitsOf (w 3) 31 12 == 0 && decide (bitsOf (w 3) 11 0 ≤ 1920) &&
    bitsOf (w 4) 29 28 != 3 && bitsOf (w 4) 27 0 == 0 &&
    (List.range 48).all fun n => bitsOf (w (5 + n / 16)) (2 * (n % 16) + 1) (2 * (n % 16)) != 3

/-- HMK_VFv_CEIL0 and CEIL1 within their ranges (04 R152). -/
def envCeilGood (b : List Byte) (v : Nat) : Bool :=
  let c0 := envValue b (8 + 2 * (v - 1))
  let c1 := envValue b (9 + 2 * (v - 1))
  decide (bitsOf c0 31 27 ≤ 16) && decide (bitsOf c0 26 21 ≤ 48) && decide (bitsOf c0 20 14 ≤ 96) &&
    decide (bitsOf c0 13 9 ≤ 16) && decide (bitsOf c0 8 3 ≤ 32) && bitsOf c0 2 0 == 0 &&
    decide (bitsOf c1 31 25 ≤ 64) && decide (bitsOf c1 24 18 ≤ 64) && bitsOf c1 17 0 == 0 &&
    (v ≤ bitsOf (envValue b 0) 20 16 || (c0 == 0 && c1 == 0))

/-- The envelope body is consistent (04 R146, R152). -/
def envGood (code : Nat) (b : List Byte) : Bool :=
  let n := fld b 0xAC 4
  decide (n ≤ 8) && b.length == 176 + 52 * n && envLimitsGood code b &&
    ((List.range 16).all fun i => envCeilGood b (i + 1)) &&
    (List.range 3).all (fun i => cmpWordGood (envValue b (40 + i))) &&
    (envActions b).all (fun a => (a.1 == 1 || (a.1 == 2 && a.2.2.all (· == 0))) && decide (a.2.1 < 4)) &&
    (List.range n).all fun i => fld b (0xB2 + 52 * i) 2 == 0

/-- The HMK_ registers that an envelope body gives. -/
def envHmk (b : List Byte) (id : Nat) : Hmk :=
  let w (i : Nat) : Reg32 := BitVec.ofNat 32 (envValue b i)
  { sealed := true, envId := BitVec.ofNat 32 id, limits := w 0, tags := w 1, cool := w 2, laser := w 3, role := w 4,
    filpin := Vector.ofFn fun i : Fin 3 => w (5 + i), ceil0 := Vector.ofFn fun v : Fin 16 => w (8 + 2 * v),
    ceil1 := Vector.ofFn fun v : Fin 16 => w (9 + 2 * v) }

/-- The held envelope (04 R156). -/
def heldHmk (code : Nat) : Hmk :=
  let r := (coolRange code).getD (150, 450)
  { sealed := true, cool := regWord [(22, r.1), (12, r.2)], role := regWord [(30, 1), (28, 2)] }
/-- PWR_CMP6_CFG of the held envelope: EN, SAFE, POL, THR 512, HYST 11. -/
def heldCmp6 : Reg32 := regWord [(31, 1), (28, 2), (27, 1), (16, 11), (0, 512)]

/-! #### The row configuration body (04 Table 04-19) -/

/-- The row configuration that a body gives (04 R181, R183). -/
def parseRow (b : List Byte) : RowCfg :=
  let u (o n : Nat) : Nat := fld b o n
  let orDef (x d : Nat) : Nat := if x = 0 then d else x
  { rowSize := u 0 1, position := u 1 1,
    start := if u 2 1 = 1 then .dormant else if u 2 1 = 3 then .anneal else .standby,
    wakeWarn := bitOf (u 3 1) 0, scorerEn := bitOf (u 3 1) 1, mctpAddr := orDef (u 5 1) 0x2C, smbRate := u 6 1,
    degradeMin := u 7 1, xtalOfs := sfld b 8 2, xtalPara := sfld b 0x0A 2, xtalTurn := u 0x0C 2, fallbackW := u 0x0E 2,
    warmW := orDef (u 0x10 2) 500, idleS := u 0x12 2,
    thresh := Vector.ofFn fun g : Fin 5 => BitVec.ofNat 32 (u (0x28 + 4 * g) 4),
    plnInt := Vector.ofFn fun i : Fin 12 => u (0x40 + 4 * i) 4,
    flowDev := orDef (u 0x70 2) 200, retRise := orDef (u 0x72 2) 1200, hxMax := u 0x74 2,
    margin := orDef (u 0x76 2) 50, kC := orDef (u 0x78 2) 4153, supplyDef := u 0x7A 2, supplySlew := orDef (u 0x7C 2) 50,
    ropePos := Vector.ofFn fun n : Fin 4 => u (0x80 + 16 * n) 8,
    ropeValve := Vector.ofFn fun n : Fin 4 => u (0x88 + 16 * n) 1,
    ropeIsolate := Vector.ofFn fun n : Fin 4 => bitOf (u (0x89 + 16 * n) 1) 0,
    pinFn := Vector.ofFn fun n : Fin 48 => u (0xC0 + n) 1,
    rates := (List.range (u 0xF0 2)).map fun i => (u (0x100 + 8 * i) 2, u (0x102 + 8 * i) 1, u (0x104 + 8 * i) 2) }

/-- Default thresholds and their ranges: WARN, THROT as (default, least, most), none where the group has no throttle
(13 Table 13-4). -/
def threshRanges (g : Nat) : (Nat × Nat × Nat) × Option (Nat × Nat × Nat) :=
  if g < 2 then ((95, 60, 98), some (100, 70, 100)) else if g = 2 then ((80, 60, 85), none)
  else if g = 3 then ((85, 70, 90), some (95, 80, 95)) else ((95, 70, 100), none)

/-- A threshold field is 0 or within its range. -/
def zeroOr (lo hi x : Nat) : Bool := x == 0 || (lo ≤ x && x ≤ hi)

/-- A THRESH word of a group is permitted (13 R543). -/
def threshGood (g w : Nat) : Bool :=
  let r := threshRanges g
  let warn := bitsOf w 31 24
  let throt := bitsOf w 23 16
  zeroOr r.1.2.1 r.1.2.2 warn && bitsOf w 15 8 == 0 && zeroOr 1 8 (bitsOf w 7 4) &&
    (match r.2 with
     | some t => zeroOr t.2.1 t.2.2 throt && zeroOr 2 15 (bitsOf w 3 0) &&
        decide ((if warn = 0 then r.1.1 else warn) + 2 ≤ if throt = 0 then t.1 else throt)
     | none => throt == 0 && bitsOf w 3 0 == 0)

/-- The threshold word in force: a field of 0 takes its default (13 R543, R544). -/
def threshInForce (g w : Nat) (dflt : Reg32) : Reg32 :=
  let pick (hi lo : Nat) : Nat := if bitsOf w hi lo = 0 then bitsOf dflt.toNat hi lo else bitsOf w hi lo
  let _ := g
  regWord [(24, pick 31 24), (16, pick 23 16), (8, bitsOf dflt.toNat 15 8), (4, pick 7 4), (0, pick 3 0)]

/-- Places of the intervals of PLN_INT, as quantity codes (04 Table 04-19). -/
def plnIntQty : List Nat := [0x0002, 0x0010, 0x0011, 0x0012, 0x0013, 0x0014, 0x0020, 0x0030, 0x0031, 0x0032, 0x0040, 0x0050]

/-- Least and most interval of a quantity, s (16 Table 16-2). -/
def plnIntRange (q : Nat) : Nat × Nat :=
  if q ∈ [0x0002, 0x0012, 0x0014, 0x0020, 0x0031] then (600, 86400)
  else if q ∈ [0x0010, 0x0011, 0x0013, 0x0032, 0x0040] then (60, 3600)
  else if q = 0x0030 then (10, 3600) else (1, 600)

/-- The fields of a row configuration body within their ranges, reserved fields 0 (04 R159, R182, Table 04-19). -/
def State.rowFieldsGood (s : State) (b : List Byte) : Bool :=
  let u (o n : Nat) : Nat := fld b o n
  let n := u 0xF0 2
  let ceil := s.pwrCeil
  [2, 4, 8, 16, 32, 64].contains (u 0 1) && decide (u 1 1 < u 0 1) && [1, 2, 3].contains (u 2 1) && decide (u 3 1 < 8) &&
    decide (u 4 1 ≤ 34) && (u 5 1 == 0 || (8 ≤ u 5 1 && u 5 1 ≤ 0x77)) && decide (u 6 1 ≤ 2) && decide (1 ≤ u 7 1) &&
    decide (u 7 1 ≤ 64) && decide (350 ≤ u 0x0E 2) && decide (u 0x0E 2 ≤ ceil) &&
    zeroOr 350 ceil (u 0x10 2) && (s.rampMode || (350 ≤ (if u 0x10 2 = 0 then 500 else u 0x10 2) &&
      (if u 0x10 2 = 0 then 500 else u 0x10 2) ≤ ceil)) &&
    (List.range 5).all (fun i => cmpWordClear (u (0x14 + 4 * i) 4)) &&
    (List.range 5).all (fun g => threshGood g (u (0x28 + 4 * g) 4)) && u 0x3C 4 == 0 &&
    ((List.range 12).zip plnIntQty).all (fun x => zeroOr (plnIntRange x.2).1 (plnIntRange x.2).2 (u (0x40 + 4 * x.1) 4)) &&
    decide (u 0x76 2 ≤ 500) && decide (10 * s.supMin ≤ u 0x7A 2) && decide (u 0x7A 2 ≤ 10 * s.supMax) &&
    zeroOr 5 200 (u 0x7C 2) && u 0x7E 2 == 0 && decide (n ≤ 1024) && zeroAt b 0xF2 14 && b.length == 0x100 + 8 * n

/-- The ropes, pins and rate limits of a row configuration body (04 R182, 18 R726, 19 R760). -/
def State.rowTablesGood (s : State) (b : List Byte) : Bool :=
  let u (o n : Nat) : Nat := fld b o n
  let n := u 0xF0 2
  let codes := (List.range n).map fun i => u (0x100 + 8 * i) 2
  (List.range 4).all (fun r => decide (u (0x80 + 16 * r) 8 < 2 ^ u 0 1) && decide (u (0x89 + 16 * r) 1 < 2) &&
      zeroAt b (0x8A + 16 * r) 6) &&
    (List.range 48).all (fun p =>
      let f := u (0xC0 + p) 1
      f == 0 || (s.pinOwner p == 1 && f % 16 ≤ 5 && bitsOf f 6 5 ≤ 2)) &&
    (List.range n).all (fun i =>
      (codeLimit (u (0x100 + 8 * i) 2)).isSome && decide (1 ≤ u (0x102 + 8 * i) 1) && u (0x103 + 8 * i) 1 == 0 &&
        decide (1 ≤ u (0x104 + 8 * i) 2) && decide (u (0x104 + 8 * i) 2 ≤ 600) && u (0x106 + 8 * i) 2 == 0 &&
        !(codes.take i).contains (u (0x100 + 8 * i) 2))

/-- The row configuration body is consistent. -/
def State.rowGood (s : State) (b : List Byte) : Bool := s.rowFieldsGood b && s.rowTablesGood b

/-! #### The checks in order -/

/-- Check 0x0A: FORMAT and the body's consistency (04 R142). Where the loop program's body holds its sections is not published: a boot
judges what they say (`LoopProg.good`), and a check without a boot has a free value (log entry 9). -/
def State.bodyGood (s : State) (k : ImageKind) (i : Image) : Bool :=
  match k with
  | .stage1 | .firmware => true
  | .env => i.format == 1 && envGood s.otp.orderCode i.body
  | .row => i.format == 1 && s.rowGood i.body
  | .loop => i.format == 1
  | .fil => i.format == 1 && s.filSetGood i.body
  | .sector => i.format == 2 && secEntryGood i.body 0

/-- The key hash of a slot of a class, none where the slot is blank or revoked (04 R141). -/
def State.keyHash (s : State) (root : Bool) (slot : Nat) : Option (List Byte) :=
  if root then (if Table.at s.otp.rootRevoke slot true then none else Table.at s.otp.rootHash slot none)
  else (if Table.at s.otp.ownRevoke slot true then none else Table.at s.otp.ownHash slot none)

/-- The checks of an image in the order of 04 Table 04-6: 0 where it passes, else the DETAIL of the first that fails. -/
def State.imageDetail (s : State) (k : ImageKind) (i : Image) : Nat :=
  let f := i.fieldAt
  if f 0 4 ≠ 0x1664A55A ∨ f 4 2 ≠ k.type then 1
  else if f 0x110 4 ≠ crc32 (i.read 0 0x110) ∨ f 0x11 3 ≠ 0 ∨ f 0x18 8 ≠ 0 ∨ ¬ zeroAt (i.read 0x114 236) 0 236 ∨ 64 < i.svn then 2
  else if i.region < i.commitAt + 4 ∨ i.most < i.commitAt + 4 then 3
  else if f i.commitAt 4 ≠ 0x600D1664 then 4
  else if f 0x14 4 ≠ crc32 i.body then 5
  else if s.keyHash k.root i.slot ≠ some (Config.sha384 (i.read 0x20 96)) then 6
  else if ¬ Config.ecdsaVerifies (i.read 0x20 96) (i.read 0 0xB0) (i.read 0xB0 96) then 7
  else if Config.sha384 i.body ≠ i.read 0x80 48 then 8
  else if i.svn < (if k.root then s.otp.fwSvn else s.otp.ownSvn) then 9
  else if ¬ s.bodyGood k i then 10
  else 0

/-- The DETAIL of a copy in flash. -/
def State.copyDetail (s : State) (k : ImageKind) (c : Bool) : Nat := s.imageDetail k (s.imageAt k c)

/-! ### What firmware images carry: their layouts are not published, so these are free values of the signed digest -/

/-- FW_VER of a firmware image. -/
def Image.fwVer (i : Image) : Nat := Config.freeOf 35 ((i.read 0x80 48).map (·.toNat)) % 2 ^ 32
/-- COMPAT of a firmware image. -/
def Image.compat (i : Image) : Nat := Config.freeOf 36 ((i.read 0x80 48).map (·.toNat)) % 2 ^ 16
/-- The root slots that a stage 1 image revokes (04 R145). -/
def Image.revokes (i : Image) : Nat := Config.freeOf 37 ((i.read 0x80 48).map (·.toNat)) % 16

/-! ### OTP (04 R144, R145) -/

/-- The numbers that stand for an OTP field in code 0x100B. -/
def otpParam (field slot : Nat) : List Byte := param [(1, Config.codeOf 13 field), (1, slot)]

/-- Burn an owner slot, with its record. -/
def State.burnOwner (s : State) (n : Nat) (hash : List Byte) : State :=
  ({ s with otp := { s.otp with ownHash := Table.put s.otp.ownHash n (some hash) } }).log 0x100B (otpParam 0 n)

/-- Step 1: provisioning (04 R145). -/
def State.otpProvision (s : State) : State :=
  if s.boot.dir.provReq = 1 ∧ s.otp.ownHash.all (·.isNone) then s.burnOwner 0 s.boot.dir.provHash else s

/-- Step 2: one owner action of the envelope that slot `signer` signed; what is skipped is recorded (04 R145, R146). -/
def State.otpAction (s : State) (signer : Nat) (a : Nat × Nat × List Byte) : State :=
  if a.1 = 1 then
    (if (Table.at s.otp.ownHash a.2.1 none).isSome then s.log 0x100B (otpParam 0 a.2.1) else s.burnOwner a.2.1 a.2.2)
  else if a.2.1 = signer ∨ Table.at s.otp.ownRevoke a.2.1 true then s.log 0x100B (otpParam 1 a.2.1)
  else ({ s with otp := { s.otp with ownRevoke := Table.put s.otp.ownRevoke a.2.1 true } }).log 0x100B (otpParam 1 a.2.1)

/-- Step 3: the root revocations of the stage 1 image. -/
def State.otpRoots (s : State) (mask : Nat) : State :=
  (bitsSet 4 mask).foldl (fun s n =>
    if Table.at s.otp.rootRevoke n true then s
    else ({ s with otp := { s.otp with rootRevoke := Table.put s.otp.rootRevoke n true } }).log 0x100B (otpParam 2 n)) s

/-- Step 4: the security versions advance, and never decrease; `fwSvn` and `ownSvn` are the SVNs of the images that bound
them (04 R145). -/
def State.otpVersions (s : State) (fwSvn ownSvn : Nat) : State :=
  let fw := max s.otp.fwSvn (min s.boot.dir.fwSvnReq fwSvn)
  let own := max s.otp.ownSvn (min s.boot.dir.ownSvnReq ownSvn)
  let s1 := if fw = s.otp.fwSvn then s else ({ s with otp := { s.otp with fwSvn := fw } }).log 0x100B (otpParam 3 fw)
  if own = s.otp.ownSvn then s1 else ({ s1 with otp := { s1.otp with ownSvn := own } }).log 0x100B (otpParam 4 own)

/-! ### The end of a flash operation (05 R216, R204, 04 R138) -/

/-- What a byte that a failed operation was working on may hold: a free value (log entry 7). -/
def State.spoiled (s : State) (a : Nat) : Byte := BitVec.ofNat 8 (Config.freeOf 41 [s.freeCtr, a])

/-- An erase that fails in one of its sectors: those before it are erased, and its own bytes hold free values. -/
def State.eraseFails (s : State) (addr size count : Nat) : State :=
  let k := s.free 42
  let at_ := addr + size * (k.1 % count)
  let s1 := k.2.flashErase addr (size * (k.1 % count))
  let l := s1.flash.bytes.filter fun c => at_ ≤ c.1 && c.1 < at_ + size
  { s1 with flash := { s1.flash with bytes := l.foldl (fun m c => Mem.set 0xFF m c.1 (s1.spoiled c.1)) s1.flash.bytes } }

/-- A page that was being programmed: any of its bits may be left set, and at least one of the last byte that has bits to clear is: what an
interrupted write leaves is never the whole page, so a copy whose commit word was in it lacks that word (04 R184). -/
def State.tornPage (s : State) (addr : Nat) (page : List Byte) : List Byte :=
  let last := (page.zipIdx.filterMap fun x => if x.1 = 0xFF then none else some x.2).getLast?
  page.zipIdx.map fun x =>
    let b := x.1 ||| s.spoiled (addr + x.2)
    if some x.2 = last then b ||| (~~~ x.1 &&& (x.1 + 1)) else b

/-- A write that fails in one of its pages: those before it are programmed, and its own is torn. -/
def State.writeFails (s : State) (addr : Nat) (data : List Byte) : State :=
  let k := s.free 42
  let n := 256 * (k.1 % ((data.length + 255) / 256))
  let s1 := k.2.flashProgram addr (data.take n)
  s1.flashProgram (addr + n) (s1.tornPage (addr + n) ((data.drop n).take 256))

/-- A directory write that fails: the copy in use stands, and the other holds some first bytes of the new contents, which fail their CRC
(04 R185). -/
def State.dirFails (s : State) (f : Directory → Directory) : State :=
  let k := s.free 42
  let t := k.2.dirFrom
  let erased := k.2.flashErase (dirBase t.2) 0x10000
  let d : Directory := { f t.1 with seq := t.1.seq + 1 }
  let s1 := erased.flashProgram (dirBase t.2) (d.bytes.take (k.1 % 0x50))
  if (s1.dirAt t.2).isSome then erased else s1

/-- What an operation on the directory changes. -/
def dirChange : FlashOp → Directory → Directory
  | .dirSet e a t => fun d => d.updEnt e fun x => { x with active := a, trial := t }
  | .provision h => fun d => { d with provReq := 1, provHash := h }
  | _ => id

/-- The flash operation in progress ends, as it should or short of its end. -/
def State.flashEnds (s : State) (ok : Bool) : State :=
  match s.damem.flashOp with
  | none => s
  | some op =>
    let s1 := { s with damem := { s.damem with flashOp := none } }
    match op with
    | .erase a size count => if ok then s1.flashErase a (size * count) else s1.eraseFails a size count
    | .write a d => if ok then s1.flashProgram a d else s1.writeFails a d
    | .dirSet _ _ _ | .provision _ => if ok then s1.dirWrite (dirChange op) else s1.dirFails (dirChange op)
    | .calFormat upto =>
      if ok then s1.calClearPersist upto
      else ({ s1 with cal := { s1.cal with sector := none } }).eraseFails (calBase 0) 0x10000 32

end Sys2Proof.Machine
end

