-- ==== Sys2Proof/Machine/MeshEv.lean ====
section
/-! DEFINITION. Events of the strands: light, training, frames, retry, lanes, reconciliation and management messages
(chapters 11 and 20). -/
namespace Sys2Proof.Machine

/-! ### Probing and training (11 R456-R460, R480-R482, R486) -/

/-- The strand answers and probes: DARK or SAFETY, enabled, lit and its port's bank swept (11 R457, R458). -/
def State.strandProbes (s : State) (k : Nat) : Bool :=
  ((s.strandAt k).state == .dark || (s.strandAt k).state == .safety) && s.strandMayTrain k

/-- A probe pulse of 10 ms at probe level, every 1 s (11 R457). -/
def State.evProbePulse (s : State) (k : Nat) : State :=
  if s.strandProbes k ∧ (s.strandAt k).probing then
    (s.updStrand k fun t => { t with tx := .probe }).emit (.strandControl k "PROBE" [10])
  else s

/-- Presence on the receive fibre for 200 us lights the transmitter at probe level and holds it there (11 R457). A strand that
has not reached its own start answers too, once its port's bank is swept, and leaves OFF by it (04 R167, R169, 11 R458). -/
def State.evPresenceDetect (s : State) (k : Nat) : State :=
  let s1 := s.updStrand k fun t => { t with presence := true }
  if (s.strandAt k).state = .off ∧ s.strandMayTrain k then
    (s1.updStrand k fun t => { t with tx := .probe }).strandTo k .dark
  else if s1.strandProbes k ∨ ((s.strandAt k).state = .paused ∧ s.strandMayTrain k) then
    s1.updStrand k fun t => { t with tx := .probe }
  else s1

/-- Mutual presence at probe level for 5 ms, or 1 ms on the fast path, moves the strand to full power (11 R457, R482). -/
def State.evFullPowerStart (s : State) (k : Nat) : State :=
  let t := s.strandAt k
  if (t.state = .dark ∨ t.state = .safety ∨ t.state = .paused) ∧ s.strandMayTrain k ∧ t.tx = .probe ∧ t.presence then
    (s.updStrand k fun t => { t with tx := .full, stage := 0, lanesOk := 0 }).strandTo k .training
  else s

/-- The strands of a port leave OFF and start probing; one that a peer has already drawn out of OFF starts its own pulses
(11 R458). -/
def State.evStrandStartTime (s : State) (port : Nat) : State :=
  (List.range 4).foldl (fun s j =>
    let k := 4 * port + j
    if (s.strandAt k).state = .off ∧ s.strandMayTrain k then
      (s.updStrand k fun t => { t with probing := true, tx := .probe }).strandTo k .dark
    else if (s.strandAt k).state = .dark ∧ s.strandMayTrain k then s.updStrand k fun t => { t with probing := true }
    else s) s

/-- A stage passes its bound: back to probe level and DARK; the first failure of a run is recorded, and the repeats counted
(11 R460). -/
def State.failTraining (s : State) (k : Nat) : State :=
  let t := s.strandAt k
  let stage := t.stage + 1
  let s1 := if t.failRecorded then s.updStrand k fun t => { t with failRepeats := satInc 32 t.failRepeats }
    else (s.updStrand k fun t => { t with failRecorded := true }).log 0x3003 (param [(1, k), (1, stage)])
  s1.strandDown k .dark 6 .probe

def State.evTrainingStageTimeout (s : State) (k : Nat) : State :=
  if (s.strandAt k).state = .training then s.failTraining k else s

/-- The magic, version and reserved bytes of a TS block, its CRC, and its lane and sender's strand in range (11 R455). -/
def TsBlock.good (b : TsBlock) : Bool :=
  b.magic == 0xC41A1664 && b.version == 1 && b.crcOk && b.rsv == 0 && b.txReq < 16 && b.lane < 4

/-- The identity checks of T3: the cause of MISWIRED, 0 for none (11 R459). -/
def State.tsCause (s : State) (k : Nat) (b : TsBlock) : Nat :=
  if b.position ≠ s.peerOf k then 1 else if b.strand ≠ mateOf k then 2 else if b.rowSize ≠ s.row.rowSize then 3 else 0

/-- The receive buffers of a peer meet the minimum of Table 11-6. -/
def TsBlock.creditsOk (b : TsBlock) : Bool :=
  16 ≤ Table.at b.credits 0 0 && 130 ≤ Table.at b.credits 1 0 && 65 ≤ Table.at b.credits 2 0 && 65 ≤ Table.at b.credits 3 0

/-- What this device reports in the TS block of a lane (11 Table 11-5, R453, Table 11-6). -/
def State.tsBlock (s : State) (k lane stage : Nat) : TsBlock :=
  let t := s.strandAt k
  { magic := 0xC41A1664, version := 1, stage := stage, lane := lane, strand := k, position := s.pos, rowSize := s.row.rowSize,
    compat := s.boot.compat, lanesOk := if stage = 6 then t.lanes else t.lanesOk, txReq := 0, linkEpoch := t.epoch,
    devId := s.otp.devId, credits := #v[64, 2048, 512, 512] }

/-- A request of the peer moves the pre or the post tap by one unit; one beyond the tap's range is ignored, and the main tap has no
setting (11 Table 11-5, 12 R515, log entry 134). -/
def Strand.txReq (t : Strand) (r : Nat) : Strand :=
  let d : Int := if r / 4 = 1 then 1 else if r / 4 = 2 then -1 else 0
  let low : Int := if r % 4 = 0 then -8 else -12
  let x := Table.at t.taps (r % 4) 0 + d
  if (r % 4 = 0 ∨ r % 4 = 2) ∧ low ≤ x ∧ x ≤ 0 then { t with taps := Table.put t.taps (r % 4) x } else t

/-- The strand opens at T5: counters at 0, a new LINK_EPOCH, UP, or MGMT_ONLY where COMPAT differs (11 Table 11-4, R459). -/
def State.strandOpen (s : State) (k : Nat) (b : TsBlock) : State :=
  let lanes := (s.strandAt k).lanesOk &&& b.lanesOk
  if lanes = 0 then s.failTraining k
  else
    let s0 := match (s.strandAt k).trip with
      | some (_, true) => if (s.strandAt k).recon.isNone then s.beginRecon k else s
      | _ => s
    let s1 := s0.updStrand k fun t =>
      { t with lanes := lanes, peerBuf := b.credits, txSeq := 0, rxSeq := 0, nak := false, retry := [], replayFrom := none,
               spent := Vector.replicate 4 0, returned := Vector.replicate 4 0, freed := Vector.replicate 4 0,
               rxPart := Vector.replicate 5 none, mcount := Vector.replicate 4 0, txNow := Vector.replicate 5 none,
               txq := Vector.replicate 5 [], laneBad := Vector.replicate 4 0, droppedAt := Vector.replicate 4 none,
               retested := 0, readmitAt := Vector.replicate 4 none, laneArg := none, laneCal := none, peerCal := none,
               lastEpochSeq := some (t.peerEpoch, (t.rxSeq + 65535) % 65536),
               epoch := (t.epoch + 1) % 65536, peerEpoch := (b.linkEpoch + 1) % 65536,
               stage := 5, trip := none, failRecorded := false, failRepeats := 0, lastDown := t.lastDown }
    if b.compat = s.boot.compat then (s1.strandTo k .up).answerWaiting (.strand k) .ok 0 fun _ => leBytes 4 0
    else s1.strandTo k .mgmtOnly

/-- The strand resumes by the fast path with the same LINK_EPOCH: its frames are replayed from the oldest (11 R479, R482). -/
def State.strandResume (s : State) (k : Nat) : State :=
  let s1 := s.updStrand k fun t =>
    { t with lanes := if t.lanesOk = 0 then t.lanes else t.lanesOk, recon := none, trip := none,
             replayFrom := (t.retry.head?).map fun f => f.frame.seq, stage := 5 }
  s1.strandTo k .up

/-- T3: a strand that tripped from UP or PAUSED resumes where the LINK_EPOCH matches and goes down where it does not; any
other passes, is MISWIRED, or fails (11 R459, R480, R482, R486). -/
def State.stageIdentity (s : State) (k : Nat) (b : TsBlock) : State :=
  let s1 := s.updStrand k fun t => { t with peerPos := b.position % 64, peerStrand := b.strand % 64 }
  let cause := s1.tsCause k b
  if cause ≠ 0 then
    (s1.updStrand k fun t => { t with misw := cause, tx := .probe, stage := 2 }).strandTo k .miswired
  else if ¬ b.creditsOk then s1.failTraining k
  else
    let s2 := s1.updStrand k fun t => { t with misw := 0, stage := 3 }
    if s.loopback k then
      let s3 := (s2.updStrand k fun t => { t with tx := .off, stage := 0 }).strandTo k .loopback
      if (s.strandAt k).loopTested then s3
      else (s3.updStrand k fun t => { t with tx := .full, loopTested := true }).strandTo k .loopTest
    else match (s.strandAt k).trip with
      | some (_, true) =>
        if b.linkEpoch = (s.strandAt k).peerEpoch then s2.strandResume k else s2.strandDown k .dark 1 .probe
      | _ => s2

/-- A stage T1 to T5 completes (11 Table 11-4). -/
def State.evTrainingStageDone (s : State) (k : Nat) (lanesOk : BitVec 4) (b : TsBlock) : State :=
  let t := s.strandAt k
  if t.state ≠ .training then s
  else if t.stage = 0 then s.updStrand k fun t => { t with stage := 1 }
  else if t.stage = 1 then
    if lanesOk = 0 then s.failTraining k else s.updStrand k fun t => { t with stage := 2, lanesOk := lanesOk }
  else if ¬ b.good then s
  else if t.stage = 2 then s.stageIdentity k b
  else if t.stage = 3 then
    s.updStrand k fun t =>
      { t.txReq b.txReq with stage := 4, lanesOk := if lanesOk = 0 then t.lanesOk else t.lanesOk &&& lanesOk }
  else s.strandOpen k b

/-- A MISWIRED strand repeats T3 every 10 s (11 R459): it trains on where the checks pass. -/
def State.evMiswiredRetry (s : State) (k : Nat) (b : TsBlock) : State :=
  if (s.strandAt k).state ≠ .miswired ∨ ¬ b.good then s
  else if s.tsCause k b = 0 then
    ((s.updStrand k fun t => { t with tx := .full }).strandTo k .training).stageIdentity k b
  else s.updStrand k fun t => { t with misw := s.tsCause k b, peerPos := b.position % 64, peerStrand := b.strand % 64 }

/-- Loss of light in a state above probe level: the transmitter goes to probe level in hardware and the strand to SAFETY; from
UP its traffic is reconciled at once, and kept for the fast path (11 R475, R481, R482). -/
def State.evLossOfLight (s : State) (k : Nat) : State :=
  let t := s.strandAt k
  if t.tx ≠ .full ∨ ¬ (t.state = .training ∨ t.state = .up ∨ t.state = .mgmtOnly ∨ t.state = .loopTest) then s
  else
    let up := t.state == .up
    let s1 := (s.updStrand k fun t =>
      { t with tx := .probe, presence := false, lastDown := 1, stage := 0,
               trip := if up then some (s.now, true) else t.trip }).strandTo k .safety
    if up then s1.beginRecon k true else s1

/-- No light within 10 ms of the trip: the strand goes down and trains anew from DARK (11 R480). -/
def State.evLightReturnTimeout (s : State) (k : Nat) : State :=
  let t := s.strandAt k
  if (t.state = .safety ∨ t.state = .paused ∨ t.state = .training) ∧ t.trip.isSome then s.strandDown k .dark 1 .probe else s

/-- LOOP_TEST ends within 50 ms of its start (11 R486). -/
def State.evLoopTestEnd (s : State) (k : Nat) : State :=
  if (s.strandAt k).state = .loopTest then (s.updStrand k fun t => { t with tx := .off }).strandTo k .loopback else s

/-! ### Sending frames (11 R453, R454, R466, R469, R471, R472, 20 R786, R787) -/

/-- The lane after `l` among the lanes in use. -/
def Strand.laneAfter (t : Strand) (l : Nat) : Option Nat :=
  [1, 2, 3, 4].map (fun d => (l + d) % 4) |>.find? fun x =>
    t.lanes.getLsbD x && t.laneCal != some x && t.peerCal != some x

/-- The strand carries frames. -/
def Strand.carries (t : Strand) : Bool := (t.state == .up || t.state == .mgmtOnly) && t.tx == .full

/-- A class may send a flit: its credits are not exhausted; RSP needs none (11 R466). -/
def Strand.credit (t : Strand) (cls : Nat) : Bool :=
  match creditIx cls with
  | none => true
  | some i => (Table.at t.spent i 0 + 65536 - Table.at t.returned i 0) % 65536 < Table.at t.peerBuf i 0

/-- Sources with a flit to send in a class: the packet in the course of being sent holds its class (11 R464). -/
def Strand.sources (t : Strand) (cls : Nat) : List Nat :=
  if ¬ t.credit cls ∨ (t.state = .mgmtOnly ∧ cls ≠ 0) then []
  else match Table.at t.txNow cls none with
    | some x => [x.1]
    | none => ((Table.at t.txq cls []).map (·.1)).dedup

/-- The source after the one served last, of those that wait. -/
def nextAfter (last : Nat) (l : List Nat) : Option Nat :=
  ([l.filter (last < ·), l].filterMap (·.min?)).head?

/-- Counts of a frame in the making: MGMT slots and detour slots used. -/
structure Fill where
  mgmt : Nat := 0
  detour : Nat := 0
  slots : List Flit := []
  ends : List (Nat × Packet) := []
  deriving DecidableEq, Repr

/-- The classes that may take the next slot, in the order of R469: MGMT at most one slot while others wait, DRS and DRQ
together at most four while RSP or REQ flits of the device's own wait; what it only forwards comes from source 16. -/
def Strand.classesFor (t : Strand) (f : Fill) : List Nat :=
  let waits (c : Nat) : Bool := (t.sources c) != []
  let own (c : Nat) : Bool := (t.sources c).any (· != 16)
  let others := waits 1 || waits 2 || waits 3 || waits 4
  [0, 1, 4, 3, 2].filter fun c => waits c && (c != 0 || f.mgmt == 0 || !others) &&
    ((c != 3 && c != 4) || f.detour < 4 || !(own 1 || own 2))

/-- Choose who sends next: a requester that has waited 16 frames, the oldest first; else the partition that is owed most slots
under its CHL shares, in class order within it; where none with shares waits, the class order, round robin within the class
(06 R245, 11 R469, 20 R786, R787). -/
def Strand.choose (t : Strand) (chl : Nat → Nat) (f : Fill) : Option (Nat × Nat) :=
  let cs := t.classesFor f
  if cs.contains 0 then (nextAfter (Table.at t.lastSrc 0 16) (t.sources 0)).map fun x => (0, x)
  else
    let cand := cs.flatMap fun c => (t.sources c).map fun x => (c, x)
    let age (e : Nat × Nat) : Nat := ((t.ages.find? fun a => a.1 == e.1 && a.2.1 == e.2).map (·.2.2)).getD 0
    let oldest := (cand.map age).foldl max 0
    let shared := cand.filter fun e => 0 < chl e.2
    let owed (p : Nat) : Int := Table.at t.owed p 0
    if 16 ≤ oldest then cand.find? fun e => age e == oldest
    else match (shared.map fun e => owed e.2).max? with
      | some most => shared.find? fun e => owed e.2 == most
      | none => match cs with
        | c :: _ => (nextAfter (Table.at t.lastSrc c 16) (t.sources c)).map fun x => (c, x)
        | [] => none

/-- Take the first packet of a source out of a queue. -/
def takeFirst (src : Nat) : List (Nat × Packet) → Option (Packet × List (Nat × Packet))
  | [] => none
  | x :: r => if x.1 = src then some (x.2, r) else (takeFirst src r).map fun y => (y.1, x :: y.2)

/-- A slot that `src` takes is shared among the partitions that wait in proportion to their CHL shares: each is owed its part, and
`src` has had the whole; one that does not wait is owed nothing (06 R245, 20 R787). A source without shares takes only what is lent. -/
def Strand.charge (t : Strand) (chl : Nat → Nat) (c src : Nat) : Strand :=
  let w := ([1, 2, 3, 4].flatMap t.sources).dedup
  let all : Int := ((w.map chl).foldl (· + ·) 0 : Nat)
  let share (i : Nat) : Int := (chl i : Nat)
  if c = 0 ∨ chl src = 0 then t
  else { t with owed := t.owed.mapIdx fun i (x : Int) =>
    (if w.contains i then x + share i else 0) - (if i = src then all else 0) }

/-- Put one flit into the frame: the next of the packet in progress, or the header of a new one. -/
def Strand.putFlit (t : Strand) (f : Fill) (c src : Nat) : Strand × Fill :=
  let spend (t : Strand) : Strand := match creditIx c with
    | some i => { t with spent := Table.upd t.spent i fun (x : Nat) => (x + 1) % 65536 }
    | none => t
  let t1 := spend { t with
    lastSrc := Table.put t.lastSrc c src, ages := t.ages.filter fun a => !(a.1 == c && a.2.1 == src) }
  let f1 : Fill := { f with mgmt := f.mgmt + b2n (c == 0), detour := f.detour + b2n (c == 3 || c == 4) }
  match Table.at t.txNow c none with
  | some (_, p, n) =>
    let last := n == p.dflits
    ({ t1 with txNow := Table.put t1.txNow c (if last then none else some (src, p, n + 1)) },
     { f1 with slots := f1.slots ++ [.data c (bytesAt p.data (64 * (n - 1)) 64) last],
               ends := if last then f1.ends ++ [(src, p)] else f1.ends })
  | none => match takeFirst src (Table.at t.txq c []) with
    | none => (t, f)
    | some (p, rest) =>
      let last := p.dflits == 0
      ({ t1 with txq := Table.put t1.txq c rest, txNow := Table.put t1.txNow c (if last then none else some (src, p, 1)) },
       { f1 with slots := f1.slots ++ [.header { p with resends := 0 } last],
                 ends := if last then f1.ends ++ [(src, p)] else f1.ends })

/-- Fill up to `n` flit slots. -/
def Strand.fill (t : Strand) (chl : Nat → Nat) (f : Fill) : Nat → Strand × Fill
  | 0 => (t, f)
  | n + 1 =>
    match t.choose chl f with
    | none => (t, { f with slots := f.slots ++ List.replicate (n + 1) .empty })
    | some (c, src) =>
      let x := (t.charge chl c src).putFlit f c src
      x.1.fill chl x.2 n

/-- One more frame for every requester that still waits (20 R786). -/
def Strand.grow (t : Strand) : Strand :=
  let w := [1, 2, 3, 4].flatMap fun c => (t.sources c).map fun x => (c, x)
  { t with ages := w.map fun e => (e.1, e.2, ((t.ages.find? fun a => a.1 == e.1 && a.2.1 == e.2).map (·.2.2 + 1)).getD 1) }

/-- The control slot of a frame (11 Table 11-3). -/
def Strand.frameOf (t : Strand) (seq : Nat) (slots : List Flit) : Frame :=
  { seq := seq, ack := (t.rxSeq + 65535) % 65536, nak := if t.nak then some t.rxSeq else none,
    laneDrop := match t.laneArg with
      | some (l, true) => some l
      | _ => none,
    laneAdd := match t.laneArg with
      | some (l, false) => some l
      | _ => none,
    laneCal := t.laneCal, credits := t.freed, slots := slots }

/-- A codeword has been sent on a lane. -/
def Strand.sentOn (t : Strand) (l : Nat) : Strand :=
  { t with lastLane := l, mcount := Table.upd t.mcount l fun (x : Nat) => x + 1 }

/-- FRAME_TRANSMIT: the next codeword of the strand, on its next lane: a marker after 16,383 frames of the lane, a frame of the
replay, or a new frame while fewer than 256 are unacknowledged (11 R453, R454, R471, R472). -/
def State.evFrameTransmit (s : State) (k : Nat) : State :=
  let t := s.strandAt k
  if ¬ t.carries then s
  else match t.laneAfter t.lastLane with
    | none => s
    | some l =>
      if 16383 ≤ Table.at t.mcount l 0 then
        (s.updStrand k fun t => { t with lastLane := l, mcount := Table.put t.mcount l 0 }).emit (.marker k l (s.tsBlock k l 6))
      else match t.replayFrom.bind fun q => t.retry.find? fun f => f.frame.seq == q with
        | some f =>
          let next := (f.frame.seq + 1) % 65536
          let s1 := s.updStrand k fun t => { t.sentOn l with
            retry := t.retry.map fun x =>
              if x.frame.seq = f.frame.seq then { x with lane := l, replays := x.replays + 1 } else x,
            replays := satInc 32 t.replays,
            replayFrom := if t.retry.any (fun x => x.frame.seq == next) then some next else none }
          s1.emit (.frame k l { t.frameOf f.frame.seq f.frame.slots with credits := t.freed })
        | none =>
          if 256 ≤ t.retry.length then s
          else
            let x := t.fill (fun p => (s.partAt p).chl) {} 9
            let fr := x.1.frameOf t.txSeq x.2.slots
            let s1 := s.updStrand k fun _ => { x.1.grow.sentOn l with
              txSeq := (t.txSeq + 1) % 65536, replayFrom := none,
              retry := t.retry ++ [{ frame := fr, lane := l, ends := x.2.ends }] }
            s1.emit (.frame k l fr)

/-- A replay starts at a frame: where that frame has been replayed 8 times, the strand goes down (11 R472). The first frame
goes on the lane after the one that carried its failed copy. -/
def State.replay (s : State) (k seq : Nat) : State :=
  match (s.strandAt k).retry.find? fun f => f.frame.seq == seq with
  | none => s
  | some f =>
    if 8 ≤ f.replays then s.strandDown k .dark 2 .probe
    else s.updStrand k fun t => { t with replayFrom := some seq, lastLane := f.lane }

/-- 8 us with unacknowledged frames and no progress in ACK (11 R472). -/
def State.evReplayTimeout (s : State) (k : Nat) : State :=
  let t := s.strandAt k
  if ¬ t.carries then s
  else match t.retry with
    | f :: _ => s.replay k f.frame.seq
    | [] => s

/-! ### Receiving frames (11 R455, R464, R466, R471, R473, R474, R477) -/

/-- Return the credits of flits that have left the receive buffer (11 R466). -/
def State.freeCredits (s : State) (k cls n : Nat) : State :=
  match creditIx cls with
  | some i => s.updStrand k fun t => { t with freed := Table.upd t.freed i fun (x : Nat) => (x + n) % 65536 }
  | none => s

/-- A packet leaves the receive buffer of strand `k`, where it is held there, or firmware's queue (11 R466, 20 R784). -/
def State.takePacket (s : State) (k : Nat) (p : Packet) : State :=
  let s1 := if (s.strandAt k).rxBuf.contains p then
      (s.updStrand k fun t => { t with rxBuf := t.rxBuf.erase p }).freeCredits k p.cls p.flits
    else s
  { s1 with mesh := { s1.mesh with mgmtIn := s1.mesh.mgmtIn.erase (k, p) } }

/-- Forward the first leg of a detoured packet on the second leg, in REQ or RSP; with no strand to the target it is lost here
and not at its sender (11 R476, R490). -/
def State.forwardDetour (s : State) (p : Packet) : State :=
  match pickStrand (s.upTo p.dst) p with
  | some k => s.queueOn k 16 { p with cls := if p.isRsp then 1 else 2, hflags := p.hflags ||| 4 }
  | none => s

/-- Packets that came out of order and are now next in DSEQ order. -/
def State.releaseDetoured (s : State) (k src : Nat) : Nat → State
  | 0 => s
  | n + 1 =>
    let next := Table.at s.mesh.dseqRx src 0 + 1
    match s.mesh.dwait.find? fun p => p.src == src && p.dseq == next with
    | none => s
    | some p =>
      let s1 := { s with mesh := { s.mesh with
        dwait := s.mesh.dwait.erase p, dseqRx := Table.put s.mesh.dseqRx src next } }
      (s1.updStrand k fun t => { t with rxBuf := t.rxBuf ++ [p] }).releaseDetoured k src n

/-- A packet has wholly arrived: MGMT leaves its buffer at once, for firmware's queue of 64 or forwarded once; the first leg of
a detour is forwarded, and a packet on its second leg that is not for this device is lost, for no traffic crosses more than two
strands (01 R19); detoured packets for this device are delivered in DSEQ order, without duplicates; anything else waits
in the receive buffer (11 R464, R476, R477, R484, 20 R784). -/
def State.packetIn (s : State) (k : Nat) (p : Packet) : State :=
  if p.cls = 0 then
    let s1 := s.freeCredits k 0 p.flits
    if p.dst ≠ s.pos then
      (if p.hflags % 2 = 1 then match s1.mgmtTo p.dst with
        | j :: _ => s1.queueOn j 16 p
        | [] => s1
      else s1)
    else
      let q := s1.mesh.mgmtIn ++ [(k, p)]
      { s1 with mesh := { s1.mesh with mgmtIn := if 64 < q.length then q.drop (q.length - 64) else q } }
  else if p.dst ≠ s.pos then
    let s1 := s.freeCredits k p.cls p.flits
    if p.hflags.testBit 2 then s1 else s1.forwardDetour p
  else if p.dseq = 0 then s.updStrand k fun t => { t with rxBuf := t.rxBuf ++ [p] }
  else
    let have_ := Table.at s.mesh.dseqRx p.src 0
    let s1 := { s with mesh := { s.mesh with dackDue := s.mesh.dackDue ||| BitVec.ofNat 64 (2 ^ p.src) } }
    if p.dseq ≤ have_ then s1.freeCredits k p.cls p.flits
    else if p.dseq = have_ + 1 then
      let s2 := { s1 with mesh := { s1.mesh with dseqRx := Table.put s1.mesh.dseqRx p.src p.dseq } }
      (s2.updStrand k fun t => { t with rxBuf := t.rxBuf ++ [p] }).releaseDetoured k p.src s2.mesh.dwait.length
    else { s1 with mesh := { s1.mesh with dwait := if s1.mesh.dwait.contains p then s1.mesh.dwait else s1.mesh.dwait ++ [p] } }

/-- One flit slot of an accepted frame. -/
def State.flitIn (s : State) (k : Nat) (x : Flit) : State :=
  match x with
  | .empty => s
  | .header p last =>
    if last then s.packetIn k p else s.updStrand k fun t => { t with rxPart := Table.put t.rxPart p.cls (some { p with data := [] }) }
  | .data cls bytes last =>
    match Table.at (s.strandAt k).rxPart cls none with
    | none => s
    | some p =>
      let p' := { p with data := p.data ++ bytes }
      if last then (s.updStrand k fun t => { t with rxPart := Table.put t.rxPart cls none }).packetIn k p'
      else s.updStrand k fun t => { t with rxPart := Table.put t.rxPart cls (some p') }

/-- `a` is at or before `b` in sequence order, modulo 65,536. -/
def seqLe (a b : Nat) : Bool := (b + 65536 - a) % 65536 < 32768

/-- A lane comes back into service (11 R474). -/
def State.laneBack (s : State) (k l : Nat) : State :=
  (s.updStrand k fun t =>
    { t with lanes := t.lanes ||| BitVec.ofNat 4 (2 ^ l), readmitAt := Table.put t.readmitAt l (some s.now),
             droppedAt := Table.put t.droppedAt l none, laneBad := Table.put t.laneBad l 0,
             retested := t.retested &&& ~~~ BitVec.ofNat 4 (2 ^ l) }).log 0x3002 (param [(1, k), (1, l), (1, Config.codeOf 7 0)])

/-- The lane flags of a good frame: the same flag as one's own acknowledges it, and any other is taken up and echoed
(11 R473, R474). -/
def State.laneFlags (s : State) (k : Nat) (f : Frame) : State :=
  let s1 := match f.laneDrop with
    | none => s
    | some l =>
      if (s.strandAt k).laneArg = some (l, true) then s.updStrand k fun t => { t with laneArg := none }
      else s.dropLane k l 5
  let s2 := match f.laneAdd with
    | none => s1
    | some l =>
      if (s1.strandAt k).laneArg = some (l, false) then (s1.updStrand k fun t => { t with laneArg := none }).laneBack k l
      else if (s1.strandAt k).lanes.getLsbD l then s1
      else (s1.updStrand k fun t => { t with laneArg := some (l, false) }).laneBack k l
  s2.updStrand k fun t => { t with peerCal := f.laneCal }

/-- FRAME_RECEIVE: a bad frame, or one on a lane out of service (R491), is counted on its lane and answered with NAK; a good one gives ACK,
credits, NAK and lane flags, and its flits where it is the next in SEQ order (11 R455, R471, R473). -/
def State.evFrameReceive (s : State) (k lane : Nat) (bad : Bool) (f : Frame) : State :=
  let t := s.strandAt k
  if ¬ t.carries then s
  else if bad ∨ ¬ t.lanes.getLsbD lane then
    let n := Table.at t.laneBad lane 0 + 1
    let s1 := s.updStrand k fun t => { t with nak := true, laneBad := Table.put t.laneBad lane n }
    if 8 ≤ n then s1.dropLane k lane 1 else s1
  else
    let s1 := s.updStrand k fun t =>
      { t with laneBad := Table.put t.laneBad lane 0, returned := f.credits,
               retry := t.retry.filter fun x => !seqLe x.frame.seq f.ack }
    let s2 := s1.laneFlags k f
    let s3 := match f.nak with
      | some q => s2.replay k q
      | none => s2
    if (s3.strandAt k).carries ∧ f.seq = t.rxSeq then
      let s4 := s3.updStrand k fun t => { t with rxSeq := (t.rxSeq + 1) % 65536, nak := false }
      f.slots.foldl (fun s x => s.flitIn k x) s4
    else s3

/-- MARKER_RECEIVE: lane identity and the link epoch are kept (11 R453); a marker that fails its tests is ignored (R455). In T4 the
peer's requests for taps are applied, one a block (Table 11-4, 12 R515). -/
def State.evMarkerReceive (s : State) (k lane : Nat) (bad : Bool) (b : TsBlock) : State :=
  let t := s.strandAt k
  if bad ∨ ¬ b.good ∨ b.lane ≠ lane then s
  else if t.state = .training ∧ t.stage = 3 then s.updStrand k fun t => t.txReq b.txReq
  else if ¬ t.carries then s
  else s.updStrand k fun t => { t with peerEpoch := b.linkEpoch }

/-- LANE_RETEST: T1 to T4 on a dropped lane alone (11 R474). -/
def State.evLaneRetest (s : State) (k lane : Nat) (pass : Bool) : State :=
  let t := s.strandAt k
  if t.carries ∧ (Table.at t.droppedAt lane none).isSome then
    s.updStrand k fun t =>
      let b := BitVec.ofNat 4 (2 ^ lane)
      { t with retested := if pass then t.retested ||| b else t.retested &&& ~~~ b }
  else s

/-- LANE_READMIT: through LANE_ADD, at most once per 10 s (11 R474). -/
def State.evLaneReadmit (s : State) (k lane : Nat) : State :=
  let t := s.strandAt k
  let rested : Bool := match Table.at t.readmitAt lane none with
    | some u => decide (327680 ≤ s.now - u)
    | none => true
  if t.carries ∧ t.retested.getLsbD lane ∧ ¬ t.lanes.getLsbD lane ∧ t.laneArg = none ∧ rested then
    s.updStrand k fun t => { t with laneArg := some (lane, false) }
  else s

/-! ### Reconciliation (11 R475, R480, R495, 20 R788) -/

/-- Resend one packet by another strand to the same peer or by detour; after 8 resends, or with no path, a request ends
NOT_READY and a response is discarded. Answers (resent, NOT_READY). -/
def State.resendOne (s : State) (x : Nat × Packet) : (Nat × Nat) × State :=
  let p := { x.2 with resends := x.2.resends + 1 }
  let aborted := x.1 < 16 && (s.partAt x.1).stopCause.isSome
  if aborted then ((0, 0), s)
  else if 8 < p.resends then let e := s.endRequest p; ((0, b2n e.1), e.2)
  else
    let t := s.sendPacket x.1 p
    if t.1 then
      ((1, 0), { t.2 with mesh := { t.2.mesh with resent := satInc 32 t.2.mesh.resent } })
    else
      let e := t.2.endRequest p
      ((0, b2n e.1), { e.2 with mesh := { e.2.mesh with nopath := if e.1 then satInc 32 e.2.mesh.nopath else e.2.mesh.nopath } })

/-- Resend a list of packets in order. -/
def State.resendAll (s : State) (l : List (Nat × Packet)) : (Nat × Nat) × State :=
  l.foldl (fun a x => let r := a.2.resendOne x; ((a.1.1 + r.1.1, a.1.2 + r.1.2), r.2)) ((0, 0), s)

/-- Is this packet on the first leg of a detour of this device's own? -/
def State.ownDetour (s : State) (p : Packet) : Bool := p.src == s.pos && p.dseq != 0

/-- The copy of a packet that waits for a DACK (11 R477). -/
def State.dstored (s : State) (p : Packet) : Option Packet := s.mesh.dstore.find? fun q => q.dst == p.dst && q.dseq == p.dseq
def State.dropStored (s : State) (p : Packet) : State :=
  { s with mesh := { s.mesh with dstore := s.mesh.dstore.filter fun q => !(q.dst == p.dst && q.dseq == p.dseq) } }

/-- A packet of a lost strand goes again. One that this device only forwards takes another strand to its target, and never a
third strand (01 R19): where none is left it is lost here and not at its sender (11 R490). One on the first leg of a detour of
this device's own keeps its DSEQ and its intermediate; once the intermediate has changed it has gone again already (R477). -/
def State.resendLost (s : State) (x : Nat × Packet) : (Nat × Nat) × State :=
  let counted (t : State) : (Nat × Nat) × State := ((1, 0), { t with mesh := { t.mesh with resent := satInc 32 t.mesh.resent } })
  if x.2.hflags.testBit 2 then
    match pickStrand (s.upTo x.2.dst) x.2 with
    | some k => counted (s.queueOn k 16 x.2)
    | none => ((0, 0), s)
  else if s.ownDetour x.2 then
    match s.dstored x.2 with
    | none => ((0, 0), s)
    | some q =>
      let q' := { q with resends := q.resends + 1 }
      if 8 < q'.resends then
        let e := (s.dropStored q).endRequest q
        ((0, b2n e.1), e.2)
      else
        let s1 := { s with mesh := { s.mesh with dstore := s.mesh.dstore.map fun p => if p = q then q' else p } }
        match pickStrand (s.upTo q.via) q' with
        | some k => counted (s1.queueOn k x.1 q')
        | none => ((0, 0), s1)
  else s.resendOne x

/-- A packet of a reconciliation that has failed: a request ends NOT_READY, a response is discarded, and a packet of a detour
that goes by another intermediate meanwhile is not touched (11 R475, R477). -/
def State.lostPacket (s : State) (x : Nat × Packet) : Bool × State :=
  if s.ownDetour x.2 then
    match s.dstored x.2 with
    | none => (false, s)
    | some q => (s.dropStored q).endRequest q
  else s.endRequest x.2

/-- The packets of a reconciliation that do not lie wholly in frames up to `last`, and those that waited. -/
def reconPackets (last : Option Nat) (r : Nat × List Sent × List (Nat × Packet)) : List (Nat × Packet) :=
  (r.2.1.filter fun f => match last with
    | some q => !seqLe f.frame.seq q
    | none => true).flatMap (·.ends) ++ r.2.2

/-- A reconciliation ends: the record of R475, the answer to a STRAND_SET that waits for it, and the strand's buffers given up
for good. -/
def State.reconEnd (s : State) (k resent notReady : Nat) : State :=
  let s1 := s.updStrand k fun t =>
    { t with recon := none, resentBySet := resent,
             retry := if t.state = .up ∨ t.state = .mgmtOnly then t.retry else [],
             trip := if t.state = .up ∨ t.state = .mgmtOnly then t.trip else none,
             txq := if t.state = .up ∨ t.state = .mgmtOnly then t.txq else Vector.replicate 5 [],
             txNow := if t.state = .up ∨ t.state = .mgmtOnly then t.txNow else Vector.replicate 5 none }
  let s2 := s1.log 0x3004 (param [(1, k), (4, resent), (4, notReady)])
  if (s2.strandAt k).state = .disabled then s2.answerWaiting (.strand k) .ok 0 fun _ => leBytes 4 resent else s2

/-- The peer's answer LAST: resend what it does not cover (11 R475). -/
def State.reconResend (s : State) (k last : Nat) : State :=
  match (s.strandAt k).recon with
  | none => s
  | some r =>
    let x := (reconPackets (some last) r).foldl (fun a x =>
      let y := a.2.resendLost x; ((a.1.1 + y.1.1, a.1.2 + y.1.2), y.2)) ((0, 0), s)
    x.2.reconEnd k x.1.1 x.1.2

/-- UNKNOWN, or no answer within 10 ms: nothing is resent; requests end NOT_READY and responses are discarded (11 R475). -/
def State.reconFail (s : State) (k : Nat) : State :=
  match (s.strandAt k).recon with
  | none => s
  | some r =>
    let x := (reconPackets none r).foldl (fun a y =>
      let e := a.2.lostPacket y; (a.1 + b2n e.1, e.2)) (0, s)
    x.2.reconEnd k 0 x.1

/-- Is a request among the packets that a reconciliation still holds? That reconciliation ends it (11 R475). -/
def State.inRecon (s : State) (r : Resv) : Bool :=
  s.mesh.strand.any fun t => match t.recon with
    | some x => (reconPackets none x).any fun y => !y.2.isRsp && y.2.src == s.pos && y.2.reqId == r.reqId && y.2.epoch == r.epoch
    | none => false

/-- A request that was delivered and not answered, to a peer that no path reaches, ends NOT_READY; a tally wait ends by its
own timeout (01 R31, R33). -/
def State.endUnreached (s : State) (d : Nat) : State :=
  if s.hasPath d then s
  else
    (s.mesh.resv.filter fun r => r.peer == d && !s.inRecon r && (r.waiter.map (·.dest)) != some .watch).foldl
      (fun s r => (s.endRequest r.packet).2) s

/-- Follow the paths: every position whose detour has changed takes its new intermediate, with every packet that no DACK has covered sent
again (11 R476, R477); what no path reaches any longer ends (01 R31); and the map of positions without a path is brought up to date (20
Table 20-3). -/
def State.followPaths (s : State) : State :=
  if ¬ s.mesh.pathDirty then s
  else
    let s0 := { s with mesh := { s.mesh with pathDirty := false } }
    let s1 := (List.range s.row.rowSize).foldl (fun s d =>
      if d = s.pos then s
      else
        let direct := !(s.upTo d).isEmpty
        let want := if direct then none else s.viaTo d
        if want = Table.at s.mesh.via d none then s
        else
          let held := s.mesh.dstore.filter fun p => p.dst == d
          let s1 := s.pathsChanged d
          let s2 := { s1 with mesh := { s1.mesh with dstore := s1.mesh.dstore.filter fun p => p.dst != d } }
          ((s2.resendAll (held.map fun p => (16, p))).2)) s0
    let s2 := (List.range s.row.rowSize).foldl (fun s d => if d = s.pos then s else s.endUnreached d) s1
    { s2 with mesh := { s2.mesh with
        pathDirty := false,
        nopathMap := BitVec.ofNat 64 (maskOf ((List.range s.row.rowSize).filter fun d => d != s.pos && !s2.hasPath d)) } }

/-! ### Management messages (11 R475-R477, R484, R485) -/

/-- RECON_TIMEOUT (11 R475). -/
def State.evReconTimeout (s : State) (k : Nat) : State := s.reconFail k

/-- LINKMAP: the sender's UP strands (11 R476, R484). -/
def State.evLinkmap (s : State) (p : Packet) : State :=
  if p.src < 64 then
    { s with mesh := { s.mesh with linkmap := Table.put s.mesh.linkmap p.src (BitVec.ofNat 64 p.opnd0), pathDirty := true } }
  else s

/-- LINKMAP_SEND: to every position of the row, once a strand is UP (11 R484). -/
def State.evLinkmapSend (s : State) : State :=
  if s.upPositions = 0 then s
  else
    let s1 := (List.range s.row.rowSize).foldl (fun s d => if d = s.pos then s else s.sendMgmt d 0x01 s.upPositions 0) s
    { s1 with mesh := { s1.mesh with linkDirty := false } }

/-- DEPART: the strand it came on goes to DARK with LAST_DOWN = 4, and its traffic is reconciled at once (11 R485). -/
def State.evDepart (s : State) (k : Nat) : State :=
  if (s.strandAt k).state = .up ∨ (s.strandAt k).state = .mgmtOnly ∨ (s.strandAt k).state = .paused then
    s.strandDown k .dark 4 .probe
  else s

/-- RECON_REQ: names the sender's strand and its LINK_EPOCH; the answer is LAST, or UNKNOWN where that epoch is no longer
current; what is not wholly received is discarded (11 R475; the layout is log entry 21's). -/
def State.evReconReq (s : State) (p : Packet) : State :=
  let k := mateOf (p.opnd0 % 256)
  let e := p.opnd0 / 256 % 65536
  let t := s.strandAt k
  let live := t.peerEpoch == e && (t.state == .up || t.state == .mgmtOnly || t.state == .safety || t.state == .paused)
  let ans : Option Nat := if live then some ((t.rxSeq + 65535) % 65536) else match t.lastEpochSeq with
    | some x => if x.1 = e then some x.2 else none
    | none => none
  let s1 := if live then
      (s.updStrand k fun t => { t with
        rxPart := Vector.replicate 5 none, lastEpochSeq := some (e, (t.rxSeq + 65535) % 65536),
        trip := t.trip.map fun x => (x.1, false) })
    else s
  let s2 := if live ∧ (t.state = .up ∨ t.state = .mgmtOnly) then s1.strandDown k .dark 1 .probe else s1
  s2.sendMgmt p.src 0x04 p.opnd0 (ans.getD 65536)

/-- RECON_RSP: OPND1 is LAST, or has bit 16 set for UNKNOWN (11 R475; the layout is log entry 21's). -/
def State.evReconRsp (s : State) (p : Packet) : State :=
  let k := p.opnd0 % 256
  match (s.strandAt k).recon with
  | none => s
  | some r =>
    if r.1 ≠ p.opnd0 / 256 % 65536 ∨ p.src ≠ s.peerOf k then s
    else if p.opnd1 < 65536 then s.reconResend k p.opnd1 else s.reconFail k

/-- DACK: packets up to OPND1 that were sent by detour to its sender are covered (11 R477). -/
def State.evDack (s : State) (p : Packet) : State :=
  if p.opnd0 = s.pos then
    { s with mesh := { s.mesh with dstore := s.mesh.dstore.filter fun q => !(q.dst == p.src && q.dseq ≤ p.opnd1) } }
  else s

/-- DACK_SEND, at least every 10 us while detoured packets arrive (11 R477). -/
def State.evDackSend (s : State) (dst : Nat) : State :=
  if s.mesh.dackDue.getLsbD dst then
    ({ s with mesh := { s.mesh with dackDue := s.mesh.dackDue &&& ~~~ BitVec.ofNat 64 (2 ^ dst) } }).sendMgmt dst 0x05 dst
      (Table.at s.mesh.dseqRx dst 0)
  else s

/-- The MTYPEs of Table 11-11. -/
def knownMtype (m : Nat) : Bool := [1, 2, 3, 4, 5, 0x10, 0x11, 0x12, 0x13, 0x7F].contains m

/-- An unknown MTYPE is answered with REJECT carrying BAD_OPCODE in STATUS (11 R484); a REJECT received is recorded in a field of the
model's own (log entry 107). -/
def State.evMgmtReject (s : State) (p : Packet) : State :=
  if p.op = 0x7F then { s with mesh := { s.mesh with rejected := some (p.src, p.status) } }
  else if knownMtype p.op then s
  else s.rejectMgmt p .badOpcode

/-! ### Issuing requests (11 R467, R470, R476, R478) -/

/-- Flits that the answer to a request takes (11 R467). -/
def answerFlits (p : Packet) : Nat := if p.ptype = 1 then 1 + p.len / 64 else if p.ptype = 5 then 2 else 1

/-- Flits of the 8 MiB response buffer that a partition's reservations hold. -/
def State.resvOfPart (s : State) (p : Nat) : Nat := ((s.mesh.resv.filter fun r => r.part == p).map (·.flits)).sum
def State.resvTotal (s : State) : Nat := (s.mesh.resv.map (·.flits)).sum

/-- Space for an answer: within the partition's CHL shares of 131,072 flits, or in space that is free and that no partition
waits for within its own shares (11 R467, 06 R245). -/
def State.resvRoom (s : State) (i : Issue) : Bool :=
  let n := answerFlits i.packet
  let within (p m : Nat) : Bool := s.resvOfPart p + m ≤ (s.partAt p).chl * 2048
  s.resvTotal + n ≤ 131072 &&
    (within i.part n || !(s.mesh.issue.any fun j => j.part != i.part && within j.part (answerFlits j.packet)))

/-- What holds a queued request back, if anything: no path ends it at once; the fence, the reservation and the detour store
make it wait. -/
inductive IssueGate where
  | go | noPath | wait
  deriving DecidableEq, Repr

def State.issueGate (s : State) (i : Issue) : IssueGate :=
  if ¬ s.hasPath i.packet.dst then .noPath
  else if s.mesh.fence.getLsbD (i.packet.dst % 64) ∨ ¬ s.resvRoom i ∨ ((s.upTo i.packet.dst).isEmpty ∧ ¬ s.dstoreRoom) then .wait
  else .go

/-- Send a queued request: its answer reserved, on the hashed strand or by detour (11 R467, R470, R476). It takes a REQ_ID of its
own; a WATCH_CANCEL carries that of the watch it cancels, whose reservation ends with the CANCEL_ACK (11 R468, log entry 21). -/
def State.issueGo (s : State) (i : Issue) : State :=
  let p := if i.packet.ptype = 6 then i.packet else { i.packet with reqId := s.mesh.reqId }
  let strand := (pickStrand (s.upTo p.dst) p).getD 64
  let r : Resv := { reqId := p.reqId, epoch := p.epoch, part := i.part, peer := p.dst, strand := strand, flits := answerFlits p,
                    waiter := i.waiter, packet := p }
  ({ s with mesh := { s.mesh with
      issue := s.mesh.issue.erase i, reqId := (s.mesh.reqId + 1) % 2 ^ 32, resv := s.mesh.resv ++ [r] } }).sendPacket i.part p |>.2

/-- A request with no path is answered NOT_READY locally at once, and counted (11 R476). -/
def State.issueNoPath (s : State) (i : Issue) : State :=
  { s with mesh := { s.mesh with
      issue := s.mesh.issue.erase i, nopath := satInc 32 s.mesh.nopath,
      ended := match i.waiter with
        | some w => s.mesh.ended ++ [(w, i.packet)]
        | none => s.mesh.ended } }

/-- CHL_REQUEST_ISSUE: the oldest queued request that nothing holds back (11 R467). -/
def State.evChlRequestIssue (s : State) : State :=
  match s.mesh.issue.find? fun i => s.issueGate i != .wait with
  | none => s
  | some i => if s.issueGate i = .go then s.issueGo i else s.issueNoPath i

/-! ### What the device promises (20 R775-R779) -/

/-- CHL_PROMISE [3:0] as the device judges its conditions (20 Table 20-3). -/
def State.promiseCauses (s : State) : BitVec 4 :=
  let od := s.ring.any (·.overdue)
  let mw := s.mesh.strand.any (·.state == .miswired)
  let cm := s.mesh.strand.any (·.state == .mgmtOnly) ||
    (List.range s.row.rowSize).any fun d => match s.current d with
      | some m => m.compat != s.boot.compat
      | none => false
  BitVec.ofNat 4 (b2n od + 2 * b2n cm + 4 * b2n mw + 8 * b2n (s.mesh.nopathMap != 0))

/-- The Calender code of the record whose event changed HELD (20 R779). -/
def State.promiseCode (s : State) (c : BitVec 4) : Nat :=
  match s.cal.recs with
  | r :: _ =>
    if r.code = 0x3001 ∨ r.code = 0x2002 ∨ r.code = 0x3004 then r.code
    else if (c ^^^ s.mesh.promCauses).getLsbD 0 then 0x2002 else 0x3001
  | [] => 0x3001

/-- Bring CHL_PROMISE up to date: a change of HELD sends one LINK notice to mailbox 16, and a fall is counted
(20 R778, R779). -/
def State.followPromise (s : State) : State :=
  let c := s.promiseCauses
  let held := c == 0 && s.inService
  let s1 := { s with mesh := { s.mesh with
    promCauses := c, promHeld := held, breaches := if s.mesh.promHeld && !held then satInc 16 s.mesh.breaches else s.mesh.breaches } }
  if held = s.mesh.promHeld then s1
  else
    let t := s.stamp
    let n : Notice := { nclass := 3, code := s.promiseCode c, nseq := 0, timeS := t.2.1, timeF := t.2.2, timeInvalid := t.1,
                        raise := !held, param := param [(4, c.toNat)] }
    if (s.pageAt 16).mask.getLsbD 3 then s1.deliverNotice 16 n else s1

end Sys2Proof.Machine
end

