-- ==== Sys2Proof/Machine/PhotonicEv.lean ====
section
/-! DEFINITION. What the events of rings and lasers do (chapter 12). -/
namespace Sys2Proof.Machine

/-- May a bank be swept now: its array at temperature and fed; port banks outside DORMANT, HELD and SAFE, once every port array is at
temperature; scorer banks in order while WARMING (12 R508)? -/
def State.sweepReady (s : State) (b : Nat) : Bool :=
  (s.laserAt (s.arrayAt b)).atTemp && s.supply.vphoOk &&
  (if b < 16 then ((List.range 16).all fun p => (s.laserAt (s.arrayAt p)).atTemp) &&
     s.dev.state != .dormant && s.dev.state != .held && s.dev.state != .safe && s.dev.state != .off
   else s.wmk.state == .warming && (s.wmk.tried == b - 16 || (ringsOfBank b).any fun n => (s.ring704At n).state == .sweep))

/-- One ring of a sweep: it locks where a resonance was found, and fails the sweep otherwise (12 R508, R510). -/
def State.sweepRing (s : State) (n : Nat) (found : List Resonance) (again : Bool) : State :=
  let r := s.ring704At n
  if r.state = .failed ∨ (again ∧ r.state ≠ .sweep) then s
  else match sweepPick found with
    | some f => s.ringLock n f.1 f.2
    | none => s.sweepFail n

/-- BANK_SWEEP (12 R508): the bank's laser turns on with the shutters closed, each ring locks at the resonance found or
fails, a port bank is swept once per cold boot, and a scorer bank's channels enter service. A further sweep of a bank serves
the rings still in SWEEP. -/
def State.evBankSweep (s : State) (b : Nat) (found : List (List Resonance)) : State :=
  if s.sweepReady b then
    let again := if b < 16 then s.pho.swept.getLsbD b else b - 16 < s.wmk.tried
    let s1 := s.laserLight (s.arrayAt b)
    let s2 := ((ringsOfBank b).zip (found ++ List.replicate (48 - found.length) [])).foldl
      (fun s x => s.sweepRing x.1 x.2 again) s1
    if b < 16 then { s2 with pho := { s2.pho with swept := s2.pho.swept ||| BitVec.ofNat 16 (2 ^ b) } }
    else
      let s3 := if again then s2 else { s2 with wmk := { s2.wmk with tried := b - 16 + 1 } }
      (s3.bankRefresh (b - 16)).scorerJudge
  else s

/-- SUBMOUNT_AT_TEMPERATURE (12 R521): the array may light; a swept bank's rings reacquire by the resonance map; and a
position with failed wavelengths takes the spare that has come to temperature (12 R525). -/
def State.evSubmount (s : State) (a : Nat) (temp : Int) : State :=
  if (s.laserAt a).heater then
    let s1 := s.updLaser a fun l =>
      { l with atTemp := true, submount := temp, state := if l.state = .off then .warm else l.state }
    match s1.posOfArray a with
    | some pos =>
      if s1.bankInUse pos ∧ (if pos < 16 then s1.pho.swept.getLsbD pos = true else pos - 16 < s1.wmk.tried) then
        (ringsOfBank pos).foldl (fun s n => s.updRing704 n fun r =>
          if r.state = .parked then { r with state := if r.map.isSome then .acquire else .sweep } else r) (s1.laserLight a)
      else s1
    | none =>
      match (List.range 20).find? fun pos =>
          (s1.laserAt (s1.arrayAt pos)).failed != 0 && (s1.laserAt (s1.arrayAt pos)).state != .off with
      | some pos => match s1.freeSpare with
        | some sp => s1.takeSpare pos sp
        | none => s1
      | none => s1
  else s

/-- RING_LOCK_UPDATE (12 R504): the lock error is the measured ratio less the target, scaled by the slope, in 0.01 pm; the PI law moves the
heater word, which sets RAIL at either end (R514); a scorer channel's error beyond 1.5 pm marks its window bad (R412, R513). The fixed-point
scales are log entry 22's. -/
def State.evLockUpdate (s : State) (n : Nat) (ratio : Int) : State :=
  let r := s.ring704At n
  if r.state = .locked ∧ s.waveLit n then
    let err := clampInt (-2047) 2047 ((ratio - r.target) * r.slope / 32768)
    let acc := r.acc + r.ki * err
    let word := (clampInt 0 65535 (r.word - (r.kp * err + acc) / 65536)).toNat
    let s1 := s.updRing704 n fun r =>
      { r with err := err, acc := acc, word := word, rail := r.rail || decide (word < 16 ∨ 65520 ≤ word) }
    if 512 ≤ n ∧ 150 < err.natAbs then
      let c := channelOfRing n
      let b := BitVec.ofNat 64 (2 ^ c)
      if s1.wmk.badOnce.getLsbD c then (s1.channelOut c).scorerJudge
      else { s1 with wmk := { s1.wmk with badOnce := s1.wmk.badOnce ||| b } }
    else s1
  else s

/-- NARROW_ACQUIRE (12 R509): a ring in ACQUIRE or LOST locks at the resonance found, or falls back to a full sweep of that
ring alone. A takeover is over when no ring of its bank is left in ACQUIRE (12 Table 12-4). -/
def State.evNarrow (s : State) (n : Nat) (found : Option Resonance) : State :=
  let r := s.ring704At n
  if (r.state = .acquire ∨ r.state = .lost) ∧ r.map.isSome then
    let s1 := match r.map.bind fun m => narrowPick (narrowSeed m s.zoneTemp) found with
      | some f => s.ringLock n f.1 f.2
      | none => s.updRing704 n fun r => { r with state := .sweep }
    if (ringsOfBank (bankOf n)).any fun m => (s1.ring704At m).state == .acquire then s1
    else { s1 with pho := { s1.pho with takeover := s1.pho.takeover.filter fun t => t.2 != bankOf n } }
  else s

/-- RING_LOST (12 R511): lock error beyond 3 pm for 200 us, or low tap power for 200 us with the wavelength at set power. A
ring whose wavelength is dark or failed holds its word and does not enter LOST. -/
def State.evRingLost (s : State) (n : Nat) (lowTap : Bool) : State :=
  if (s.ring704At n).state = .locked ∧ s.waveLit n ∧ (lowTap ∨ 300 < (s.ring704At n).err.natAbs) then s.ringLose n else s

/-- RING_RAIL (12 R514): RAIL sets at code 0 or 4,095; after 100 ms there the ring enters LOST; after 100 ms away from both
ends RAIL clears. -/
def State.evRingRail (s : State) (n : Nat) (held : Bool) : State :=
  let r := s.ring704At n
  if r.state = .locked then
    if r.code = 0 ∨ r.code = 4095 then
      (if held ∧ r.rail then s.ringLose n else s.updRing704 n fun r => { r with rail := true })
    else if held then s.updRing704 n fun r => { r with rail := false } else s
  else s

/-- LASER_POWER_UPDATE (12 R520, R523): each wavelength's bias moves by the difference of set and monitor power (log entry
22), and a bias beyond 130 % of its first calibrated value marks the wavelength ageing, with one record. -/
def State.evLaserPower (s : State) (a : Nat) (monitor : List Nat) : State :=
  let l := s.laserAt a
  if l.lit then
    let bias' : Vector Nat 16 := l.bias.mapIdx fun i (b : Nat) =>
      if l.failed.getLsbD i then b
      else (clampInt 0 65535 ((b : Int) + l.setPower - ((monitor[i]?).getD l.setPower : Nat))).toNat
    let old := (List.range 16).filter fun i =>
      !l.ageing.getLsbD i && ((Table.at l.bias0 i none).elim false fun b0 => 130 * b0 < 100 * Table.at bias' i 0)
    let s1 := s.updLaser a fun l =>
      { l with bias := bias', ageing := l.ageing ||| BitVec.ofNat 16 (maskOf old) }
    old.foldl (fun s i => s.log 0x4005 (param [(1, a), (1, i)])) s1
  else s

/-- WAVELENGTH_FAIL (12 R523): wavelengths of a lit array below 70 % at the bias limit, or the whole array when a sub-mount
that has reached temperature drifts; while it is warming that test does not apply (12 R521). -/
def State.evWaveFail (s : State) (a : Nat) (mask : BitVec 16) (submount : Bool) : State :=
  let l := s.laserAt a
  let m := if submount then 0xFFFF#16 else mask
  let fresh := m &&& ~~~ l.failed
  if l.atTemp ∧ l.state ≠ .retired ∧ (submount ∨ l.lit) ∧ fresh ≠ 0 then s.wavesFail a fresh else s

end Sys2Proof.Machine
end

