-- ==== Sys2Proof/Machine/Fp.lean ====
section
/-! DEFINITION. Number formats, rounding to nearest with ties to even, and the wide accumulators' arithmetic
(08 R348-R358): values are computed exactly as integers times powers of two and rounded once. -/
namespace Sys2Proof.Machine

/-- A value of a format: a finite value is ± m × 2^e. -/
inductive FVal where
  | nan
  | inf (neg : Bool)
  | fin (neg : Bool) (m : Nat) (e : Int)
  deriving DecidableEq, Repr

/-- Bits of precision, and the exponents of the smallest and the largest normal value (08 Table 08-4). -/
structure FmtInfo where
  p : Nat
  emin : Int
  emax : Int
  deriving DecidableEq, Repr

def Fmt.info : Fmt → FmtInfo
  | .fp32 => ⟨24, -126, 127⟩
  | .bf16 => ⟨8, -126, 127⟩
  | .e5m2 => ⟨3, -14, 15⟩
  | .e4m3 => ⟨4, -6, 8⟩
  | .pb8 => ⟨8, 0, 0⟩
  | .pb4 => ⟨4, 0, 0⟩

/-- Width of an element in bits. -/
def Fmt.bits : Fmt → Nat
  | .fp32 => 32 | .bf16 => 16 | .e4m3 => 8 | .e5m2 => 8 | .pb8 => 8 | .pb4 => 4

/-- The canonical NaN (08 R349). -/
def Fmt.canonicalNan : Fmt → Nat
  | .fp32 => 0x7FC00000 | .bf16 => 0x7FC0 | .e4m3 => 0x7F | .e5m2 => 0x7E | _ => 0

/-- The bits of the largest finite value (08 Table 08-4). -/
def Fmt.largest : Fmt → Nat
  | .fp32 => 0x7F7FFFFF | .bf16 => 0x7F7F | .e4m3 => 0x7E | .e5m2 => 0x7B | _ => 0

/-- The bits of +infinity; E4M3 has none (08 R349). -/
def Fmt.infinity : Fmt → Nat
  | .fp32 => 0x7F800000 | .bf16 => 0x7F80 | .e5m2 => 0x7C | _ => 0

/-- Read an element (08 R348, R349). -/
def Fmt.decode (f : Fmt) (w : Nat) : FVal :=
  let i := f.info
  let n := f.bits
  let neg := bitOf w (n - 1)
  let mag := w % 2 ^ (n - 1)
  let ex := mag / 2 ^ (i.p - 1)
  let man := mag % 2 ^ (i.p - 1)
  if f = .e4m3 ∧ mag = 0x7F then .nan
  else if f ≠ .e4m3 ∧ f.infinity < mag then .nan
  else if f ≠ .e4m3 ∧ mag = f.infinity then .inf neg
  else if ex = 0 then .fin neg man (i.emin - (i.p - 1))
  else .fin neg (man + 2 ^ (i.p - 1)) (i.emin - (i.p - 1) + (ex - 1 : Nat))

/-- The sign bit of a format. -/
def Fmt.sign (f : Fmt) (neg : Bool) : Nat := if neg then 2 ^ (f.bits - 1) else 0

/-- Round a value to a format: to nearest, ties to even, with gradual subnormals; beyond the largest finite value, infinity,
or ±448 in E4M3 (08 R350, R351, Table 08-5). -/
def Fmt.round (f : Fmt) (x : FVal) : Nat :=
  match x with
  | .nan => f.canonicalNan
  | .inf neg => if f = .e4m3 then f.canonicalNan else f.sign neg + f.infinity
  | .fin neg m e =>
    if m = 0 then f.sign neg
    else
      let i := f.info
      let qmin := i.emin - (i.p - 1)
      let q := max qmin (e + (Nat.log2 m : Nat) - (i.p - 1))
      let m' : Nat := if q ≤ e then m * 2 ^ (e - q).toNat else (rneDiv m (2 ^ (q - e).toNat)).toNat
      let w := (q - qmin).toNat * 2 ^ (i.p - 1) + m'
      let w' := if f.largest < w then (if f = .e4m3 then f.largest else f.infinity) else w
      f.sign neg + w'

/-- A finite value as a signed integer times a power of two. -/
def signedMan (neg : Bool) (m : Nat) : Int := if neg then -(m : Int) else m

/-- The exact sum of two values (IEEE 754 signed zeros: an exact zero sum is +0 unless both terms are −0). -/
def FVal.add (x y : FVal) : FVal :=
  match x, y with
  | .nan, _ => .nan
  | _, .nan => .nan
  | .inf a, .inf b => if a = b then .inf a else .nan
  | .inf a, .fin _ _ _ => .inf a
  | .fin _ _ _, .inf b => .inf b
  | .fin a m e, .fin b n f =>
    if m = 0 ∧ n = 0 then .fin (a && b) 0 0
    else
      let g := min e f
      let t := signedMan a m * 2 ^ (e - g).toNat + signedMan b n * 2 ^ (f - g).toNat
      if t = 0 then .fin false 0 0 else .fin (decide (t < 0)) t.natAbs g

/-- The exact product. -/
def FVal.mul (x y : FVal) : FVal :=
  match x, y with
  | .nan, _ => .nan
  | _, .nan => .nan
  | .inf a, .inf b => .inf (a != b)
  | .inf a, .fin b n _ => if n = 0 then .nan else .inf (a != b)
  | .fin a m _, .inf b => if m = 0 then .nan else .inf (a != b)
  | .fin a m e, .fin b n f => .fin (a != b) (m * n) (e + f)

def FVal.neg : FVal → FVal
  | .nan => .nan
  | .inf a => .inf (!a)
  | .fin a m e => .fin (!a) m e

/-- A quotient with enough bits, the last of them sticky, that one rounding gives the IEEE 754 result. -/
def FVal.div (x y : FVal) : FVal :=
  match x, y with
  | .nan, _ => .nan
  | _, .nan => .nan
  | .inf _, .inf _ => .nan
  | .inf a, .fin b _ _ => .inf (a != b)
  | .fin a _ _, .inf b => .fin (a != b) 0 0
  | .fin a m e, .fin b n f =>
    if n = 0 then (if m = 0 then .nan else .inf (a != b))
    else
      let q := m * 2 ^ 64 / n
      .fin (a != b) (2 * q + (if m * 2 ^ 64 % n = 0 then 0 else 1)) (e - f - 65)

/-- A square root in the same way: −0 is −0, a negative value NaN. -/
def FVal.sqrt (x : FVal) : FVal :=
  match x with
  | .nan => .nan
  | .inf a => if a then .nan else .inf false
  | .fin a m e =>
    if m = 0 then .fin a 0 0
    else if a then .nan
    else
      let n := if e % 2 = 0 then m * 2 ^ 64 else 2 * m * 2 ^ 64
      let h : Int := if e % 2 = 0 then e / 2 else (e - 1) / 2
      let r := Nat.sqrt n
      .fin false (2 * r + (if r * r = n then 0 else 1)) (h - 33)

/-- 2^f in units of 2^-p, to within a few units, for f = n / 2^k: the product of the square roots of 2 that the bits of `n` select, `r`
being the root of bit k. -/
def exp2Bits (p : Nat) : Nat → Nat → Nat → Nat → Nat
  | 0, _, acc, _ => acc
  | k + 1, r, acc, n => exp2Bits p k (Nat.sqrt (r * 2 ^ p)) (if n.testBit k then acc * r / 2 ^ p else acc) n

/-- 2^x with enough bits, the last of them sticky, that one rounding gives the nearest value: but for an integer x the exact result is
irrational, so no tie can occur. -/
def FVal.exp2 (x : FVal) : FVal :=
  match x with
  | .nan => .nan
  | .inf a => if a then .fin false 0 0 else .inf false
  | .fin a m e =>
    let k := (-e).toNat
    let n := signedMan a m * 2 ^ e.toNat
    let q := n.ediv (2 ^ k)
    let f := (n.emod (2 ^ k)).toNat
    if (256 : Int) ≤ q then .inf false
    else if q < -256 then .fin false 1 (-256)
    else if f = 0 then .fin false 1 q
    else if m * 2 ^ 26 < 2 ^ k then .fin false 1 0
    else .fin false (2 * exp2Bits 160 k (Nat.sqrt (2 ^ 321)) (2 ^ 160) f + 1) (q - 161)

/-- `n` bits of the fraction of log2 y, for y in units of 2^-p from 1 up to 2: by squaring. -/
def log2Bits (p : Nat) : Nat → Nat → Nat → Nat
  | 0, _, acc => acc
  | n + 1, y, acc =>
    let z := y * y / 2 ^ p
    if 2 ^ (p + 1) ≤ z then log2Bits p n (z / 2) (2 * acc + 1) else log2Bits p n z (2 * acc)

/-- log2 x in the same way: of ±0 it is −infinity, of a negative value NaN; it is rational only where x is a power of two. -/
def FVal.log2 (x : FVal) : FVal :=
  match x with
  | .nan => .nan
  | .inf a => if a then .nan else .inf false
  | .fin a m e =>
    if m = 0 then .inf true
    else if a then .nan
    else
      let l := Nat.log2 m
      let w := e + (l : Nat)
      if m = 2 ^ l then .fin (decide (w < 0)) w.natAbs 0
      else
        let t := 2 * (w * 2 ^ 128 + (log2Bits 320 128 (m * 2 ^ (320 - l)) 0 : Nat)) + 1
        .fin (decide (t < 0)) t.natAbs (-129)

/-- `x < y` as IEEE 754 orders values; false where either is NaN. -/
def FVal.lt (x y : FVal) : Bool :=
  match x, y with
  | .nan, _ => false
  | _, .nan => false
  | .inf a, .inf b => a && !b
  | .inf a, .fin _ _ _ => a
  | .fin _ _ _, .inf b => !b
  | .fin a m e, .fin b n f =>
    let g := min e f
    decide (signedMan a m * 2 ^ (e - g).toNat < signedMan b n * 2 ^ (f - g).toNat)

/-- `x = y` as IEEE 754 compares values. -/
def FVal.eq (x y : FVal) : Bool :=
  match x, y with
  | .nan, _ => false
  | _, .nan => false
  | .inf a, .inf b => a == b
  | .fin a m e, .fin b n f =>
    let g := min e f
    decide (signedMan a m * 2 ^ (e - g).toNat = signedMan b n * 2 ^ (f - g).toNat)
  | _, _ => false

/-- FP32 operations (08 R350). -/
def fpAdd (f : Fmt) (a b : Nat) : Nat := f.round ((f.decode a).add (f.decode b))
def fpMul (f : Fmt) (a b : Nat) : Nat := f.round ((f.decode a).mul (f.decode b))
def fpFma (f : Fmt) (a b c : Nat) : Nat := f.round (((f.decode a).mul (f.decode b)).add (f.decode c))
def fpDiv (f : Fmt) (a b : Nat) : Nat := f.round ((f.decode a).div (f.decode b))
def fpSqrt (f : Fmt) (a : Nat) : Nat := f.round (f.decode a).sqrt
def fpExp2 (f : Fmt) (a : Nat) : Nat := f.round (f.decode a).exp2
def fpLog2 (f : Fmt) (a : Nat) : Nat := f.round (f.decode a).log2

/-! ### Block formats (08 R352-R354) -/

/-- Element of a PB8 or PB4 block: mantissa bits and shared exponent; E = 0xFF marks a NaN block. -/
def blockVal (f : Fmt) (m e : Nat) : FVal :=
  if e = 0xFF then .nan
  else
    let x := sgn f.bits m
    .fin (decide (x < 0)) x.natAbs ((e : Int) - (if f = .pb8 then 133 else 129))

/-- CVT.pb8 and CVT.pb4 of 32 FP32 values: the mantissas as two's complement numbers, and the shared exponent (08 R353). -/
def toBlock (f : Fmt) (l : List Nat) : List Nat × Nat :=
  let vs := l.map Fmt.fp32.decode
  if vs.any (fun v => match v with
    | .fin _ _ _ => false
    | _ => true) then (l.map fun _ => 0, 0xFF)
  else
    let top (v : FVal) : Option Int := match v with
      | .fin _ m e => if m = 0 then none else some (e + (Nat.log2 m : Nat))
      | _ => none
    match (vs.filterMap top).max? with
    | none => (l.map fun _ => 0, 0)
    | some t =>
      let ex := (clampInt 0 254 (t + 127)).toNat
      let q := (ex : Int) - (if f = .pb8 then 133 else 129)
      let lim : Int := 2 ^ (f.bits - 1)
      (vs.map fun v => match v with
        | .fin s m e =>
          let n := signedMan s m
          let r := if q ≤ e then n * 2 ^ (e - q).toNat else rneDiv n (2 ^ (q - e).toNat)
          unsgn f.bits (clampInt (-lim) (lim - 1) r)
        | _ => 0, ex)

/-! ### Wide accumulators (08 R355-R358) -/

/-- SUM as an integer in units of 2^-149. -/
def Lane.value (l : Lane) : Int := l.sum.toInt

/-- Add an exact number of units to a lane: a sum that would leave the 320-bit range sets OVF and changes nothing (08 R357). -/
def Lane.plus (l : Lane) (x : Int) : Lane :=
  let t := l.value + x
  if -(2 ^ 319 : Int) ≤ t ∧ t < (2 ^ 319 : Int) then { l with sum := BitVec.ofInt 320 t } else { l with ovf := true }

/-- COUNT goes up by a number of terms, saturating at 2^64 − 1; BOUND is set beyond 2^32. -/
def Lane.counted (l : Lane) (n : Nat) : Lane :=
  let c := min (l.count + n) (2 ^ 64 - 1)
  { l with count := c, bound := l.bound || decide (2 ^ 32 < c) }

/-- Add one term (08 R357). -/
def Lane.term (l : Lane) (v : FVal) : Lane :=
  (match v with
    | .nan => { l with nan := true }
    | .inf neg => if neg then { l with ninf := true } else { l with pinf := true }
    | .fin s m e => l.plus (signedMan s m * 2 ^ (e + 149).toNat)).counted 1

/-- Add lanes into one: the exact sum of them all at once, COUNTs added, WFLAGS ORed. -/
def Lane.mergeAll (l : Lane) (ks : List Lane) : Lane :=
  let t := l.plus (ks.map Lane.value).sum
  ({ t with
    nan := l.nan || ks.any (·.nan), pinf := l.pinf || ks.any (·.pinf), ninf := l.ninf || ks.any (·.ninf), ovf := t.ovf || ks.any (·.ovf),
    bound := l.bound || ks.any (·.bound) }).counted (ks.map Lane.count).sum
/-- Add one lane into another. -/
def Lane.merge (l k : Lane) : Lane := l.mergeAll [k]

/-- The read-out pair (08 R358). -/
def Lane.readOut (l : Lane) : Nat × Nat :=
  if l.nan ∨ (l.pinf ∧ l.ninf) ∨ l.ovf then (Fmt.fp32.canonicalNan, 0)
  else if l.pinf then (Fmt.fp32.infinity, 0)
  else if l.ninf then (Fmt.fp32.sign true + Fmt.fp32.infinity, 0)
  else
    let v (x : Int) : FVal := .fin (decide (x < 0)) x.natAbs (-149)
    let hi := Fmt.fp32.round (v l.value)
    match Fmt.fp32.decode hi with
    | .fin s m e =>
      let lo := l.value - signedMan s m * 2 ^ (e + 149).toNat
      (hi, Fmt.fp32.round (v lo))
    | _ => (hi, 0)

/-- WFLAGS (08 Table 08-7). -/
def Lane.flags (l : Lane) : Nat := b2n l.nan + 2 * b2n l.pinf + 4 * b2n l.ninf + 8 * b2n l.ovf + 16 * b2n l.bound

/-- The 56-byte image of a lane (08 Table 08-7). -/
def Lane.image (l : Lane) : List Byte := leBytes 40 l.sum.toNat ++ leBytes 8 l.count ++ leBytes 4 l.flags ++ leBytes 4 0

/-- A lane from its image, none where a reserved field is not 0 (08 R357). -/
def laneOf (b : List Byte) : Option Lane :=
  let f := fld b 0x30 4
  if 32 ≤ f ∨ fld b 0x34 4 ≠ 0 then none
  else some { sum := BitVec.ofNat 320 (fld b 0 40), count := fld b 0x28 8, nan := bitOf f 0, pinf := bitOf f 1, ninf := bitOf f 2,
              ovf := bitOf f 3, bound := bitOf f 4 }

end Sys2Proof.Machine
end

