-- ==== Sys2Proof/Machine/MemFx.lean ====
section
/-! DEFINITION. Device memory, partition physical addresses, the load caches, translation and its invalidation
(chapter 09, 06 R253-R255). -/
namespace Sys2Proof.Machine

/-! ### The device physical map (09 Table 09-2) and partition physical addresses (09 R375) -/

/-- Bytes in an HBM granule, and in a stacked SRAM slice. -/
def granuleSize : Nat := 2 ^ 31
def sliceSize : Nat := 2 ^ 25
/-- Base of stacked SRAM, in device addresses and in partition physical addresses. -/
def sramBase : Nat := 0x4000000000
def sramPpa : Nat := 0x3000000000

/-- The device address of a partition physical address; none where it holds no memory (09 R375). -/
def Part.dpa (p : Part) (ppa : Nat) : Option Nat :=
  if ppa < sramPpa then (p.granules[ppa / granuleSize]?).map fun g => g * granuleSize + ppa % granuleSize
  else (p.slices[(ppa - sramPpa) / sliceSize]?).map fun n => sramBase + n * sliceSize + (ppa - sramPpa) % sliceSize

/-- A device address lies in the last 16 MiB of the granule that holds the kernel image (06 R255, 09 R376). -/
def Part.inImage (p : Part) (d : Nat) : Bool :=
  match p.image with
  | some i => (i.granule + 1) * granuleSize - 2 ^ 24 ≤ d && d < (i.granule + 1) * granuleSize
  | none => false

/-- First block of 64 KiB and number of blocks of a granule and of a slice. -/
def granuleBlocks (g : Nat) : Nat × Nat := (g * 32768, 32768)
def sliceBlocks (n : Nat) : Nat × Nat := (sramBase / 65536 + n * 512, 512)

/-! ### Bytes, marks and poison (06 R253, R282, 09 R373) -/

def State.updMem (s : State) (f : Memory → Memory) : State := { s with mem := f s.mem }

/-- Mark blocks: they read zeros from now on, and nothing of a former owner is left (06 R253). -/
def State.markBlocks (s : State) (b : Nat × Nat) : State :=
  s.updMem fun m =>
    { m with bytes := Mem.clear m.bytes (b.1 * 65536) (b.2 * 65536), marked := b :: m.marked,
             poisoned := m.poisoned.filter fun x => x < b.1 * 1024 || (b.1 + b.2) * 1024 ≤ x }

/-- Mark the memory of units. -/
def State.markUnits (s : State) (granules slices : List Nat) : State :=
  let s1 := granules.foldl (fun s g => s.markBlocks (granuleBlocks g)) s
  slices.foldl (fun s n => s.markBlocks (sliceBlocks n)) s1

/-- Blocks `first` to `first + count - 1` are no longer marked. -/
def unmark (first count : Nat) (l : List (Nat × Nat)) : List (Nat × Nat) :=
  l.flatMap fun b =>
    let e := b.1 + b.2
    let f := first + count
    (if b.1 < first then [(b.1, min e first - b.1)] else []) ++ (if f < e then [(max b.1 f, e - max b.1 f)] else [])

/-- Read device memory. -/
def State.memRead (s : State) (d n : Nat) : List Byte := Mem.read 0 s.mem.bytes d n
/-- Write device memory: a marked block is zero-filled before the write lands, and poison of the sectors written ends
(06 R253, R282). -/
def State.memWrite (s : State) (d : Nat) (b : List Byte) : State :=
  s.updMem fun m =>
    { m with bytes := Mem.write 0 m.bytes d b,
             marked := unmark (d / 65536) ((d + b.length - 1) / 65536 - d / 65536 + 1) m.marked,
             poisoned := m.poisoned.filter fun x => x < d / 64 || (d + b.length - 1) / 64 < x }
/-- A sector is poisoned. -/
def State.isPoisoned (s : State) (sec : Nat) : Bool := s.mem.poisoned.contains sec

/-- Bytes that a partition reads at a physical address; bytes that hold no memory read 0. -/
def State.ppaRead (s : State) (p : Part) (ppa n : Nat) : List Byte :=
  match p.dpa ppa with
  | some d => s.memRead d n
  | none => List.replicate n 0

/-! ### The load caches (09 R390) -/

/-- A Mould loads a sector: a cached line may be returned as it stands, or the memory read anew; which of the two is free
(log entry 7). -/
def State.loadSector (s : State) (m sec : Nat) : List Byte × State :=
  let fresh := s.memRead (64 * sec) 64
  let put (s : State) : State := s.updMould m fun x =>
    { x with lcache := (sec, fresh) :: x.lcache.filter fun l => l.1 != sec }
  match (s.mouldAt m).lcache.find? fun l => l.1 == sec with
  | some l =>
    let f := s.free 20
    if f.1 % 2 = 1 then (l.2, f.2) else (fresh, put f.2)
  | none => (fresh, put s)

/-- A Mould's store writes through and updates its own cache (09 R390). -/
def State.storeThrough (s : State) (m d : Nat) (b : List Byte) : State :=
  let s1 := s.memWrite d b
  s1.updMould m fun x => { x with lcache := x.lcache.map fun l =>
    if l.1 = d / 64 then (l.1, s1.memRead (64 * l.1) 64) else l }

/-- An acquire discards the cache lines of the partition (09 R390). -/
def State.acquire (s : State) (m : Nat) : State := s.updMould m fun x => { x with lcache := [] }

/-! ### Translation (09 R379-R381) -/

/-- What a walk meets. -/
inductive Walk where
  /-- a leaf: base PPA of its 64 KiB page, W, ROW_OK -/
  | leaf (ppa : Nat) (w rowOk : Bool)
  /-- V = 0, with RPL -/
  | absent (rpl : Bool)
  /-- an entry that is not well formed -/
  | malformed
  /-- uncorrectable data in a table -/
  | tableError
  deriving DecidableEq, Repr

/-- A page of `n` bytes at a PPA lies wholly inside one granule or slice that the partition holds (09 R380). -/
def Part.holds (p : Part) (ppa n : Nat) : Bool :=
  (p.dpa ppa).isSome && (p.dpa (ppa + n - 1)).isSome &&
    (if ppa < sramPpa then ppa / granuleSize == (ppa + n - 1) / granuleSize
     else (ppa - sramPpa) / sliceSize == (ppa + n - 1 - sramPpa) / sliceSize)

/-- The index of a VA in a table of a level (09 R379). -/
def tableIndex (va level : Nat) : Nat :=
  if level = 0 then bitsOf va 47 39 else if level = 1 then bitsOf va 38 30 else if level = 2 then bitsOf va 29 21 else bitsOf va 20 16

/-- The low bits of a VA that a table of a level translates. -/
def tableBits (level : Nat) : Nat := if level = 0 then 48 else if level = 1 then 39 else if level = 2 then 30 else 21

/-- The table that the entry of a VA points to, where that is a well-formed entry that is no leaf (09 R380). -/
def State.nextTable (s : State) (p : Part) (va level table : Nat) : Option Nat :=
  match p.dpa (table + 8 * tableIndex va level) with
  | none => none
  | some d =>
    let e := leNat (s.memRead d 8)
    let addr := bitsOf e 47 8 * 256
    if s.isPoisoned (d / 64) ∨ ¬ bitOf e 0 ∨ bitOf e 1 ∨ bitsOf e 63 48 ≠ 0 ∨ bitsOf e 7 5 ≠ 0 ∨ bitOf e 2 ∨ bitOf e 4 ∨
        (p.dpa addr).isNone then none
    else if (level ≤ 1 ∧ addr % 4096 = 0) ∨ level = 2 then some addr else none

/-- The tables that a walk reads from a table on, with their levels. -/
def State.tablesFrom (s : State) (p : Part) (va level table : Nat) : Nat → List (Nat × Nat)
  | 0 => []
  | left + 1 => (level, table) :: match s.nextTable p va level table with
    | some a => s.tablesFrom p va (level + 1) a left
    | none => []

/-- A walk from a table at a level (09 R379, R380); `left` counts the levels that may follow. -/
def State.walkFrom (s : State) (p : Part) (va level table : Nat) : Nat → Walk
  | 0 => .malformed
  | left + 1 =>
    match p.dpa (table + 8 * tableIndex va level) with
    | none => .malformed
    | some d =>
      if s.isPoisoned (d / 64) then .tableError
      else
        let e := leNat (s.memRead d 8)
        let addr := bitsOf e 47 8 * 256
        let leaf := bitOf e 1
        if ¬ bitOf e 0 then .absent (bitOf e 3)
        else if bitsOf e 63 48 ≠ 0 ∨ bitsOf e 7 5 ≠ 0 then .malformed
        else if leaf then
          if level = 2 ∧ addr % 2 ^ 21 = 0 ∧ p.holds addr (2 ^ 21) then
            .leaf (addr + bitsOf va 20 16 * 65536) (bitOf e 2) (bitOf e 4)
          else if level = 3 ∧ addr % 65536 = 0 ∧ p.holds addr 65536 then .leaf addr (bitOf e 2) (bitOf e 4)
          else .malformed
        else match s.nextTable p va level table with
          | some a => s.walkFrom p va (level + 1) a left
          | none => .malformed

/-- Walk a virtual address of a partition: with EN = 0 every access misses (09 Table 09-4). -/
def State.walk (s : State) (p : Part) (va : Nat) : Walk :=
  if p.xltEn then s.walkFrom p va 0 (p.xltRoot * 4096) 4 else .absent false

/-- Count an entry that is not well formed (09 R380). -/
def State.countBad (s : State) (p : Nat) (w : Walk) : State :=
  if w = .malformed then s.updPart p fun x => { x with xltBad := satInc 32 x.xltBad } else s

/-- A Mould caches a translation, in place of one of the same page or part (09 R382). -/
def State.xltCache (s : State) (m : Nat) (e : XEntry) : State :=
  s.updMould m fun x =>
    { x with xlt := (e :: x.xlt.filter fun y => !(y.part == e.part && y.table == e.table && y.vpn == e.vpn)).take 2048 }

/-- Walk for a Mould from a table, and cache the tables on the way and the page (09 R382). -/
def State.walkCached (s : State) (m p va level table : Nat) : Walk × State :=
  let pt := s.partAt p
  let w := s.walkFrom pt va level table 4
  let s1 := (s.tablesFrom pt va level table 4).foldl (fun (s : State) t =>
    s.xltCache m { part := p, table := some t.1, vpn := va / 2 ^ tableBits t.1, ppa := t.2, w := false }) s
  match w with
  | .leaf ppa wr _ => (w, s1.xltCache m { part := p, vpn := va / 65536, ppa := ppa, w := wr })
  | _ => (w, s1.countBad p w)

/-- The tables of a VA that a Mould caches. -/
def State.cachedTables (s : State) (m p va : Nat) : List (Nat × Nat) :=
  (s.mouldAt m).xlt.filterMap fun e => match e.table with
    | some l => if e.part = p ∧ e.vpn = va / 2 ^ tableBits l then some (l, e.ppa) else none
    | none => none

/-- Translate for a Mould: a cached page may still be used until an invalidation covers it, or the tables are walked, from the root
or from a table that the Mould caches; which of these is free (09 R382, R403, log entry 7). -/
def State.xlate (s : State) (m p va : Nat) : Walk × State :=
  let root (s : State) : Walk × State :=
    if (s.partAt p).xltEn then s.walkCached m p va 0 ((s.partAt p).xltRoot * 4096) else (.absent false, s)
  let go (s : State) : Walk × State :=
    match s.cachedTables m p va with
    | [] => root s
    | l =>
      let f := s.free 21
      match l[f.1 % (l.length + 1)]? with
      | some t => f.2.walkCached m p va t.1 t.2
      | none => root f.2
  match (s.mouldAt m).xlt.find? fun e => e.part == p && e.table.isNone && e.vpn == va / 65536 with
  | some e =>
    let f := s.free 21
    if f.1 % 2 = 1 then (.leaf e.ppa e.w false, f.2) else go f.2
  | none => go s

/-! ### Where an access goes (09 R381, R386) -/

/-- An address of a load, store or atomic. -/
inductive Place where
  | local_ (va : Nat)
  | remote (pos va : Nat)
  | bad
  deriving DecidableEq, Repr

/-- Split an address: a virtual address, a row address of this or another position, or neither (09 R381, R386). -/
def State.placeOf (s : State) (a : Nat) : Place :=
  if a < 2 ^ 48 then .local_ a
  else if bitOf a 54 ∧ bitsOf a 63 55 = 0 ∧ bitsOf a 53 48 < s.row.rowSize then
    (if bitsOf a 53 48 = s.pos then .local_ (a % 2 ^ 48) else .remote (bitsOf a 53 48) (a % 2 ^ 48))
  else .bad

/-! ### Invalidation (09 R384) -/

/-- Does an invalidation cover a page? -/
def Inval.covers (i : Inval) (vpn : Nat) : Bool := i.all || (i.vpn ≤ vpn && vpn < i.vpn + i.count)
/-- Does it cover a cached translation: its page, or a page that its table serves? -/
def Inval.coversEntry (i : Inval) (e : XEntry) : Bool :=
  match e.table with
  | none => i.covers e.vpn
  | some l =>
    let n := 2 ^ (tableBits l - 16)
    i.all || (i.vpn < (e.vpn + 1) * n && e.vpn * n < i.vpn + i.count)

/-- Queue an invalidation; a seventeenth is ignored and counted (09 R384). -/
def State.queueInval (s : State) (p : Nat) (i : Inval) : State :=
  s.updPart p fun x =>
    if x.invQ.length < 16 then { x with invQ := x.invQ ++ [i] } else { x with invLost := satInc 32 x.invLost }

/-- The head of the queue completes: no Mould keeps a translation that it covered, and DONE advances (09 R384). -/
def State.invalDone (s : State) (p : Nat) : State :=
  match (s.partAt p).invQ with
  | [] => s
  | i :: r =>
    let s1 := { s with mould := s.mould.map fun (x : Mould) =>
      { x with xlt := x.xlt.filter fun e => !(e.part == p && i.coversEntry e) } }
    s1.updPart p fun x => { x with invQ := r, invDone := (x.invDone + 1) % 65536 }

end Sys2Proof.Machine
end

