-- ==== Sys2Proof/Machine/RingFx.lean ====
section
/-! DEFINITION. Rings, completions, sheets, tallies, thread groups' resources, and stopping partitions (chapter 06, 07 R304,
R326, 09 R394-R400). -/
namespace Sys2Proof.Machine

/-! ### Places of groups -/

def State.updQuarter (s : State) (m q : Nat) (f : Quarter → Quarter) : State :=
  s.updMould m fun x => { x with q := Table.upd x.q q f }
def State.quarterAt (s : State) (m q : Nat) : Quarter := Table.at (s.mouldAt m).q q {}
def State.groupAt (s : State) (m q k : Nat) : Option Group := Table.at (s.quarterAt m q).slots k none
def State.updGroup (s : State) (m q k : Nat) (f : Group → Group) : State :=
  s.updQuarter m q fun x => { x with slots := Table.upd x.slots k fun g => g.map f }

/-- Places of the resident groups of Mould `m`, as (quarter, slot). -/
def State.residents (s : State) (m : Nat) : List (Nat × Nat) :=
  (List.range 4).flatMap fun q => (List.range 16).filterMap fun k => if (s.groupAt m q k).isSome then some (q, k) else none
/-- RESIDENT of MLD_STATn. -/
def State.residentCount (s : State) (m : Nat) : Nat := (s.residents m).length

/-- Free tiles go to the groups that wait for one, in FIFO order (07 R309). -/
def Quarter.serveTiles (x : Quarter) : Nat → Quarter
  | 0 => x
  | n + 1 =>
    match x.tileQ, (List.range 4).find? (fun t => (Table.at x.tiles t {}).holder.isNone) with
    | (k, h) :: rest, some t =>
      Quarter.serveTiles
        { x with
          tileQ := rest, tiles := Table.put x.tiles t { holder := some (k, h), seed := (Table.at x.tiles t {}).seed + 1 },
          slots := Table.upd x.slots k fun g => g.map fun (g : Group) =>
            { g with tiles := Table.put g.tiles h (some t), wait := if g.wait = .tile h then .none else g.wait } } n
    | _, _ => x

/-- Free wide accumulators go to the groups that wait for one, zeroed (08 R355). -/
def Quarter.serveWides (x : Quarter) : Nat → Quarter
  | 0 => x
  | n + 1 =>
    match x.wideQ, (List.range 16).find? (fun t => (Table.at x.wides t {}).holder.isNone) with
    | (k, h) :: rest, some t =>
      Quarter.serveWides
        { x with
          wideQ := rest, wides := Table.put x.wides t { holder := some (k, h) },
          slots := Table.upd x.slots k fun g => g.map fun (g : Group) =>
            { g with wides := Table.put g.wides h (some t), wait := if g.wait = .wide h then .none else g.wait } } n
    | _, _ => x

/-- A group's slot, registers, scratch, tiles and wide accumulators are freed; its matrix instructions, copies and waits are
abandoned (07 R304, R326, 08 R342). -/
def Quarter.freeSlot (x : Quarter) (k : Nat) : Quarter :=
  let y : Quarter :=
    { x with
      slots := Table.put x.slots k none,
      tiles := x.tiles.map fun t : Tile => if t.holder.map (·.1) = some k then { t with holder := none } else t,
      wides := x.wides.map fun t : Wide => if t.holder.map (·.1) = some k then { t with holder := none } else t,
      tileQ := x.tileQ.filter fun e => e.1 != k, wideQ := x.wideQ.filter fun e => e.1 != k,
      matrix := x.matrix.filter fun e => e.slot != k }
  (y.serveTiles 4).serveWides 16

/-- A batch of the group that is resident in a slot. -/
def Batch.ofGroup (b : Batch) (m q k : Nat) (g : Group) : Bool :=
  b.mould == m && b.quarter == q && b.slot == k && b.ring == g.ring && b.subIndex == g.subIndex && b.number == g.number

/-- A waiter is the group in a slot. -/
def Waiter.isAt (w : Waiter) (m q k : Nat) : Bool := w.mould == m && w.quarter == q && w.slot == k
/-- A waiter is a copy of the group in a slot. -/
def Waiter.isCopyAt (w : Waiter) (m q k : Nat) : Bool := w.isAt m q k && match w.dest with
  | .copy _ => true
  | _ => false

/-- The copies of a killed group move no further byte: their requests that are not sent, or wait on a strand, are withdrawn with their
reservations (07 R326). -/
def State.dropCopies (s : State) (m q k : Nat) : State :=
  let queued (r : Resv) : Bool := s.mesh.strand.toList.any fun (t : Strand) => t.txq.toList.any fun (l : List (Nat × Packet)) =>
    l.any fun x => x.2.reqId == r.reqId && x.2.epoch == r.epoch && !x.2.isRsp
  let gone (r : Resv) : Bool := r.waiter.any (fun w => w.isCopyAt m q k) && queued r
  let l := s.mesh.resv.filter gone
  let keep (y : List (Nat × Packet)) : List (Nat × Packet) :=
    y.filter fun x => x.2.isRsp || !l.any fun r => x.2.reqId == r.reqId && x.2.epoch == r.epoch
  { s with mesh := { s.mesh with
      issue := s.mesh.issue.filter fun i => !i.waiter.any fun w => w.isCopyAt m q k,
      resv := s.mesh.resv.filter fun r => !gone r,
      strand := s.mesh.strand.map fun (t : Strand) => { t with txq := t.txq.map keep } } }

/-- A group leaves its slot: answers to its requests no longer reach it; its digital batch ends with it, and of a killed group
the copies and the other batches are abandoned (07 R326, 10 R438). -/
def State.freeGroup (s : State) (m q k : Nat) (kill : Bool := true) : State :=
  let old := s.groupAt m q k
  let s0 := if kill then s.dropCopies m q k else s
  let s1 := s0.updQuarter m q fun x => x.freeSlot k
  let drop (w : Option Waiter) : Option Waiter := w.filter fun w => !w.isAt m q k
  let mine (b : Batch) : Bool := match old with
    | some g => b.ofGroup m q k g
    | none => false
  { s1 with
    mesh := { s1.mesh with
      resv := s1.mesh.resv.map fun r => { r with waiter := drop r.waiter },
      issue := s1.mesh.issue.map fun i => { i with waiter := drop i.waiter } },
    wmk := { s1.wmk with
      queue := s1.wmk.queue.map fun (l : List Batch) => l.filter fun b => !(kill && mine b),
      flight := s1.wmk.flight.map fun b => if kill ∧ mine b then { b with discard := true } else b,
      digitals := s1.wmk.digitals.filter fun b => !mine b } }

/-! ### Rings (06 R257-R266) -/

/-- The partition that holds ring `r`. -/
def State.ringOwner (s : State) (r : Nat) : Option Nat := (List.range 16).find? fun p => (s.partAt p).rings.contains r
/-- Entries of the ring. -/
def Ring.size (x : Ring) : Nat := 2 ^ x.log2
/-- Difference of free-running indices. -/
def idxSub (a b : Nat) : Nat := (a + 2 ^ 32 - b) % 2 ^ 32
/-- OUT: accepted sheets minus completions consumed (06 R261). -/
def Ring.outCount (x : Ring) : Nat := (x.subCi + 2 * 2 ^ 32 - x.cplCi - x.spillCi) % 2 ^ 32
/-- The limit of OUT (06 R261). -/
def Ring.outLimit (x : Ring) : Nat := x.size + 4096 + (if x.spillEn then 2 ^ x.spillLog2 else 0)

/-- Bring INTAKE, CREDIT_OUT and SPILLING up to date (06 Table 06-7). -/
def State.ringRefresh (s : State) (r : Nat) : State :=
  match s.ringOwner r with
  | none => s.updRing r fun x => { x with intake := false }
  | some p =>
    let pt := s.partAt p
    s.updRing r fun x =>
      { x with
        intake := x.setup && !x.disabled && pt.state == .started && pt.busMaster,
        creditOut := x.setup && decide (x.outLimit ≤ x.outCount),
        spilling := x.setup && x.spillEn && decide (x.size ≤ idxSub x.cplPi x.cplCi) && x.overflow == [] &&
          decide (idxSub x.spillPi x.spillCi < 2 ^ x.spillLog2) }

/-- Refresh every ring of a partition. -/
def State.ringsRefresh (s : State) (p : Nat) : State := (s.partAt p).rings.foldl State.ringRefresh s

/-! ### SR-IOV (06 R247) -/

/-- The figures of the SR-IOV capability. -/
def totalVfs : Nat := 16
def initialVfs : Nat := 16
def firstVfOffset : Nat := 1
def vfStride : Nat := 1
/-- The function number of VF `v`, PF0 being 0. -/
def vfFunction (v : Nat) : Nat := firstVfOffset + (v - 1) * vfStride
/-- The function that serves partition `p`: that of VF p + 1. -/
def partFn (p : Nat) : Nat := vfFunction (p + 1)

/-- STATE of a partition (06 Table 06-3). -/
def PState.code : PState → Nat
  | .none => 0 | .stopped => 1 | .starting => 2 | .started => 3 | .draining => 4 | .aborting => 5 | .resetting => 6

/-- The ring may write to host memory (06 R277). -/
def State.ringWrites (s : State) (r : Nat) : Bool :=
  let x := s.ringAt r
  x.setup && !x.disabled && s.supply.endpoint == .ready && match s.ringOwner r with
    | some p => (s.partAt p).busMaster
    | none => false

/-- The 16 bytes of a completion (06 Table 06-9). -/
def Completion.bytes (c : Completion) (phase spilled : Bool) : List Byte :=
  leBytes 4 c.userId ++ leBytes 4 c.subIndex ++ leBytes 2 c.status.code ++ leBytes 2 c.detail ++
  leBytes 1 (b2n phase + 2 * b2n spilled + 4 * b2n c.trap + 8 * b2n c.digital + 16 * b2n c.viaOvf) ++ leBytes 3 c.elapsed

/-- Raise the ring's vector for a completion with IRQ, after it is written (06 R264). -/
def State.cplIrq (s : State) (r p : Nat) (c : Completion) : State :=
  if c.irq ∧ (s.ringAt r).msix ≠ 0xFFFF then s.raiseMsix (partFn p) (s.ringAt r).msix else s

/-- There is space in the completion ring or the spill ring (06 R262). -/
def Ring.hasSpace (x : Ring) : Bool :=
  decide (idxSub x.cplPi x.cplCi < x.size) || (x.spillEn && decide (idxSub x.spillPi x.spillCi < 2 ^ x.spillLog2))

/-- A DMA error disables the ring alone, with one record and notice (06 Table 06-12, R278). -/
def State.dmaError (s : State) (r p : Nat) : State :=
  let s1 := (s.updRing r fun x => { x with disabled := true, dmaErr := true }).ringRefresh r
  s1.log 0x2001 (param [(1, (s1.partAt p).state.code), (1, (s1.partAt p).cause), (2, 0)]) (some p)

/-- Write a completion to the completion ring, or to the spill ring, where there is space (06 R262, R263); none where there is
no space. -/
def State.cplWrite (s : State) (r : Nat) (c : Completion) : Option State :=
  let x := s.ringAt r
  match s.ringOwner r with
  | none => none
  | some p =>
    if idxSub x.cplPi x.cplCi < x.size then
      let s1 := s.emit (.hostWrite (partFn p) (x.cplBase + 16 * (x.cplPi % x.size))
        (c.bytes (!bitOf x.cplPi x.log2) false))
      some ((s1.updRing r fun x => { x with cplPi := (x.cplPi + 1) % 2 ^ 32 }).cplIrq r p c)
    else if x.spillEn ∧ idxSub x.spillPi x.spillCi < 2 ^ x.spillLog2 then
      let s1 := s.emit (.hostWrite (partFn p) (x.spillBase + 16 * (x.spillPi % 2 ^ x.spillLog2))
        (c.bytes (!bitOf x.spillPi x.spillLog2) true))
      some ((s1.updRing r fun x => { x with spillPi := (x.spillPi + 1) % 2 ^ 32 }).cplIrq r p c)
    else none

/-- Hold a completion in overflow; beyond 4,096 it is discarded and counted (06 R277). A completion that PERST# cuts off is
held in the same way, since Table 06-12 leaves every ring disabled: it is discarded and counted beyond 4,096 and at the teardown
without which the ring does not serve again. 02 R71 can also be read as a discard at once (DEDUCED, log entry 119). -/
def State.cplHold (s : State) (r : Nat) (c : Completion) : State :=
  s.updRing r fun x =>
    if x.overflow.length < 4096 then { x with overflow := x.overflow ++ [{ c with viaOvf := true, since := s.now }] }
    else { x with discard := satInc 32 x.discard }

/-- The write of a completion ends in a DMA error, which disables its ring: the completion is held (06 R277, Table 06-12). -/
def State.cplFails (s : State) (r : Nat) (c : Completion) : State :=
  match s.ringOwner r with
  | some p => (s.cplHold r { c with dmaErr := false }).dmaError r p
  | none => s

/-- Place a completion (06 R262). -/
def State.cplPlace (s : State) (r : Nat) (c : Completion) : State :=
  if ¬ s.ringWrites r ∨ (s.ringAt r).overflow ≠ [] then s.cplHold r c
  else if c.dmaErr ∧ (s.ringAt r).hasSpace then s.cplFails r c
  else (s.cplWrite r c).getD (s.cplHold r c)

/-- Overflow entries move out, oldest first, as space frees (06 R262). -/
def State.drainOverflow (s : State) (r : Nat) : Nat → State
  | 0 => s
  | n + 1 =>
    match (s.ringAt r).overflow with
    | [] => s
    | c :: rest =>
      if s.ringWrites r ∧ c.dmaErr ∧ (s.ringAt r).hasSpace then match s.ringOwner r with
        | some p => (s.updRing r fun x => { x with overflow := { c with dmaErr := false } :: rest }).dmaError r p
        | none => s
      else if s.ringWrites r then
        match (s.updRing r fun x => { x with overflow := rest }).cplWrite r c with
        | some t => t.drainOverflow r n
        | none => s
      else s

/-- After a change of an index: drain, and bring RNG_STAT up to date. -/
def State.ringMoved (s : State) (r : Nat) : State := (s.drainOverflow r 4096).ringRefresh r

/-! ### Tallies (09 R394-R400) -/

/-- Does partition `p` hold tally `t`? -/
def State.holdsTally (s : State) (p t : Nat) : Bool := (s.partAt p).tallies.contains (t / 16)
/-- The partition that holds tally `t`. -/
def State.tallyHolder (s : State) (t : Nat) : Option Nat := (List.range 16).find? fun p => s.holdsTally p t
/-- Partition `p` reaches tally `t` of this device by a sheet: it holds it, or `t` is row-visible and held by a member of its
row partition (06 R268, 09 R394; 01 R21 leaves at most one member to a device, so that this adds nothing while it is kept). -/
def State.reachesTally (s : State) (p t : Nat) : Bool :=
  s.holdsTally p t || (decide (256 ≤ t) && match s.tallyHolder t with
    | some q => (s.partAt p).tag != 0 && (s.partAt q).tag == (s.partAt p).tag
    | none => false)
def State.tallyVal (s : State) (t : Nat) : Nat := (Table.at s.tally.val t 0).toNat

/-- The wait condition (09 R395). -/
def waitHolds (eq : Bool) (value operand : Nat) : Bool :=
  if eq then value == operand else decide (idxSub value operand < 2 ^ 31)

/-- An answer packet of this device. -/
def State.rspTo (s : State) (ptype dst reqId epoch tag : Nat) (st : Status) (op o0 : Nat) : Packet :=
  { ptype := ptype, cls := 1, src := s.pos, dst := dst, tag := tag, epoch := epoch, reqId := reqId, status := st.code, op := op,
    opnd0 := o0 }

/-- Answer a watch (09 R397, R400). -/
def State.answerWatch (s : State) (w : Watch) (st : Status) (op : Nat) : State :=
  let s1 := { s with tally := { s.tally with watches := s.tally.watches.erase w } }
  let src := (s.tallyHolder w.tally).getD 16
  s1.sendAnswer w.strand src (s1.rspTo 0x85 w.src w.reqId w.epoch (s.partAt src).tag st op 0)

/-- What waits on tally `t` is judged against its value: groups become ready with an acquire, sheets are satisfied, watches
are answered (09 R397). -/
def State.tallyWake (s : State) (t : Nat) : State :=
  let v := s.tallyVal t
  let s1 : State := (List.range 16).foldl (fun (s : State) m =>
    (s.residents m).foldl (fun (s : State) (q, k) => match s.groupAt m q k with
      | some g => match g.wait with
        | .tally w =>
          if w.tally = t ∧ w.row = none ∧ waitHolds w.eq v w.operand then
            (s.updGroup m q k fun g => { g with wait := .none }).acquire m
          else s
        | _ => s
      | none => s) s) s
  let s2 : State := { s1 with ring := s1.ring.map fun (x : Ring) =>
    { x with sheets := x.sheets.map fun h =>
        if h.waitTally = t ∧ waitHolds false v h.waitValue then { h with waitOk := true } else h } }
  (s2.tally.watches.filter fun w => w.tally == t && waitHolds w.eq v w.operand).foldl
    (fun s w => s.answerWatch w .ok 0) s2

/-- Write a tally. -/
def State.tallyPut (s : State) (t v : Nat) : State :=
  ({ s with tally := { s.tally with val := Table.put s.tally.val t (BitVec.ofNat 32 v) } }).tallyWake t
/-- ADD wraps modulo 2^32 (09 R395). -/
def State.tallyAdd (s : State) (t x : Nat) : State := s.tallyPut t ((s.tallyVal t + x) % 2 ^ 32)

/-- Wait timeout of tally `t` in ms (09 Table 09-9). -/
def State.tallyTimeout (s : State) (t : Nat) : Nat :=
  let v := Table.at s.tally.cfg (t / 16) 0
  if v = 0 then 100 else min v 60000

/-- Tallies of groups go to their reset values: values and timeouts 0, waiters judged anew (09 R399, R400). -/
def State.talliesReset (s : State) (groups : List Nat) : State :=
  groups.foldl (fun s g =>
    let s1 := { s with tally := { s.tally with cfg := Table.put s.tally.cfg g 0 } }
    (List.range 16).foldl (fun s i => s.tallyPut (16 * g + i) 0) s1) s

/-! ### Sheets -/

def State.updSheet (s : State) (r sub : Nat) (f : Sheet → Sheet) : State :=
  s.updRing r fun x => { x with sheets := x.sheets.map fun h => if h.subIndex = sub then f h else h }
def State.sheetAt (s : State) (r sub : Nat) : Option Sheet := (s.ringAt r).sheets.find? fun h => h.subIndex == sub

/-- Number of thread groups of a sheet. -/
def Sheet.groups (h : Sheet) : Nat := if h.kind = .kernel then h.gridX * h.gridY * h.gridZ else 0

/-- DETAIL of a stop (06 Table 06-10). -/
def StopCause.detail : StopCause → Nat
  | .abort => 1 | .drainDeadline => 2 | .reset => 3 | .flr => 4 | .perst => 5 | .safe => 6 | .mouldFailure => 7 | .fault => 8

/-- Status, DETAIL and TRAP of a sheet from what has become of it, in the order of R272. -/
def Sheet.verdict (h : Sheet) : Status × Nat × Bool :=
  match h.stop, h.timeout, h.trap, h.notReady, h.notOwner, h.scorerOff with
  | some c, _, _, _, _, _ => (.aborted, c.detail, false)
  | none, some d, _, _, _, _ => (.timeout, d, false)
  | none, none, some k, _, _, _ => (.aborted, k, true)
  | none, none, none, some d, _, _ => (.notReady, d, false)
  | none, none, none, none, some d, _ => (.notOwner, d, false)
  | none, none, none, none, none, true => (.scorerOff, 0, false)
  | none, none, none, none, none, false => (.ok, 0, false)

/-- A partition enters a state, with its record and notice (06 R278, R279). -/
def State.partTo (s : State) (p : Nat) (st : PState) (detail : Nat := 0) : State :=
  let s1 := (s.updPart p fun x => { x with state := st }).ringsRefresh p
  s1.log 0x2001 (param [(1, st.code), (1, (s1.partAt p).cause), (2, detail)]) (some p)

/-- A partition has no accepted sheet without a completion. -/
def State.partIdle (s : State) (p : Nat) : Bool := (s.partAt p).rings.all fun r => (s.ringAt r).sheets == []

/-- A DRAIN ends when every accepted sheet has its completion (06 R273): Stopped, and PART_STOP is answered with its counts. -/
def State.drainCheck (s : State) (p : Nat) : State :=
  let pt := s.partAt p
  if pt.state = .draining ∧ s.partIdle p then
    ((s.updPart p fun x => { x with stopCause := none }).partTo p .stopped).answerWaiting (.partStop p) .ok 0
      fun _ => leBytes 4 pt.done ++ leBytes 4 pt.aborted
  else s

/-- The time from an uptime to now in parts of a second, saturating at a width: the two moments lie in known ticks of 1/32,768 s, and
where in them is free (log entry 7). -/
def State.elapsed (s : State) (since w parts : Nat) : Nat × State :=
  let f := s.free 31
  let d := s.now - since
  (min (2 ^ w - 1) (if d = 0 then f.1 % parts / 32768 else ((d - 1) * parts + f.1 % (2 * parts)) / 32768), f.2)

/-- The completion of a sheet: its entry, its signal, and its place in the counts of a stop (06 R268, R271, R273). -/
def State.complete (s : State) (r : Nat) (h : Sheet) (v : Status × Nat × Bool) : State :=
  match s.ringOwner r with
  | none => s
  | some p =>
    let el := s.elapsed h.acceptedAt 24 1000000
    let s := el.2
    let c : Completion :=
      { userId := h.userId, subIndex := h.subIndex, status := v.1, detail := v.2.1, trap := v.2.2, digital := h.digital,
        viaOvf := false, elapsed := el.1, irq := h.irq, since := s.now, dmaErr := h.dmaErr }
    let s1 := s.updRing r fun x => { x with sheets := x.sheets.filter fun k => k.subIndex != h.subIndex }
    let s2 := s1.updPart p fun x =>
      if v.1 = .aborted then { x with aborted := satInc 32 x.aborted } else { x with done := satInc 32 x.done }
    let s3 := (s2.cplPlace r c).ringRefresh r
    let s4 := if h.signalTally ≠ 0xFFFF ∧ s3.reachesTally p h.signalTally ∧ (v.1 = .ok ∨ h.sigAny) then
        s3.tallyAdd h.signalTally h.signalValue else s3
    s4.drainCheck p

/-- Every resident group of a sheet leaves its slot (06 R279, 08 R342). -/
def State.killGroups (s : State) (r sub : Nat) : State :=
  (List.range 16).foldl (fun s m =>
    (s.residents m).foldl (fun (s : State) (q, k) => match s.groupAt m q k with
      | some g => if g.ring = r ∧ g.subIndex = sub then s.freeGroup m q k else s
      | none => s) s) s

/-- End a sheet with what its fields say: its groups are killed and its completion written. -/
def State.endSheet (s : State) (r sub : Nat) : State :=
  match s.sheetAt r sub with
  | none => s
  | some h => (s.killGroups r sub).complete r h h.verdict

/-- The last group of a sheet has ended and none is left to dispatch (07 R304). -/
def State.sheetCheck (s : State) (r sub : Nat) : State :=
  match s.sheetAt r sub with
  | none => s
  | some h => if h.started ∧ h.groups ≤ h.ended then s.complete r h h.verdict else s

/-! ### Stops (06 R273-R279) -/

/-- Requests of a partition are cancelled: those not sent, those waiting on strands, and the reservations of those that are
outstanding, whose answers will be discarded (06 R274, 11 R495). -/
def State.cancelRequests (s : State) (p : Nat) : State :=
  { s with mesh := { s.mesh with
      issue := s.mesh.issue.filter fun i => i.part != p,
      resv := s.mesh.resv.filter fun r => r.part != p,
      strand := s.mesh.strand.map fun (t : Strand) =>
        { t with txq := t.txq.map fun (l : List (Nat × Packet)) => l.filter fun x => x.1 != p || x.2.isRsp,
                 recon := t.recon.map fun x => (x.1, x.2.1.map fun f =>
                   { f with ends := f.ends.filter fun y => y.1 != p || y.2.isRsp }, x.2.2.filter fun y => y.1 != p || y.2.isRsp) } } }

/-- Queued scorer batches of a partition are dropped; a batch in flight completes and its result is discarded (06 R274). -/
def State.cancelBatches (s : State) (p : Nat) : State :=
  { s with wmk := { s.wmk with
      queue := Table.put s.wmk.queue p [],
      flight := s.wmk.flight.map fun b => if b.part = p then { b with discard := true } else b,
      digitals := s.wmk.digitals.filter fun b => b.part != p } }

/-- ABORT (06 Table 06-11): intake stops, EPOCH counts on, every group is killed, requests and batches are cancelled, and every
accepted sheet completes ABORTED with the cause; the partition is Stopped. -/
def State.abortPart (s : State) (p : Nat) (cause : StopCause) (detail : Nat := 0) : State :=
  let pt := s.partAt p
  let s1 := (s.updPart p fun x =>
    { x with state := .aborting, epoch := (x.epoch + 1) % 65536, intakeOff := true, stopCause := some cause }).ringsRefresh p
  let s2 := (s1.cancelRequests p).cancelBatches p
  let s3 := pt.rings.foldl (fun s r =>
    (s.ringAt r).sheets.foldl (fun s h => (s.updSheet r h.subIndex fun h => { h with stop := some cause }).endSheet r h.subIndex)
      s) s2
  (s3.updPart p fun x => { x with stopCause := none }).partTo p .stopped detail

/-- Answer the PART_STOP requests of a partition with its counts; a start of it that waits ends ABORTED. -/
def State.answerStop (s : State) (p : Nat) (st : Status) : State :=
  (s.answerWaiting (.partStop p) st 0 fun _ => leBytes 4 (s.partAt p).done ++ leBytes 4 (s.partAt p).aborted).answerWaiting
    (.partStart p) .aborted

/-- A partition runs or may run: it is starting, started or draining. -/
def Part.live (x : Part) : Bool := x.state == .starting || x.state == .started || x.state == .draining

/-- A stop from outside (06 Table 06-12): ABORT with its cause, rings disabled where the table says so; a PART_STOP in progress
is answered ABORTED. The table gives the state of the rings after the stop: the ABORTED completions of the stop are written
first, where the ring may write (DEDUCED, log entry 120). -/
def State.outsideStop (s : State) (p : Nat) (cause : StopCause) (disable : Bool) : State :=
  let pt := s.partAt p
  let s1 := if pt.live then (s.abortPart p cause cause.detail).answerStop p .aborted
    else if pt.state = .stopped then
      s.log 0x2001 (param [(1, 1), (1, pt.cause), (2, cause.detail)]) (some p)
    else s
  if disable then
    pt.rings.foldl (fun s r => (s.updRing r fun x => if x.setup then { x with disabled := true } else x).ringRefresh r) s1
  else s1

/-- A partition fault: FAULTED with its cause, stopped by the ABORT rules until PART_RESET (06 R279). -/
def State.partFault (s : State) (p cause : Nat) : State :=
  let s1 := s.updPart p fun x => { x with faulted := true, cause := cause }
  if (s.partAt p).live then (s1.abortPart p .fault 8).answerStop p .aborted else s1

end Sys2Proof.Machine
end

