-- ==== Sys2Proof/Machine/GroupFx.lean ====
section
/-! DEFINITION. Thread groups: the active set, issue, traps and their policies, the answers of remote requests
(07 R297-R307, 08 R332-R345, 09 R388). -/
namespace Sys2Proof.Machine

/-! ### The active set (07 R300-R303) -/

def Group.pcOf (g : Group) (t : Nat) : Nat := Table.at g.pc t 0
/-- Threads that could issue: live and not at a barrier. -/
def Group.runnable (g : Group) : BitVec 32 := g.live &&& ~~~ g.barrier
/-- The threads of a set at its lowest program counter. -/
def Group.lowest (g : Group) (pool : BitVec 32) : BitVec 32 :=
  match ((bitsSet 32 pool.toNat).map g.pcOf).min? with
  | none => 0
  | some p => BitVec.ofNat 32 (maskOf ((bitsSet 32 pool.toNat).filter fun t => g.pcOf t == p))
/-- The active set (07 R300), of the escape's set while it holds (R302). -/
def Group.active (g : Group) : BitVec 32 :=
  match g.escape with
  | some (set, _) => if set &&& g.runnable = 0 then g.lowest g.runnable else g.lowest (set &&& g.runnable)
  | none => g.lowest g.runnable

/-- The starvation escape: the waiting threads with the lowest program counter among those that did not issue last take the
active set (07 R302). -/
def Group.takeEscape (g : Group) : Group :=
  let pool := g.runnable &&& ~~~ g.last
  if pool = 0 then { g with starve := 0 } else { g with escape := some (g.lowest pool, 0), starve := 0 }

/-- The bookkeeping of an issue (07 R302): `act` issued, `g` is the group after it. -/
def Group.issued (g : Group) (act live : BitVec 32) : Group :=
  let outside := live &&& ~~~ act
  match g.escape with
  | none =>
    { g with starve := if outside = 0 then 0 else if outside = g.outside then g.starve + 1 else 1, outside := outside, last := act }
  | some (set, n) =>
    let here := bitsSet 32 (set &&& g.runnable).toNat
    let joined := here.any fun t => (bitsSet 32 (g.runnable &&& ~~~ set).toNat).any fun u => g.pcOf u == g.pcOf t
    if 4096 ≤ n + 1 ∨ here = [] ∨ joined then { g with escape := none, starve := 0, outside := outside, last := act }
    else { g with escape := some (set, n + 1), last := act }

/-- Threads of a mask advance to a program counter. -/
def Group.setPc (g : Group) (mask : BitVec 32) (f : Nat → Nat) : Group :=
  { g with pc := g.pc.mapIdx fun i (x : Nat) => if mask.getLsbD i then f x else x }

/-! ### Registers (07 R305-R307) -/

/-- Vector registers per thread. -/
def Group.vregs (g : Group) : Nat := 8 * g.vregBlocks
def Group.v (g : Group) (r t : Nat) : Nat := ((g.vreg[r]?).map fun x => (Table.at x t 0).toNat).getD 0
def Group.s (g : Group) (r : Nat) : Nat := (Table.at g.sreg r 0).toNat
/-- Write one lane of a vector register. -/
def Group.putV (g : Group) (r t x : Nat) : Group :=
  { g with vreg := g.vreg.modify r fun row => Table.put row t (BitVec.ofNat 32 x) }
def Group.putS (g : Group) (r x : Nat) : Group := { g with sreg := Table.put g.sreg r (BitVec.ofNat 32 x) }
/-- `n` consecutive registers of a lane as one number, least significant word first. -/
def Group.vWide (g : Group) (r t : Nat) : Nat → Nat
  | 0 => 0
  | n + 1 => g.v r t + 2 ^ 32 * Group.vWide g (r + 1) t n
def Group.putWide (g : Group) (r t x : Nat) : Nat → Group
  | 0 => g
  | n + 1 => (g.putV r t (x % 2 ^ 32)).putWide (r + 1) t (x / 2 ^ 32) n
/-- Registers that an element of a size takes, and whether a first register may hold it (07 R305). -/
def regsOf (size : Nat) : Nat := if size = 16 then 4 else if size = 8 then 2 else 1
def Group.regOk (g : Group) (r size : Nat) : Bool := r % regsOf size == 0 && decide (r + regsOf size ≤ g.vregs)

/-! ### Scratch (07 R293, R315) -/

/-- The place in the Mould's scratch of an offset of a group. -/
def Group.phys (g : Group) (off : Nat) : Nat := (g.gran[off / 16384]?).getD 0 * 16384 + off % 16384
/-- `n` bytes of scratch at the places that `at_` gives their offsets. -/
def scratchGet (m : Mem) (at_ : Nat → Nat) (off n : Nat) : List Byte := (List.range n).map fun k => Mem.get 0 m (at_ (off + k))
/-- Bytes written to scratch. -/
def scratchPut (m : Mem) (at_ : Nat → Nat) (off : Nat) : List Byte → Mem
  | [] => m
  | b :: r => scratchPut (Mem.set 0 m (at_ off) b) at_ (off + 1) r

/-! ### Issue (07 R297, R298) -/

/-- A register whose result an instruction may await. -/
inductive GReg where
  | v (r : Nat)
  | s (r : Nat)
  deriving DecidableEq, Repr

/-- Vector registers that an element of a size takes, from a first one. -/
def vregsOf (r size : Nat) : List GReg := (List.range (regsOf size)).map fun k => .v (r + k)

/-- Registers that an answer will write. -/
def Dest.regs : Dest → List GReg
  | .load rd _ n _ => vregsOf rd n
  | .atomic rd _ n => vregsOf rd n
  | .tally (some r) => [.s r]
  | _ => []

/-- What an instruction needs before it can issue: that no result is due in these registers (07 R297); every earlier access of the
group answered, for a release at row scope; no acquire outstanding, for a load or store (09 R391). -/
structure Need where
  regs : List GReg := []
  all : Bool := false
  mem : Bool := false
  deriving DecidableEq, Repr

/-- An instruction with these needs has to wait for answers. -/
def Group.blocks (g : Group) (n : Need) : Bool :=
  (g.pending.any fun p => p.dest.regs.any n.regs.contains) || (n.all && !g.pending.isEmpty) || (n.mem && g.acq)

/-- Every result of earlier instructions has landed in its register (08 R337). -/
def Group.landed (g : Group) : Bool := g.pending.all fun p => p.dest.regs.isEmpty

/-- What an instruction does: its effect, after which the active threads advance; an effect that has set their program
counters; YIELD's; nothing, the group not being ready after all; or a trap with its kind, the threads that fault, the address, and whether
the fault is replayable. -/
inductive Eff where
  | done (s : State)
  | jump (s : State)
  | yield (s : State)
  | stall
  | trap (kind : Nat) (mask : BitVec 32) (addr : Nat) (replay : Bool)
  /-- a trap after walks and reads that have had their own effects (counters, cached translations, records) -/
  | trapIn (s : State) (kind : Nat) (mask : BitVec 32) (addr : Nat) (replay : Bool) (vas : List Nat)
  /-- the trap of a copy at its CWAIT -/
  | trapCopy (s : State) (c : Copy)
  deriving DecidableEq, Repr

/-- The group in a slot that may issue, as far as the state tells: resident, with threads to run, waiting for nothing, not parked, none of
its batches being scored digitally (10 R429), its Mould's clock running. -/
def State.canIssue (s : State) (m q k : Nat) : Option Group :=
  if (s.mouldAt m).state ≠ .running then none
  else match s.groupAt m q k with
    | some g =>
      let scoring : Bool := s.wmk.digitals.any fun b => b.ofGroup m q k g
      if g.wait = .none ∧ ¬ g.save.parked ∧ g.runnable ≠ 0 ∧ ¬ scoring then some g else none
    | none => none

/-- It is the turn of the instruction's slot: of the quarter's ready groups, its own is the first after the slot that issued last
(07 R298). -/
def State.inTurn (s : State) (i : GIns) : Bool :=
  let last := (s.quarterAt i.mould i.quarter).lastSlot
  (((List.range 16).map fun d => (last + 1 + d) % 16).find? fun k =>
    !i.held.getLsbD k && (s.canIssue i.mould i.quarter k).isSome) == some i.slot

/-- The group that issues: ready, and in its turn (07 R297, R298). -/
def State.ready (s : State) (i : GIns) : Option Group := if s.inTurn i then s.canIssue i.mould i.quarter i.slot else none

/-- The first of the fault kinds of R333 among the threads' faults, given as (kind, thread, address, replayable). -/
def firstFault (l : List (Nat × Nat × Nat × Bool)) : Option Eff :=
  match [1, 2, 3, 5, 4, 6].find? fun k => l.any fun f => f.1 == k with
  | none => none
  | some k =>
    let mine := l.filter fun f => f.1 == k
    let low := ((mine.map fun f => f.2.1).min?).getD 0
    let addr := ((mine.find? fun f => f.2.1 == low).map fun f => f.2.2.1).getD 0
    some (.trap k (BitVec.ofNat 32 (maskOf (mine.map fun f => f.2.1))) addr (mine.all fun f => f.2.2.2))

/-! ### Traps (08 R332-R345) -/

/-- Kinds whose policy lets a handler run (08 Table 08-2). -/
def handlerMay (kind : Nat) : Bool := [1, 2, 3, 4, 5, 7, 0xB].contains kind

/-- A group is killed with a code: its sheet ends ABORTED with the code of the first such kill, and the record names the
place (08 R342). -/
def State.trapKill (s : State) (m q k code : Nat) : State :=
  match s.groupAt m q k with
  | none => s
  | some g =>
    let s1 := s.updSheet g.ring g.subIndex fun h => { h with trap := some (h.trap.getD code) }
    let rc := if code < 0x100 then 0x2100 + code else 0x2200 + code % 256
    let s2 := s1.log rc (param [(4, g.subIndex), (4, g.save.faultPc % 2 ^ 24 + g.ring * 2 ^ 24), (4, g.save.faultAddr % 2 ^ 32),
      (4, g.number)]) (some g.part) true true
    s2.endSheet g.ring g.subIndex

/-- Park a group (08 R343): its record and notices carry the sheet, the group and the address. -/
def State.park (s : State) (m q k : Nat) (g : Group) (addr : Nat) (vas : List Nat) : State :=
  let s1 := s.updGroup m q k fun g => { g with parkVas := vas, save := { g.save with parked := true } }
  s1.log 0x2003 (param [(4, g.subIndex), (4, g.number), (8, addr % 2 ^ 56 + g.ring * 2 ^ 56)]) (some g.part)

/-- The trapping instruction: its place in the code and its encoding, and whether it is an MCOPY whose fault is taken at its CWAIT. -/
structure Culprit where
  pc : Nat
  raw : Nat
  copy : Bool := false
  deriving DecidableEq, Repr

/-- The slot is written and the policy applied (08 R334, R336, R339-R343). -/
def State.trapAt (s : State) (m q k : Nat) (g : Group) (c : Culprit) (kind : Nat) (mask : BitVec 32) (addr : Nat) (replay : Bool)
    (vas : List Nat) : State :=
  let sp := g.s 63
  let slot : SaveSlot :=
    { g.save with
      kind := kind, copyFault := c.copy, parked := false, faultPc := c.pc, faultAddr := addr, faultMask := mask,
      active := g.active, live := g.live, barrier := g.barrier, instr := c.raw, sp := sp, pred := g.pred, pc := g.pc, sreg := g.sreg }
  let s1 := s.updGroup m q k fun g => { g with save := slot }
  if g.save.inHandler then s1.trapKill m q k 9
  else if kind = 5 ∧ replay then s1.park m q k g addr vas
  else if g.save.handler = 0 ∨ ¬ handlerMay kind then s1.trapKill m q k kind
  else if sp % 16 = 0 ∧ g.scratchBytes < sp ∧ sp ≤ g.scratchBytes + g.stackBytes then
    s1.updGroup m q k fun g =>
      { (g.setPc g.live fun _ => g.save.handler) with
        barrier := 0, escape := none, starve := 0, save := { g.save with inHandler := true } }
  else s1.trapKill m q k 8

/-- The code offset at which the active set stands. -/
def Group.activePc (g : Group) : Nat := ((bitsSet 32 g.active.toNat).head?.map g.pcOf).getD 0

/-- The trap of an instruction as it issues. -/
def State.trapTake (s : State) (i : GIns) (g : Group) (kind : Nat) (mask : BitVec 32) (addr : Nat) (replay : Bool)
    (vas : List Nat := [addr]) : State :=
  s.trapAt i.mould i.quarter i.slot g { pc := g.activePc, raw := i.raw } kind mask addr replay vas

/-- The trap of a copy at its CWAIT, which `raw` encodes and the threads of `mask` execute: COPY set, FAULT_PC naming the MCOPY; the copy is
tried again after a replay or a handler (07 R316, 08 R334). -/
def State.copyTrap (s : State) (m q k : Nat) (g : Group) (c : Copy) (raw : Nat) (mask : BitVec 32) : State :=
  let f := c.fault.getD (1, 0, false)
  let s1 := s.updGroup m q k fun x =>
    { x with wait := .none, copies := x.copies.map fun y => if y = c then { y with fault := none } else y }
  s1.trapAt m q k { g with wait := .none } { pc := c.pc, raw := raw, copy := true } f.1 mask f.2.1 f.2.2 [f.2.1]

/-- An encoding that traps ILLEGAL whatever the instruction: unknown or with a reserved field, of no length that instructions
have, or predicated by a register that does not exist (07 R323, R306). -/
def GIns.malformed (i : GIns) : Bool :=
  i.illegal || (i.len != 8 && i.len != 16) || match i.pred with
    | some (p, _) => decide (8 ≤ p)
    | none => false

/-! ### Memory errors (06 R282, R283, 09 R373, R374, R385) -/

/-- The partition that holds a device address. -/
def State.holderOf (s : State) (d : Nat) : Option Nat := (List.range 16).find? fun p =>
  if d < sramBase then (s.partAt p).granules.contains (d / granuleSize)
  else (s.partAt p).slices.contains ((d - sramBase) / sliceSize)

/-- The row of a device address, as a number of its own: rows of stacked SRAM are taken as 2 KiB and HBM rows as the hash of
R370 places them; neither is stated, and what a record says of a place in HBM is free (log entries 7, 29). -/
def rowKey (d : Nat) : Nat := d / 2048

/-- Move the contents of a slice to another: bytes, marks and poison (06 R283). -/
def State.moveSlice (s : State) (a b : Nat) : State :=
  let lo := sramBase + a * sliceSize
  let dst := sramBase + b * sliceSize
  let mine := s.mem.bytes.filter fun c => lo ≤ c.1 && c.1 < lo + sliceSize
  let clean := Mem.clear (Mem.clear s.mem.bytes dst sliceSize) lo sliceSize
  let ba := (sliceBlocks a).1
  let bb := (sliceBlocks b).1
  let move (x w : Nat) : Nat := if lo / w ≤ x ∧ x < (lo + sliceSize) / w then x - lo / w + dst / w else x
  s.updMem fun m =>
    { m with
      bytes := mine.foldl (fun acc c => Mem.set 0 acc (c.1 - lo + dst) c.2) clean,
      marked := ((unmark bb 512 m.marked).filter fun x => !(ba ≤ x.1 && x.1 < ba + 512)) ++
        ((m.marked.filter fun x => ba ≤ x.1 && x.1 < ba + 512).map fun x => (x.1 - ba + bb, x.2)),
      poisoned := (m.poisoned.filter fun x => !(dst / 64 ≤ x && x < (dst + sliceSize) / 64)).map fun x => move x 64 }

/-- PARAM of 0x2007. -/
def sliceParam (n kind row : Nat) : List Byte := param [(1, n), (1, Config.codeOf 9 kind), (2, row % 65536)]

/-- A row of a slice is remapped to a spare row; when the last spare is used, the slice is exchanged with a free one, or stays
without spares (06 R282, R283). Of several free slices the lowest-numbered takes its place, whatever spare rows it has left (DESIGN
CHOICE, log entry 123). -/
def State.remapRow (s : State) (d : Nat) : State :=
  let n := (d - sramBase) / sliceSize
  let used := Table.at s.mem.spareUsed n 128
  let p := s.holderOf d
  if 128 ≤ used then s
  else
    let s1 := (s.updMem fun m => { m with spareUsed := Table.put m.spareUsed n (used + 1) }).log 0x2007
      (sliceParam n 1 (rowKey d % 16384)) p
    if used + 1 < 128 then s1
    else match (List.range 48).find? fun k => k != n && (List.range 16).all fun q => !(s.partAt q).slices.contains k with
      | some k =>
        let s2 := s1.moveSlice n k
        ({ s2 with part := s2.part.map fun (x : Part) => { x with slices := x.slices.map fun v => if v = n then k else v } }).log
          0x2007 (sliceParam n 2 k) p
      | none => s1.log 0x2007 (sliceParam n 3 0) p

/-- An HBM row is repaired, or its bank has no spare row left (09 R374). -/
def State.repairHbm (s : State) (d : Nat) (spare : Bool) : State :=
  let w (k n : Nat) : Nat := Config.freeOf 25 [k, d / 2048] % n
  let prm (kind : Nat) : List Byte := param [(1, d / 256 % 8), (1, w 0 32), (1, w 1 256), (1, Config.codeOf 10 kind), (4, w 2 (2 ^ 32))]
  if s.mem.hbmRepairs.contains (rowKey d) ∨ s.mem.hbmExhausted.contains (rowKey d) then s
  else if spare then (s.updMem fun m => { m with hbmRepairs := m.hbmRepairs ++ [rowKey d] }).log 0x2008 (prm 1) (s.holderOf d)
  else (s.updMem fun m => { m with hbmExhausted := m.hbmExhausted ++ [rowKey d] }).log 0x2008 (prm 2) (s.holderOf d)

/-- A corrected error: the second in 24 h on a row has it remapped or repaired (06 R282, 09 R374). -/
def State.memCorrected (s : State) (e : MemError) : State :=
  let r := rowKey e.dpa
  let day := 24 * 3600 * 32768
  let again : Bool := s.mem.rowErrors.any fun x => x.1 == r && decide (s.now < x.2 + day)
  let s1 := s.updMem fun m =>
    { m with rowErrors := (if again then [] else [(r, s.now)]) ++ (m.rowErrors.filter fun x => x.1 != r) }
  if ¬ again then s1
  else if sramBase ≤ e.dpa then s1.remapRow e.dpa
  else s1.repairHbm e.dpa e.spare

/-- A row of stacked SRAM can still be remapped: its slice has a spare row (06 R282, R283). -/
def State.hasSpareRow (s : State) (d : Nat) : Bool := sramBase ≤ d && decide (Table.at s.mem.spareUsed ((d - sramBase) / sliceSize) 128 < 128)

/-- An uncorrectable error: a record, and poison in the sector, or in the whole new row of stacked SRAM where it is remapped; in
the kernel image it faults the partition (06 R282, R283, Table 06-13, 09 R373). -/
def State.memFatal (s : State) (d : Nat) : State :=
  let p := s.holderOf d
  let s1 := s.log 0x2006 (param [(8, d)]) p
  match p.bind fun q => if (s.partAt q).inImage d then some q else none with
  | some q => s1.partFault q 4
  | none =>
    if s1.hasSpareRow d then
      (s1.updMem fun m => { m with poisoned := ((List.range 32).map fun k => d / 2048 * 32 + k) ++
        (m.poisoned.filter fun x => x / 32 != d / 2048) }).remapRow d
    else s1.updMem fun m => { m with poisoned := d / 64 :: (m.poisoned.filter fun x => x != d / 64) }

/-- An uncorrectable error in tally state faults the partition that holds the tally with cause 0x2 (06 Table 06-13, 09 R400); a
corrected one has no effect that the spec states. -/
def State.tallyError (s : State) (t : Nat) (fatal : Bool) : State :=
  match s.tallyHolder t with
  | some p => if fatal then s.partFault p 2 else s
  | none => s

/-- What the codes of memory find. -/
def State.memError (s : State) (e : MemError) : State := match e.tally with
  | some t => s.tallyError t e.fatal
  | none => if e.fatal then s.memFatal e.dpa else s.memCorrected e

/-- The group as it issues: the starvation escape takes the active set first where it is due (07 R302). -/
def Group.escaping (g : Group) : Group := if 4096 ≤ g.starve ∧ g.escape = none then g.takeEscape else g
/-- The threads for which an instruction acts: the active set, narrowed by the predicate; a register that does not exist narrows nothing,
and the instruction is ILLEGAL (07 R300, R306). -/
def GIns.acts (i : GIns) (g : Group) : BitVec 32 := match i.pred with
  | none => g.active
  | some (p, inv) =>
    if 8 ≤ p then g.active else g.active &&& (if inv then ~~~ Table.at g.pred p 0 else Table.at g.pred p 0)
/-- The slot has issued (07 R298). -/
def State.slotIssued (t : State) (i : GIns) : State := t.updQuarter i.mould i.quarter fun x => { x with lastSlot := i.slot }
/-- The group's issue is counted (07 R298, R302). -/
def State.issuedBy (t : State) (i : GIns) (g : Group) : State :=
  (t.updGroup i.mould i.quarter i.slot fun h => h.issued g.active g.live).slotIssued i
/-- The active threads go on behind the instruction, and the issue is counted. -/
def State.advanced (t : State) (i : GIns) (g : Group) : State :=
  (t.updGroup i.mould i.quarter i.slot fun h => h.setPc g.active fun x => x + i.len).issuedBy i g

/-- What is left of an effect of the issuing group `g`, `s0` being the device as it was and `s1` as the instruction starts. A trap is
raised by active, predicated-on threads alone, and taken once the results of earlier instructions have landed (08 R333, R337). -/
def Eff.after (e : Eff) (s0 s1 : State) (i : GIns) (g : Group) : State :=
  let trap (t u : State) : State := if i.acts g = 0 then t.advanced i g else if g.landed then u else s0
  match e with
  | .done t => t.advanced i g
  | .jump t => t.issuedBy i g
  | .yield t => t.slotIssued i
  | .stall => s0
  | .trap k m a r => trap s1 ((s1.slotIssued i).trapTake i g k (m &&& i.acts g) a r)
  | .trapIn t k m a r vas => trap t ((t.slotIssued i).trapTake i g k (m &&& i.acts g) a r vas)
  | .trapCopy t c => trap t ((t.slotIssued i).copyTrap i.mould i.quarter i.slot g c i.raw (i.acts g))

/-- One instruction of a group: it issues where what it needs has come; its predicate narrows the active set (07 R306); the effect is
taken, or the trap. -/
def State.issue (s : State) (i : GIns) (need : Need) (body : Group → BitVec 32 → BitVec 32 → State → Eff) : State :=
  if (s.ready i).isNone then s
  else
    let s1 := i.errors.foldl State.memError s
    match s1.ready i with
    | none => s1
    | some g0 =>
      let g := g0.escaping
      if g.blocks need then s
      else
        let s2 := s1.updGroup i.mould i.quarter i.slot fun _ => g
        (if i.malformed then Eff.trap 1 g.active 0 false else body g g.active (i.acts g) s2).after s s2 i g

/-- Change the group that issued. -/
def State.onGroup (s : State) (i : GIns) (f : Group → Group) : State := s.updGroup i.mould i.quarter i.slot f

/-! ### Remote requests of a group (09 R386-R388, 08 R335) -/

/-- Queue a request of a group for Chainline. -/
def State.request (s : State) (i : GIns) (part : Nat) (p : Packet) (d : Dest) : State :=
  { s with mesh := { s.mesh with issue := s.mesh.issue ++
      [{ part := part, packet := p, waiter := some { mould := i.mould, quarter := i.quarter, slot := i.slot, dest := d } }] } }

/-- The header of a request of a partition. -/
def State.reqPacket (s : State) (part pos ptype addr : Nat) : Packet :=
  { ptype := ptype, cls := 2, src := s.pos, dst := pos, tag := (s.partAt part).tag, epoch := (s.partAt part).epoch, addr := addr }

/-- A remote access of a group waits no longer. -/
def Group.answered (g : Group) (d : Dest) : Group := { g with pending := g.pending.eraseP fun p => p.dest == d }

/-- Sign or zero extension of an element of `n` bytes to its registers. -/
def extendTo (n : Nat) (signed : Bool) (x : Nat) : Nat := if signed ∧ n < 4 then unsgn 32 (sgn (8 * n) x) else x

/-- Change the copy of a group that an answer names. -/
def Group.onCopy (g : Group) (c : Copy) (f : Copy → Copy) : Group :=
  { g with copies := g.copies.map fun x => if x.id = c.id then f x else x }

/-- The data of an answer reach their registers. Where the access was refused or reached no peer, a load lands zeros, a tally operation
returns 0, and an atomic has no effect (08 R335, 09 R396). -/
def Group.land (g : Group) (d : Dest) (ok : Bool) (bytes : List Byte) (old : Nat) : Group :=
  match d with
  | .load rd lanes n sg =>
    (lanes.foldl (fun g l => g.putWide rd l.1 (if ok then extendTo n sg (fld bytes l.2 n) else 0) (regsOf n)) g).answered d
  | .atomic rd lane n => (if ok then g.putWide rd lane (old % 2 ^ (8 * n)) (regsOf n) else g).answered d
  | .store => g.answered d
  | .tally (some r) => (g.putS r (if ok then old else 0)).answered d
  | .tally none => g.answered d
  | .copy c => g.onCopy c fun x => { x with pending := x.pending - 1 }
  | _ => g

/-- The acquire that was due after the last remote answer (09 R391). -/
def State.acqDue (s : State) (w : Waiter) : State :=
  match s.groupAt w.mould w.quarter w.slot with
  | some g => if g.acq ∧ g.pending = [] then
      (s.updGroup w.mould w.quarter w.slot fun g => { g with acq := false }).acquire w.mould else s
  | none => s

/-- Copy bytes of an answer into a group's scratch. -/
def State.copyLand (s : State) (w : Waiter) (g : Group) (va : Nat) (b : List Byte) : State :=
  match w.dest with
  | .copy c =>
    if c.toScratch then
      s.updMould w.mould fun x => { x with scratch := scratchPut x.scratch g.phys (c.scratch + (va - c.va % 2 ^ 48)) b }
    else s
  | _ => s

/-- An access that was refused or reached no peer: its registers, and the scratch of a copy, take what R335 gives them. -/
def State.unreached (s : State) (w : Waiter) (g : Group) (req : Packet) : State :=
  (s.updGroup w.mould w.quarter w.slot fun g => g.land w.dest false [] 0).copyLand w g req.addr (List.replicate req.len 0)

/-- A request of a group ends NOT_READY (11 R475, 08 R335): zeros, and the sheet notes the peer; a tally wait goes on to its
timeout (01 R31). -/
def State.remoteNotReady (s : State) (w : Waiter) (req : Packet) : State :=
  match s.groupAt w.mould w.quarter w.slot with
  | none => s
  | some g =>
    if w.dest = .watch then s
    else ((s.unreached w g req).updSheet g.ring g.subIndex fun h => { h with notReady := some (h.notReady.getD req.dst) }).acqDue w

/-- The answer to a watch, or to a read that polls a tally: satisfied, FULL, refused, or ABORTED, which ends the sheet
(09 R397, R405). -/
def State.landWatch (s : State) (w : Waiter) (g : Group) (x : TallyWait) (p : Packet) : State :=
  let upd (f : Group → Group) (t : State) : State := t.updGroup w.mould w.quarter w.slot f
  if p.status = Status.ok.code then
    let holds : Bool := if w.dest = .watch then p.op == 0 else waitHolds x.eq (p.opnd0 % 2 ^ 32) x.operand
    if holds then (upd (fun g => { g with wait := .none }) s).acquire w.mould
    else upd (fun g => { g with wait := .tally { x with polling := true } }) s
  else if p.status = Status.aborted.code then
    (s.updSheet g.ring g.subIndex fun h => { h with stop := some .fault }).endSheet g.ring g.subIndex
  else (upd (fun g => { g with wait := .none }) s).updSheet g.ring g.subIndex fun h =>
    { h with notOwner := some (h.notOwner.getD p.src) }

/-- The threads that an answer serves, with the byte offsets of their elements from the request's address. -/
def Dest.lanes : Dest → List (Nat × Nat)
  | .load _ lanes _ _ => lanes
  | .atomic _ lane _ => [(lane, 0)]
  | _ => []

/-- The row address of a request's address (09 R386). -/
def Packet.rowAddr (req : Packet) : Nat := 2 ^ 54 + req.dst * 2 ^ 48 + req.addr

/-- The target met poison (11 R465): the group traps POISON on the instruction that made the request, and a copy at the CWAIT that
covers it (08 R334). Instructions that did not need the answer may have issued meanwhile (log entry 61). -/
def State.landPoison (s : State) (w : Waiter) (g : Group) (req : Packet) : State :=
  match w.dest with
  | .copy c => s.updGroup w.mould w.quarter w.slot fun x =>
      x.onCopy c fun y => { y with pending := y.pending - 1, fault := some (y.fault.getD (6, req.rowAddr, false)) }
  | d =>
    let from_ := (g.pending.find? fun p => p.dest == d).getD { dest := d, pc := 0, raw := 0 }
    let low := ((d.lanes.map (·.1)).min?).getD 0
    let addr := req.rowAddr + ((d.lanes.find? fun l => l.1 == low).map (·.2)).getD 0
    s.trapAt w.mould w.quarter w.slot g { pc := from_.pc, raw := from_.raw } 6 (BitVec.ofNat 32 (maskOf (d.lanes.map (·.1)))) addr false
      [addr]

/-- A target refused a request: the issuer notes it in its sheet (01 R22, 08 R335). -/
def State.landRefused (s : State) (w : Waiter) (g : Group) (req p : Packet) : State :=
  ((s.unreached w g req).updSheet g.ring g.subIndex fun h => { h with notOwner := some (h.notOwner.getD p.src) }).acqDue w

/-- An answer to a load, store, atomic, copy or tally operation (11 R464, R465, 08 R335). -/
def State.landData (s : State) (w : Waiter) (g : Group) (req p : Packet) : State :=
  if p.status ≠ Status.ok.code then s.landRefused w g req p
  else if bitOf p.hflags 1 then s.landPoison w g req
  else ((s.updGroup w.mould w.quarter w.slot fun g => g.land w.dest true p.data p.opnd0).copyLand w g req.addr p.data).acqDue w

/-- An answer lands (11 R468): its group may have left its slot meanwhile. -/
def State.landAnswer (s : State) (w : Waiter) (req p : Packet) : State :=
  match s.groupAt w.mould w.quarter w.slot with
  | none => s
  | some g => match g.wait, w.dest with
    | .tally x, .watch | .tally x, .tally none => s.landWatch w g x p
    | _, .watch => s
    | _, _ => s.landData w g req p

end Sys2Proof.Machine
end

