-- ==== Sys2Proof/Machine/VecEv.lean ====
section
/-! DEFINITION. Vector, scalar, control, conversion and wide-accumulator instructions (07 R300-R308, 08 R348-R358). -/
namespace Sys2Proof.Machine

/-! ### Vector and scalar arithmetic -/

/-- A source names registers that exist: `n` consecutive ones (07 R305, R306). -/
def Group.srcOk (g : Group) (size : Nat) : VSrc → Bool
  | .v r => g.regOk r size
  | .s r => decide (r + regsOf size ≤ 64)
  | .imm _ => true

/-- Value of a source for a thread. -/
def Group.src (g : Group) (x : VSrc) (t : Nat) : Nat :=
  match x with
  | .v r => g.v r t
  | .s r => g.s r
  | .imm w => w.toNat

/-- Value of a 64-bit source for a thread. -/
def Group.src64 (g : Group) (x : VSrc) (t : Nat) : Nat :=
  match x with
  | .v r => g.vWide r t 2
  | .s r => g.s r + 2 ^ 32 * g.s (r + 1)
  | .imm w => w.toNat

def cmpWords (c : Cond) (a b : Nat) : Bool :=
  match c with
  | .eq => a == b
  | .ne => a != b
  | .ltu => decide (a < b)
  | .leu => decide (a ≤ b)
  | .lts => decide (sgn 32 a < sgn 32 b)
  | .les => decide (sgn 32 a ≤ sgn 32 b)
  | .feq => (Fmt.fp32.decode a).eq (Fmt.fp32.decode b)
  | .flt => (Fmt.fp32.decode a).lt (Fmt.fp32.decode b)
  | .fle => (Fmt.fp32.decode a).lt (Fmt.fp32.decode b) || (Fmt.fp32.decode a).eq (Fmt.fp32.decode b)

/-- A shift by 0 to 31; by 32 and more the result is not stated and is free (log entry 7). -/
def shiftOp (kind : Nat) (a n : Nat) : Nat :=
  if 32 ≤ n then Config.freeOf 22 [kind, a, n]
  else if kind = 0 then a * 2 ^ n else if kind = 1 then a / 2 ^ n else unsgn 32 ((sgn 32 a).ediv (2 ^ n))

/-- Apply an operation to the packed elements of a word. -/
def packed (f : Fmt) (op : Nat → Nat → Nat → Nat) (a b c : Nat) : Nat :=
  let n := f.bits
  ((List.range (32 / n)).map fun k =>
    op (a / 2 ^ (n * k) % 2 ^ n) (b / 2 ^ (n * k) % 2 ^ n) (c / 2 ^ (n * k) % 2 ^ n) * 2 ^ (n * k)).sum

/-- Result of a 32-bit vector operation; FP32 operations, exp2 and log2 among them, are those of IEEE 754, rounded once (08 R350). -/
def vecResult (op : VOp) (p : Bool) (a b c : Nat) : Nat :=
  let i (x : Int) : Nat := unsgn 32 x
  match op with
  | .mov => a
  | .add => a + b
  | .sub => i ((a : Int) - b)
  | .mul => a * b
  | .and => Nat.land a b
  | .or => Nat.lor a b
  | .xor => Nat.xor a b
  | .shl => shiftOp 0 a b
  | .shr => shiftOp 1 a b
  | .sar => shiftOp 2 a b
  | .minu => min a b
  | .maxu => max a b
  | .mins => if sgn 32 a ≤ sgn 32 b then a else b
  | .maxs => if sgn 32 a ≤ sgn 32 b then b else a
  | .sel _ => if p then a else b
  | .add64 => 0
  | .fadd => fpAdd .fp32 a b
  | .fsub => fpAdd .fp32 a (Nat.xor b (2 ^ 31))
  | .fmul => fpMul .fp32 a b
  | .ffma => fpFma .fp32 a b c
  | .fdiv => fpDiv .fp32 a b
  | .fsqrt => fpSqrt .fp32 a
  | .frcp => fpDiv .fp32 0x3F800000 a
  | .fexp2 => fpExp2 .fp32 a
  | .flog2 => fpLog2 .fp32 a
  | .padd f => packed f (fun x y _ => fpAdd f x y) a b c
  | .pmul f => packed f (fun x y _ => fpMul f x y) a b c
  | .pfma f => packed f (fun x y z => fpFma f x y z) a b c
  | .setp k => b2n (cmpWords k a b)

/-- The formats of packed arithmetic (07 Table 07-2). -/
def VOp.fmtOk : VOp → Bool
  | .padd f | .pmul f | .pfma f => f == .bf16 || f == .e4m3 || f == .e5m2
  | _ => true

/-- Scalar registers that sources name. -/
def VSrc.sreg : VSrc → Option Nat
  | .s r => some r
  | _ => none

/-- Bytes of an element of the operation. -/
def VOp.size (op : VOp) : Nat := if op = .add64 then 8 else 4

/-- Is the instruction's naming of registers legal (07 R305, R306)? At most one scalar register serves as uniform operand. -/
def Group.vecLegal (g : Group) (op : VOp) (rd : Nat) (a b c : VSrc) : Bool :=
  let size := op.size
  op.fmtOk && g.srcOk size a && g.srcOk size b && g.srcOk size c && decide (([a, b, c].filterMap VSrc.sreg).dedup.length ≤ 1) &&
  match op with
  | .setp _ => decide (rd < 8)
  | .sel p => decide (p < 8) && g.regOk rd 4
  | _ => g.regOk rd size

/-- Registers of a source. -/
def VSrc.regs (size : Nat) : VSrc → List GReg
  | .v r => vregsOf r size
  | .s r => (List.range (regsOf size)).map fun k => .s (r + k)
  | .imm _ => []

/-- What a vector instruction needs: no result due in the registers that it reads or writes (07 R297). -/
def vecNeed (op : VOp) (rd : Nat) (a b c : VSrc) : Need :=
  { regs := a.regs op.size ++ b.regs op.size ++ c.regs op.size ++ (match op with
      | .setp _ => []
      | _ => vregsOf rd op.size) }
/-- Needs of an instruction on single vector registers, and on scalar ones. -/
def vNeed (l : List Nat) : Need := { regs := l.map .v }
def sNeed (l : List Nat) : Need := { regs := l.map .s }

/-- VECTOR_OP: the result reaches the active, predicated-on threads alone (07 R300, R306). -/
def State.evVectorOp (s : State) (i : GIns) (op : VOp) (rd : Nat) (a b c : VSrc) : State :=
  s.issue i (vecNeed op rd a b c) fun g act ex s =>
    if ¬ g.vecLegal op rd a b c then .trap 1 act 0 false
    else
      .done (s.onGroup i fun h => (bitsSet 32 ex.toNat).foldl (fun h t =>
        match op with
        | .setp _ =>
          let r := vecResult op false (g.src a t) (g.src b t) (g.src c t) == 1
          { h with pred := Table.upd h.pred rd fun m =>
            if r then m ||| BitVec.ofNat 32 (2 ^ t) else m &&& ~~~ BitVec.ofNat 32 (2 ^ t) }
        | .add64 => h.putWide rd t (g.src64 a t + g.src64 b t) 2
        | .sel p => h.putV rd t (vecResult op ((Table.at g.pred p 0).getLsbD t) (g.src a t) (g.src b t) 0)
        | _ => h.putV rd t (vecResult op false (g.src a t) (g.src b t) (g.src c t))) h)

/-- Value of a scalar source: a scalar register, a predicate register as a word, or an immediate. -/
def Group.ssrc (g : Group) : SSrc → Nat
  | .s r => g.s r
  | .p r => (Table.at g.pred r 0).toNat
  | .imm w => w.toNat
def SSrc.ok : SSrc → Bool
  | .s r => decide (r < 64)
  | .p r => decide (r < 8)
  | .imm _ => true

/-- The scalar register of a source. -/
def SSrc.regs : SSrc → List Nat
  | .s r => [r]
  | _ => []

def scalarResult (op : SOp) (a b : Nat) : Nat :=
  match op with
  | .mov => a
  | .add => a + b
  | .sub => unsgn 32 ((a : Int) - b)
  | .mul => a * b
  | .and => Nat.land a b
  | .or => Nat.lor a b
  | .xor => Nat.xor a b
  | .shl => shiftOp 0 a b
  | .shr => shiftOp 1 a b
  | .sar => shiftOp 2 a b
  | .setc c => b2n (cmpWords c a b)

/-- SCALAR_OP: once per issue for the group, whatever the active set (07 R307). -/
def State.evScalarOp (s : State) (i : GIns) (op : SOp) (rd : Nat) (a b : SSrc) : State :=
  s.issue i (sNeed (rd :: (a.regs ++ b.regs))) fun g act _ s =>
    if ¬ (a.ok && b.ok && decide (rd < 64)) then .trap 1 act 0 false
    else .done (s.onGroup i fun h => h.putS rd (scalarResult op (g.ssrc a) (g.ssrc b)))

/-! ### Control (07 R301-R304, R323) -/

/-- Bytes of code of a partition's image. -/
def State.codeLen (s : State) (p : Nat) : Nat := ((s.partAt p).image.map fun x => x.code.length).getD 0

/-- The scalar register of a condition. -/
def BranchCond.regs : BranchCond → List Nat
  | .scalar r => [r]
  | _ => []

/-- BRANCH: each thread continues at its own target; a target outside the image's code, or no multiple of 8, is ILLEGAL. -/
def State.evBranch (s : State) (i : GIns) (cond : BranchCond) (target : Int) : State :=
  s.issue i (sNeed cond.regs) fun g act ex s =>
    let pc := g.activePc
    let dst := (pc : Int) + target
    let ok : Bool := match cond with
      | .always => true
      | .pred p _ => decide (p < 8)
      | .scalar r => decide (r < 64)
    if ¬ ok ∨ target % 8 ≠ 0 ∨ dst < 0 ∨ (s.codeLen g.part : Int) ≤ dst then .trap 1 act 0 false
    else
      let take := match cond with
        | .always => ex
        | .pred p inv => ex &&& (if inv then ~~~ Table.at g.pred p 0 else Table.at g.pred p 0)
        | .scalar r => if g.s r = 0 then 0 else ex
      .jump (s.onGroup i fun h => (h.setPc take fun _ => dst.toNat).setPc (act &&& ~~~ take) fun x => x + i.len)

/-- YIELD: the starvation escape at once, and the set it takes has its 4,096 issues before it (07 R302). -/
def State.evYield (s : State) (i : GIns) : State :=
  s.issue i {} fun _ act _ s =>
    .yield (s.onGroup i fun h => { (h.setPc act fun x => x + i.len) with last := act }.takeEscape)

/-- STARVATION_ESCAPE: after 4,096 issues with the same waiting threads (07 R302). -/
def State.evStarvationEscape (s : State) (m q k : Nat) : State :=
  match s.groupAt m q k with
  | some g => if 4096 ≤ g.starve ∧ g.escape = none then s.updGroup m q k Group.takeEscape else s
  | none => s

/-- When every live thread waits at a barrier, all of them go on (07 R303). -/
def Group.barrierCheck (g : Group) : Group := if g.live &&& ~~~ g.barrier = 0 then { g with barrier := 0 } else g

/-- BAR.G: FENCE.P for every thread, then the barrier (07 R303, 09 Table 09-6). -/
def State.evBarG (s : State) (i : GIns) : State :=
  s.issue i {} fun _ act ex s =>
    .jump ((s.acquire i.mould).onGroup i fun h =>
      { (h.setPc act fun x => x + i.len) with barrier := h.barrier ||| ex }.barrierCheck)

/-- The group's accesses have been performed: every remote one is answered, and every copy has ended but for those that never will, a
faulted one that no CWAIT covered and those behind it (06 R271, log entry 124). -/
def Group.settled (g : Group) : Bool := g.pending.isEmpty && (g.copies.head?.all fun c => c.fault.isSome)

/-- EXIT: the threads end; with the last of them, its accesses performed, the group's resources are freed, and its sheet may complete
(07 R304, 06 R271). -/
def State.evExit (s : State) (i : GIns) : State :=
  s.issue i {} fun g act ex s =>
    let live := g.live &&& ~~~ ex
    if live = 0 ∧ ¬ g.settled then .stall
    else if live = 0 then
      .jump (((s.freeGroup i.mould i.quarter i.slot false).updSheet g.ring g.subIndex fun h => { h with ended := h.ended + 1 }).sheetCheck
        g.ring g.subIndex)
    else .jump (s.onGroup i fun h => { (h.setPc (act &&& ~~~ ex) fun x => x + i.len) with live := live }.barrierCheck)

/-- Value and width of a special register for a thread (07 Table 07-3). -/
def State.sregVal (s : State) (i : GIns) (g : Group) (act : BitVec 32) (t : Nat) : SReg → Nat × Bool
  | .tid => (t, false)
  | .gidx => (g.x, false)
  | .gidy => (g.y, false)
  | .gidz => (g.z, false)
  | .gridx => (((s.sheetAt g.ring g.subIndex).map (·.gridX)).getD 0, false)
  | .gridy => (((s.sheetAt g.ring g.subIndex).map (·.gridY)).getD 0, false)
  | .gridz => (((s.sheetAt g.ring g.subIndex).map (·.gridZ)).getD 0, false)
  | .mould => (i.mould, false)
  | .quarter => (i.quarter, false)
  | .slot => (i.slot, false)
  | .part => (g.part, false)
  | .sheet => (g.subIndex, false)
  | .active => (act.toNat, false)
  | .cycle => ((s.mouldAt i.mould).cycles % 2 ^ 64, true)
  | .time => (s.now * 1000000000 / 32768 % 2 ^ 64, true)
  | .fclk => ((s.mouldAt i.mould).mult * 25 / 2, false)

/-- MOVS: a special register to a scalar or vector register, or register pair (07 R308). -/
def State.evMovs (s : State) (i : GIns) (sr : SReg) (scalar : Bool) (rd : Nat) : State :=
  s.issue i (if scalar then sNeed [rd, rd + 1] else vNeed [rd, rd + 1]) fun g act ex s =>
    let w := (s.sregVal i g act 0 sr).2
    let size := if w then 8 else 4
    if scalar then
      if 64 < rd + regsOf size ∨ rd % regsOf size ≠ 0 then .trap 1 act 0 false
      else
        let v := (s.sregVal i g act (((bitsSet 32 act.toNat).head?).getD 0) sr).1
        .done (s.onGroup i fun h => if w then (h.putS rd (v % 2 ^ 32)).putS (rd + 1) (v / 2 ^ 32) else h.putS rd v)
    else if ¬ g.regOk rd size then .trap 1 act 0 false
    else .done (s.onGroup i fun h => (bitsSet 32 ex.toNat).foldl (fun h t =>
      h.putWide rd t (s.sregVal i g act t sr).1 (regsOf size)) h)

/-! ### Conversions (08 R351, R353) -/

/-- CVT between FP32 and BF16 or FP8. -/
def State.evCvt (s : State) (i : GIns) (op : CvtOp) (rd ra : Nat) : State :=
  s.issue i (vNeed [rd, ra]) fun g act ex s =>
    let f := match op with
      | .toF f => f
      | .fromF f => f
    if ¬ (g.regOk rd 4 && g.regOk ra 4 && (f == .bf16 || f == .e4m3 || f == .e5m2)) then .trap 1 act 0 false
    else .done (s.onGroup i fun h => (bitsSet 32 ex.toNat).foldl (fun h t =>
      h.putV rd t (match op with
        | .toF f => f.round (Fmt.fp32.decode (g.v ra t))
        | .fromF f => Fmt.fp32.round (f.decode (g.v ra t % 2 ^ f.bits)))) h)

/-- CVT.pb8 and CVT.pb4: the 32 values of the group into one block, an inactive thread supplying 0; thread t's mantissa goes to
`rd`, and the shared exponent to the next register, of every active, predicated-on thread (07 R300, log entry 10). -/
def State.evCvtPb (s : State) (i : GIns) (f : Fmt) (rd ra : Nat) : State :=
  s.issue i (vNeed [rd, rd + 1, ra]) fun g act ex s =>
    if ¬ (g.regOk rd 4 && g.regOk (rd + 1) 4 && g.regOk ra 4 && (f == .pb8 || f == .pb4)) then .trap 1 act 0 false
    else
      let b := toBlock f ((List.range 32).map fun t => if ex.getLsbD t then g.v ra t else 0)
      .done (s.onGroup i fun h => (bitsSet 32 ex.toNat).foldl (fun h t =>
        (h.putV rd t ((b.1[t]?).getD 0)).putV (rd + 1) t b.2) h)

/-! ### Wide accumulators (08 R355-R358) -/

/-- The accumulator behind a handle. -/
def Group.wideOf (g : Group) (h : Nat) : Option Nat := Table.at g.wides h none

/-- Change the accumulator of a group. -/
def State.updWide (s : State) (i : GIns) (n : Nat) (f : Wide → Wide) : State :=
  s.updQuarter i.mould i.quarter fun x => { x with wides := Table.upd x.wides n f }
def State.wideAt (s : State) (i : GIns) (n : Nat) : Wide := Table.at (s.quarterAt i.mould i.quarter).wides n {}

/-- WACQ: a zeroed accumulator, in FIFO order (08 R355). -/
def State.evWacq (s : State) (i : GIns) (h : Nat) : State :=
  s.issue i {} fun g act _ s =>
    if 4 ≤ h ∨ (g.wideOf h).isSome then .trap 0xB act 0 false
    else .done ((s.onGroup i fun x => { x with wait := .wide h }).updQuarter i.mould i.quarter fun x =>
      { x with wideQ := x.wideQ ++ [(i.slot, h)] }.serveWides 16)

/-- An instruction on a handle that the group must hold. -/
def State.wideIssue (s : State) (i : GIns) (h : Nat) (need : Need)
    (body : Nat → Group → BitVec 32 → BitVec 32 → State → Eff) : State :=
  s.issue i need fun g act ex s => match g.wideOf h with
    | none => .trap 1 act 0 false
    | some n => body n g act ex s

/-- The lanes of a mask change. -/
def Wide.onLanes (w : Wide) (mask : BitVec 32) (f : Nat → Lane → Lane) : Wide :=
  { w with lanes := w.lanes.mapIdx fun t (l : Lane) => if mask.getLsbD t then f t l else l }

/-- WZERO (08 Table 08-6). -/
def State.evWzero (s : State) (i : GIns) (h : Nat) : State :=
  s.wideIssue i h {} fun n _ _ ex s => .done (s.updWide i n fun w => w.onLanes ex fun _ _ => {})

/-- WADD: the thread's FP32 value exactly into its lane (08 R357). -/
def State.evWadd (s : State) (i : GIns) (h ra : Nat) : State :=
  s.wideIssue i h (vNeed [ra]) fun n g act ex s =>
    if ¬ g.regOk ra 4 then .trap 1 act 0 false
    else .done (s.updWide i n fun w => w.onLanes ex fun t l => l.term (Fmt.fp32.decode (g.v ra t)))

/-- WSUB: the negated value (08 Table 08-6). -/
def State.evWsub (s : State) (i : GIns) (h ra : Nat) : State :=
  s.wideIssue i h (vNeed [ra]) fun n g act ex s =>
    if ¬ g.regOk ra 4 then .trap 1 act 0 false
    else .done (s.updWide i n fun w => w.onLanes ex fun t l => l.term (Fmt.fp32.decode (g.v ra t)).neg)

/-- All lanes of an accumulator exactly into one (08 Table 08-6). -/
def Wide.reduce (w : Wide) : Lane := (Table.at w.lanes 0 {}).mergeAll w.lanes.toList.tail

/-- WRED: into lane 0, the others zeroed, whatever the active set. -/
def State.evWred (s : State) (i : GIns) (h : Nat) : State :=
  s.wideIssue i h {} fun n _ _ _ s => .done (s.updWide i n fun w =>
    { w with lanes := w.lanes.mapIdx fun t (_ : Lane) => if t = 0 then w.reduce else {} })

/-- WRD: the lane rounded to FP32 (08 R358). -/
def State.evWrd (s : State) (i : GIns) (h rd : Nat) : State :=
  s.wideIssue i h (vNeed [rd]) fun n g act ex s =>
    if ¬ g.regOk rd 4 then .trap 1 act 0 false
    else
      let w := s.wideAt i n
      .done (s.onGroup i fun x => (bitsSet 32 ex.toNat).foldl (fun x t => x.putV rd t (Table.at w.lanes t {}).readOut.1) x)

/-- WRD2: the read-out pair (08 R358). -/
def State.evWrd2 (s : State) (i : GIns) (h rd rd2 : Nat) : State :=
  s.wideIssue i h (vNeed [rd, rd2]) fun n g act ex s =>
    if ¬ (g.regOk rd 4 && g.regOk rd2 4) then .trap 1 act 0 false
    else
      let w := s.wideAt i n
      .done (s.onGroup i fun x => (bitsSet 32 ex.toNat).foldl (fun x t =>
        let r := (Table.at w.lanes t {}).readOut
        (x.putV rd t r.1).putV rd2 t r.2) x)

/-- WFLG (08 Table 08-6). -/
def State.evWflg (s : State) (i : GIns) (h rd : Nat) : State :=
  s.wideIssue i h (vNeed [rd]) fun n g act ex s =>
    if ¬ g.regOk rd 4 then .trap 1 act 0 false
    else
      let w := s.wideAt i n
      .done (s.onGroup i fun x => (bitsSet 32 ex.toNat).foldl (fun x t => x.putV rd t (Table.at w.lanes t {}).flags) x)

/-- Bytes that a group may address in scratch (07 R315). -/
def Group.window (g : Group) : Nat := g.scratchBytes + g.stackBytes

/-- A 64-byte aligned block of scratch of `n` bytes, or the trap. -/
def Group.blockFault (g : Group) (act : BitVec 32) (off n : Nat) : Option Eff :=
  if off % 64 ≠ 0 then some (.trap 2 act off false)
  else if g.window < off + n then some (.trap 3 act off false)
  else none

def State.scratchRead (s : State) (i : GIns) (g : Group) (off n : Nat) : List Byte :=
  scratchGet (s.mouldAt i.mould).scratch g.phys off n
def State.scratchWrite (s : State) (i : GIns) (g : Group) (off : Nat) (b : List Byte) : State :=
  s.updMould i.mould fun x => { x with scratch := scratchPut x.scratch g.phys off b }

/-- WST: the 32 lane images, every lane (08 Table 08-7). -/
def State.evWst (s : State) (i : GIns) (h off : Nat) : State :=
  s.wideIssue i h {} fun n g act _ s => match g.blockFault act off 1792 with
    | some e => e
    | none => .done (s.scratchWrite i g off ((s.wideAt i n).lanes.toList.flatMap Lane.image))

/-- The 32 lanes of an image in scratch, none where a reserved field is not 0 (08 R357). -/
def State.lanesAt (s : State) (i : GIns) (g : Group) (off : Nat) : Option (List Lane) :=
  ((List.range 32).map fun t => laneOf (s.scratchRead i g (off + 56 * t) 56)).allSome

/-- WLD: load the 32 lane images. -/
def State.evWld (s : State) (i : GIns) (h off : Nat) : State :=
  s.wideIssue i h {} fun n g act _ s => match g.blockFault act off 1792, s.lanesAt i g off with
    | some e, _ => e
    | none, none => .trap 1 act 0 false
    | none, some l => .done (s.updWide i n fun w => { w with lanes := w.lanes.mapIdx fun t (_ : Lane) => (l[t]?).getD {} })

/-- WADDW: add the 32 stored lane images exactly into the lanes. -/
def State.evWaddw (s : State) (i : GIns) (h off : Nat) : State :=
  s.wideIssue i h {} fun n g act _ s => match g.blockFault act off 1792, s.lanesAt i g off with
    | some e, _ => e
    | none, none => .trap 1 act 0 false
    | none, some l => .done (s.updWide i n fun w => { w with lanes := w.lanes.mapIdx fun t (x : Lane) => x.merge ((l[t]?).getD {}) })

/-- WREL: release (08 R355). -/
def State.evWrel (s : State) (i : GIns) (h : Nat) : State :=
  s.wideIssue i h {} fun n _ _ _ s =>
    .done ((s.onGroup i fun x => { x with wides := Table.put x.wides h none }).updQuarter i.mould i.quarter fun x =>
      { x with wides := Table.upd x.wides n fun (w : Wide) => { w with holder := none } }.serveWides 16)

end Sys2Proof.Machine
end

