-- ==== Sys2Proof/Machine/MatEv.lean ====
section
/-! DEFINITION. The matrix unit and bulk copies (07 R309-R312, R316, 08 R352-R354). -/
namespace Sys2Proof.Machine

/-! ### The matrix unit -/

/-- The unit holds one executing instruction and a queue of two (07 R312). -/
def State.matRoom (s : State) (i : GIns) : Bool := (s.quarterAt i.mould i.quarter).matrix.length < 3

/-- A matrix instruction: a group that finds the unit's queue full is not ready; one whose entry has no matrix unit is ILLEGAL (07 R312,
R323). -/
def State.unitIssue (s : State) (i : GIns) (body : Group → BitVec 32 → State → Eff) : State :=
  s.issue i {} fun g act _ s =>
    if ¬ s.matRoom i then .stall
    else if ¬ g.matrix then .trap 1 act 0 false
    else body g act s

/-- A matrix instruction on a handle, which the group holds (07 R309). -/
def State.matIssue (s : State) (i : GIns) (h : Nat) (body : Nat → Group → BitVec 32 → State → Eff) : State :=
  s.unitIssue i fun g act s => match Table.at g.tiles h none with
    | none => .trap 1 act 0 false
    | some t => body t g act s

/-- MACQ: a free tile for the handle, in FIFO order among the quarter's groups (07 R309). -/
def State.evMacq (s : State) (i : GIns) (h : Nat) : State :=
  s.unitIssue i fun g act s =>
    if 2 ≤ h then .trap 0xB act 0 false
    else if (Table.at g.tiles h none).isSome then .trap 1 act 0 false
    else .done ((s.onGroup i fun x => { x with wait := .tile h }).updQuarter i.mould i.quarter fun x =>
      { x with tileQ := x.tileQ ++ [(i.slot, h)] }.serveTiles 4)

/-- An entry joins the unit's queue. -/
def State.matPush (s : State) (i : GIns) (h t : Nat) (o : MatOp) : State :=
  s.updQuarter i.mould i.quarter fun x => { x with matrix := x.matrix ++ [{ slot := i.slot, handle := h, tile := t, op := o }] }

/-- Queue an operation of a group on a tile. -/
def State.matQueue (s : State) (i : GIns) (h : Nat) (op : Nat → Group → BitVec 32 → Eff ⊕ MatOp) : State :=
  s.matIssue i h fun t g act s => match op t g act with
    | .inl e => e
    | .inr o => .done (s.matPush i h t o)

/-- MZERO. -/
def State.evMzero (s : State) (i : GIns) (h : Nat) : State := s.matQueue i h fun _ _ _ => .inr .zero

/-- An operand of `n` bytes at an offset aligned to 128 bytes inside the group's scratch (07 R310). -/
def Group.tileOk (g : Group) (off n : Nat) : Bool := off % 128 == 0 && decide (off + n ≤ g.window)

/-- MLD: 128 rows of 128 FP32. -/
def State.evMld (s : State) (i : GIns) (h off : Nat) : State :=
  s.matQueue i h fun _ g act => if g.tileOk off 65536 then .inr (.load off) else .inl (.trap 1 act 0 false)

/-- Bytes of a row or column of 128 elements. -/
def Fmt.line (f : Fmt) : Nat := 16 * f.bits
/-- Formats of MMA: FP8 in any mixture, or one of BF16, PB8 and PB4 on both sides (07 Table 07-5). -/
def mmaFmts (fa fb : Fmt) : Bool :=
  let fp8 (f : Fmt) : Bool := f == .e4m3 || f == .e5m2
  (fp8 fa && fp8 fb) || (fa == fb && (fa == .bf16 || fa == .pb8 || fa == .pb4))
/-- A block format. -/
def Fmt.block (f : Fmt) : Bool := f == .pb8 || f == .pb4
/-- Bytes of operand A: its columns, and 128 bytes of exponents per 32 columns of a block format (07 R310). -/
def aBytes (f : Fmt) (k : Nat) : Nat := k * f.line + (if f.block then 128 * (k / 32) else 0)

/-- MMA.fmt: the ranges and alignments of R310. -/
def State.evMma (s : State) (i : GIns) (h : Nat) (fa fb : Fmt) (a b k e : Nat) : State :=
  s.matQueue i h fun _ g act =>
    let ok := mmaFmts fa fb && decide (32 ≤ k) && decide (k ≤ 8192) && k % 32 == 0 && g.tileOk a (aBytes fa k) &&
      g.tileOk b (k * fb.line) && (if fb.block then g.tileOk e (128 * (k / 32)) else e == 0)
    if ok then .inr (.mma fa fb a b k e) else .inl (.trap 1 act 0 false)

/-- MST.fmt: FP32, BF16, E4M3 or E5M2, row-major. -/
def State.evMst (s : State) (i : GIns) (h : Nat) (f : Fmt) (off : Nat) : State :=
  s.matQueue i h fun _ g act =>
    if ¬ f.block ∧ g.tileOk off (128 * f.line) then .inr (.store f off) else .inl (.trap 1 act 0 false)

/-- Matrix instructions of a group on a handle that have not ended. -/
def Quarter.matPending (x : Quarter) (k h : Nat) : Bool := x.matrix.any fun e => e.slot == k && e.handle == h

/-- MWAIT: until every earlier matrix instruction of the group on the handle has ended (07 R309). -/
def State.evMwait (s : State) (i : GIns) (h : Nat) : State :=
  s.matIssue i h fun _ _ _ s =>
    if (s.quarterAt i.mould i.quarter).matPending i.slot h then .done (s.onGroup i fun x => { x with wait := .matrix h })
    else .done s

/-- MREL: the tile is released in its turn in the unit's queue, after earlier instructions on it end (07 R309, R312); the handle is free
at once. -/
def State.evMrel (s : State) (i : GIns) (h : Nat) : State :=
  s.matIssue i h fun t _ _ s => .done ((s.onGroup i fun x => { x with tiles := Table.put x.tiles h none }).matPush i h t .rel)

/-- Element of a tile: free before the tile is first written (log entry 7). -/
def Tile.elem (t : Tile) (n : Nat) : Nat := ((t.data[n]?).map (·.toNat)).getD (Config.freeOf 23 [t.seed, n] % 2 ^ 32)

/-- Element `n` of a line of elements that begins at offset `off` of scratch, whose offsets lie where `ph` places them. -/
def elemAt (f : Fmt) (m : Mem) (ph : Nat → Nat) (off n : Nat) : Nat :=
  if f.bits = 4 then (Mem.get 0 m (ph (off + n / 2))).toNat / 16 ^ (n % 2) % 16
  else leNat (scratchGet m ph (off + n * (f.bits / 8)) (f.bits / 8))

/-- A[i][k]: column-major, with the exponents of a block format after each 32 columns (07 R310, 08 R352). -/
def aElem (f : Fmt) (m : Mem) (ph : Nat → Nat) (off i k : Nat) : FVal :=
  if f.block then
    let grp := off + (k / 32) * (32 * f.line + 128)
    blockVal f (elemAt f m ph (grp + (k % 32) * f.line) i) (Mem.get 0 m (ph (grp + 32 * f.line + i))).toNat
  else f.decode (elemAt f m ph (off + k * f.line) i)

/-- B[k][j]: row-major, with the exponents of a block format at their own offset. -/
def bElem (f : Fmt) (m : Mem) (ph : Nat → Nat) (off e k j : Nat) : FVal :=
  if f.block then blockVal f (elemAt f m ph (off + k * f.line) j) (Mem.get 0 m (ph (e + (k / 32) * 128 + j))).toNat
  else f.decode (elemAt f m ph (off + k * f.line) j)

/-- One element of tile + A × B: exact products added with FP32 rounding in increasing k (07 R311). -/
def mmaElem (fa fb : Fmt) (m : Mem) (ph : Nat → Nat) (a b e i j acc : Nat) (k : Nat) : Nat :=
  (List.range k).foldl (fun acc n =>
    Fmt.fp32.round (((aElem fa m ph a i n).mul (bElem fb m ph b e n j)).add (Fmt.fp32.decode acc))) acc

/-- What a matrix instruction does when it ends: the tile and the scratch after it (07 Table 07-4). -/
def matEffect (op : MatOp) (ph : Nat → Nat) (t : Tile) (m : Mem) : Tile × Mem :=
  match op with
  | .zero => ({ t with data := List.replicate 16384 0 }, m)
  | .load off => ({ t with data := (List.range 16384).map fun n => BitVec.ofNat 32 (leNat (scratchGet m ph (off + 4 * n) 4)) }, m)
  | .mma fa fb a b k e =>
    ({ t with data := (List.range 16384).map fun n =>
        BitVec.ofNat 32 (mmaElem fa fb m ph a b e (n / 128) (n % 128) (t.elem n) k) }, m)
  | .store f off =>
    (t, scratchPut m ph off ((List.range 16384).flatMap fun n => leBytes (f.bits / 8) (f.round (Fmt.fp32.decode (t.elem n)))))
  | .rel => ({ t with holder := none }, m)

/-- MATRIX_OP_DONE: the executing instruction ends, with its effect; the next one starts; a group whose MWAIT is satisfied is
ready, and a released tile is handed on (07 R309, R312). -/
def State.evMatrixOpDone (s : State) (m q : Nat) : State :=
  match (s.quarterAt m q).matrix with
  | [] => s
  | e :: rest =>
    let ph (off : Nat) : Nat := ((s.groupAt m q e.slot).map (·.phys off)).getD off
    let r := matEffect e.op ph (Table.at (s.quarterAt m q).tiles e.tile {}) (s.mouldAt m).scratch
    let s1 := s.updMould m fun x => { x with scratch := r.2 }
    s1.updQuarter m q fun x =>
      let y : Quarter := { x with matrix := rest, tiles := Table.put x.tiles e.tile r.1 }
      let z : Quarter := if y.matPending e.slot e.handle then y else
        { y with slots := Table.upd y.slots e.slot fun g => g.map fun (g : Group) =>
            if g.wait = .matrix e.handle then { g with wait := .none } else g }
      z.serveTiles 4

/-! ### Bulk copies (07 R316, 08 R334, 09 R388) -/

/-- A copy's fault at its start: alignment, and the group's scratch (07 R314-R316). -/
def Group.copyFault (g : Group) (c : Copy) : Option (Nat × Nat × Bool) :=
  if c.scratch % 64 ≠ 0 ∨ c.va % 64 ≠ 0 then some (2, c.va, false)
  else if g.window < c.scratch + c.len then some (3, c.scratch, false)
  else none

/-- The requests of a copy over Chainline: at most 4 KiB each (09 R388). -/
def State.copyRequests (s : State) (i : GIns) (g : Group) (c : Copy) (pos va : Nat) : State :=
  (List.range ((c.len + 4095) / 4096)).foldl (fun s k =>
    let n := min 4096 (c.len - 4096 * k)
    let p := s.reqPacket g.part pos (if c.toScratch then 1 else 2) (va + 4096 * k)
    let q := if c.toScratch then { p with len := n }
      else { p with len := n, dflits := n / 64, bmask := 2 ^ 64 - 1, data := s.scratchRead i g (c.scratch + 4096 * k) n }
    s.request i g.part q (.copy c)) s

/-- A copy starts: over Chainline its requests are queued; a partition with no row partition tag reaches no peer: its sheet notes the
refusal, and a copy into scratch brings zeros (01 R21, R22, 08 R335). -/
def State.copyStart (s : State) (i : GIns) (g : Group) (c0 : Copy) : State :=
  let c : Copy := { c0 with id := g.copySeq }
  let add (c : Copy) (s : State) : State := s.onGroup i fun x => { x with copies := x.copies ++ [c], copySeq := x.copySeq + 1 }
  match g.copyFault c with
  | some f => add { c with fault := some f } s
  | none => match s.placeOf c.va with
    | .remote pos va =>
      if (s.partAt g.part).tag = 0 then
        let s1 := if c.toScratch then s.scratchWrite i g c.scratch (List.replicate c.len 0) else s
        s1.updSheet g.ring g.subIndex fun h => { h with notOwner := some (h.notOwner.getD pos) }
      else (add { c with pending := (c.len + 4095) / 4096 } s).copyRequests i g c pos va
    | _ => add c s

/-- MCOPY: 64 bytes to 1 MiB in multiples of 64; a ninth copy waits (07 R316). -/
def State.evMcopy (s : State) (i : GIns) (toScratch : Bool) (scratch va len : Nat) : State :=
  s.issue i { mem := true } fun g act _ s =>
    let c : Copy := { toScratch := toScratch, scratch := scratch, va := va, len := len, pc := g.activePc }
    if len = 0 ∨ 2 ^ 20 < len ∨ len % 64 ≠ 0 then .trap 1 act 0 false
    else if 8 ≤ g.copies.length then .done (s.onGroup i fun x => { x with wait := .copySlot c })
    else .done (s.copyStart i g c)

/-- Move a local copy page by page; a page that does not translate, is write-protected or holds poison ends it with a fault,
what was moved before it staying moved (08 R334). -/
def State.copyMove (s : State) (m : Nat) (g : Group) (c : Copy) : Nat → Nat → Option (Nat × Nat × Bool) × State
  | _, 0 => (none, s)
  | off, n + 1 =>
    if c.len ≤ off then (none, s)
    else
      let va := (match s.placeOf c.va with
        | .local_ v => v
        | _ => c.va) + off
      let here := min (65536 - va % 65536) (c.len - off)
      if 2 ^ 48 ≤ va then (some (5, va, false), s)
      else
        let w := s.xlate m g.part va
        match w.1 with
        | .leaf ppa wr _ =>
          match (s.partAt g.part).dpa (ppa + va % 65536) with
          | none => (some (5, va, false), w.2)
          | some d =>
            if c.toScratch then
              if (List.range ((here + 63) / 64)).any (fun k => w.2.isPoisoned (d / 64 + k)) then (some (6, va, false), w.2)
              else
                (w.2.updMould m fun x => { x with scratch := scratchPut x.scratch g.phys (c.scratch + off) (w.2.memRead d here) }).copyMove
                  m g c (off + here) n
            else if ¬ wr ∨ (s.partAt g.part).inImage d then (some (4, va, false), w.2)
            else (w.2.storeThrough m d (scratchGet (w.2.mouldAt m).scratch g.phys (c.scratch + off) here)).copyMove m g c (off + here) n
        | .absent rpl => (some (5, va, rpl), w.2)
        | .malformed => (some (5, va, false), w.2)
        | .tableError => (some (5, va, false), w.2.partFault g.part 1)

/-- The oldest copies that a CWAIT n covers include one with a fault. -/
def Group.coveredFault (g : Group) (n : Nat) : Option Copy := (g.copies.take (g.copies.length - n)).find? fun c => c.fault.isSome

/-- CWAIT n: until at most n copies of the group are outstanding; a fault in a covered copy traps here (07 R316). -/
def State.evCwait (s : State) (i : GIns) (n : Nat) : State :=
  s.issue i {} fun g act _ s => match g.coveredFault n with
    | some c => .trapCopy s c
    | none =>
      if g.copies.length ≤ n then .done s
      else .jump (s.onGroup i fun x => { x with wait := .copies n i.len i.raw act })

/-- A group's waits on copies are judged: a ninth MCOPY starts, a CWAIT is satisfied or traps. -/
def State.copyWake (s : State) (m q k : Nat) : State :=
  match s.groupAt m q k with
  | none => s
  | some g =>
    let i : GIns := { mould := m, quarter := q, slot := k }
    match g.wait with
    | .copySlot c => if g.copies.length < 8 then (s.onGroup i fun x => { x with wait := .none }).copyStart i g c else s
    | .copies n len raw set => match g.coveredFault n with
      | some c => if g.landed then s.copyTrap m q k g c raw set else s
      | none =>
        if g.copies.length ≤ n then s.onGroup i fun x => { (x.setPc set fun y => y + len) with wait := .none } else s
    | _ => s

/-- COPY_DONE: the oldest copy of a group completes, in issue order (07 R316): a local one moves its bytes, a remote one has
had every answer. -/
def State.evCopyDone (s : State) (m q k : Nat) : State :=
  match s.groupAt m q k with
  | none => s
  | some g => match g.copies with
    | [] => s
    | c :: rest =>
      if c.fault.isSome ∨ 0 < c.pending then s
      else
        let r := match s.placeOf c.va with
          | .remote _ _ => (none, s)
          | .local_ _ => s.copyMove m g c 0 18
          | .bad => (some (5, c.va, false), s)
        (r.2.updGroup m q k fun x => { x with copies := match r.1 with
          | some f => { c with fault := some f } :: rest
          | none => rest }).copyWake m q k

end Sys2Proof.Machine
end

