-- ==== Sys2Proof/Machine/LdstEv.lean ====
section
/-! DEFINITION. Loads, stores, atomics and fences, the trap instructions, parked groups, and the tally instructions
(07 R313, R314, 08 R332-R345, 09 R386-R398). -/
namespace Sys2Proof.Machine

/-! ### Addresses of a memory instruction (07 R313-R315, 09 R381, R386) -/

/-- Where one element of a memory instruction lies. -/
inductive Target where
  | scratch (off : Nat)
  | mem (dpa : Nat)
  | far (pos va : Nat)
  | fault (kind : Nat) (replay : Bool)
  /-- uncorrectable data in a translation table (09 R385) -/
  | table
  deriving DecidableEq, Repr

/-- Element sizes, and registers that exist (07 R305, R314); otherwise the instruction is ILLEGAL. -/
def Group.memLegal (g : Group) (op : MemOp) : Bool :=
  [1, 2, 4, 8, 16].contains op.size && g.regOk op.rd op.size &&
  (match op.ra with
    | some r => g.regOk r (if op.scratch then 4 else 8)
    | none => true) &&
  (match op.rs with
    | some r => decide (r + (if op.scratch then 1 else 2) ≤ 64)
    | none => true)

/-- The address of a thread's element: a scratch offset, or a partition or row address. -/
def Group.memAddr (g : Group) (op : MemOp) (t : Nat) : Nat :=
  let w := if op.scratch then 1 else 2
  let va := (op.ra.map fun r => g.vWide r t w).getD 0
  let sa := (op.rs.map fun r => g.s r + (if op.scratch then 0 else 2 ^ 32 * g.s (r + 1))).getD 0
  unsgn (32 * w) ((va : Int) + sa + op.imm)

/-- Where an address leads, for a read or a write: alignment, bounds, translation and write protection (07 R314, R315,
09 R381). -/
def State.targetOf (s : State) (i : GIns) (g : Group) (scratch write : Bool) (size a : Nat) : Target × State :=
  if a % size ≠ 0 then (.fault 2 false, s)
  else if scratch then (if g.window < a + size then (.fault 3 false, s) else (.scratch a, s))
  else match s.placeOf a with
    | .bad => (.fault 5 false, s)
    | .remote pos va => (.far pos va, s)
    | .local_ va =>
      let w := s.xlate i.mould g.part va
      match w.1 with
      | .leaf ppa wr _ =>
        match (s.partAt g.part).dpa (ppa + va % 65536) with
        | none => (.fault 5 false, w.2)
        | some d => if write && (!wr || (s.partAt g.part).inImage d) then (.fault 4 false, w.2) else (.mem d, w.2)
      | .absent rpl => (.fault 5 rpl, w.2)
      | .malformed => (.fault 5 false, w.2)
      | .tableError => (.table, w.2)

/-- The elements of the active, predicated-on threads in ascending order: thread, address, target (07 R313). -/
def State.targets (s : State) (i : GIns) (g : Group) (write : Bool) (op : MemOp) (ex : BitVec 32) :
    List (Nat × Nat × Target) × State :=
  (bitsSet 32 ex.toNat).foldl (fun (acc : List (Nat × Nat × Target) × State) t =>
    let a := g.memAddr op t
    let r := acc.2.targetOf i g op.scratch write op.size a
    (acc.1 ++ [(t, a, r.1)], r.2)) ([], s)

/-- The fault of one element, a read of poison among them. -/
def State.elemFault (s : State) (reads : Bool) (e : Nat × Nat × Target) : Option (Nat × Nat × Nat × Bool) :=
  match e.2.2 with
  | .fault k r => some (k, e.1, e.2.1, r)
  | .mem d => if reads && s.isPoisoned (d / 64) then some (6, e.1, e.2.1, false) else none
  | _ => none

/-- All elements are translated and checked before anything is written (08 R333, R334); what then is to be done is `act`. -/
def State.checked (s : State) (i : GIns) (g : Group) (reads write : Bool) (op : MemOp) (ex : BitVec 32)
    (body : List (Nat × Nat × Target) → State → State) : Eff :=
  if ¬ g.memLegal op then .trap 1 g.active 0 false
  else
    let r := s.targets i g write op ex
    if r.1.any (fun e => e.2.2 == .table) then .jump (r.2.partFault g.part 1)
    else match firstFault (r.1.filterMap (r.2.elemFault reads)) with
      | some (.trap k m a rp) => .trapIn r.2 k m a rp (r.1.map fun e => e.2.1)
      | _ => .done (body r.1 r.2)

/-! ### Loads and stores -/

/-- Distinct values in order of first appearance. -/
def distinct (l : List (Nat × Nat)) : List (Nat × Nat) := l.foldl (fun acc x => if acc.contains x then acc else acc ++ [x]) []

/-- The remote sectors of a list of elements, as (position, sector). -/
def farSectors (l : List (Nat × Nat × Target)) : List (Nat × Nat) :=
  distinct (l.filterMap fun e => match e.2.2 with
    | .far pos va => some (pos, va / 64)
    | _ => none)

/-- The elements of a remote sector, as (thread, byte offset). -/
def inSector (l : List (Nat × Nat × Target)) (x : Nat × Nat) : List (Nat × Nat) :=
  l.filterMap fun e => match e.2.2 with
    | .far pos va => if pos = x.1 ∧ va / 64 = x.2 then some (e.1, va % 64) else none
    | _ => none

/-- A partition in no row partition issues no request: its sheet notes a refusal by the position (01 R21, 08 R335). -/
def State.noTag (s : State) (g : Group) (pos : Nat) : State :=
  s.updSheet g.ring g.subIndex fun h => { h with notOwner := some (h.notOwner.getD pos) }

/-- The group notes that the answers of an instruction are outstanding, and whether an acquire follows them (07 R297, 09 R391). -/
def State.awaits (s : State) (i : GIns) (g : Group) (acq : Bool) (l : List Dest) : State :=
  s.onGroup i fun h =>
    { h with pending := h.pending ++ (l.map fun d => { dest := d, pc := g.activePc, raw := i.raw }), acq := h.acq || acq }

/-- Send the requests of an instruction, one per sector or element; what needs their answers waits for them (07 R297, 09 R388). -/
def State.farAll (s : State) (i : GIns) (g : Group) (acq : Bool) (l : List (Nat × Packet × Dest)) (none_ : Group → Group) :
    State :=
  match l with
  | [] => s
  | x :: _ =>
    if (s.partAt g.part).tag = 0 then (s.onGroup i none_).noTag g x.1
    else (l.foldl (fun (s : State) (y : Nat × Packet × Dest) => s.request i g.part y.2.1 y.2.2) s).awaits i g acq (l.map fun y => y.2.2)

/-- What a memory instruction needs: its registers, and no acquire outstanding (07 R297, 09 R391). -/
def memNeed (op : MemOp) : Need :=
  { regs := vregsOf op.rd op.size ++ ((op.ra.map fun r => vregsOf r (if op.scratch then 4 else 8)).getD []) ++
      ((op.rs.map fun r => if op.scratch then [GReg.s r] else [GReg.s r, GReg.s (r + 1)]).getD []), mem := true }

/-- LOAD: results land in lanes; remote sectors are read in one request each, zeros where no request may be sent
(07 R313, 09 R388, R390). -/
def State.loadBody (s : State) (i : GIns) (g : Group) (op : MemOp) (acq : Bool) (l : List (Nat × Nat × Target)) : State :=
  let secs := distinct (l.filterMap fun e => match e.2.2 with
    | .mem d => some (d / 64, 0)
    | _ => none)
  let r := secs.foldl (fun (acc : List (Nat × List Byte) × State) x =>
    let y := acc.2.loadSector i.mould x.1
    (acc.1 ++ [(x.1, y.1)], y.2)) (([] : List (Nat × List Byte)), s)
  let s1 := r.2
  let val (e : Nat × Nat × Target) : Option Nat := match e.2.2 with
    | .scratch o => some (leNat (s1.scratchRead i g o op.size))
    | .mem d => some (fld ((r.1.find? fun x => x.1 == d / 64).map (·.2) |>.getD []) (d % 64) op.size)
    | _ => none
  let s2 := s1.onGroup i fun h => l.foldl (fun h e => match val e with
    | some x => h.putWide op.rd e.1 (extendTo op.size op.signed x) (regsOf op.size)
    | none => h) h
  let far := (farSectors l).map fun x =>
    (x.1, { s2.reqPacket g.part x.1 1 (64 * x.2) with len := 64 }, Dest.load op.rd (inSector l x) op.size op.signed)
  s2.farAll i g acq far fun h => (farSectors l).foldl (fun h x => (inSector l x).foldl (fun h y =>
    h.putWide op.rd y.1 0 (regsOf op.size)) h) h

def State.evLoad (s : State) (i : GIns) (op : MemOp) : State :=
  s.issue i (memNeed op) fun g _ ex s => s.checked i g true false op ex fun l s => s.loadBody i g op false l
/-- LD.ACQ: the load, then an acquire (09 Table 09-6). -/
def State.evLdAcq (s : State) (i : GIns) (op : MemOp) : State :=
  s.issue i (memNeed op) fun g _ ex s => s.checked i g true false op ex fun l s =>
    let t := s.loadBody i g op true l
    if farSectors l = [] ∨ (s.partAt g.part).tag = 0 then t.acquire i.mould else t

/-- Bytes and their mask of a remote sector's stores, the highest-numbered thread's value landing (07 R314). -/
def sectorBytes (g : Group) (op : MemOp) (l : List (Nat × Nat)) : List Byte × Nat :=
  l.foldl (fun (acc : List Byte × Nat) x =>
    let b := leBytes op.size (g.vWide op.rd x.1 (regsOf op.size))
    (acc.1.take x.2 ++ b ++ acc.1.drop (x.2 + op.size), Nat.lor acc.2 ((2 ^ op.size - 1) * 2 ^ x.2)))
    (List.replicate 64 0, 0)

/-- STORE: in ascending thread order, local sectors written through, remote ones in one request each (07 R314, 09 R388, R390). -/
def State.storeBody (s : State) (i : GIns) (g : Group) (op : MemOp) (l : List (Nat × Nat × Target)) : State :=
  let s1 := l.foldl (fun (s : State) e =>
    let b := leBytes op.size (g.vWide op.rd e.1 (regsOf op.size))
    match e.2.2 with
    | .scratch o => s.scratchWrite i g o b
    | .mem d => s.storeThrough i.mould d b
    | _ => s) s
  let far := (farSectors l).map fun x =>
    let b := sectorBytes g op (inSector l x)
    (x.1, { s1.reqPacket g.part x.1 2 (64 * x.2) with len := 64, dflits := 1, bmask := b.2, data := b.1 }, Dest.store)
  s1.farAll i g false far id

/-- A store that issues where its needs are met. -/
def State.storeIssue (s : State) (i : GIns) (need : Need) (op : MemOp) : State :=
  s.issue i need fun g _ ex s => s.checked i g false true op ex fun l s => s.storeBody i g op l
def State.evStore (s : State) (i : GIns) (op : MemOp) : State := s.storeIssue i (memNeed op) op
/-- ST.REL: a release at row scope, which waits for the answers to every earlier remote access, then the store (09 R391). -/
def State.evStRel (s : State) (i : GIns) (op : MemOp) : State := s.storeIssue i { memNeed op with all := true } op
/-- FENCE.P: release and acquire for local memory (09 Table 09-6), whose accesses are performed as they issue. -/
def State.evFenceP (s : State) (i : GIns) : State := s.issue i {} fun _ _ _ s => .done (s.acquire i.mould)
/-- FENCE.R: release and acquire at row scope. -/
def State.evFenceR (s : State) (i : GIns) : State := s.issue i { all := true } fun _ _ _ s => .done (s.acquire i.mould)

/-! ### Atomics (09 R392) -/

/-- Codes of the operations in a request, in R392's order (log entry 10). -/
def AtomKind.code : AtomKind → Nat
  | .add => 0 | .mins => 1 | .minu => 2 | .maxs => 3 | .maxu => 4 | .and => 5 | .or => 6 | .xor => 7 | .xchg => 8 | .cas => 9
  | .fadd => 10
def AtomKind.ofCode (c : Nat) : Option AtomKind :=
  [AtomKind.add, .mins, .minu, .maxs, .maxu, .and, .or, .xor, .xchg, .cas, .fadd][c]?

/-- FP32 ADD works on 32-bit words; words are 32 or 64 bits. -/
def AtomKind.sizeOk (k : AtomKind) (n : Nat) : Bool := n == 4 || (n == 8 && k != .fadd)

/-- The new value of a word. -/
def AtomKind.apply (k : AtomKind) (n old x cmp : Nat) : Nat :=
  let b := 8 * n
  match k with
  | .add => (old + x) % 2 ^ b
  | .mins => if sgn b old ≤ sgn b x then old else x
  | .minu => min old x
  | .maxs => if sgn b old ≤ sgn b x then x else old
  | .maxu => max old x
  | .and => Nat.land old x
  | .or => Nat.lor old x
  | .xor => Nat.xor old x
  | .xchg => x
  | .cas => if old = cmp then x else old
  | .fadd => fpAdd .fp32 old x

/-- An atomic is legal where its word, its operand and its compare register are. -/
def Group.atomLegal (g : Group) (op : AtomOp) : Bool :=
  op.kind.sizeOk op.mem.size && g.regOk op.rb op.mem.size && (op.kind != .cas || g.regOk op.rc op.mem.size)

/-- ATOMIC_INSTR: in ascending thread order (07 R314), at the memory that holds the word or at the target device; the old
value lands in rd. -/
def State.atomBody (s : State) (i : GIns) (g : Group) (op : AtomOp) (l : List (Nat × Nat × Target)) : State :=
  let n := op.mem.size
  let w := regsOf n
  let x (t : Nat) : Nat := g.vWide op.rb t w
  let c (t : Nat) : Nat := g.vWide op.rc t w
  let s1 := l.foldl (fun (s : State) e =>
    match e.2.2 with
    | .scratch o =>
      let old := leNat (s.scratchRead i g o n)
      (s.scratchWrite i g o (leBytes n (op.kind.apply n old (x e.1) (c e.1)))).onGroup i fun h => h.putWide op.mem.rd e.1 old w
    | .mem d =>
      let old := leNat (s.memRead d n)
      (s.storeThrough i.mould d (leBytes n (op.kind.apply n old (x e.1) (c e.1)))).onGroup i fun h =>
        h.putWide op.mem.rd e.1 old w
    | _ => s) s
  let far := l.filterMap fun e => match e.2.2 with
    | .far pos va => some (pos, { s1.reqPacket g.part pos 3 va with
        op := op.kind.code, size := n, opnd0 := x e.1, opnd1 := if op.kind = .cas then c e.1 else 0 },
        Dest.atomic op.mem.rd e.1 n)
    | _ => none
  let s2 := s1.farAll i g op.acq far id
  if op.acq ∧ (far = [] ∨ (s.partAt g.part).tag = 0) then s2.acquire i.mould else s2

/-- What an atomic needs: its registers, and for a release the answers to every earlier remote access. -/
def atomNeed (op : AtomOp) : Need :=
  let m := memNeed op.mem
  { m with regs := m.regs ++ vregsOf op.rb op.mem.size ++ (if op.kind = .cas then vregsOf op.rc op.mem.size else []), all := op.rel }

def State.evAtomicInstr (s : State) (i : GIns) (op : AtomOp) : State :=
  s.issue i (atomNeed op) fun g act ex s =>
    if ¬ g.atomLegal op then .trap 1 act 0 false
    else s.checked i g true true op.mem ex fun l s => s.atomBody i g op l

/-! ### Traps and their handlers (08 R332, R338-R341) -/

/-- BRK raises BREAK. -/
def State.evBrk (s : State) (i : GIns) : State := s.issue i {} fun _ _ ex _ => .trap 7 ex 0 false

/-- A word of the save slot at a 4-byte aligned offset below 1 KiB (08 Table 08-3). -/
def SaveSlot.word (v : SaveSlot) (off : Nat) : Nat :=
  if off = 0 then v.kind + 2 ^ 16 * (b2n v.inHandler + 2 * b2n v.copyFault + 4 * b2n v.parked)
  else if off = 4 then v.faultPc
  else if off = 8 then v.faultAddr % 2 ^ 32
  else if off = 0xC then v.faultAddr / 2 ^ 32
  else if off = 0x10 then v.faultMask.toNat
  else if off = 0x14 then v.active.toNat
  else if off = 0x18 then v.live.toNat
  else if off = 0x1C then v.barrier.toNat
  else if 0x20 ≤ off ∧ off < 0x30 then v.instr / 2 ^ (8 * (off - 0x20)) % 2 ^ 32
  else if off = 0x30 then v.sp
  else if off = 0x34 then v.handler
  else if 0x40 ≤ off ∧ off < 0x60 then (Table.at v.pred ((off - 0x40) / 4) 0).toNat
  else if 0x80 ≤ off ∧ off < 0x100 then Table.at v.pc ((off - 0x80) / 4) 0
  else if 0x100 ≤ off ∧ off < 0x200 then (Table.at v.sreg ((off - 0x100) / 4) 0).toNat
  else 0

/-- TRAPLD: a 4-byte aligned word of the group's own slot, in any state (08 R338). -/
def State.evTrapld (s : State) (i : GIns) (off rd : Nat) : State :=
  s.issue i (sNeed [rd]) fun g act _ s =>
    if off % 4 ≠ 0 ∨ 1024 ≤ off ∨ 64 ≤ rd then .trap 1 act 0 false
    else .done (s.onGroup i fun h => h.putS rd (g.save.word off % 2 ^ 32))

/-- The slot with a writable word written; none where it may not be written (08 Table 08-3). -/
def SaveSlot.write (v : SaveSlot) (off x : Nat) : Option SaveSlot :=
  if off % 4 ≠ 0 then none
  else if 0x40 ≤ off ∧ off < 0x60 then some { v with pred := Table.put v.pred ((off - 0x40) / 4) (BitVec.ofNat 32 x) }
  else if 0x80 ≤ off ∧ off < 0x100 then some { v with pc := Table.put v.pc ((off - 0x80) / 4) x }
  else if 0x100 ≤ off ∧ off < 0x200 then some { v with sreg := Table.put v.sreg ((off - 0x100) / 4) (BitVec.ofNat 32 x) }
  else none

/-- TRAPST: inside a handler, to a field that it may write (08 R338). -/
def State.evTrapst (s : State) (i : GIns) (off rs : Nat) : State :=
  s.issue i (sNeed [rs]) fun g act _ s =>
    match g.save.write off (g.s rs) with
    | some v => if g.save.inHandler ∧ rs < 64 then .done (s.onGroup i fun h => { h with save := v }) else .trap 1 act 0 false
    | none => .trap 1 act 0 false

/-- TRAPSET: 0, or a multiple of 8 inside the image's code (08 R338). -/
def State.evTrapset (s : State) (i : GIns) (rs : Nat) : State :=
  s.issue i (sNeed [rs]) fun g act _ s =>
    let h := g.s rs
    if rs < 64 ∧ (h = 0 ∨ (h % 8 = 0 ∧ h < s.codeLen g.part)) then
      .done (s.onGroup i fun x => { x with save := { x.save with handler := h } })
    else .trap 1 act 0 false

/-- TRAPRET: PC, PRED and SREG from the slot, the barrier waits again, and issue goes on; outside a handler there is nothing to
return from, and the instruction is ILLEGAL (08 R341, log entry 10). With `skip` the operand of the row stands for a handler
that has added the instruction's length to the PC of threads that still stand at FAULT_PC. -/
def State.evTrapret (s : State) (i : GIns) (skip : Bool) : State :=
  s.issue i (sNeed (List.range 64)) fun g act _ s =>
    if ¬ g.save.inHandler then .trap 1 act 0 false
    else
      let n := if g.save.instr < 2 ^ 64 then 8 else 16
      .jump (s.onGroup i fun x =>
        let y : Group :=
          { x with
            pc := x.save.pc.map fun (p : Nat) => if skip ∧ p = x.save.faultPc then p + n else p,
            pred := x.save.pred, sreg := x.save.sreg, barrier := x.save.barrier &&& x.live, escape := none, starve := 0,
            save := { x.save with inHandler := false } }
        y.barrierCheck)

/-- TRAPKILL: inside a handler, the group ends with code 0x0100 + operand (08 R341). -/
def State.evTrapkill (s : State) (i : GIns) (code : Nat) : State :=
  s.issue i {} fun g act _ s =>
    if ¬ g.save.inHandler then .trap 1 act 0 false
    else .jump (s.trapKill i.mould i.quarter i.slot (0x100 + code % 256))

/-! ### Parked groups (08 R343-R345) -/

/-- Every address of a parked group's instruction translates by the tables as they are now, or faults for good: none still
faults on a replayable page. -/
def State.parkedTranslates (s : State) (g : Group) : Bool :=
  g.parkVas.all fun a => match s.placeOf a with
    | .local_ va => match s.walk (s.partAt g.part) va with
      | .absent rpl => !rpl
      | _ => true
    | _ => true

/-- A parked group translates again: where its address no longer faults on a replayable page PARKED clears, and the instruction
issues again from the start, with whatever it meets then (08 R344). -/
def State.unpark (s : State) (m q k : Nat) : State :=
  match s.groupAt m q k with
  | some g => if g.save.parked ∧ s.parkedTranslates g then
      s.updGroup m q k fun g => { g with parkVas := [], save := { g.save with parked := false } } else s
  | none => s

def State.evParkRetranslate (s : State) (m q k : Nat) : State := s.unpark m q k

/-- PARK_EXPIRED: 100 ms after the park began the group is killed, and no handler runs (08 R345). -/
def State.evParkExpired (s : State) (m q k : Nat) : State :=
  match s.groupAt m q k with
  | some g => if g.save.parked then
      (s.updGroup m q k fun g => { g with save := { g.save with kind := 0xA } }).trapKill m q k 0xA else s
  | none => s

/-- Parked groups of a partition whose address an invalidation covers translate again (08 R344). -/
def State.unparkCovered (s : State) (p : Nat) (v : Inval) : State :=
  (List.range 16).foldl (fun (s : State) m => (s.residents m).foldl (fun (s : State) (q, k) => match s.groupAt m q k with
    | some g => if g.part = p ∧ v.covers (g.save.faultAddr % 2 ^ 48 / 65536) then s.unpark m q k else s
    | none => s) s) s

/-- INVALIDATION_DONE: the head of the queue completes; parked groups that it covers translate again at its end (09 R384). -/
def State.evInvalidationDone (s : State) (p : Nat) : State :=
  match (s.partAt p).invQ with
  | [] => s
  | v :: _ => (s.invalDone p).unparkCovered p v

/-! ### Tally instructions (09 R394-R398) -/

/-- What a tally operand names. -/
inductive TallyRef where
  | own (t : Nat)
  | far (pos t : Nat)
  | none
  deriving DecidableEq, Repr

/-- A tally operand (09 R394); a tally that the partition may not reach, or a bit outside the fields, names none (R396). -/
def State.tallyRef (s : State) (p w : Nat) : TallyRef :=
  let t := bitsOf w 8 0
  let pos := bitsOf w 21 16
  if bitsOf w 15 9 ≠ 0 ∨ bitsOf w 30 22 ≠ 0 then .none
  else if ¬ bitOf w 31 ∨ pos = s.pos then (if s.holdsTally p t then .own t else .none)
  else if 256 ≤ t ∧ pos < s.row.rowSize ∧ (s.partAt p).tag ≠ 0 then .far pos t
  else .none

/-- Operand registers of a tally instruction. -/
def TallyOp.ok (t : TallyOp) : Bool := decide (t.sd < 64) && decide (t.st < 64) && decide (t.ss < 64)

/-- The sheet names a tally that its partition may not reach (09 R396). -/
def State.tallyDenied (s : State) (g : Group) : State := s.noTag g 0xFFFF

/-- A tally request over Chainline: OP 0 TLD, 1 TADD, 2 TADDR, 3 TSET (11 Table 11-10). -/
def State.tallyReq (s : State) (i : GIns) (g : Group) (pos t op x : Nat) (dest : Option Nat) (acq : Bool) : State :=
  (s.request i g.part { s.reqPacket g.part pos 4 t with op := op, opnd0 := x } (.tally dest)).awaits i g acq [.tally dest]

/-- What a tally instruction needs: its scalar registers, and for a release every earlier answer (09 Table 09-6). -/
def tallyNeed (t : TallyOp) (ret rel : Bool) : Need :=
  { sNeed ((if ret then [t.sd] else []) ++ [t.st, t.ss]) with all := rel }

/-- A tally instruction but for the waits: OP as in a request, the value for `sd` where it returns one, the new value. -/
def State.tallyIns (s : State) (i : GIns) (t : TallyOp) (op : Nat) (ret acq : Bool) (new : Nat → Nat → Option Nat) : State :=
  s.issue i (tallyNeed t ret (op != 0)) fun g act _ s =>
    if ¬ t.ok then .trap 1 act 0 false
    else match s.tallyRef g.part (g.s t.st) with
      | .own n =>
        let v := s.tallyVal n
        let s1 := if ret then s.onGroup i fun h => h.putS t.sd v else s
        let s2 := match new v (g.s t.ss) with
          | some x => s1.tallyPut n x
          | none => s1
        .done (if acq then s2.acquire i.mould else s2)
      | .far pos n => .done (s.tallyReq i g pos n op (if op = 0 then 0 else g.s t.ss) (if ret then some t.sd else none) acq)
      | .none =>
        let s1 := if ret then s.onGroup i fun h => h.putS t.sd 0 else s
        .done (s1.tallyDenied g)

/-- TLD: the value, then an acquire. -/
def State.evTld (s : State) (i : GIns) (t : TallyOp) : State := s.tallyIns i t 0 true true fun _ _ => .none
/-- TADD: a release, then the add. -/
def State.evTadd (s : State) (i : GIns) (t : TallyOp) : State := s.tallyIns i t 1 false false fun v x => some ((v + x) % 2 ^ 32)
/-- TADDR: as TADD, with the value before the add. -/
def State.evTaddr (s : State) (i : GIns) (t : TallyOp) : State := s.tallyIns i t 2 true false fun v x => some ((v + x) % 2 ^ 32)
/-- TSET: a release, then the write. -/
def State.evTset (s : State) (i : GIns) (t : TallyOp) : State := s.tallyIns i t 3 false false fun _ x => some x

/-- TWAIT: not ready until the condition holds, with an acquire; on another device through a watch (09 R395, R397). -/
def State.twait (s : State) (i : GIns) (t : TallyOp) (eq : Bool) : State :=
  s.issue i (tallyNeed t false false) fun g act _ s =>
    if ¬ t.ok then .trap 1 act 0 false
    else match s.tallyRef g.part (g.s t.st) with
      | .own n =>
        if waitHolds eq (s.tallyVal n) (g.s t.ss) then .done (s.acquire i.mould)
        else .done (s.onGroup i fun h =>
          { h with wait := .tally { tally := n, row := .none, eq := eq, operand := g.s t.ss, polling := false } })
      | .far pos n =>
        .done ((s.request i g.part { s.reqPacket g.part pos 5 n with op := b2n eq, opnd0 := g.s t.ss } .watch).onGroup i fun h =>
          { h with wait := .tally { tally := n, row := some pos, eq := eq, operand := g.s t.ss, polling := false } })
      | .none => .done (s.tallyDenied g)
def State.evTwaitGe (s : State) (i : GIns) (t : TallyOp) : State := s.twait i t false
def State.evTwaitEq (s : State) (i : GIns) (t : TallyOp) : State := s.twait i t true

/-- The record and notice of a timeout name the tally, its value and the operand (09 R398); the value of a tally of another
device is not at hand and reads 0. -/
def State.tallyTimedOut (s : State) (p tally value operand sub : Nat) : State :=
  (s.updPart p fun x => { x with timeouts := satInc 32 x.timeouts }).log 0x2005
    (param [(2, tally), (2, 0), (4, value), (4, operand), (4, sub)]) (some p)

/-- The waiter cancels its remote watch: one not yet sent is withdrawn, one sent is cancelled by its REQ_ID (09 R398). -/
def State.cancelWatch (s : State) (m q k : Nat) (x : TallyWait) : State :=
  let mine (w : Option Waiter) : Bool := match w with
    | some w => w.mould == m && w.quarter == q && w.slot == k && w.dest == .watch
    | none => false
  let s1 := { s with mesh := { s.mesh with issue := s.mesh.issue.filter fun j => !mine j.waiter } }
  match s.mesh.resv.find? fun r => mine r.waiter with
  | some r => { s1 with mesh := { s1.mesh with issue := s1.mesh.issue ++
      [{ part := r.part, waiter := none,
         packet := { s1.reqPacket r.part r.peer 6 x.tally with reqId := r.reqId, epoch := r.epoch, op := b2n x.eq, opnd0 := x.operand } }] } }
  | none => s1

/-- TALLY_WAIT_TIMEOUT: the condition has not held for the timeout; the sheet ends TIMEOUT with DETAIL 0x0002 (09 R398). -/
def State.evTallyWaitTimeout (s : State) (w : WaitSel) : State :=
  match w with
  | .group m q k =>
    match s.groupAt m q k with
    | none => s
    | some g => match g.wait with
      | .tally x =>
        let v := if x.row.isNone then s.tallyVal x.tally else 0
        (((s.tallyTimedOut g.part x.tally v x.operand g.subIndex).cancelWatch m q k x).updSheet g.ring g.subIndex fun h =>
          { h with timeout := some 2 }).endSheet g.ring g.subIndex
      | _ => s
  | .sheet r sub =>
    match s.sheetAt r sub, s.ringOwner r with
    | some h, some p =>
      if ¬ h.waitOk ∧ ¬ h.started ∧ h.waitTally ≠ 0xFFFF then
        ((s.tallyTimedOut p h.waitTally (s.tallyVal h.waitTally) h.waitValue sub).updSheet r sub fun h =>
          { h with timeout := some 2 }).endSheet r sub
      else s
    | _, _ => s

/-- Requests that ended NOT_READY in this command reach their groups (11 R475); a copy's wait is judged anew. -/
def State.followEnded (s : State) : State :=
  s.mesh.ended.foldl (fun s e => (s.remoteNotReady e.1 e.2).copyWake e.1.mould e.1.quarter e.1.slot)
    { s with mesh := { s.mesh with ended := [] } }

/-- WATCH_FULL_POLL: a waiter answered FULL reads the tally (09 R397). -/
def State.evWatchFullPoll (s : State) (m q k : Nat) : State :=
  match s.groupAt m q k with
  | none => s
  | some g => match g.wait with
    | .tally x => match x.polling, x.row with
      | true, some pos =>
        let i : GIns := { mould := m, quarter := q, slot := k }
        s.request i g.part (s.reqPacket g.part pos 4 x.tally) (.tally none)
      | _, _ => s
    | _ => s

end Sys2Proof.Machine
end

