-- ==== Sys2Proof/Machine/SheetEv.lean ====
section
/-! DEFINITION. Doorbells, sheets and their dispatch, stops by timers, Moulds removed and returned, the host's registers of
translation and tallies, BAR2, and the requests and answers of other devices (06 R257-R283, 07 R292-R296, 09 R377-R400,
11 R464-R468). -/
namespace Sys2Proof.Machine

/-! ### Doorbells (06 R259) -/

/-- VF `v` exists for the host: the endpoint is ready, VF Enable is set and NumVFs covers it (06 R247). -/
def State.vfUp (s : State) (vf : Nat) : Bool :=
  s.supply.endpoint == .ready && s.sriov.vfEnable && 1 ≤ vf && vf ≤ s.sriov.numVfs && vf ≤ totalVfs

/-- Ring `r` belongs to the partition of VF `v`. -/
def State.ringOfVf (s : State) (vf r : Nat) : Bool := s.vfUp vf && s.ringOwner r == some (vf - 1)

/-- Count an ignored doorbell write. -/
def State.badDoorbell (s : State) (r : Nat) : State := s.updRing r fun x => { x with badDb := satInc 32 x.badDb }

/-- The doorbells of ring `r` that VF `v` writes act: the ring is its partition's and set up. On a ring granted and not set up a
write is ignored and not counted (21 R819). -/
def State.doorbellOf (s : State) (vf r : Nat) : Bool := s.ringOfVf vf r && (s.ringAt r).setup

/-- A write to RNG_SUB_PI (06 R259). -/
def State.evSubPi (s : State) (vf r v : Nat) : State :=
  if ¬ s.doorbellOf vf r then s
  else
    let x := s.ringAt r
    if idxSub v x.subCi ≤ x.size ∧ idxSub v x.subPi ≤ x.size then (s.updRing r fun x => { x with subPi := v }).ringRefresh r
    else s.badDoorbell r

/-- A consumer index may move forward up to its producer index, and no further (06 R259). -/
def ciOk (old new pi : Nat) : Bool := decide (idxSub new old ≤ idxSub pi old)

/-- A write to RNG_CPL_CI: it frees credit and lets overflow entries out (06 R259, R261, R262). -/
def State.evCplCi (s : State) (vf r v : Nat) : State :=
  if ¬ s.doorbellOf vf r then s
  else
    let x := s.ringAt r
    if ciOk x.cplCi v x.cplPi then (s.updRing r fun x => { x with cplCi := v }).ringMoved r else s.badDoorbell r

/-- A write to RNG_SPILL_CI. -/
def State.evSpillCi (s : State) (vf r v : Nat) : State :=
  if ¬ s.doorbellOf vf r then s
  else
    let x := s.ringAt r
    if ciOk x.spillCi v x.spillPi then (s.updRing r fun x => { x with spillCi := v }).ringMoved r else s.badDoorbell r

/-! ### Acceptance of a sheet (06 R260, R267-R269) -/

/-- The sheet that 64 bytes spell, of a known KIND. -/
def parseSheet (b : List Byte) (kind : SheetKind) (sub now : Nat) : Sheet :=
  { kind := kind, barrier := bitOf (fld b 1 1) 0, irq := bitOf (fld b 1 1) 1, sigAny := bitOf (fld b 1 1) 2, entry := fld b 2 2,
    userId := fld b 4 4, gridX := fld b 8 4, gridY := fld b 0xC 2, gridZ := fld b 0xE 2, args := fld b 0x10 8,
    stackKib := fld b 0x18 2, scratchKib := fld b 0x1A 2, waitTally := fld b 0x1C 2, signalTally := fld b 0x1E 2,
    waitValue := fld b 0x20 4, signalValue := fld b 0x24 4, deadlineUs := fld b 0x28 4, subIndex := sub, acceptedAt := now }

def sheetKind (b : List Byte) : Option SheetKind :=
  match fld b 0 1 with
  | 1 => some .kernel
  | 2 => some .fence
  | 3 => some .nop
  | _ => none

/-- The first offset of a sheet that breaks its layout (06 R267, Table 06-8): the offset of a field out of its range, or the
first reserved byte that is not 0. -/
def sheetFault (b : List Byte) (k : SheetKind) : Option Nat :=
  let kern := k == .kernel
  let zero (off n : Nat) : List Nat := if zeroAt b off n then [] else [off]
  let bad (c : Bool) (off : Nat) : List Nat := if c then [off] else []
  let tallyBad (off : Nat) : Bool := decide (511 < fld b off 2) && fld b off 2 != 0xFFFF
  let l := bad (decide (8 ≤ fld b 1 1)) 1 ++ (if kern then [] else zero 2 2) ++
    (if kern then bad (fld b 8 4 == 0 || decide (16777216 < fld b 8 4)) 8 ++ bad (fld b 0xC 2 == 0) 0xC ++ bad (fld b 0xE 2 == 0) 0xE ++
        bad (fld b 0x10 8 % 64 != 0 || decide (2 ^ 48 ≤ fld b 0x10 8)) 0x10 ++ bad (decide (256 < fld b 0x18 2)) 0x18 ++
        bad (decide (8192 < fld b 0x1A 2)) 0x1A
      else zero 8 4 ++ zero 0xC 2 ++ zero 0xE 2 ++ zero 0x10 8 ++ zero 0x18 2 ++ zero 0x1A 2) ++
    bad (tallyBad 0x1C) 0x1C ++ bad (tallyBad 0x1E) 0x1E ++ bad (decide (60000000 < fld b 0x28 4)) 0x28 ++
    ((List.range 20).filterMap fun n => if fld b (0x2C + n) 1 = 0 then none else some (0x2C + n))
  l.head?

/-- KiB of scratch that a group of the sheet takes, in granules of 16 KiB (07 R293). -/
def Sheet.kib (h : Sheet) : Nat := (h.scratchKib + h.stackKib + 15) / 16 * 16

/-- The partition may name a tally in a sheet (06 R268). -/
def State.sheetTallyOk (s : State) (p t : Nat) : Bool := t == 0xFFFF || s.reachesTally p t

/-- What ends a sheet at its acceptance, its layout being good (06 R268, R269, 07 R325). -/
def State.sheetRefusal (s : State) (p : Nat) (h : Sheet) : Option (Status × Nat) :=
  let entries := ((s.partAt p).image.map fun x => x.entries.length).getD 0
  if h.kind = .kernel ∧ 8192 < h.kib then some (.badArg, 0x18)
  else if h.kind = .kernel ∧ entries ≤ h.entry then some (.precond, 2)
  else if ¬ s.sheetTallyOk p h.waitTally ∨ ¬ s.sheetTallyOk p h.signalTally then some (.notOwner, 0xFFFF)
  else none

/-- An accepted sheet joins its ring. -/
def State.sheetAdd (s : State) (r : Nat) (h : Sheet) : State :=
  (s.updRing r fun x => { x with subCi := (x.subCi + 1) % 2 ^ 32, sheets := x.sheets ++ [h] }).ringRefresh r

/-- No effect but a completion. -/
def Sheet.inert (h : Sheet) : Sheet := { h with signalTally := 0xFFFF }

/-- The sheet with what the outside does to its completion. -/
def Sheet.withDma (h : Sheet) (d : DmaCase) : Sheet := { h with dmaErr := d == .completionError }

/-- A sheet is accepted; malformed or refused it completes at once, and otherwise its wait is judged (06 R260, R267-R269). -/
def State.acceptSheet (s : State) (r p : Nat) (b : List Byte) (dma : DmaCase := .ok) : State :=
  let sub := (s.ringAt r).subCi
  match sheetKind b with
  | none =>
    let h := ((parseSheet b .nop sub s.now).inert).withDma dma
    (s.sheetAdd r h).complete r h (.badOpcode, 0, false)
  | some k =>
    let h := (parseSheet b k sub s.now).withDma dma
    match sheetFault b k with
    | some off => (s.sheetAdd r h.inert).complete r h.inert (.badArg, off, false)
    | none => match s.sheetRefusal p h with
      | some v => (s.sheetAdd r h).complete r h (v.1, v.2, false)
      | none =>
        let ok := h.waitTally == 0xFFFF || waitHolds false (s.tallyVal h.waitTally) h.waitValue
        s.sheetAdd r { h with waitOk := ok }

/-- A sheet of a ring may be fetched: its partition is Started, INTAKE is 1, and credit permits (06 R260, R261). -/
def State.fetchable (s : State) (r p : Nat) : Bool :=
  let x := s.ringAt r
  x.intake && (s.partAt p).state == .started && s.supply.endpoint == .ready && x.subPi != x.subCi && decide (x.outCount < x.outLimit)

/-- The partition whose turn sheet fetch has come to: round robin over those with a sheet to fetch (20 R786, R791). -/
def State.fetchTurn (s : State) : Option Nat :=
  let waiting := (List.range 16).filter fun p => (s.partAt p).rings.any fun r => s.fetchable r p
  match waiting.find? fun p => s.sriov.lastFetch < p with
  | some p => some p
  | none => waiting.head?

/-- SHEET_ACCEPT: the next sheet of the ring, in its partition's turn (06 R260, R261, 20 R791). Its fetch may meet a DMA error, or the
write of its completion later (Table 06-12). -/
def State.evSheetAccept (s : State) (r : Nat) (b : List Byte) (dma : DmaCase) : State :=
  match s.ringOwner r with
  | none => s
  | some p =>
    if s.fetchable r p ∧ s.fetchTurn = some p then
      let s1 := { s with sriov := { s.sriov with lastFetch := p } }
      (if dma = .fetchError then s1.dmaError r p else s1.acceptSheet r p b dma)
    else s

/-! ### FENCE, NOP and KERNEL sheets (06 R267, R269) -/

/-- Accepted sheets of a ring before a sheet. -/
def Ring.earlier (x : Ring) (sub : Nat) : List Sheet := x.sheets.takeWhile fun h => h.subIndex != sub

/-- A sheet that nothing holds back but its kind: its wait is satisfied, and BARRIER lets it go. -/
def Ring.free (x : Ring) (h : Sheet) : Bool := h.waitOk && (!h.barrier || (x.earlier h.subIndex).isEmpty)

/-- SHEET_FENCE: completes once every earlier-accepted sheet of the ring has completed. -/
def State.evSheetFence (s : State) (r sub : Nat) : State :=
  match s.sheetAt r sub with
  | some h => if h.kind = .fence ∧ h.waitOk ∧ ((s.ringAt r).earlier sub).isEmpty then s.complete r h h.verdict else s
  | none => s

/-- NOP sheets that nothing holds back complete at once (06 Table 06-8). -/
def State.followNops (s : State) : State :=
  (List.range 64).foldl (fun (s : State) r => (s.ringAt r).sheets.foldl (fun (s : State) h =>
    match s.sheetAt r h.subIndex with
    | some h => if h.kind = .nop ∧ (s.ringAt r).free h then s.complete r h h.verdict else s
    | none => s) s) s

/-- A sheet of the ring is ready to start dispatch: the first KERNEL sheet that has not started, if nothing holds it back. -/
def Ring.startable (x : Ring) : Option Sheet :=
  match x.sheets.find? fun h => h.kind == .kernel && !h.started with
  | some h => if x.free h then some h else none
  | none => none

/-- The ring whose turn it is among a partition's rings with sheets ready to dispatch: round robin (06 R269). -/
def State.turnOf (s : State) (p : Nat) : Option Nat :=
  let ready := (List.range 64).filter fun r => (s.partAt p).rings.contains r && ((s.ringAt r).startable).isSome
  match ready.find? fun r => (s.partAt p).lastRing < r with
  | some r => some r
  | none => ready.head?

/-- SHEET_KERNEL_DISPATCH: a sheet starts dispatch, in acceptance order within its ring and in its ring's turn (06 R269). -/
def State.evSheetKernelDispatch (s : State) (r sub : Nat) : State :=
  match s.ringOwner r, (s.ringAt r).startable with
  | some p, some h =>
    if h.subIndex = sub ∧ s.turnOf p = some r ∧ s.dev.state = .serving then
      (s.updSheet r sub fun h => { h with started := true, order := (s.partAt p).starts }).updPart p fun x =>
        { x with lastRing := r, starts := x.starts + 1 }
    else s
  | _, _ => s

/-! ### Dispatch of thread groups (07 R292-R296) -/

/-- The entry descriptor of a sheet: VREG_BLOCKS, MATRIX, and whether R292 accepts it; the offset of the first instruction. -/
def State.descriptor (s : State) (p : Nat) (h : Sheet) : Nat × Bool × Bool × Nat :=
  match (s.partAt p).image with
  | none => (0, false, false, 0)
  | some im =>
    let off := (im.entries[h.entry]?).getD 0
    let d := fld im.code off 8
    (bitsOf d 5 0, bitOf d 6, decide (1 ≤ bitsOf d 5 0 ∧ bitsOf d 5 0 ≤ 32) && bitsOf d 63 7 == 0, off + 8)

/-- Bytes of vector registers that the residents of a quarter hold. -/
def Quarter.vregUsed (x : Quarter) : Nat := (x.slots.toList.map fun g => (g.map fun (g : Group) => g.vregBlocks * 1024).getD 0).sum
/-- The lowest free slot of a quarter. -/
def Quarter.freeSlotNo (x : Quarter) : Option Nat := (List.range 16).find? fun k => (Table.at x.slots k none).isNone
def Quarter.freeCount (x : Quarter) : Nat := (x.slots.toList.filter (·.isNone)).length

/-- The granules of a Mould's scratch that no resident group holds, of 512 of 16 KiB (07 R293). -/
def Mould.freeGranules (x : Mould) : List Nat :=
  let used := x.q.toList.flatMap fun q => q.slots.toList.flatMap fun g => (g.map fun (g : Group) => g.gran).getD []
  (List.range 512).filter fun n => !used.contains n

/-- The granules that a group of `kib` KiB takes: the lowest free ones, wherever they lie; none where too few are free (07 R293, log
entry 28). -/
def Mould.scratchPlace (x : Mould) (kib : Nat) : Option (List Nat) :=
  if kib / 16 ≤ x.freeGranules.length then some (x.freeGranules.take (kib / 16)) else none

/-- The quarters of a partition's Moulds in service that can host a group of a sheet, as (Mould, quarter, slot, granules). -/
def State.hosts (s : State) (p : Nat) (h : Sheet) (vb : Nat) : List (Nat × Nat × Nat × List Nat) :=
  ((List.range 16).filter fun m => (s.mouldAt m).part == some p && ((s.mouldAt m).state == .running || (s.mouldAt m).state == .stopped)).flatMap
    fun m => match (s.mouldAt m).scratchPlace h.kib with
      | none => []
      | some b => (List.range 4).filterMap fun q =>
          let x := s.quarterAt m q
          match x.freeSlotNo with
          | some k => if x.vregUsed + vb * 1024 ≤ 262144 then some (m, q, k, b) else none
          | none => none

/-- Most free slots; ties to the lowest Mould, then the lowest quarter (07 R294). -/
def State.bestHost (s : State) (l : List (Nat × Nat × Nat × List Nat)) : Option (Nat × Nat × Nat × List Nat) :=
  l.foldl (fun best x => match best with
    | none => some x
    | some y => if (s.quarterAt y.1 y.2.1).freeCount < (s.quarterAt x.1 x.2.1).freeCount then some x else best) none

/-- A group at its first instruction (07 R296). -/
def newGroup (p r : Nat) (h : Sheet) (vb : Nat) (matrix : Bool) (pc : Nat) (gran : List Nat) : Group :=
  let n := h.dispatched
  let x := n % h.gridX
  let y := n / h.gridX % h.gridY
  let z := n / (h.gridX * h.gridY)
  let top := (h.scratchKib + h.stackKib) * 1024
  let s0 : Vector Reg32 64 := Vector.replicate 64 0
  let put (v : Vector Reg32 64) (i w : Nat) : Vector Reg32 64 := Table.put v i (BitVec.ofNat 32 w)
  { part := p, ring := r, subIndex := h.subIndex, number := n, x := x, y := y, z := z, vregBlocks := vb, matrix := matrix,
    gran := gran, scratchBytes := h.scratchKib * 1024, stackBytes := h.stackKib * 1024,
    vreg := List.replicate (8 * vb) (Vector.replicate 32 0),
    sreg := put (put (put (put (put (put s0 0 h.args) 1 (h.args / 2 ^ 32)) 2 x) 3 y) 4 z) 63 top,
    pred := Vector.replicate 8 0, pc := Vector.replicate 32 pc, live := BitVec.allOnes 32, barrier := 0 }

/-- The started sheet of a partition that dispatches at present: the first in start order with groups left (07 R294). -/
def State.dispatching (s : State) (p : Nat) : Option (Nat × Sheet) :=
  let all := (s.partAt p).rings.flatMap fun r => (s.ringAt r).sheets.filterMap fun h =>
    if h.started ∧ h.dispatched < h.groups then some (r, h) else none
  all.foldl (fun best x => match best with
    | none => some x
    | some y => if x.2.order < y.2.order then some x else best) none

/-- The first group of a sheet whose descriptor R292 refuses traps ILLEGAL before its first instruction, which ends the sheet
(07 R292, 08 R342). -/
def State.badDescriptor (s : State) (r p : Nat) (h : Sheet) : State :=
  let s1 := s.updSheet r h.subIndex fun h => { h with dispatched := h.dispatched + 1, trap := some (h.trap.getD 1) }
  let s2 := s1.log 0x2101 (param [(4, h.subIndex), (4, (s.descriptor p h).2.2.2 % 2 ^ 24 + r * 2 ^ 24), (4, 0), (4, h.dispatched)])
    (some p) true true
  s2.endSheet r h.subIndex

/-- GROUP_DISPATCH: the next group in linear order becomes resident; its Mould's clock starts where it stood, and dispatch acts
as an acquire (07 R294, 03 R89, 09 R393). -/
def State.evGroupDispatch (s : State) (r sub : Nat) : State :=
  match s.ringOwner r with
  | none => s
  | some p => match s.dispatching p with
    | none => s
    | some (r1, h) =>
      if r1 ≠ r ∨ h.subIndex ≠ sub ∨ s.dev.state ≠ .serving then s
      else
        let d := s.descriptor p h
        if ¬ d.2.2.1 then s.badDescriptor r p h
        else match s.bestHost (s.hosts p h d.1) with
          | none => s
          | some (m, q, k, gran) =>
            let g := newGroup p r h d.1 d.2.1 d.2.2.2 gran
            let s1 := s.updQuarter m q fun x => { x with slots := Table.put x.slots k (some g) }
            let s2 := s1.updSheet r sub fun h => { h with dispatched := h.dispatched + 1 }
            let s3 := { s2 with thm := { s2.thm with
              warming := if s2.rampMode then s2.thm.warming &&& ~~~ BitVec.ofNat 16 (2 ^ m) else 0 } }
            let s4 := if (s3.mouldAt m).state = .running then s3
              else (s3.updMould m fun x => { x with state := .running }).clockOn m
            s4.acquire m

/-! ### Timers of rings and sheets (06 R265, R270, R273) -/

/-- An overflow entry has waited longer than the ring's bound (06 R265). -/
def State.overdueNow (s : State) (r : Nat) : Bool :=
  let x := s.ringAt r
  let us := if x.drainBound = 0 then 10000 else x.drainBound
  match x.overflow with
  | c :: _ => x.setup && decide (us * 32768 < (s.now - c.since) * 1000000)
  | [] => false

/-- OVERDUE_CHANGE: OVERDUE follows, with one record and notice on each rise and each fall. -/
def State.evOverdueChange (s : State) (r : Nat) : State :=
  let now := s.overdueNow r
  if now = (s.ringAt r).overdue then s
  else (s.updRing r fun x => { x with overdue := now }).log 0x2002 (param [(1, r)]) (s.ringOwner r) now true

/-- SHEET_DEADLINE: still running DEADLINE_US after acceptance: TIMEOUT with DETAIL 0x0001 (06 R270). -/
def State.evSheetDeadline (s : State) (r sub : Nat) : State :=
  match s.sheetAt r sub with
  | some h => if h.deadlineUs = 0 then s else
      (s.updSheet r sub fun h => { h with timeout := some 1 }).endSheet r sub
  | none => s

/-- DRAIN_DEADLINE: sheets remain at the deadline, so the stop escalates to ABORT; PART_STOP completes ABORTED with its counts
(06 R273). -/
def State.evDrainDeadline (s : State) (p : Nat) : State :=
  if (s.partAt p).state = .draining then (s.abortPart p .drainDeadline).answerStop p .aborted else s

/-- MEMORY_SWEEP: marked blocks are cleared in the background; what they read as does not change (06 R253). -/
def State.evMemorySweep (s : State) (first count : Nat) : State :=
  s.updMem fun m => { m with marked := unmark first count m.marked }

/-! ### Moulds out of service and back (03 R89, 06 R281) -/

/-- MOULD_CLOCK_IDLE_STOP: no resident group for 10 us, and no warming load (03 R89). -/
def State.evMouldClockIdleStop (s : State) (m : Nat) : State :=
  if (s.mouldAt m).state = .running ∧ s.residents m = [] ∧ ¬ s.thm.warming.getLsbD m then
    (s.updMould m fun x => { x with state := .stopped }).clockOff m
  else s

/-- Record and notice of a Mould's change: verdict 0 removed, 1 returned, 2 retired, 3 granted in its place (log entry 26). -/
def State.mouldRecord (s : State) (m verdict : Nat) (p : Option Nat) : State := s.log 0x2004 (param [(1, m), (1, Config.codeOf 8 verdict)]) p

/-- A Mould leaves service: the sheets with a group there complete ABORTED with DETAIL 0x0007, and it leaves its partition for
its self-test (06 R281). -/
def State.mouldRemove (s : State) (m : Nat) : State :=
  let x := s.mouldAt m
  if x.state = .selfTest ∨ x.state = .retired then s
  else
    let sheets := (s.residents m).filterMap fun (q, k) => (s.groupAt m q k).map fun g => (g.ring, g.subIndex)
    let s1 := (distinct sheets).foldl (fun (s : State) (y : Nat × Nat) =>
      (s.updSheet y.1 y.2 fun h => { h with stop := some (h.stop.getD .mouldFailure) }).endSheet y.1 y.2) s
    let s2 := (s1.updMould m fun x => { x with state := .selfTest, part := none, removedFrom := x.part, mult := 0 })
    let s3 := match x.part with
      | some p => s2.updPart p fun y => { y with moulds := y.moulds.filter (· != m) }
      | none => s2
    s3.mouldRecord m 0 x.part

/-- MOULD_FAULT: an uncorrectable register-file error or a residue failure. -/
def State.evMouldFault (s : State) (m : Nat) : State := s.mouldRemove m

/-- MOULD_WATCHDOG: it fires only for a quarter with a ready group (07 R327). -/
def State.evMouldWatchdog (s : State) (m q : Nat) : State :=
  if (List.range 16).any fun k => (s.canIssue m q k).isSome then s.mouldRemove m else s

/-- The place of the next grant of a Mould. -/
def State.nextRank (s : State) : Nat := ((s.mould.toList.map fun (x : Mould) => x.rank).foldl max 0) + 1

/-- A Mould enters a list at its place in the order of grants. -/
def State.grantAfter (s : State) (m : Nat) : List Nat → List Nat
  | [] => [m]
  | k :: l => if (s.mouldAt m).rank ≤ (s.mouldAt k).rank then m :: k :: l else k :: s.grantAfter m l
/-- Moulds in the order of their grants. -/
def State.byGrant (s : State) (l : List Nat) : List Nat := l.foldr s.grantAfter []

/-- A Mould joins a partition, its clock stopped: granted anew, nothing of another partition's contents is left (07 R318, 08 R336);
back from its self-test, it keeps its place in the order of grants (06 R254). -/
def State.mouldJoin (s : State) (m p : Nat) (anew : Bool) : State :=
  let n := s.nextRank
  let s1 := s.updMould m fun x =>
    { x with state := .stopped, part := some p, removedFrom := none, mult := 0, scratch := if anew then [] else x.scratch,
             rank := if anew then n else x.rank }
  s1.updPart p fun y => { y with moulds := s1.byGrant (y.moulds ++ [m]) }

/-- MOULD_SELFTEST_DONE: a pass returns the Mould to its partition; a fail retires it until cold reset, a free healthy Mould is
granted in its place if there is one, and the last Mould of a partition retired is a partition fault (06 R281, Table 06-13): the
last one is that beside which the partition holds no Mould in service, one that is out for its self-test not counted (DESIGN CHOICE,
log entry 121). -/
def State.evMouldSelftestDone (s : State) (m : Nat) (pass : Bool) : State :=
  let x := s.mouldAt m
  if x.state ≠ .selfTest then s
  else
    let home := x.removedFrom.filter fun p => (s.partAt p).state != .none
    let s0 := s.updMould m fun x => { x with removedFrom := none }
    if pass then match home with
      | some p => (s0.mouldJoin m p false).mouldRecord m 1 (some p)
      | none => (s0.updMould m fun x => { x with state := .free, part := none }).mouldRecord m 1 none
    else
      let s1 := (s0.updMould m fun x => { x with state := .retired, part := none }).mouldRecord m 2 home
      match home with
      | none => s1
      | some p => match (List.range 16).find? fun n => (s1.mouldAt n).state == .free with
        | some n => (s1.mouldJoin n p true).mouldRecord n 3 (some p)
        | none => if (s1.partAt p).moulds = [] then s1.partFault p 3 else s1

/-! ### Registers of translation and tallies (09 R383, R384, R399) -/

/-- An access of VF `v` to a partition that does not exist is counted (09 R377). -/
def State.barMiss (s : State) (vf : Nat) : State := s.updPart (vf - 1) fun x => { x with barMiss := satInc 32 x.barMiss }

/-- An invalidation is queued, and parked groups that it covers translate again; one that finds the queue full is only counted
(08 R344, 09 R384). -/
def State.invalidate (s : State) (p : Nat) (i : Inval) : State :=
  let s1 := s.queueInval p i
  if (s.partAt p).invQ.length < 16 then s1.unparkCovered p i else s1

/-- A write to RNG_XLT_ROOT_LO or _HI queues an invalidation with ALL = 1 (09 R384). -/
def State.xltRootWrite (s : State) (p : Nat) (hi : Bool) (v : Nat) : State :=
  let s1 := s.updPart p fun x =>
    if hi then { x with xltRoot := x.xltRoot % 2 ^ 20 + v % 65536 * 2 ^ 20 }
    else { x with xltRoot := x.xltRoot / 2 ^ 20 * 2 ^ 20 + bitsOf v 31 12, xltEn := bitOf v 0 }
  s1.invalidate p { all := true, vpn := 0, count := 0 }

/-- A write to RNG_XLT_INV_CMD: one invalidation from the VA registers as they stand; COUNT = 0 without ALL is ignored and
counted (09 R384). Parked groups that it covers translate again (08 R344). -/
def State.xltInvCmd (s : State) (p v : Nat) : State :=
  let i : Inval := { all := bitOf v 31, vpn := (s.partAt p).invVa, count := v % 65536 }
  if ¬ i.all ∧ i.count = 0 then s.updPart p fun x => { x with invLost := satInc 32 x.invLost }
  else s.invalidate p i

/-- A 32-bit write to the control region of a partition (09 Tables 09-4 and 09-9). -/
def State.ctrlWrite (s : State) (p off v : Nat) : State :=
  if off = 0 ∨ off = 4 then s.xltRootWrite p (off == 4) v
  else if off = 8 then s.updPart p fun x => { x with invVa := x.invVa / 65536 * 65536 + v / 65536 }
  else if off = 0xC then s.updPart p fun x => { x with invVa := x.invVa % 65536 + v % 65536 * 65536 }
  else if off = 0x10 then s.xltInvCmd p v
  else if 0x1800 ≤ off ∧ off < 0x2000 then
    (if s.holdsTally p ((off - 0x1800) / 4) then s.tallyAdd ((off - 0x1800) / 4) v else s)
  else if 0x2000 ≤ off ∧ off < 0x2080 then
    (if (s.partAt p).tallies.contains ((off - 0x2000) / 4) then
      { s with tally := { s.tally with cfg := Table.put s.tally.cfg ((off - 0x2000) / 4) (v % 65536) } } else s)
  else s

/-- A 32-bit word of the control region. -/
def State.ctrlRead (s : State) (p off : Nat) : Nat :=
  let x := s.partAt p
  if off = 0 then bitsOf x.xltRoot 19 0 * 4096 + b2n x.xltEn
  else if off = 4 then x.xltRoot / 2 ^ 20
  else if off = 8 then x.invVa % 65536 * 65536
  else if off = 0xC then x.invVa / 65536
  else if off = 0x14 then x.invQ.length * 65536 + x.invDone
  else if off = 0x18 then x.xltBad
  else if off = 0x1C then x.barMiss
  else if off = 0x20 then x.invLost
  else if 0x1000 ≤ off ∧ off < 0x1800 then
    (if s.holdsTally p ((off - 0x1000) / 4) then s.tallyVal ((off - 0x1000) / 4) else 0)
  else if 0x2000 ≤ off ∧ off < 0x2080 then
    (if x.tallies.contains ((off - 0x2000) / 4) then Table.at s.tally.cfg ((off - 0x2000) / 4) 0 else 0)
  else if off = 0x2080 then x.timeouts
  else 0

/-- The partition of a VF takes a host access to BAR2, or the access meets no partition and is counted (09 R377). -/
def State.viaBar2 (s : State) (vf : Nat) (f : Nat → State) : State :=
  if ¬ s.vfUp vf then s
  else if (s.partAt (vf - 1)).state = .none then s.barMiss vf
  else f (vf - 1)

def State.evXltRootWrite (s : State) (vf : Nat) (hi : Bool) (v : Reg32) : State :=
  s.viaBar2 vf fun p => s.ctrlWrite p (if hi then 4 else 0) v.toNat
def State.evXltInvAll (s : State) (vf : Nat) (v : Reg32) : State := s.viaBar2 vf fun p => s.ctrlWrite p 0x10 v.toNat
def State.evXltInvRange (s : State) (vf : Nat) (v : Reg32) : State := s.viaBar2 vf fun p => s.ctrlWrite p 0x10 v.toNat
/-- TLY_SIG_WRITE: a write to TLY_SIGn acts as TADD; a tally that the partition does not hold ignores it (09 R399). -/
def State.evTlySigWrite (s : State) (vf t : Nat) (v : Reg32) : State :=
  s.viaBar2 vf fun p => if t < 512 then s.ctrlWrite p (0x1800 + 4 * t) v.toNat else s

/-! ### BAR2 (09 R377, R378) -/

/-- The control region of BAR2. -/
def ctrlBase : Nat := 0x3FFFFF0000

/-- 32-bit writes of an access to the control region, the lower address first; only whole aligned words are taken (21 R806). -/
def State.ctrlWrites (s : State) (p off : Nat) : List Byte → Nat → State
  | _, 0 => s
  | b, n + 1 =>
    if b.length < 4 then s
    else (s.ctrlWrite p off (fld b 0 4)).ctrlWrites p (off + 4) (b.drop 4) n

/-- A 32-bit read of the control region; a read of a _LO register latches the _HI register that goes with it (21 R807). -/
def State.ctrlReadLatched (s : State) (p off : Nat) : Nat × State :=
  let t := s.takeLatch (p + 1) (ctrlBase + off) (s.ctrlRead p off)
  (t.1, if off = 0 ∨ off = 8 then t.2.putLatch (p + 1) (ctrlBase + off + 4) (s.ctrlRead p (off + 4)) else t.2)

/-- A read of the control region: one word, or two where an aligned 64-bit access reads them (21 R806). -/
def State.ctrlReads (s : State) (p off len : Nat) : Nat × State :=
  let a := s.ctrlReadLatched p (off / 4 * 4)
  if len = 8 ∧ off % 8 = 0 then
    let b := a.2.ctrlReadLatched p (off + 4)
    (a.1 + b.1 * 2 ^ 32, b.2)
  else a

/-- BAR2_ACCESS: memory that the partition holds, the control region, or nothing. A read of poison gives the PCIe poisoned
data indication, which the model shows by no data. -/
def State.evBar2Access (s : State) (vf addr : Nat) (wr : Option (List Byte)) (len : Nat) : State :=
  let out (s : State) (v : Nat) : State := s.emit (.readData vf addr v)
  if vf = 0 then (if wr.isNone ∧ s.supply.endpoint = .ready then out s 0 else s)
  else if ¬ s.vfUp vf then s
  else
    let p := vf - 1
    let pt := s.partAt p
    let miss := match wr with
      | none => out (s.barMiss vf) 0
      | some _ => s.barMiss vf
    if pt.state = .none then miss
    else if ctrlBase ≤ addr then match wr with
      | some b => if addr % 4 = 0 then s.ctrlWrites p (addr - ctrlBase) b 2 else s
      | none =>
        let v := s.ctrlReads p (addr - ctrlBase) len
        out v.2 v.1
    else match pt.dpa addr with
      | none => miss
      | some d => match wr with
        | some b => if pt.inImage d then s.barMiss vf else s.memWrite d b
        | none =>
          if (List.range (len + 63)).any fun k => k % 64 == 0 && s.isPoisoned ((d + k) / 64) then
            (s.emit (.bus "poisoned read" [vf, addr])).log 0x2006 (param [(8, d)]) (some p)
          else out s (leNat (s.memRead d len))

/-! ### Requests of other devices (01 R22, R23, 09 R387, R397, 11 R464, R465) -/

/-- The partition of this device that a row partition tag names; tag 0 names none (01 R21). -/
def State.partOfTag (s : State) (tag : Nat) : Option Nat :=
  if tag = 0 then none else (List.range 16).find? fun p => (s.partAt p).tag == tag && (s.partAt p).state != .none

/-- A header's reserved fields are 0 and its values in range (11 R464, Table 11-9). -/
def Packet.headerOk (p : Packet) : Bool :=
  p.rsv07 == 0 && p.rsv1E == 0 && p.rsv3C == 0 && decide (p.hflags < 8) && decide (p.cls < 5) && decide (p.dflits ≤ 64)

/-- A packet of a request type is well formed (11 R464, R465, Tables 11-9 and 11-10). -/
def Packet.requestOk (p : Packet) : Bool :=
  let len : Bool := decide (64 ≤ p.len) && decide (p.len ≤ 4096) && p.len % 64 == 0
  let mem : Bool := decide (p.addr < 2 ^ 48)
  p.headerOk && match p.ptype with
    | 1 => len && mem && p.addr % 64 == 0 && p.dflits == 0
    | 2 => len && mem && p.addr % 64 == 0 && p.dflits == p.len / 64 && (p.len == 64 || p.bmask == 2 ^ 64 - 1)
    | 3 => mem && p.dflits == 0 && (match AtomKind.ofCode p.op with
        | some k => k.sizeOk p.size && p.addr % p.size == 0
        | none => false)
    | 4 => decide (p.addr < 512) && decide (p.op < 4) && p.dflits == 0
    | _ => decide (p.addr < 512) && decide (p.op < 2) && p.dflits == 0

/-- The answer type of a request (11 Table 11-10). -/
def Packet.answerType (p : Packet) : Nat := p.ptype % 128 + 128

/-- Answer a request on the strand it came on. -/
def State.reply (s : State) (k part : Nat) (p : Packet) (st : Status) (f : Packet → Packet := id) : State :=
  s.sendAnswer k part (f { ptype := p.answerType, cls := 1, src := s.pos, dst := p.src, tag := p.tag, epoch := p.epoch,
                           reqId := p.reqId, status := st.code })

/-- A request that this device does not admit: NOT_OWNER, and a Calender record. Table 19-5 has no code for it, so the record carries one of
the Chainline codes and a PARAM that are free (01 R22, 19 R767; log entry 127). -/
def State.refuse (s : State) (k part : Nat) (p : Packet) : State :=
  let f (i : Nat) : Nat := Config.freeOf 55 [s.cal.next, i]
  (s.log (0x3001 + f 0 % 4) (param [(8, f 1), (8, f 2)])).reply k part p .notOwner

/-- The device addresses of the sectors of a remote access, or what refuses it (09 R387). -/
def State.admitSectors (s : State) (p : Nat) (write : Bool) (va : Nat) : Nat → Option (List Nat) × State
  | 0 => (some [], s)
  | n + 1 =>
    let w := s.walk (s.partAt p) va
    let s1 := match w with
      | .tableError => s.partFault p 1
      | _ => s.countBad p w
    match w with
    | .leaf ppa wr rowOk =>
      match (s.partAt p).dpa (ppa + va % 65536) with
      | some d =>
        if rowOk && (!write || (wr && !(s.partAt p).inImage d)) then
          let r := s1.admitSectors p write (va + 64) n
          (r.1.map fun l => d :: l, r.2)
        else (none, s1)
      | none => (none, s1)
    | _ => (none, s1)

/-- Bytes of a WRITE where BMASK selects them. -/
def maskBytes (old new : List Byte) (mask : Nat) : List Byte :=
  (List.range 64).map fun i => if bitOf mask i then (new[i]?).getD 0 else (old[i]?).getD 0

/-- READ, WRITE and ATOMIC, admitted (11 R464, R465). -/
def State.serveMem (s : State) (k part : Nat) (p : Packet) : State :=
  let n := if p.ptype = 3 then 1 else p.len / 64
  let r := s.admitSectors part (p.ptype != 1) p.addr n
  match r.1 with
  | none => r.2.refuse k part p
  | some ds =>
    let t := r.2
    let bad : Bool := p.ptype != 2 && ds.any fun d => t.isPoisoned (d / 64)
    let t1 := if bad then ds.foldl (fun (t : State) d =>
        if t.isPoisoned (d / 64) then t.log 0x2006 (param [(8, d / 64 * 64)]) (some part) else t) t else t
    if p.ptype = 1 then
      t1.reply k part p .ok fun a => { a with
        len := p.len, dflits := p.len / 64, hflags := 2 * b2n bad, data := ds.flatMap fun d => t1.memRead d 64 }
    else if p.ptype = 2 then
      let t2 := (List.range n).foldl (fun (t : State) i =>
        let d := (ds[i]?).getD 0
        t.memWrite d (maskBytes (t.memRead d 64) (bytesAt p.data (64 * i) 64) (if p.len = 64 then p.bmask else 2 ^ 64 - 1))) t1
      t2.reply k part p .ok
    else
      let d := (ds.head?).getD 0
      let old := leNat (t1.memRead d p.size)
      if bad then t1.reply k part p .ok fun a => { a with hflags := 2 }
      else match AtomKind.ofCode p.op with
        | some f => (t1.memWrite d (leBytes p.size (f.apply p.size old (p.opnd0 % 2 ^ (8 * p.size)) (p.opnd1 % 2 ^ (8 * p.size))))).reply
            k part p .ok fun a => { a with opnd0 := old }
        | none => t1.reply k part p .badArg

/-- A TALLY request (09 R397). -/
def State.serveTally (s : State) (k part : Nat) (p : Packet) : State :=
  let v := s.tallyVal p.addr
  let x := p.opnd0 % 2 ^ 32
  let s1 := if p.op = 0 then s else if p.op = 3 then s.tallyPut p.addr x else s.tallyAdd p.addr x
  s1.reply k part p .ok fun a => { a with op := p.op, opnd0 := if p.op = 0 ∨ p.op = 2 then v else 0 }

/-- A WATCH: answered at once where its condition holds, FULL where all 256 watches are in use, registered otherwise (09 R397). -/
def State.serveWatch (s : State) (k part : Nat) (p : Packet) : State :=
  let x := p.opnd0 % 2 ^ 32
  if waitHolds (p.op == 1) (s.tallyVal p.addr) x then s.reply k part p .ok fun a => { a with op := 0 }
  else if 256 ≤ s.tally.watches.length then s.reply k part p .ok fun a => { a with op := 1 }
  else { s with tally := { s.tally with watches := s.tally.watches ++
      [{ tally := p.addr, eq := p.op == 1, operand := x, src := p.src, reqId := p.reqId, epoch := p.epoch, strand := k,
         srcPart := p.tag }] } }

/-- A WATCH_CANCEL: OP 0 removed, 1 no such watch (11 Table 11-10). -/
def State.serveCancel (s : State) (k part : Nat) (p : Packet) : State :=
  let mine (w : Watch) : Bool := w.src == p.src && w.reqId == p.reqId && w.epoch == p.epoch
  let s1 := { s with tally := { s.tally with watches := s.tally.watches.filter fun w => !mine w } }
  s1.reply k part p .ok fun a => { a with op := if s.tally.watches.any mine then 0 else 1 }

/-- A request arrives: unknown types and malformed headers are answered as such, a tag that names no partition here or a tally
that is not row-visible and its own NOT_OWNER with a record, and a partition whose intake has stopped ABORTED (01 R22, R23, 11 R464). The
packet's PTYPE decides what it is, whichever row brings it. -/
def State.serveRequest (s : State) (k : Nat) (p : Packet) : State :=
  let s := s.takePacket k p
  if p.ptype = 0 ∨ 6 < p.ptype then s.reply k 16 p .badOpcode
  else if ¬ p.requestOk then s.reply k 16 p .badArg
  else match s.partOfTag p.tag with
    | none => s.refuse k 16 p
    | some part =>
      if (s.partAt part).intakeOff then s.reply k part p .aborted
      else if p.ptype ≤ 3 then s.serveMem k part p
      else if p.addr < 256 ∨ ¬ s.holdsTally part p.addr then s.refuse k part p
      else if p.ptype = 4 then s.serveTally k part p
      else if p.ptype = 5 then s.serveWatch k part p
      else s.serveCancel k part p

/-! ### Answers of other devices (11 R468, 06 R275) -/

/-- An answer with no reservation touches no memory; it is counted by its partition where the tag names one (11 R468). -/
def State.lateAnswer (s : State) (p : Packet) : State :=
  match s.partOfTag p.tag with
  | some q => s.updPart q fun x => { x with late := satInc 32 x.late }
  | none => { s with mesh := { s.mesh with dropped := satInc 32 s.mesh.dropped } }

/-- An answer arrives: it lands with its group, and its reservation is freed; that of a watch whose cancel is out is freed by the
CANCEL_ACK, and its answer is discarded and counted (11 R468, 09 R398). -/
def State.landResponse (s : State) (k : Nat) (p : Packet) : State :=
  let s := s.takePacket k p
  match s.resvOf p with
  | none => s.lateAnswer p
  | some r =>
    let cancelled : Bool := s.mesh.resv.any fun x => x.reqId == r.reqId && x.epoch == r.epoch && x.packet.ptype == 6
    if p.ptype = 0x85 ∧ cancelled then s.lateAnswer p
    else match r.waiter with
      | some w => ((s.landAnswer w r.packet p).copyWake w.mould w.quarter w.slot).freeResv r.reqId r.epoch
      | none => s.freeResv r.reqId r.epoch

end Sys2Proof.Machine
end

