-- ==== Sys2Proof/Machine/ScorerEv.lean ====
section
/-! DEFINITION. Scorer batches: the SCORE and SWAIT instructions, the start and end of a batch, selection, the scorer switched on
and off (chapter 10). -/
namespace Sys2Proof.Machine

/-! ### The batch descriptor (10 Table 10-3, R417, R418) -/

/-- σ_max of a rate (10 Table 10-5). -/
def sigmaMax (rate : Nat) : Nat := ([390, 240, 148, 98, 56][rate]?).getD 0
/-- Window in ns, and repeats, of a rate (10 Table 10-2). -/
def windowNs (rate : Nat) : Nat := ([2, 4, 8, 16, 16][rate]?).getD 0
def rateRepeats (rate : Nat) : Nat := if rate = 4 then 4 else 1
/-- Bytes of a key element. -/
def keySize (fmt : Nat) : Nat := if fmt = 2 then 2 else 1

/-- A descriptor, its fields by name. -/
structure Desc where
  rate : Nat
  qcount : Nat
  scoresOut : Bool
  forceDigital : Bool
  margin : Nat
  k : Nat
  nblocks : Nat
  outMax : Nat
  sigTally : Nat
  sigValue : Nat
  stride : Nat
  sketch : Nat
  query : Nat
  out : Nat
  res : Nat
  valid : Nat
  keys : Nat
  proj : Nat
  scale : Nat
  fmt : Nat
  dim : Nat
  deriving DecidableEq, Repr

def parseDesc (b : List Byte) : Desc :=
  { rate := fld b 1 1, qcount := fld b 2 1, scoresOut := bitOf (fld b 3 1) 0, forceDigital := bitOf (fld b 3 1) 1,
    margin := fld b 4 2, k := fld b 6 2, nblocks := fld b 8 4, outMax := fld b 0xC 2, sigTally := fld b 0xE 2,
    sigValue := fld b 0x10 4, stride := fld b 0x14 4, sketch := fld b 0x18 8, query := fld b 0x20 8, out := fld b 0x28 8,
    res := fld b 0x30 8, valid := fld b 0x38 8, keys := fld b 0x40 8, proj := fld b 0x48 8, scale := fld b 0x50 4,
    fmt := fld b 0x54 1, dim := fld b 0x55 1 }

/-- The first offset of a descriptor that breaks check 1 of R418. -/
def descFault (b : List Byte) : Option Nat :=
  let d := parseDesc b
  let bad (c : Bool) (off : Nat) : List Nat := if c then [off] else []
  let scale : Bool := match Fmt.fp32.decode d.scale with
    | .fin false m _ => m == 0
    | _ => true
  let keyed := d.valid != 0
  let tooLong : Bool := decide (131072 < (d.nblocks * d.qcount + 63) / 64 * windowNs d.rate * rateRepeats d.rate)
  let l := bad (fld b 0 1 != 1) 0 ++ bad (decide (4 < d.rate)) 1 ++ bad (d.qcount == 0 || decide (8 < d.qcount)) 2 ++
    bad (decide (4 ≤ fld b 3 1)) 3 ++ bad (decide (64 < d.margin)) 4 ++ bad (d.k == 0 || decide (4096 < d.k)) 6 ++
    bad (d.nblocks == 0 || decide (1048576 < d.nblocks) || tooLong) 8 ++ bad (decide (d.outMax < d.k) || decide (4096 < d.outMax)) 0xC ++
    bad (decide (511 < d.sigTally) && d.sigTally != 0xFFFF) 0xE ++
    bad (if keyed then d.stride % 64 != 0 || decide (d.stride < 64 * d.dim * keySize d.fmt) else d.stride != 0) 0x14 ++
    bad (d.sketch % 64 != 0) 0x18 ++ bad (d.query % 64 != 0) 0x20 ++ bad (d.out % 64 != 0) 0x28 ++ bad (d.valid % 8 != 0) 0x38 ++
    bad (if keyed then d.keys % 64 != 0 else d.keys != 0) 0x40 ++ bad (if keyed then d.proj % 64 != 0 else d.proj != 0) 0x48 ++
    bad (if keyed then scale else d.scale != 0) 0x50 ++ bad (if keyed then decide (2 < d.fmt) else d.fmt != 0) 0x54 ++
    bad (if keyed then d.dim != 64 && d.dim != 128 else d.dim != 0) 0x55 ++
    ((List.range 42).filterMap fun n => if fld b (0x56 + n) 1 = 0 then none else some (0x56 + n))
  l.head?

/-! ### Pages and bytes by virtual address -/

/-- Every page of a range translates, for a write with W and outside the kernel image; a row address is refused (10 R418). -/
def State.rangeOk (s : State) (p : Nat) (write : Bool) (va n : Nat) : Bool :=
  decide (va + n ≤ 2 ^ 48) && (List.range ((va + n + 65535) / 65536 - va / 65536)).all fun i =>
    match s.walk (s.partAt p) ((va / 65536 + i) * 65536) with
    | .leaf ppa wr _ => match (s.partAt p).dpa ppa with
      | some d => !write || (wr && !(s.partAt p).inImage d)
      | none => false
    | _ => false

/-- Every page of a range lies in stacked SRAM (10 R418, check 4). -/
def State.rangeSram (s : State) (p va n : Nat) : Bool :=
  (List.range ((va + n + 65535) / 65536 - va / 65536)).all fun i =>
    match s.walk (s.partAt p) ((va / 65536 + i) * 65536) with
    | .leaf ppa _ _ => decide (sramPpa ≤ ppa)
    | _ => false

/-- The device address of a virtual address. -/
def State.vaDpa (s : State) (p va : Nat) : Option Nat :=
  match s.walk (s.partAt p) va with
  | .leaf ppa _ _ => (s.partAt p).dpa (ppa + va % 65536)
  | _ => none

/-- Bytes of one sector or less by virtual address. -/
def State.vaRead (s : State) (p va n : Nat) : List Byte := match s.vaDpa p va with
  | some d => s.memRead d n
  | none => List.replicate n 0
def State.vaWrite (s : State) (p va : Nat) (b : List Byte) : State := match s.vaDpa p va with
  | some d => s.memWrite d b
  | none => s

/-! ### Scores (10 R410-R415, R442) -/

/-- Exact score before division: the sum of 64 products. -/
def dot (q s : List Byte) : Int := ((List.range 64).map fun j => sfld q j 1 * sfld s j 1).foldl (· + ·) 0
/-- The code that a scorer modulator's DAC takes for an element (10 R410, 12 R516). -/
def offsetCode (b : Byte) : Nat := (b.toInt + 128).toNat
/-- The products of the codes of one window, summed over its 64 symbols (10 R410). -/
def windowSum (q s : List Byte) : Nat :=
  ((List.range 64).map fun j => offsetCode ((q[j]?).getD 0) * offsetCode ((s[j]?).getD 0)).sum
/-- The sum of 64 elements. -/
def elemSum (l : List Byte) : Int := ((List.range 64).map fun j => sfld l j 1).foldl (· + ·) 0
/-- A window's result with the offset terms removed (10 R410). -/
def corrected (q s : List Byte) : Int := (windowSum q s : Int) - 128 * elemSum s - 128 * elemSum q - 64 * 128 ^ 2
/-- The 16-bit score of a sum (10 R414). -/
def score16 (x : Int) : Int := clampInt (-32768) 32767 (rneDiv x 32)

/-- The canonical sketch of a block from its keys; none where it meets a non-finite value (10 R415, R442). -/
def State.keySketch (s : State) (p : Nat) (d : Desc) (b : Nat) : Option (List Byte) :=
  let f : Fmt := if d.fmt = 0 then .e4m3 else if d.fmt = 1 then .e5m2 else .bf16
  let n := keySize d.fmt
  let key (t i : Nat) : Nat :=
    Fmt.fp32.round (f.decode (leNat (s.vaRead p (d.keys + b * d.stride + (t * d.dim + i) * n) n)))
  let m := (List.range d.dim).map fun i =>
    fpDiv .fp32 ((List.range 64).foldl (fun acc t => fpAdd .fp32 acc (key t i)) 0) 0x42800000
  let elem (j : Nat) : Option Byte :=
    let x := (List.range d.dim).foldl (fun acc i =>
      fpFma .fp32 ((m[i]?).getD 0) (leNat (s.vaRead p (d.proj + (i * 64 + j) * 4) 4)) acc) 0
    match Fmt.fp32.decode (fpMul .fp32 x d.scale) with
    | .fin neg v e =>
      let r : Int := if 0 ≤ e then signedMan neg v * 2 ^ e.toNat else rneDiv (signedMan neg v) (2 ^ (-e).toNat)
      some (BitVec.ofInt 8 (clampInt (-127) 127 r))
    | _ => none
  ((List.range 64).map elem).allSome

/-- Is the sketch of a block held (10 R415)? -/
def State.hasSketch (s : State) (p : Nat) (d : Desc) (b : Nat) : Bool :=
  d.valid == 0 || bitOf (leNat (s.vaRead p (d.valid + b / 8) 1)) (b % 8)

/-- The blocks of a batch as (block, its sketch or none where its keys were not finite, formed from keys). -/
def State.blocks (s : State) (p : Nat) (d : Desc) : List (Nat × Option (List Byte) × Bool) :=
  (List.range d.nblocks).map fun b =>
    if s.hasSketch p d b then (b, some (s.vaRead p (d.sketch + 64 * b) 64), false) else (b, s.keySketch p d b, true)

/-- The noise of an optical score: a free value within six deviations σ_max, the band of 10 R427 (10 R426; log entry 67). -/
def opticalNoise (sigma seed q b : Nat) : Int := (Config.freeOf 30 [seed, q, b] % (12 * sigma + 1) : Nat) - (6 * sigma : Nat)

/-- The sort key and the 16-bit score of a block for a query: exact on the digital path and for a block sketched from keys; on
the optical path the corrected window result with its noise (10 R410, R414, R426). -/
def blockScore (digital : Bool) (sigma seed q : Nat) (qb : List Byte) (x : Nat × Option (List Byte) × Bool) : Int × Int :=
  match x.2.1 with
  | none => (if digital then 32767 * 32 else 32767, 32767)
  | some sk =>
    let e := dot qb sk
    if digital then (e, score16 e)
    else if x.2.2 then (score16 e, score16 e)
    else
      let v := clampInt (-32768) 32767 (score16 (corrected qb sk) + opticalNoise sigma seed q x.1)
      (v, v)

/-- Insert into a list sorted by key, highest first, ties to the lower block number. -/
def insertBlock (x : Nat × Int × Int) : List (Nat × Int × Int) → List (Nat × Int × Int)
  | [] => [x]
  | y :: r => if y.2.1 < x.2.1 ∨ (y.2.1 = x.2.1 ∧ x.1 < y.1) then x :: y :: r else y :: insertBlock x r

/-- Blocks that follow the first K while they lie within the margin (10 R427). -/
def withinMargin (kth : Int) (margin sigma : Nat) : Nat → List (Nat × Int × Int) → List (Nat × Int × Int)
  | 0, _ => []
  | _, [] => []
  | n + 1, x :: r => if 4 * kth - (margin * sigma : Nat) ≤ 4 * x.2.2 then x :: withinMargin kth margin sigma n r else []

/-- The selection of one query: the blocks in order with their scores, and KTH (10 R427, R441). -/
def select (d : Desc) (l : List (Nat × Int × Int)) : List (Nat × Int) × Int :=
  let sorted := l.foldl (fun acc x => insertBlock x acc) []
  let first := sorted.take d.k
  let kth := (first.getLast?.map fun x => x.2.2).getD 0
  let more := withinMargin kth d.margin (sigmaMax d.rate) (d.outMax - first.length) (sorted.drop d.k)
  ((first ++ more).map fun x => (x.1, x.2.2), kth)

/-! ### The end of a batch (10 R419-R423) -/

/-- How a batch ends: status, DETAIL, blocks sketched from keys, non-finite keys met, and the selection of each query. -/
structure Verdict where
  status : Status
  detail : Nat := 0
  fromKeys : Nat := 0
  nanKeys : Bool := false
  queries : List (List (Nat × Int) × Int) := []
  deriving DecidableEq, Repr

/-- Checks 1 to 4 of R418, and the scores. -/
def State.runBatch (s : State) (b : Batch) (seed : Nat) : Verdict :=
  let d := parseDesc b.desc
  let p := b.part
  let qs := (4 * d.outMax + 63) / 64 * 64
  let ss := (2 * d.outMax + 63) / 64 * 64
  let outLen := d.qcount * qs + (if d.scoresOut then d.qcount * ss else 0)
  let missing := (List.range d.nblocks).filter fun n => !s.hasSketch p d n
  match descFault b.desc with
  | some off => { status := .badArg, detail := off }
  | none =>
    if d.sigTally ≠ 0xFFFF ∧ ¬ s.holdsTally p d.sigTally then { status := .notOwner, detail := 0xFFFF }
    else if ¬ s.rangeOk p false d.query (64 * d.qcount) then { status := .notOwner, detail := 0x20 }
    else if d.valid ≠ 0 ∧ ¬ s.rangeOk p false d.valid ((d.nblocks + 7) / 8) then { status := .notOwner, detail := 0x38 }
    else if (List.range d.nblocks).any (fun n => s.hasSketch p d n && !s.rangeOk p false (d.sketch + 64 * n) 64) then
      { status := .notOwner, detail := 0x18 }
    else if missing.any (fun n => !s.rangeOk p false (d.keys + n * d.stride) (64 * d.dim * keySize d.fmt)) then
      { status := .notOwner, detail := 0x40 }
    else if missing ≠ [] ∧ ¬ s.rangeOk p false d.proj (d.dim * 256) then { status := .notOwner, detail := 0x48 }
    else if ¬ s.rangeOk p true d.out outLen then { status := .notOwner, detail := 0x28 }
    else if ¬ s.rangeSram p d.out outLen then { status := .badArg, detail := 0x28 }
    else
      let bl := s.blocks p d
      { status := .ok, fromKeys := missing.length, nanKeys := bl.any fun x => x.2.1.isNone,
        queries := (List.range d.qcount).map fun q =>
          let qb := s.vaRead p (d.query + 64 * q) 64
          select d (bl.map fun x => (x.1, blockScore b.digital (sigmaMax d.rate) seed q qb x)) }

/-- The 128 bytes of a result header (10 Table 10-4). -/
def headerBytes (b : Batch) (v : Verdict) (ns : Nat) : List Byte :=
  let q (i : Nat) : List Byte := match v.queries[i]? with
    | some x => leBytes 2 x.1.length ++ leBytes 2 (unsgn 16 ((x.1.head?.map (·.2)).getD 0)) ++ leBytes 2 (unsgn 16 x.2) ++ leBytes 2 0
    | none => List.replicate 8 0
  let flags := b2n (b.digital && v.status == .ok) + 2 * b2n (decide (0 < v.fromKeys)) + 4 * b2n b.withdrawn + 8 * b2n v.nanKeys
  leBytes 2 v.status.code ++ leBytes 2 v.detail ++ leBytes 1 flags ++ leBytes 1 (if b.digital then 0 else b.channels) ++
  leBytes 2 (sigmaMax (parseDesc b.desc).rate) ++ leBytes 4 ns ++ leBytes 4 v.fromKeys ++
  ((List.range 8).flatMap q) ++ List.replicate 48 0

/-- Indices, and scores where they are asked for, of the selections (10 R419). -/
def State.writeSelection (s : State) (b : Batch) (v : Verdict) : State :=
  let d := parseDesc b.desc
  let qs := (4 * d.outMax + 63) / 64 * 64
  let ss := (2 * d.outMax + 63) / 64 * 64
  (List.range v.queries.length).foldl (fun (s : State) q =>
    let sel := ((v.queries[q]?).getD ([], 0)).1
    (List.range sel.length).foldl (fun (s : State) i =>
      let x := (sel[i]?).getD (0, 0)
      let s1 := s.vaWrite b.part (d.out + q * qs + 4 * i) (leBytes 4 x.1)
      if d.scoresOut then s1.vaWrite b.part (d.out + d.qcount * qs + q * ss + 2 * i) (leBytes 2 (unsgn 16 x.2)) else s1) s) s

/-- Batches of the group in a slot that are outstanding (10 R420). -/
def State.outstandingOf (s : State) (m q k : Nat) : Nat :=
  match s.groupAt m q k with
  | none => 0
  | some g =>
    let mine (b : Batch) : Bool := b.ofGroup m q k g && !b.discard
    ((s.wmk.queue.toList.flatten ++ s.wmk.flight ++ s.wmk.digitals).filter mine).length

/-- SWAITs and SCOREs that wait for a batch to end, or for a place, are judged (10 R420, R421). -/
def State.scoreWake (s : State) : State :=
  (List.range 16).foldl (fun (s : State) m => (s.residents m).foldl (fun (s : State) (q, k) => match s.groupAt m q k with
    | some g => match g.wait with
      | .score n =>
        if s.outstandingOf m q k ≤ n then (s.updGroup m q k fun g => { g with wait := .none }).acquire m else s
      | .scoreRoom =>
        if s.outstandingOf m q k < 4 ∧ (Table.at s.wmk.queue g.part []).length < 64 then
          s.updGroup m q k fun g => { g with wait := .none } else s
      | _ => s
    | none => s) s) s

/-- A batch ends: indices, scores, result header; its signal, whatever the status; its part in the sheet's outcome; the
counters; and what waits for it (10 R421, R422). -/
def State.batchEnds (s : State) (b : Batch) (v : Verdict) : State :=
  let d := parseDesc b.desc
  let f := s.elapsed b.issuedAt 32 1000000000
  let s1 := (if v.status = .ok then f.2.writeSelection b v else f.2).memWrite b.res (headerBytes b v f.1)
  let s2 := s1.updSheet b.ring b.subIndex fun h =>
    { h with scorerOff := h.scorerOff || v.status == Status.scorerOff,
             digital := h.digital || (v.status == .ok && (b.digital || decide (0 < v.fromKeys))) }
  let s3 := { s2 with wmk :=
    if v.status = Status.scorerOff then { s2.wmk with offCnt := satInc 32 s2.wmk.offCnt }
    else if b.digital then { s2.wmk with digCnt := satInc 32 s2.wmk.digCnt }
    else { s2.wmk with optCnt := satInc 32 s2.wmk.optCnt } }
  let s4 := if d.sigTally ≠ 0xFFFF ∧ s3.holdsTally b.part d.sigTally then s3.tallyAdd d.sigTally d.sigValue else s3
  s4.scoreWake

/-- A batch that ends SCORER_OFF (10 R423, R437). -/
def State.batchRefused (s : State) (b : Batch) : State := s.batchEnds b { status := .scorerOff }

/-! ### Submission (10 R416, R420, R423) -/

/-- Where a batch goes at its SCORE: digital, the optical queue, or none (10 Table 10-6). -/
inductive BatchPath where
  | digital | optical | none
  deriving DecidableEq, Repr

def State.pathOf (s : State) (p : Nat) (force : Bool) : BatchPath :=
  let x := s.partAt p
  if ¬ x.optical ∨ force then .digital
  else if s.wmk.state = .on ∧ ¬ s.wmk.stopping then .optical
  else if x.fallback then .digital else .none

/-- Submit a batch on its path. -/
def State.submit (s : State) (b : Batch) : State :=
  match s.pathOf b.part (parseDesc b.desc).forceDigital with
  | .digital => { s with wmk := { s.wmk with digitals := s.wmk.digitals ++ [{ b with digital := true }] } }
  | .optical => { s with wmk := { s.wmk with queue := Table.upd s.wmk.queue b.part (· ++ [b]) } }
  | .none => s.batchRefused b

/-- A 128-byte block of local memory for SCORE, by virtual address: its device address, or the fault (10 R416). -/
def State.scoreTarget (s : State) (i : GIns) (g : Group) (write : Bool) (a : Nat) : Target × State :=
  match s.targetOf i g false write 128 a with
  | (.far _ _, t) => (.fault 5 false, t)
  | r => r

/-- SCORE: reads the descriptor, translates RES_VA, and submits the batch, as a FENCE.P for the group's earlier stores; a fifth
batch or a full optical queue makes the group wait, and it issues again (10 R416, R420, R421). -/
def State.evScore (s : State) (i : GIns) (rs : Nat) : State :=
  s.issue i (sNeed [rs, rs + 1]) fun g act _ s =>
    if 63 ≤ rs then .trap 1 act 0 false
    else
      let va := g.s rs + 2 ^ 32 * g.s (rs + 1)
      let t := s.scoreTarget i g false va
      match t.1 with
      | .mem d =>
        let desc := t.2.memRead d 128
        let r := t.2.scoreTarget i g true (parseDesc desc).res
        match r.1 with
        | .fault 2 _ => .trapIn r.2 2 act (parseDesc desc).res false [va]
        | _ =>
          if t.2.isPoisoned (d / 64) ∨ t.2.isPoisoned (d / 64 + 1) then .trapIn t.2 6 act va false [va]
          else match r.1 with
            | .mem res =>
              let b : Batch := { part := g.part, mould := i.mould, quarter := i.quarter, slot := i.slot, ring := g.ring,
                                 subIndex := g.subIndex, number := g.number, res := res, desc := desc, issuedAt := s.now }
              let full : Bool := r.2.pathOf g.part (parseDesc desc).forceDigital == .optical &&
                decide (64 ≤ (Table.at r.2.wmk.queue g.part []).length)
              if 4 ≤ r.2.outstandingOf i.mould i.quarter i.slot ∨ full then
                .jump (r.2.onGroup i fun h => { h with wait := .scoreRoom })
              else .done ((r.2.acquire i.mould).submit b)
            | .fault k rp => .trapIn r.2 k act (parseDesc desc).res rp [va, (parseDesc desc).res]
            | .table => .jump (r.2.partFault g.part 1)
            | _ => .trapIn r.2 5 act (parseDesc desc).res false [va]
      | .fault k rp => .trapIn t.2 k act va rp [va]
      | .table => .jump (t.2.partFault g.part 1)
      | _ => .trapIn t.2 5 act va false [va]

/-- SWAIT n, n = 0 to 3: until at most n batches are outstanding, then an acquire (10 R421). -/
def State.evSwait (s : State) (i : GIns) (n : Nat) : State :=
  s.issue i {} fun _ act _ s =>
    if 3 < n then .trap 1 act 0 false
    else if s.outstandingOf i.mould i.quarter i.slot ≤ n then .done (s.acquire i.mould)
    else .done (s.onGroup i fun h => { h with wait := .score n })

/-! ### Service (10 R424, R436-R439) -/

/-- Partitions with a queued batch and none in flight. -/
def State.batchReady (s : State) : List Nat := (List.range 16).filter fun p =>
  (Table.at s.wmk.queue p []) != [] && !(s.wmk.flight.any fun b => b.part == p)

/-- The first of a list after the partition served last. -/
def Scorer.turn (w : Scorer) (l : List Nat) : Option Nat := (l.find? fun p => w.lastPart < p).or l.head?

/-- The partition whose batch starts next, among those with a queued batch and none in flight: one passed over 16 times, the
longest first; else the one that is owed most scorer time under its WMK shares; one without shares only where no other waits,
round robin (06 R245, 10 R424, 20 R786). -/
def State.nextBatchOf (s : State) : Option Nat :=
  let shared := s.batchReady.filter fun p => 0 < (s.partAt p).wmk
  let passed (p : Nat) : Nat := Table.at s.wmk.passed p 0
  let owed (p : Nat) : Int := Table.at s.wmk.owed p 0
  let oldest := (shared.map passed).foldl max 0
  if 16 ≤ oldest then s.wmk.turn (shared.filter fun p => passed p == oldest)
  else match (shared.map owed).max? with
    | some most => s.wmk.turn (shared.filter fun p => owed p == most)
    | none => s.wmk.turn s.batchReady

/-- Scorer time of a batch on `c` channels, in ns (10 R425). -/
def Batch.ns (b : Batch) (c : Nat) : Nat :=
  let d := parseDesc b.desc
  (d.nblocks * d.qcount + c - 1) / c * windowNs d.rate * rateRepeats d.rate

/-- The scorer time that partition `p` takes is shared among those with demand in proportion to their WMK shares: each is owed its
part, and `p` has had the whole (06 R245, 10 R424). -/
def State.chargeBatch (s : State) (p ns : Nat) : State :=
  let active := (List.range 16).filter fun q => (Table.at s.wmk.queue q []) != [] || s.wmk.flight.any fun b => b.part == q
  let share (q : Nat) : Int := ((s.partAt q).wmk : Nat)
  let all : Int := (active.map share).sum
  { s with wmk := { s.wmk with
      owed := s.wmk.owed.mapIdx fun q (x : Int) =>
        (if active.contains q then x + share q * (ns : Nat) else 0) - (if q = p ∧ share p ≠ 0 then all * (ns : Nat) else 0),
      passed := s.wmk.passed.mapIdx fun q (n : Nat) => if q ≠ p ∧ s.batchReady.contains q then n + 1 else 0 } }

/-- BATCH_START. -/
def State.evBatchStart (s : State) : State :=
  if s.wmk.state = .off ∨ s.insvcCount = 0 then s
  else match s.nextBatchOf with
    | none => s
    | some p => match Table.at s.wmk.queue p [] with
      | [] => s
      | b :: rest =>
        let s := s.chargeBatch p (b.ns s.insvcCount)
        { s with wmk := { s.wmk with
            queue := Table.put s.wmk.queue p rest, flight := s.wmk.flight ++ [{ b with channels := s.insvcCount }],
            lastPart := p } } |>.scoreWake

/-- CHANNELS counts the fewest channels in service while a batch runs (10 Table 10-4). -/
def State.followChannels (s : State) : State :=
  { s with wmk := { s.wmk with flight := s.wmk.flight.map fun b => { b with channels := min b.channels s.insvcCount } } }

/-- A batch leaves the optical queue: with FALLBACK = 1 it runs digitally while its group is there, otherwise it ends
SCORER_OFF; WITHDRAWN is set (10 R430, R437). -/
def State.withdrawBatch (s : State) (b : Batch) : State :=
  let w := { b with withdrawn := true }
  let here : Bool := match s.groupAt b.mould b.quarter b.slot with
    | some g => b.ofGroup b.mould b.quarter b.slot g
    | none => false
  if b.discard then s
  else if ¬ (s.partAt b.part).fallback then s.batchRefused w
  else if here then { s with wmk := { s.wmk with digitals := s.wmk.digitals ++ [{ w with digital := true }] } }
  else s

/-- Every queued batch is withdrawn; their number. -/
def State.withdrawQueued (s : State) : Nat × State :=
  let l := s.wmk.queue.toList.flatten
  (l.length, l.foldl State.withdrawBatch { s with wmk := { s.wmk with queue := Vector.replicate 16 [] } })

/-- The last channel is gone while batches are in flight: they and the queued ones are withdrawn (10 R439). -/
def State.followNoChannel (s : State) : State :=
  if s.wmk.flight ≠ [] ∧ s.insvcCount = 0 then
    let l := s.wmk.flight
    (l.foldl State.withdrawBatch { s with wmk := { s.wmk with flight := [] } }).withdrawQueued.2
  else s

/-- The scorer goes OFF: its banks dark, its rings parked, no channel in service (10 R431). -/
def State.scorerDark (s : State) : State :=
  let s1 := s.scorerTo .off
  let s2 := [16, 17, 18, 19].foldl (fun (s : State) b => (s.laserDark (s.arrayAt b)).parkBank b) s1
  { s2 with wmk := { s2.wmk with insvc := 0, tried := 0, badOnce := 0 } }

/-- The scorer begins to warm up (10 R431, R432). -/
def State.scorerWarm (s : State) : State :=
  if s.wmk.en ∧ s.wmk.state = .off ∧ (s.dev.state = .anneal ∨ s.dev.state = .serving) then
    { s with wmk := { s.wmk with tried := 0 } } |>.scorerTo .warming
  else s

/-- WMK_SET with MODE = 0 ends when nothing is in flight: the scorer goes OFF and the request is answered (10 R437). -/
def State.followStopping (s : State) : State :=
  if s.wmk.stopping ∧ s.wmk.flight = [] then
    ({ s with wmk := { s.wmk with stopping := false } }).scorerDark.answerWarm
  else s

/-- After a batch the DACs of the channels that served it carry the codes of the last symbol of a window of theirs; which window it was the
spec leaves open (12 R516; log entry 67). -/
def State.dacsAfter (s : State) (b : Batch) (seed : Nat) : State :=
  let d := parseDesc b.desc
  let pick (i c n : Nat) : Nat := Config.freeOf 56 [seed, i, c] % max 1 n
  let code (va : Nat) : Nat := offsetCode (((s.vaRead b.part va 64)[63]?).getD 0)
  let dac := s.wmk.dac.mapIdx fun c (x : Nat × Nat) =>
    if s.wmk.insvc.getLsbD c then (code (d.sketch + 64 * pick 0 c d.nblocks), code (d.query + 64 * pick 1 c d.qcount)) else x
  { s with wmk := { s.wmk with dac := dac } }

/-- BATCH_END of a batch in flight, or of a digital one by its place; a discarded batch leaves nothing (10 R421, R438). -/
def State.evBatchEnd (s : State) (sel : BatchSel) : State :=
  let f := s.free 30
  match sel with
  | .optical p => match s.wmk.flight.find? fun b => b.part == p with
    | none => s
    | some b =>
      let s1 := { f.2 with wmk := { f.2.wmk with flight := f.2.wmk.flight.erase b } }
      let s2 := s1.dacsAfter b f.1
      if b.discard then s2 else s2.batchEnds b (s2.runBatch b f.1)
  | .digital n => match s.wmk.digitals[n]? with
    | none => s
    | some b =>
      let s1 := { s with wmk := { s.wmk with digitals := s.wmk.digitals.eraseIdx n } }
      s1.batchEnds b (s1.runBatch b 0)

end Sys2Proof.Machine
end

