-- ==== Sys2Proof/Machine/Device.lean ====
section
/-! DEFINITION. The device states and the rail sequence (chapters 02 and 03): what leads from one state to another, the SAFE
episode, HELD and DORMANT, as operations that commands of several families share. -/
namespace Sys2Proof.Machine

/-! ### Switched rails, in the order of 02 R56: 0 VAN, 1 VSRAM, 2 VCORE, 3 HBM, 4 VPHO, 5 VLD, 6 VHTR -/

/-- EN_ of a rail. -/
def State.enAt (s : State) (r : Nat) : Bool := Table.at s.supply.en r false
/-- PG_ of a rail. -/
def State.pgAt (s : State) (r : Nat) : Bool := Table.at s.supply.pg r false
/-- A rail is on and good. -/
def State.railOn (s : State) (r : Nat) : Bool := s.enAt r && s.pgAt r
/-- Change the supply part. -/
def State.updSupply (s : State) (f : Supply → Supply) : State := { s with supply := f s.supply }
/-- Change the device part. -/
def State.updDev (s : State) (f : Dev → Dev) : State := { s with dev := f s.dev }
/-- The sequence and what it leads to. -/
def State.seqTo (s : State) (q : RailSeq) (g : SeqGoal) : State := s.updSupply fun u => { u with seq := q, goal := g }

/-- Device memory is lost with VSRAM or HBM: partitions come back stopped, with their memory cleared before first use and the
kernel image, which lies in that memory, gone (03 R90, 06 R253, R255). -/
def State.memoryLost (s : State) : State :=
  { s with
    part := s.part.map fun (p : Part) => if p.state = .none then p else { p with memLost := true, image := none }
    mould := s.mould.map fun (m : Mould) => { m with scratch := [], xlt := [], lcache := [] }
    mem := { s.mem with bytes := [], poisoned := [], rowErrors := [],
                        marked := [(0, 96 * 32768), (sramBase / 65536, 48 * 512)] } }

/-- What goes with a rail (02 R62, R71, 03 R90, 12 R521, 15 R613): the loop engine with VAN, memory with VSRAM or HBM, the endpoint with
VCORE, light with VPHO or VLD, the heaters with VHTR. -/
def State.railLost (s : State) (r : Nat) : State :=
  if r = 1 ∨ r = 3 then s.memoryLost
  else if r = 0 then s.engineStop
  else if r = 2 then s.updSupply fun u => { u with endpoint := .off }
  else if r = 4 then (s.updSupply fun u => { u with vphoOk := false }).lasersDark
  else if r = 5 then s.lasersDark
  else if r = 6 then s.heatersStop.parkRings
  else s

/-- Drive EN_ of a rail low. -/
def State.railCut (s : State) (r : Nat) : State :=
  (s.updSupply fun u => { u with en := Table.put u.en r false }).railLost r

/-- Rails that are on beyond a set, in the order of power-down. -/
def State.cutList (s : State) (keep : List Nat) : List Nat :=
  (List.range 7).reverse.filter fun r => s.enAt r && !keep.contains r

/-- Power down every rail outside `keep`, in the reverse order of R56; `done` follows at once where nothing is to go. -/
def State.downTo (s : State) (keep : List Nat) (g : SeqGoal) (done : State → State) : State :=
  match s.supply.seq with
  | .down (r :: _) => s.seqTo (.down (r :: s.cutList keep)) g
  | _ => match s.cutList keep with
    | [] => done (s.seqTo .idle .none)
    | r :: rest => (s.railCut r).seqTo (.down (r :: rest)) g

/-- The next rail of a power-up from rail `i`, as far as rail `last`. -/
def State.railNext (s : State) (i last : Nat) : Option Nat :=
  (List.range (last + 1)).find? fun r => i ≤ r && !s.railOn r

/-- Drive EN_ of a rail high and wait for its PG_ (02 R56); VCORE starts at 750 mV (02 R59). -/
def State.railRaise (s : State) (r last : Nat) : State :=
  s.updSupply fun u =>
    { u with en := Table.put u.en r true, seq := .up r false last,
             avsReq := if r = 2 then 750 else u.avsReq, avsAck := if r = 2 then 750 else u.avsAck }

/-- Power up as far as rail `last`; `done` follows at once where all are on. -/
def State.upTo' (s : State) (last : Nat) (g : SeqGoal) (done : State → State) : State :=
  match s.railNext 0 last with
  | some r => (s.seqTo .idle g).railRaise r last
  | none => done (s.seqTo .idle g)

/-- The endpoint leaves reset where PERST# is released and VCORE is on: it answers Configuration Request Retry Status until it is
ready (02 R71). -/
def State.endpointStart (s : State) : State :=
  if ¬ s.supply.perst ∧ s.railOn 2 ∧ s.supply.endpoint = .off then s.updSupply fun u => { u with endpoint := .retry } else s

/-! ### Entering a state (03 Table 03-3) -/

/-- What triggers a change of state, as the codes of 0x1001 name it (log entry 26). -/
inductive Trigger where
  | request | partStart | idle | lastStopped | boot | wake | safe | held
  deriving DecidableEq, Repr
/-- The place of a trigger in the list. -/
def Trigger.item : Trigger → Nat
  | .request => 0 | .partStart => 1 | .idle => 2 | .lastStopped => 3 | .boot => 4 | .wake => 5 | .safe => 6 | .held => 7

/-- The device is in a state: PWR_STATE, the record of the change, and the answer to the request that waits for it (03 R99, 05 R206).
WARM_BAND belongs to ANNEAL alone (03 Table 03-4). -/
def State.stateTo (s : State) (st : DevState) (t : Trigger) : State :=
  let s0 := if st = .standby ∧ s.dev.state ≠ .standby then { s with stew := { s.stew with withdrawn := false } } else s
  let s1 := s0.updDev fun d => { d with state := st, trans := false, target := st, warmBand := d.warmBand && decide (st = .anneal) }
  let s2 := if s.dev.state = .safe ∧ st = .safe then s1
    else s1.log 0x1001 (param [(1, s.dev.state.code), (1, st.code), (1, Config.codeOf 1 t.item)])
  (s2.zoneTarget st).answerWaiting (.state st) .ok

/-- A transition begins. -/
def State.transTo (s : State) (st : DevState) : State := s.updDev fun d => { d with trans := true, target := st }

/-- The warming load runs on idle Moulds in WARM mode, from its floor (03 R115). -/
def State.warmStart (s : State) : State :=
  if s.rampMode then s
  else { s with thm := { s.thm with warming := BitVec.ofNat 16 (maskOf s.warmable), warmFloor := max 350 (min s.thm.warmFloor s.row.warmW) } }
/-- The warming load ends. -/
def State.warmStop (s : State) : State :=
  ({ s with thm := { s.thm with warming := 0, warmFloor := 350 } }).updDev fun d => { d with warmBand := false }

/-- Mould clocks stop, and running Moulds with them (03 R89, 07 Table 07-6). -/
def State.clocksOff (s : State) : State :=
  (List.range 16).foldl (fun (s : State) m =>
    (s.clockOff m).updMould m fun x => { x with state := if x.state = .running then .stopped else x.state }) s

/-- STANDBY to ANNEAL: HBM active, the WARM floor, the scorer warming up (03 Table 03-2, 10 R431). -/
def State.enterAnneal (s : State) (t : Trigger) : State :=
  let s1 := s.updMem fun m => { m with selfRefresh := false }
  ((s1.stateTo .anneal t).warmStart).scorerWarm

/-- ANNEAL to STANDBY: HBM in self-refresh, scorer rings parked (03 Table 03-2). -/
def State.leaveAnneal (s : State) (t : Trigger) : State :=
  let s1 := (s.warmStop.scorerDark).updMem fun m => { m with selfRefresh := true }
  s1.stateTo .standby t

/-- A partition is started: intake opens (06 R252). -/
def State.partStarted (s : State) (p : Nat) : State :=
  if (s.partAt p).state = .starting then
    ((s.updPart p fun x => { x with intakeOff := false, memLost := false }).partTo p .started).answerWaiting (.partStart p) .ok
  else s

/-- SERVING is entered from ANNEAL, and the starts that wait are carried out (03 Table 03-3). -/
def State.startsRun (s : State) : State :=
  let s1 := if s.dev.state = .anneal then s.stateTo .serving .partStart else s
  s1.dev.startsWaiting.foldl State.partStarted (s1.updDev fun d => { d with startsWaiting := [] })

/-- Partition starts that wait are carried out, through ANNEAL into SERVING (03 R92, R122); in RAMP mode after three compute-die samples
that seed the limiter (03 R117). -/
def State.startsGo (s : State) : State :=
  if s.dev.startsWaiting = [] ∨ s.dev.trans ∨ s.thm.seed.isSome then s
  else
    let s1 := if s.dev.state = .standby then s.enterAnneal .partStart else s
    if s1.dev.state = .anneal ∨ s1.dev.state = .serving then
      (if s1.rampMode then
        let s2 := if s1.dev.state = .anneal then s1.transTo .serving else s1
        { s2 with thm := { s2.thm with seed := some [] } }
       else s1.startsRun)
    else s

/-- A compute-die sample of the 10 ms raster seeds the ramp limiter where a start waits for it: with the third, their mean is the
prediction the limiter starts from, and the partition's work is released (03 R117; DEDUCED, log entry 115). -/
def State.seedStep (s : State) : State :=
  match s.thm.seed, s.dieMean with
  | some l, some m =>
    if (m :: l).length < 3 then { s with thm := { s.thm with seed := some (m :: l) } }
    else
      State.startsRun { s with thm := { s.thm with
        seed := none, tPred := ((meanOf (m :: l)).getD m) * 65536 / 100 } }
  | _, _ => s

/-- The sub-mount heaters run with VLD and VHTR (12 R521). -/
def State.heatersFollow (s : State) : State := if s.railOn 5 && s.railOn 6 then s.heatersStart else s

/-- STANDBY is entered from DORMANT, SAFE or a boot: the sub-mount heaters run, the fabric resumes, the engine restarts where it stood still, WAKE# is
asserted after a wake that PERST# still holds back, and what waits for the state follows (03 R94, R98, 18 R733, 15 R613). -/
def State.enterStandby (s : State) (t : Trigger) : State :=
  let waking := s.dev.state = .dormant ∧ s.supply.perst ∧ s.dev.wakeSrc ≠ 0x0B
  let s1 := (s.updMem fun m => { m with selfRefresh := true }).updDev fun d => { d with episode := none }
  let s2 := (s1.seqTo .idle .none).stateTo .standby t
  let s3 := if s2.boot.complete ∧ ¬ s2.lpe.running ∧ s2.vanOn then s2.engineRestart else s2
  let s4 := if waking then (s3.updSupply fun u => { u with wake := true }).emit (.pulse "WAKE#" 1) else s3
  s4.heatersFollow.filResume.startsGo

/-! ### SAFE (03 R100, R101, R118, R855, R856) -/

/-- Rails that a cause leaves on (03 Table 03-5). -/
def safeKeep (cause : Nat) (vanFailed : Bool) : List Nat :=
  if cause = 3 ∨ vanFailed then [] else if cause = 4 then List.range 7 else [0]

/-- Rails that every cause of the episode leaves on (03 R855). -/
def State.episodeKeep (s : State) (keep : List Nat) : List Nat :=
  match s.dev.episode with
  | some e => keep.filter fun r => e.causes.all fun c => (safeKeep c false).contains r
  | none => keep

/-- SAFE is entered, or kept where a way out of it has failed: the state, the answers, and the engine where VAN is on (03 R100, R118,
04 R165). -/
def State.safeReached (s : State) : State :=
  let s1 := (s.seqTo .idle .none).stateTo .safe .safe
  let s2 := (s1.answerWaiting .recover .aborted)
  if s2.boot.complete ∧ s2.vanOn ∧ ¬ s2.lpe.running then s2.engineRestart else s2

/-- SAFE_CAUSE takes a cause, with its record and notice (03 R855). -/
def State.causeArises (s : State) (cause : Nat) : State :=
  (s.updDev fun d => { d with safeCause := cause }).log 0x1002 (param [(1, cause)])

/-- What SAFE stops at once: clocks, partitions, the scorer, strands, lasers and their sub-mount heaters, rings, the steward, steps and
sectors (03 R100, R78, 02 R76, R81, 12 R521, 16 R672, 18 R733). -/
def State.safeStops (s : State) : State :=
  let s1 := (s.clocksOff).warmStop
  let s2 := (List.range 16).foldl (fun s p => s.outsideStop p .safe false) s1
  let s3 := (((s2.scorerDark).darkenMesh false).lasersDark).heatersStop
  ((s3.parkRings.stewardDrop).planishLeave).filPark

/-- Requests that SAFE ends: state requests but for SAFE itself, and partition starts (03 R118, 13 R578). -/
def State.safeAnswers (s : State) : State :=
  s.damem.inflight.foldl (fun (s : State) f => match f.wait with
    | .state t => if t = .safe then s else s.answer f .aborted
    | .partStart _ => s.answer f .aborted
    | _ => s) { s with dev := { s.dev with startsWaiting := [] }, thm := { s.thm with seed := none } }

/-- The device has no verified image to serve from: it is HELD, on the way into HELD, or in a recovery boot (03 R101, 04 R165). -/
def State.noImage (s : State) : Bool :=
  !s.boot.complete && (decide (s.dev.state = .held) || decide (s.supply.goal = .heldEntry) ||
    (decide (s.boot.phase = BootPhase.firmware) && s.boot.recovery))

/-- The boot ends at an entry into SAFE: what waits on boot complete takes the entry as boot complete, but for a device without a
verified image (03 R856, 04 R165). -/
def Boot.endedInSafe (b : Boot) (fromHeld : Bool) : Boot :=
  { b with complete := b.complete || (decide (b.phase = BootPhase.firmware) && !fromHeld), watchdog := false,
           phase := if fromHeld then .idle else b.phase }

/-- The rails go to those that SAFE keeps, and SAFE is reached. A cause that keeps all seven lets a power-up in progress run to its end
(03 Table 03-5, 02 R81). -/
def State.safeRails (s : State) (keep : List Nat) : State :=
  match s.supply.seq with
  | .up _ _ _ => if keep = List.range 7 then s.seqTo s.supply.seq .toSafe else s.downTo keep .toSafe State.safeReached
  | _ => s.downTo keep .toSafe State.safeReached

/-- The device is on its way from SAFE into STANDBY or DORMANT. -/
def State.leavingSafe (s : State) : Bool := s.dev.trans && s.dev.target != .safe

/-- A SAFE cause arises: an entry, or a further cause of the episode in progress (03 R100, R855, R856). A further cause that meets a way out of
SAFE stops it: what the way out has started stops again, its request is answered ABORTED, and the device stays in SAFE (03 R118,
R119). -/
def State.enterSafe (s : State) (cause : Nat) (vanFailed : Bool := false) : State :=
  let keep := safeKeep cause vanFailed
  match s.dev.episode with
  | some e =>
    let s1 := (s.updDev fun d => { d with episode := some { e with causes := cause :: e.causes } }).causeArises cause
    if s.leavingSafe then
      let s2 := (s1.transTo .safe).safeStops.safeAnswers
      ({ s2 with clocks := { s2.clocks with osc192 := true, oscFil := true } }).safeRails (s.episodeKeep keep)
    else if s.dev.state = .safe then s1.downTo (s.episodeKeep keep) .none id
    else s1.safeRails (s.episodeKeep keep)
  | none =>
    let fromHeld := s.noImage
    let s0 := if cause = 4 then s.log 0x1009 [] else s
    let s1 := s0.updDev fun d => { d with episode := some { causes := [cause], fromHeld := fromHeld }, latchedWake := [] }
    let s2 := (s1.transTo .safe).causeArises cause
    let s3 := s2.safeStops.safeAnswers
    let s4 := { s3 with
      boot := s3.boot.endedInSafe fromHeld
      clocks := { s3.clocks with osc192 := true, oscFil := true } }
    let s5 := if s.boot.phase = BootPhase.firmware ∧ (cause = 5 ∨ cause = 6) ∧ ¬ fromHeld then s4.dirGood.calMount else s4
    s5.safeRails keep

/-- A cause of Table 03-5 still holds (03 R101). -/
def State.causeHolds (s : State) : Bool :=
  (List.range 7).any (fun r => s.enAt r && !s.pgAt r) || !s.clocks.refclkLock ||
    (List.range 8).any (fun n =>
      let c := s.cmpAt n
      c.level && bitOf c.cfg.toNat 31 && fieldOf c.cfg 29 28 == 2) ||
    (List.range 140).any fun n =>
      let x := s.sensAt n
      !x.invalid && decide (s.now - x.sampledAt < stalePeriod (groupOf n)) && s.aboveEdge (groupOf n) 2 x.temp

/-- STANDBY is to be entered with the rails on: not without REFCLK, and not before the endpoint is ready (03 R94, R95). -/
def State.standbyReady (s : State) (t : Trigger) : State :=
  if ¬ s.clocks.refclkLock then
    let s1 := s.answerWaiting (.state .standby) .precond
    (s1.seqTo .idle .none).enterSafe 4
  else
    let s1 := s.endpointStart
    if s1.supply.perst ∨ s1.supply.endpoint = .ready then s1.enterStandby t
    else s1.seqTo .idle .toStandby

/-- The trigger of an entry into STANDBY from the state the device is in. -/
def State.standbyTrigger (s : State) : Trigger := if s.dev.state = .safe then .request else .wake

/-! ### HELD (04 R158-R163) -/

/-- The reasons of 04 Table 04-15. -/
inductive HeldReason where
  | directory | flash | fwImage | trial | bootTimeout | envelope | rowcfg | loopprog | filigree | noOwner | strapTest
  deriving DecidableEq, Repr
/-- REASON (04 Table 04-15). -/
def HeldReason.code : HeldReason → Nat
  | .directory => 1 | .flash => 2 | .fwImage => 3 | .trial => 4 | .bootTimeout => 5 | .envelope => 6 | .rowcfg => 7
  | .loopprog => 8 | .filigree => 9 | .noOwner => 10 | .strapTest => 11

/-- What was last reported of a sensor no longer stands, so that its present reading is an event (05 R234). -/
def State.eventDue (s : State) (n : Nat) : State :=
  { s with damem := { s.damem with reported := s.damem.reported.map fun x => if x.1 = n then (x.1, x.2.1, -1) else x } }

/-- HELD is entered (04 R160, R162), with its PLDM state event also where HELD is entered again. -/
def State.heldReached (s : State) : State :=
  let s1 := ((s.seqTo .idle .none).stateTo .held .held).eventDue 1
  let s2 := (s1.engineStop.filHeld).endpointStart
  let s3 := { s2 with
    boot := { s2.boot with phase := .idle, watchdog := false }
    aar := { s2.aar with ropeRect := false }
    damem := { s2.damem with mctpUp := true } }
  (s3.log 0x1003 (param [(1, s3.boot.reason), (1, s3.boot.detail), (1, b2n s3.boot.copy)])).answerWaiting .recover .held

/-- Enter HELD for a reason: HMK_BOOT_STAT, then VAN, VSRAM and VCORE (04 R158, Table 04-14). -/
def State.enterHeld (s : State) (r : HeldReason) (detail : Nat) (copy cold : Bool) : State :=
  let s1 := { s with boot := { s.boot with
    reason := r.code, detail := detail, copy := copy, coldNeeded := s.boot.coldNeeded || cold, watchdog := false } }
  let s2 := ((s1.transTo .held).clocksOff).lasersDark
  let extra := s2.cutList [0, 1, 2]
  if extra = [] then s2.upTo' 2 .heldEntry State.heldReached
  else s2.downTo [0, 1, 2] .heldEntry State.heldReached

/-! ### DORMANT (03 R93, R111) -/

/-- The wake handler runs: WAKE_SRC and the record (03 R111). -/
def State.wakeHandler (s : State) (src : Nat) : State :=
  (s.updDev fun d => { d with wakeSrc := src }).log 0x1004 (param [(1, src)])

/-- A wake event: the wake handler, then STANDBY, or back to DORMANT (03 R94, R111). -/
def State.wakeBy (s : State) (src : Nat) (go : Bool) : State :=
  let s1 := s.wakeHandler src
  if go then
    let s2 := { s1 with clocks := { s1.clocks with osc192 := true, oscFil := true } }
    (s2.transTo .standby).upTo' 6 .toStandby fun x => x.standbyReady x.standbyTrigger
  else s1

/-- A comparator that wakes moves the device on to STANDBY: ACTION RECORD_WARN and wake on warning (03 R111). -/
def State.wakeGoes (s : State) (n : Nat) : Bool := fieldOf (s.cmpAt n).cfg 29 28 == 1 && s.row.wakeWarn

/-- DORMANT, with no transition in progress: where a wake event acts (03 R111). -/
def State.asleep (s : State) : Bool := decide (s.dev.state = .dormant) && !s.dev.trans

/-- DORMANT is entered; each trip latched during the entry then wakes as if it had occurred in DORMANT, in their order (03 R93, R119).
What else happens during the entry (a release of PERST#, the alarm, an address match) the spec does not latch, and neither does
the model (DESIGN CHOICE, log entry 108). -/
def State.dormantReached (s : State) (t : Trigger) : State :=
  let s0 := s.seqTo .idle .none
  let s1 := { s0 with clocks := { s0.clocks with osc192 := false, oscFil := false } }
  let s2 := (s1.updDev fun d => { d with episode := none, latchedWake := [] }).stateTo .dormant t
  s.dev.latchedWake.foldl (fun (s : State) n => if s.asleep then s.wakeBy (n + 1) (s.wakeGoes n) else s) s2

/-- Pending persistent records are written to flash (03 R93). -/
def State.mirrorPending (s : State) : State := if s.mirrorReady then (s.mirrorAll 64).reportUnmirrored else s
/-- CMP0-CMP3 go back to the pulses, and the sine generators stop with them (14 R604, 03 R106: `State.sineRuns`). -/
def State.ropesPulsed (s : State) : State := { s with aar := { s.aar with ropeRect := false } }

/-- Entry into DORMANT in the steps of R93: departure, dark strands, mirrored records, armed comparators, the rails down to VAN.
From SAFE with VAN off, VAN is powered first. -/
def State.enterDormant (s : State) (t : Trigger) : State :=
  let s1 := ((s.transTo .dormant).darkenMesh true).lasersDark
  let s3 := s1.mirrorPending.ropesPulsed.engineStop.parkRings.filPark.planishLeave
  if s3.cutList [0] = [] then s3.upTo' 0 .toDormant (·.dormantReached t)
  else s3.downTo [0] .toDormant (·.dormantReached t)

/-! ### The end of a sequence (02 R56) -/

/-- A power-down that leads to HELD or DORMANT goes on with the rails these still lack; otherwise, and after a power-up, the
goal is reached. -/
def State.seqDone (s : State) : State :=
  match s.supply.goal with
  | .none => s.seqTo .idle .none
  | .boot => (s.seqTo .idle .none).endpointStart
  | .heldEntry => s.upTo' 2 .heldEntry State.heldReached
  | .toStandby => s.standbyReady s.standbyTrigger
  | .toDormant => s.upTo' 0 .toDormant (·.dormantReached .request)
  | .toSafe => s.safeReached

/-- PG_RISE (02 R56): the awaited PG_ rises and the 1 ms wait starts; VPHO comes within tolerance with its PG_, and the sub-mount
heaters start with VHTR (12 R521). -/
def State.evPgRise (s : State) (r : Nat) : State :=
  let up (s : State) : State :=
    let s1 := s.updSupply fun u => { u with pg := Table.put u.pg r true, vphoOk := u.vphoOk || decide (r = 4) }
    if (r = 5 ∨ r = 6) ∧ s.dev.target ≠ .dormant then s1.heatersFollow else s1
  match s.supply.seq with
  | .up q false last => if q = r then (up s).seqTo (.up r true last) s.supply.goal else s
  | _ => if s.enAt r ∧ ¬ s.pgAt r then up s else s

/-- RAIL_SETTLE_EXPIRY (02 R56): the next rail, or the sequence is complete. -/
def State.evRailSettle (s : State) : State :=
  match s.supply.seq with
  | .up r true last => match s.railNext (r + 1) last with
    | some q => s.railRaise q last
    | none => s.seqDone
  | _ => s

/-- RAIL_OFF_WAIT_END (02 R56): PG_ has fallen, or 5 ms have passed; the next rail goes off. -/
def State.evRailOff (s : State) : State :=
  match s.supply.seq with
  | .down (r :: rest) =>
    let s1 := s.updSupply fun u => { u with pg := Table.put u.pg r false }
    match rest with
    | [] => ({ s1 with supply := { s1.supply with seq := .idle } }).seqDone
    | q :: _ => (s1.railCut q).seqTo (.down rest) s.supply.goal
  | _ => s

/-- A PG_ of the power-up has failed: SAFE with cause 0x01, VAN going too where it is VAN (02 R75). -/
def State.railFailed (s : State) (r : Nat) : State :=
  let s1 := (s.updSupply fun u => { u with pg := Table.put u.pg r false }).log 0x1007 (param [(1, r)])
  (s1.updSupply fun u => { u with seq := .idle }).enterSafe 1 (r == 0)

/-- PG_TIMEOUT (02 R75): the awaited PG_ is still low 20 ms after its EN_. -/
def State.evPgTimeout (s : State) : State :=
  match s.supply.seq with
  | .up r false _ => s.railFailed r
  | _ => s

/-- PG_FALL_IN_SEQUENCE (02 R75): a PG_ that has risen falls during the power-up. -/
def State.evPgFallIn (s : State) (r : Nat) : State :=
  match s.supply.seq with
  | .up _ _ _ => if s.railOn r then (s.railFailed r).railLost r else s
  | _ => s

/-- PG_FALL_AFTER_SEQUENCE (02 R76): a rail other than VAN is lost. The PCIe link goes down first, so no completion is written. The rings
that held accepted sheets are reported by the records 0x2001 of their partitions, since Table 19-5 has no code for a ring's sheets
and Table 05-17 no sensor for them (log entry 96). -/
def State.evPgFallAfter (s : State) (r : Nat) : State :=
  match s.supply.seq with
  | .up _ _ _ => s
  | _ =>
    if s.railOn r ∧ r ≠ 0 then
      let s1 := (s.updSupply fun u => { u with pg := Table.put u.pg r false, endpoint := .off }).log 0x1007 (param [(1, r)])
      (s1.enterSafe 2).railLost r
    else s

/-- A comparator trips: TRIP, LEVEL, its record and its ACTION. `record` is the record's INDEX bookkeeping (03 R108, R109). -/
def State.cmpLevel (s : State) (n : Nat) (trip : Bool) : State :=
  let c := s.cmpAt n
  let last := if trip then c.lastTrip else c.lastRelease
  let again := last.elim false fun x => decide (s.now < x.1 + 32768)
  let prm := param [(1, n), (1, fieldOf c.cfg 29 28)]
  let s1 := match again, last with
    | true, some x => s.logRepeat x.2 0x1005 prm none trip true
    | _, _ =>
      let i := s.nextIndex
      (s.log 0x1005 prm none trip true).updCmp n fun c =>
        if trip then { c with lastTrip := some (s.now, i) } else { c with lastRelease := some (s.now, i) }
  s1.updCmp n fun c => { c with level := trip, trip := c.trip || trip, beyond := 0, past := 0 }

/-- What a trip leads to (03 R111, R112, R119, R856, 13 Table 13-9, 17 R702). A trip that wakes a DORMANT device runs the wake handler, also
where its ACTION then leads to SAFE. -/
def State.cmpActs (s : State) (n : Nat) : State :=
  let c := s.cmpAt n
  let act := fieldOf c.cfg 29 28
  let wakes := bitOf c.cfg.toNat 30
  let s1 := s.ropeWet n true
  if act = 2 then (if wakes ∧ s1.asleep then s1.wakeHandler (n + 1) else s1).enterSafe 5
  else
    let s2 := if act = 1 then s1.warnSet 7 else s1
    if wakes then
      (if s2.dev.trans ∧ s2.dev.target = .dormant ∧ s2.boot.complete then
         s2.updDev fun d => { d with latchedWake := d.latchedWake.filter (· != n) ++ [n] }
       else if s2.asleep then s2.wakeBy (n + 1) (s2.wakeGoes n)
       else s2)
    else s2

/-- A comparator is enabled and not in reset. -/
def State.cmpArmed (s : State) (n : Nat) : Bool := bitOf (s.cmpAt n).cfg.toNat 31 && !s.supply.porst && s.dev.state != .off

/-- The leak comparators read the pulses: in DORMANT and HELD, and until the rectifiers are switched in (03 R106, 14 R604). -/
def State.pulsed (s : State) : Bool := !s.aar.ropeRect

/-- A trip of an armed comparator that is not tripped. -/
def State.cmpTripped (s : State) (n : Nat) : State :=
  if s.cmpArmed n ∧ ¬ (s.cmpAt n).level then (s.cmpLevel n true).cmpActs n else s
/-- A release of a tripped comparator. -/
def State.cmpReleased (s : State) (n : Nat) : State :=
  if s.cmpArmed n ∧ (s.cmpAt n).level then (s.cmpLevel n false).ropeWet n false else s

/-- CMP_TRIP and CMP_RELEASE (03 R109): while the ropes are pulsed, CMP0-CMP3 are judged at the pulses. -/
def State.evCmpTrip (s : State) (n : Nat) : State := if n < 4 ∧ s.pulsed then s else s.cmpTripped n
def State.evCmpRelease (s : State) (n : Nat) : State := if n < 4 ∧ s.pulsed then s else s.cmpReleased n

/-- One pulse of 1 ms on ASINE0 and ASINE1, of the polarity opposite to the one before (03 R106). -/
def State.pulseOut (s : State) : State :=
  ({ s with aar := { s.aar with pulseNeg := !s.aar.pulseNeg } }).emit (.pulse "ASINE0-1" (b2n s.aar.pulseNeg))

/-- LEAK_PULSE (03 R106): the pulse, and the samples at its end; two in a row beyond trip, two in a row past release. -/
def State.evLeakPulse (s : State) (beyond past : Vector Bool 4) : State :=
  if ¬ s.pulsed ∨ s.supply.porst ∨ ¬ s.supply.vdeck then s
  else (List.range 4).foldl (fun (s : State) n =>
    let b := Table.at beyond n false
    let p := Table.at past n false
    let s1 := s.updCmp n fun c => { c with beyond := if b then min 2 (c.beyond + 1) else 0, past := if p then min 2 (c.past + 1) else 0 }
    let c := s1.cmpAt n
    if c.beyond = 2 ∧ ¬ c.level then s1.cmpTripped n
    else if c.past = 2 ∧ c.level then s1.cmpReleased n
    else s1) s.pulseOut

/-- CMP_TRIP_CLEAR (03 R108): the bits written 1 clear, and set again where the comparator is still tripped. -/
def State.evCmpClear (s : State) (v : Nat) : State :=
  (List.range 8).foldl (fun s n => if bitOf v (8 + n) then s.updCmp n fun c => { c with trip := c.level } else s) s

/-- A comparator that has lost its input reads as tripped: TRIP, LEVEL and the record, without its ACTION (03 R125). -/
def State.cmpForced (s : State) (n : Nat) : State := if s.cmpArmed n ∧ ¬ (s.cmpAt n).level then s.cmpLevel n true else s

/-- PG_VAN_FALL (02 R77, 03 R125): VAN goes, the link down with the other rails. In DORMANT the comparators lose their inputs and read as
tripped, and the warning is raised; the one SAFE cause is 0x03. -/
def State.evPgVanFall (s : State) : State :=
  match s.supply.seq with
  | .up _ _ _ => s
  | _ =>
    if s.railOn 0 then
      let s1 := (s.updSupply fun u => { u with pg := Table.put u.pg 0 false, endpoint := .off }).log 0x1007 (param [(1, 0)])
      if s.dev.state = .dormant then (((List.range 8).foldl State.cmpForced s1).warnSet 7).enterSafe 3 else s1.enterSafe 3
    else s

end Sys2Proof.Machine
end

