-- ==== Sys2Proof/Machine/PowerEv.lean ====
section
/-! DEFINITION. What the events of the supplies, resets, clocks, wake sources and timers of the device states do (chapters 02
and 03). -/
namespace Sys2Proof.Machine

/-! ### Resets (02 R70, R79, 04 R172, 21 Table 21-9) -/

/-- The device in reset. OTP, flash, the fabric's flash, HBM repairs and the levels of pins that others drive outlive every reset;
PORST# with VDECK present keeps the Calender and the calendar time; a loss of VDECK does not. A flash operation in progress ends
short of its end. -/
def State.coldReset (s : State) (lost : Bool) : State :=
  let r := State.reset
  let cut := s.flashEnds false
  let clk : Clocks :=
    if lost then r.clocks
    else { r.clocks with calFs := s.clocks.calFs, timeValid := s.clocks.timeValid, trimPpb := s.clocks.trimPpb,
                         setCount := s.clocks.setCount, lastUnc := s.clocks.lastUnc, discHeld := s.clocks.discHeld,
                         freeHeld := s.clocks.freeHeld }
  let cal : Cal :=
    if lost then r.cal else { s.cal with sector := none, deferred := [], capDiscards := 0 }
  { r with
    supply := { r.supply with vdeck := !lost, porstLow := s.supply.porstLow, perst := s.supply.perst, strapPins := s.supply.strapPins }
    dev := { r.dev with state := if lost then .off else .standby }
    otp := s.otp
    flash := cut.flash
    clocks := { clk with osc192 := !lost, oscFil := !lost }
    cal := cal
    fil := { r.fil with flash := s.fil.flash, programmed := s.fil.programmed, badWords := s.fil.badWords }
    mem := { r.mem with hbmRepairs := s.mem.hbmRepairs, hbmExhausted := s.mem.hbmExhausted }
    out := s.out
    freeCtr := cut.freeCtr
    pending := s.pending }

/-- The end of a reset: the cold boot starts, and the straps are sampled next (02 R70, R72). -/
def State.resetEnds (s : State) : State :=
  { s with
    supply := { s.supply with porst := false }
    boot := { s.boot with phase := .strapWait } }

/-- VDECK is back within tolerance: the device is no longer OFF, its oscillators run (03 R103, Table 03-3). -/
def State.vdeckBack (s : State) : State :=
  { s with
    supply := { s.supply with vdeck := true }
    dev := { s.dev with state := .standby }
    clocks := { s.clocks with osc192 := true, oscFil := true } }

/-- PORST_ASSERT (02 R70): a low of 10 us or more is a cold reset; without VDECK the device is in reset already. -/
def State.evPorstAssert (s : State) (lowUs : Nat) : State :=
  if lowUs < 10 then s
  else (if s.supply.vdeck then s.coldReset false else s).updSupply fun u => { u with porstLow := true }
/-- PORST_RELEASE (02 R70): the end of the stretched reset. -/
def State.evPorstRelease (s : State) : State :=
  let s1 := s.updSupply fun u => { u with porstLow := false }
  if s.supply.porst ∧ s.supply.vdeck then s1.resetEnds else s1
/-- POWER_ON_DETECT (02 R70): the detector holds a cold reset until both VDECK rails have been within tolerance for 1 ms; PORST# still
low holds it on, to its own release. -/
def State.evPowerOnDetect (s : State) (inTolerance : Bool) : State :=
  if inTolerance then
    (if s.supply.vdeck then s else if s.supply.porstLow then s.vdeckBack else s.vdeckBack.resetEnds)
  else if s.supply.vdeck then s.coldReset true else s
/-- VDECK_LOSS (02 R79). -/
def State.evVdeckLoss (s : State) : State := s.coldReset true

/-! ### PERST# and the endpoint (02 R71, 05 R221, R237, 06 Table 06-12, 21 Table 21-9) -/

/-- PERST_ASSERT: the endpoint is in reset, its configuration spaces at their reset values, and every partition stopped by the
ABORT rules with its rings disabled. In DORMANT the endpoint is off already and nothing else changes (03 R121). -/
def State.evPerstAssert (s : State) : State :=
  if s.supply.perst then s
  else if s.dev.state = .dormant then s.updSupply fun u => { u with perst := true }
  else
    let s1 := s.updSupply fun u => { u with perst := true, endpoint := .off }
    let s2 := (List.range 16).foldl (fun s p => s.outsideStop p .perst true) s1
    { s2 with
      part := s2.part.map fun (p : Part) => { p with busMaster := false }
      sriov := { s2.sriov with vfEnable := false, numVfs := 0, latches := [], msix := [] } }

/-- A standing entry into STANDBY or a boot goes on without the endpoint while PERST# is asserted. PERST_RELEASE: the endpoint
starts, WAKE# ends, and a DORMANT device wakes (02 R71, 03 R98, R111). A release during the entry into DORMANT passes with no wake
(DESIGN CHOICE, log entry 108). -/
def State.evPerstRelease (s : State) : State :=
  if ¬ s.supply.perst then s
  else
    let s1 := s.updSupply fun u => { u with perst := false, wake := false }
    if s1.supply.vdeck ∧ ¬ s1.supply.porst then
      if s1.asleep then s1.wakeBy 0x0B true
      else if s1.supply.seq = .idle then s1.endpointStart
      else s1
    else s1

/-- Notices that waited for the endpoint are written (05 R221). -/
def State.deliverQueued (s : State) (m : Nat) : State :=
  let q := (s.pageAt m).queued
  q.foldl (fun (s : State) n => s.noticeTo m n) (s.updPage m fun pg => { pg with queued := [] })

/-- The reset contents of a mailbox page (05 R195). What has been accepted goes on. -/
def freshPage (m : Nat) (pg : MbxPage) : MbxPage :=
  { mask := permittedMask m, queued := pg.queued, lost := if pg.queued = [] then 0 else pg.lost, lostDue := pg.queued ≠ [] && pg.lostDue }

/-- ENDPOINT_READY (02 R71): the mailbox pages reset, queued notices are delivered, and STANDBY is entered where it waited for
the endpoint. -/
def State.evEndpointReady (s : State) : State :=
  if s.supply.endpoint = .retry then
    let s1 := s.updSupply fun u => { u with endpoint := .ready }
    let s2 := (List.range 17).foldl (fun (s : State) m => s.updPage m (freshPage m)) s1
    let s3 := (List.range 17).foldl State.deliverQueued s2
    if s3.supply.goal = .toStandby ∧ s3.supply.seq = .idle then s3.standbyReady s3.standbyTrigger else s3
  else s

/-- WAKE_SIGNAL_TIMEOUT (03 R98): 1 s have passed. -/
def State.evWakeTimeout (s : State) : State := s.updSupply fun u => { u with wake := false }

/-! ### Light, REFCLK and the crystal -/

/-- VPHO_OUT_OF_TOLERANCE (02 R62). -/
def State.evVphoOut (s : State) : State := (s.updSupply fun u => { u with vphoOk := false }).lasersDark
/-- VPHO_TOLERANCE_RETURN (02 R62): the drivers release the lasers, and arrays at temperature that are in use light again. -/
def State.evVphoReturn (s : State) : State :=
  if s.railOn 4 ∧ ¬ s.supply.vphoOk then
    let s1 := s.updSupply fun u => { u with vphoOk := true }
    if s1.railOn 5 then
      (List.range 20).foldl (fun (s : State) pos => if s.bankInUse pos then s.laserLight (s.arrayAt pos) else s) s1
    else s1
  else s

/-- A transition into STANDBY, ANNEAL or SERVING is in progress, a boot into one of the first two included (02 R81). Boot code, before
firmware runs, is no such transition yet. -/
def State.towardService (s : State) : Bool :=
  s.dev.trans && (s.dev.target == .standby || s.dev.target == .anneal || s.dev.target == .serving) &&
    (s.boot.complete || (s.boot.phase == .firmware && s.row.start != .dormant))

/-- REFCLK_LOSS (02 R81): SAFE in service and on the way into it; in HELD and SAFE only the flag and the record; elsewhere the lock is
judged when it is needed (03 R95). -/
def State.evRefclkLoss (s : State) : State :=
  if ¬ s.clocks.refclkLock then s
  else
    let s1 := { s with clocks := { s.clocks with refclkLock := false } }
    if s1.inService ∨ s1.towardService then s1.enterSafe 4
    else if s1.dev.state = .held ∨ s1.dev.state = .safe ∨ s1.dev.episode.isSome then s1.log 0x1009 []
    else s1
/-- REFCLK_LOCKED (02 R81): REFCLK runs within range again. -/
def State.evRefclkLocked (s : State) : State :=
  if s.supply.vdeck ∧ ¬ s.supply.porst then { s with clocks := { s.clocks with refclkLock := true } } else s

/-- The figures after a change of the crystal: the free-running one with the record of the change, and the disciplined one, which is not
held during a fault, in whatever state (02 R80, 19 R758). -/
def State.crystalFigure (s : State) : State :=
  let s1 := ({ s with clocks := { s.clocks with freeHeld := s.freeNow } }).log 0x0007 (param [(1, 1)]) none s.clocks.xtalFault
  if s1.clocks.discHeld ∧ s1.clocks.xtalFault then
    ({ s1 with clocks := { s1.clocks with discHeld := false } }).log 0x0006 [] none true
  else s1

/-- CRYSTAL_FAULT (02 R80): the clock moves to the Filigree oscillator, and both figures are not held. -/
def State.evCrystalFault (s : State) : State :=
  if s.clocks.xtalFault ∨ ¬ s.supply.vdeck ∨ s.supply.porst then s
  else ({ s with clocks := { s.clocks with xtalFault := true, xtalOk := false } }).crystalFigure
/-- CRYSTAL_RECOVER (02 R80). -/
def State.evCrystalRecover (s : State) : State :=
  if s.clocks.xtalFault ∧ s.supply.vdeck ∧ ¬ s.supply.porst then
    ({ s with clocks := { s.clocks with xtalFault := false, xtalOk := true } }).crystalFigure
  else s

/-- How far the crystal runs fast at a temperature (0.01 degrees C), in 0.01 ppm: the offset at 25 degrees C, and the parabola about the
turnover temperature, which adds nothing at 25 degrees C (02 R64; DEDUCED, log entry 109). -/
def RowCfg.crystalOff (r : RowCfg) (temp : Int) : Int :=
  let d (t : Int) : Int := (t - 10 * r.xtalTurn) * (t - 10 * r.xtalTurn)
  r.xtalOfs + r.xtalPara * (d temp - d 2500) / 1000000

/-- The device's own correction error, in 0.01 ppm: a free value of at most 0.5 ppm (02 R64, log entry 109). -/
def RowCfg.crystalErr (r : RowCfg) (temp : Int) : Int :=
  (Config.freeOf 32 [unsgn 16 r.xtalOfs, unsgn 16 r.xtalPara, r.xtalTurn, unsgn 16 temp] % 101 : Nat) - (50 : Int)

/-- CRYSTAL_CORRECTION (02 R64, 21 R811): the correction from the coefficients and the die temperature, within the device's own error;
without coefficients there is none. -/
def State.evCrystalCorrection (s : State) (temp : Int) : State :=
  if ¬ s.boot.rowOk ∨ s.clocks.extClk then s
  else if s.row.xtalOfs = 0 ∧ s.row.xtalPara = 0 ∧ s.row.xtalTurn = 0 then
    { s with clocks := { s.clocks with corr := 0, corrSet := false } }
  else
    { s with clocks := { s.clocks with
      corr := clampInt (-32768) 32767 (s.row.crystalErr temp - s.row.crystalOff temp), corrSet := true } }

/-! ### Regulators (02 R60, R84) -/

/-- The entry of `Supply.tele` that counts the failures of the regulator of entry `e`: pages 1 and 2 of the HBM regulator share its address
(02 Table 02-9). -/
def teleRail (e : Nat) : Nat := if e < 7 then e else 3

/-- Change a telemetry entry. -/
def State.updTele (s : State) (e : Nat) (f : RailTelemetry → RailTelemetry) : State :=
  s.updSupply fun u => { u with tele := Table.upd u.tele e f }

/-- A PMBus transaction to the regulator of entry `e` has been answered: telemetry that was stale is back, with a record (02 R84). -/
def State.pmbusOk (s : State) (e : Nat) : State :=
  let r := teleRail e
  let s1 := s.updTele r fun t => { t with fails := 0, stale := false, staleAt := 0 }
  if (Table.at s.supply.tele r {}).stale then s1.log 0x100D (param [(1, r)]) none false else s1

/-- A PMBus transaction to the regulator of entry `e` has failed: the third in a row marks its telemetry stale, with a record (02 R84). -/
def State.pmbusFail (s : State) (e : Nat) : State :=
  let r := teleRail e
  let t := Table.at s.supply.tele r {}
  let n := min 3 (t.fails + 1)
  if n = 3 ∧ ¬ t.stale then (s.updTele r fun t => { t with fails := n, stale := true, staleAt := s.now }).log 0x100D (param [(1, r)])
  else s.updTele r fun t => { t with fails := n }

/-- One transaction of a poll: its value is taken, or it has failed. -/
def State.pmbusRead {α : Type} (s : State) (e : Nat) (v : Option α) (f : α → RailTelemetry → RailTelemetry) : State :=
  match v with
  | some x => (s.pmbusOk e).updTele e (f x)
  | none => s.pmbusFail e

/-- One output's four transactions, in the order of 02 R60. -/
def State.railPolled (s : State) (e : Nat) (a : PmbusReading) : State :=
  (((s.pmbusRead e a.vout fun x t => { t with vout := x }).pmbusRead e a.iout fun x t => { t with iout := x }).pmbusRead e a.temp
    fun x t => { t with temp := x }).pmbusRead e a.status fun x t => { t with status := x }

/-- PMBUS_POLL (02 R60): the readings in the order of `Supply.tele`. In DORMANT only the clock and the comparators run (03 Table 03-2), in
OFF and in reset nothing, and while firmware is absent the bus rests (05 R224). -/
def State.evPmbus (s : State) (l : List PmbusReading) : State :=
  if s.supply.porst ∨ ¬ s.supply.vdeck ∨ s.dev.state = .dormant ∨ s.fwAbsent ∨ s.boot.phase = .strapWait ∨ s.boot.phase = .boardTest then s
  else (l.take 9).zipIdx.foldl (fun (s : State) x => s.railPolled x.2 x.1) s

/-! ### Straps (02 R72) -/

/-- STRAP_CHANGE (02 R72): before sampling the pin is read as it stands; after it the first change is recorded once. -/
def State.evStrapChange (s : State) (n : Nat) (high : Bool) : State :=
  let p := s.supply.strapPins
  let p' : Straps := { fvs := if n = 0 then high else p.fvs, mgt := if n = 1 then high else p.mgt,
                       tap := if n = 2 then high else p.tap, test := if n = 3 then high else p.test }
  let s1 := s.updSupply fun u => { u with strapPins := p' }
  if s.supply.straps.isSome ∧ ¬ s.supply.strapRecorded ∧ p' ≠ p then
    (s1.updSupply fun u => { u with strapRecorded := true }).log 0x100A (param [(1, n)])
  else s1

/-! ### Wake sources and timers (03 R102-R104, R111, Table 03-3, 21 R812) -/

/-- The time since the management port last left a transaction in DORMANT without acknowledge, in ticks. -/
def State.sinceNack (s : State) : Option Nat := s.damem.nackAt.map fun t => s.now - t

/-- The management port of a sleeping device acknowledges: the transaction is a retry, made from 1 ms after the first and before the device
is back in DORMANT, 10 ms after it (03 R104, R111). -/
def State.mgmtHears (s : State) : Bool := s.sinceNack.any fun d => decide (32768 ≤ d * 1000 ∧ d * 1000 ≤ 10 * 32768)

/-- A transaction of a sleeping device that is not acknowledged: it wakes the device, but for one within 1 ms of such a wake (03 R104). -/
def State.mgmtNack (s : State) : State :=
  let s1 := s.emit (.bus "MGMT address NACK" [])
  if s.sinceNack.any fun d => decide (d * 1000 < 32768) then s1
  else
    let s2 := s1.wakeBy 0x0A false
    { s2 with damem := { s2.damem with nackAt := some s.now } }

/-- MGMT_ADDRESS_MATCH (03 R104): in DORMANT the first transaction is not acknowledged, and wakes the device; a retried one is acknowledged. A
match during the entry into DORMANT is acknowledged as before it, with no wake (DESIGN CHOICE, log entry 108). -/
def State.evMgmtMatch (s : State) : State := if s.asleep ∧ ¬ s.mgmtHears then s.mgmtNack else s

/-- The alarm fires where it is armed and reached: FIRED is set, and it may wake the device (21 R812, 03 R102). During the entry into DORMANT
it fires with no wake (DESIGN CHOICE, log entry 108). -/
def State.alarmDue (s : State) : State :=
  if s.alarmReached then
    let s1 := s.alarmFired
    if s1.clocks.alarmWake ∧ s1.asleep then s1.wakeBy 0x09 false else s1
  else s

/-- ANNEAL_IDLE_TIMEOUT (03 Table 03-3, R122). -/
def State.evAnnealIdle (s : State) : State :=
  if s.dev.state = .anneal ∧ ¬ s.dev.trans ∧ s.row.idleS ≠ 0 ∧ s.dev.startsWaiting = [] then s.leaveAnneal .idle else s

/-- LAST_PARTITION_STOPPED (03 Table 03-3): no partition runs any more. The warming load runs: from its WARM floor, or in RAMP mode so that
the fall stays within the limiter's bound (03 R115, R117). -/
def State.evLastStopped (s : State) : State :=
  if s.dev.state = .serving ∧ ¬ s.dev.trans ∧ s.thm.seed.isNone ∧ ¬ (s.part.toList.any fun p => p.live || p.state == .aborting) then
    let s1 := s.clocksOff.stateTo .anneal .lastStopped
    if s1.rampMode then { s1 with thm := { s1.thm with warming := BitVec.ofNat 16 (maskOf s1.warmable) } } else s1.warmStart
  else s

/-! ### Critical junction entries and lost sensors (13 R551, R570, 03 R856) -/

/-- A SAFE cause found by another unit: it acts from boot code's first write on, and outside reset. -/
def State.safeCause (r : Bool × State) (cause : Nat) : State :=
  let s := r.2
  if r.1 ∧ s.supply.vdeck ∧ ¬ s.supply.porst ∧ s.boot.phase ≠ .strapWait ∧ s.boot.phase ≠ .boardTest then s.enterSafe cause else s

end Sys2Proof.Machine
end

