-- ==== Sys2Proof/Machine/BootEv.lean ====
section
/-! DEFINITION. Cold and recovery boots, boot complete, Assay restarts and live firmware update (chapters 04, 05 and 08). Boot code
is one command: nothing comes between its steps (log entry 5). -/
namespace Sys2Proof.Machine

/-! ### Boot code (04 R126-R128, R145, R146, R156, R157, R173) -/

/-- Comparators that an image leaves disabled are recorded as not armed (03 R110). -/
def State.reportUnarmed (s : State) : State :=
  (List.range 8).foldl (fun (s : State) n =>
    if bitOf (s.cmpAt n).cfg.toNat 31 then s else s.log 0x1006 (param [(1, n)])) s

/-- Write and seal the held envelope, with the clock defaults of R159; a sealed envelope stays (04 R156). -/
def State.sealHeld (s : State) : State :=
  if s.hmk.sealed then s
  else
    let s1 := s.updCmp 6 fun c => { c with cfg := heldCmp6 }
    State.reportUnarmed { s1 with
      hmk := heldHmk s.otp.orderCode
      boot := { s1.boot with cmpEnv := true }
      clocks := { s1.clocks with xtalLoad := 16, sris := false } }

/-- HELD before stage 1 has verified an envelope: the held envelope is sealed first, and only a cold reset helps (04 R156). -/
def State.earlyHeld (s : State) (r : HeldReason) (detail : Nat) (copy : Bool) : State :=
  s.sealHeld.enterHeld r detail copy true

/-- The values of the row configuration image come into force (04 R183): for firmware as it starts or resumes. -/
def State.applyRow (s : State) (b : List Byte) : State :=
  let r := parseRow b
  { s with row := r, clocks := { s.clocks with corrSet := r.xtalOfs != 0 || r.xtalPara != 0 || r.xtalTurn != 0 } }
/-- Thresholds in force are written to THM_THRg (13 R543, R544). -/
def State.applyThresholds (s : State) : State :=
  let d : Thermal := {}
  { s with thm := { s.thm with thr := Vector.ofFn fun g : Fin 5 => threshInForce g (s.row.thresh[g]).toNat d.thr[g] } }

/-- The active copy of an entry of the directory in use. -/
def State.activeCopy (s : State) (entry : Nat) : Bool := (s.boot.dir.entry entry).active

/-- The rails of the start state come on; DORMANT keeps VAN alone (04 R126, 02 R56). -/
def State.startRails (s : State) (start : DevState) : State :=
  let done (s : State) : State := (s.seqTo .idle .none).endpointStart
  if start = .dormant then (if s.cutList [0] = [] then s.upTo' 0 .boot done else s.downTo [0] .boot done)
  else s.upTo' 6 .boot done

/-- Firmware starts: the watchdog of R133 and the MCTP service run, the row configuration is read, the start state chosen, and
the rails come on (04 R126, R131, R133, R183). -/
def State.fwStart (s : State) : State :=
  let i := s.imageAt .firmware s.boot.fwSlot
  let s1 := { s with
    boot := { s.boot with stage := 2, phase := .firmware, watchdog := true, fwVer := i.fwVer, compat := i.compat,
                          fwDigest := i.read 0x80 48 }
    damem := { s.damem with mctpUp := true } }
  if s1.otp.ownHash.all (·.isNone) then s1.enterHeld .noOwner 0 false true
  else
    let s2 := s1.applyRow (s1.imageAt .row (s1.activeCopy 2)).body
    let start := if s2.row.start = .dormant ∧ ¬ s2.supply.perst then .standby else s2.row.start
    ({ s2 with boot := { s2.boot with rowOk := true } }.transTo start).startRails start

/-- Stage 1 verifies the firmware image of its slot and runs it (04 R126). -/
def State.stage1Ends (s : State) : State :=
  let d := s.copyDetail .firmware s.boot.fwSlot
  if d = 0 then s.fwStart else s.enterHeld .fwImage d s.boot.fwSlot false

/-- SVN of the firmware image being booted, 0 where its header does not pass (04 R145). -/
def State.bootSvn (s : State) : Nat :=
  let d := s.copyDetail .firmware s.boot.fwSlot
  if d = 1 ∨ d = 2 then 0 else (s.imageAt .firmware s.boot.fwSlot).svn

/-- A write of PWR_CMPn_CFG: ACTION 0b11 leaves ACTION as it was, with a record (03 R107). -/
def State.writeCmp (s : State) (n w : Nat) : State :=
  if bitsOf w 29 28 = 3 then
    (s.updCmp n fun c => { c with
      cfg := BitVec.ofNat 32 (w - 3 * 2 ^ 28 + bitsOf c.cfg.toNat 29 28 * 2 ^ 28) }).log 0x1006 (param [(1, n)])
  else s.updCmp n fun c => { c with cfg := BitVec.ofNat 32 w }

/-- The comparator registers: CMP4-CMP6 from the envelope body, the others from the row configuration body where that image
passed (04 R146, R157). -/
def State.writeCmps (s : State) (env : List Byte) (row : Option (List Byte)) : State :=
  let w (n : Nat) : Nat :=
    if n = 4 ∨ n = 5 ∨ n = 6 then envValue env (36 + n)
    else row.elim 0 fun b => if n = 7 then fld b 0x24 4 else fld b (0x14 + 4 * n) 4
  (List.range 8).foldl (fun (s : State) n => s.writeCmp n (w n)) s

/-- OTP actions after the envelope image has passed, in their order (04 R145). -/
def State.otpActions (s : State) (env : Image) (rowSvn : Option Nat) : State :=
  let s1 := (envActions env.body).foldl (fun (s : State) a => s.otpAction env.slot a) s
  let s2 := s1.otpRoots (s1.imageAt .stage1 s1.boot.fwSlot).revokes
  s2.otpVersions s2.bootSvn (rowSvn.elim env.svn (min env.svn))

/-- The pending OTP burns in their order, as far as stage 1 gets to them (04 R145, R190): provisioning; then, where the envelope image passes,
the owner actions, the root revocations and the security versions. -/
def State.burnList (s : State) : List (State → State) :=
  let due := decide (s.boot.dir.provReq = 1) && s.otp.ownHash.all (·.isNone)
  let env := s.imageAt .env (s.activeCopy 1)
  let rc := s.activeCopy 2
  (if due then [State.otpProvision] else []) ++
    (if s.otpProvision.copyDetail .env (s.activeCopy 1) = 0 then
      ((envActions env.body).map fun a (s : State) => s.otpAction env.slot a) ++
        ((bitsSet 4 (s.imageAt .stage1 s.boot.fwSlot).revokes).map fun n (s : State) => s.otpRoots (2 ^ n)) ++
        [fun s => s.otpVersions s.bootSvn (if s.copyDetail .row rc = 0 then min env.svn (s.imageAt .row rc).svn else env.svn)]
     else [])

/-- The first `k` of the burns; a cut in the advance of the counters leaves each between its old value and its target (04 R190). -/
def State.burnSome (s : State) (k : Nat) : State :=
  let l := s.burnList
  let s1 := (l.take k).foldl (fun (s : State) f => f s) s
  if k + 1 = l.length then
    let o := ((l.drop k).foldl (fun (s : State) f => f s) s1).otp
    let a := s1.free 42
    let b := a.2.free 42
    { b.2 with otp := { s1.otp with
        fwSvn := s1.otp.fwSvn + a.1 % (o.fwSvn - s1.otp.fwSvn + 1), ownSvn := s1.otp.ownSvn + b.1 % (o.ownSvn - s1.otp.ownSvn + 1) } }
  else s1

/-- The Touchstone is measured again, as every run of stage 1 does (02 R69); what it reads is free (log entry 5). -/
def State.touchAgain (s : State) : State :=
  let x := s.free 34
  x.2.touchCheck (x.1 % 65536)

/-- Stage 1 of a recovery boot: the envelope is checked against the sealed one and nothing of it is written (04 R128). The Touchstone is
measured as in a cold boot (02 R69). -/
def State.stage1Recovery (s : State) : State :=
  let c := s.activeCopy 1
  let rc := s.activeCopy 2
  let d := s.copyDetail .env c
  let rd := s.copyDetail .row rc
  let s1 := s.touchAgain
  if d ≠ 0 then s1.enterHeld .envelope d c true
  else if (s1.imageAt .env c).digest32 ≠ s1.hmk.envId.toNat then s1.enterHeld .envelope 0 c true
  else if rd ≠ 0 then s1.enterHeld .rowcfg rd rc false
  else s1.stage1Ends

/-- The flash is usable: it answers, has an SFDP table, and fits STRAP_FVS (04 R134, R158, 02 R86). -/
def State.flashFits (s : State) (readable : Bool) : Bool :=
  readable && s.flash.sfdp && s.flash.volts33 == (s.supply.straps.getD {}).fvs

/-- The directory is chosen and stage 1 verified and run (04 R126, R136). -/
def State.romDirectory (s : State) (stage1 : State → State) : State :=
  match s.dirChoose with
  | none => s.earlyHeld .directory 0 false
  | some (c, dir) =>
    let slot := (dir.entry 0).active
    let s1 := { s with boot := { s.boot with dirInUse := some c, dir := dir, fwSlot := slot } }
    let d := s1.copyDetail .stage1 slot
    if d = 0 then stage1 { s1 with boot := { s1.boot with stage := 1 } } else s1.earlyHeld .fwImage d slot

/-- Every boot clears what the last one left (04 R128). -/
def Boot.start (b : Boot) (recovery : Bool) : Boot :=
  { b with coldNeeded := false, stage := 0, reason := 0, detail := 0, copy := false, phase := .idle, recovery := recovery,
           complete := false, dirInUse := none, rowOk := false, watchdog := false, fwVer := 0, compat := 0 }

/-- The record ring is checked; what flash cannot tell is not known (19 R754). -/
def State.ringCheck (s : State) : State :=
  if s.boot.flashUsable then s.calStart
  else if s.cal.ringLost then
    ({ s with cal := { s.cal with ringLost := false, recs := [], next := 0, oldest := 0 } }).log 0x0003 (param [(4, 0xFFFFFFFF)])
  else s

/-- The Boot ROM (04 R126, R128, R134, R158). During a recovery boot PWR_STATE keeps STATE HELD with TRANS = 1, which the spec does not state
(DESIGN CHOICE, log entry 112). -/
def State.bootRom (s : State) (recovery usable : Bool) (stage1 : State → State) : State :=
  let b := s.boot.start recovery
  let s1 := { s with boot := { b with flashUsable := usable }, dev := { s.dev with trans := true, target := .standby, episode := none } }
  let s2 := s1.ringCheck
  if (s2.supply.straps.getD {}).test ∧ ¬ recovery then s2.earlyHeld .strapTest 0 false
  else if ¬ usable then s2.earlyHeld .flash 0 false
  else (if s2.flash.quad then s2 else s2.log 0x100E []).romDirectory stage1

/-- A recovery boot (04 R128). -/
def State.recoveryBoot (s : State) : State :=
  s.bootRom true (s.flashFits s.boot.flashUsable) State.stage1Recovery

/-- A restart of the Assay core is recorded with its cause (08 R346). -/
def State.logRestart (s : State) (cause : Nat) : State := s.log 0xA001 (param [(1, Config.codeOf 14 cause)]) none true true

/-- Stage 1 goes on after the seal; a restart of the Assay core there makes the rest a recovery boot (04 R192). -/
def State.afterSeal (s : State) (cut : BootCut) (k : State → State) : State :=
  if cut = .faultAfterSeal then (s.logRestart 0).recoveryBoot else k s

/-- Stage 1 of a cold boot, after a passed envelope image: the row configuration image, OTP, the Touchstone, the registers and
the seal (04 R126, R145, R157). -/
def State.stage1Envelope (s : State) (touchOhm : Nat) (cut : BootCut) : State :=
  let env := s.imageAt .env (s.activeCopy 1)
  let rc := s.activeCopy 2
  let row := s.imageAt .row rc
  let s1 := { s with hmk := envHmk env.body env.digest32 }
  let d := s1.copyDetail .row rc
  let ok := decide (d = 0)
  let s2 := (s1.otpActions env (if ok then some row.svn else none)).touchCheck touchOhm
  let s3 := s2.writeCmps env.body (if ok then some row.body else none)
  let s4 := State.reportUnarmed { s3 with
    boot := { s3.boot with cmpEnv := !ok }
    clocks := { s3.clocks with xtalLoad := if ok then fld row.body 4 1 else 16, sris := ok && bitOf (fld row.body 3 1) 2 } }
  s4.afterSeal cut fun s => if ok then s.stage1Ends else s.enterHeld .rowcfg d rc false

/-- Stage 1 of a cold boot (04 R126, R145, R156, R173). -/
def State.stage1Cold (s : State) (touchOhm : Nat) (cut : BootCut) : State :=
  let s1 := s.otpProvision
  let c := s1.activeCopy 1
  if s1.otp.ownHash.all (·.isNone) then (s1.touchCheck touchOhm).sealHeld.afterSeal cut State.stage1Ends
  else
    let d := s1.copyDetail .env c
    if d = 0 then s1.stage1Envelope touchOhm cut
    else (s1.touchCheck touchOhm).sealHeld.afterSeal cut fun s => s.earlyHeld .envelope d c

/-- The clocks as the boot finds them (02 R63, R80). -/
def State.clocksFound (s : State) (env : BootEnv) : State :=
  let s1 := { s with clocks := { s.clocks with extClk := env.extClk, xtalOk := env.xtalOk } }
  if env.xtalOk then s1 else s1.evCrystalFault

/-- STRAP_SAMPLE (02 R72, 04 R126): the straps are sampled and boot code runs. -/
def State.evStrapSample (s : State) (env : BootEnv) : State :=
  if s.boot.phase ≠ .strapWait then s
  else
    let s1 := s.updSupply fun u => { u with straps := some u.strapPins }
    if s1.supply.strapPins.tap then { s1 with boot := { s1.boot with phase := .boardTest } }
    else
      let s2 := s1.clocksFound env
      let rom (s : State) (stage1 : State → State) : State := s.bootRom false (s2.flashFits env.flashReadable) stage1
      match env.cut with
      | .powerLost k => (rom s2 (·.burnSome k)).coldReset true
      | .faultBeforeSeal k =>
        let s3 := rom s2 (·.burnSome k)
        if s3.hmk.sealed then s3 else rom (s3.logRestart 0) (·.stage1Cold env.touchOhm .none)
      | c => rom s2 (·.stage1Cold env.touchOhm c)

/-! ### Boot complete (04 R126, R132, R139, 13 R544, 14 R581, 18 R732) -/

/-- The code at which an output is released: INIT of the slot output that feeds it, or the safe code of its span (04 R132, 15 R622, R625). -/
def LoopProg.releaseCode (p : LoopProg) (n span : Nat) (slot : Option Nat) : Nat :=
  let outs : List SlotOut := ((p.decode p.slots).filter fun e => some e.1 == slot).flatMap fun e =>
    (List.range e.2.record.nout).map fun q => Table.at e.2.record.out q {}
  match outs.find? fun o => o.dest == n with
  | some o => (clampInt 0 65535 (lwScaled o.init o.scale)).toNat
  | none => safeCode span

/-- The array as the loop program configures it, its outputs released (04 R132, 14 R581). -/
def State.loadArray (s : State) (p : LoopProg) : State :=
  let at' {α : Type} (l : List (Nat × α)) (i : Nat) : Option α := (l.find? fun e => e.1 == i).map (·.2)
  { s with aar := { s.aar with
      cell := Vector.ofFn fun i : Fin 24 => (at' p.cells i).getD {}
      switches := p.switches
      ds := Vector.ofFn fun i : Fin 4 => match p.ds.find? fun e => e.1 == i.val with
        | some (_, touch, gain, rate, nscan) => { en := true, touch := touch, gain := gain, rate := rate, nscan := nscan }
        | none => {}
      sar := Vector.ofFn fun i : Fin 2 => match p.sar.find? fun e => e.1 == i.val with
        | some (_, nscan, bi, trigger) => { nscan := nscan, bi := bi, trigger := trigger }
        | none => {}
      aout := Vector.ofFn fun i : Fin 8 => match p.aout.find? fun e => e.1 == i.val with
        | some (_, span, slot) => { span := span, slot := slot, code := p.releaseCode i.val span slot, released := true }
        | none => { released := true }
      excEn := p.exc.1, excCur := p.exc.2.1, elements := p.exc.2.2, stringOk := p.exc.1
      trimUse := Vector.ofFn fun i : Fin 4 => (p.trimUse[i.val]?).getD false
      sine := Vector.ofFn fun i : Fin 2 => match p.sine.find? fun e => e.1 == i.val with
        | some (_, inc, ampl) => { en := true, inc := inc, ampl := ampl }
        | none => {} } }

/-- The slots of the loop program; the steward section waits for the role (15 R624, 17 R692). -/
def State.loadSlots (s : State) (p : LoopProg) : State :=
  (p.decode p.slots).foldl (fun (s : State) e => s.loadSlot e.1 e.2) { s with lpe := { fresh := true, maxCycles := p.busiest } }

/-- Trackers and lasers of the loop program (17 R697, 12 R520, R521). -/
def State.loadOthers (s : State) (p : LoopProg) : State :=
  let s1 := p.trackers.foldl (fun (s : State) t =>
    s.updTrk t.1 fun x => { x with tpr := t.2.1, staleMs := t.2.2.1, events := t.2.2.2 }) s
  let s2 := { s1 with pho := { s1.pho with submountSet := p.submount } }
  (List.range 24).foldl (fun (s : State) a =>
    s.setLaserPower a (((p.laserPower.find? fun e => e.1 == a).map (·.2)).getD 80)) s2

/-- The loop program is loaded. -/
def State.loadProgram (s : State) (p : LoopProg) : State :=
  let s1 := ({ s with prog := p }).loadArray p
  (s1.loadSlots p).loadOthers p
/-- The Filigree set of the active copy is loaded (18 R732). -/
def State.loadSet (s : State) : State := s.filLoad (s.imageAt .fil (s.activeCopy 4)).body

/-- What firmware sets at boot complete besides the images: the cap, thresholds, the persistent region, the directory, the
scorer's enable and the mesh's first path report (04 R139, R170, R174, 10 R432, 13 R544). -/
def State.completeSettings (s : State) : State :=
  let s1 := if s.thm.capAt.isNone then s.setCap s.fallbackCap 1 else s
  let s2 := s1.applyThresholds.calMount.dirGood
  { s2 with
    wmk := { s2.wmk with en := s2.row.scorerEn }
    mesh := { s2.mesh with pathDirty := true } }

/-- Boot complete is reached. -/
def Boot.reached (b : Boot) : Boot :=
  { b with phase := .idle, complete := true, stage := 3, watchdog := false, recovery := false, reason := 0, detail := 0,
           copy := false, coldNeeded := false }

/-- The start state is entered (04 R126, 03 R95). -/
def State.startEnter (s : State) : State :=
  if s.dev.target = .dormant then (s.engineStop.filPark).dormantReached .boot
  else if ¬ s.clocks.refclkLock then s.enterSafe 4
  else if s.dev.target = .anneal then (s.enterStandby .boot).enterAnneal .boot
  else s.enterStandby .boot

/-- The steward section: slots 8 to 11 as Table 17-7 and R693 have them, with the scan of DS1, DISABLE values of 0 mA, and the law for one
pump in the second bank of slot 11 (17 R692-R694). -/
def State.stewardGood (s : State) (p : LoopProg) : Bool :=
  let sec := p.decode p.steward
  let same (a b : Reg32) : Bool := lwVal a == lwVal b
  let slot (n law period src alt : Nat) (dests : List Nat) (parent : Option Nat) (f : SlotProg → Bool) : Bool :=
    sec.any fun e => e.1 == n &&
      (let r := e.2.record
       let i := Table.at r.inp 0 {}
       r.law == law && r.period == period && r.nin == 1 && i.src == src && i.alt == alt && r.dests == dests && r.parent == parent &&
         r.action1 == 3 && r.action2 == 1 && f e.2)
  let dark (x : SlotProg) : Bool :=
    let o := Table.at x.record.out 0 {}
    decide (lwScaled o.disable o.scale ≤ 0)
  decide (sec.length = 4) &&
    slot 8 1 10000 0x108 0x504 [3] none (fun x =>
      let i := Table.at x.record.inp 0 {}
      x.record.coolant && x.record.guard && x.record.warn && dark x && i.conv == 1 && i.frozenN == 480 && i.recoverN == 8 &&
        same i.plausLo (lwFrac ((s.supMin : Int) - 50) 10).1 && same i.plausHi (lwFrac ((s.supMax : Int) + 50) 10).1 &&
        same i.frozenFloor (lwFrac 5 10000).1) &&
    slot 9 1 1000 0x400 0x500 [1] (some 11) dark && slot 10 1 1000 0x401 0x501 [2] (some 11) dark &&
    slot 11 2 10000 0x200 0x201 [0x49, 0x4A] none (fun x => bankGood x.bankB && hdrIn x.bankB == 1 && hdrOut x.bankB == 2) &&
    p.ds.any fun d => d.1 == 1 && d.2.1 && d.2.2.2.1 == 4 && d.2.2.2.2 == 1

/-- The loop program is consistent; an eligible device needs the steward section (17 R692). -/
def State.programGood (s : State) (p : LoopProg) : Bool :=
  p.good && (if p.steward.isEmpty then !s.stewElig else s.stewardGood p)

/-- Checks of the two images that firmware verifies, with the reason of the first that fails (04 R142, R158). -/
def State.fwImages (s : State) (p : LoopProg) : Option (HeldReason × Nat × Bool) :=
  let lc := s.activeCopy 3
  let fc := s.activeCopy 4
  let ld := s.copyDetail .loop lc
  let fd := s.copyDetail .fil fc
  if ld ≠ 0 then some (.loopprog, ld, lc)
  else if ¬ s.programGood p then some (.loopprog, 10, lc)
  else if fd ≠ 0 then some (.filigree, fd, fc)
  else none

/-- A boot that ended in SAFE under R856: its images are loaded where they pass, and the fabric stays parked. -/
def State.completeInSafe (s : State) (p : LoopProg) : State :=
  let s1 := { s with boot := { s.boot with phase := .idle, recovery := false } }
  if (s1.fwImages p).isSome then s1
  else
    let s2 := ((s1.loadProgram p).loadSet.filPark).completeSettings
    if s2.vanOn then s2.engineRestart else s2

/-- The rails of the start state are on and the endpoint is ready where PERST# is released (04 R126). -/
def State.startReady (s : State) : Bool :=
  let need := if s.dev.target = .dormant then [0] else List.range 7
  s.supply.seq = .idle && s.supply.goal = .none && need.all s.railOn &&
    (s.dev.target = .dormant || s.supply.perst || s.supply.endpoint = .ready)

/-- BOOT_COMPLETE (04 R126, R132): firmware verifies and loads the loop program and the Filigree set, releases outputs and enters
the start state. -/
def State.evBootComplete (s : State) (p : LoopProg) : State :=
  if s.boot.phase ≠ .firmware ∨ ¬ s.fwRuns then s
  else if s.dev.episode.isSome then (if s.dev.state = .safe ∧ s.supply.seq = .idle then s.completeInSafe p else s)
  else if ¬ s.startReady then s
  else match s.fwImages p with
    | some (r, d, c) => s.enterHeld r d c false
    | none =>
      let s1 := ((s.loadProgram p).loadSet).completeSettings
      let s2 := { s1 with boot := s1.boot.reached }
      (s2.answerWaiting .recover .ok).startEnter

/-- BOOT_WATCHDOG (04 R133): 2 s after firmware started. -/
def State.evBootWatchdog (s : State) : State :=
  if s.boot.watchdog ∧ s.boot.phase = .firmware ∧ s.dev.episode.isNone then
    let r := if (s.boot.dir.entry 0).trial then HeldReason.trial else HeldReason.bootTimeout
    let s1 := { s with update := { s.update with restarting := false } }
    s1.enterHeld r 0 s1.boot.fwSlot false
  else s

/-! ### Assay restarts and live update (08 R346, 05 R223-R227) -/

/-- The stages of 0xA002, as places of its list (log entry 26): begun, resumed, rolled back, committed. -/
def State.logUpdate (s : State) (stage : Nat) (slot : Bool) : State :=
  s.log 0xA002 (param [(1, Config.codeOf 12 stage), (1, b2n slot)])

/-- The roll-back into the LAST_GOOD slot begins: ENT_FW names it, and is no longer on trial (05 R225). -/
def State.rollBack (s : State) (trialS : Nat) : State :=
  let e := s.boot.dir.entry 0
  let s1 := s.dirWrite fun d => d.updEnt 0 fun x => { x with active := x.lastGood, trial := false }
  { s1 with update := { s1.update with
      handover := some { slot := s.boot.fwSlot, old := e.lastGood, trialS := trialS, rollback := true, began := s.now,
                         quiesceAt := some (s.update.handover.elim s.now fun h => h.quiesceAt.getD s.now) }, trial := false } }

/-- Quiesce of a live hand-over (05 Table 05-15): ENT_FW names the target on trial, requests of classes A and B in flight are completed, and
the window opens. -/
def State.quiesce (s : State) : State :=
  match s.update.handover with
  | some h =>
    if h.quiesceAt.isSome then s
    else
      let s1 := s.dirWrite fun d => d.updEnt 0 fun x => { x with active := h.slot, trial := true }
      let s2 := s1.answerWaiting .scorer .ok 0 fun _ => leBytes 4 0
      let s3 := (s2.logUpdate 0 h.slot)
      { s3 with
        damem := { s3.damem with inflight := s3.damem.inflight.map fun f => if f.wait = .handover then { f with committed := true } else f }
        update := { s3.update with handover := some { h with quiesceAt := some s.now } } }
  | none => s

/-- The quiesce comes at its bound, 260 ms after the acknowledge (05 Table 05-15; DEDUCED, log entry 31). -/
def State.quiesceDue (s : State) : State :=
  match s.update.handover with
  | some h => if h.quiesceAt.isNone ∧ 260 * 32768 ≤ (s.now - h.began) * 1000 then s.quiesce else s
  | none => s

/-- LIVE_HANDOVER_TIMEOUT (05 R225): the new firmware has not resumed within its window, which the quiesce has opened. -/
def State.evHandoverTimeout (s : State) : State :=
  match s.update.handover with
  | some h => if h.rollback then s else s.quiesce.rollBack h.trialS
  | none => s

/-- Firmware or a responder of the Boot ROM runs, so that the Assay core can fault. -/
def State.assayRuns (s : State) : Bool :=
  s.supply.vdeck && !s.supply.porst && s.boot.phase != .strapWait && s.boot.phase != .boardTest

/-- ASSAY_DOUBLE_FAULT (08 R346, R347, R368, 05 R226): the Assay core restarts alone; during a hand-over or a trial the roll-back
takes its place; before the quiesce of a hand-over the old firmware restarts and the hand-over has not happened. `ramOk` says whether the
firmware image in SRAM still matches the digest recorded of it. The record names the cause and is written when firmware resumes. -/
def State.evDoubleFault (s : State) (cause : Nat) (ramOk : Bool) : State :=
  if ¬ s.assayRuns then s
  else
    let s1 := match s.update.handover with
      | some h =>
        if h.rollback then s
        else if h.quiesceAt.isNone then { s with update := { s.update with handover := none } }
        else s.rollBack h.trialS
      | none => if s.update.trial then s.rollBack s.update.trialS else s
    let s2 := { s1 with update := { s1.update with restarting := true, restartAt := s.now, reload := s1.update.reload || !ramOk } }
    s2.log 0xA001 (param [(1, Config.codeOf 14 cause)])

/-- The journal when firmware resumes: responses that are due are sent, and after a restart what had not reached its commit point
is answered ABORTED (05 R227). -/
def State.journalEnds (s : State) (restart : Bool) : State :=
  s.damem.inflight.foldl (fun (s : State) f => match f.owed with
    | some r => s.sendResp f r
    | none => if restart ∧ ¬ f.committed then s.answer f .aborted else s) s

/-- A firmware image is in SRAM, with its version, its compatibility level and its digest recorded (08 R346, 21 Table 21-4). -/
def State.fwLoaded (s : State) (slot : Bool) : State :=
  let i := s.imageAt .firmware slot
  { s with boot := { s.boot with fwSlot := slot, fwVer := i.fwVer, compat := i.compat, fwDigest := i.read 0x80 48 } }

/-- Firmware of a slot runs (05 R223, 04 R183): stage 1 has measured the Touchstone (02 R69), and the row configuration is read where its
image passes, the row fallback cap of a device under it included. -/
def State.fwResume (s : State) (slot : Bool) : State :=
  let rc := s.activeCopy 2
  let s2 := (s.fwLoaded slot).touchAgain
  if s2.copyDetail .row rc = 0 then
    let s3 := (s2.applyRow (s2.imageAt .row rc).body).applyThresholds
    if s3.thm.capSrc = 1 then (s3.setCap s3.fallbackCap 1).warmBandCap else s3
  else s2

/-- The window ends: mailboxes answer again, the journal ends, and what firmware derives is recorded (05 R223, R227, 19 R768). -/
def State.windowEnds (s : State) (trial : Bool) (trialS : Nat) : State :=
  let s1 := { s with update := { handover := none, trial := trial, trialS := trialS } }
  ((if s.update.restarting then s1.planishRestart else s1).journalEnds s.update.restarting).flushDeferred

/-- RESTART_COMPLETE (05 R223, R225, R227): the restart, the hand-over or the roll-back ends. A firmware image that does not match its digest
is reloaded from the active slot (08 R346). A hand-over that resumes has quiesced before. -/
def State.evRestartComplete (s0 : State) : State :=
  let s := s0.quiesce
  match s.update.handover with
  | some h =>
    if h.rollback then
      let s1 := ((s.fwResume h.old).windowEnds false 0).logUpdate 2 h.old
      s1.answerWaiting .handover .aborted
    else if s.copyDetail .stage1 h.slot ≠ 0 ∨ s.copyDetail .firmware h.slot ≠ 0 then s.rollBack h.trialS
    else
      let s1 := ((s.fwResume h.slot).windowEnds true h.trialS).logUpdate 1 h.slot
      s1.answerWaiting .handover .ok
  | none =>
    if s.update.restarting then
      (if s.update.reload then s.fwLoaded s.boot.fwSlot else s).windowEnds s.update.trial s.update.trialS
    else s

/-- A trial is committed (05 R226). -/
def State.commitTrial (s : State) : State :=
  let s1 := s.dirWrite fun d => d.updEnt 0 fun x => { x with lastGood := x.active, lgValid := true, trial := false }
  ({ s1 with update := { s1.update with trial := false, trialS := 0 } }).logUpdate 3 s.boot.fwSlot

/-- TRIAL_TIMEOUT (05 R226): TRIAL_S seconds after resume. -/
def State.evTrialTimeout (s : State) : State :=
  if s.update.trial ∧ s.update.trialS ≠ 0 ∧ s.fwRuns then s.commitTrial else s

end Sys2Proof.Machine
end

