-- ==== Sys2Proof/Machine/RegFx.lean ====
section
/-! DEFINITION. What the registers of the device read as (chapter 21 and the register tables of the other chapters). -/
namespace Sys2Proof.Machine

/-- A word from its fields, as (lowest bit, value). -/
def wordOf (fs : List (Nat × Nat)) : Nat := (fs.foldl (fun a f => a + f.2 * 2 ^ f.1) 0) % 2 ^ 32
/-- A signed field of `n` bits. -/
def sbits (n : Nat) (x : Int) : Nat := unsgn n x
/-- The low and high word of a 64-bit map. -/
def half (hi : Bool) (x : Nat) : Nat := if hi then x / 2 ^ 32 % 2 ^ 32 else x % 2 ^ 32

/-! ### Front registers and the HMK_, PWR_, CLK_ blocks -/

/-- PWR_STATE (03 Table 03-4). -/
def State.pwrStateWord (s : State) : Nat :=
  wordOf [(24, s.dev.safeCause), (16, s.dev.wakeSrc), (12, b2n s.rampMode), (11, b2n s.dev.warmBand), (10, b2n s.dev.trans),
    (4, s.dev.target.code), (0, s.dev.state.code)]
/-- PWR_CMP_STAT (03 R108). -/
def State.cmpStatWord (s : State) : Nat :=
  wordOf [(8, maskOf ((List.range 8).filter fun n => (s.cmpAt n).trip)), (0, maskOf ((List.range 8).filter fun n => (s.cmpAt n).level))]
/-- HMK_BOOT_STAT (04 Table 04-14). -/
def State.bootStatWord (s : State) : Nat :=
  let b := s.boot
  wordOf [(31, b2n b.coldNeeded), (24, b.stage), (16, b.reason), (8, b.detail), (7, b2n b.copy), (6, b2n b.fwSlot), (5, b2n b.cmpEnv)]

/-- Front registers (21 Table 21-4). The stepping is fixed by the part and not stated (log entry 7). -/
def State.frontWord (s : State) (off : Nat) : Nat :=
  match off with
  | 0x000 => wordOf [(16, 0x1664), (8, Config.freeOf 38 [] % 256), (0, s.otp.orderCode)]
  | 0x004 => half false s.otp.devId
  | 0x008 => half true s.otp.devId
  | 0x010 => s.pwrStateWord
  | 0x014 => s.cmpStatWord
  | 0x018 => s.boot.fwVer
  | 0x01C => wordOf [(16, b2n s.boot.fwSlot), (0, s.boot.compat)]
  | _ => 0

/-- The HMK_ block (04 Table 04-8). -/
def State.hmkWord (s : State) (off : Nat) : Nat :=
  let h := s.hmk
  match off with
  | 0x000 => b2n h.sealed
  | 0x004 => s.bootStatWord
  | 0x008 => h.envId.toNat
  | 0x010 => h.limits.toNat
  | 0x014 => h.tags.toNat
  | 0x018 => h.cool.toNat
  | 0x01C => h.laser.toNat
  | 0x020 => h.role.toNat
  | _ =>
    if 0x030 ≤ off ∧ off < 0x03C then (Table.at h.filpin ((off - 0x030) / 4) 0).toNat
    else if 0x100 ≤ off ∧ off < 0x180 then
      (if off % 8 = 0 then Table.at h.ceil0 ((off - 0x100) / 8) 0 else Table.at h.ceil1 ((off - 0x100) / 8) 0).toNat
    else 0

/-- AGE_MS of PWR_CAP (13 Table 13-8). -/
def State.capAge (s : State) : Nat := s.thm.capAt.elim 0xFFFF fun t => min 0xFFFF (msOfTicks (s.now - t))

/-- The PWR_ block (21 Table 21-6, 13 Table 13-8). -/
def State.pwrWord (s : State) (off : Nat) : Nat :=
  if off < 0x020 then (s.cmpAt (off / 4)).cfg.toNat
  else match off with
    | 0x040 => wordOf [(21, s.thm.capW), (16, s.thm.capSrc), (0, s.capAge)]
    | 0x044 => wordOf [(16, s.thm.pkgW), (0, s.thm.coreW)]
    | 0x048 => wordOf [(24, s.thm.mCap), (16, s.thm.duty), (0, s.thm.rampAllow)]
    | _ => 0

/-- The CLK_ block (21 Table 21-7). -/
def State.clkWord (s : State) (off : Nat) : Nat :=
  let c := s.clocks
  match off with
  | 0x000 => wordOf [(31, b2n c.xtalOk), (30, b2n c.extClk), (29, b2n c.refclkLock), (28, b2n c.sris), (27, b2n c.corrSet),
      (0, sbits 16 c.corr)]
  | 0x004 => c.alarmS
  | 0x008 => wordOf [(16, c.alarmF), (2, b2n c.alarmFired), (1, b2n c.alarmWake), (0, b2n c.alarmArm)]
  | _ => 0

/-! ### The other administrator blocks -/

/-- MLD_STATn.STATE (07 Table 07-6). -/
def MState.code : MState → Nat
  | .free => 0 | .stopped => 1 | .running => 2 | .selfTest => 3 | .retired => 4

/-- The MLD_ block (07 Table 07-6). -/
def State.mldWord (s : State) (off : Nat) : Nat :=
  let m := off / 8
  let x := s.mouldAt m
  if 0x080 ≤ off then 0
  else if off % 8 = 0 then wordOf [(25, s.residentCount m), (16, x.throttle), (8, x.part.getD 0xFF), (0, x.state.code)]
  else wordOf [(8, x.mult), (0, x.multMax)]

/-- The die of a sensor's group has its supply (13 Table 13-2, 21 Table 21-11). -/
def State.diePowered (s : State) (g : Nat) : Bool :=
  match g with
  | 0 | 1 => s.railOn 2
  | 2 => s.railOn 4
  | 4 => s.railOn 3
  | _ => true

/-- THM_SENSn (13 Table 13-3). -/
def State.sensWord (s : State) (n : Nat) : Nat :=
  let x := s.sensAt n
  let bad := x.invalid || !s.diePowered (groupOf n)
  wordOf [(16, sbits 16 x.temp), (4, b2n bad), (2, b2n (s.sensIn n 2)), (1, b2n (s.sensIn n 1)), (0, b2n (s.sensIn n 0))]

/-- The THM_ block (13 Tables 13-3, 13-5, 13-9). -/
def State.thmWord (s : State) (off : Nat) : Nat :=
  if off < 0x230 then s.sensWord (off / 4)
  else if 0x300 ≤ off ∧ off < 0x314 then (Table.at s.thm.thr ((off - 0x300) / 4) 0).toNat
  else if off = 0x320 then wordOf [(31, b2n (s.thm.warn != 0)), (0, s.thm.warn.toNat)]
  else 0

/-- Batches in the optical queues. -/
def State.queuedBatches (s : State) : Nat := (s.wmk.queue.toList.map List.length).sum

/-- The WMK_ block (10 Table 10-9). -/
def State.wmkWord (s : State) (off : Nat) : Nat :=
  let w := s.wmk
  match off with
  | 0x000 => wordOf [(31, b2n w.en), (0, s.row.degradeMin)]
  | 0x004 => wordOf [(26, w.calCh.getD 0), (25, b2n w.calCh.isSome), (17, min 255 s.queuedBatches), (10, s.insvcCount), (0, w.state.code)]
  | 0x008 => half false w.insvc.toNat
  | 0x00C => half true w.insvc.toNat
  | 0x010 => w.optCnt
  | 0x014 => w.digCnt
  | 0x018 => w.offCnt
  | _ => 0

/-- Strands in a state, as a map. -/
def State.strandMap (s : State) (st : SState) : Nat := maskOf ((List.range 64).filter fun k => (s.strandAt k).state == st)
/-- Lanes in service minus 1 of strand `k`. -/
def State.lanesMinus (s : State) (k : Nat) : Nat := popCount 4 (s.strandAt k).lanes.toNat - 1

/-- The CHL_ block (11 Table 11-8, 20 Table 20-3). -/
def State.chlWord (s : State) (off : Nat) : Nat :=
  let x := s.mesh
  let k := (off - 0x100) / 16
  let t := s.strandAt k
  match off with
  | 0x000 => wordOf [(16, s.boot.compat), (8, s.row.rowSize.log2), (0, s.row.position)]
  | 0x008 => half false (s.strandMap .up)
  | 0x00C => half true (s.strandMap .up)
  | 0x010 => half false (s.strandMap .miswired)
  | 0x014 => half true (s.strandMap .miswired)
  | 0x018 => half false x.detour.toNat
  | 0x01C => half true x.detour.toNat
  | 0x030 => x.resent
  | 0x034 => x.nopath
  | 0x038 => x.dropped
  | 0x040 => wordOf [(31, b2n x.promHeld), (0, x.promCauses.toNat)]
  | 0x044 => wordOf [(16, x.breaches)]
  | 0x048 => half false x.nopathMap.toNat
  | 0x04C => half true x.nopathMap.toNat
  | _ =>
    if 0x020 ≤ off ∧ off < 0x030 then
      wordOf ((List.range 16).map fun i => (2 * i, s.lanesMinus (16 * ((off - 0x020) / 4) + i)))
    else if 0x100 ≤ off ∧ off < 0x500 then
      (match off % 16 with
       | 0 => wordOf [(26, t.peerPos), (20, t.peerStrand), (16, t.lanes.toNat), (15, b2n t.en), (12, t.misw), (4, t.lastDown), (0, t.state.code)]
       | 4 => wordOf [(16, t.downs), (0, t.laneDrops)]
       | 8 => t.replays
       | _ => 0)
    else 0

/-- Summed set power of an array that is lit, 0.1 mW (12 Table 12-5). -/
def Laser.power (x : Laser) : Nat := if x.lit then x.setPower * (16 - popCount 16 x.failed.toNat) else 0
/-- PHC_SPARE (12 Table 12-5). -/
def State.spareMap (s : State) : List Nat := s.pho.spare.toList.map fun o => o.getD 0xFF

/-- PHC_ZONE.SETPOINT: slot 0's set-point in 0.01 degrees C (12 R517, Table 12-5). -/
def State.zoneSet (s : State) : Int := if (s.slotAt 0).cfg.law = 0 then 0 else (lwRat (s.slotAt 0).setpoint * 100).floor
/-- The PHC_ block (12 Table 12-5). -/
def State.phcWord (s : State) (off : Nat) : Nat :=
  match off with
  | 0x000 => wordOf [(16, sbits 16 s.zoneSet), (0, sbits 16 s.zoneTemp)]
  | 0x004 => wordOf [(31, b2n s.pho.fixedFlow), (16, s.headroomMid), (0, s.headroomMin)]
  | 0x008 => leNat (s.spareMap.flatMap (leBytes 1))
  | _ =>
    if 0x100 ≤ off ∧ off < 0x1C0 then
      let x := s.laserAt ((off - 0x100) / 8)
      if off % 8 = 0 then wordOf [(29, x.state.code), (28, b2n (x.ageing != 0)), (12, x.failed.toNat), (0, x.power)]
      else sbits 16 x.submount
    else if 0x1000 ≤ off ∧ off < 0x1B00 then
      let r := s.ring704At ((off - 0x1000) / 4)
      wordOf [(29, r.state.code), (28, b2n r.rail), (12, r.code), (0, sbits 12 (clampInt (-2047) 2047 r.err))]
    else 0

/-- The AAR_ block (14 Table 14-7). -/
def State.aarWord (s : State) (off : Nat) : Nat :=
  let a := s.aar
  match off with
  | 0x000 => wordOf [(31, b2n a.vloopOk), (30, b2n a.stringOk), (29, b2n s.supply.touchFault), (28, b2n a.convCal),
      (8, maskOf ((List.range 8).filter fun n => (s.aoutAt n).complLost)), (0, maskOf ((List.range 8).filter fun n => s.aoutSafe n))]
  | 0x004 => wordOf [(31, b2n a.excEn), (30, b2n a.excCur), (0, a.elements.length)]
  | _ =>
    if 0x010 ≤ off ∧ off < 0x020 then
      let d := Table.at a.ds ((off - 0x010) / 4) {}
      wordOf [(31, b2n d.en), (30, b2n d.touch), (27, d.gain), (24, d.rate), (21, d.nscan)]
    else if 0x100 ≤ off ∧ off < 0x180 then
      (Table.at (Table.at a.ds ((off - 0x100) / 0x20) {}).sample (off % 0x20 / 4) 0).toNat
    else if 0x200 ≤ off ∧ off < 0x280 then
      (Table.at (Table.at a.sar ((off - 0x200) / 0x40) {}).sample (off % 0x40 / 4) 0).toNat
    else if 0x300 ≤ off ∧ off < 0x340 then
      let n := (off - 0x300) / 8
      let o := s.aoutAt n
      if off % 8 = 0 then wordOf [(30, o.span), (16, o.slot.getD 0xFF), (0, (o.hold.bind (·.2)).getD o.code)]
      else wordOf [(31, b2n (s.aoutSafe n)), (30, b2n o.hold.isSome), (29, b2n o.complLost), (28, b2n o.clamp), (0, o.sense)]
    else if 0x340 ≤ off ∧ off < 0x350 then
      let n := (off - 0x340) / 4
      wordOf [(31, b2n (Table.at a.trimUse n false)), (0, Table.at a.trim n 0x800)]
    else if 0x350 ≤ off ∧ off < 0x360 then
      let n := (off - 0x350) / 8
      let x := Table.at a.sine n {}
      if off % 8 = 0 then wordOf [(16, x.ampl), (15, b2n (s.sineOn n))] else x.inc
    else 0

/-- LPE_SLOTn_STAT (15 Table 15-9). -/
def Slot.statWord (x : Slot) : Nat :=
  wordOf [(31, b2n x.en), (30, b2n x.bank), (29, b2n x.swapPend), (25, x.action), (24, b2n x.sat), (23, b2n x.guardRej),
    (19, x.stale.toNat), (15, x.frozen.toNat), (11, x.impl.toNat), (7, x.alt.toNat), (6, b2n x.arith)]

/-- The LPE_ block (15 Table 15-9). -/
def State.lpeWord (s : State) (off : Nat) : Nat :=
  let x := s.slotAt ((off - 0x100) / 16)
  if off = 0 then s.lpe.maxCycles
  else if off < 0x100 ∨ 0x500 ≤ off then 0
  else match off % 16 with
    | 0 => wordOf [(31, b2n x.en), (30, b2n x.bank), (28, hdrLaw x.active), (0, x.cfg.period)]
    | 4 => x.cfg.start
    | 8 => x.cfg.outPhase
    | _ => x.statWord

/-- The PLN_ block (16 Table 16-9). -/
def State.plnWord (s : State) (off : Nat) : Nat :=
  match off with
  | 0x000 => wordOf [(31, b2n s.pln.firstPass), (30, b2n s.aar.convCal), (29, b2n s.supply.touchFault),
      (16, maskOf ((List.range 5).filter s.domBusy)), (0, (s.pln.items.filter (·.failed)).length)]
  | 0x004 => (s.pln.items.filter (·.overdue)).length
  | _ =>
    if 0x010 ≤ off ∧ off < 0x024 then
      match Table.at s.pln.dom ((off - 0x010) / 4) none with
      | some p => wordOf [(31, 1), (28, p.phase), (16, p.qty % 256), (0, p.index)]
      | none => 0
    else 0

/-- One rope of CDU_LEAK (17 Table 17-11). -/
def Rope.byte (x : Rope) : Nat := 8 * x.stage + 4 * b2n x.isolated + x.cond

/-- The CDU_ block (17 Table 17-11). -/
def State.cduWord (s : State) (off : Nat) : Nat :=
  let w := s.stew
  match off with
  | 0x000 => wordOf [(16, w.epoch), (8, orFF w.primary), (0, orFF w.standby)]
  | 0x004 => wordOf [(30, w.role.code), (29, b2n s.selfCand), (28, b2n w.en0), (27, b2n w.en1), (26, b2n w.beat), (0, w.cause.toNat)]
  | 0x008 => wordOf [(16, w.avail / 10), (0, w.sent / 10)]
  | 0x00C => wordOf ((List.range 4).map fun n => (8 * n, (s.ropeAt n).byte))
  | _ =>
    if 0x020 ≤ off ∧ off < 0x030 then
      let t := s.trkAt ((off - 0x020) / 8)
      if off % 8 = 0 then wordOf [(31, b2n t.sync), (30, b2n t.timebase), (16, t.missed), (8, t.noise), (0, t.extrap)] else t.speed
    else 0

/-- The FIL_ block (18 Table 18-10). -/
def State.filWord (s : State) (off : Nat) : Nat :=
  let f := s.fil
  match off with
  | 0x000 => wordOf [(16, maskOf ((List.range 16).filter fun n => (s.sectorAt n).state == .running)), (8, f.busy.getD 0),
      (7, b2n f.busy.isSome), (0, f.release)]
  | 0x300 => half false s.pinsDriven
  | 0x304 => half true s.pinsDriven
  | _ =>
    if 0x100 ≤ off ∧ off < 0x180 then
      let x := s.sectorAt ((off - 0x100) / 8)
      if off % 8 = 0 then wordOf [(29, x.state.code), (28, b2n x.flashErr), (16, x.capOvf), (0, x.lostEdges)]
      else x.image.elim 0 (·.carryId)
    else if 0x200 ≤ off ∧ off < 0x220 then
      let p := Table.at f.port ((off - 0x200) / 4) {}
      if p.mode = 0 then wordOf [(16, p.gapErr), (8, p.crcErr), (0, p.underrun)]
      else wordOf [(28, p.mode), (24, p.sector), (16, p.gapErr), (8, p.crcErr), (0, p.underrun)]
    else 0

/-- The CAL_ block (19 Table 19-3). -/
def State.calWord (s : State) (off : Nat) : Nat :=
  match off with
  | 0x000 => wordOf [(31, b2n s.clocks.timeValid), (30, b2n s.clocks.discHeld), (29, b2n s.clocks.freeHeld), (28, b2n s.cal.sector.isSome),
      (0, s.cal.pqueue.length)]
  | 0x004 => s.cal.next
  | 0x008 => s.cal.oldest
  | 0x00C => s.stamp.2.1
  | 0x010 => wordOf [(16, s.stamp.2.2)]
  | _ => 0

/-- The device whose registers the blocks that HELD does not serve read from: its reset values, with 0 in fields of firmware and
of the images (21 Table 21-11). -/
def State.shown (s : State) : State :=
  if s.dev.state = .held then { row := { rowSize := 1 } } else s

/-- An administrator block by its number, base 0x0100_0000 + 0x1_0000 each (21 Tables 21-5, 21-11). -/
def State.adminWord (s : State) (block off : Nat) : Nat :=
  match block with
  | 0 => s.hmkWord off
  | 1 => s.pwrWord off
  | 2 => s.clkWord off
  | 3 => s.shown.mldWord off
  | 4 => s.thmWord off
  | 5 => s.shown.wmkWord off
  | 6 => s.shown.chlWord off
  | 7 => s.shown.phcWord off
  | 8 => s.aarWord off
  | 9 => s.shown.lpeWord off
  | 10 => s.shown.plnWord off
  | 11 => s.shown.cduWord off
  | 12 => s.shown.filWord off
  | 13 => s.calWord off
  | _ => 0

/-! ### Mailbox pages (05 Tables 05-2 to 05-4, 05-14) -/

/-- MBX_STAT (05 Table 05-3). -/
def State.mbxStat (s : State) (m : Nat) : Nat :=
  let pg := s.pageAt m
  wordOf [(8, maskOf ((List.range 8).filter fun n => Table.at pg.respValid n false)), (4, b2n (pg.pi != pg.ci)), (3, b2n s.fwAbsent),
    (2, b2n !s.boot.complete), (1, b2n pg.reqBusy), (0, b2n pg.ack)]
/-- MBX_INFO (05 Table 05-3). -/
def State.mbxInfo (s : State) (m : Nat) : Nat := wordOf [(24, 1), (8, s.boot.compat), (0, m)]

/-- The 32 bytes of a notice (05 Table 05-14). -/
def Notice.bytes (n : Notice) : List Byte :=
  leBytes 1 n.nclass ++ [0] ++ leBytes 2 n.code ++ leBytes 4 n.nseq ++ leBytes 4 n.timeS ++ leBytes 2 n.timeF ++
    leBytes 2 (b2n n.timeInvalid + 2 * b2n n.raise) ++ bytesAt n.param 0 16

/-- The header and payload of a response (05 Table 05-4). -/
def Resp.bytes (r : Resp) : List Byte :=
  leBytes 2 r.opcode ++ leBytes 1 r.tag ++ leBytes 1 (b2n r.bulkOut.isSome) ++ leBytes 2 r.payload.length ++ leBytes 2 r.status.code ++
    leBytes 4 r.seq ++ leBytes 2 r.hint ++ leBytes 2 r.detail ++ r.payload

/-- A word of a mailbox page (05 Table 05-2). -/
def State.pageWord (s : State) (m off : Nat) : Nat :=
  let pg := s.pageAt m
  match off with
  | 0x004 => s.mbxStat m
  | 0x008 => wordOf [(16, pg.ackHint), (8, pg.ackStatus), (0, pg.ackTag)]
  | 0x00C => wordOf [(31, b2n pg.ackIe), (30, b2n pg.respIe), (29, b2n pg.noticeIe), (0, pg.vec)]
  | 0x010 => pg.mask.toNat
  | 0x014 => pg.pi
  | 0x018 => pg.ci
  | 0x01C => pg.lost
  | 0x020 => s.mbxInfo m
  | _ =>
    if 0x100 ≤ off ∧ off < 0x500 then fld pg.window (off - 0x100) 4
    else if 0x500 ≤ off ∧ off < 0x600 then
      ((Table.at pg.ring ((off - 0x500) / 32) none).map fun n => fld n.bytes (off % 32) 4).getD 0
    else if 0x800 ≤ off ∧ off < 0x1000 then
      ((Table.at pg.slots ((off - 0x800) / 256) none).map fun r => fld r.bytes (off % 256) 4).getD 0
    else 0

/-! ### Doorbell pages and status blocks (06 Tables 06-6, 06-7, 06-14) -/

/-- RNG_STAT (06 Table 06-7). -/
def Ring.statWord (x : Ring) : Nat :=
  wordOf [(6, b2n x.overdue), (5, b2n x.dmaErr), (4, b2n x.creditOut), (3, b2n x.spilling), (2, b2n x.intake), (1, b2n x.disabled),
    (0, b2n x.setup)]

/-- A word of a doorbell page (06 Table 06-6). -/
def State.doorbellWord (s : State) (r off : Nat) : Nat :=
  let x := s.ringAt r
  match off with
  | 0x000 => x.subPi
  | 0x004 => x.cplCi
  | 0x008 => x.spillCi
  | 0x010 => x.subCi
  | 0x014 => x.cplPi
  | 0x018 => x.spillPi
  | 0x01C => x.statWord
  | 0x020 => x.overflow.length
  | 0x024 => x.discard
  | 0x028 => x.badDb
  | _ => 0

/-- A word of a status block (06 Table 06-14, 21 R819). -/
def State.statusWord (s : State) (p off : Nat) : Nat :=
  let x := s.partAt p
  let live := x.state != .none
  match off with
  | 0x00 => wordOf [(16, x.epoch), (8, if live then b2n x.faulted else 0), (4, if live then x.cause else 0), (0, x.state.code)]
  | 0x04 => if live then x.late else 0
  | 0x08 => if live then maskOf x.moulds else 0
  | _ => 0

/-! ### Reads by function (21 R805-R808, R818, Table 21-10) -/

/-- What a word of BAR0 of PF0 reads as, latches aside (21 Table 21-3). -/
def State.pf0Word (s : State) (off : Nat) : Nat :=
  if off < 0x1000 then s.frontWord off
  else if 0x100000 ≤ off ∧ off < 0x111000 then
    let m := (off - 0x100000) / 0x1000
    if m = 16 then s.pageWord 16 (off % 0x1000)
    else if off % 0x1000 = 4 then s.mbxStat m else if off % 0x1000 = 0x20 then s.mbxInfo m else 0
  else if 0x200000 ≤ off ∧ off < 0x240000 then s.doorbellWord ((off - 0x200000) / 0x1000) (off % 0x1000)
  else if 0x400000 ≤ off ∧ off < 0x401000 then s.statusWord ((off - 0x400000) / 0x100) (off % 0x100)
  else if 0x1000000 ≤ off ∧ off < 0x10E0000 then s.adminWord ((off - 0x1000000) / 0x10000) (off % 0x10000)
  else 0

/-- What a word of BAR0 of VF `v` reads as (06 R249, 21 R819, Table 21-11). -/
def State.vfWord (s : State) (v off : Nat) : Nat :=
  let held := decide (s.dev.state = .held)
  if ¬ s.vfUp v then 0
  else if 0x100000 ≤ off ∧ off < 0x101000 then s.pageWord (v - 1) (off % 0x1000)
  else if 0x200000 ≤ off ∧ off < 0x240000 then
    let r := (off - 0x200000) / 0x1000
    if held ∨ s.ringOwner r ≠ some (v - 1) then 0 else s.doorbellWord r (off % 0x1000)
  else if 0x400000 ≤ off ∧ off < 0x400100 then (if held then 0 else s.statusWord (v - 1) (off % 0x100))
  else 0

/-- What a word of BAR0 of a function reads as, latches aside. -/
def State.bar0Word (s : State) (fn off : Nat) : Nat := if fn = 0 then s.pf0Word off else s.vfWord fn off

/-- Registers of PF0 whose read latches another word: (the register, the word that it latches) (21 R807, 19 Table 19-3). -/
def latchPairs : List (Nat × Nat) :=
  [(0x4, 0x8), (0x1050008, 0x105000C), (0x1060008, 0x106000C), (0x1060010, 0x1060014), (0x1060018, 0x106001C), (0x1060048, 0x106004C),
   (0x10C0300, 0x10C0304), (0x10D000C, 0x10D0010)]

/-! ### BAR4: the MSI-X tables (21 R803, Table 21-2) -/

/-- Entries of a function's MSI-X table (06 R248). -/
def msixSize (fn : Nat) : Nat := if fn = 0 then 128 else 120
/-- A word of BAR4 of a function: its MSI-X table; the PBA reads 0, for a vector is sent at once (log entry 135), and so does the rest. -/
def State.bar4Word (s : State) (fn off : Nat) : Nat :=
  ((s.sriov.msix.find? fun x => x.1 == fn && x.2.1 == off / 4).map (·.2.2)).getD 0
/-- A write to BAR4; only the words of the table take it. -/
def State.bar4Write (s : State) (fn off v : Nat) : State :=
  let l := s.sriov.msix.filter fun x => !(x.1 == fn && x.2.1 == off / 4)
  if off % 4 = 0 ∧ off < 16 * msixSize fn then
    { s with sriov := { s.sriov with msix := if v = 0 then l else (fn, off / 4, v) :: l } } else s
/-- The MSI-X table of a function is cleared (21 Table 21-9). -/
def State.bar4Clear (s : State) (fn : Nat) : State :=
  { s with sriov := { s.sriov with msix := s.sriov.msix.filter fun x => x.1 != fn } }

/-- A read of BAR4. -/
def State.evBar4Read (s : State) (fn offset : Nat) : State :=
  if s.supply.endpoint ≠ .ready ∨ (fn ≠ 0 ∧ ¬ s.vfUp fn) then s
  else s.emit (.readBar4 fn (offset / 4 * 4) (s.bar4Word fn (offset / 4 * 4)))

/-- REG_LO_READ (21 R806, R807): a read of a register returns its word, or the word latched for the function; a read of a _LO
register, or of CAL_TIME_S, latches the word that goes with it. -/
def State.evRegRead (s : State) (fn offset : Nat) : State :=
  let off := offset / 4 * 4
  if s.supply.endpoint ≠ .ready ∨ (fn ≠ 0 ∧ ¬ s.vfUp fn) then s
  else
    let t := s.takeLatch fn off (s.bar0Word fn off)
    let hi := if fn = 0 then (latchPairs.find? fun x => x.1 == off).map (·.2) else none
    let s1 := match hi with
      | some h => t.2.putLatch fn h (s.bar0Word fn h)
      | none => t.2
    s1.emit (.readData fn off t.1)

end Sys2Proof.Machine
end

