-- ==== Sys2Proof/Machine/DamemFx.lean ====
section
/-! DEFINITION. A Damem request from its POST to the checks of 05 Table 05-6: the acknowledge, the path, the payload, and the locks
that it needs (05 R195-R202, R205, R216, R230). What the opcodes then do stands in the files that import this one. -/
namespace Sys2Proof.Machine

/-! ### A request's payload (05 Table 05-4, R198) -/

/-- FLAGS.DATA: a bulk descriptor goes first. -/
def Req.data (r : Req) : Bool := bitOf r.flags 0
/-- The payload that LEN says. -/
def Req.pay (r : Req) : List Byte := bytesAt r.payload 0 (min r.len 1008)
/-- The opcode's own payload. -/
def Req.body (r : Req) : List Byte := if r.data then r.pay.drop 16 else r.pay
/-- A field of it. -/
def Req.f (r : Req) (off n : Nat) : Nat := fld r.body off n
/-- The payload offset of a field of the opcode's own payload, which DETAIL names. -/
def Req.at' (r : Req) (off : Nat) : Nat := if r.data then off + 16 else off
/-- DATA_LEN. -/
def Req.dataLen (r : Req) : Nat := fld r.pay 8 4
/-- The partition whose mailbox posted the request, none on mailbox 16 and over MCTP. -/
def Req.partition (r : Req) : Option Nat := match r.path with
  | .mbx m => if m.val = 16 then none else some m.val
  | .mctp => none

/-! ### The acknowledge (05 R197, R200 steps 1-4) -/

/-- A recovery boot runs (04 R165). -/
def State.recovering (s : State) : Bool :=
  !s.boot.complete && s.boot.recovery && (decide (s.boot.phase = BootPhase.firmware) || decide (s.supply.goal = .heldEntry))
/-- HELD, or SAFE entered from HELD (03 R101), with no boot running: only the recovery set is served (04 R162, R165). -/
def State.heldMode (s : State) : Bool :=
  (decide (s.dev.state = .held) || s.dev.episode.elim false (·.fromHeld)) && !s.recovering && decide (s.supply.goal ≠ .heldEntry)

/-- Step 1: the header (05 R200, R230). -/
def State.headOk (s : State) (r : Req) : Bool :=
  let free := match r.path with
    | .mbx m => !Table.at (s.pageAt m).outstanding r.tag false
    | .mctp => !(s.damem.inflight.any fun f => f.req.path == .mctp && !f.pldm && f.req.tag == r.tag) && !r.data
  r.version == 1 && r.len ≤ 1008 && r.len % 4 == 0 && r.flags / 2 % 128 == 0 && r.rsv07 == 0 && r.rsv0C == 0 && r.tag < 8 && free

/-- A retry hint of 1 to `n` ms, which the firmware chooses: the time left to boot complete as it bounds it (04 R168, log entry 7). -/
def State.hint (s : State) (n : Nat) : Nat × State :=
  let x := s.free 40
  (1 + x.1 % n, x.2)

/-- The milliseconds left to resume, the HINT of FW_RESTARTING: to the end of the hand-over's window, of its roll-back, or of a restart
(05 R223, R225, 08 R346). -/
def State.resumeHint (s : State) : Nat :=
  let limit (t ms : Nat) : Nat := s.msLeft ({ s with clocks := { s.clocks with uptime := t } }.inMs ms)
  match s.update.handover with
  | some h => h.quiesceAt.elim (limit s.update.restartAt 150) fun t => limit t (if h.rollback then 500 else 250)
  | none => limit s.update.restartAt 150

/-- Steps 1 to 4: STATUS and HINT (05 R200, 04 R168, 05 R223). -/
def State.ackStatus (s : State) (opcode : Nat) (r : Req) : Status × Nat × State :=
  if ¬ s.headOk r then (.badArg, 0, s)
  else if ¬ (s.boot.complete ∨ s.heldMode ∨ (opcode = 0x0901 ∧ r.partition = none ∧ s.recovering)) then
    let h := s.hint 100
    (.busyBooting, h.1, h.2)
  else if s.fwAbsent then
    (.fwRestarting, s.resumeHint, s)
  else if r.partition.isSome ∧ s.heldMode then (.held, 0, s)
  else (.ok, 0, s)

/-- The acknowledge: MBX_ACK, ACK and the vector; an accepted request takes its tag (05 R197, R200). -/
def State.acknowledge (s : State) (m tag : Nat) (st : Status) (hint : Nat) : State :=
  let s1 := s.updPage m fun pg =>
    { pg with ack := true, ackStatus := st.code, ackHint := hint, ackTag := tag % 8
              outstanding := if st = .ok then Table.put pg.outstanding tag true else pg.outstanding }
  let pg := s1.pageAt m
  if pg.ackIe then s1.raiseMsix (mbxFn m) pg.vec else s1

/-- The header and payload as the window holds them (05 Table 05-2). -/
def Req.windowBytes (r : Req) (opcode : Nat) : List Byte :=
  leBytes 2 opcode ++ leBytes 1 r.tag ++ leBytes 1 r.flags ++ leBytes 2 r.len ++ leBytes 1 r.version ++ leBytes 1 r.rsv07 ++
    leBytes 4 r.seq ++ leBytes 4 r.rsv0C ++ bytesAt r.payload 0 1008

/-! ### Steps 5 to 7 -/

/-- The opcodes: code, accepted on a partition's mailbox, on mailbox 16, over MCTP, LEN of the request, takes bulk data
(05 Tables 05-8 to 05-13). -/
def opcodes : List (Nat × Bool × Bool × Bool × Nat × Bool) :=
  [(0x0001, true, true, true, 0, false), (0x0002, true, true, true, 0, false),
   (0x0101, false, true, true, 4, false), (0x0102, true, true, true, 0, false), (0x0103, false, true, true, 0, false),
   (0x0104, false, true, false, 208, false), (0x0105, false, true, true, 12, false)] ++
  [(0x0201, false, true, false, 16, false), (0x0202, false, true, false, 16, false), (0x0203, false, true, false, 4, false),
   (0x0204, true, true, false, 4, false), (0x0205, true, true, false, 4, false), (0x0206, true, true, false, 4, false),
   (0x0207, true, true, true, 4, false), (0x0208, true, true, false, 4, true), (0x0209, true, true, false, 40, false),
   (0x020A, true, true, false, 4, false)] ++
  [(0x0301, true, true, true, 0, false), (0x0302, true, true, true, 0, false), (0x0303, false, true, true, 0, false),
   (0x0304, false, true, true, 4, false), (0x0401, false, true, false, 4, false), (0x0402, false, true, false, 4, false),
   (0x0403, true, true, true, 0, false), (0x0404, false, true, true, 0, false), (0x0501, false, true, true, 4, false),
   (0x0502, false, true, true, 4, false), (0x0601, false, true, false, 8, false), (0x0602, false, true, true, 4, false),
   (0x0701, false, true, false, 4, true)] ++
  [(0x0801, true, true, true, 8, true), (0x0802, false, true, true, 8, false), (0x0901, false, true, true, 0, false),
   (0x0902, false, true, true, 8, true), (0x0903, false, true, true, 8, false), (0x0904, false, true, true, 8, true),
   (0x0905, false, true, true, 4, false), (0x0906, false, true, true, 4, false), (0x0907, false, true, true, 48, false),
   (0x0908, false, true, true, 4, false), (0x0909, false, true, true, 4, false), (0x090A, false, true, true, 0, false)]

/-- The row of an opcode. -/
def opcodeRow (c : Nat) : Option (Nat × Bool × Bool × Bool × Nat × Bool) := opcodes.find? fun e => e.1 == c
/-- The recovery set (05 R215). -/
def recoverySet (c : Nat) : Bool := 0x0901 ≤ c && c ≤ 0x0908
/-- Opcodes whose payload begins with PART (05 Table 05-9). -/
def namesPart (c : Nat) : Bool := 0x0201 ≤ c && c ≤ 0x020A
/-- RING_SETUP and RING_TEARDOWN. -/
def namesRing (c : Nat) : Bool := c == 0x0209 || c == 0x020A

/-- Step 7: the path may use the opcode, and owns what it names; a field that the payload does not reach names nothing
(05 R205, R212). -/
def State.owns (s : State) (c : Nat) (r : Req) : Bool :=
  let onPath := (opcodeRow c).elim false fun e => match r.path with
    | .mbx m => if m.val = 16 then e.2.2.1 else e.2.1
    | .mctp => e.2.2.2.1
  let part := r.f 0 1
  let partOk := !(namesPart c && r.body.length != 0) || r.partition.elim true (· == part)
  let ringOk := !(namesRing c && 2 ≤ r.body.length) || decide (16 ≤ part) || (s.partAt part).state == .none ||
    (s.partAt part).rings.contains (r.f 1 1)
  onPath && partOk && ringOk

/-! ### Step 8 (05 R205, R198 and the tables of the opcodes) -/

/-- LEN as the opcode lists it (05 R205). -/
def Req.lenOk (r : Req) (c want : Nat) : Bool :=
  let extra := if c = 0x0904 ∧ ¬ r.data then (r.f 4 4 + 3) / 4 * 4 else if c = 0x0601 then 4 * r.f 4 2 else 0
  r.body.length == want + extra

/-- Reserved bytes of a payload, as (offset, length) (05 R205). -/
def reservedOf (c : Nat) : List (Nat × Nat) :=
  if [0x0101, 0x0203, 0x0204, 0x0206, 0x0207, 0x0208, 0x0401, 0x0602, 0x0908].contains c then [(1, 3)]
  else if [0x020A, 0x0402, 0x0701, 0x0905].contains c then [(2, 2)]
  else match c with
    | 0x0104 => [(9, 7)]
    | 0x0201 | 0x0202 => [(0x0B, 1), (0x0E, 2)]
    | 0x0209 => [(6, 2), (0x21, 3)]
    | 0x0601 | 0x0801 => [(6, 2)]
    | 0x0802 => [(5, 3)]
    | 0x0903 => [(5, 1)]
    | 0x0906 => [(3, 1)]
    | _ => []

/-- The first byte of a reserved range that is not 0. -/
def firstNonzero (b : List Byte) (x : Nat × Nat) : Option Nat :=
  ((List.range x.2).map (· + x.1)).find? fun i => fld b i 1 != 0

/-- The flash ranges that no request may erase or write: both directory copies, and the persistent region (05 R216, 04 Table 04-3). -/
def flashClosed (a : Nat) : Bool := a < 0x20000 || (0x3E00000 ≤ a && a < 0x4000000)
/-- Does a range touch a closed one? -/
def touchesClosed (a n : Nat) : Bool := n != 0 && (a < 0x20000 || (a < 0x4000000 && 0x3E00000 < a + n))

/-- The range check of FLASH_ERASE and FLASH_WRITE: the field at fault, ADDR or `cnt` (05 R216). -/
def State.flashRangeBad (s : State) (a n cnt : Nat) : Option Nat :=
  if s.flash.size ≤ a ∨ flashClosed a then some 0
  else if s.flash.size < a + n ∨ touchesClosed a n then some cnt else none

/-- Values of LOOP_COEF that break the word kind of their index, the first of them (15 R618, R630). -/
def State.coefBad (s : State) (r : Req) : Option Nat :=
  let x := s.slotAt (r.f 0 1)
  let idx := r.f 2 2
  let vals := (List.range (r.f 4 2)).map fun i => BitVec.ofNat 32 (r.f (8 + 4 * i) 4)
  let bank := if r.f 1 1 = 0 then x.inactive else x.active
  let law := hdrLaw (writeBank bank idx vals)
  (List.range vals.length).find? fun i => !wordGood law (idx + i) ((vals[i]?).getD 0)

/-- Fields out of their range, as (offset, is it at fault), in the order of the payload (05 Tables 05-8 to 05-13, 06 R257). -/
def State.rangeFaults (s : State) (c : Nat) (r : Req) : List (Nat × Bool) :=
  let f := r.f
  match c with
  | 0x0101 => [(0, !([1, 2, 3, 6].contains (f 0 1)))]
  | 0x0105 => [(0, f 0 4 < 757382400), (4, 999999999 < f 4 4), (8, 1000000 < f 8 4)]
  | 0x0201 | 0x0202 =>
    [(0, 15 < f 0 1), (1, f 1 1 == 0 || 16 < f 1 1), (2, 48 < f 2 1), (3, 96 < f 3 1), (4, f 4 1 == 0 || 16 < f 4 1), (5, 32 < f 5 1),
     (6, 64 < f 6 1), (7, 64 < f 7 1), (0x0A, 3 < f 0x0A 1 || f 0x0A 1 == 2), (0x0C, 10000 < f 0x0C 2)]
  | 0x0203 | 0x0204 | 0x0206 | 0x0207 | 0x0208 => [(0, 15 < f 0 1)]
  | 0x0205 => [(0, 15 < f 0 1), (1, 1 < f 1 1), (2, 10000 < f 2 2)]
  | 0x0209 =>
    let sp := f 3 1 == 1
    [(0, 15 < f 0 1), (1, 63 < f 1 1), (2, f 2 1 < 6 || 16 < f 2 1), (3, 1 < f 3 1), (4, 119 < f 4 2 && f 4 2 != 0xFFFF), (8, f 8 8 % 4096 != 0),
     (0x10, f 0x10 8 % 4096 != 0), (0x18, f 0x18 8 % 4096 != 0 || (!sp && f 0x18 8 != 0)),
     (0x20, if sp then f 0x20 1 < 6 || 20 < f 0x20 1 else f 0x20 1 != 0), (0x24, 10000000 < f 0x24 4 || (!sp && f 0x24 4 == 0))]
  | 0x020A => [(0, 15 < f 0 1), (1, 63 < f 1 1)]
  | 0x0401 => [(0, 1 < f 0 1)]
  | 0x0402 => [(0, 63 < f 0 1), (1, 1 < f 1 1)]
  | 0x0501 | 0x0502 => [(0, planishCount (f 0 2) == 0), (2, planishCount (f 0 2) ≤ f 2 2)]
  | 0x0601 =>
    let own : List (Nat × Bool) := [(0, 63 < f 0 1), (1, 2 < f 1 1), (2, 255 < f 2 2 || (f 1 1 == 1 && f 2 2 != 0) || (f 1 1 == 2 && f 2 2 == 0 && f 4 2 != 0)),
     (4, 248 < f 4 2 || (f 1 1 == 1 && f 4 2 != 0)), (0xFFFF, 256 < f 2 2 + f 4 2)]
    match s.coefBad r with
    | some i => own ++ [(8 + 4 * i, true)]
    | none => own
  | 0x0602 => [(0, 63 < f 0 1)]
  | 0x0801 => [(4, f 4 2 == 0 || (if r.data then 16384 else 7) < f 4 2)]
  | 0x0802 => [(4, 1 < f 4 1)]
  | 0x0902 =>
    let most := if r.path == .mctp then 1008 else 224
    [(0, s.flash.size ≤ f 0 4), (4, s.flash.size < f 0 4 + f 4 4 || (!r.data && most < f 4 4))]
  | 0x0903 =>
    let size := if f 4 1 = 1 then 0x10000 else 0x1000
    let bad := s.flashRangeBad (f 0 4) (size * f 6 2) 6
    [(0, f 0 4 % size != 0 || bad == some 0), (4, 1 < f 4 1), (6, f 6 2 == 0 || 1024 < f 6 2 || bad == some 6)]
  | 0x0904 =>
    let bad := s.flashRangeBad (f 0 4) (f 4 4) 4
    [(0, bad == some 0), (4, (!r.data && 1000 < f 4 4) || bad == some 4)]
  | 0x0905 => [(0, 4 < f 0 1), (1, 1 < f 1 1)]
  | 0x0906 => [(0, 4 < f 0 1), (1, 1 < f 1 1), (2, (if f 0 1 = 0 then 1 else 0) < f 2 1)]
  | 0x0908 => [(0, 1 < f 0 1)]
  | 0x0909 => [(0, 1 < f 0 1), (1, 1 < f 1 1), (2, 3600 < f 2 2)]
  | _ => []

/-- Bytes that the bulk buffer must hold. -/
def Req.bulkNeed (r : Req) (c : Nat) : Nat :=
  match c with
  | 0x0801 => 32 * r.f 4 2
  | 0x0902 | 0x0904 => r.f 4 4
  | _ => 0

/-- The fault of a bulk descriptor, its DETAIL (05 R198). -/
def Req.descBad (r : Req) (c : Nat) (takes : Bool) : Option Nat :=
  if ¬ r.data then (if c = 0x0208 then some 0xFFFF else none)
  else if ¬ takes ∨ r.pay.length < 16 then some 0xFFFF
  else if r.dataLen < 4 ∨ 16777216 < r.dataLen ∨ r.dataLen % 4 ≠ 0 ∨ r.dataLen < r.bulkNeed c then some 8
  else if fld r.pay 12 4 ≠ 0 then some 12
  else none

/-- The least offset of a list. -/
def leastOf (l : List Nat) : Option Nat := l.min?

/-- Step 8: DETAIL of a malformed payload: LEN and the descriptor first, then the first field at fault, then a buffer that the device
cannot reach (05 R198, R205). FIL_SECTOR's own order follows with its image (18 R736). -/
def State.badArg (s : State) (c : Nat) (r : Req) : Option Nat :=
  match opcodeRow c with
  | none => none
  | some e =>
    match r.descBad c e.2.2.2.2.2 with
    | some d => some d
    | none =>
      if ¬ r.lenOk c e.2.2.2.2.1 then some 0xFFFF
      else
        let faults := ((s.rangeFaults c r).filter (·.2)).map (·.1) ++ (reservedOf c).filterMap (firstNonzero r.body)
        match leastOf faults with
        | some o => some (if o = 0xFFFF then o else r.at' o)
        | none => if r.data ∧ ¬ r.bulkOk then some 0 else none

/-! ### Step 9: the envelope (05 R209, R213, 04 R148, R155) -/

/-- The first field of a PART_CREATE or PART_RESIZE that exceeds the envelope. -/
def State.partDenied (s : State) (r : Req) : Option Nat :=
  let p := r.f 0 1
  let c0 := (Table.at s.hmk.ceil0 p 0).toNat
  let c1 := (Table.at s.hmk.ceil1 p 0).toNat
  let tag := r.f 8 2
  let tags := s.hmk.tags.toNat
  let l : List (Nat × Bool) :=
    [(0, s.maxPart < p + 1), (1, bitsOf c0 31 27 < r.f 1 1), (2, bitsOf c0 26 21 < r.f 2 1), (3, bitsOf c0 20 14 < r.f 3 1),
     (4, bitsOf c0 13 9 < r.f 4 1), (5, bitsOf c0 8 3 < r.f 5 1), (6, bitsOf c1 31 25 < r.f 6 1), (7, bitsOf c1 24 18 < r.f 7 1),
     (8, tag != 0 && (tag < tags % 65536 || tags / 65536 < tag))]
  (l.find? (·.2)).map (·.1)

/-! ### Step 10: locks (05 R201, R202, R206, R216, R222) -/

/-- The resources that a request locks. -/
def locksOf (c : Nat) (r : Req) : List Lock :=
  if [0x0902, 0x0903, 0x0904, 0x0905, 0x0906, 0x0907].contains c then [.flash]
  else match c with
    | 0x0101 => [.devState]
    | 0x0201 | 0x0202 => [.part (r.f 0 1), .grants]
    | 0x0203 | 0x0204 | 0x0205 | 0x0206 | 0x0208 => [.part (r.f 0 1)]
    | 0x0209 | 0x020A => [.ring (r.f 1 1)]
    | 0x0303 | 0x0304 => [.steward]
    | 0x0401 => [.scorer]
    | 0x0402 => [.strand (r.f 0 1)]
    | 0x0501 => [.planish]
    | 0x0601 => [.slot (r.f 0 1)]
    | 0x0701 => [.sector (r.f 0 1)]
    | 0x0802 => if r.f 4 1 = 1 then [.calender, .flash] else [.calender]
    | 0x0908 | 0x0909 => [.devState, .flash]
    | _ => []

/-- The flash opcodes (05 R216). -/
def flashOpcode (c : Nat) (r : Req) : Bool := (locksOf c r).contains .flash

/-- Two requests need one resource. -/
def InFlight.shares (f g : InFlight) : Bool := f.locks.any fun l => g.locks.contains l

/-- A PART_STOP with ABORT, or a PART_RESET, escalates a DRAIN of its partition and never waits for it (05 R202). -/
def InFlight.escalates (f : InFlight) : Bool := f.opcode == 0x0206 || (f.opcode == 0x0205 && f.req.f 1 1 == 1)

/-- The earlier requests that a request waits for or is answered BUSY for. A request for SAFE overrides every lock (05 R202). -/
def State.blockers (s : State) (f : InFlight) : List InFlight :=
  let earlier := (s.damem.inflight.takeWhile (· != f)).filter fun g => g.shares f
  if f.opcode = 0x0101 ∧ f.req.f 0 1 = 6 then []
  else if f.escalates then
    earlier.filter fun g => g.wait != .queued && !(g.wait == .partStop (f.req.f 0 1) && (s.partAt (f.req.f 0 1)).state == .draining)
  else earlier

/-! ### Completion bounds (05 R203, R206, R211, R214, R216-R218) -/

/-- A maximum time that the flash's SFDP table declares, in ms: 0 the erase of 4 KiB, 1 of 64 KiB, 2 the programming of a page (log entry
7). -/
def flashMaxMs (which : Nat) : Nat := Config.freeOf 52 [which]

/-- The bound of a transition that a request may ask for, in ms (03 Table 03-3, 05 R206). -/
def transitionMs : DevState → DevState → Nat
  | .dormant, .standby | .safe, .standby => 250
  | .standby, .anneal => 150
  | _, _ => 50

/-- The state that TARGET names. -/
def stateOfTarget (x : Nat) : DevState := if x = 1 then .dormant else if x = 2 then .standby else if x = 3 then .anneal else .safe

/-- The timeout of a Planish step, in ms (16 Table 16-4). -/
def State.stepMs (s : State) (qty idx : Nat) : Nat :=
  match qty with
  | 0x0002 => 200
  | 0x0010 => (s.sourcePeriod (0x100 + 8 * idx) 0 + 999) / 1000 + 10
  | 0x0012 | 0x0030 => 5
  | 0x0013 => ((s.aoutAt idx).slot.elim 0 fun k => (s.slotAt k).cfg.period) / 10 + 1
  | 0x0014 | 0x0031 => 100
  | 0x0020 => 2000
  | 0x0032 => 20
  | 0x0050 => 1
  | _ => 2

/-- The bound from SERVING or ANNEAL to a started partition, in ms (03 Table 03-3). -/
def State.startMs (s : State) : Nat := if s.rampMode then 35 else 5

/-- The DRAIN deadline of a PART_STOP, in ms: its own, the partition's default, or 50 (05 Tables 05-9, 05-10). -/
def State.drainMs (s : State) (r : Req) : Nat :=
  let d := (s.partAt (r.f 0 1)).drainMs
  if r.f 2 2 ≠ 0 then r.f 2 2 else if d ≠ 0 then d else 50

/-- The completion bound of a request, in ms: its class of 05 Table 05-7, or, in class D, the bound stated with the opcode. The ABORT bound
is 1 ms and the memory clear bound 2 ms (06 Table 06-1). -/
def State.boundMs (s : State) (c : Nat) (r : Req) : Nat :=
  if [0x0104, 0x0201, 0x0203, 0x0209, 0x020A, 0x0401, 0x0601, 0x0906, 0x0907, 0x090A].contains c then 10
  else if [0x0202, 0x0208, 0x0303, 0x0402, 0x0701, 0x0902, 0x0905, 0x0909].contains c then 1000
  else match c with
    | 0x0101 => let t := stateOfTarget (r.f 0 1); transitionMs s.dev.state t + (if t = .safe then 0 else 1)
    | 0x0204 =>
      (if (s.dev.state = .anneal ∨ s.dev.state = .serving) ∧ ¬ s.dev.trans then 0 else transitionMs .standby .anneal) + s.startMs + 1
    | 0x0205 => if r.f 1 1 = 1 then 2 else s.drainMs r + 2
    | 0x0206 => 4
    | 0x0501 => s.stepMs (r.f 0 2) (r.f 2 2) + 10
    | 0x0801 => if r.data then 1000 else 1
    | 0x0802 => if r.f 4 1 = 1 then 32 * flashMaxMs 1 + 10 else 10
    | 0x0903 => r.f 6 2 * flashMaxMs (r.f 4 1) + 10
    | 0x0904 => (r.f 4 4 + 255) / 256 * flashMaxMs 2 + 10
    | 0x0908 => 3000
    | _ => 1

/-- HINT of a BUSY answer: the remaining bound of the request that holds the resource, within 1 to 1,000 ms (05 R201). -/
def State.busyHint (s : State) (g : InFlight) : Nat := max 1 (min 1000 (s.msLeft g.due))

/-- The opcodes of class D whose bound nothing but time ends; a flash operation and a Planish step have ends of their own
(FLASH_OPERATION_DONE, PLANISH_TIMEOUT). -/
def timedOpcode (c : Nat) : Bool := [0x0101, 0x0204, 0x0205, 0x0206, 0x0908].contains c

/-- Requests of class D that have passed their bound complete TIMEOUT; what they began goes on (05 R204). -/
def State.boundsPassed (s : State) : State :=
  s.damem.inflight.foldl (fun (s : State) f =>
    if timedOpcode f.opcode ∧ f.wait ≠ .queued ∧ f.wait ≠ .owed ∧ f.due < s.now then s.answer f .timeout else s) s

/-- A request waits for something, past its commit point (05 R227). -/
def State.hold (s : State) (f : InFlight) (w : Wait) : State := s.updReq f fun x => { x with wait := w, committed := true }

/-- A request waits for something, before its commit point (05 R227). -/
def State.holdEarly (s : State) (f : InFlight) (w : Wait) : State := s.updReq f fun x => { x with wait := w }

/-- A query or an action that ends at once. -/
def State.done' (s : State) (f : InFlight) (payload : List Byte := []) (bulk : Option (List Byte) := none) : State :=
  s.answer f .ok 0 payload bulk

end Sys2Proof.Machine
end

