-- ==== Sys2Proof/Machine/PartFx.lean ====
section
/-! DEFINITION. The partition and ring opcodes: what 0x0201-0x020A do (05 Tables 05-9 to 05-11, R209-R212, 06 R243-R291). -/
namespace Sys2Proof.Machine

/-! ### Grants (06 R243, R244, R253, R254, 09 R375) -/

/-- MOULD_MASK to HBM_MASK of Table 05-11, with the reserved bytes. -/
def Part.grants (p : Part) : List Byte :=
  leBytes 2 (maskOf p.moulds) ++ leBytes 2 0 ++ leBytes 4 (maskOf p.tallies) ++ leBytes 8 (maskOf p.rings) ++
    leBytes 8 (maskOf p.slices) ++ leBytes 12 (maskOf p.granules)

/-- Units of one kind that no partition holds, rising. -/
def State.unowned (s : State) (n : Nat) (held : Part → List Nat) : List Nat :=
  (List.range n).filter fun i => s.part.toList.all fun p => !(held p).contains i
/-- Healthy Moulds that no partition holds. -/
def State.freeMoulds (s : State) : List Nat := (List.range 16).filter fun m => (s.mouldAt m).state == .free
/-- Moulds of a partition that are out for their self-test (06 R281). -/
def State.mouldsOut (s : State) (p : Nat) : Nat := ((List.range 16).filter fun m => (s.mouldAt m).removedFrom == some p).length

/-- The counts that a partition holds, in the order of Table 05-10 from MOULDS to WMK. -/
def State.counts (s : State) (p : Nat) : List Nat :=
  let x := s.partAt p
  [x.moulds.length + s.mouldsOut p, x.slices.length, x.granules.length, x.rings.length, x.tallies.length, x.chl, x.wmk]
/-- What is free, in the same order; shares are free up to 64 in all (06 R244). -/
def State.frees (s : State) : List Nat :=
  let sum (f : Part → Nat) : Nat := (s.part.toList.map f).foldl (· + ·) 0
  [s.freeMoulds.length, (s.unowned 48 (·.slices)).length, (s.unowned 96 (·.granules)).length, (s.unowned 64 (·.rings)).length,
   (s.unowned 32 (·.tallies)).length, 64 - sum (·.chl), 64 - sum (·.wmk)]
/-- The counts that a request asks for. -/
def Req.wants (r : Req) : List Nat := (List.range 7).map fun i => r.f (i + 1) 1

/-- The first field of which the device has too little left, or that shrinks where it may not: its offset. -/
def State.grantLack (s : State) (r : Req) (growOnly : Bool) : Option Nat :=
  let have_ := s.counts (r.f 0 1)
  let rows := (r.wants.zip (have_.zip s.frees)).zipIdx
  ((rows.find? fun x => growOnly && x.1.1 < x.1.2.1).or (rows.find? fun x => x.1.2.1 + x.1.2.2 < x.1.1)).map fun x => x.2 + 1

/-- The configuration fields of Table 05-10 (05 R209; PART_RESIZE takes them too, log entry 30). -/
def Part.configure (x : Part) (r : Req) : Part :=
  { x with chl := r.f 6 1, wmk := r.f 7 1, tag := r.f 8 2, optical := bitOf (r.f 0x0A 1) 0, fallback := bitOf (r.f 0x0A 1) 1,
           drainMs := r.f 0x0C 2 }

/-- Translation and tally registers at their reset values, no fault (21 Table 21-9, 09 R383, R399). -/
def Part.freshRegs (x : Part) : Part :=
  { x with xltEn := false, xltRoot := 0, invVa := 0, invQ := [], invDone := 0, xltBad := 0, barMiss := 0, invLost := 0, timeouts := 0,
           faulted := false, cause := 0 }

/-- Translations of a partition that Moulds cache, and the lines their load caches hold, are gone. -/
def State.dropCaches (s : State) (p : Nat) : State :=
  { s with mould := s.mould.map fun (x : Mould) =>
      { x with xlt := x.xlt.filter fun e => e.part != p, lcache := if x.part = some p then [] else x.lcache } }

/-- Grant units up to the counts asked for, the lowest free ones, after the units held (05 R209, 09 R375). -/
def State.grow (s : State) (p : Nat) (want : List Nat) : State :=
  let have_ := s.counts p
  let need (i : Nat) : Nat := (want[i]?).getD 0 - (have_[i]?).getD 0
  let sl := (s.unowned 48 (·.slices)).take (need 1)
  let gr := (s.unowned 96 (·.granules)).take (need 2)
  let ri := (s.unowned 64 (·.rings)).take (need 3)
  let ta := (s.unowned 32 (·.tallies)).take (need 4)
  let s1 := (s.freeMoulds.take (need 0)).foldl (fun (s : State) m => s.mouldJoin m p true) s
  (s1.updPart p fun x =>
    { x with slices := x.slices ++ sl, granules := x.granules ++ gr, rings := x.rings ++ ri, tallies := x.tallies ++ ta }).markUnits gr sl

/-- Tear a ring down: what its accepted sheets and its overflow still hold is discarded and counted, and OVERDUE falls with its
record and notice (06 R256, R265, R266). -/
def State.ringTear (s : State) (r : Nat) : State :=
  let s1 := (s.ringAt r).sheets.foldl (fun (s : State) h =>
    (s.updSheet r h.subIndex fun h => { h with stop := some .abort }).endSheet r h.subIndex)
    (s.updRing r fun x => { x with disabled := true })
  let s2 := s1.updRing r fun x => { discard := min (2 ^ 32 - 1) (x.discard + x.overflow.length) }
  if (s1.ringAt r).overdue then s2.log 0x2002 (param [(1, r)]) (s1.ringOwner r) false true else s2

/-- A Mould leaves its partition: it is free, and its clock stops (07 Table 07-6). -/
def State.mouldLeave (s : State) (p m : Nat) : State :=
  (s.updMould m fun x => { x with state := .free, part := none, mult := 0, scratch := [], xlt := [], lcache := [] }).updPart p fun x =>
    { x with moulds := x.moulds.filter (· != m) }

/-- Tally groups leave a partition: every watch on them is answered NOT_OWNER, and no value is left (09 R400, 06 R253). -/
def State.talliesLeave (s : State) (groups : List Nat) : State :=
  ((s.tally.watches.filter fun w => groups.contains (w.tally / 16)).foldl (fun s w => s.answerWatch w .notOwner 0) s).talliesReset groups

/-- Release units down to the counts asked for, most recently granted first (06 R254). Memory released is marked, a kernel image
in it is dropped (09 R376), a ring released is torn down and its page resets (21 R819), and of the Moulds those out for their
self-test count in their place: released, they do not come back. -/
def State.shrink (s : State) (p : Nat) (want : List Nat) : State :=
  let x := s.partAt p
  let w (i : Nat) : Nat := (want[i]?).getD 0
  let sl := x.slices.drop (w 1)
  let gr := x.granules.drop (w 2)
  let s1 := (x.rings.drop (w 3)).foldl (fun (s : State) r => (s.ringTear r).updRing r fun _ => {}) s
  let s2 := s1.talliesLeave (x.tallies.drop (w 4))
  let out := (List.range 16).filter fun m => (s2.mouldAt m).removedFrom == some p
  let s4 := ((s2.byGrant (x.moulds ++ out)).drop (w 0)).foldl (fun (s : State) m =>
    if out.contains m then s.updMould m fun y => { y with removedFrom := none } else s.mouldLeave p m) s2
  let s5 := (s4.updPart p fun x =>
    { x with slices := x.slices.take (w 1), granules := x.granules.take (w 2), rings := x.rings.take (w 3), tallies := x.tallies.take (w 4),
             image := x.image.filter fun i => !gr.contains i.granule }).markUnits gr sl
  if sl = [] ∧ gr = [] then s5 else s5.dropCaches p

/-- The partition is one that no state of Table 06-4 lets a request change. -/
def State.partBusy (s : State) (p : Nat) : Bool :=
  [PState.draining, .aborting, .resetting].contains (s.partAt p).state

/-- The opcodes that Table 06-4 marks PRECOND in the partition's present state: they are answered so before any lock is judged, since the
table lists apart what is queued or BUSY (DEDUCED, log entry 117). -/
def State.partRefuses (s : State) (c : Nat) (r : Req) : Bool :=
  let p := r.f 0 1
  let st := (s.partAt p).state
  match c with
  | 0x0201 => st != .none
  | 0x0202 => st == .none || s.partBusy p
  | 0x0203 | 0x0208 => st != .stopped
  | 0x0204 | 0x0205 | 0x0206 => st == .none
  | 0x0209 | 0x020A => st == .none || s.partBusy p
  | _ => false

/-- PART_CREATE (05 R209, 06 R243, R251). -/
def State.doPartCreate (s : State) (f : InFlight) : State :=
  let r := f.req
  let p := r.f 0 1
  if (s.partAt p).state ≠ .none then s.answer f .precond 0xFFFF
  else match s.grantLack r false with
    | some d => s.answer f .precond d
    | none =>
      let s1 := s.updPart p fun x => { (x.freshRegs.configure r) with late := 0, memLost := false, image := none, intakeOff := true }
      let s2 := s1.grow p r.wants
      let s3 := s2.talliesReset (s2.partAt p).tallies
      let s4 := s3.partTo p .stopped
      s4.done' f (s4.partAt p).grants

/-- PART_RESIZE (05 R210, 06 R251, R253, R254): growth in every state but a stop, a decrease only when stopped. -/
def State.doPartResize (s : State) (f : InFlight) : State :=
  let r := f.req
  let p := r.f 0 1
  let st := (s.partAt p).state
  if st = .none ∨ s.partBusy p then s.answer f .precond 0xFFFF
  else match s.grantLack r (st != .stopped) with
    | some d => s.answer f .precond d
    | none =>
      let s1 := (s.shrink p r.wants).grow p r.wants
      let s2 := (s1.updPart p fun x => x.configure r).ringsRefresh p
      s2.done' f (s2.partAt p).grants

/-- PART_DESTROY (05 R210, 06 R251, R253): every unit is released; EPOCH and the function's Bus Master Enable stay (21 R816). -/
def State.doPartDestroy (s : State) (f : InFlight) : State :=
  let p := f.req.f 0 1
  if (s.partAt p).state ≠ .stopped then s.answer f .precond 0xFFFF
  else
    let s1 := s.shrink p []
    let s2 := s1.updPart p fun x => { epoch := x.epoch, busMaster := x.busMaster, late := x.late }
    (s2.partTo p .none).done' f

/-- PART_START (05 R211, 06 R252, 03 R92). -/
def State.doPartStart (s : State) (f : InFlight) : State :=
  let p := f.req.f 0 1
  let x := s.partAt p
  if x.state = .none ∨ x.state = .aborting ∨ x.state = .resetting ∨ x.state = .draining then s.answer f .precond 0xFFFF
  else if x.state = .started ∨ x.state = .starting then s.done' f
  else if x.image.isNone ∨ x.faulted ∨ ¬ s.sriov.vfEnable ∨ s.sriov.numVfs < p + 1 ∨ s.dev.state = .safe ∨ s.dev.episode.isSome then
    s.answer f .precond 0xFFFF
  else
    let s1 := s.hold f (.partStart p)
    ((s1.partTo p .starting).updDev fun d => { d with startsWaiting := d.startsWaiting ++ [p] }).startsGo

/-- What a stop counts: DONE and ABORTED (05 Table 05-9). -/
def countBytes (done aborted : Nat) : List Byte := leBytes 4 done ++ leBytes 4 aborted

/-- ABORT for a request, which ends a DRAIN in progress: its counts are those of the sheets it ended (06 R274, 05 R202). A partition
that is Stopped already has nothing to abort: no ABORT takes place, and EPOCH does not count on (DESIGN CHOICE, log entry 122). -/
def State.abortFor (s : State) (p : Nat) (cause : StopCause) : Nat × State :=
  let n := ((s.partAt p).rings.map fun r => (s.ringAt r).sheets.length).foldl (· + ·) 0
  if (s.partAt p).live then
    let zero := if (s.partAt p).state = .draining then s else s.updPart p fun x => { x with done := 0, aborted := 0 }
    (n, (zero.abortPart p cause cause.detail).answerStop p .aborted)
  else (0, s)

/-- PART_STOP (05 R211, 06 R273, R274). DEADLINE_MS bounds the drain in time, and DRAIN_DEADLINE is its end. -/
def State.doPartStop (s : State) (f : InFlight) : State :=
  let p := f.req.f 0 1
  let x := s.partAt p
  if x.state = .none then s.answer f .precond 0xFFFF
  else if x.state = .stopped then s.done' f (countBytes 0 0)
  else if f.req.f 1 1 = 1 then
    let a := s.abortFor p .abort
    a.2.done' f (countBytes 0 a.1)
  else
    let s1 := (s.hold f (.partStop p)).updPart p fun x =>
      { x with intakeOff := true, done := 0, aborted := 0, stopCause := some .drainDeadline }
    (s1.partTo p .draining).drainCheck p

/-- PART_RESET (06 R256, 09 R383, R399, R400): back to the condition after PART_CREATE. -/
def State.doPartReset (s : State) (f : InFlight) : State :=
  let p := f.req.f 0 1
  let x := s.partAt p
  if x.state = .none then s.answer f .precond 0xFFFF
  else
    let a := s.abortFor p .reset
    let s1 := x.rings.foldl State.ringTear a.2
    let s2 := (s1.updPart p fun y => { y.freshRegs with image := none, memLost := false }).markUnits x.granules x.slices
    let s3 := (s2.talliesReset x.tallies).dropCaches p
    let s4 := x.moulds.foldl (fun (s : State) m => s.updMould m fun y => { y with scratch := [] }) s3
    (if x.live then s4 else s4.partTo p .stopped 3).done' f (countBytes 0 a.1)

/-- PART_QUERY (05 Table 05-9). -/
def State.doPartQuery (s : State) (f : InFlight) : State :=
  let p := f.req.f 0 1
  let x := s.partAt p
  if 16 ≤ p ∨ x.state = .none then s.answer f .precond 0xFFFF
  else s.done' f (leBytes 1 x.state.code ++ leBytes 1 (b2n x.optical + 2 * b2n x.fallback) ++ leBytes 2 x.tag ++ x.grants)

/-! ### Kernel images (06 R255, Table 06-5) -/

/-- Where CODE begins. -/
def codeAt (b : List Byte) : Nat := 0x40 + (4 * fld b 6 2 + 63) / 64 * 64

/-- What a kernel image has wrong: the offset of the first field at fault, 0xFFFF where it is the length of the whole. -/
def imageFault (b : List Byte) (n : Nat) : Option Nat :=
  let ents := fld b 6 2
  let heads : List (Nat × Bool) :=
    [(0, fld b 0 4 != 0x1664C0DE), (4, fld b 4 2 != 1), (6, ents == 0 || 4096 < ents), (8, fld b 8 4 % 64 != 0), (0x0C, fld b 0x0C 4 % 64 != 0)]
  match heads.find? (·.2) with
  | some x => some x.1
  | none =>
    if 2 ^ 24 < n ∨ n ≠ codeAt b + fld b 8 4 + fld b 0x0C 4 then some 0xFFFF
    else if fld b 0x10 4 ≠ crc32 (b.drop 0x40) then some 0x10
    else match (List.range 44).find? fun i => fld b (0x14 + i) 1 != 0 with
      | some i => some (0x14 + i)
      | none => ((List.range ents).find? fun i => fld b (0x40 + 4 * i) 4 % 8 != 0).map fun i => 0x40 + 4 * i

/-- PART_IMAGE (06 R255, R291): the image lies in the last 16 MiB of the highest-numbered granule. -/
def State.doPartImage (s : State) (f : InFlight) : State :=
  let p := f.req.f 0 1
  let x := s.partAt p
  let n := f.req.dataLen
  let b := bytesAt f.req.bulkIn 0 n
  match imageFault b n with
  | some d => s.answer f .badArg d
  | none => match x.granules.max? with
    | none => s.answer f .precond 0xFFFF
    | some g =>
      if x.state ≠ .stopped then s.answer f .precond 0xFFFF
      else
        let img : KImage := { granule := g, entries := (List.range (fld b 6 2)).map fun i => fld b (0x40 + 4 * i) 4,
                              code := bytesAt b (codeAt b) (fld b 8 4), total := n }
        let base := (g + 1) * granuleSize - 2 ^ 24
        let s1 := (s.markBlocks (base / 65536, 256)).memWrite base b
        ((s1.updPart p fun x => { x with image := some img }).dropCaches p).done' f

/-! ### Rings (06 R257, R258, R266) -/

/-- RING_SETUP: every field of the doorbell page resets and the ring is enabled. -/
def State.doRingSetup (s : State) (f : InFlight) : State :=
  let r := f.req
  let p := r.f 0 1
  let n := r.f 1 1
  if (s.partAt p).state = .none ∨ s.partBusy p ∨ (s.ringAt n).setup then s.answer f .precond 0xFFFF
  else
    let spill := bitOf (r.f 3 1) 0
    let s1 := s.updRing n fun _ =>
      { setup := true, log2 := r.f 2 1, spillEn := spill, spillLog2 := r.f 0x20 1, msix := r.f 4 2, subBase := r.f 8 8,
        cplBase := r.f 0x10 8, spillBase := r.f 0x18 8, drainBound := r.f 0x24 4 }
    (s1.ringRefresh n).done' f

/-- RING_TEARDOWN (06 R266). -/
def State.doRingTeardown (s : State) (f : InFlight) : State :=
  let p := f.req.f 0 1
  let n := f.req.f 1 1
  let x := s.ringAt n
  let st := (s.partAt p).state
  if st = .none ∨ s.partBusy p ∨ ¬ (st = .stopped ∨ x.disabled ∨ x.sheets = []) then s.answer f .precond 0xFFFF
  else (if x.setup then (s.ringTear n).ringRefresh n else s).done' f

end Sys2Proof.Machine
end

