-- ==== Sys2Proof/Machine/FlashFx.lean ====
section
/-! DEFINITION. The Calender, flash, update and recovery opcodes: what 0x0801-0x090A do (05 Table 05-13, R215-R226, 04 R164, R165,
Table 04-16). -/
namespace Sys2Proof.Machine

/-! ### Calender (05 R217, 19 R764, R765) -/

/-- The request that writes the directory, while it does: the flash opcodes from any path, its own too, are then answered BUSY (04 R138). -/
def State.dirWriter (s : State) : Option InFlight :=
  match s.damem.flashOp with
  | some (.dirSet _ _ _) | some (.provision _) => s.damem.inflight.find? fun f => f.wait == .flash
  | _ => none

/-- CAL_READ: records inline, or as bulk data out. -/
def State.doCalRead (s : State) (f : InFlight) : State :=
  let c := s.calRead f.req.partition (f.req.f 0 4) (f.req.f 4 2)
  let head := leBytes 4 c.1 ++ leBytes 4 c.2.1 ++ leBytes 2 c.2.2.length ++ List.replicate 6 0
  let body := c.2.2.flatMap Rec.bytes
  if f.req.data then s.done' f head (some body) else s.done' f (head ++ body)

/-- A flash operation starts; FLASH_OPERATION_DONE is its end. -/
def State.startFlash (s : State) (f : InFlight) (op : FlashOp) : State :=
  let s1 := s.hold f .flash
  { s1 with damem := { s1.damem with flashOp := some op } }

/-- CAL_CLEAR. -/
def State.doCalClear (s : State) (f : InFlight) : State :=
  if f.req.f 4 1 = 1 then s.startFlash f (.calFormat (f.req.f 0 4)) else (s.calClear (f.req.f 0 4)).done' f

/-! ### Queries of the recovery set (04 Table 04-16, 05 Table 05-13, R218) -/

/-- Slots valid in the high half, revoked in the low one. -/
def slotByte (valid : Vector (Option (List Byte)) 4) (revoked : Vector Bool 4) : Nat :=
  16 * maskOf ((List.range 4).filter fun i => (Table.at valid i none).isSome) + maskOf ((List.range 4).filter fun i => Table.at revoked i false)

/-- HOLD_QUERY. -/
def State.doHoldQuery (s : State) (f : InFlight) : State :=
  let o := s.otp
  let dir := match s.boot.dirInUse with
    | some _ => s.boot.dir.bytes
    | none => List.replicate 84 0
  s.done' f (leBytes 4 s.bootStatWord ++ dir ++ leBytes 1 (s.boot.dirInUse.elim 0xFF b2n) ++ leBytes 1 o.orderCode ++
    leBytes 1 (slotByte o.rootHash o.rootRevoke) ++ leBytes 1 (slotByte o.ownHash o.ownRevoke) ++ leBytes 8 o.devId ++ leBytes 1 o.fwSvn ++
    leBytes 1 o.ownSvn ++ leBytes 1 (b2n o.debugPerm) ++ [0])

/-- Bytes padded to a multiple of 4, as LEN needs. -/
def padTo4 (b : List Byte) : List Byte := b ++ List.replicate ((4 - b.length % 4) % 4) 0

/-- FLASH_READ; a flash that could not be used answers with values that are not known (log entry 7). -/
def State.doFlashRead (s : State) (f : InFlight) : State :=
  let a := f.req.f 0 4
  let n := f.req.f 4 4
  let b := if s.boot.flashUsable then s.flashRead a n else (List.range n).map fun i => s.spoiled (a + i)
  if f.req.data then s.done' f [] (some b) else s.done' f (padTo4 b)

/-- The 16 bytes that IMAGE_CHECK answers: header fields that the failing check left unread are 0 (05 R218). Check 1 reads MAGIC and
TYPE; every later one has the header. -/
def checkBytes (d which : Nat) (i : Image) : List Byte :=
  let u (x : Nat) : Nat := if d = 1 then 0 else x
  leBytes 1 d ++ [0] ++ leBytes 2 (u i.format) ++ leBytes 4 (u i.svn) ++ leBytes 4 (u i.digest32) ++ leBytes 1 which ++ List.replicate 3 0

/-- The checks of a copy without a boot: whether a loop program's body is consistent is a free value of it (05 R218, log entry 9). -/
def State.checkedDetail (s : State) (k : ImageKind) (c : Bool) : Nat :=
  let d := s.copyDetail k c
  if d = 0 ∧ k = .loop ∧ Config.freeOf 34 ((s.imageAt k c).body.map (·.toNat)) % 2 = 1 then 10 else d

/-- IMAGE_CHECK: ENTRY 0 checks stage 1 and then the firmware image. -/
def State.doImageCheck (s : State) (f : InFlight) : State :=
  let e := f.req.f 0 1
  let c := f.req.f 1 1 = 1
  let one := s.copyDetail .stage1 c
  if ¬ s.boot.flashUsable then
    let x := s.free 43
    x.2.done' f (leBytes 1 (1 + x.1 % 10) ++ List.replicate 15 0)
  else if e = 0 ∧ one ≠ 0 then s.done' f (checkBytes one 0 (s.imageAt .stage1 c))
  else s.done' f (checkBytes (s.checkedDetail (entryKind e) c) (b2n (e = 0)) (s.imageAt (entryKind e) c))

/-! ### Flash actions (05 R215, R216, 04 Table 04-16) -/

/-- Ranges overlap. -/
def overlap (a n b m : Nat) : Bool := n != 0 && m != 0 && a < b + m && b < a + n

/-- The range touches an active image copy or the active firmware slot (05 R215). -/
def State.touchesActive (s : State) (a n : Nat) : Bool :=
  overlap a n (0x1000000 + b2n (s.activeCopy 0) * 0x1000000) 0x1000000 ||
    (List.range 4).any fun i =>
      let p := imagePlace (entryKind (i + 1)) (s.activeCopy (i + 1))
      overlap a n p.1 p.2.1

/-- A recovery action begins: it is recorded (19 Table 19-5). -/
def State.logAction (s : State) (f : InFlight) : State := s.log 0xA003 (param [(2, f.opcode)])

/-- FLASH_ERASE. -/
def State.doFlashErase (s : State) (f : InFlight) : State :=
  let a := f.req.f 0 4
  let size := if f.req.f 4 1 = 1 then 0x10000 else 0x1000
  let n := f.req.f 6 2
  if ¬ s.heldMode ∧ s.touchesActive a (size * n) then s.answer f .precond 0
  else (s.logAction f).startFlash f (.erase a size n)

/-- The data of a FLASH_WRITE: COUNT bytes. -/
def Req.writeData (r : Req) : List Byte :=
  if r.data then bytesAt r.bulkIn 0 (r.f 4 4) else bytesAt (r.body.drop 8) 0 (r.f 4 4)

/-- FLASH_WRITE: every target byte must be erased. -/
def State.doFlashWrite (s : State) (f : InFlight) : State :=
  let a := f.req.f 0 4
  let d := f.req.writeData
  if ¬ s.heldMode ∧ s.touchesActive a d.length then s.answer f .precond 0
  else if ¬ (s.flashRead a d.length).all (· == 0xFF) then s.answer f .precond 0
  else (s.logAction f).startFlash f (.write a d)

/-- DIR_SET. -/
def State.doDirSet (s : State) (f : InFlight) : State :=
  (s.logAction f).startFlash f (.dirSet (f.req.f 0 1) (f.req.f 1 1 = 1) (f.req.f 2 1 = 1))

/-- PROVISION. -/
def State.doProvision (s : State) (f : InFlight) : State :=
  if s.otp.ownHash.any (·.isSome) then s.answer f .precond 0xFFFF
  else (s.logAction f).startFlash f (.provision (bytesAt f.req.body 0 48))

/-- The directory entry of the image that REASON names (04 Table 04-15), none where it names no image. -/
def reasonEntry (reason : Nat) : Option Nat :=
  if reason = 3 ∨ reason = 4 ∨ reason = 5 then some 0
  else if 6 ≤ reason ∧ reason ≤ 9 then some (reason - 5) else none

/-- RECOVER (04 R164, R165, 03 R101): outside HELD, while COLD_NEEDED is 1, and while a SAFE cause holds it is answered PRECOND. -/
def State.doRecover (s : State) (f : InFlight) : State :=
  let e := (reasonEntry s.boot.reason).filter fun i => s.boot.dirInUse.isSome && (s.boot.dir.entry i).lgValid
  if ¬ s.heldMode ∨ s.dev.trans ∨ s.boot.coldNeeded ∨ (s.dev.state = .safe ∧ s.causeHolds) then s.answer f .precond 0xFFFF
  else if f.req.f 0 1 = 0 then ((s.logAction f).hold f .recover).recoveryBoot
  else match e with
    | none => s.answer f .precond 0xFFFF
    | some i =>
      let s1 := ((s.logAction f).hold f .recover).dirWrite fun d => d.updEnt i fun x => { x with active := x.lastGood, trial := false }
      s1.recoveryBoot

/-- FLASH_OPERATION_DONE: the operation ended, or passed its bound. -/
def State.evFlashDone (s : State) (ok : Bool) : State :=
  if s.damem.flashOp.isNone then s
  else
    let good := ok && s.boot.flashUsable
    (s.flashEnds good).answerWaiting .flash (if good then .ok else .timeout)

/-! ### Live update (05 R222-R226) -/

/-- The first image of a slot that fails a check, as its DETAIL; 0 where both pass. -/
def State.slotDetail (s : State) (slot : Bool) : Nat :=
  let d := s.copyDetail .stage1 slot
  if d ≠ 0 then d else s.copyDetail .firmware slot

/-- FW_ACTIVATE. Its checks come before ENT_FW is written; a live hand-over then goes on to its quiesce, and until then the old firmware
serves (05 Table 05-15). -/
def State.doFwActivate (s : State) (f : InFlight) : State :=
  let slot := decide (f.req.f 0 1 = 1)
  let live := decide (f.req.f 1 1 = 0)
  let d := s.slotDetail slot
  let put (d : Directory) : Directory := d.updEnt 0 fun x => { x with active := slot, trial := true }
  if slot = s.boot.fwSlot then s.answer f .precond 0
  else if d ≠ 0 then (s.log 0xA005 (param [(1, 0), (1, d)])).answer f .precond 0
  else if live ∧ (s.imageAt .firmware slot).compat ≠ s.boot.compat then s.answer f .precond 0
  else if s.update.trial ∨ s.dev.trans then s.answer f .precond 0xFFFF
  else if ¬ live then (s.dirWrite put).done' f
  else
    let old := s.boot.fwSlot
    let s1 := s.updReq f fun x => { x with wait := .handover }
    let h : Handover := { slot := slot, old := old, trialS := f.req.f 2 2, rollback := false, began := s.now, quiesceAt := none }
    { s1 with update := { s1.update with handover := some h } }

/-- FW_COMMIT. -/
def State.doFwCommit (s : State) (f : InFlight) : State :=
  if s.update.trial then s.commitTrial.done' f else s.answer f .precond 0xFFFF

end Sys2Proof.Machine
end

