-- ==== Sys2Proof/Machine/CtlFx.lean ====
section
/-! DEFINITION. The general, thermal, optical, calibration, loop and fabric opcodes: what 0x0001-0x0105 and 0x0301-0x0701 do
(05 Tables 05-8 and 05-12, R206-R208, R213, R214). -/
namespace Sys2Proof.Machine

/-! ### General opcodes (05 Table 05-8) -/

/-- INFO. -/
def State.doInfo (s : State) (f : InFlight) : State :=
  let mbx := match f.req.path with
    | .mbx m => m.val
    | .mctp => 0xFF
  s.done' f (leBytes 8 s.otp.devId ++ leBytes 1 s.otp.orderCode ++ leBytes 1 s.row.position ++ leBytes 1 s.row.rowSize ++ leBytes 1 mbx ++
    leBytes 4 s.boot.fwVer ++ leBytes 2 s.boot.compat ++ [1] ++ leBytes 1 (b2n s.boot.fwSlot) ++ leBytes 4 s.hmk.envId.toNat)

/-- STATE_GET. -/
def State.doStateGet (s : State) (f : InFlight) : State := s.done' f (leBytes 4 s.pwrStateWord ++ leBytes 4 s.cmpStatWord)

/-- Offsets of HMK_SEAL to HMK_FILPIN2 in the order of 04 Table 04-8. -/
def hmkOrder : List Nat := [0x000, 0x004, 0x008, 0x010, 0x014, 0x018, 0x01C, 0x020, 0x030, 0x034, 0x038]

/-- HALLMARK_QUERY. -/
def State.doHallmark (s : State) (f : InFlight) : State :=
  let o := s.otp
  s.done' f ((hmkOrder.flatMap fun a => leBytes 4 (s.hmkWord a)) ++
    ((List.range 16).flatMap fun v => leBytes 4 (Table.at s.hmk.ceil0 v 0).toNat ++ leBytes 4 (Table.at s.hmk.ceil1 v 0).toNat) ++
    leBytes 8 o.devId ++ leBytes 1 o.orderCode ++ leBytes 1 (slotByte o.rootHash o.rootRevoke) ++ leBytes 1 (slotByte o.ownHash o.ownRevoke) ++
    leBytes 1 (b2n o.debugPerm) ++ leBytes 1 o.fwSvn ++ leBytes 1 o.ownSvn ++ [0, 0])

/-- What a debug token has wrong: the offset of the first field at fault (05 R207). -/
def State.tokenFault (s : State) (r : Req) : Option Nat :=
  let slot := r.f 8 1
  let key := bytesAt r.body 0x10 96
  if r.f 0 8 ≠ s.otp.devId then some 0
  else if 3 < slot then some 8
  else match Table.at s.otp.ownHash slot none with
    | none => some 8
    | some h =>
      if h ≠ Config.sha384 key then some 0x10
      else if Table.at s.otp.ownRevoke slot true then some 8
      else if ¬ Config.ecdsaVerifies key (bytesAt r.body 0 0x70) (bytesAt r.body 0x70 96) then some 0x70
      else none

/-- DEBUG_TOKEN (05 R207, 04 R150): malformed first, then its precondition. -/
def State.doDebugToken (s : State) (f : InFlight) : State :=
  match s.tokenFault f.req with
  | some d => s.answer f .badArg d
  | none =>
    if fieldOf s.hmk.role 29 28 = 1 ∧ ¬ s.otp.debugPerm then ({ s with boot := { s.boot with debugToken := true } }).done' f
    else s.answer f .precond 0xFFFF

/-- TIME_SET (05 R208): the mailbox hardware stamps the POST, which in the model is the instant of the command. -/
def State.doTimeSet (s : State) (f : InFlight) : State :=
  let since := s.clocks.lastSet.map fun t => (s.now - t) * 1000
  let wait := match since with
    | some t => 100 * 32768 - t
    | none => 0
  if 0 < wait then s.answer f .busy 0 [] none ((wait + 32767) / 32768)
  else ((s.timeAccept (f.req.f 0 4 * 1000000000 + f.req.f 4 4) (f.req.f 8 4)).alarmDue).done' f

/-! ### State requests (05 R206, 03 R91-R97, R101) -/

/-- Transitions that a request may ask for (03 Table 03-3). -/
def stateListed (frm target : DevState) : Bool :=
  match frm, target with
  | .dormant, .standby | .standby, .dormant | .standby, .anneal | .anneal, .standby | .safe, .standby | .safe, .dormant => true
  | .dormant, .safe | .standby, .safe | .anneal, .safe | .serving, .safe => true
  | _, _ => false

/-- Steps 3 to 5 of R206, which come before any lock: BUSY, OK with no effect, or an unlisted transition; none where the request
goes on. HINT of BUSY is the remaining bound of the request that the transition serves (05 R201); of a transition that no request asked
for none is stated (log entry 7). -/
def State.stateJudge (s : State) (f : InFlight) : Option State :=
  let t := stateOfTarget (f.req.f 0 1)
  if s.dev.trans then
    match s.damem.inflight.find? fun g => match g.wait with | .state _ => true | _ => false with
    | some g => some (s.answer f .busy 0 [] none (s.busyHint g))
    | none => let h := s.hint 1000; some (h.2.answer f .busy 0 [] none h.1)
  else if t = s.dev.state then some (s.done' f)
  else if ¬ stateListed s.dev.state t then some (s.answer f .badArg (f.req.at' 0))
  else none

/-- STATE_SET: the refusals of R96 and R101, then the transition; the answer follows when the target is entered. -/
def State.doStateSet (s : State) (f : InFlight) : State :=
  let t := stateOfTarget (f.req.f 0 1)
  if t = .dormant ∧ s.stew.role ≠ Role.none then s.answer f .precond 0
  else if s.dev.state = .safe ∧ t = .standby ∧ s.causeHolds then s.answer f .precond 0
  else
    let s1 := s.hold f (.state t)
    match s.dev.state, t with
    | _, .safe => (if s1.asleep then s1.wakeHandler 0x0C else s1).enterSafe 7
    | .dormant, _ => s1.wakeBy 0x0C true
    | _, .dormant => s1.enterDormant .request
    | _, .anneal => s1.enterAnneal .request
    | .anneal, _ => s1.leaveAnneal .request
    | _, _ => (s1.transTo .standby).upTo' 6 .toStandby fun x => x.standbyReady x.standbyTrigger

/-! ### Heat (05 Table 05-12, 13 R540) -/

/-- A temperature, or a value that the spec does not state where no sensor gives one (log entry 7). -/
def State.tempOr (s : State) (o : Option Int) (kind : Nat) : Int := o.getD (Config.freeOf 44 [s.freeCtr, kind])
/-- The highest valid reading of groups whose dies are powered. -/
def State.groupMax (s : State) (gs : List Nat) : Option Int :=
  maxOf (s.validTemps ((gs.filter s.diePowered).flatMap sensorsOf))
/-- COMPUTE_MAX, PHOTONIC_MAX, DECKLE and HBM_MAX. -/
def State.dieMax (s : State) (i : Nat) : Option Int := s.groupMax (match i with
  | 0 => [0, 1] | 1 => [2] | 2 => [4] | _ => [3])

/-- THERMAL_QUERY. -/
def State.doThermalQuery (s : State) (f : InFlight) : State :=
  let t := s.thm
  let half (i : Nat) : List Byte := leBytes 2 (unsgn 16 (s.tempOr (s.dieMax i) i))
  let plate (o : Option Int) (k : Nat) : List Byte := leBytes 4 (unsgn 32 (s.tempOr o k))
  s.done' f ((List.range 4).flatMap half ++ plate t.inletM 4 ++ plate t.outletM 5 ++ leBytes 2 t.pkgW ++ leBytes 2 t.capW ++
    leBytes 2 (maskOf ((List.range 16).filter fun m => (s.mouldAt m).throttle != 0)) ++ leBytes 1 (b2n (t.warn != 0)) ++ leBytes 1 t.capSrc)

/-! ### The steward (05 R213, 17 R690) -/

/-- STEWARD_QUERY. -/
def State.doStewardQuery (s : State) (f : InFlight) : State :=
  s.done' f (leBytes 1 s.stew.role.code ++ leBytes 1 (orFF s.stew.primary) ++ leBytes 1 (orFF s.stew.standby) ++ leBytes 1 (b2n s.stewElig))

/-- STEWARD_RELEASE: the planned handover of Table 17-6; a standby withdraws at once. -/
def State.doStewardRelease (s : State) (f : InFlight) : State :=
  let out (s : State) : State := { s with stew := { s.stew with withdrawn := true } }
  match s.stew.role with
  | .none => s.answer f .precond 0xFFFF
  | .standby => ((out s).roleSet .none s.stew.primary none s.stew.epoch).done' f
  | .primary =>
    let s1 := out (s.hold f .steward)
    if s1.givingUp then s1
    else match s1.stew.standby with
      | some d =>
        let s2 := (s1.sendBeat).sendMgmt d 0x13 (1 + s1.stew.epoch * 2 ^ 8) 0
        { s2 with stew := { s2.stew with seq := .offered, offerAt := some s2.now } }
      | none => s1.giveUp false

/-- A set-point of slot 8 in m°C, to the nearest (05 Table 05-12). -/
def lwMilli (w : Reg32) : Int := rneDiv (lwVal w * 1000) (2 ^ 55)

/-- Judge a supply set-point as it is given, in whole m°C: the limits and the step are those of R213, before the value is rounded to a loop
word (05 R213, 15 R626). -/
def State.supplyJudge (s : State) (milli : Int) : SetRes :=
  let x := s.slotAt 8
  if x.cfg.parent.isSome then .parent
  else if milli < s.supMin * 100 ∨ (s.supMax * 100 : Int) < milli then .envelope
  else if s.stepMax < (milli - lwMilli x.setUsed).natAbs then .guard
  else .accepted

/-- The device takes supply set-points: it is primary, and a handover that has begun answers as a device that is no longer primary (log
entry 32). -/
def State.takesSupply (s : State) : Bool := s.stew.role == Role.primary && !s.givingUp

/-- A supply set-point that the envelope or the guard denies; the guard sets GUARD_REJ with one record (05 R213, 15 R626). -/
def State.supplyDenied (s : State) (milli : Int) : State :=
  if s.supplyJudge milli = .guard then
    (s.updSlot 8 fun x => { x with guardRej := true }).log 0x7003 (param [(1, 8), (4, (lwFrac milli 1000).1.toNat)])
  else s

/-- The answer to a supply set-point in m°C: NOT_READY off the primary steward, DENIED_ENVELOPE beyond the envelope or the guard
(05 R213, 15 R626). -/
def State.supplySet (s : State) (milli : Int) : Status × State :=
  if ¬ s.takesSupply then (.notReady, s)
  else match s.supplyJudge milli with
    | .accepted =>
      let s1 := s.updSlot 8 fun x => { x with setpoint := (lwFrac milli 1000).1, guardRej := false }
      (.ok, { s1 with stew := { s1.stew with ramping := false } })
    | .parent => (.notReady, s)
    | .envelope | .guard => (.deniedEnvelope, s.supplyDenied milli)

/-- CDU_SETPOINT. -/
def State.doCduSetpoint (s : State) (f : InFlight) : State :=
  let r := s.supplySet (sfld f.req.body 0 4)
  r.2.answer f r.1 0

/-! ### The scorer and the mesh (10 R432, R436, R437, 11 R463) -/

/-- WMK_SET. -/
def State.doWmkSet (s : State) (f : InFlight) : State :=
  let on := f.req.f 0 1 = 1
  if on ↔ s.wmk.en then s.done' f (leBytes 4 0)
  else if on then
    let s1 := s.hold f .scorer
    let s2 := ({ s1 with wmk := { s1.wmk with en := true, stopping := false, returned := 0 } }).scorerWarm
    if s2.wmk.state = .warming then s2 else s2.answerWarm
  else
    let s1 := s.hold f .scorer
    let w := ({ s1 with wmk := { s1.wmk with en := false, stopping := true } }).withdrawQueued
    ({ w.2 with wmk := { w.2.wmk with returned := w.1 } }).followStopping

/-- STRAND_SET. -/
def State.doStrandSet (s : State) (f : InFlight) : State :=
  let k := f.req.f 0 1
  let t := s.strandAt k
  let zero := leBytes 4 0
  if f.req.f 1 1 = 0 then
    let d := s.peerOf k
    if t.state = .up ∧ s.upTo d = [k] ∧ (s.viaTo d).isNone then s.answer f .precond 0
    else
      let s1 := (s.hold f (.strand k)).updStrand k fun t => { t with en := false }
      let s2 := if t.state = .up then s1.sendDepart k else s1
      let s3 := if t.state = .disabled then s2 else (s2.strandDown k .disabled 5 .off).updStrand k fun t => { t with presence := false, probing := false }
      if (s3.strandAt k).recon.isSome then s3 else s3.answerWaiting (.strand k) .ok 0 fun _ => zero
  else if t.state = .up then s.done' f zero
  else
    let s1 := (s.hold f (.strand k)).updStrand k fun t => { t with en := true }
    if t.state ≠ .disabled then s1
    else if s1.strandMayTrain k then (s1.updStrand k fun t => { t with probing := true, tx := .probe }).strandTo k .dark
    else s1.strandTo k .off

/-- LINK_QUERY. -/
def State.doLinkQuery (s : State) (f : InFlight) : State :=
  let lanes := ((List.range 64).map fun k => s.lanesMinus k * 4 ^ k).sum
  s.done' f (leBytes 8 (s.strandMap .up) ++ leBytes 8 (s.strandMap .miswired) ++ leBytes 16 lanes ++ leBytes 8 s.mesh.detour.toNat)

/-- PHOTONIC_QUERY (12 R527). -/
def State.doPhotonicQuery (s : State) (f : InFlight) : State :=
  let bad (n : Nat) : Bool := let r := s.ring704At n; r.state != .parked && r.state != .locked
  let lasers := maskOf ((List.range 24).filter fun a => let x := s.laserAt a; x.failed != 0 || x.state == .retired)
  s.done' f (leBytes 88 (maskOf ((List.range 704).filter bad)) ++ leBytes 4 lasers ++ (s.spareMap.flatMap (leBytes 1)) ++ leBytes 2 s.headroomMin ++ [0, 0])

/-! ### Planish (16 R667, R668) -/

/-- PLANISH_RUN: the step is then run by PLANISH_STEP, which reports to it. -/
def State.doPlanishRun (s : State) (f : InFlight) : State :=
  let q := f.req.f 0 2
  let i := f.req.f 2 2
  if s.itemUsed q i then s.holdEarly f (.planish q i) else s.answer f .precond 0xFFFF

/-- PLANISH_QUERY. -/
def State.doPlanishQuery (s : State) (f : InFlight) : State :=
  let x := s.itemAt (f.req.f 0 2) (f.req.f 2 2)
  s.done' f (leBytes 2 (x.last.elim 0xFFFF Status.code) ++ leBytes 2 0 ++ leBytes 4 x.timeS ++ leBytes 4 x.count)

/-! ### The loop engine (15 R630-R632, R640) -/

/-- LOOP_COEF. -/
def State.doLoopCoef (s : State) (f : InFlight) : State :=
  let n := f.req.f 0 1
  let mode := f.req.f 1 1
  let x := s.slotAt n
  let vals := (List.range (f.req.f 4 2)).map fun i => BitVec.ofNat 32 (f.req.f (8 + 4 * i) 4)
  let write (b : Vector Reg32 256) : Vector Reg32 256 := writeBank b (f.req.f 2 2) vals
  let b := x.inactive
  if x.cfg.law = 0 then s.answer f .precond 0
  else if mode ≠ 2 ∧ x.swapPend then s.answer f .precond 0xFFFF
  else if mode = 1 then
    if bankGood b ∧ hdrIn b = x.cfg.nin ∧ hdrOut b = x.cfg.nout then (s.updSlot n fun x => { x with swapPend := true }).done' f
    else s.answer f .precond 0xFFFF
  else
    let inB := if mode = 0 then !x.bank else x.bank
    (s.updSlot n fun x => if inB then { x with bankB := write x.bankB } else { x with bankA := write x.bankA }).done' f

/-- LOOP_QUERY. -/
def State.doLoopQuery (s : State) (f : InFlight) : State :=
  let x := s.slotAt (f.req.f 0 1)
  s.done' f (leBytes 4 x.statWord ++ leBytes 4 x.setUsed.toNat ++ leBytes 4 (x.inUse 0).value.toNat ++ leBytes 4 (Table.at x.out 0 0).toNat)

/-! ### Filigree (18 R736-R741) -/

/-- Step 1 of R736: the field of FIL_SECTOR at fault, by its offset in the opcode's own payload. -/
def Req.filFault (r : Req) : Option Nat :=
  let op := r.f 1 1
  if 15 < r.f 0 1 then some 0
  else if 2 < op ∨ (decide (op = 0) != r.data) then some 1
  else if op = 0 ∧ fld (imageOf (bytesAt r.bulkIn 0 r.dataLen)).body 0 1 ≠ r.f 0 1 then some 0
  else none

/-- FIL_SECTOR in the order of R736. -/
def State.doFilSector (s : State) (f : InFlight) : State :=
  let r := f.req
  let n := r.f 0 1
  let x := s.sectorAt n
  let at_ := r.at' 0
  let off := s.dev.state = .dormant ∨ s.dev.state = .safe ∨ s.dev.state = .held
  match r.f 1 1 with
  | 0 =>
    let im := imageOf (bytesAt r.bulkIn 0 r.dataLen)
    let d := s.imageDetail .sector im
    match secEntryAt im.body 0 with
    | none => (s.log 0xA005 (param [(1, 4), (1, if d = 0 then 10 else d)])).answer f .precond 0xFFFF
    | some i =>
      if d ≠ 0 then (s.log 0xA005 (param [(1, 4), (1, d)])).answer f .precond 0xFFFF
      else if ¬ s.imageInEnvelope i then s.answer f .deniedEnvelope 0xFFFF
      else if ¬ s.secImageFits n i then s.answer f .precond at_
      else if off then s.answer f .precond 0xFFFF
      else ((s.updSector n fun x => { x with shadow := some i }).hold f (.swap n)).filNext
  | 1 =>
    if off then s.answer f .precond 0xFFFF
    else (if x.state = .disabled ∨ x.state = .empty then s else s.secDisable n).done' f (leBytes 4 0)
  | _ =>
    if x.state = .empty ∨ off then s.answer f .precond at_
    else if x.state = .running then s.done' f (leBytes 4 0)
    else ((s.updSector n fun x => { x with shadow := x.image }).hold f (.swap n)).filNext

end Sys2Proof.Machine
end

