-- ==== Sys2Proof/Machine/DamemEv.lean ====
section
/-! DEFINITION. Damem requests: from the POST or the MCTP message through the checks of 05 Table 05-6 to what the opcode does, and the
requests that wait behind a lock (05 R196-R202, R205, R223, R230, R238). -/
namespace Sys2Proof.Machine

/-- What an opcode does once its checks have passed (05 Tables 05-8, 05-9). -/
def State.performGeneral (s : State) (f : InFlight) : State :=
  match f.opcode with
  | 0x0001 => s.done' f
  | 0x0002 => s.doInfo f
  | 0x0101 => s.doStateSet f
  | 0x0102 => s.doStateGet f
  | 0x0103 => s.doHallmark f
  | 0x0104 => s.doDebugToken f
  | 0x0105 => s.doTimeSet f
  | 0x0201 => s.doPartCreate f
  | 0x0202 => s.doPartResize f
  | 0x0203 => s.doPartDestroy f
  | 0x0204 => s.doPartStart f
  | 0x0205 => s.doPartStop f
  | 0x0206 => s.doPartReset f
  | 0x0207 => s.doPartQuery f
  | 0x0208 => s.doPartImage f
  | 0x0209 => s.doRingSetup f
  | 0x020A => s.doRingTeardown f
  | _ => s.answer f .badOpcode 0

/-- What the opcodes of 05 Table 05-12 do. -/
def State.performUnits (s : State) (f : InFlight) : State :=
  match f.opcode with
  | 0x0301 => s.doThermalQuery f
  | 0x0302 => s.doStewardQuery f
  | 0x0303 => s.doStewardRelease f
  | 0x0304 => s.doCduSetpoint f
  | 0x0401 => s.doWmkSet f
  | 0x0402 => s.doStrandSet f
  | 0x0403 => s.doLinkQuery f
  | 0x0404 => s.doPhotonicQuery f
  | 0x0501 => s.doPlanishRun f
  | 0x0502 => s.doPlanishQuery f
  | 0x0601 => s.doLoopCoef f
  | 0x0602 => s.doLoopQuery f
  | 0x0701 => s.doFilSector f
  | _ => s.answer f .badOpcode 0

/-- What the opcodes of 05 Table 05-13 do. -/
def State.performFlash (s : State) (f : InFlight) : State :=
  match f.opcode with
  | 0x0801 => s.doCalRead f
  | 0x0802 => s.doCalClear f
  | 0x0901 => s.doHoldQuery f
  | 0x0902 => s.doFlashRead f
  | 0x0903 => s.doFlashErase f
  | 0x0904 => s.doFlashWrite f
  | 0x0905 => s.doImageCheck f
  | 0x0906 => s.doDirSet f
  | 0x0907 => s.doProvision f
  | 0x0908 => s.doRecover f
  | 0x0909 => s.doFwActivate f
  | 0x090A => s.doFwCommit f
  | _ => s.answer f .badOpcode 0

/-- Step 11 of 05 Table 05-6 and the effect of the opcode. -/
def State.perform (s : State) (f : InFlight) : State :=
  if f.opcode < 0x0300 then s.performGeneral f else if f.opcode < 0x0800 then s.performUnits f else s.performFlash f

/-- Step 10: a resource held by a request of another path is answered BUSY, one held on the same path is waited for, and with all of
them free the opcode acts (05 R201). Before it stand what the partition's state refuses (06 Table 06-4) and a directory write (04 R138);
PART_START of a partition that starts or has started needs no lock. -/
def State.contend (s : State) (f : InFlight) : State :=
  let st := (s.partAt (f.req.f 0 1)).state
  let dir := if flashOpcode f.opcode f.req then s.dirWriter else none
  let b := s.blockers f
  if s.partRefuses f.opcode f.req then s.answer f .precond 0xFFFF
  else if f.opcode = 0x0204 ∧ (st = .starting ∨ st = .started) then s.done' f
  else match dir.or (b.find? fun g => g.req.path != f.req.path) with
    | some g => s.answer f .busy 0 [] none (s.busyHint g)
    | none => if b.isEmpty then s.perform f else s

/-- DETAIL of step 8, with the first step of FIL_SECTOR's own order (18 R736). -/
def State.argFault (s : State) (f : InFlight) : Option Nat :=
  match s.badArg f.opcode f.req with
  | some d => some d
  | none => if f.opcode = 0x0701 then f.req.filFault.map f.req.at' else none

/-- Step 9: DETAIL of the first field beyond the envelope, of the opcodes that R209, R210 and R213 check; a device that takes no supply
set-points answers NOT_READY instead (05 R209, R210, R213). -/
def State.beyondEnvelope (s : State) (f : InFlight) : Option Nat :=
  if f.opcode = 0x0201 ∨ f.opcode = 0x0202 then s.partDenied f.req
  else if f.opcode = 0x0304 ∧ s.takesSupply then
    (match s.supplyJudge (sfld f.req.body 0 4) with
     | .envelope | .guard => some 0
     | _ => none)
  else none

/-- What a denial leaves besides its answer (15 R626). -/
def State.denied (s : State) (f : InFlight) : State := if f.opcode = 0x0304 then s.supplyDenied (sfld f.req.body 0 4) else s

/-- Steps 5 to 10 of 05 Table 05-6, and STATE_SET's own order (05 R200, R206). -/
def State.examine (s : State) (f : InFlight) : State :=
  if (opcodeRow f.opcode).isNone then s.answer f .badOpcode 0
  else if s.heldMode ∧ ¬ recoverySet f.opcode then s.answer f .held 0
  else if ¬ s.owns f.opcode f.req then s.answer f .notOwner 0
  else match s.argFault f with
    | some d => s.answer f .badArg d
    | none => match s.beyondEnvelope f with
      | some d => (s.denied f).answer f .deniedEnvelope d
      | none =>
        if f.opcode = 0x0101 then (s.stateJudge f).getD (s.contend f) else s.contend f

/-- The journal's entry of a request that is accepted, with the end of its completion bound (05 R203, R227). -/
def State.entryOf (s : State) (opcode : Nat) (r : Req) (pldm : Bool) : InFlight :=
  { opcode := opcode, req := r, locks := locksOf opcode r, wait := .queued, committed := false, pldm := pldm,
    due := s.inMs (s.boundMs opcode r) }

/-- An accepted request enters the journal and is examined. -/
def State.letIn (s : State) (opcode : Nat) (r : Req) (pldm : Bool) : State :=
  let f := s.entryOf opcode r pldm
  ({ s with damem := { s.damem with inflight := s.damem.inflight ++ [f] } }).examine f

/-! ### MCTP (05 R228, R230, R241, 04 Table 04-17) -/

/-- The binding reaches the device (05 R228). -/
def State.bindingUp (s : State) (b : Binding) : Bool :=
  match b with
  | .smbus => s.supply.straps.elim false (·.mgt)
  | .i3c => (s.supply.straps.elim false fun x => !x.mgt) && s.damem.i3cAddr.isSome
  | .vdm => s.supply.endpoint == .ready

/-- ERROR_NOT_READY of MCTP control and of PLDM (DMTF's code; log entry 33). -/
def ccNotReady : Nat := 4

/-- A request that MCTP rejects: the response carries the status that a mailbox's acknowledge would (05 R230). -/
def State.mctpReject (s : State) (opcode : Nat) (r : Req) (st : Status) (hint : Nat) : State :=
  s.emit (.mctpDamem r.binding pciVendor
    { opcode := opcode, tag := r.tag, status := st, seq := r.seq, hint := hint, detail := if st = .badArg then 0xFFFF else 0 })

/-- How a message meets a device in DORMANT over its management port (03 R104, 05 R241): the first transaction is not acknowledged; a
retried one is, and whether the Assay core is ready by then is free (log entry 7). Out of DORMANT the device serves. -/
def State.mgmtPort (s : State) (notReady serve : State → State) : State :=
  if ¬ s.asleep then serve s
  else if ¬ s.mgmtHears then s.mgmtNack
  else
    let x := s.free 54
    if x.1 % 2 = 0 then serve x.2 else notReady x.2

/-- ERROR_NOT_READY of MCTP, or BUSY_BOOTING with a HINT of 100 ms: the spec allows either (05 R241, log entry 7). -/
def State.notYet (s : State) (opcode : Nat) (r : Req) : State :=
  let x := s.free 54
  if x.1 % 2 = 0 then x.2.emit (.mctpControl 0 ccNotReady []) else x.2.mctpReject opcode r .busyBooting 100

/-- A Damem message that the device's MCTP service takes. -/
def State.mctpTake (s : State) (opcode : Nat) (r : Req) : State :=
  if 8 ≤ (s.damem.inflight.filter fun f => f.req.path == .mctp && !f.pldm).length then
    let h := s.hint 1000
    h.2.mctpReject opcode r .busy h.1
  else
    let a := s.ackStatus opcode r
    if a.1 = .ok then a.2.2.letIn opcode r false else a.2.2.mctpReject opcode r a.1 a.2.1

/-- A Damem message over MCTP; one that carries another vendor's ID is none (05 R230). -/
def State.mctpRequest (s : State) (opcode : Nat) (r : Req) : State :=
  if ¬ s.bindingUp r.binding ∨ ¬ r.vendorOk then s
  else if ¬ s.damem.mctpUp then s.emit (.mctpControl 0 ccNotReady [])
  else s.mgmtPort (fun s => s.notYet opcode r) fun s => s.mctpTake opcode r

/-! ### Mailboxes (05 R193, R196, R197, R200) -/

/-- The mailbox is there for its function: PF0's own, or that of a VF that exists (05 R193, 06 R247). -/
def State.mbxUp (s : State) (m : Nat) : Bool := s.supply.endpoint == .ready && (m == 16 || s.vfUp (m + 1))

/-- The request of mailbox `m` is acknowledged, and examined where it is accepted (05 R197). -/
def State.process (s : State) (m : Nat) (opcode : Nat) (r : Req) : State :=
  let a := s.ackStatus opcode r
  let s2 := a.2.2.acknowledge m r.tag a.1 a.2.1
  if a.1 = .ok then s2.letIn opcode r false else s2

/-- A row of a Damem opcode on a mailbox: the host writes the window and POST, and the acknowledge follows at once. Both writes are ignored
while an earlier POST waits for its acknowledge (05 R196). -/
def State.post (s : State) (m : Nat) (opcode : Nat) (r : Req) : State :=
  if ¬ s.mbxUp m ∨ (s.pageAt m).reqBusy then s
  else (s.updPage m fun pg => { pg with window := r.windowBytes opcode }).process m opcode r

/-- What a request window holds: the opcode, and the request. What its bulk buffer holds and whether the device reaches it lie with the host:
`k` picks free values (log entry 7). -/
def windowReq (m : Fin 17) (w : List Byte) (k : Nat) : Nat × Req :=
  let p := bytesAt w 16 1008
  (fld w 0 2,
   { path := .mbx m, tag := fld w 2 1, flags := fld w 3 1, len := fld w 4 2, version := fld w 6 1, rsv07 := fld w 7 1, seq := fld w 8 4,
     rsv0C := fld w 12 4, payload := p, bulkOk := Config.freeOf 53 [k] % 2 == 0,
     bulkIn := if bitOf (fld w 3 1) 0 then (List.range (fld p 8 4)).map fun i => BitVec.ofNat 8 (Config.freeOf 53 [k, i]) else [] })

/-- A POST that was written to MBX_DB is acknowledged: the device processes what the window holds (05 R196, R197). -/
def State.ackPosted (s : State) (m : Fin 17) : State :=
  if (s.pageAt m.val).reqBusy then
    let x := s.free 53
    let s1 := x.2.updPage m.val fun pg => { pg with reqBusy := false }
    if s1.mbxUp m.val then
      let q := windowReq m (s1.pageAt m.val).window x.1
      s1.process m.val q.1 q.2
    else s1
  else s

/-- Every POST that waits for its acknowledge gets it, within the bound of 1 ms (05 R197). -/
def State.ackAll (s : State) : State := (List.finRange 17).foldl (fun (s : State) m => s.ackPosted m) s

/-- A Damem request of any opcode, on its path. -/
def State.evDamem (s : State) (opcode : Nat) (r : Req) : State :=
  match r.path with
  | .mbx m => s.post m.val opcode r
  | .mctp => s.mctpRequest opcode r

/-! ### Requests that wait (05 R201, R238) -/

/-- A request whose wait has ended is checked again for what may have changed meanwhile, and acts; its completion bound starts anew, and a
state request is judged again by the state that it meets (05 R203, R206). -/
def State.serveOne (s0 : State) (f0 : InFlight) : State :=
  let f := { f0 with due := s0.inMs (s0.boundMs f0.opcode f0.req) }
  let s := s0.updReq f0 fun _ => f
  if s.heldMode ∧ ¬ recoverySet f.opcode then s.answer f .held 0
  else if ¬ s.owns f.opcode f.req then s.answer f .notOwner 0
  else if s.partRefuses f.opcode f.req then s.answer f .precond 0xFFFF
  else if f.opcode = 0x0101 then (s.stateJudge f).getD (s.perform f)
  else s.perform f

/-- Serve the queued requests whose resources are free, oldest first, at most `n` of them. Requests for units are in conflict through the
lock `grants`, so that the first accepted is granted first, also one that waits for its partition (06 R243, DEDUCED, log entry 118). -/
def State.serve (s : State) : Nat → State
  | 0 => s
  | n + 1 =>
    if s.fwAbsent then s
    else match s.damem.inflight.find? fun f => f.wait == .queued && (s.blockers f).isEmpty with
      | some f => (s.serveOne f).serve n
      | none => s

/-! ### Timers of requests (10 R432, 11 R463) -/

/-- WMK_SET_TIMEOUT: 10 ms have passed and the scorer still warms up. -/
def State.evWmkSetTimeout (s : State) : State :=
  if s.wmk.state = .warming then s.answerWaiting .scorer .ok 0 fun _ => leBytes 4 0 else s

/-- STRAND_SET_TIMEOUT: 1 s has passed and the strand still trains. -/
def State.evStrandSetTimeout (s : State) (k : Nat) : State :=
  if (s.strandAt k).en then s.answerWaiting (.strand k) .ok 0 fun _ => leBytes 4 0 else s

/-- STRAND_SET with EN 1 ends when the strand is Up, by whatever path (11 R463). -/
def State.followStrandSets (s : State) : State :=
  s.damem.inflight.foldl (fun (s : State) f => match f.wait with
    | .strand k => if (s.strandAt k).en ∧ (s.strandAt k).state = .up then s.answer f .ok 0 (leBytes 4 0) else s
    | _ => s) s

end Sys2Proof.Machine
end

