-- ==== Sys2Proof/Machine/PldmEv.lean ====
section
/-! DEFINITION. MCTP control and PLDM: discovery, the sensors and effecters of 05 Table 05-17, and platform events
(05 R228, R229, R231-R234). Command and completion codes are DMTF's (log entry 33); what a state sensor's states are numbered is the
model's own (log entry 34). -/
namespace Sys2Proof.Machine

/-! ### MCTP control (05 R229) -/

/-- A command reaches the MCTP service: over a binding that is up, while firmware runs it; else nothing, or ERROR_NOT_READY
(04 Table 04-17, 05 R223). A device in DORMANT hears it as 03 R104 says. -/
def State.mctpService (s : State) (b : Binding) (notReady : Out) (f : State → State) : State :=
  if ¬ s.bindingUp b then s
  else if ¬ s.damem.mctpUp ∨ s.fwAbsent then s.emit notReady
  else s.mgmtPort (fun s => s.emit notReady) f

/-- Answer an MCTP control command. -/
def State.control (s : State) (b : Binding) (cmd : Nat) (f : State → Nat × List Nat × State) : State :=
  s.mctpService b (.mctpControl cmd ccNotReady []) fun s =>
    let r := f s
    r.2.2.emit (.mctpControl cmd r.1 r.2.1)

/-- SET_ENDPOINT_ID: set or forced; the device is no bus owner and takes no other operation. -/
def State.evSetEid (s : State) (b : Binding) (op eid : Nat) : State :=
  s.control b 0x01 fun s =>
    if op % 4 ≤ 1 ∧ 1 ≤ eid ∧ eid < 255 then (0, [0, eid, 0], { s with damem := { s.damem with eid := eid } }) else (2, [], s)
/-- GET_ENDPOINT_ID. -/
def State.evGetEid (s : State) (b : Binding) : State := s.control b 0x02 fun s => (0, [s.damem.eid, 0, 0], s)
/-- GET_ENDPOINT_UUID: the spec gives no UUID (log entry 7). -/
def State.evGetUuid (s : State) (b : Binding) : State :=
  s.control b 0x03 fun s => (0, (List.range 16).map fun i => Config.freeOf 45 [s.otp.devId, i] % 256, s)
/-- The MCTP message types taken (05 R229). -/
def mctpTypes : List Nat := [0x00, 0x01, 0x7E]
/-- GET_MCTP_VERSION_SUPPORT: the spec names no version (log entry 7). -/
def State.evGetVersion (s : State) (b : Binding) (mtype : Nat) : State :=
  s.control b 0x04 fun s =>
    if mtype = 0xFF ∨ mctpTypes.contains mtype then (0, [1, Config.freeOf 46 [mtype] % 2 ^ 32], s) else (0x80, [], s)
/-- GET_MESSAGE_TYPE_SUPPORT. -/
def State.evGetTypes (s : State) (b : Binding) : State := s.control b 0x05 fun s => (0, mctpTypes.length :: mctpTypes, s)
/-- GET_VENDOR_DEFINED_MSG_SUPPORT: one set, the device's PCI vendor ID. -/
def State.evGetVendor (s : State) (b : Binding) (sel : Nat) : State :=
  s.control b 0x06 fun s => if sel = 0 then (0, [0xFF, 0, pciVendor, 0], s) else (2, [], s)
/-- MCTP_UNSUPPORTED_CMD: a command that R229 does not list is answered ERROR_UNSUPPORTED_CMD. -/
def State.evMctpUnsupported (s : State) (b : Binding) (cmd : Nat) : State :=
  if 1 ≤ cmd ∧ cmd ≤ 6 then s else s.control b cmd fun s => (5, [], s)
/-- ENTDAA: the bus controller gives the device its address in I3C mode (05 R228). -/
def State.evEntdaa (s : State) (addr : Nat) : State :=
  if (s.supply.straps.elim true (·.mgt)) ∨ 127 < addr then s else { s with damem := { s.damem with i3cAddr := some addr } }

/-! ### Readings (05 R232, Table 05-17) -/

/-- Every item of a quantity that is in use has ended DONE since cold reset and is neither FAILED nor OVERDUE (16 R665). -/
def State.itemsHold (s : State) (q : Nat) (inUse : Nat → Bool) : Bool :=
  (List.range (planishCount q)).all fun i =>
    !inUse i || (let x := s.itemAt q i; x.doneOnce && !x.failed && !x.overdue)
/-- The RTD figures rest on the Touchstone, the excitation string and the delta-sigma converters in use (16 R665). -/
def State.rtdHold (s : State) : Bool :=
  !s.supply.touchFault && s.aar.convCal && s.itemsHold 0x0002 (s.itemUsed 0x0002) && s.itemsHold 0x0010 (s.itemUsed 0x0010)
/-- Largest fall between readings of a list. -/
def spread (l : List Int) : Int := (maxOf l).getD 0 - ((maxOf (l.map fun x => -x)).map fun x => -x).getD 0
/-- The ring-hold conditions of 12 R528, with the trims of R502 and the items of 16 R665. -/
def State.ringHold (s : State) : Bool :=
  let used (n : Nat) : Bool := (s.ring704At n).state != .parked
  let recent := (s.thm.inletHist.filter fun x => s.now < x.1 + 32768).map (·.2)
  !s.supply.touchFault && s.thm.inletM.isSome && decide (spread recent ≤ 40) &&
    ((List.range 704).all fun n =>
      let r := s.ring704At n
      !used n || (r.state == .locked && 409 < r.code && r.code < 3686 && r.trimDone)) &&
    s.itemsHold 0x0031 used && s.itemsHold 0x0032 used
/-- The coolant supply figure (17 R691, R693, 03 R110). -/
def State.supplyHold (s : State) : Bool :=
  let x := s.slotAt 8
  s.stew.role == Role.primary && x.en && x.action == 0 && !x.alt.getLsbD 0 &&
    bitOf (s.cmpAt 4).cfg.toNat 31 && bitOf (s.cmpAt 5).cfg.toNat 31 && s.rtdHold &&
    s.stew.takeoverAt.elim true fun t => decide (t + 60 * 32768 ≤ s.now)
/-- The scorer figure: every channel in service is calibrated in time (10 R435, 16 R665). -/
def State.scorerHold (s : State) : Bool := !s.supply.touchFault && s.itemsHold 0x0050 fun n => s.wmk.insvc.getLsbD n
/-- Sensor 4: the rows of 00 Table 00-2 and 00 Table 00-3 in order. The accumulators add exactly whatever happens (log entry 35). -/
def State.figures (s : State) : List Bool :=
  let deckle := (s.dieMax 2).elim false fun t => decide (0 ≤ t ∧ t ≤ 8500)
  [s.supplyHold, s.rtdHold, s.rtdHold && deckle, s.ringHold, true, s.clocks.freeHeld, s.clocks.discHeld, s.scorerHold]

/-- The readings of a state sensor; none where the sensor is not one. -/
def State.stateSensor (s : State) (n : Nat) : Option (List Int) :=
  let one (x : Nat) : Option (List Int) := some [(x : Int)]
  match n with
  | 1 => one s.dev.state.code
  | 2 => one s.stew.role.code
  | 3 => one (b2n (s.thm.warn != 0))
  | 4 => some (s.figures.map fun h => if h then 1 else 0)
  | 5 => one (if s.heldMode then s.boot.reason else 0)
  | 110 => some ((List.range 4).map fun i => ((s.ropeAt i).cond : Int))
  | _ => none

/-- The regulators of sensors 20-46 in the order of Table 05-17, by their place in the sequence of 02 R56. -/
def railOrder : List Nat := [2, 1, 3, 4, 5, 6, 0]
/-- A rail's telemetry, none while it is stale (02 R84). -/
def State.railReading (s : State) (i : Nat) (f : RailTelemetry → Int) : Option Int :=
  let t := Table.at s.supply.tele (railOrder.getD i 0) {}
  if t.stale then none else some (f t)
/-- A reading of the CDU, in the units of Table 05-17 (17 R706). The scale of the pressure meters is not stated (log entry 7). -/
def State.cduReading (s : State) (n : Nat) : Option Int :=
  let st := Table.at (s.slotAt 11).ins 0 {}
  let flow (x : Stream) : Option Int := if x.lost ∨ ¬ (s.slotAt 11).en then none else some (lwRat x.value * 100).floor
  let word (k : Nat) : Reg32 := Table.at (Table.at s.aar.sar 0 {}).sample k 0
  match n with
  | 100 => s.cduSupply.map fun w => (lwRat w * 1000).floor
  | 101 => s.cduReturn.map fun t => t / 10
  | 102 => flow st.src
  | 103 => flow st.alt
  | 108 | 109 => let t := s.trkAt (n - 108); if t.sync then some ((t.speed / 100 : Nat) : Int) else none
  | _ => let w := word (n - 102); if swOvr w then none else some ((Config.freeOf 48 [n, swValue w] : Nat) : Int)

/-- A numeric sensor's reading, `some none` while it is unavailable; none where the sensor is not one. -/
def State.numericSensor (s : State) (n : Nat) : Option (Option Int) :=
  if 10 ≤ n ∧ n ≤ 13 then some (s.dieMax (n - 10))
  else if n = 14 then some s.thm.inletM
  else if n = 15 then some s.thm.outletM
  else if n = 16 then some (some s.thm.pkgW)
  else if n = 17 then some (some s.thm.capW)
  else if n = 18 then some (some (if s.aoutSafe 0 then 0 else ((s.aoutAt 0).code / 2 : Nat)))
  else if n = 19 then some (some s.headroomMin)
  else if 20 ≤ n ∧ n ≤ 26 then some (s.railReading (n - 20) fun t => t.vout)
  else if 30 ≤ n ∧ n ≤ 36 then some (s.railReading (n - 30) fun t => t.iout)
  else if 40 ≤ n ∧ n ≤ 46 then some (s.railReading (n - 40) fun t => t.temp)
  else if 100 ≤ n ∧ n ≤ 109 then some (s.cduReading n)
  else none

/-- The sensors and effecters of Table 05-17, one PDR each. -/
def pdrIds : List Nat :=
  List.range' 1 5 ++ List.range' 10 10 ++ List.range' 20 7 ++ List.range' 30 7 ++ List.range' 40 7 ++ List.range' 100 11 ++ [200, 201]
/-- The record of a sensor or effecter (Table 05-17): its kind (0 numeric sensor, 1 state sensor, 2 state effecter, 3 numeric effecter), then
for a number its unit (0 degrees C, 1 W, 2 A, 3 %, 4 V, 5 L/min, 6 Pa, 7 rpm) and the power of ten of a step, for states how many
components have them and what they are. The numbers of kinds and units are the model's own (log entry 34). -/
def pdrBody (id : Nat) : List Int :=
  let num (unit : Int) (exp : Int) : List Int := [0, unit, exp]
  let states (n : Int) (l : List Int) : List Int := 1 :: n :: l
  if id = 1 then states 1 [1, 2, 3, 4, 5, 6]
  else if id = 2 then states 1 [0, 1, 2]
  else if id = 3 then states 1 [0, 1]
  else if id = 4 then states 8 [0, 1]
  else if id = 5 then states 1 ((List.range 12).map Int.ofNat)
  else if id ≤ 13 then num 0 (-2)
  else if id ≤ 15 then num 0 (-3)
  else if id ≤ 17 then num 1 0
  else if id = 18 then num 2 (-6)
  else if id = 19 then num 3 (-1)
  else if id ≤ 26 then num 4 (-3)
  else if id ≤ 36 then num 2 (-1)
  else if id ≤ 46 then num 0 0
  else if id ≤ 101 then num 0 (-3)
  else if id ≤ 103 then num 5 (-2)
  else if id ≤ 107 then num 6 3
  else if id ≤ 109 then num 7 0
  else if id = 110 then states 4 [0, 1, 2]
  else if id = 200 then [2, 1, 1, 2, 3, 6]
  else [3, 0, -3]
/-- A sensor or effecter of the CDU, which only the primary steward offers (05 R232, 00 R29). -/
def cduEntry (n : Nat) : Bool := (100 ≤ n && n ≤ 110) || n == 201

/-! ### PLDM commands (05 R231-R234) -/

/-- Answer a PLDM command. -/
def State.pldm (s : State) (b : Binding) (ptype cmd : Nat) (f : State → Nat × List Int × State) : State :=
  s.mctpService b (.pldm ptype cmd ccNotReady []) fun s =>
    let r := f s
    r.2.2.emit (.pldm ptype cmd r.1 r.2.1)
/-- The commands of Type 0 and of Type 2 that the device answers (05 R231). -/
def pldmCommands (ptype : Nat) : List Nat :=
  if ptype = 0 then [0x01, 0x02, 0x03, 0x04, 0x05]
  else if ptype = 2 then [0x04, 0x05, 0x11, 0x21, 0x31, 0x32, 0x39, 0x3A, 0x50, 0x51]
  else []
/-- A number as PLDM data. -/
def asInt (n : Nat) : Int := n

def State.evGetTid (s : State) (b : Binding) : State := s.pldm b 0 0x02 fun s => (0, [asInt s.damem.tid], s)
/-- SETTID: 0x00 and 0xFF name no terminus. -/
def State.evSetTid (s : State) (b : Binding) (tid : Nat) : State :=
  s.pldm b 0 0x01 fun s =>
    if 1 ≤ tid ∧ tid < 255 then (0, [], { s with damem := { s.damem with tid := tid } }) else (2, [], s)
/-- GETPLDMVERSION: the spec names no version (log entry 7). -/
def State.evPldmVersion (s : State) (b : Binding) (ptype : Nat) : State :=
  s.pldm b 0 0x03 fun s =>
    if ptype = 0 ∨ ptype = 2 then (0, [asInt (Config.freeOf 49 [ptype] % 2 ^ 32)], s) else (0x83, [], s)
/-- GETPLDMTYPES: types 0 and 2. -/
def State.evPldmTypes (s : State) (b : Binding) : State := s.pldm b 0 0x04 fun s => (0, [0, 2], s)
def State.evPldmCommands (s : State) (b : Binding) (ptype : Nat) : State :=
  s.pldm b 0 0x05 fun s => if ptype = 0 ∨ ptype = 2 then (0, (pldmCommands ptype).map asInt, s) else (0x83, [], s)
/-- GETPDRREPOSITORYINFO: available, and how many records. -/
def State.evPdrInfo (s : State) (b : Binding) : State := s.pldm b 2 0x50 fun s => (0, [0, asInt pdrIds.length], s)
/-- GETPDR: the next handle, the entry's ID and its record; handle 0 is the first record. -/
def State.evGetPdr (s : State) (b : Binding) (handle : Nat) : State :=
  s.pldm b 2 0x51 fun s =>
    let i := handle - 1
    match pdrIds[i]? with
    | some id => (0, asInt (if i + 1 < pdrIds.length then i + 2 else 0) :: asInt id :: pdrBody id, s)
    | none => (0x82, [], s)
/-- GETSENSORREADING: operational state (0 enabled, 2 unavailable) and the reading. -/
def State.evSensorReading (s : State) (b : Binding) (n : Nat) : State :=
  s.pldm b 2 0x11 fun s => match s.numericSensor n with
    | none => (0x80, [], s)
    | some r =>
      if cduEntry n ∧ s.stew.role ≠ Role.primary then (ccNotReady, [], s)
      else match r with
        | some x => (0, [0, x], s)
        | none => (0, [2], s)
/-- GETSTATESENSORREADINGS. -/
def State.evStateReadings (s : State) (b : Binding) (n : Nat) : State :=
  s.pldm b 2 0x21 fun s => match s.stateSensor n with
    | none => (0x80, [], s)
    | some l => if cduEntry n ∧ s.stew.role ≠ Role.primary then (ccNotReady, [], s) else (0, l, s)

/-- A request that an effecter makes on path M: its answer is a PLDM completion code (05 R233). -/
def State.effecter (s : State) (b : Binding) (cmd opcode : Nat) (payload : List Byte) : State :=
  s.mctpService b (.pldm 2 cmd ccNotReady []) fun s =>
    if ¬ (s.boot.complete ∨ s.heldMode) then s.emit (.pldm 2 cmd ccNotReady [])
    else s.letIn opcode { path := .mctp, binding := b, tag := 0, len := payload.length, payload := payload } true
/-- SETSTATEEFFECTERSTATES: effecter 200 acts as STATE_SET. -/
def State.evSetState (s : State) (b : Binding) (n state : Nat) : State :=
  if n ≠ 200 then s.pldm b 2 0x39 fun s => (0x80, [], s)
  else if 255 < state then s.pldm b 2 0x39 fun s => (2, [], s)
  else s.effecter b 0x39 0x0101 (leBytes 1 state ++ [0, 0, 0])
/-- GETSTATEEFFECTERSTATES: 0 while an update is pending, 1 else; the target, and the present state. -/
def State.evGetState (s : State) (b : Binding) (n : Nat) : State :=
  s.pldm b 2 0x3A fun s =>
    if n = 200 then (0, [if s.dev.trans then 0 else 1, asInt s.dev.target.code, asInt s.dev.state.code], s) else (0x80, [], s)
/-- SETNUMERICEFFECTERVALUE: effecter 201 acts as CDU_SETPOINT. -/
def State.evSetNumeric (s : State) (b : Binding) (n : Nat) (v : Int) : State :=
  if n ≠ 201 then s.pldm b 2 0x31 fun s => (0x80, [], s)
  else if v < -(2 ^ 31) ∨ 2 ^ 31 ≤ v then s.pldm b 2 0x31 fun s => (2, [], s)
  else s.effecter b 0x31 0x0304 (leBytes 4 (unsgn 32 v))
/-- GETNUMERICEFFECTERVALUE: the set-point in force. -/
def State.evGetNumeric (s : State) (b : Binding) (n : Nat) : State :=
  s.pldm b 2 0x32 fun s =>
    if n ≠ 201 then (0x80, [], s)
    else if s.stew.role ≠ Role.primary then (ccNotReady, [], s)
    else (0, [1, (lwRat (s.slotAt 8).setpoint * 1000).floor], s)

/-! ### Platform events (05 R234) -/

/-- SETEVENTRECEIVER. -/
def State.evSetReceiver (s : State) (b : Binding) (addr : Nat) : State :=
  s.pldm b 2 0x04 fun s => (0, [], { s with damem := { s.damem with receiver := some addr } })
/-- GETEVENTRECEIVER. -/
def State.evGetReceiver (s : State) (b : Binding) : State :=
  s.pldm b 2 0x05 fun s => (0, [asInt (s.damem.receiver.getD 0)], s)
/-- PLDM_UNSUPPORTED_CMD: a command that R231 does not list is answered ERROR_UNSUPPORTED_PLDM_CMD. -/
def State.evPldmUnsupported (s : State) (b : Binding) (ptype cmd : Nat) : State :=
  if (pldmCommands ptype).contains cmd then s else s.pldm b ptype cmd fun s => (5, [], s)

/-- The sensors that raise events, with the offset and value of each state: the state sensors 1-5 and 110; on sensors 10-13 whether a
sensor of their groups is in its warning state or its throttle state; on sensor 14 whether the inlet warning is set (13 Table 13-9).
Chapter 13 states no threshold of the outlet, sensor 15 (log entry 41). -/
def State.watched (s : State) : List (Nat × Nat × Int) :=
  let stateOf (n : Nat) : List (Nat × Nat × Int) := ((s.stateSensor n).getD []).zipIdx.map fun x => (n, x.2, x.1)
  let heat (n : Nat) (gs : List Nat) : List (Nat × Nat × Int) :=
    (List.range 2).map fun w => (n, w, if gs.any (fun g => s.groupIn g w) then 1 else 0)
  [1, 2, 3, 4, 5, 110].flatMap stateOf ++ heat 10 [0, 1] ++ heat 11 [2] ++ heat 12 [4] ++ heat 13 [3] ++
    [(14, 0, if s.thm.warn.getLsbD 0 then 1 else 0)]

/-- One watched state is compared with what was last reported: a change is an event, sent where there is a receiver. -/
def State.reportOne (s : State) (e : Nat × Nat × Int) : State :=
  let same (x : Nat × Nat × Int) : Bool := x.1 == e.1 && x.2.1 == e.2.1
  let d := s.damem
  match d.reported.find? same with
  | none => { s with damem := { d with reported := e :: d.reported } }
  | some old =>
    if old = e then s
    else
      let s1 := { s with damem := { d with reported := d.reported.map fun x => if same x then e else x } }
      match d.receiver, d.mctpUp with
      | some a, true =>
        let ev : PldmEvent := { sensor := e.1, offset := e.2.1, value := e.2.2, tries := 0 }
        { s1 with damem := { s1.damem with events := s1.damem.events ++ [ev] } }.emit (.pldmEvent a e.1 e.2.1 e.2.2)
      | _, _ => s1

/-- Events follow the sensors; while firmware is absent only those of the hardware event path: what comparator trips and the loop engine move,
which is the device state, the warning of sensor 3 and the ropes (05 R224). -/
def State.followEvents (s : State) : State :=
  (if s.fwAbsent then s.watched.filter fun e => [1, 3, 110].contains e.1 else s.watched).foldl State.reportOne s

/-- The event of a sensor and offset that waits longest. -/
def State.waitingEvent (s : State) (n off : Nat) : Option PldmEvent := s.damem.events.find? fun e => e.sensor == n && e.offset == off

/-- PLDM_EVENT_RESEND: 250 ms have passed without an acknowledgement; after three resends the event is dropped and recorded. -/
def State.evEventResend (s : State) (n off : Nat) : State :=
  match s.waitingEvent n off with
  | none => s
  | some e =>
    if e.tries < 3 then
      let s1 := { s with damem := { s.damem with
        events := s.damem.events.map fun x => if x = e then { x with tries := x.tries + 1 } else x } }
      s1.emit (.pldmEvent (s.damem.receiver.getD 0) n off e.value)
    else ({ s with damem := { s.damem with events := s.damem.events.erase e } }).log 0xA004 (param [(2, n)])

/-- PLATFORM_EVENT_MESSAGE_RESPONSE: the receiver acknowledges. -/
def State.evEventAck (s : State) (n off : Nat) : State :=
  match s.waitingEvent n off with
  | none => s
  | some e => { s with damem := { s.damem with events := s.damem.events.erase e } }

end Sys2Proof.Machine
end

