-- ==== Sys2Proof/Machine/HostEv.lean ====
section
/-! DEFINITION. Writes of the host to registers and to configuration space: the mailbox page, the Hallmark's sealed fields, SR-IOV and
Bus Master Enable, and Function Level Resets (05 Table 05-3, R219, R220, R238, 06 R247, R248, R277, R278, 21 R805, R806, R815-R821). -/
namespace Sys2Proof.Machine

/-! ### Mailbox registers (05 Table 05-3) -/

/-- A write to a page that its function reaches. -/
def State.onPage (s : State) (m : Nat) (f : MbxPage → MbxPage) : State := if s.mbxUp m then s.updPage m f else s

/-- MBX_RESP_CLEAR: a write to MBX_STAT. A RESP_VALID bit written 1 clears and frees its tag; so does ACK clear. -/
def State.evRespClear (s : State) (m : Nat) (v : Reg32) : State :=
  s.onPage m fun pg =>
    let gone (n : Nat) : Bool := bitOf v.toNat (8 + n) && Table.at pg.respValid n false
    { pg with
      respValid := pg.respValid.mapIdx fun n (b : Bool) => b && !gone n
      outstanding := pg.outstanding.mapIdx fun n (b : Bool) => b && !gone n
      ack := pg.ack && !bitOf v.toNat 0 }
/-- MBX_ACK_CLEAR. -/
def State.evAckClear (s : State) (m : Nat) : State := s.onPage m fun pg => { pg with ack := false }
/-- MBX_NOTICE_CI_WRITE: entries are free, and a lost-notices entry that is due is written (05 R219). -/
def State.evNoticeCi (s : State) (m ci : Nat) : State :=
  if s.mbxUp m then (s.updPage m fun pg => { pg with ci := ci % 256 }).flushLost m else s
/-- MBX_INT_CFG_WRITE: a vector that the function's table does not have is recorded, at each such write (06 R248). -/
def State.evIntCfg (s : State) (m : Nat) (v : Reg32) : State :=
  let w := v.toNat
  let s1 := s.onPage m fun pg =>
    { pg with ackIe := bitOf w 31, respIe := bitOf w 30, noticeIe := bitOf w 29, vec := bitsOf w 10 0 }
  if s.mbxUp m ∧ msixSize (mbxFn m) ≤ bitsOf w 10 0 then s1.log 0x2009 (param [(2, bitsOf w 10 0)]) else s1

/-! ### Registers of PF0 (21 R821, 04 R153) -/

/-- A host write to BAR0 of PF0. -/
def State.pf0Write (s : State) (f : State → State) : State := if s.supply.endpoint = .ready then f s else s
/-- HMK_SEAL_WRITE: after the seal every write is recorded and has no other effect. -/
def State.evSealWrite (s : State) : State := s.pf0Write fun s => if s.hmk.sealed then s.log 0x100C (param [(2, 0)]) else s

/-- The offset from its block's base of a register of PF0 that holds an RW-H or RO-H field (03 Table 03-4, 04 Table 04-8,
21 Table 21-8). -/
def sealedOffset (off : Nat) : Option Nat :=
  let h := off - 0x1000000
  if off = 0x10 then some 0x10
  else if 0x1010000 ≤ off ∧ off < 0x1010020 then some (off - 0x1010000)
  else if 0x1000000 ≤ off ∧ ([0x010, 0x014, 0x018, 0x01C, 0x020, 0x030, 0x034, 0x038].contains h ∨ (0x100 ≤ h ∧ h < 0x180)) then some h
  else none
/-- SEALED_FIELD_WRITE: ignored, and recorded with the offset (21 R821). Only PF0 reaches these registers (21 Table 21-10). -/
def State.evSealedWrite (s : State) (fn off : Nat) : State :=
  s.pf0Write fun s => match sealedOffset off with
    | some o => if fn = 0 ∧ off % 4 = 0 ∧ s.hmk.sealed then s.log 0x100C (param [(2, o)]) else s
    | none => s

/-! ### SR-IOV and Bus Master Enable (06 R247, Table 06-12, R278) -/

/-- Partitions whose function leaves: those that VF Enable and NumVFs covered and no longer cover. -/
def State.vfsTo (s : State) (en : Bool) (n : Nat) : State :=
  let was (p : Nat) : Bool := s.sriov.vfEnable && decide (p + 1 ≤ s.sriov.numVfs)
  let is (p : Nat) : Bool := en && decide (p + 1 ≤ n)
  let s1 := { s with sriov := { s.sriov with
    vfEnable := en, numVfs := n, msix := s.sriov.msix.filter fun x => x.1 == 0 || (en && x.1 ≤ n) } }
  ((List.range 16).filter fun p => was p && !is p).foldl (fun (s : State) p => s.outsideStop p .flr true) s1

/-- VF_ENABLE_CLEAR: VF Enable cleared where the operand is 0, else NumVFs lowered to it. -/
def State.evVfClear (s : State) (n : Nat) : State :=
  if s.supply.endpoint ≠ .ready then s
  else if n = 0 then s.vfsTo false s.sriov.numVfs
  else s.vfsTo s.sriov.vfEnable (min n s.sriov.numVfs)

/-- BUS_MASTER_DISABLE: intake pauses and completions are held; one record per partition affected. -/
def State.evBmDisable (s : State) (vf : Nat) : State :=
  let p := vf - 1
  if ¬ s.vfUp vf ∨ ¬ (s.partAt p).busMaster then s
  else
    let s1 := (s.updPart p fun x => { x with busMaster := false }).ringsRefresh p
    let x := s1.partAt p
    if x.state = .none then s1 else s1.log 0x2001 (param [(1, x.state.code), (1, x.cause), (2, 0)]) (some p)
/-- BUS_MASTER_ENABLE: the writes of the rings resume. -/
def State.evBmEnable (s : State) (vf : Nat) : State :=
  if ¬ s.vfUp vf then s
  else (s.partAt (vf - 1)).rings.foldl (fun (s : State) r => s.ringMoved r) (s.updPart (vf - 1) fun x => { x with busMaster := true })

/-! ### Function Level Resets (05 R238, 06 R278, 21 Table 21-9, R817) -/

/-- The responses of a mailbox's requests in progress are discarded, and its page resets. -/
def State.flrPage (s : State) (m : Nat) : State :=
  let fl := s.damem.inflight.map fun (f : InFlight) => match f.req.path with
    | .mbx k => if k.val = m then { f with drop := true } else f
    | .mctp => f
  ({ s with damem := { s.damem with inflight := fl } }).updPage m (freshPage m)
/-- FLR_VF: the partition is aborted and its rings disabled; the function's configuration space resets. -/
def State.evFlrVf (s : State) (vf : Nat) : State :=
  if ¬ s.vfUp vf then s
  else (((s.flrPage (vf - 1)).bar4Clear vf).outsideStop (vf - 1) .flr true).updPart (vf - 1) fun x => { x with busMaster := false }
/-- FLR_PF0: mailbox page 16 resets; partitions and rings run on, and so their functions stay (21 R817). -/
def State.evFlrPf0 (s : State) : State := if s.supply.endpoint = .ready then (s.flrPage 16).bar4Clear 0 else s

/-! ### Writes to registers without behaviour of their own (00 R11, 21 R805, R806) -/

/-- Bytes of a word replaced where their enables are set. -/
def putBytes (l : List Byte) (at_ : Nat) (w be : Nat) : List Byte :=
  let full := bytesAt l 0 1024
  (List.range 1024).map fun i =>
    if at_ ≤ i ∧ i < at_ + 4 ∧ bitOf be (i - at_) then BitVec.ofNat 8 (w / 256 ^ (i - at_)) else full.getD i 0

/-- A write to the page of mailbox `m`: MBX_DB, whose POST waits for its acknowledge; the notice mask, within the permitted set (05 R220);
and the request window, which takes any byte enables (21 R806). POST and the window ignore writes while REQ_BUSY is 1 (05 R196). -/
def State.pageWrite (s : State) (m off : Nat) (v : Reg32) (be : Nat) : State :=
  if (s.pageAt m).reqBusy ∧ (off = 0 ∨ (0x100 ≤ off ∧ off < 0x500)) then s
  else if off = 0 ∧ be % 16 = 15 then (if bitOf v.toNat 0 then s.updPage m fun pg => { pg with reqBusy := true } else s)
  else if off = 0x10 ∧ be % 16 = 15 then s.updPage m fun pg => { pg with mask := BitVec.ofNat 9 v.toNat &&& permittedMask m }
  else if 0x100 ≤ off ∧ off < 0x500 then s.updPage m fun pg => { pg with window := putBytes pg.window (off - 0x100) v.toNat be }
  else s

/-- The mailbox whose page lies at an offset of BAR0 of a function, where the function may write it (05 R193). -/
def pageOf (fn off : Nat) : Option Nat :=
  if fn = 0 then (if 0x110000 ≤ off ∧ off < 0x111000 then some 16 else none)
  else if 0x100000 ≤ off ∧ off < 0x101000 then some (fn - 1) else none

/-- REG_WRITE. -/
def State.evRegWrite (s : State) (fn : Nat) (sel : RegSel) (v : Reg32) (be : Nat) : State :=
  if s.supply.endpoint ≠ .ready then s
  else match sel with
    | .bar0 off =>
      if off % 4 ≠ 0 then s
      else match pageOf fn off with
        | some m => if s.mbxUp m then s.pageWrite m (off % 0x1000) v be else s
        | none => s
    | .bar4 off => if be % 16 = 15 ∧ (fn = 0 ∨ s.vfUp fn) then s.bar4Write fn off v.toNat else s
    | .vfEnable => s.vfsTo (bitOf v.toNat 0) s.sriov.numVfs
    | .numVfs => s.vfsTo s.sriov.vfEnable (v.toNat % 65536)
    | .busMaster vf => if bitOf v.toNat 0 then s.evBmEnable vf else s.evBmDisable vf

end Sys2Proof.Machine
end

