-- ==== Sys2Proof/Machine/Settle.lean ====
section
/-! DEFINITION. How a command ends: what follows of itself from its effect (sheets that nothing holds back any more, requests whose
resources are free, paths and figures brought up to date, platform events), and the queue, which no command touches. -/
namespace Sys2Proof.Machine

/-- Serve every queued request whose wait is over (05 R201). -/
def State.serveAll (s : State) : State := s.serve s.damem.inflight.length
/-- NOP sheets that nothing holds back complete, then queued requests are served. -/
def State.settleRun (s : State) : State := s.followNops.serveAll
/-- The calendar figures, and platform events. -/
def State.report (s : State) : State := s.judgeFigures.followEvents
/-- Paths, and requests that no path serves. -/
def State.settleMesh (s : State) : State := s.followPaths.followEnded
/-- The scorer's channels and its stopping, and the Planish steps whose items have left use. -/
def State.settleScorer (s : State) : State := s.followChannels.followNoChannel.followStopping.planishLeave
/-- What follows in a device out of cold reset; in one that is held there, nothing does (02 R70). -/
def State.settleUnits (s : State) : State :=
  if s.supply.porst ∨ ¬ s.supply.vdeck then s
  else s.settleMesh.settleScorer.followStrandSets.settleRun.report
/-- What follows of itself from a command; last, what the device promises (20 R778, R779). -/
def State.settle (s : State) : State := s.settleUnits.followPromise

/-- A command of the device in state `s` whose own effect gives `t` ends: what follows from it happens, and the queue is as it was. -/
def State.finish (s t : State) : Res := .next { t.settle with pending := s.pending }
/-- The same of a command on the unit `i` of `n`. -/
def State.onUnit (s : State) (i n : Nat) (t : State) : Res := if i < n then s.finish t else .fault .noSuchUnit
/-- The same of an event of a thread group's place. -/
def State.onPlace (s : State) (m q k : Nat) (t : State) : Res := if m < 16 ∧ q < 4 ∧ k < 16 then s.finish t else .fault .noSuchUnit
/-- The same of an instruction of a thread group. -/
def State.onIns (s : State) (g : GIns) (t : State) : Res := s.onPlace g.mould g.quarter g.slot t
/-- The same of a command on a VF, of the 16 that the device has. -/
def State.onVf (s : State) (vf : Nat) (t : State) : Res := if 1 ≤ vf ∧ vf ≤ 16 then s.finish t else .fault .noSuchUnit

/-- A message of the MGMT class is received: its MTYPE, and the CODE of a HANDOVER, decide what it is; a CODE that Table 17-4 does not list
is rejected (00 R10, 11 Table 11-11, 17 Table 17-4). -/
def State.mgmtGo (s : State) (k : Nat) (p : Packet) : State :=
  match p.op with
  | 0x01 => s.evLinkmap p
  | 0x02 => s.evDepart k
  | 0x03 => s.evReconReq p
  | 0x04 => s.evReconRsp p
  | 0x05 => s.evDack p
  | 0x10 => s.evCap p
  | 0x11 => s.evStewbeat p
  | 0x12 => s.evMember p
  | 0x13 => match p.opnd0 % 256 with
    | 1 => s.evOffer p
    | 2 => s.evReady p
    | 3 => s.evRefuse p
    | 4 => s.evDone p
    | _ => if handGood p then s.rejectMgmt p .badArg else s
  | _ => s.evMgmtReject p

/-- Firmware answers these messages: caps, reports and handovers (20 R784, R800). -/
def firmwareMtype (m : Nat) : Bool := m == 0x10 || m == 0x12 || m == 0x13

/-- A message of the MGMT class leaves its buffer: for the hardware path, or for firmware, whose queue of 64 holds it while firmware is
absent (20 R784). -/
def State.mgmtRow (s : State) (k : Nat) (p : Packet) : State :=
  if s.fwAbsent ∧ firmwareMtype p.op then
    (if s.mesh.mgmtIn.contains (k, p) then s
    else
      let q := s.mesh.mgmtIn ++ [(k, p)]
      { s with mesh := { s.mesh with mgmtIn := if 64 < q.length then q.drop (q.length - 64) else q } })
  else (s.takePacket k p).mgmtGo k p

end Sys2Proof.Machine
end

