-- ==== Sys2Proof/Machine/AccCmd.lean ====
section
/-! DEFINITION. The commands: wide accumulators (chapter 08). -/
namespace Sys2Proof.Machine

/-- WACQ (08 R355): WACQ acquires a zeroed wide accumulator in FIFO order. -/
def execWacq (g : GIns) (handle : Nat) (s : State) : Res := s.onIns g (s.evWacq g handle)
/-- WZERO (08 R356): WZERO sets lanes, COUNT and WFLAGS to 0. -/
def execWzero (g : GIns) (handle : Nat) (s : State) : Res := s.onIns g (s.evWzero g handle)
/-- WADD (08 R357): WADD adds each thread's FP32 value exactly to its lane. -/
def execWadd (g : GIns) (handle : Nat) (ra : Nat) (s : State) : Res := s.onIns g (s.evWadd g handle ra)
/-- WSUB (08 R356): WSUB adds the negated value exactly to the lane. -/
def execWsub (g : GIns) (handle : Nat) (ra : Nat) (s : State) : Res := s.onIns g (s.evWsub g handle ra)
/-- WRED (08 R356): WRED adds all 32 lanes exactly into lane 0. -/
def execWred (g : GIns) (handle : Nat) (s : State) : Res := s.onIns g (s.evWred g handle)
/-- WRD (08 R358): WRD returns the lane rounded to FP32. -/
def execWrd (g : GIns) (handle : Nat) (rd : Nat) (s : State) : Res := s.onIns g (s.evWrd g handle rd)
/-- WRD2 (08 R358): WRD2 returns the hi and lo read-out pair. -/
def execWrd2 (g : GIns) (handle : Nat) (rd : Nat) (rd2 : Nat) (s : State) : Res := s.onIns g (s.evWrd2 g handle rd rd2)
/-- WFLG (08 R356): WFLG returns the lane's WFLAGS. -/
def execWflg (g : GIns) (handle : Nat) (rd : Nat) (s : State) : Res := s.onIns g (s.evWflg g handle rd)
/-- WST (08 R356): WST stores the 32 lane images to scratch. -/
def execWst (g : GIns) (handle : Nat) (addr : Nat) (s : State) : Res := s.onIns g (s.evWst g handle addr)
/-- WLD (08 R356): WLD loads the 32 lane images from scratch. -/
def execWld (g : GIns) (handle : Nat) (addr : Nat) (s : State) : Res := s.onIns g (s.evWld g handle addr)
/-- WADDW (08 R356): WADDW adds 32 stored lane images exactly into the lanes. -/
def execWaddw (g : GIns) (handle : Nat) (addr : Nat) (s : State) : Res := s.onIns g (s.evWaddw g handle addr)
/-- WREL (08 R355): WREL releases a wide accumulator. -/
def execWrel (g : GIns) (handle : Nat) (s : State) : Res := s.onIns g (s.evWrel g handle)

end Sys2Proof.Machine
end

