-- ==== Sys2Proof/Machine/AnalogCmd.lean ====
section
/-! DEFINITION. The commands: the analog array (chapter 14). -/
namespace Sys2Proof.Machine

/-- DS_CONVERSION (14 R586): A delta-sigma conversion of a scan entry completes and its sample word is reported. -/
def execDsConversion (n : Nat) (k : Nat) (raw : DsInput) (s : State) : Res :=
  let s1 := (s.evDsConversion n k raw.vin raw.vt).stewScan n k
  if n < 4 ∧ k < 8 then s.finish (State.safeCause (s1.planishBoundary 0x0010 n) 6) else .fault .noSuchUnit
/-- SAR_CONVERSION (14 R592): A SAR conversion of a scan entry completes and its sample word is reported. -/
def execSarConversion (n : Nat) (k : Nat) (vin : Int) (s : State) : Res :=
  if n < 2 ∧ k < 16 then s.finish (State.safeCause ((s.evSarConversion n k vin).planishBoundary 0x0011 n) 6) else .fault .noSuchUnit
/-- STRING_COMPLIANCE_LOSS (14 R606): The excitation source loses compliance, STRING_OK falls and TOUCH samples clamp. -/
def execStringComplianceLoss (s : State) : Res := s.finish (s.evStringLoss)
/-- STRING_COMPLIANCE_REGAIN (14 R590): The excitation source regains compliance and STRING_OK returns to 1, so TOUCH-mode samples no
longer carry EXC. -/
def execStringComplianceRegain (s : State) : Res := s.finish (s.evStringRegain)
/-- SPAN_WRITE (14 R599): Firmware writes a new SPAN; the output goes to the old safe code and HOLD is set. -/
def execSpanWrite (n : Nat) (span : Nat) (s : State) : Res := s.onUnit n 8 (s.evSpanWrite n span)
/-- SPAN_HOLD_END (14 R599): 2 ms after the last SPAN write the span switches and the last held code applies. -/
def execSpanHoldEnd (n : Nat) (s : State) : Res := s.onUnit n 8 (s.evSpanHoldEnd n)
/-- COMPLIANCE_CHECK (14 R600): An output's sense differs from its command for one output period, setting or clearing COMPL_LOST. -/
def execComplianceCheck (n : Nat) (limited : Bool) (sense : Nat) (s : State) : Res := s.onUnit n 8 (s.evCompliance n limited sense)
/-- VLOOP_LOSS (14 R609): VLOOP falls below 17.5 V; current outputs go to 0 mA and VLOOP_OK clears. -/
def execVloopLoss (s : State) : Res := s.finish (s.evVloopLoss)
/-- VLOOP_RETURN (14 R598): VLOOP_OK has been 1 for 100 ms and the outputs resume their codes. -/
def execVloopReturn (s : State) : Res := s.finish (s.evVloopReturn)
/-- SINE_CHANGE (14 R602): A change of INC or AMPL takes effect at the next zero crossing. -/
def execSineChange (n : Nat) (en : Bool) (inc : Nat) (ampl : Nat) (s : State) : Res := s.onUnit n 2 (s.evSine n en inc ampl)
/-- ROPE_PATH_SWITCH (14 R604): After the sine generators have run 20 ms, comparators CMP0–3 switch from the pulses to the rectifiers. -/
def execRopePathSwitch (s : State) : Res := s.finish (s.evRopePath)

end Sys2Proof.Machine
end

