-- ==== Sys2Proof/Machine/BootCmd.lean ====
section
/-! DEFINITION. The commands: boot, recovery, restarts and firmware on trial (chapters 04, 05 and 08). -/
namespace Sys2Proof.Machine

/-- BOOT_COMPLETE (04 R126): Firmware reaches the start state, releases outputs, updates LAST_GOOD and starts the first Planish pass. -/
def execBootComplete (prog : LoopProg) (s : State) : Res := s.finish (s.evBootComplete prog)
/-- BOOT_WATCHDOG (04 R133): A boot that has not completed 2 s after firmware starts ends in HELD with TRIAL or BOOT_TIMEOUT. -/
def execBootWatchdog (s : State) : Res := s.finish (s.evBootWatchdog)
/-- ASSAY_DOUBLE_FAULT (08 R346): A double fault or lockstep mismatch restarts the Assay core alone while the hardware paths run on. -/
def execAssayDoubleFault (cause : AssayFault) (s : State) : Res := s.finish (s.evDoubleFault cause.cause cause.ramOk)
/-- RESTART_COMPLETE (05 R227): After an Assay restart, firmware answers journalled requests and resumes serving. -/
def execRestartComplete (s : State) : Res := s.finish (s.evRestartComplete)
/-- LIVE_HANDOVER_TIMEOUT (05 R225): A hand-over that does not resume within the 250 ms window rolls back to the LAST_GOOD slot. -/
def execLiveHandoverTimeout (s : State) : Res := s.finish (s.evHandoverTimeout)
/-- TRIAL_TIMEOUT (05 R226): TRIAL_S seconds after resume, firmware commits the trial. -/
def execTrialTimeout (s : State) : Res := s.finish (s.evTrialTimeout)
/-- FLASH_OPERATION_DONE (05 R216): A flash erase or program started by FLASH_ERASE, FLASH_WRITE, DIR_SET, PROVISION or CAL_CLEAR with
PERSIST ends, or passes its bound, and the request completes OK or TIMEOUT. -/
def execFlashOperationDone (ok : Bool) (s : State) : Res := s.finish (s.evFlashDone ok)
/-- WMK_SET_TIMEOUT (10 R432): 10 ms after acceptance, WMK_SET with MODE 1 completes with the scorer still WARMING while acquisition
continues. -/
def execWmkSetTimeout (s : State) : Res := s.finish (s.evWmkSetTimeout)
/-- STRAND_SET_TIMEOUT (11 R463): 1 s after acceptance, STRAND_SET with EN 1 completes with training still running. -/
def execStrandSetTimeout (k : Nat) (s : State) : Res := s.onUnit k 64 (s.evStrandSetTimeout k)
/-- TIME_SLEW_END (19 R757): A 1 s slew ends and the frequency trim moves by the offset over the TIME_SET interval. -/
def execTimeSlewEnd (s : State) : Res := s.finish (s.evSlewEnd)

end Sys2Proof.Machine
end

