-- ==== Sys2Proof/Machine/CalCmd.lean ====
section
/-! DEFINITION. The commands: the Calender recorder (chapter 19). -/
namespace Sys2Proof.Machine

/-- CAL_MIRROR (19 R761): A queued persistent record is programmed to the flash region and committed. -/
def execCalMirror (s : State) : Res := s.finish (s.evCalMirror)
/-- TOKEN_REFILL (19 R760): A refilled token on a code with suppressed records writes code 0x0002 with the count. -/
def execTokenRefill (code : Nat) (s : State) : Res := s.finish (s.evTokenRefill code)

end Sys2Proof.Machine
end

