-- ==== Sys2Proof/Machine/DamemCmd.lean ====
section
/-! DEFINITION. The commands: Damem requests, on every path: the opcode is the row's, and the payload decides the variant (chapter 05). -/
namespace Sys2Proof.Machine

/-- NOP (05 R205): The NOP opcode completes OK with no effect. -/
def execNop (r : Req) (s : State) : Res := s.finish (s.evDamem 0x0001 r)
/-- INFO (05 R205): INFO returns the device identity, position, firmware and envelope ID. -/
def execInfo (r : Req) (s : State) : Res := s.finish (s.evDamem 0x0002 r)
/-- STATE_SET_DORMANT (05 R206): STATE_SET with TARGET DORMANT requests entry into DORMANT. -/
def execStateSetDormant (r : Req) (s : State) : Res := s.finish (s.evDamem 0x0101 r)
/-- STATE_SET_STANDBY (05 R206): STATE_SET with TARGET STANDBY requests entry into STANDBY. -/
def execStateSetStandby (r : Req) (s : State) : Res := s.finish (s.evDamem 0x0101 r)
/-- STATE_SET_ANNEAL (05 R206): STATE_SET with TARGET ANNEAL requests entry into ANNEAL. -/
def execStateSetAnneal (r : Req) (s : State) : Res := s.finish (s.evDamem 0x0101 r)
/-- STATE_SET_SAFE (05 R206): STATE_SET with TARGET SAFE enters SAFE with cause 0x07 within 50 ms. -/
def execStateSetSafe (r : Req) (s : State) : Res := s.finish (s.evDamem 0x0101 r)
/-- STATE_GET (05 R205): STATE_GET returns PWR_STATE and PWR_CMP_STAT. -/
def execStateGet (r : Req) (s : State) : Res := s.finish (s.evDamem 0x0102 r)
/-- HALLMARK_QUERY (05 R205): HALLMARK_QUERY returns the HMK_ registers and the OTP fields. -/
def execHallmarkQuery (r : Req) (s : State) : Res := s.finish (s.evDamem 0x0103 r)
/-- DEBUG_TOKEN (05 R207): DEBUG_TOKEN checks an owner-signed token and opens TAP debug when DEBUG is TOKEN. -/
def execDebugToken (r : Req) (s : State) : Res := s.finish (s.evDamem 0x0104 r)
/-- TIME_SET (19 R757): TIME_SET gives host time, and the device steps or slews its clock. -/
def execTimeSet (r : Req) (s : State) : Res := s.finish (s.evDamem 0x0105 r)
/-- PART_CREATE (05 R209): PART_CREATE grants resources within the envelope and creates a stopped partition. -/
def execPartCreate (r : Req) (s : State) : Res := s.finish (s.evDamem 0x0201 r)
/-- PART_RESIZE (05 R210): PART_RESIZE changes a partition's grant, releasing the newest units first. -/
def execPartResize (r : Req) (s : State) : Res := s.finish (s.evDamem 0x0202 r)
/-- PART_DESTROY (05 R210): PART_DESTROY releases a stopped partition's units, marking their memory. -/
def execPartDestroy (r : Req) (s : State) : Res := s.finish (s.evDamem 0x0203 r)
/-- PART_START (06 R252): PART_START passes a stopped partition through Starting to Started, taking the device into SERVING where needed.
-/
def execPartStart (r : Req) (s : State) : Res := s.finish (s.evDamem 0x0204 r)
/-- PART_STOP_DRAIN (06 R273): PART_STOP with MODE DRAIN stops intake and lets accepted sheets finish before their deadline. -/
def execPartStopDrain (r : Req) (s : State) : Res := s.finish (s.evDamem 0x0205 r)
/-- PART_STOP_ABORT (06 R274): PART_STOP with MODE ABORT kills the partition's work and writes ABORTED completions within 1 ms. -/
def execPartStopAbort (r : Req) (s : State) : Res := s.finish (s.evDamem 0x0205 r)
/-- PART_RESET (06 R256): PART_RESET aborts the partition, tears down its rings, drops its image, marks its memory and resets its tallies.
-/
def execPartReset (r : Req) (s : State) : Res := s.finish (s.evDamem 0x0206 r)
/-- PART_QUERY (05 R205): PART_QUERY returns a partition's state, policy, tag and grant. -/
def execPartQuery (r : Req) (s : State) : Res := s.finish (s.evDamem 0x0207 r)
/-- PART_IMAGE (06 R255): PART_IMAGE loads a kernel image into the last 16 MiB of the highest granted HBM granule. -/
def execPartImage (r : Req) (s : State) : Res := s.finish (s.evDamem 0x0208 r)
/-- RING_SETUP (06 R257): RING_SETUP sets up and enables a submission, completion and optional spill ring. -/
def execRingSetup (r : Req) (s : State) : Res := s.finish (s.evDamem 0x0209 r)
/-- RING_TEARDOWN (06 R266): RING_TEARDOWN removes a ring and discards its overflow entries into RNG_DISCARD. -/
def execRingTeardown (r : Req) (s : State) : Res := s.finish (s.evDamem 0x020A r)
/-- THERMAL_QUERY (05 R205): THERMAL_QUERY returns temperatures, power, cap and warning state. -/
def execThermalQuery (r : Req) (s : State) : Res := s.finish (s.evDamem 0x0301 r)
/-- STEWARD_QUERY (17 R686): STEWARD_QUERY returns the steward roles of the row. -/
def execStewardQuery (r : Req) (s : State) : Res := s.finish (s.evDamem 0x0302 r)
/-- STEWARD_RELEASE (17 R690): STEWARD_RELEASE runs the planned handover and withdraws the device's candidacy. -/
def execStewardRelease (r : Req) (s : State) : Res := s.finish (s.evDamem 0x0303 r)
/-- CDU_SETPOINT (05 R213): CDU_SETPOINT writes the coolant supply set-point on the primary steward, within the envelope and guard. -/
def execCduSetpoint (r : Req) (s : State) : Res := s.finish (s.evDamem 0x0304 r)
/-- WMK_SET_ON (10 R432): WMK_SET with MODE 1 enables the scorer and starts WARMING in ANNEAL or SERVING. -/
def execWmkSetOn (r : Req) (s : State) : Res := s.finish (s.evDamem 0x0401 r)
/-- WMK_SET_OFF (10 R437): WMK_SET with MODE 0 stops optical intake, withdraws queued batches and turns the scorer OFF. -/
def execWmkSetOff (r : Req) (s : State) : Res := s.finish (s.evDamem 0x0401 r)
/-- STRAND_SET_DISABLE (11 R463): STRAND_SET with EN 0 moves a strand to DISABLED by planned removal and resend. -/
def execStrandSetDisable (r : Req) (s : State) : Res := s.finish (s.evDamem 0x0402 r)
/-- STRAND_SET_ENABLE (11 R463): STRAND_SET with EN 1 starts probing a strand and completes when it is UP or after 1 s. -/
def execStrandSetEnable (r : Req) (s : State) : Res := s.finish (s.evDamem 0x0402 r)
/-- LINK_QUERY (05 R205): LINK_QUERY returns the UP, MISWIRED, lane and detour maps. -/
def execLinkQuery (r : Req) (s : State) : Res := s.finish (s.evDamem 0x0403 r)
/-- PHOTONIC_QUERY (12 R527): PHOTONIC_QUERY returns unlocked rings, failed lasers, spares and heater headroom. -/
def execPhotonicQuery (r : Req) (s : State) : Res := s.finish (s.evDamem 0x0404 r)
/-- PLANISH_RUN (16 R667): PLANISH_RUN runs one calibration step at once and returns its outcome code. -/
def execPlanishRun (r : Req) (s : State) : Res := s.finish (s.evDamem 0x0501 r)
/-- PLANISH_QUERY (16 R668): PLANISH_QUERY returns the last status, time and step count of an item. -/
def execPlanishQuery (r : Req) (s : State) : Res := s.finish (s.evDamem 0x0502 r)
/-- LOOP_COEF_WRITE_INACTIVE (15 R630): LOOP_COEF MODE 0 writes words into a slot's inactive bank. -/
def execLoopCoefWriteInactive (r : Req) (s : State) : Res := s.finish (s.evDamem 0x0601 r)
/-- LOOP_COEF_SWAP (15 R631): LOOP_COEF MODE 1 arms a bank swap that takes effect at the slot's next start tick. -/
def execLoopCoefSwap (r : Req) (s : State) : Res := s.finish (s.evDamem 0x0601 r)
/-- LOOP_COEF_SINGLE (15 R632): LOOP_COEF MODE 2 writes words one at a time into the active bank. -/
def execLoopCoefSingle (r : Req) (s : State) : Res := s.finish (s.evDamem 0x0601 r)
/-- LOOP_QUERY (15 R640): LOOP_QUERY returns a slot's status, set-point, feedback and output. -/
def execLoopQuery (r : Req) (s : State) : Res := s.finish (s.evDamem 0x0602 r)
/-- FIL_SECTOR_LOAD (18 R737): FIL_SECTOR LOAD stages a sector image and swaps it in through the swap window. -/
def execFilSectorLoad (r : Req) (s : State) : Res := s.finish (s.evDamem 0x0701 r)
/-- FIL_SECTOR_DISABLE (18 R741): FIL_SECTOR DISABLE parks a sector and stops its clocks, keeping its flip-flops. -/
def execFilSectorDisable (r : Req) (s : State) : Res := s.finish (s.evDamem 0x0701 r)
/-- FIL_SECTOR_ENABLE (18 R737): FIL_SECTOR ENABLE returns a disabled sector through the swap window. -/
def execFilSectorEnable (r : Req) (s : State) : Res := s.finish (s.evDamem 0x0701 r)
/-- CAL_READ (19 R764): CAL_READ returns Calender records of the caller's view from an index, inline or as bulk data. -/
def execCalRead (r : Req) (s : State) : Res := s.finish (s.evDamem 0x0801 r)
/-- CAL_CLEAR (19 R765): CAL_CLEAR removes records up to an index, and with PERSIST also erases the persistent region. -/
def execCalClear (r : Req) (s : State) : Res := s.finish (s.evDamem 0x0802 r)
/-- HOLD_QUERY (04 R164): HOLD_QUERY returns HMK_BOOT_STAT, the directory in use and the OTP fields. -/
def execHoldQuery (r : Req) (s : State) : Res := s.finish (s.evDamem 0x0901 r)
/-- FLASH_READ (05 R216): FLASH_READ reads any flash range. -/
def execFlashRead (r : Req) (s : State) : Res := s.finish (s.evDamem 0x0902 r)
/-- FLASH_ERASE (05 R216): FLASH_ERASE erases sectors outside the directory copies, the Calender region and active images. -/
def execFlashErase (r : Req) (s : State) : Res := s.finish (s.evDamem 0x0903 r)
/-- FLASH_WRITE (05 R216): FLASH_WRITE programs erased bytes in the permitted ranges. -/
def execFlashWrite (r : Req) (s : State) : Res := s.finish (s.evDamem 0x0904 r)
/-- IMAGE_CHECK (05 R218): IMAGE_CHECK runs the image checks on a named copy without booting it. -/
def execImageCheck (r : Req) (s : State) : Res := s.finish (s.evDamem 0x0905 r)
/-- DIR_SET (04 R164): DIR_SET sets ACTIVE and TRIAL of one directory entry and writes the directory. -/
def execDirSet (r : Req) (s : State) : Res := s.finish (s.evDamem 0x0906 r)
/-- PROVISION (04 R164): PROVISION writes PROV_HASH and PROV_REQ to the directory for the next cold boot. -/
def execProvision (r : Req) (s : State) : Res := s.finish (s.evDamem 0x0907 r)
/-- RECOVER_RETRY (04 R165): RECOVER RETRY starts a recovery boot from HELD. -/
def execRecoverRetry (r : Req) (s : State) : Res := s.finish (s.evDamem 0x0908 r)
/-- RECOVER_FALLBACK (04 R164): RECOVER FALLBACK sets ACTIVE to LAST_GOOD for the failed image, writes the directory and starts a recovery
boot. -/
def execRecoverFallback (r : Req) (s : State) : Res := s.finish (s.evDamem 0x0908 r)
/-- FW_ACTIVATE_LIVE (05 R223): FW_ACTIVATE LIVE runs the live hand-over into the target slot as a trial. -/
def execFwActivateLive (r : Req) (s : State) : Res := s.finish (s.evDamem 0x0909 r)
/-- FW_ACTIVATE_NEXT_COLD (05 R222): FW_ACTIVATE NEXT_COLD marks the target slot active on trial for the next boot. -/
def execFwActivateNextCold (r : Req) (s : State) : Res := s.finish (s.evDamem 0x0909 r)
/-- FW_COMMIT (05 R226): FW_COMMIT ends the trial, setting LAST_GOOD to the running slot. -/
def execFwCommit (r : Req) (s : State) : Res := s.finish (s.evDamem 0x090A r)
/-- UNKNOWN_OPCODE (05 R200): A Damem request whose opcode is unknown is acknowledged and answered BAD_OPCODE, or rejected at acknowledge
for a malformed header. -/
def execUnknownOpcode (opcode : Nat) (r : Req) (s : State) : Res := s.finish (s.evDamem opcode r)

end Sys2Proof.Machine
end

