-- ==== Sys2Proof/Machine/FilCmd.lean ====
section
/-! DEFINITION. The commands: the Filigree fabric: release, swaps, scrubbing, serial ports, its flash and strobes (chapter 18). -/
namespace Sys2Proof.Machine

/-- FIL_RELEASE_STAGE (18 R731): 4 µs after the previous stage, the next release stage opens outputs, write enables or resets. -/
def execFilReleaseStage (s : State) : Res := s.finish (s.evFilReleaseStage)
/-- SWAP_WINDOW (18 R737): A sector's swap window stops its clocks, loads the new configuration and releases it within 40 µs. -/
def execSwapWindow (n : Nat) (ev : SwapEvents) (s : State) : Res := s.onUnit n 16 (s.evSwapWindow n ev)
/-- SWAP_STAGING_TIMEOUT (18 R748): A window that has not started within 250 ms ends FIL_SECTOR TIMEOUT with nothing changed. -/
def execSwapStagingTimeout (s : State) : Res := s.finish (s.evSwapStagingTimeout)
/-- CONFIG_SCRUB (18 R742): Every 10 ms each sector's configuration is checked, and a mismatch parks and reloads it. -/
def execConfigScrub (n : Nat) (ok : Bool) (s : State) : Res := s.onUnit n 16 (s.evConfigScrub n ok)
/-- FRAME_END (18 R724): An RS485 port's line idle for t3.5 raises FRAME_END with CRC_OK. -/
def execFrameEnd (s : Nat) (st : State) : Res := st.onUnit s 8 (st.evFrameEnd s)
/-- SERIAL_CHARACTER (18 R723): A serial port completes a character received or sent through its FIFOs. -/
def execSerialCharacter (s : Nat) (rx : Bool) (byte : Byte) (gap : Bool) (st : State) : Res :=
  st.onUnit s 8 (st.evSerialCharacter s rx byte gap)
/-- FABRIC_FLASH_PROGRAM (18 R722): A sector programs a 64-bit word of its fabric flash region; `cut`: power is lost meanwhile. -/
def execFabricFlashProgram (n : Nat) (word : Nat) (value : FlashValue) (s : State) : Res :=
  s.onUnit n 16 (s.evFabricFlashProgram n word value.value value.cut)
/-- FABRIC_FLASH_ERASE (18 R722): A sector erases a 4 KiB page of its fabric flash region; `cut`: power is lost meanwhile. -/
def execFabricFlashErase (n : Nat) (page : FlashPage) (s : State) : Res := s.onUnit n 16 (s.evFabricFlashErase n page.page page.cut)
/-- IN_REG_STROBE (18 R728): A rising STROBEr latches IN_REGr as a new sample for the loop engine. -/
def execInRegStrobe (r : Nat) (value : Reg32) (s : State) : Res := s.onUnit r 32 (s.evInRegStrobe r value)
/-- SEC_PULSE (18 R728): The real-time clock sends a 30.5 µs pulse to the fabric at each whole second. -/
def execSecPulse (s : State) : Res := s.finish (s.evSecPulse)
/-- OSC_TRIM (18 R719): Every 16 s the 1 MHz and 48 MHz oscillators are trimmed against the XTAL32 source. -/
def execOscTrim (t1 : Nat) (t48 : Nat) (s : State) : Res := s.finish (s.evOscTrim t1 t48)

end Sys2Proof.Machine
end

