-- ==== Sys2Proof/Machine/HostCmd.lean ====
section
/-! DEFINITION. The commands: what the host does to functions, mailboxes and registers (chapters 05, 06 and 21). -/
namespace Sys2Proof.Machine

/-- FLR_VF (06 R277): A Function Level Reset of VF p + 1 aborts partition p and disables its rings. -/
def execFlrVf (vf : Nat) (s : State) : Res := s.onVf vf (s.evFlrVf vf)
/-- FLR_PF0 (21 R817): A Function Level Reset of PF0 resets only its configuration and mailbox page 16 and leaves partitions running. -/
def execFlrPf0 (s : State) : Res := s.finish (s.evFlrPf0)
/-- VF_ENABLE_CLEAR (06 R277): Clearing VF Enable, or lowering NumVFs, aborts the partitions concerned and disables their rings. -/
def execVfEnableClear (numVfs : Nat) (s : State) : Res := s.finish (s.evVfClear numVfs)
/-- BUS_MASTER_DISABLE (06 R277): Clearing Bus Master Enable on a VF pauses its rings' intake and holds their completions. -/
def execBusMasterDisable (vf : Nat) (s : State) : Res := s.onVf vf (s.evBmDisable vf)
/-- BUS_MASTER_ENABLE (06 R277): Setting Bus Master Enable again resumes the writes of the VF's rings. -/
def execBusMasterEnable (vf : Nat) (s : State) : Res := s.onVf vf (s.evBmEnable vf)
/-- MBX_RESP_CLEAR (05 R195): Clearing a RESP_VALID bit frees the tag of that response slot. -/
def execMbxRespClear (m : Nat) (value : Reg32) (s : State) : Res := s.onUnit m 17 (s.evRespClear m value)
/-- MBX_ACK_CLEAR (05 R195): A W1C write clears the ACK bit of MBX_STAT. -/
def execMbxAckClear (m : Nat) (s : State) : Res := s.onUnit m 17 (s.evAckClear m)
/-- MBX_NOTICE_CI_WRITE (05 R219): The host advances CI, which frees notice entries and lets the lost-notice notice be written. -/
def execMbxNoticeCiWrite (m : Nat) (ci : Nat) (s : State) : Res := s.onUnit m 17 (s.evNoticeCi m ci)
/-- MBX_INT_CFG_WRITE (06 R248): A write to MBX_INT_CFG sets the vectors; a VEC beyond the MSI-X table raises no vector and is recorded.
-/
def execMbxIntCfgWrite (m : Nat) (value : Reg32) (s : State) : Res := s.onUnit m 17 (s.evIntCfg m value)
/-- HMK_SEAL_WRITE (04 R153): A write to HMK_SEAL after the seal has no effect and writes code 0x100C. -/
def execHmkSealWrite (_value : Reg32) (s : State) : Res := s.finish (s.evSealWrite)
/-- SEALED_FIELD_WRITE (21 R821): A write to a register with RW-H or RO-H fields after the seal is ignored and writes code 0x100C. -/
def execSealedFieldWrite (fn : Nat) (offset : Nat) (_value : Reg32) (s : State) : Res := s.finish (s.evSealedWrite fn offset)
/-- CLK_ALARM_S_WRITE (21 R812): A write to CLK_ALARM_S sets the alarm seconds and disarms the alarm. -/
def execClkAlarmSWrite (value : Reg32) (s : State) : Res := s.finish (s.pf0Write fun s => s.evAlarmS value.toNat)
/-- CLK_ALARM_ARM (21 R812): A write to CLK_ALARM_CTL sets FRAC, WAKE_EN and ARM, disarming on a FRAC change without ARM. -/
def execClkAlarmArm (value : Reg32) (s : State) : Res := s.finish (s.pf0Write fun s => s.evAlarmCtl value.toNat)
/-- CLK_ALARM_FIRED_CLEAR (21 R811): A W1C write clears FIRED. -/
def execClkAlarmFiredClear (s : State) : Res :=
  s.finish (s.pf0Write fun s => { s with clocks := { s.clocks with alarmFired := false } })
/-- REG_LO_READ (21 R807): A read of a _LO register, or of CAL_TIME_S, latches the matching high word for the reading function. A
read of BAR4 latches nothing (R803). -/
def execRegLoRead (fn : Nat) (offset : BarOffset) (s : State) : Res :=
  s.finish (if offset.bar4 then s.evBar4Read fn offset.off else s.evRegRead fn offset.off)
/-- REG_WRITE (00 R11): A write to a register with no behaviour of its own takes effect as its access codes state. -/
def execRegWrite (fn : Nat) (sel : RegSel) (value : Reg32) (be : Nat) (s : State) : Res := s.finish (s.evRegWrite fn sel value be)

end Sys2Proof.Machine
end

