-- ==== Sys2Proof/Machine/LoopCmd.lean ====
section
/-! DEFINITION. The commands: the loop engine (chapter 15). -/
namespace Sys2Proof.Machine

/-- SLOT_SAMPLE (15 R614): At a start tick a slot reads its inputs, judges feedback, computes its law and forms its outputs. -/
def execSlotSample (s : Nat) (st : State) : Res := st.onUnit s 64 (st.evSlotSample s)
/-- SLOT_OUTPUT_PHASE (15 R622): At tick t + O the slot delivers its outputs to analog outputs, inner set-points or Filigree registers. -/
def execSlotOutputPhase (s : Nat) (st : State) : Res := st.onUnit s 64 (st.evOutputPhase s)
/-- SETPOINT_WRITE (15 R626): Firmware writes a slot set-point, accepted or rejected by the envelope and guard. -/
def execSetpointWrite (s : Nat) (value : Reg32) (st : State) : Res := st.onUnit s 64 (st.evSetpoint s value)
/-- SLOT_ENABLE (15 R639): Firmware enables a slot, which starts preloaded at its next start tick. -/
def execSlotEnable (s : Nat) (st : State) : Res := st.onUnit s 64 (st.evSlotEnable s)
/-- SLOT_DISABLE (15 R639): Firmware disables a slot, whose destinations take DISABLE values at the next output phase. -/
def execSlotDisable (s : Nat) (st : State) : Res := st.onUnit s 64 (st.evSlotDisable s)

end Sys2Proof.Machine
end

