-- ==== Sys2Proof/Machine/MatrixCmd.lean ====
section
/-! DEFINITION. The commands: accumulator tiles, matrix operations and the copy engine (chapter 07). -/
namespace Sys2Proof.Machine

/-- MACQ (07 R309): MACQ acquires an accumulator tile in FIFO order among the quarter's groups. -/
def execMacq (g : GIns) (handle : Nat) (s : State) : Res := s.onIns g (s.evMacq g handle)
/-- MZERO (07 R309): MZERO sets a tile to +0. -/
def execMzero (g : GIns) (handle : Nat) (s : State) : Res := s.onIns g (s.evMzero g handle)
/-- MLD (07 R309): MLD loads a tile from scratch. -/
def execMld (g : GIns) (handle : Nat) (addr : Nat) (s : State) : Res := s.onIns g (s.evMld g handle addr)
/-- MMA (07 R311): MMA.fmt adds A × B into a tile with exact products and FP32 additions in increasing k. -/
def execMma (g : GIns) (handle : Nat) (fa : Fmt) (fb : Fmt) (aAddr : Nat) (bAddr : Nat) (k : Nat) (bExp : Nat) (s : State) : Res :=
  s.onIns g (s.evMma g handle fa fb aAddr bAddr k bExp)
/-- MST (07 R309): MST.fmt stores a tile to scratch in the chosen format. -/
def execMst (g : GIns) (handle : Nat) (fmt : Fmt) (addr : Nat) (s : State) : Res := s.onIns g (s.evMst g handle fmt addr)
/-- MWAIT (07 R309): MWAIT waits until the group's earlier matrix instructions on the handle have ended. -/
def execMwait (g : GIns) (handle : Nat) (s : State) : Res := s.onIns g (s.evMwait g handle)
/-- MREL (07 R309): MREL releases a tile after its earlier instructions end. -/
def execMrel (g : GIns) (handle : Nat) (s : State) : Res := s.onIns g (s.evMrel g handle)
/-- MATRIX_OP_DONE (07 R312): An executing matrix instruction ends and the next queued one starts. -/
def execMatrixOpDone (mould : Nat) (quarter : Nat) (s : State) : Res :=
  if mould < 16 ∧ quarter < 4 then s.finish (s.evMatrixOpDone mould quarter) else .fault .noSuchUnit
/-- MCOPY (07 R316): MCOPY starts a bulk copy between partition memory and scratch. -/
def execMcopy (g : GIns) (toScratch : Bool) (scratch : Nat) (va : Nat) (len : Nat) (s : State) : Res :=
  s.onIns g (s.evMcopy g toScratch scratch va len)
/-- CWAIT (07 R316): CWAIT waits until at most n copies of the group are outstanding. -/
def execCwait (g : GIns) (n : Nat) (s : State) : Res := s.onIns g (s.evCwait g n)
/-- COPY_DONE (07 R316): A bulk copy completes in issue order. -/
def execCopyDone (mould : Nat) (quarter : Nat) (slot : Nat) (s : State) : Res :=
  s.onPlace mould quarter slot (s.evCopyDone mould quarter slot)

end Sys2Proof.Machine
end

