-- ==== Sys2Proof/Machine/MctpCmd.lean ====
section
/-! DEFINITION. The commands: MCTP control and PLDM messages on the management bindings (chapter 05). -/
namespace Sys2Proof.Machine

/-- SET_ENDPOINT_ID (05 R229): The MCTP control command Set Endpoint ID assigns the endpoint ID. -/
def execSetEndpointId (b : Binding) (op : Nat) (eid : Nat) (s : State) : Res := s.finish (s.evSetEid b op eid)
/-- GET_ENDPOINT_ID (05 R229): The MCTP control command Get Endpoint ID returns the endpoint ID. -/
def execGetEndpointId (b : Binding) (s : State) : Res := s.finish (s.evGetEid b)
/-- GET_ENDPOINT_UUID (05 R229): The MCTP control command Get Endpoint UUID returns the UUID. -/
def execGetEndpointUuid (b : Binding) (s : State) : Res := s.finish (s.evGetUuid b)
/-- GET_MCTP_VERSION_SUPPORT (05 R229): The MCTP control command Get MCTP Version Support returns the versions supported. -/
def execGetMctpVersionSupport (b : Binding) (mtype : Nat) (s : State) : Res := s.finish (s.evGetVersion b mtype)
/-- GET_MESSAGE_TYPE_SUPPORT (05 R229): The MCTP control command Get Message Type Support returns the message types supported. -/
def execGetMessageTypeSupport (b : Binding) (s : State) : Res := s.finish (s.evGetTypes b)
/-- GET_VENDOR_DEFINED_MSG_SUPPORT (05 R229): The MCTP control command Get Vendor Defined Message Support returns the vendor message
support. -/
def execGetVendorDefinedMsgSupport (b : Binding) (sel : Nat) (s : State) : Res := s.finish (s.evGetVendor b sel)
/-- MCTP_UNSUPPORTED_CMD (05 R229): Any other MCTP control command is answered ERROR_UNSUPPORTED_CMD. -/
def execMctpUnsupportedCmd (b : Binding) (cmd : Nat) (s : State) : Res := s.finish (s.evMctpUnsupported b cmd)
/-- MCTP_OTHER_TYPE (05 R229): An MCTP message of an unsupported type is dropped. -/
def execMctpOtherType (_b : Binding) (_mtype : Nat) (s : State) : Res := s.finish s
/-- GETTID (05 R231): The PLDM command GetTID returns the terminus ID. -/
def execGettid (b : Binding) (s : State) : Res := s.finish (s.evGetTid b)
/-- SETTID (05 R231): The PLDM command SetTID sets the terminus ID. -/
def execSettid (b : Binding) (tid : Nat) (s : State) : Res := s.finish (s.evSetTid b tid)
/-- GETPLDMVERSION (05 R231): The PLDM command GetPLDMVersion returns the supported versions. -/
def execGetpldmversion (b : Binding) (ptype : Nat) (s : State) : Res := s.finish (s.evPldmVersion b ptype)
/-- GETPLDMTYPES (05 R231): The PLDM command GetPLDMTypes returns types 0 and 2. -/
def execGetpldmtypes (b : Binding) (s : State) : Res := s.finish (s.evPldmTypes b)
/-- GETPLDMCOMMANDS (05 R231): The PLDM command GetPLDMCommands returns the supported commands. -/
def execGetpldmcommands (b : Binding) (ptype : Nat) (s : State) : Res := s.finish (s.evPldmCommands b ptype)
/-- GETPDRREPOSITORYINFO (05 R232): The PLDM command GetPDRRepositoryInfo describes the PDR repository. -/
def execGetpdrrepositoryinfo (b : Binding) (s : State) : Res := s.finish (s.evPdrInfo b)
/-- GETPDR (05 R232): The PLDM command GetPDR returns a PDR of the sensors and effecters. -/
def execGetpdr (b : Binding) (handle : Nat) (s : State) : Res := s.finish (s.evGetPdr b handle)
/-- GETSENSORREADING (05 R232): The PLDM command GetSensorReading returns a numeric sensor, or NOT_READY for a CDU sensor off the primary.
-/
def execGetsensorreading (b : Binding) (sensor : Nat) (s : State) : Res := s.finish (s.evSensorReading b sensor)
/-- GETSTATESENSORREADINGS (05 R232): The PLDM command GetStateSensorReadings returns state sensors. -/
def execGetstatesensorreadings (b : Binding) (sensor : Nat) (s : State) : Res := s.finish (s.evStateReadings b sensor)
/-- SETSTATEEFFECTERSTATES (05 R233): The PLDM command SetStateEffecterStates on effecter 200 acts as STATE_SET from MCTP. -/
def execSetstateeffecterstates (b : Binding) (effecter : Nat) (state : Nat) (s : State) : Res :=
  s.finish (s.evSetState b effecter state)
/-- GETSTATEEFFECTERSTATES (05 R231): The PLDM command GetStateEffecterStates returns the state effecter. -/
def execGetstateeffecterstates (b : Binding) (effecter : Nat) (s : State) : Res := s.finish (s.evGetState b effecter)
/-- SETNUMERICEFFECTERVALUE (05 R233): The PLDM command SetNumericEffecterValue on effecter 201 acts as CDU_SETPOINT from MCTP. -/
def execSetnumericeffectervalue (b : Binding) (effecter : Nat) (value : Int) (s : State) : Res :=
  s.finish (s.evSetNumeric b effecter value)
/-- GETNUMERICEFFECTERVALUE (05 R231): The PLDM command GetNumericEffecterValue returns the numeric effecter. -/
def execGetnumericeffectervalue (b : Binding) (effecter : Nat) (s : State) : Res := s.finish (s.evGetNumeric b effecter)
/-- SETEVENTRECEIVER (05 R234): The PLDM command SetEventReceiver sets the receiver of platform events. -/
def execSeteventreceiver (b : Binding) (addr : Nat) (s : State) : Res := s.finish (s.evSetReceiver b addr)
/-- GETEVENTRECEIVER (05 R231): The PLDM command GetEventReceiver returns the event receiver. -/
def execGeteventreceiver (b : Binding) (s : State) : Res := s.finish (s.evGetReceiver b)
/-- PLDM_UNSUPPORTED_CMD (05 R231): Any other PLDM command is answered ERROR_UNSUPPORTED_PLDM_CMD. -/
def execPldmUnsupportedCmd (b : Binding) (ptype : Nat) (cmd : Nat) (s : State) : Res := s.finish (s.evPldmUnsupported b ptype cmd)
/-- PLDM_EVENT_RESEND (05 R234): An unacknowledged platform event is resent after 250 ms, at most three times, then dropped and recorded.
-/
def execPldmEventResend (sensor : Nat) (offset : Nat) (s : State) : Res := s.finish (s.evEventResend sensor offset)
/-- ENTDAA (05 R228): In I3C mode the bus controller's ENTDAA assigns the device's dynamic address on the management port. -/
def execEntdaa (addr : Nat) (s : State) : Res := s.finish (s.evEntdaa addr)
/-- PLATFORM_EVENT_MESSAGE_RESPONSE (05 R234): The event receiver acknowledges a PlatformEventMessage, which ends the resends of that
event. -/
def execPlatformEventMessageResponse (sensor : Nat) (offset : Nat) (s : State) : Res := s.finish (s.evEventAck sensor offset)

end Sys2Proof.Machine
end

