-- ==== Sys2Proof/Machine/MemCmd.lean ====
section
/-! DEFINITION. The commands: loads, stores, atomics, fences and translation (chapters 07 and 09). -/
namespace Sys2Proof.Machine

/-- LOAD (07 R313): A load translates its addresses and occupies the memory pipe one cycle per distinct sector. -/
def execLoad (g : GIns) (op : MemOp) (s : State) : Res := s.onIns g (s.evLoad g op)
/-- STORE (07 R313): A store translates and checks every sector before writing any. -/
def execStore (g : GIns) (op : MemOp) (s : State) : Res := s.onIns g (s.evStore g op)
/-- ATOMIC_INSTR (09 R392): An atomic operates on an aligned word at the memory that holds it, in one total order. -/
def execAtomicInstr (g : GIns) (op : AtomOp) (s : State) : Res := s.onIns g (s.evAtomicInstr g op)
/-- LD_ACQ (09 R391): LD.ACQ loads and then performs an acquire. -/
def execLdAcq (g : GIns) (op : MemOp) (s : State) : Res := s.onIns g (s.evLdAcq g op)
/-- ST_REL (09 R391): ST.REL performs a row-scope release and then stores. -/
def execStRel (g : GIns) (op : MemOp) (s : State) : Res := s.onIns g (s.evStRel g op)
/-- FENCE_P (09 R391): FENCE.P is a release and acquire for the partition's local memory. -/
def execFenceP (g : GIns) (s : State) : Res := s.onIns g (s.evFenceP g)
/-- FENCE_R (09 R391): FENCE.R is a release and acquire at row scope. -/
def execFenceR (g : GIns) (s : State) : Res := s.onIns g (s.evFenceR g)
/-- XLT_ROOT_WRITE (09 R384): A write to a ROOT register queues an invalidation with ALL = 1. -/
def execXltRootWrite (vf : Nat) (hi : Bool) (value : Reg32) (s : State) : Res := s.onUnit vf 17 (s.evXltRootWrite vf hi value)
/-- XLT_INV_ALL (09 R384): RNG_XLT_INV_CMD with ALL = 1 queues invalidation of every translation of the partition. -/
def execXltInvAll (vf : Nat) (value : Reg32) (s : State) : Res := s.onUnit vf 17 (s.evXltInvAll vf value)
/-- XLT_INV_RANGE (09 R384): RNG_XLT_INV_CMD with COUNT ≥ 1 queues invalidation of COUNT pages from the VA registers. -/
def execXltInvRange (vf : Nat) (value : Reg32) (s : State) : Res := s.onUnit vf 17 (s.evXltInvRange vf value)
/-- INVALIDATION_DONE (09 R384): An invalidation completes at the head of its queue and DONE advances. -/
def execInvalidationDone (part : Nat) (s : State) : Res := s.onUnit part 16 (s.evInvalidationDone part)
/-- BAR2_ACCESS (09 R377): A host BAR2 access reaches partition memory, or reads zeros and counts RNG_XLT_BARMISS. -/
def execBar2Access (vf : Nat) (addr : Nat) (wr : Option (List Byte)) (len : Nat) (s : State) : Res :=
  s.onUnit vf 17 (s.evBar2Access vf addr wr len)

end Sys2Proof.Machine
end

