-- ==== Sys2Proof/Machine/MgmtCmd.lean ====
section
/-! DEFINITION. The commands: messages of the management class (chapters 11, 13 and 17). -/
namespace Sys2Proof.Machine

/-- LINKMAP (11 R484): A LINKMAP message updates the sender's UP-strand map for detour choice. -/
def execLinkmap (k : Nat) (p : Packet) (s : State) : Res := s.onUnit k 64 (s.mgmtRow k p)
/-- LINKMAP_SEND (11 R484): A device sends LINKMAP every 10 ms and within 100 µs of a change. -/
def execLinkmapSend (s : State) : Res := s.finish (s.evLinkmapSend)
/-- DEPART (11 R485): A DEPART takes the strand to DARK without fault, runs resend and probes. -/
def execDepart (k : Nat) (p : Packet) (s : State) : Res := s.onUnit k 64 (s.mgmtRow k p)
/-- RECON_REQ (11 R475): A RECON_REQ is answered with RECON_RSP carrying LAST or UNKNOWN. -/
def execReconReq (k : Nat) (p : Packet) (s : State) : Res := s.onUnit k 64 (s.mgmtRow k p)
/-- RECON_RSP (11 R475): A RECON_RSP lets the sender resend packets not wholly delivered. -/
def execReconRsp (k : Nat) (p : Packet) (s : State) : Res := s.onUnit k 64 (s.mgmtRow k p)
/-- DACK (11 R477): A DACK frees detoured packets from the detour store. -/
def execDack (k : Nat) (p : Packet) (s : State) : Res := s.onUnit k 64 (s.mgmtRow k p)
/-- DACK_SEND (11 R477): A target returns a DACK at least every 10 µs while detoured packets arrive. -/
def execDackSend (dst : Nat) (s : State) : Res := s.finish (s.evDackSend dst)
/-- MGMT_REJECT (11 R484): An unknown MTYPE is answered with REJECT carrying BAD_OPCODE, and a received REJECT is recorded. -/
def execMgmtReject (k : Nat) (p : Packet) (s : State) : Res := s.onUnit k 64 (s.mgmtRow k p)
/-- CAP (13 R554): A cap packet from the recognised primary with current epoch and newer SEQ sets the cap in force. -/
def execCap (k : Nat) (p : Packet) (s : State) : Res := s.onUnit k 64 (s.mgmtRow k p)
/-- STEWBEAT (17 R685): A STEWBEAT updates the recognised primary, standby and snapshot. -/
def execStewbeat (k : Nat) (p : Packet) (s : State) : Res := s.onUnit k 64 (s.mgmtRow k p)
/-- STEWBEAT_SEND (17 R682): The primary and named standby send STEWBEAT every 50 ms. -/
def execStewbeatSend (s : State) : Res := s.finish (s.evStewbeatSend)
/-- MEMBER (17 R683): A MEMBER report makes its sender current for 300 ms and feeds candidacy and the budget. -/
def execMember (k : Nat) (p : Packet) (s : State) : Res := s.onUnit k 64 (s.mgmtRow k p)
/-- MEMBER_SEND (17 R682): Every device in STANDBY, ANNEAL or SERVING sends MEMBER every 100 ms. -/
def execMemberSend (s : State) : Res := s.finish (s.evMemberSend)
/-- OFFER (17 R690): A HANDOVER OFFER asks the standby to take the primary role. -/
def execOffer (k : Nat) (p : Packet) (s : State) : Res := s.onUnit k 64 (s.mgmtRow k p)
/-- READY (17 R690): A HANDOVER READY lets the old primary release K0 and K1. -/
def execReady (k : Nat) (p : Packet) (s : State) : Res := s.onUnit k 64 (s.mgmtRow k p)
/-- REFUSE (17 R690): A HANDOVER REFUSE makes the primary give up the role with the CDU at fallback. -/
def execRefuse (k : Nat) (p : Packet) (s : State) : Res := s.onUnit k 64 (s.mgmtRow k p)
/-- DONE (17 R690): A HANDOVER DONE lets the new primary drive ROWBEAT, STEWBEAT and the relays. -/
def execDone (k : Nat) (p : Packet) (s : State) : Res := s.onUnit k 64 (s.mgmtRow k p)
/-- READY_TIMEOUT (17 R690): No READY within 5 ms makes the primary release its relays and give up the role. -/
def execReadyTimeout (s : State) : Res := s.finish (s.evReadyTimeout)

end Sys2Proof.Machine
end

