-- ==== Sys2Proof/Machine/PacketCmd.lean ====
section
/-! DEFINITION. The commands: requests and answers of the mesh (chapter 11). -/
namespace Sys2Proof.Machine

/-- CHL_REQUEST_ISSUE (11 R467): An issuer sends a queued request once its answer is reserved, on a hashed strand or by detour. -/
def execChlRequestIssue (s : State) : Res := s.finish (s.evChlRequestIssue)
/-- READ (11 R464): A READ packet is admitted or refused and answered with READ_RSP. -/
def execRead (k : Nat) (p : Packet) (s : State) : Res := s.onUnit k 64 (s.serveRequest k p)
/-- WRITE (11 R465): A WRITE packet writes the selected bytes and is answered WRITE_ACK after being performed. -/
def execWrite (k : Nat) (p : Packet) (s : State) : Res := s.onUnit k 64 (s.serveRequest k p)
/-- ATOMIC (11 R465): An ATOMIC packet performs the atomic and returns the old value. -/
def execAtomic (k : Nat) (p : Packet) (s : State) : Res := s.onUnit k 64 (s.serveRequest k p)
/-- TALLY (09 R397): A TALLY packet runs TLD, TADD, TADDR or TSET at the home device. -/
def execTally (k : Nat) (p : Packet) (s : State) : Res := s.onUnit k 64 (s.serveRequest k p)
/-- WATCH (09 R397): A WATCH registers in the watch table, or is answered at once or FULL. -/
def execWatch (k : Nat) (p : Packet) (s : State) : Res := s.onUnit k 64 (s.serveRequest k p)
/-- WATCH_CANCEL (11 R464): A WATCH_CANCEL removes a watch and is answered CANCEL_ACK. -/
def execWatchCancel (k : Nat) (p : Packet) (s : State) : Res := s.onUnit k 64 (s.serveRequest k p)
/-- READ_RSP (11 R468): A READ_RSP lands in its reservation, or is discarded if no live reservation matches. -/
def execReadRsp (k : Nat) (p : Packet) (s : State) : Res := s.onUnit k 64 (s.landResponse k p)
/-- WRITE_ACK (11 R468): A WRITE_ACK frees its reservation. -/
def execWriteAck (k : Nat) (p : Packet) (s : State) : Res := s.onUnit k 64 (s.landResponse k p)
/-- ATOMIC_RSP (11 R468): An ATOMIC_RSP returns the old value and frees its reservation. -/
def execAtomicRsp (k : Nat) (p : Packet) (s : State) : Res := s.onUnit k 64 (s.landResponse k p)
/-- TALLY_RSP (11 R468): A TALLY_RSP completes a remote tally operation. -/
def execTallyRsp (k : Nat) (p : Packet) (s : State) : Res := s.onUnit k 64 (s.landResponse k p)
/-- WATCH_ANS (09 R397): A WATCH_ANS makes the waiter ready, or starts polling on FULL. -/
def execWatchAns (k : Nat) (p : Packet) (s : State) : Res := s.onUnit k 64 (s.landResponse k p)
/-- CANCEL_ACK (11 R468): A CANCEL_ACK frees the watch reservation. -/
def execCancelAck (k : Nat) (p : Packet) (s : State) : Res := s.onUnit k 64 (s.landResponse k p)

end Sys2Proof.Machine
end

