-- ==== Sys2Proof/Machine/PhotonicCmd.lean ====
section
/-! DEFINITION. The commands: rings, heaters and lasers (chapter 12). -/
namespace Sys2Proof.Machine

/-- BANK_SWEEP (12 R508): A bank's heaters are swept once its sub-mount is at temperature, and each ring locks at its resonance. -/
def execBankSweep (bank : Nat) (found : List (List Resonance)) (s : State) : Res := s.onUnit bank 20 (s.evBankSweep bank found)
/-- SUBMOUNT_AT_TEMPERATURE (12 R521): A laser sub-mount first reaches temperature after its start. -/
def execSubmountAtTemperature (a : Nat) (temp : Int) (s : State) : Res := s.onUnit a 24 (s.evSubmount a temp)
/-- RING_LOCK_UPDATE (12 R504): Every 64 µs each ring's lock-in output updates its heater word by the PI law. -/
def execRingLockUpdate (n : Nat) (ratio : Int) (s : State) : Res := s.onUnit n 704 (s.evLockUpdate n ratio)
/-- NARROW_ACQUIRE (12 R509): A ring with a map entry sweeps ±128 codes about its seed and locks, or falls back to a full sweep. -/
def execNarrowAcquire (n : Nat) (found : Option Resonance) (s : State) : Res := s.onUnit n 704 (s.evNarrow n found)
/-- RING_LOST (12 R511): A ring with lock error beyond ±3 pm, or low tap power, for 200 µs enters LOST. -/
def execRingLost (n : Nat) (lowTap : Bool) (s : State) : Res := s.onUnit n 704 (s.evRingLost n lowTap)
/-- RING_RAIL (12 R514): A ring at code 0 or 4,095 sets RAIL, and after 100 ms enters LOST. -/
def execRingRail (n : Nat) (held : Bool) (s : State) : Res := s.onUnit n 704 (s.evRingRail n held)
/-- LASER_POWER_UPDATE (12 R520): Each wavelength's power loop updates its bias at 15.625 kHz. -/
def execLaserPowerUpdate (a : Nat) (monitor : List Nat) (s : State) : Res := s.onUnit a 24 (s.evLaserPower a monitor)
/-- WAVELENGTH_FAIL (12 R523): A wavelength below 70 % power at bias limit for 200 µs, or a drifting sub-mount, fails. -/
def execWavelengthFail (a : Nat) (mask : BitVec 16) (submount : Bool) (s : State) : Res := s.onUnit a 24 (s.evWaveFail a mask submount)

end Sys2Proof.Machine
end

