-- ==== Sys2Proof/Machine/PlanishCmd.lean ====
section
/-! DEFINITION. The commands: self-calibration (chapter 16). -/
namespace Sys2Proof.Machine

/-- PLANISH_STEP (16 R655): An item's interval expires and its step runs TOUCH, precondition, measurement, plausibility and application.
-/
def execPlanishStep (qty : Nat) (index : Nat) (m : PMeas) (s : State) : Res :=
  s.finish (State.safeCause (s.evPlanishStep qty index m) 6)
/-- PLANISH_WITHDRAW (16 R653): A step that found no gap by its second interval takes a scorer channel or lane by withdrawal. -/
def execPlanishWithdraw (qty : Nat) (index : Nat) (m : PMeas) (s : State) : Res :=
  s.finish (State.safeCause (s.evPlanishWithdraw qty index m) 6)
/-- PLANISH_TAP (16 R658): A tap-by-tap coefficient moves one tap per sample period of its path. -/
def execPlanishTap (dom : Nat) (s : State) : Res := s.onUnit dom 5 (State.safeCause (s.evPlanishTap dom) 6)
/-- PLANISH_TIMEOUT (16 R656): A step passes its timeout and ends TIMEOUT with old coefficients. -/
def execPlanishTimeout (dom : Nat) (s : State) : Res := s.onUnit dom 5 (State.safeCause (s.evPlanishTimeout dom) 6)
/-- PLANISH_OVERDUE (16 R664): An item with no DONE for twice its interval becomes OVERDUE. -/
def execPlanishOverdue (qty : Nat) (index : Nat) (s : State) : Res := s.finish (s.evPlanishOverdue qty index)

end Sys2Proof.Machine
end

