-- ==== Sys2Proof/Machine/PowerCmd.lean ====
section
/-! DEFINITION. The commands: the supplies, resets, clocks, comparators and power states of the device (chapters 02 and 03). -/
namespace Sys2Proof.Machine

/-- PORST_ASSERT (02 R70): A low of 10 µs or more on PORST# makes a cold reset, stretched to at least 1 ms, with every output forced to
its reset level. -/
def execPorstAssert (lowUs : Nat) (s : State) : Res := s.finish (s.evPorstAssert lowUs)
/-- PORST_RELEASE (02 R70): The end of the stretched reset counts as PORST# release and starts the cold boot. -/
def execPorstRelease (s : State) : Res := s.finish (s.evPorstRelease)
/-- POWER_ON_DETECT (02 R70): With PORST# already high, the power-on detector holds a cold reset until both VDECK rails have been in
tolerance for 1 ms, then releases it. -/
def execPowerOnDetect (inTolerance : Bool) (s : State) : Res := s.finish (s.evPowerOnDetect inTolerance)
/-- VDECK_LOSS (02 R79): Loss of either VDECK rail is a cold reset; the EN_ lines fall through pull-downs and the lasers darken without
the Deckle. -/
def execVdeckLoss (s : State) : Res := s.finish (s.evVdeckLoss)
/-- STRAP_SAMPLE (02 R72): The straps are sampled 100 µs after PORST# release. -/
def execStrapSample (env : BootEnv) (s : State) : Res := s.finish (s.evStrapSample env)
/-- STRAP_CHANGE (02 R72): A strap change after sampling is ignored until cold reset, and the first one is recorded once. -/
def execStrapChange (strap : Nat) (high : Bool) (s : State) : Res := s.onUnit strap 4 (s.evStrapChange strap high)
/-- PERST_ASSERT (02 R71): PERST# resets only the PCIe endpoint, aborts every partition and keeps the configuration. -/
def execPerstAssert (s : State) : Res := s.finish (s.evPerstAssert)
/-- PERST_RELEASE (02 R71): Release of PERST# lets the endpoint come ready within 1 s, and wakes a DORMANT device. -/
def execPerstRelease (s : State) : Res := s.finish (s.evPerstRelease)
/-- ENDPOINT_READY (02 R71): The endpoint becomes ready, Configuration Request Retry Status ends and queued notices are delivered. -/
def execEndpointReady (s : State) : Res := s.finish (s.evEndpointReady)
/-- PG_RISE (02 R56): A PG_ line rises during the rail sequence and starts the 1 ms wait before the next rail. -/
def execPgRise (rail : Nat) (s : State) : Res := s.onUnit rail 7 (s.evPgRise rail)
/-- RAIL_SETTLE_EXPIRY (02 R56): The 1 ms wait after a PG_ rise ends and the next EN_ is driven, or the sequence completes. -/
def execRailSettleExpiry (s : State) : Res := s.finish (s.evRailSettle)
/-- RAIL_OFF_WAIT_END (02 R56): During power-down a PG_ falls, or 5 ms pass, and the next rail is switched off. -/
def execRailOffWaitEnd (s : State) : Res := s.finish (s.evRailOff)
/-- PG_TIMEOUT (02 R75): A PG_ line is still low 20 ms after its EN_ rose, so the sequence stops and the device enters SAFE with cause
0x01. -/
def execPgTimeout (s : State) : Res := s.finish (s.evPgTimeout)
/-- PG_FALL_IN_SEQUENCE (02 R75): A PG_ line that has risen falls for more than 2 µs during the rail sequence, giving SAFE with cause
0x01. -/
def execPgFallInSequence (rail : Nat) (s : State) : Res := s.onUnit rail 7 (s.evPgFallIn rail)
/-- PG_FALL_AFTER_SEQUENCE (02 R76): A switched rail other than VAN loses power-good after the sequence, so the device stops clocks,
powers down and enters SAFE. -/
def execPgFallAfterSequence (rail : Nat) (s : State) : Res := s.onUnit rail 7 (s.evPgFallAfter rail)
/-- PG_VAN_FALL (02 R77): PG_VAN falls outside the sequence, so the AOUT lands go to 0 mA and the device enters SAFE with cause 0x03. -/
def execPgVanFall (s : State) : Res := s.finish (s.evPgVanFall)
/-- VPHO_OUT_OF_TOLERANCE (02 R62): VPHO leaves tolerance and circuitry in the VLD domain darkens every laser within 10 µs. -/
def execVphoOutOfTolerance (s : State) : Res := s.finish (s.evVphoOut)
/-- REFCLK_LOSS (02 R81): Loss of REFCLK lock stops the data path and enters SAFE with cause 0x04, or only records the loss in HELD and
SAFE. -/
def execRefclkLoss (s : State) : Res := s.finish (s.evRefclkLoss)
/-- CRYSTAL_FAULT (02 R80): A stopped or out-of-range crystal is detected and the RTC moves to the Filigree 32 kHz oscillator. -/
def execCrystalFault (s : State) : Res := s.finish (s.evCrystalFault)
/-- CRYSTAL_RECOVER (02 R80): The crystal runs within range again and the calendar figures may be held again. -/
def execCrystalRecover (s : State) : Res := s.finish (s.evCrystalRecover)
/-- CRYSTAL_CORRECTION (02 R64): Every 16 s the crystal correction is applied from the nearest Deckle temperature sensor. -/
def execCrystalCorrection (temp : Int) (s : State) : Res := s.finish (s.evCrystalCorrection temp)
/-- PMBUS_POLL (02 R60): Every 10 ms the device reads telemetry and status from each regulator over PMBus. -/
def execPmbusPoll (readings : List PmbusReading) (s : State) : Res := s.finish (s.evPmbus readings)
/-- CMP_TRIP (03 R109): A comparator input stays beyond its threshold for the FILT count and trips, taking its ACTION. -/
def execCmpTrip (n : Nat) (s : State) : Res := s.onUnit n 8 (s.evCmpTrip n)
/-- CMP_RELEASE (03 R109): A tripped comparator input stays past its release point for the FILT count and releases. -/
def execCmpRelease (n : Nat) (s : State) : Res := s.onUnit n 8 (s.evCmpRelease n)
/-- LEAK_PULSE (03 R106): Every 125 ms a 1 ms pulse excites the leak ropes and the leak comparators are sampled at its end. -/
def execLeakPulse (beyond : Vector Bool 4) (past : Vector Bool 4) (s : State) : Res := s.finish (s.evLeakPulse beyond past)
/-- CMP_TRIP_CLEAR (03 R108): A W1C write clears a TRIP bit of PWR_CMP_STAT, which sets again at once if the comparator is still tripped.
-/
def execCmpTripClear (value : Reg32) (s : State) : Res := s.finish (s.pf0Write fun s => s.evCmpClear value.toNat)
/-- MGMT_ADDRESS_MATCH (03 R104): In DORMANT, a management-port address match is NACKed and wakes the device. -/
def execMgmtAddressMatch (s : State) : Res := s.finish (s.evMgmtMatch)
/-- RTC_ALARM_FIRE (21 R812): An armed alarm fires at the first RTC tick at or beyond it, sets FIRED and may wake the device. -/
def execRtcAlarmFire (s : State) : Res := s.finish (s.alarmDue)
/-- ANNEAL_IDLE_TIMEOUT (03 R91): The ANNEAL idle timeout of the row configuration expires and the device moves to STANDBY. -/
def execAnnealIdleTimeout (s : State) : Res := s.finish (s.evAnnealIdle)
/-- LAST_PARTITION_STOPPED (03 R91): 1 ms after the last completion of the last started partition, the device moves from SERVING to
ANNEAL. -/
def execLastPartitionStopped (s : State) : Res := s.finish (s.evLastStopped)
/-- REFCLK_LOCKED (02 R81): REFCLK regains lock and CLK_STAT.REFCLK_LOCK sets again, so a SAFE device with cause 0x04 may leave SAFE on
request. -/
def execRefclkLocked (s : State) : Res := s.finish (s.evRefclkLocked)
/-- VPHO_TOLERANCE_RETURN (02 R62): VPHO returns within tolerance and the laser drivers no longer hold the lasers dark. -/
def execVphoToleranceReturn (s : State) : Res := s.finish (s.evVphoReturn)
/-- WAKE_SIGNAL_TIMEOUT (03 R98): 1 s after the device asserted WAKE# while PERST# was asserted, the device releases WAKE#. -/
def execWakeSignalTimeout (s : State) : Res := s.finish (s.evWakeTimeout)

end Sys2Proof.Machine
end

