-- ==== Sys2Proof/Machine/RingCmd.lean ====
section
/-! DEFINITION. The commands: doorbells, sheets, dispatch, timers of sheets and stops, and Moulds out of service and back (chapters 06 and 07). -/
namespace Sys2Proof.Machine

/-- RNG_SUB_PI_WRITE (06 R259): A doorbell write to RNG_SUB_PI posts sheets, or is ignored and counted in RNG_BAD_DB. -/
def execRngSubPiWrite (vf : Nat) (ring : Nat) (value : Reg32) (s : State) : Res :=
  if vf < 17 ∧ ring < 64 then s.finish (s.evSubPi vf ring value.toNat) else .fault .noSuchUnit
/-- RNG_CPL_CI_WRITE (06 R259): The host consumes completions, which frees credit and moves overflow entries to the ring. -/
def execRngCplCiWrite (vf : Nat) (ring : Nat) (value : Reg32) (s : State) : Res :=
  if vf < 17 ∧ ring < 64 then s.finish (s.evCplCi vf ring value.toNat) else .fault .noSuchUnit
/-- RNG_SPILL_CI_WRITE (06 R259): The host consumes completions from the spill ring. -/
def execRngSpillCiWrite (vf : Nat) (ring : Nat) (value : Reg32) (s : State) : Res :=
  if vf < 17 ∧ ring < 64 then s.finish (s.evSpillCi vf ring value.toNat) else .fault .noSuchUnit
/-- SHEET_ACCEPT (06 R260): The device accepts the next sheet in ring order when the partition is Started, intake is on and credit
permits. -/
def execSheetAccept (ring : Nat) (bytes : List Byte) (dma : DmaCase) (s : State) : Res :=
  s.onUnit ring 64 (s.evSheetAccept ring bytes dma)
/-- SHEET_FENCE (06 R267): A FENCE sheet completes once every earlier-accepted sheet of the ring has completed. -/
def execSheetFence (ring : Nat) (sub : Nat) (s : State) : Res := s.onUnit ring 64 (s.evSheetFence ring sub)
/-- SHEET_KERNEL_DISPATCH (06 R269): A KERNEL sheet whose wait and barrier are satisfied starts dispatch of its thread groups. -/
def execSheetKernelDispatch (ring : Nat) (sub : Nat) (s : State) : Res := s.onUnit ring 64 (s.evSheetKernelDispatch ring sub)
/-- GROUP_DISPATCH (07 R294): The next thread group in linear order becomes resident on the quarter with the most free slots that can host
it. -/
def execGroupDispatch (ring : Nat) (sub : Nat) (s : State) : Res := s.onUnit ring 64 (s.evGroupDispatch ring sub)
/-- OVERDUE_CHANGE (06 R265): An overflow entry waits longer than the ring's drain bound, or stops doing so, and OVERDUE changes. -/
def execOverdueChange (ring : Nat) (s : State) : Res := s.onUnit ring 64 (s.evOverdueChange ring)
/-- SHEET_DEADLINE (06 R270): A sheet still running DEADLINE_US after acceptance is killed and completes TIMEOUT. -/
def execSheetDeadline (ring : Nat) (sub : Nat) (s : State) : Res := s.onUnit ring 64 (s.evSheetDeadline ring sub)
/-- DRAIN_DEADLINE (06 R273): A DRAIN that reaches its deadline with sheets left escalates to ABORT. -/
def execDrainDeadline (part : Nat) (s : State) : Res := s.onUnit part 16 (s.evDrainDeadline part)
/-- MEMORY_SWEEP (06 R253): A background sweep clears marked blocks at no more than 1/16 of the unit's bandwidth. -/
def execMemorySweep (first : Nat) (count : Nat) (s : State) : Res := s.finish (s.evMemorySweep first count)
/-- MOULD_CLOCK_IDLE_STOP (03 R89): A Mould with no resident group for 10 µs stops its clock. -/
def execMouldClockIdleStop (m : Nat) (s : State) : Res := s.onUnit m 16 (s.evMouldClockIdleStop m)
/-- MOULD_FAULT (06 R281): An uncorrectable register-file error or residue failure removes a Mould and starts its self-test. -/
def execMouldFault (m : Nat) (_cause : Nat) (s : State) : Res := s.onUnit m 16 (s.evMouldFault m)
/-- MOULD_WATCHDOG (07 R327): A quarter with a ready group that retires nothing for 100 µs removes its Mould. -/
def execMouldWatchdog (m : Nat) (quarter : Nat) (s : State) : Res :=
  if m < 16 ∧ quarter < 4 then s.finish (s.evMouldWatchdog m quarter) else .fault .noSuchUnit
/-- MOULD_SELFTEST_DONE (06 R281): A Mould self-test ends; a pass returns the Mould, a fail retires it and grants a replacement. -/
def execMouldSelftestDone (m : Nat) (pass : Bool) (s : State) : Res := s.onUnit m 16 (s.evMouldSelftestDone m pass)

end Sys2Proof.Machine
end

