-- ==== Sys2Proof/Machine/ScorerCmd.lean ====
section
/-! DEFINITION. The commands: the scorer (chapter 10). -/
namespace Sys2Proof.Machine

/-- SCORE (10 R416): SCORE reads a batch descriptor and submits the batch on the optical or digital path. -/
def execScore (g : GIns) (rs : Nat) (s : State) : Res := s.onIns g (s.evScore g rs)
/-- SWAIT (10 R421): SWAIT waits until at most n batches are outstanding and then acquires. -/
def execSwait (g : GIns) (n : Nat) (s : State) : Res := s.onIns g (s.evSwait g n)
/-- BATCH_START (10 R424): The scorer starts a partition's next batch by weighted deficit round robin. -/
def execBatchStart (s : State) : Res := s.finish (s.evBatchStart)
/-- BATCH_END (10 R421): A batch ends: indices, scores and result header are written, a release is performed and the tally signalled. -/
def execBatchEnd (sel : BatchSel) (s : State) : Res := s.finish (s.evBatchEnd sel)

end Sys2Proof.Machine
end

