-- ==== Sys2Proof/Machine/StewardCmd.lean ====
section
/-! DEFINITION. The commands: the row steward, the CDU, teeth, events and leak ropes (chapter 17). -/
namespace Sys2Proof.Machine

/-- STEWARD_ELECTION (17 R684): 2 s after the latest first report, with no primary, the lowest candidate claims the role. -/
def execStewardElection (s : State) : Res := s.finish (s.evElection)
/-- ROWBEAT_PULSE (17 R688): The primary's Deckle pulls ROWBEAT low for 1 ms every 50 ms. -/
def execRowbeatPulse (s : State) : Res := s.finish (s.evRowbeat)
/-- ROWBEAT_SEEN (17 R688): A receiver counts a low of 0.5–2.0 ms on ROWBEAT as a pulse. -/
def execRowbeatSeen (lowUs : Nat) (s : State) : Res := s.finish (s.evRowbeatSeen lowUs)
/-- PRIMARY_LOST (17 R689): Three missed pulses and 150 ms without STEWBEAT make the standby claim the role. -/
def execPrimaryLost (s : State) : Res := s.finish (s.evPrimaryLost)
/-- RECOGNITION_DROP (17 R685): 1 s after the last primary STEWBEAT a device drops its recognition of the primary. -/
def execRecognitionDrop (s : State) : Res := s.finish (s.evRecognitionDrop)
/-- STANDBY_NAMING (17 R686): Every 100 ms the primary names the lowest other candidate as standby. -/
def execStandbyNaming (s : State) : Res := s.finish (s.evStandbyNaming)
/-- NO_UP_STRAND (17 R687): A primary with no UP strand for 150 ms gives up the role. -/
def execNoUpStrand (s : State) : Res := s.finish (s.evNoUpStrand)
/-- RELAY_STEP (17 R679): 10 ms after one STEW_EN change, the other relay is driven or released. -/
def execRelayStep (s : State) : Res := s.finish (s.evRelayStep)
/-- STEW_EN_HW_RELEASE (17 R679): Deckle hardware releases both STEW_EN lands 100 ms after the last ROWBEAT pulse the device drove. -/
def execStewEnHwRelease (s : State) : Res := s.finish (s.evStewHw)
/-- ROW_BUDGET (17 R704): Every 100 ms the primary computes and sends one cap per position. -/
def execRowBudget (s : State) : Res := s.finish (s.evBudget)
/-- SETPOINT_RAMP_STEP (17 R695): The thermal manager moves the supply set-point one guarded step towards the image default. -/
def execSetpointRampStep (s : State) : Res := s.finish (s.evRampStep)
/-- PUMP_STALL (17 R694): A stalled pump swaps slot 11 to the one-pump bank and disables that pump's loop. -/
def execPumpStall (pump : Nat) (s : State) : Res := s.onUnit pump 2 (s.evPumpStall pump)
/-- PUMP_RESTORE (17 R694): Both pumps within 10 % of command for 60 s swap slot 11 back. -/
def execPumpRestore (s : State) : Res := s.finish (s.evPumpRestore)
/-- TOOTH_EDGE (17 R697): A tachometer edge is rejected as noise or taken as a real tooth, delivering a speed sample. -/
def execToothEdge (t : Nat) (time : Nat) (s : State) : Res := s.onUnit t 2 (s.evTooth t time)
/-- TOOTH_MISSED (17 R697): No tooth by 1.6 × P synthesises a tooth; a second in a row drops sync. -/
def execToothMissed (t : Nat) (s : State) : Res := s.onUnit t 2 (s.evToothMissed t)
/-- TRACKER_EVENT (17 R698): A scheduled event fires when its angle is reached, extrapolated if its tooth has not come. -/
def execTrackerEvent (t : Nat) (e : Nat) (time : Nat) (s : State) : Res := s.onUnit t 2 (s.evTracker t e time)
/-- TIMEBASE_EVENT (17 R700): Out of sync, each event fires every TB_PERIOD. -/
def execTimebaseEvent (t : Nat) (e : TimedEvent) (s : State) : Res := s.onUnit t 2 (s.evTimebase t e.event e.time)
/-- LEAK_STAGE_TIMER (17 R702): A rope's wet or dry time reaches its stage limit and the rope changes stage. -/
def execLeakStageTimer (rope : Nat) (s : State) : Res := s.onUnit rope 4 (s.evLeakTimer rope)
/-- ROPE_OPEN (17 R702): A rope's rectifier above 90 % of open level for 1 s is judged open and recorded; below it again, it is not. -/
def execRopeOpen (rope : RopeLevel) (s : State) : Res := s.onUnit rope.rope 4 (s.evRopeOpen rope.rope rope.above)

end Sys2Proof.Machine
end

