-- ==== Sys2Proof/Machine/StrandCmd.lean ====
section
/-! DEFINITION. The commands: strands: probing, training, frames, lanes and light (chapter 11). -/
namespace Sys2Proof.Machine

/-- PROBE_PULSE (11 R457): A dark strand sends a 10 ms probe-level pulse every 1 s. -/
def execProbePulse (k : Nat) (s : State) : Res := s.onUnit k 64 (s.evProbePulse k)
/-- PRESENCE_DETECT (11 R457): Presence on a receive fibre for 200 µs lights the strand's transmitter at probe level. -/
def execPresenceDetect (k : Nat) (s : State) : Res := s.onUnit k 64 (s.evPresenceDetect k)
/-- FULL_POWER_START (11 R457): Mutual presence for 5 ms, or 1 ms on the fast path, moves the strand to full power and starts training. -/
def execFullPowerStart (k : Nat) (s : State) : Res := s.onUnit k 64 (s.evFullPowerStart k)
/-- STRAND_START_TIME (11 R458): At the later of STANDBY entry plus position × 4 ms and the port sweep end, the device starts probing the
port's strands. -/
def execStrandStartTime (port : Nat) (s : State) : Res := s.onUnit port 16 (s.evStrandStartTime port)
/-- TRAINING_STAGE_DONE (11 R457): A training stage T1 to T5 completes and the strand moves to the next stage or UP. -/
def execTrainingStageDone (k : Nat) (lanesOk : BitVec 4) (ts : TsBlock) (s : State) : Res :=
  s.onUnit k 64 (s.evTrainingStageDone k lanesOk ts)
/-- TRAINING_STAGE_TIMEOUT (11 R460): A stage that passes its bound fails the strand, which returns to DARK and probing. -/
def execTrainingStageTimeout (k : Nat) (s : State) : Res := s.onUnit k 64 (s.evTrainingStageTimeout k)
/-- MISWIRED_RETRY (11 R459): A MISWIRED strand repeats T3 every 10 s. -/
def execMiswiredRetry (k : Nat) (ts : TsBlock) (s : State) : Res := s.onUnit k 64 (s.evMiswiredRetry k ts)
/-- FRAME_TRANSMIT (11 R469): A strand fills a frame's slots in class order under credits and sends it on the next lane. -/
def execFrameTransmit (k : Nat) (s : State) : Res := s.onUnit k 64 (s.evFrameTransmit k)
/-- FRAME_RECEIVE (11 R471): A received frame is accepted in SEQ order, or discarded with a NAK, and its ACK and credits are taken. -/
def execFrameReceive (k : Nat) (lane : Nat) (bad : Bool) (f : Frame) (s : State) : Res :=
  if k < 64 ∧ lane < 4 then s.finish (s.evFrameReceive k lane bad f) else .fault .noSuchUnit
/-- MARKER_RECEIVE (11 R453): A marker codeword keeps lane identity and carries the TS block and link epoch. -/
def execMarkerReceive (k : Nat) (lane : Nat) (bad : Bool) (ts : TsBlock) (s : State) : Res :=
  if k < 64 ∧ lane < 4 then s.finish (s.evMarkerReceive k lane bad ts) else .fault .noSuchUnit
/-- REPLAY_TIMEOUT (11 R472): 8 µs without ACK progress replays from the oldest unacknowledged frame. -/
def execReplayTimeout (k : Nat) (s : State) : Res := s.onUnit k 64 (s.evReplayTimeout k)
/-- LANE_RETEST (11 R474): 1 s after a drop, the lane is retested with T1 to T4 alone. -/
def execLaneRetest (k : Nat) (lane : Nat) (pass : Bool) (s : State) : Res :=
  if k < 64 ∧ lane < 4 then s.finish (s.evLaneRetest k lane pass) else .fault .noSuchUnit
/-- LANE_READMIT (11 R474): A retested lane whose error ratio stayed low for 1 s is re-admitted through LANE_ADD. -/
def execLaneReadmit (k : Nat) (lane : Nat) (s : State) : Res :=
  if k < 64 ∧ lane < 4 then s.finish (s.evLaneReadmit k lane) else .fault .noSuchUnit
/-- LOSS_OF_LIGHT (11 R481): Receive power below the floor for 100 µs sets the paired transmitter to probe level in hardware. -/
def execLossOfLight (k : Nat) (s : State) : Res := s.onUnit k 64 (s.evLossOfLight k)
/-- RECON_TIMEOUT (11 R475): No RECON_RSP within 10 ms: nothing is resent and the requests complete NOT_READY. -/
def execReconTimeout (k : Nat) (s : State) : Res := s.onUnit k 64 (s.evReconTimeout k)
/-- LIGHT_RETURN_TIMEOUT (11 R480): No light within 10 ms of a trip, or an epoch mismatch, takes the strand down to train from DARK. -/
def execLightReturnTimeout (k : Nat) (s : State) : Res := s.onUnit k 64 (s.evLightReturnTimeout k)
/-- LOOP_TEST_END (11 R486): A loopback strand's LOOP_TEST after STANDBY entry ends within 50 ms and it returns to LOOPBACK. -/
def execLoopTestEnd (k : Nat) (s : State) : Res := s.onUnit k 64 (s.evLoopTestEnd k)

end Sys2Proof.Machine
end

