-- ==== Sys2Proof/Machine/TallyCmd.lean ====
section
/-! DEFINITION. The commands: tallies: the instructions, waits and the host's signal (chapter 09). -/
namespace Sys2Proof.Machine

/-- TLD (09 R395): TLD reads a tally value, locally or at its home device. -/
def execTld (g : GIns) (t : TallyOp) (s : State) : Res := s.onIns g (s.evTld g t)
/-- TADD (09 R395): TADD releases at row scope and adds to a tally. -/
def execTadd (g : GIns) (t : TallyOp) (s : State) : Res := s.onIns g (s.evTadd g t)
/-- TADDR (09 R395): TADDR adds to a tally and returns the value before the add. -/
def execTaddr (g : GIns) (t : TallyOp) (s : State) : Res := s.onIns g (s.evTaddr g t)
/-- TSET (09 R395): TSET releases and sets a tally. -/
def execTset (g : GIns) (t : TallyOp) (s : State) : Res := s.onIns g (s.evTset g t)
/-- TWAIT_GE (09 R395): TWAIT.GE makes the group not ready until the tally reaches the operand, or the wait times out. -/
def execTwaitGe (g : GIns) (t : TallyOp) (s : State) : Res := s.onIns g (s.evTwaitGe g t)
/-- TWAIT_EQ (09 R395): TWAIT.EQ waits until the tally equals the operand, or the wait times out. -/
def execTwaitEq (g : GIns) (t : TallyOp) (s : State) : Res := s.onIns g (s.evTwaitEq g t)
/-- TALLY_WAIT_TIMEOUT (09 R398): A tally wait whose condition has not held for its timeout ends its sheet TIMEOUT with DETAIL 0x0002. -/
def execTallyWaitTimeout (w : WaitSel) (s : State) : Res := s.finish (s.evTallyWaitTimeout w)
/-- WATCH_FULL_POLL (09 R397): A waiter answered FULL reads the remote tally every 2 µs. -/
def execWatchFullPoll (mould : Nat) (quarter : Nat) (slot : Nat) (s : State) : Res :=
  s.onPlace mould quarter slot (s.evWatchFullPoll mould quarter slot)
/-- TLY_SIG_WRITE (09 R399): A host write to TLY_SIGn adds to tally n, ordered after earlier BAR2 writes. -/
def execTlySigWrite (vf : Nat) (tally : Nat) (value : Reg32) (s : State) : Res := s.onUnit vf 17 (s.evTlySigWrite vf tally value)

end Sys2Proof.Machine
end

