-- ==== Sys2Proof/Machine/ThermalCmd.lean ====
section
/-! DEFINITION. The commands: sensors, throttles, caps, the power controller and the predictor (chapter 13). -/
namespace Sys2Proof.Machine

/-- SENSOR_SAMPLE (13 R545): An on-die sensor sample is compared with its thresholds, entering a state on the third sample at or above it.
-/
def execSensorSample (n : Nat) (temp : Int) (s : State) : Res := s.onUnit n 140 (State.safeCause (s.evSensorSample n temp) 6)
/-- THRESHOLD_EXIT (13 R545): A reading below the lower edge for 20 ms leaves the threshold state. -/
def execThresholdExit (n : Nat) (which : Nat) (s : State) : Res :=
  if n < 140 ∧ which < 3 then s.finish (s.evThresholdExit n which) else .fault .noSuchUnit
/-- THROTTLE_STEP (13 R547): Every 100 µs a throttled Mould at or above the lower edge gains one step. -/
def execThrottleStep (m : Nat) (s : State) : Res := s.onUnit m 16 (s.evThrottleStep m)
/-- THROTTLE_RELEASE_STEP (13 R547): Every 1 ms after exit a throttle step is removed. -/
def execThrottleReleaseStep (m : Nat) (s : State) : Res := s.onUnit m 16 (s.evThrottleRelease m)
/-- HBM_THROTTLE_STEP (13 R550): An HBM stack in throttle loses 12.5 % of request rate per 1 ms, and regains one step per 10 ms after
exit. -/
def execHbmThrottleStep (stack : Nat) (s : State) : Res := s.onUnit stack 8 (s.evHbmThrottle stack)
/-- POWER_CONTROL_TICK (13 R556): Every 10 µs the power controller adjusts M_CAP, VCORE and duty cycle to the limit. -/
def execPowerControlTick (activityW : Nat) (coreW : Nat) (vmin : VcoreNeed) (s : State) : Res :=
  s.finish (s.evPowerTick activityW coreW vmin.vmin vmin.ack)
/-- ESTIMATE_RESCALE (13 R556): Every 10 ms the power estimate is rescaled to the PMBus readings. -/
def execEstimateRescale (s : State) : Res := s.finish s.evRescale.seedStep
/-- CAP_UNMET (13 R557): At minimum clock and duty for 10 ms with the estimate above the cap, the cause CAP_UNMET is set. -/
def execCapUnmet (s : State) : Res := s.finish (s.evCapUnmet)
/-- PREDICTOR_UPDATE (13 R560): Every 1 ms the thermal predictor and the ramp limiter update T_pred and RAMP_ALLOW. -/
def execPredictorUpdate (s : State) : Res := s.finish (s.evPredictor)
/-- PREDICTOR_REFIT (13 R560): Every 60 s the predictor refits its model from 10 minutes of history. -/
def execPredictorRefit (rTh : Nat) (tau : Nat) (s : State) : Res := s.finish (s.evRefit rTh tau)
/-- CAP_FALLBACK (01 R28): 1 s without an accepted cap applies the row fallback cap. -/
def execCapFallback (s : State) : Res := s.finish (s.evCapFallback)
/-- WARN_CAUSE_SET (13 R566): A cooling-degradation cause whose condition has held for its time is set and the warning raised. -/
def execWarnCauseSet (c : Nat) (s : State) : Res := s.onUnit c 11 (s.evWarnSet c)
/-- WARN_CAUSE_CLEAR (13 R566): A cause whose condition has been absent for 10 s clears. -/
def execWarnCauseClear (c : Nat) (s : State) : Res := s.onUnit c 11 (s.evWarnClear c)
/-- FLOW_ESTIMATE (13 R567): Every 100 ms firmware estimates plate flow from power and the plate RTDs. -/
def execFlowEstimate (s : State) : Res := s.finish (s.evFlow)

end Sys2Proof.Machine
end

