-- ==== Sys2Proof/Machine/TrapCmd.lean ====
section
/-! DEFINITION. The commands: traps and the handler's instructions (chapter 08). -/
namespace Sys2Proof.Machine

/-- BRK (08 R332): BRK raises the BREAK trap. -/
def execBrk (g : GIns) (s : State) : Res := s.onIns g (s.evBrk g)
/-- TRAPLD (08 R338): TRAPLD reads a word of the group's save slot. -/
def execTrapld (g : GIns) (off : Nat) (rd : Nat) (s : State) : Res := s.onIns g (s.evTrapld g off rd)
/-- TRAPST (08 R338): TRAPST writes a writable field of the save slot inside a handler. -/
def execTrapst (g : GIns) (off : Nat) (rs : Nat) (s : State) : Res := s.onIns g (s.evTrapst g off rs)
/-- TRAPSET (08 R338): TRAPSET sets the group's handler offset. -/
def execTrapset (g : GIns) (rs : Nat) (s : State) : Res := s.onIns g (s.evTrapset g rs)
/-- TRAPRET (08 R341): TRAPRET restores PC, PRED and SREG from the slot and resumes issue. -/
def execTrapret (g : GIns) (skip : Bool) (s : State) : Res := s.onIns g (s.evTrapret g skip)
/-- TRAPKILL (08 R341): TRAPKILL ends the group with code 0x0100 plus its operand. -/
def execTrapkill (g : GIns) (code : Nat) (s : State) : Res := s.onIns g (s.evTrapkill g code)
/-- PARK_RETRANSLATE (08 R344): Every 100 µs a parked group retranslates and replays if every address now translates. -/
def execParkRetranslate (mould : Nat) (quarter : Nat) (slot : Nat) (s : State) : Res :=
  s.onPlace mould quarter slot (s.evParkRetranslate mould quarter slot)
/-- PARK_EXPIRED (08 R345): A park that lasts 100 ms without replay kills the group with PARK_EXPIRED. -/
def execParkExpired (mould : Nat) (quarter : Nat) (slot : Nat) (s : State) : Res :=
  s.onPlace mould quarter slot (s.evParkExpired mould quarter slot)

end Sys2Proof.Machine
end

