-- ==== Sys2Proof/Machine/VectorCmd.lean ====
section
/-! DEFINITION. The commands: vector, scalar and control instructions of a thread group (chapters 07 and 08). -/
namespace Sys2Proof.Machine

/-- VECTOR_OP (07 R300): A vector integer or floating-point instruction acts for the active, predicated-on threads. -/
def execVectorOp (g : GIns) (op : VOp) (rd : Nat) (a : VSrc) (b : VSrc) (c : VSrc) (s : State) : Res :=
  s.onIns g (s.evVectorOp g op rd a b c)
/-- SCALAR_OP (07 R307): A scalar instruction executes once per issue for the group. -/
def execScalarOp (g : GIns) (op : SOp) (rd : Nat) (a : SSrc) (b : SSrc) (s : State) : Res := s.onIns g (s.evScalarOp g op rd a b)
/-- BRANCH (07 R301): A conditional branch splits the active set by its per-thread condition. -/
def execBranch (g : GIns) (cond : BranchCond) (target : Int) (s : State) : Res := s.onIns g (s.evBranch g cond target)
/-- YIELD (07 R302): YIELD triggers the starvation escape at once. -/
def execYieldOp (g : GIns) (s : State) : Res := s.onIns g (s.evYield g)
/-- STARVATION_ESCAPE (07 R302): After 4,096 issues with unchanged waiting threads, the quarter gives the waiting threads the active set.
-/
def execStarvationEscape (mould : Nat) (quarter : Nat) (slot : Nat) (s : State) : Res :=
  s.onPlace mould quarter slot (s.evStarvationEscape mould quarter slot)
/-- BAR_G (07 R303): BAR.G fences and waits until every live thread of the group has executed a BAR.G. -/
def execBarG (g : GIns) (s : State) : Res := s.onIns g (s.evBarG g)
/-- EXIT (07 R304): EXIT ends the active threads; the last exit ends the group and may complete the sheet. -/
def execExit (g : GIns) (s : State) : Res := s.onIns g (s.evExit g)
/-- MOVS (07 R308): MOVS reads a special register into a scalar or vector register. -/
def execMovs (g : GIns) (sr : SReg) (scalar : Bool) (rd : Nat) (s : State) : Res := s.onIns g (s.evMovs g sr scalar rd)
/-- CVT (08 R351): A CVT instruction converts between FP32 and BF16 or FP8. -/
def execCvt (g : GIns) (op : CvtOp) (rd : Nat) (ra : Nat) (s : State) : Res := s.onIns g (s.evCvt g op rd ra)
/-- CVT_PB (08 R353): CVT.pb8 or CVT.pb4 converts the group's 32 FP32 values into one block. -/
def execCvtPb (g : GIns) (fmt : Fmt) (rd : Nat) (ra : Nat) (s : State) : Res := s.onIns g (s.evCvtPb g fmt rd ra)

end Sys2Proof.Machine
end

