-- ==== Sys2Proof/Machine/Dispatch.lean ====
section
/-! DEFINITION. What each command does: one arm per row of spec/opcode_table.json. -/
namespace Sys2Proof.Machine

/-- The effect of a command on everything but the queue. -/
def exec (i : Instr) (s : State) : Host.Outcome State Fault Refusal :=
  match i with
  | .porstAssert lowUs => Sys2Proof.Machine.execPorstAssert lowUs s
  | .porstRelease => Sys2Proof.Machine.execPorstRelease s
  | .powerOnDetect inTolerance => Sys2Proof.Machine.execPowerOnDetect inTolerance s
  | .vdeckLoss => Sys2Proof.Machine.execVdeckLoss s
  | .strapSample env => Sys2Proof.Machine.execStrapSample env s
  | .strapChange strap high => Sys2Proof.Machine.execStrapChange strap high s
  | .perstAssert => Sys2Proof.Machine.execPerstAssert s
  | .perstRelease => Sys2Proof.Machine.execPerstRelease s
  | .endpointReady => Sys2Proof.Machine.execEndpointReady s
  | .pgRise rail => Sys2Proof.Machine.execPgRise rail s
  | .railSettleExpiry => Sys2Proof.Machine.execRailSettleExpiry s
  | .railOffWaitEnd => Sys2Proof.Machine.execRailOffWaitEnd s
  | .pgTimeout => Sys2Proof.Machine.execPgTimeout s
  | .pgFallInSequence rail => Sys2Proof.Machine.execPgFallInSequence rail s
  | .pgFallAfterSequence rail => Sys2Proof.Machine.execPgFallAfterSequence rail s
  | .pgVanFall => Sys2Proof.Machine.execPgVanFall s
  | .vphoOutOfTolerance => Sys2Proof.Machine.execVphoOutOfTolerance s
  | .refclkLoss => Sys2Proof.Machine.execRefclkLoss s
  | .crystalFault => Sys2Proof.Machine.execCrystalFault s
  | .crystalRecover => Sys2Proof.Machine.execCrystalRecover s
  | .crystalCorrection temp => Sys2Proof.Machine.execCrystalCorrection temp s
  | .pmbusPoll readings => Sys2Proof.Machine.execPmbusPoll readings s
  | .cmpTrip n => Sys2Proof.Machine.execCmpTrip n s
  | .cmpRelease n => Sys2Proof.Machine.execCmpRelease n s
  | .leakPulse beyond past => Sys2Proof.Machine.execLeakPulse beyond past s
  | .cmpTripClear value => Sys2Proof.Machine.execCmpTripClear value s
  | .mgmtAddressMatch => Sys2Proof.Machine.execMgmtAddressMatch s
  | .rtcAlarmFire => Sys2Proof.Machine.execRtcAlarmFire s
  | .annealIdleTimeout => Sys2Proof.Machine.execAnnealIdleTimeout s
  | .lastPartitionStopped => Sys2Proof.Machine.execLastPartitionStopped s
  | .bootComplete prog => Sys2Proof.Machine.execBootComplete prog s
  | .bootWatchdog => Sys2Proof.Machine.execBootWatchdog s
  | .assayDoubleFault cause => Sys2Proof.Machine.execAssayDoubleFault cause s
  | .restartComplete => Sys2Proof.Machine.execRestartComplete s
  | .flrVf vf => Sys2Proof.Machine.execFlrVf vf s
  | .flrPf0 => Sys2Proof.Machine.execFlrPf0 s
  | .vfEnableClear numVfs => Sys2Proof.Machine.execVfEnableClear numVfs s
  | .busMasterDisable vf => Sys2Proof.Machine.execBusMasterDisable vf s
  | .busMasterEnable vf => Sys2Proof.Machine.execBusMasterEnable vf s
  | .mbxRespClear m value => Sys2Proof.Machine.execMbxRespClear m value s
  | .mbxAckClear m => Sys2Proof.Machine.execMbxAckClear m s
  | .mbxNoticeCiWrite m ci => Sys2Proof.Machine.execMbxNoticeCiWrite m ci s
  | .mbxIntCfgWrite m value => Sys2Proof.Machine.execMbxIntCfgWrite m value s
  | .nop r => Sys2Proof.Machine.execNop r s
  | .info r => Sys2Proof.Machine.execInfo r s
  | .stateSetDormant r => Sys2Proof.Machine.execStateSetDormant r s
  | .stateSetStandby r => Sys2Proof.Machine.execStateSetStandby r s
  | .stateSetAnneal r => Sys2Proof.Machine.execStateSetAnneal r s
  | .stateSetSafe r => Sys2Proof.Machine.execStateSetSafe r s
  | .stateGet r => Sys2Proof.Machine.execStateGet r s
  | .hallmarkQuery r => Sys2Proof.Machine.execHallmarkQuery r s
  | .debugToken r => Sys2Proof.Machine.execDebugToken r s
  | .timeSet r => Sys2Proof.Machine.execTimeSet r s
  | .timeSlewEnd => Sys2Proof.Machine.execTimeSlewEnd s
  | .partCreate r => Sys2Proof.Machine.execPartCreate r s
  | .partResize r => Sys2Proof.Machine.execPartResize r s
  | .partDestroy r => Sys2Proof.Machine.execPartDestroy r s
  | .partStart r => Sys2Proof.Machine.execPartStart r s
  | .partStopDrain r => Sys2Proof.Machine.execPartStopDrain r s
  | .partStopAbort r => Sys2Proof.Machine.execPartStopAbort r s
  | .partReset r => Sys2Proof.Machine.execPartReset r s
  | .partQuery r => Sys2Proof.Machine.execPartQuery r s
  | .partImage r => Sys2Proof.Machine.execPartImage r s
  | .ringSetup r => Sys2Proof.Machine.execRingSetup r s
  | .ringTeardown r => Sys2Proof.Machine.execRingTeardown r s
  | .thermalQuery r => Sys2Proof.Machine.execThermalQuery r s
  | .stewardQuery r => Sys2Proof.Machine.execStewardQuery r s
  | .stewardRelease r => Sys2Proof.Machine.execStewardRelease r s
  | .cduSetpoint r => Sys2Proof.Machine.execCduSetpoint r s
  | .wmkSetOn r => Sys2Proof.Machine.execWmkSetOn r s
  | .wmkSetOff r => Sys2Proof.Machine.execWmkSetOff r s
  | .strandSetDisable r => Sys2Proof.Machine.execStrandSetDisable r s
  | .strandSetEnable r => Sys2Proof.Machine.execStrandSetEnable r s
  | .linkQuery r => Sys2Proof.Machine.execLinkQuery r s
  | .photonicQuery r => Sys2Proof.Machine.execPhotonicQuery r s
  | .planishRun r => Sys2Proof.Machine.execPlanishRun r s
  | .planishQuery r => Sys2Proof.Machine.execPlanishQuery r s
  | .loopCoefWriteInactive r => Sys2Proof.Machine.execLoopCoefWriteInactive r s
  | .loopCoefSwap r => Sys2Proof.Machine.execLoopCoefSwap r s
  | .loopCoefSingle r => Sys2Proof.Machine.execLoopCoefSingle r s
  | .loopQuery r => Sys2Proof.Machine.execLoopQuery r s
  | .filSectorLoad r => Sys2Proof.Machine.execFilSectorLoad r s
  | .filSectorDisable r => Sys2Proof.Machine.execFilSectorDisable r s
  | .filSectorEnable r => Sys2Proof.Machine.execFilSectorEnable r s
  | .calRead r => Sys2Proof.Machine.execCalRead r s
  | .calClear r => Sys2Proof.Machine.execCalClear r s
  | .holdQuery r => Sys2Proof.Machine.execHoldQuery r s
  | .flashRead r => Sys2Proof.Machine.execFlashRead r s
  | .flashErase r => Sys2Proof.Machine.execFlashErase r s
  | .flashWrite r => Sys2Proof.Machine.execFlashWrite r s
  | .imageCheck r => Sys2Proof.Machine.execImageCheck r s
  | .dirSet r => Sys2Proof.Machine.execDirSet r s
  | .provision r => Sys2Proof.Machine.execProvision r s
  | .recoverRetry r => Sys2Proof.Machine.execRecoverRetry r s
  | .recoverFallback r => Sys2Proof.Machine.execRecoverFallback r s
  | .fwActivateLive r => Sys2Proof.Machine.execFwActivateLive r s
  | .fwActivateNextCold r => Sys2Proof.Machine.execFwActivateNextCold r s
  | .liveHandoverTimeout => Sys2Proof.Machine.execLiveHandoverTimeout s
  | .fwCommit r => Sys2Proof.Machine.execFwCommit r s
  | .trialTimeout => Sys2Proof.Machine.execTrialTimeout s
  | .setEndpointId b op eid => Sys2Proof.Machine.execSetEndpointId b op eid s
  | .getEndpointId b => Sys2Proof.Machine.execGetEndpointId b s
  | .getEndpointUuid b => Sys2Proof.Machine.execGetEndpointUuid b s
  | .getMctpVersionSupport b mtype => Sys2Proof.Machine.execGetMctpVersionSupport b mtype s
  | .getMessageTypeSupport b => Sys2Proof.Machine.execGetMessageTypeSupport b s
  | .getVendorDefinedMsgSupport b sel => Sys2Proof.Machine.execGetVendorDefinedMsgSupport b sel s
  | .mctpUnsupportedCmd b cmd => Sys2Proof.Machine.execMctpUnsupportedCmd b cmd s
  | .mctpOtherType b mtype => Sys2Proof.Machine.execMctpOtherType b mtype s
  | .gettid b => Sys2Proof.Machine.execGettid b s
  | .settid b tid => Sys2Proof.Machine.execSettid b tid s
  | .getpldmversion b ptype => Sys2Proof.Machine.execGetpldmversion b ptype s
  | .getpldmtypes b => Sys2Proof.Machine.execGetpldmtypes b s
  | .getpldmcommands b ptype => Sys2Proof.Machine.execGetpldmcommands b ptype s
  | .getpdrrepositoryinfo b => Sys2Proof.Machine.execGetpdrrepositoryinfo b s
  | .getpdr b handle => Sys2Proof.Machine.execGetpdr b handle s
  | .getsensorreading b sensor => Sys2Proof.Machine.execGetsensorreading b sensor s
  | .getstatesensorreadings b sensor => Sys2Proof.Machine.execGetstatesensorreadings b sensor s
  | .setstateeffecterstates b effecter state => Sys2Proof.Machine.execSetstateeffecterstates b effecter state s
  | .getstateeffecterstates b effecter => Sys2Proof.Machine.execGetstateeffecterstates b effecter s
  | .setnumericeffectervalue b effecter value => Sys2Proof.Machine.execSetnumericeffectervalue b effecter value s
  | .getnumericeffectervalue b effecter => Sys2Proof.Machine.execGetnumericeffectervalue b effecter s
  | .seteventreceiver b addr => Sys2Proof.Machine.execSeteventreceiver b addr s
  | .geteventreceiver b => Sys2Proof.Machine.execGeteventreceiver b s
  | .pldmUnsupportedCmd b ptype cmd => Sys2Proof.Machine.execPldmUnsupportedCmd b ptype cmd s
  | .pldmEventResend sensor offset => Sys2Proof.Machine.execPldmEventResend sensor offset s
  | .rngSubPiWrite vf ring value => Sys2Proof.Machine.execRngSubPiWrite vf ring value s
  | .rngCplCiWrite vf ring value => Sys2Proof.Machine.execRngCplCiWrite vf ring value s
  | .rngSpillCiWrite vf ring value => Sys2Proof.Machine.execRngSpillCiWrite vf ring value s
  | .sheetAccept ring bytes dma => Sys2Proof.Machine.execSheetAccept ring bytes dma s
  | .sheetFence ring sub => Sys2Proof.Machine.execSheetFence ring sub s
  | .sheetKernelDispatch ring sub => Sys2Proof.Machine.execSheetKernelDispatch ring sub s
  | .groupDispatch ring sub => Sys2Proof.Machine.execGroupDispatch ring sub s
  | .overdueChange ring => Sys2Proof.Machine.execOverdueChange ring s
  | .sheetDeadline ring sub => Sys2Proof.Machine.execSheetDeadline ring sub s
  | .drainDeadline part => Sys2Proof.Machine.execDrainDeadline part s
  | .memorySweep first count => Sys2Proof.Machine.execMemorySweep first count s
  | .mouldClockIdleStop m => Sys2Proof.Machine.execMouldClockIdleStop m s
  | .mouldFault m cause => Sys2Proof.Machine.execMouldFault m cause s
  | .mouldWatchdog m quarter => Sys2Proof.Machine.execMouldWatchdog m quarter s
  | .mouldSelftestDone m pass => Sys2Proof.Machine.execMouldSelftestDone m pass s
  | .vectorOp g op rd a b c => Sys2Proof.Machine.execVectorOp g op rd a b c s
  | .scalarOp g op rd a b => Sys2Proof.Machine.execScalarOp g op rd a b s
  | .branch g cond target => Sys2Proof.Machine.execBranch g cond target s
  | .yieldOp g => Sys2Proof.Machine.execYieldOp g s
  | .starvationEscape mould quarter slot => Sys2Proof.Machine.execStarvationEscape mould quarter slot s
  | .barG g => Sys2Proof.Machine.execBarG g s
  | .exit g => Sys2Proof.Machine.execExit g s
  | .movs g sr scalar rd => Sys2Proof.Machine.execMovs g sr scalar rd s
  | .macq g handle => Sys2Proof.Machine.execMacq g handle s
  | .mzero g handle => Sys2Proof.Machine.execMzero g handle s
  | .mld g handle addr => Sys2Proof.Machine.execMld g handle addr s
  | .mma g handle fa fb aAddr bAddr k bExp => Sys2Proof.Machine.execMma g handle fa fb aAddr bAddr k bExp s
  | .mst g handle fmt addr => Sys2Proof.Machine.execMst g handle fmt addr s
  | .mwait g handle => Sys2Proof.Machine.execMwait g handle s
  | .mrel g handle => Sys2Proof.Machine.execMrel g handle s
  | .matrixOpDone mould quarter => Sys2Proof.Machine.execMatrixOpDone mould quarter s
  | .mcopy g toScratch scratch va len => Sys2Proof.Machine.execMcopy g toScratch scratch va len s
  | .cwait g n => Sys2Proof.Machine.execCwait g n s
  | .copyDone mould quarter slot => Sys2Proof.Machine.execCopyDone mould quarter slot s
  | .load g op => Sys2Proof.Machine.execLoad g op s
  | .store g op => Sys2Proof.Machine.execStore g op s
  | .atomicInstr g op => Sys2Proof.Machine.execAtomicInstr g op s
  | .ldAcq g op => Sys2Proof.Machine.execLdAcq g op s
  | .stRel g op => Sys2Proof.Machine.execStRel g op s
  | .fenceP g => Sys2Proof.Machine.execFenceP g s
  | .fenceR g => Sys2Proof.Machine.execFenceR g s
  | .brk g => Sys2Proof.Machine.execBrk g s
  | .trapld g off rd => Sys2Proof.Machine.execTrapld g off rd s
  | .trapst g off rs => Sys2Proof.Machine.execTrapst g off rs s
  | .trapset g rs => Sys2Proof.Machine.execTrapset g rs s
  | .trapret g skip => Sys2Proof.Machine.execTrapret g skip s
  | .trapkill g code => Sys2Proof.Machine.execTrapkill g code s
  | .parkRetranslate mould quarter slot => Sys2Proof.Machine.execParkRetranslate mould quarter slot s
  | .parkExpired mould quarter slot => Sys2Proof.Machine.execParkExpired mould quarter slot s
  | .cvt g op rd ra => Sys2Proof.Machine.execCvt g op rd ra s
  | .cvtPb g fmt rd ra => Sys2Proof.Machine.execCvtPb g fmt rd ra s
  | .wacq g handle => Sys2Proof.Machine.execWacq g handle s
  | .wzero g handle => Sys2Proof.Machine.execWzero g handle s
  | .wadd g handle ra => Sys2Proof.Machine.execWadd g handle ra s
  | .wsub g handle ra => Sys2Proof.Machine.execWsub g handle ra s
  | .wred g handle => Sys2Proof.Machine.execWred g handle s
  | .wrd g handle rd => Sys2Proof.Machine.execWrd g handle rd s
  | .wrd2 g handle rd rd2 => Sys2Proof.Machine.execWrd2 g handle rd rd2 s
  | .wflg g handle rd => Sys2Proof.Machine.execWflg g handle rd s
  | .wst g handle addr => Sys2Proof.Machine.execWst g handle addr s
  | .wld g handle addr => Sys2Proof.Machine.execWld g handle addr s
  | .waddw g handle addr => Sys2Proof.Machine.execWaddw g handle addr s
  | .wrel g handle => Sys2Proof.Machine.execWrel g handle s
  | .tld g t => Sys2Proof.Machine.execTld g t s
  | .tadd g t => Sys2Proof.Machine.execTadd g t s
  | .taddr g t => Sys2Proof.Machine.execTaddr g t s
  | .tset g t => Sys2Proof.Machine.execTset g t s
  | .twaitGe g t => Sys2Proof.Machine.execTwaitGe g t s
  | .twaitEq g t => Sys2Proof.Machine.execTwaitEq g t s
  | .tallyWaitTimeout w => Sys2Proof.Machine.execTallyWaitTimeout w s
  | .watchFullPoll mould quarter slot => Sys2Proof.Machine.execWatchFullPoll mould quarter slot s
  | .score g rs => Sys2Proof.Machine.execScore g rs s
  | .swait g n => Sys2Proof.Machine.execSwait g n s
  | .xltRootWrite vf hi value => Sys2Proof.Machine.execXltRootWrite vf hi value s
  | .xltInvAll vf value => Sys2Proof.Machine.execXltInvAll vf value s
  | .xltInvRange vf value => Sys2Proof.Machine.execXltInvRange vf value s
  | .invalidationDone part => Sys2Proof.Machine.execInvalidationDone part s
  | .tlySigWrite vf tally value => Sys2Proof.Machine.execTlySigWrite vf tally value s
  | .bar2Access vf addr wr len => Sys2Proof.Machine.execBar2Access vf addr wr len s
  | .batchStart => Sys2Proof.Machine.execBatchStart s
  | .batchEnd sel => Sys2Proof.Machine.execBatchEnd sel s
  | .probePulse k => Sys2Proof.Machine.execProbePulse k s
  | .presenceDetect k => Sys2Proof.Machine.execPresenceDetect k s
  | .fullPowerStart k => Sys2Proof.Machine.execFullPowerStart k s
  | .strandStartTime port => Sys2Proof.Machine.execStrandStartTime port s
  | .trainingStageDone k lanesOk ts => Sys2Proof.Machine.execTrainingStageDone k lanesOk ts s
  | .trainingStageTimeout k => Sys2Proof.Machine.execTrainingStageTimeout k s
  | .miswiredRetry k ts => Sys2Proof.Machine.execMiswiredRetry k ts s
  | .frameTransmit k => Sys2Proof.Machine.execFrameTransmit k s
  | .frameReceive k lane bad f => Sys2Proof.Machine.execFrameReceive k lane bad f s
  | .markerReceive k lane bad ts => Sys2Proof.Machine.execMarkerReceive k lane bad ts s
  | .replayTimeout k => Sys2Proof.Machine.execReplayTimeout k s
  | .laneRetest k lane pass => Sys2Proof.Machine.execLaneRetest k lane pass s
  | .laneReadmit k lane => Sys2Proof.Machine.execLaneReadmit k lane s
  | .lossOfLight k => Sys2Proof.Machine.execLossOfLight k s
  | .reconTimeout k => Sys2Proof.Machine.execReconTimeout k s
  | .lightReturnTimeout k => Sys2Proof.Machine.execLightReturnTimeout k s
  | .loopTestEnd k => Sys2Proof.Machine.execLoopTestEnd k s
  | .chlRequestIssue => Sys2Proof.Machine.execChlRequestIssue s
  | .read k p => Sys2Proof.Machine.execRead k p s
  | .write k p => Sys2Proof.Machine.execWrite k p s
  | .atomic k p => Sys2Proof.Machine.execAtomic k p s
  | .tally k p => Sys2Proof.Machine.execTally k p s
  | .watch k p => Sys2Proof.Machine.execWatch k p s
  | .watchCancel k p => Sys2Proof.Machine.execWatchCancel k p s
  | .readRsp k p => Sys2Proof.Machine.execReadRsp k p s
  | .writeAck k p => Sys2Proof.Machine.execWriteAck k p s
  | .atomicRsp k p => Sys2Proof.Machine.execAtomicRsp k p s
  | .tallyRsp k p => Sys2Proof.Machine.execTallyRsp k p s
  | .watchAns k p => Sys2Proof.Machine.execWatchAns k p s
  | .cancelAck k p => Sys2Proof.Machine.execCancelAck k p s
  | .linkmap k p => Sys2Proof.Machine.execLinkmap k p s
  | .linkmapSend => Sys2Proof.Machine.execLinkmapSend s
  | .depart k p => Sys2Proof.Machine.execDepart k p s
  | .reconReq k p => Sys2Proof.Machine.execReconReq k p s
  | .reconRsp k p => Sys2Proof.Machine.execReconRsp k p s
  | .dack k p => Sys2Proof.Machine.execDack k p s
  | .dackSend dst => Sys2Proof.Machine.execDackSend dst s
  | .mgmtReject k p => Sys2Proof.Machine.execMgmtReject k p s
  | .cap k p => Sys2Proof.Machine.execCap k p s
  | .stewbeat k p => Sys2Proof.Machine.execStewbeat k p s
  | .stewbeatSend => Sys2Proof.Machine.execStewbeatSend s
  | .member k p => Sys2Proof.Machine.execMember k p s
  | .memberSend => Sys2Proof.Machine.execMemberSend s
  | .offer k p => Sys2Proof.Machine.execOffer k p s
  | .ready k p => Sys2Proof.Machine.execReady k p s
  | .refuse k p => Sys2Proof.Machine.execRefuse k p s
  | .done k p => Sys2Proof.Machine.execDone k p s
  | .readyTimeout => Sys2Proof.Machine.execReadyTimeout s
  | .bankSweep bank found => Sys2Proof.Machine.execBankSweep bank found s
  | .submountAtTemperature a temp => Sys2Proof.Machine.execSubmountAtTemperature a temp s
  | .ringLockUpdate n ratio => Sys2Proof.Machine.execRingLockUpdate n ratio s
  | .narrowAcquire n found => Sys2Proof.Machine.execNarrowAcquire n found s
  | .ringLost n lowTap => Sys2Proof.Machine.execRingLost n lowTap s
  | .ringRail n held => Sys2Proof.Machine.execRingRail n held s
  | .laserPowerUpdate a monitor => Sys2Proof.Machine.execLaserPowerUpdate a monitor s
  | .wavelengthFail a mask submount => Sys2Proof.Machine.execWavelengthFail a mask submount s
  | .sensorSample n temp => Sys2Proof.Machine.execSensorSample n temp s
  | .thresholdExit n which => Sys2Proof.Machine.execThresholdExit n which s
  | .throttleStep m => Sys2Proof.Machine.execThrottleStep m s
  | .throttleReleaseStep m => Sys2Proof.Machine.execThrottleReleaseStep m s
  | .hbmThrottleStep stack => Sys2Proof.Machine.execHbmThrottleStep stack s
  | .powerControlTick activityW coreW vmin => Sys2Proof.Machine.execPowerControlTick activityW coreW vmin s
  | .estimateRescale => Sys2Proof.Machine.execEstimateRescale s
  | .capUnmet => Sys2Proof.Machine.execCapUnmet s
  | .predictorUpdate => Sys2Proof.Machine.execPredictorUpdate s
  | .predictorRefit rTh tau => Sys2Proof.Machine.execPredictorRefit rTh tau s
  | .capFallback => Sys2Proof.Machine.execCapFallback s
  | .warnCauseSet c => Sys2Proof.Machine.execWarnCauseSet c s
  | .warnCauseClear c => Sys2Proof.Machine.execWarnCauseClear c s
  | .flowEstimate => Sys2Proof.Machine.execFlowEstimate s
  | .dsConversion n k raw => Sys2Proof.Machine.execDsConversion n k raw s
  | .sarConversion n k raw => Sys2Proof.Machine.execSarConversion n k raw s
  | .stringComplianceLoss => Sys2Proof.Machine.execStringComplianceLoss s
  | .spanWrite n span => Sys2Proof.Machine.execSpanWrite n span s
  | .spanHoldEnd n => Sys2Proof.Machine.execSpanHoldEnd n s
  | .complianceCheck n differs sense => Sys2Proof.Machine.execComplianceCheck n differs sense s
  | .vloopLoss => Sys2Proof.Machine.execVloopLoss s
  | .vloopReturn => Sys2Proof.Machine.execVloopReturn s
  | .sineChange n en inc ampl => Sys2Proof.Machine.execSineChange n en inc ampl s
  | .ropePathSwitch => Sys2Proof.Machine.execRopePathSwitch s
  | .slotSample n => Sys2Proof.Machine.execSlotSample n s
  | .slotOutputPhase n => Sys2Proof.Machine.execSlotOutputPhase n s
  | .setpointWrite n value => Sys2Proof.Machine.execSetpointWrite n value s
  | .slotEnable n => Sys2Proof.Machine.execSlotEnable n s
  | .slotDisable n => Sys2Proof.Machine.execSlotDisable n s
  | .planishStep qty index m => Sys2Proof.Machine.execPlanishStep qty index m s
  | .planishWithdraw qty index m => Sys2Proof.Machine.execPlanishWithdraw qty index m s
  | .planishTap dom => Sys2Proof.Machine.execPlanishTap dom s
  | .planishTimeout dom => Sys2Proof.Machine.execPlanishTimeout dom s
  | .planishOverdue qty index => Sys2Proof.Machine.execPlanishOverdue qty index s
  | .stewardElection => Sys2Proof.Machine.execStewardElection s
  | .rowbeatPulse => Sys2Proof.Machine.execRowbeatPulse s
  | .rowbeatSeen lowUs => Sys2Proof.Machine.execRowbeatSeen lowUs s
  | .primaryLost => Sys2Proof.Machine.execPrimaryLost s
  | .recognitionDrop => Sys2Proof.Machine.execRecognitionDrop s
  | .standbyNaming => Sys2Proof.Machine.execStandbyNaming s
  | .noUpStrand => Sys2Proof.Machine.execNoUpStrand s
  | .relayStep => Sys2Proof.Machine.execRelayStep s
  | .stewEnHwRelease => Sys2Proof.Machine.execStewEnHwRelease s
  | .rowBudget => Sys2Proof.Machine.execRowBudget s
  | .setpointRampStep => Sys2Proof.Machine.execSetpointRampStep s
  | .pumpStall pump => Sys2Proof.Machine.execPumpStall pump s
  | .pumpRestore => Sys2Proof.Machine.execPumpRestore s
  | .toothEdge t time => Sys2Proof.Machine.execToothEdge t time s
  | .toothMissed t => Sys2Proof.Machine.execToothMissed t s
  | .trackerEvent t e time => Sys2Proof.Machine.execTrackerEvent t e time s
  | .timebaseEvent t e => Sys2Proof.Machine.execTimebaseEvent t e s
  | .leakStageTimer rope => Sys2Proof.Machine.execLeakStageTimer rope s
  | .ropeOpen rope => Sys2Proof.Machine.execRopeOpen rope s
  | .filReleaseStage => Sys2Proof.Machine.execFilReleaseStage s
  | .swapWindow n ev => Sys2Proof.Machine.execSwapWindow n ev s
  | .swapStagingTimeout => Sys2Proof.Machine.execSwapStagingTimeout s
  | .configScrub n ok => Sys2Proof.Machine.execConfigScrub n ok s
  | .frameEnd n => Sys2Proof.Machine.execFrameEnd n s
  | .serialCharacter n rx byte gap => Sys2Proof.Machine.execSerialCharacter n rx byte gap s
  | .fabricFlashProgram n word value => Sys2Proof.Machine.execFabricFlashProgram n word value s
  | .fabricFlashErase n page => Sys2Proof.Machine.execFabricFlashErase n page s
  | .inRegStrobe r value => Sys2Proof.Machine.execInRegStrobe r value s
  | .secPulse => Sys2Proof.Machine.execSecPulse s
  | .oscTrim t1 t48 => Sys2Proof.Machine.execOscTrim t1 t48 s
  | .calMirror => Sys2Proof.Machine.execCalMirror s
  | .tokenRefill code => Sys2Proof.Machine.execTokenRefill code s
  | .hmkSealWrite value => Sys2Proof.Machine.execHmkSealWrite value s
  | .sealedFieldWrite fn offset value => Sys2Proof.Machine.execSealedFieldWrite fn offset value s
  | .clkAlarmSWrite value => Sys2Proof.Machine.execClkAlarmSWrite value s
  | .clkAlarmArm value => Sys2Proof.Machine.execClkAlarmArm value s
  | .clkAlarmFiredClear => Sys2Proof.Machine.execClkAlarmFiredClear s
  | .regLoRead fn offset => Sys2Proof.Machine.execRegLoRead fn offset s
  | .regWrite fn sel value be => Sys2Proof.Machine.execRegWrite fn sel value be s
  | .refclkLocked => Sys2Proof.Machine.execRefclkLocked s
  | .stringComplianceRegain => Sys2Proof.Machine.execStringComplianceRegain s
  | .vphoToleranceReturn => Sys2Proof.Machine.execVphoToleranceReturn s
  | .unknownOpcode opcode r => Sys2Proof.Machine.execUnknownOpcode opcode r s
  | .flashOperationDone ok => Sys2Proof.Machine.execFlashOperationDone ok s
  | .wmkSetTimeout => Sys2Proof.Machine.execWmkSetTimeout s
  | .strandSetTimeout k => Sys2Proof.Machine.execStrandSetTimeout k s
  | .entdaa addr => Sys2Proof.Machine.execEntdaa addr s
  | .platformEventMessageResponse sensor offset => Sys2Proof.Machine.execPlatformEventMessageResponse sensor offset s
  | .wakeSignalTimeout => Sys2Proof.Machine.execWakeSignalTimeout s

end Sys2Proof.Machine
end

