-- ==== Sys2Proof/Machine/Step.lean ====
section
/-! DEFINITION. One step of the device: the command at the front of its queue, or a tick of its clock. -/
namespace Sys2Proof.Machine

/-- No command waits: a POST is acknowledged, the 32,768 Hz clock counts on, an alarm that is due fires, the primary's beat is judged, a
handover of the role is complete, a hand-over quiesces at its bound, and requests that have passed theirs end (log entry 11). Without VDECK
nothing runs. -/
def State.idle (s : State) : State :=
  if s.supply.vdeck then s.ackAll.clockTick.mouldTick.throttleTime.alarmDue.beatFollow.handoverDone.fabricReads.quiesceDue.boundsPassed else s

/-- One step. -/
def step (s : State) : Host.Outcome State Fault Refusal :=
  match s.pending with
  | [] => s.finish s.idle
  | c :: rest => exec c { s with pending := rest }

/-- `s` with the command that a word spells at the front of its queue. -/
def State.withFetchWord (s : State) (nbits w : Nat) : State :=
  match decodeTableWord nbits w with
  | some c => { s with pending := c :: s.pending }
  | none => s

end Sys2Proof.Machine
end

