-- ==== Sys2Proof/Safety.lean ====
section
/-! DEFINITION. The terms in which claims speak of runs: a command that completes, the device that says truly what it promises, memory in
its canonical form, and a device in which nothing waits. -/
namespace Sys2Proof.Machine

/-- A command completes in a state: it has a next state. -/
def Completes (i : Instr) (s : State) : Prop := ∃ t, exec i s = .next t

/-- A command's own effect in `s` is `t`: its next state is what follows of itself from `t`, with the queue as it was. -/
def Effect (i : Instr) (s t : State) : Prop := exec i s = .next { t.settle with pending := s.pending }

/-- CHL_PROMISE says what the conditions of 20 Table 20-2 are, as the device judges them (20 R778, Table 20-3). -/
def PromiseTrue (s : State) : Prop :=
  s.mesh.promCauses = s.promiseCauses ∧ s.mesh.promHeld = (s.promiseCauses == 0 && s.inService)

/-- Nothing waits: no request is queued, no NOP sheet is held, and nothing of the mesh or the scorer is due. -/
def Quiet (s : State) : Prop :=
  s.damem.inflight = [] ∧ (∀ r, ∀ h ∈ (s.ringAt r).sheets, h.kind ≠ .nop) ∧ s.mesh.pathDirty = false ∧ s.mesh.ended = [] ∧
    s.wmk.flight = [] ∧ s.wmk.stopping = false

/-! ### Damem requests (05 R196-R205) -/

/-- The Damem rows: the opcode of 05 Tables 05-8 to 05-13 that each request carries. -/
def damemRows : List (Nat × (Req → Instr)) :=
  [(0x0001, .nop), (0x0002, .info), (0x0101, .stateSetDormant), (0x0101, .stateSetStandby), (0x0101, .stateSetAnneal),
   (0x0101, .stateSetSafe), (0x0102, .stateGet), (0x0103, .hallmarkQuery), (0x0104, .debugToken), (0x0105, .timeSet)] ++
  [(0x0201, .partCreate), (0x0202, .partResize), (0x0203, .partDestroy), (0x0204, .partStart), (0x0205, .partStopDrain),
   (0x0205, .partStopAbort), (0x0206, .partReset), (0x0207, .partQuery), (0x0208, .partImage), (0x0209, .ringSetup),
   (0x020A, .ringTeardown)] ++
  [(0x0301, .thermalQuery), (0x0302, .stewardQuery), (0x0303, .stewardRelease), (0x0304, .cduSetpoint), (0x0401, .wmkSetOn),
   (0x0401, .wmkSetOff), (0x0402, .strandSetDisable), (0x0402, .strandSetEnable), (0x0403, .linkQuery), (0x0404, .photonicQuery),
   (0x0501, .planishRun), (0x0502, .planishQuery), (0x0601, .loopCoefWriteInactive), (0x0601, .loopCoefSwap),
   (0x0601, .loopCoefSingle), (0x0602, .loopQuery), (0x0701, .filSectorLoad), (0x0701, .filSectorDisable), (0x0701, .filSectorEnable)] ++
  [(0x0801, .calRead), (0x0802, .calClear), (0x0901, .holdQuery), (0x0902, .flashRead), (0x0903, .flashErase), (0x0904, .flashWrite),
   (0x0905, .imageCheck), (0x0906, .dirSet), (0x0907, .provision), (0x0908, .recoverRetry), (0x0908, .recoverFallback),
   (0x0909, .fwActivateLive), (0x0909, .fwActivateNextCold), (0x090A, .fwCommit)]

/-- The device that has received a request: over a mailbox the window holds it. -/
def State.received (s : State) (c : Nat) (r : Req) : State :=
  match r.path with
  | .mbx m => s.updPage m.val fun pg => { pg with window := r.windowBytes c }
  | .mctp => s

/-- The device that has accepted a request: acknowledged OK on its mailbox, and in the journal (05 R197, R227). -/
def State.accepted (s : State) (c : Nat) (r : Req) : State :=
  let a := match r.path with
    | .mbx m => (s.received c r).acknowledge m.val r.tag .ok 0
    | .mctp => s
  { a with damem := { a.damem with inflight := a.damem.inflight ++ [s.entryOf c r false] } }

/-- The accepted request is answered OK with a payload. -/
def State.answersOk (s : State) (c : Nat) (r : Req) (payload : List Byte) : State :=
  (s.accepted c r).answer (s.entryOf c r false) .ok 0 payload
/-- The accepted request is answered with a status and its DETAIL. -/
def State.answersWith (s : State) (c : Nat) (r : Req) (st : Status) (detail : Nat) : State :=
  (s.accepted c r).answer (s.entryOf c r false) st detail

/-- A request reaches the device and is accepted: its mailbox is there with no POST that waits, or its MCTP binding and the service are up
on a device that is awake, with room among the eight, and steps 1 to 4 of 05 Table 05-6 find nothing against it. -/
def Accepted (s : State) (c : Nat) (r : Req) : Prop :=
  (match r.path with
    | .mbx m => s.mbxUp m.val = true ∧ (s.pageAt m.val).reqBusy = false
    | .mctp => s.bindingUp r.binding = true ∧ r.vendorOk = true ∧ s.damem.mctpUp = true ∧ s.asleep = false ∧
        (s.damem.inflight.filter fun f => f.req.path == .mctp && !f.pldm).length < 8) ∧
  ((s.received c r).ackStatus c r).1 = .ok

/-- A request passes steps 5 to 9 of 05 Table 05-6 as well. -/
def Judged (s : State) (c : Nat) (r : Req) : Prop :=
  Accepted s c r ∧
    (let a := s.accepted c r
     let f := s.entryOf c r false
     (opcodeRow c).isSome = true ∧ (a.heldMode = true → recoverySet c = true) ∧ a.owns c r = true ∧ a.argFault f = none ∧
       a.beyondEnvelope f = none)

/-- A request passes steps 5 to 10 of 05 Table 05-6 as well: known, served in this state, the path owns what it names, its payload is
well formed, within the envelope, its partition's state does not refuse it (06 Table 06-4), and neither an earlier request nor a directory
write (04 R138) holds what it needs. A PART_START of a partition that starts or has started needs no lock and is answered at once. -/
def Served (s : State) (c : Nat) (r : Req) : Prop :=
  Judged s c r ∧
    (let a := s.accepted c r
     let f := s.entryOf c r false
     a.partRefuses c r = false ∧
       (c = 0x0204 → (s.partAt (r.f 0 1)).state ≠ .starting ∧ (s.partAt (r.f 0 1)).state ≠ .started) ∧
       (flashOpcode c r = true → a.dirWriter = none) ∧ a.blockers f = [] ∧ (c = 0x0101 → a.stateJudge f = none))

/-! ### Instructions of a thread group (07 R297-R306) -/

/-- The device after what the memory codes find while an instruction reads (09 R373). -/
def State.seen (s : State) (i : GIns) : State := i.errors.foldl State.memError s
/-- The device as an instruction of the group `g` starts. -/
def State.issuing (s : State) (i : GIns) (g : Group) : State := (s.seen i).updGroup i.mould i.quarter i.slot fun _ => g
/-- An instruction of the group `g` issues: its place exists, its group may issue, before and after what the memory codes find, and it
has an encoding. -/
def Issues (s : State) (i : GIns) (g : Group) : Prop :=
  i.mould < 16 ∧ i.quarter < 4 ∧ i.slot < 16 ∧ (s.ready i).isSome = true ∧ ((s.seen i).ready i).map Group.escaping = some g ∧
    i.malformed = false

/-- What comes of a fault that an instruction of the group meets in the threads of a mask. Where no thread executes the instruction, it goes by;
where results of earlier instructions have yet to land, nothing happens yet; else the trap is taken, for those of the mask that execute it
(08 R333, R337). -/
def State.faults (s : State) (i : GIns) (g : Group) (kind : Nat) (mask : BitVec 32) (addr : Nat) (replay : Bool) : State :=
  if i.acts g = 0 then (s.issuing i g).advanced i g
  else if g.landed = true then ((s.issuing i g).slotIssued i).trapTake i g kind (mask &&& i.acts g) addr replay
  else s
/-- The encoding at fault is ILLEGAL for the active threads (07 R323). -/
def State.illegal (s : State) (i : GIns) (g : Group) : State := s.faults i g 1 g.active 0 false

end Sys2Proof.Machine
end

