-- ==== Sys2Proof/WellFormed.lean ====
section
/-! DEFINITION. Which commands name units that the device has. Every other condition on a command is judged against the state, by its meaning. -/
namespace Sys2Proof

/-- Every unit that a command names exists: rails 0-6, straps 0-3, comparators 0-7, strands 0-63, lanes 0-3, rings 0-63, Moulds 0-15
with four quarters of 16 slots, partitions 0-15, VFs 1-16, mailboxes 0-16, photonic rings 0-703, lasers 0-23, banks 0-19, sensors 0-139 and
the others that the chapters count. -/
def WellFormed (i : Instr) : Bool :=
  match i with
  | .porstAssert _ => true
  | .porstRelease => true
  | .powerOnDetect _ => true
  | .vdeckLoss => true
  | .strapSample _ => true
  | .strapChange strap _ => decide (strap < 4)
  | .perstAssert => true
  | .perstRelease => true
  | .endpointReady => true
  | .pgRise rail => decide (rail < 7)
  | .railSettleExpiry => true
  | .railOffWaitEnd => true
  | .pgTimeout => true
  | .pgFallInSequence rail => decide (rail < 7)
  | .pgFallAfterSequence rail => decide (rail < 7)
  | .pgVanFall => true
  | .vphoOutOfTolerance => true
  | .refclkLoss => true
  | .crystalFault => true
  | .crystalRecover => true
  | .crystalCorrection _ => true
  | .pmbusPoll _ => true
  | .cmpTrip n => decide (n < 8)
  | .cmpRelease n => decide (n < 8)
  | .leakPulse _ _ => true
  | .cmpTripClear _ => true
  | .mgmtAddressMatch => true
  | .rtcAlarmFire => true
  | .annealIdleTimeout => true
  | .lastPartitionStopped => true
  | .bootComplete _ => true
  | .bootWatchdog => true
  | .assayDoubleFault _ => true
  | .restartComplete => true
  | .flrVf vf => decide (1 ≤ vf ∧ vf ≤ 16)
  | .flrPf0 => true
  | .vfEnableClear _ => true
  | .busMasterDisable vf => decide (1 ≤ vf ∧ vf ≤ 16)
  | .busMasterEnable vf => decide (1 ≤ vf ∧ vf ≤ 16)
  | .mbxRespClear m _ => decide (m < 17)
  | .mbxAckClear m => decide (m < 17)
  | .mbxNoticeCiWrite m _ => decide (m < 17)
  | .mbxIntCfgWrite m _ => decide (m < 17)
  | .nop _ => true
  | .info _ => true
  | .stateSetDormant _ => true
  | .stateSetStandby _ => true
  | .stateSetAnneal _ => true
  | .stateSetSafe _ => true
  | .stateGet _ => true
  | .hallmarkQuery _ => true
  | .debugToken _ => true
  | .timeSet _ => true
  | .timeSlewEnd => true
  | .partCreate _ => true
  | .partResize _ => true
  | .partDestroy _ => true
  | .partStart _ => true
  | .partStopDrain _ => true
  | .partStopAbort _ => true
  | .partReset _ => true
  | .partQuery _ => true
  | .partImage _ => true
  | .ringSetup _ => true
  | .ringTeardown _ => true
  | .thermalQuery _ => true
  | .stewardQuery _ => true
  | .stewardRelease _ => true
  | .cduSetpoint _ => true
  | .wmkSetOn _ => true
  | .wmkSetOff _ => true
  | .strandSetDisable _ => true
  | .strandSetEnable _ => true
  | .linkQuery _ => true
  | .photonicQuery _ => true
  | .planishRun _ => true
  | .planishQuery _ => true
  | .loopCoefWriteInactive _ => true
  | .loopCoefSwap _ => true
  | .loopCoefSingle _ => true
  | .loopQuery _ => true
  | .filSectorLoad _ => true
  | .filSectorDisable _ => true
  | .filSectorEnable _ => true
  | .calRead _ => true
  | .calClear _ => true
  | .holdQuery _ => true
  | .flashRead _ => true
  | .flashErase _ => true
  | .flashWrite _ => true
  | .imageCheck _ => true
  | .dirSet _ => true
  | .provision _ => true
  | .recoverRetry _ => true
  | .recoverFallback _ => true
  | .fwActivateLive _ => true
  | .fwActivateNextCold _ => true
  | .liveHandoverTimeout => true
  | .fwCommit _ => true
  | .trialTimeout => true
  | .setEndpointId _ _ _ => true
  | .getEndpointId _ => true
  | .getEndpointUuid _ => true
  | .getMctpVersionSupport _ _ => true
  | .getMessageTypeSupport _ => true
  | .getVendorDefinedMsgSupport _ _ => true
  | .mctpUnsupportedCmd _ _ => true
  | .mctpOtherType _ _ => true
  | .gettid _ => true
  | .settid _ _ => true
  | .getpldmversion _ _ => true
  | .getpldmtypes _ => true
  | .getpldmcommands _ _ => true
  | .getpdrrepositoryinfo _ => true
  | .getpdr _ _ => true
  | .getsensorreading _ _ => true
  | .getstatesensorreadings _ _ => true
  | .setstateeffecterstates _ _ _ => true
  | .getstateeffecterstates _ _ => true
  | .setnumericeffectervalue _ _ _ => true
  | .getnumericeffectervalue _ _ => true
  | .seteventreceiver _ _ => true
  | .geteventreceiver _ => true
  | .pldmUnsupportedCmd _ _ _ => true
  | .pldmEventResend _ _ => true
  | .rngSubPiWrite vf ring _ => decide (vf < 17 ∧ ring < 64)
  | .rngCplCiWrite vf ring _ => decide (vf < 17 ∧ ring < 64)
  | .rngSpillCiWrite vf ring _ => decide (vf < 17 ∧ ring < 64)
  | .sheetAccept ring _ _ => decide (ring < 64)
  | .sheetFence ring _ => decide (ring < 64)
  | .sheetKernelDispatch ring _ => decide (ring < 64)
  | .groupDispatch ring _ => decide (ring < 64)
  | .overdueChange ring => decide (ring < 64)
  | .sheetDeadline ring _ => decide (ring < 64)
  | .drainDeadline part => decide (part < 16)
  | .memorySweep _ _ => true
  | .mouldClockIdleStop m => decide (m < 16)
  | .mouldFault m _ => decide (m < 16)
  | .mouldWatchdog m quarter => decide (m < 16 ∧ quarter < 4)
  | .mouldSelftestDone m _ => decide (m < 16)
  | .vectorOp g _ _ _ _ _ => decide (g.mould < 16 ∧ g.quarter < 4 ∧ g.slot < 16)
  | .scalarOp g _ _ _ _ => decide (g.mould < 16 ∧ g.quarter < 4 ∧ g.slot < 16)
  | .branch g _ _ => decide (g.mould < 16 ∧ g.quarter < 4 ∧ g.slot < 16)
  | .yieldOp g => decide (g.mould < 16 ∧ g.quarter < 4 ∧ g.slot < 16)
  | .starvationEscape m q k => decide (m < 16 ∧ q < 4 ∧ k < 16)
  | .barG g => decide (g.mould < 16 ∧ g.quarter < 4 ∧ g.slot < 16)
  | .exit g => decide (g.mould < 16 ∧ g.quarter < 4 ∧ g.slot < 16)
  | .movs g _ _ _ => decide (g.mould < 16 ∧ g.quarter < 4 ∧ g.slot < 16)
  | .macq g _ => decide (g.mould < 16 ∧ g.quarter < 4 ∧ g.slot < 16)
  | .mzero g _ => decide (g.mould < 16 ∧ g.quarter < 4 ∧ g.slot < 16)
  | .mld g _ _ => decide (g.mould < 16 ∧ g.quarter < 4 ∧ g.slot < 16)
  | .mma g _ _ _ _ _ _ _ => decide (g.mould < 16 ∧ g.quarter < 4 ∧ g.slot < 16)
  | .mst g _ _ _ => decide (g.mould < 16 ∧ g.quarter < 4 ∧ g.slot < 16)
  | .mwait g _ => decide (g.mould < 16 ∧ g.quarter < 4 ∧ g.slot < 16)
  | .mrel g _ => decide (g.mould < 16 ∧ g.quarter < 4 ∧ g.slot < 16)
  | .matrixOpDone mould quarter => decide (mould < 16 ∧ quarter < 4)
  | .mcopy g _ _ _ _ => decide (g.mould < 16 ∧ g.quarter < 4 ∧ g.slot < 16)
  | .cwait g _ => decide (g.mould < 16 ∧ g.quarter < 4 ∧ g.slot < 16)
  | .copyDone m q k => decide (m < 16 ∧ q < 4 ∧ k < 16)
  | .load g _ => decide (g.mould < 16 ∧ g.quarter < 4 ∧ g.slot < 16)
  | .store g _ => decide (g.mould < 16 ∧ g.quarter < 4 ∧ g.slot < 16)
  | .atomicInstr g _ => decide (g.mould < 16 ∧ g.quarter < 4 ∧ g.slot < 16)
  | .ldAcq g _ => decide (g.mould < 16 ∧ g.quarter < 4 ∧ g.slot < 16)
  | .stRel g _ => decide (g.mould < 16 ∧ g.quarter < 4 ∧ g.slot < 16)
  | .fenceP g => decide (g.mould < 16 ∧ g.quarter < 4 ∧ g.slot < 16)
  | .fenceR g => decide (g.mould < 16 ∧ g.quarter < 4 ∧ g.slot < 16)
  | .brk g => decide (g.mould < 16 ∧ g.quarter < 4 ∧ g.slot < 16)
  | .trapld g _ _ => decide (g.mould < 16 ∧ g.quarter < 4 ∧ g.slot < 16)
  | .trapst g _ _ => decide (g.mould < 16 ∧ g.quarter < 4 ∧ g.slot < 16)
  | .trapset g _ => decide (g.mould < 16 ∧ g.quarter < 4 ∧ g.slot < 16)
  | .trapret g _ => decide (g.mould < 16 ∧ g.quarter < 4 ∧ g.slot < 16)
  | .trapkill g _ => decide (g.mould < 16 ∧ g.quarter < 4 ∧ g.slot < 16)
  | .parkRetranslate m q k => decide (m < 16 ∧ q < 4 ∧ k < 16)
  | .parkExpired m q k => decide (m < 16 ∧ q < 4 ∧ k < 16)
  | .cvt g _ _ _ => decide (g.mould < 16 ∧ g.quarter < 4 ∧ g.slot < 16)
  | .cvtPb g _ _ _ => decide (g.mould < 16 ∧ g.quarter < 4 ∧ g.slot < 16)
  | .wacq g _ => decide (g.mould < 16 ∧ g.quarter < 4 ∧ g.slot < 16)
  | .wzero g _ => decide (g.mould < 16 ∧ g.quarter < 4 ∧ g.slot < 16)
  | .wadd g _ _ => decide (g.mould < 16 ∧ g.quarter < 4 ∧ g.slot < 16)
  | .wsub g _ _ => decide (g.mould < 16 ∧ g.quarter < 4 ∧ g.slot < 16)
  | .wred g _ => decide (g.mould < 16 ∧ g.quarter < 4 ∧ g.slot < 16)
  | .wrd g _ _ => decide (g.mould < 16 ∧ g.quarter < 4 ∧ g.slot < 16)
  | .wrd2 g _ _ _ => decide (g.mould < 16 ∧ g.quarter < 4 ∧ g.slot < 16)
  | .wflg g _ _ => decide (g.mould < 16 ∧ g.quarter < 4 ∧ g.slot < 16)
  | .wst g _ _ => decide (g.mould < 16 ∧ g.quarter < 4 ∧ g.slot < 16)
  | .wld g _ _ => decide (g.mould < 16 ∧ g.quarter < 4 ∧ g.slot < 16)
  | .waddw g _ _ => decide (g.mould < 16 ∧ g.quarter < 4 ∧ g.slot < 16)
  | .wrel g _ => decide (g.mould < 16 ∧ g.quarter < 4 ∧ g.slot < 16)
  | .tld g _ => decide (g.mould < 16 ∧ g.quarter < 4 ∧ g.slot < 16)
  | .tadd g _ => decide (g.mould < 16 ∧ g.quarter < 4 ∧ g.slot < 16)
  | .taddr g _ => decide (g.mould < 16 ∧ g.quarter < 4 ∧ g.slot < 16)
  | .tset g _ => decide (g.mould < 16 ∧ g.quarter < 4 ∧ g.slot < 16)
  | .twaitGe g _ => decide (g.mould < 16 ∧ g.quarter < 4 ∧ g.slot < 16)
  | .twaitEq g _ => decide (g.mould < 16 ∧ g.quarter < 4 ∧ g.slot < 16)
  | .tallyWaitTimeout _ => true
  | .watchFullPoll m q k => decide (m < 16 ∧ q < 4 ∧ k < 16)
  | .score g _ => decide (g.mould < 16 ∧ g.quarter < 4 ∧ g.slot < 16)
  | .swait g _ => decide (g.mould < 16 ∧ g.quarter < 4 ∧ g.slot < 16)
  | .xltRootWrite vf _ _ => decide (vf < 17)
  | .xltInvAll vf _ => decide (vf < 17)
  | .xltInvRange vf _ => decide (vf < 17)
  | .invalidationDone part => decide (part < 16)
  | .tlySigWrite vf _ _ => decide (vf < 17)
  | .bar2Access vf _ _ _ => decide (vf < 17)
  | .batchStart => true
  | .batchEnd _ => true
  | .probePulse k => decide (k < 64)
  | .presenceDetect k => decide (k < 64)
  | .fullPowerStart k => decide (k < 64)
  | .strandStartTime port => decide (port < 16)
  | .trainingStageDone k _ _ => decide (k < 64)
  | .trainingStageTimeout k => decide (k < 64)
  | .miswiredRetry k _ => decide (k < 64)
  | .frameTransmit k => decide (k < 64)
  | .frameReceive k lane _ _ => decide (k < 64 ∧ lane < 4)
  | .markerReceive k lane _ _ => decide (k < 64 ∧ lane < 4)
  | .replayTimeout k => decide (k < 64)
  | .laneRetest k lane _ => decide (k < 64 ∧ lane < 4)
  | .laneReadmit k lane => decide (k < 64 ∧ lane < 4)
  | .lossOfLight k => decide (k < 64)
  | .reconTimeout k => decide (k < 64)
  | .lightReturnTimeout k => decide (k < 64)
  | .loopTestEnd k => decide (k < 64)
  | .chlRequestIssue => true
  | .read k _ => decide (k < 64)
  | .write k _ => decide (k < 64)
  | .atomic k _ => decide (k < 64)
  | .tally k _ => decide (k < 64)
  | .watch k _ => decide (k < 64)
  | .watchCancel k _ => decide (k < 64)
  | .readRsp k _ => decide (k < 64)
  | .writeAck k _ => decide (k < 64)
  | .atomicRsp k _ => decide (k < 64)
  | .tallyRsp k _ => decide (k < 64)
  | .watchAns k _ => decide (k < 64)
  | .cancelAck k _ => decide (k < 64)
  | .linkmap k _ => decide (k < 64)
  | .linkmapSend => true
  | .depart k _ => decide (k < 64)
  | .reconReq k _ => decide (k < 64)
  | .reconRsp k _ => decide (k < 64)
  | .dack k _ => decide (k < 64)
  | .dackSend _ => true
  | .mgmtReject k _ => decide (k < 64)
  | .cap k _ => decide (k < 64)
  | .stewbeat k _ => decide (k < 64)
  | .stewbeatSend => true
  | .member k _ => decide (k < 64)
  | .memberSend => true
  | .offer k _ => decide (k < 64)
  | .ready k _ => decide (k < 64)
  | .refuse k _ => decide (k < 64)
  | .done k _ => decide (k < 64)
  | .readyTimeout => true
  | .bankSweep bank _ => decide (bank < 20)
  | .submountAtTemperature a _ => decide (a < 24)
  | .ringLockUpdate n _ => decide (n < 704)
  | .narrowAcquire n _ => decide (n < 704)
  | .ringLost n _ => decide (n < 704)
  | .ringRail n _ => decide (n < 704)
  | .laserPowerUpdate a _ => decide (a < 24)
  | .wavelengthFail a _ _ => decide (a < 24)
  | .sensorSample n _ => decide (n < 140)
  | .thresholdExit n which => decide (n < 140 ∧ which < 3)
  | .throttleStep m => decide (m < 16)
  | .throttleReleaseStep m => decide (m < 16)
  | .hbmThrottleStep stack => decide (stack < 8)
  | .powerControlTick _ _ _ => true
  | .estimateRescale => true
  | .capUnmet => true
  | .predictorUpdate => true
  | .predictorRefit _ _ => true
  | .capFallback => true
  | .warnCauseSet c => decide (c < 11)
  | .warnCauseClear c => decide (c < 11)
  | .flowEstimate => true
  | .dsConversion n k _ => decide (n < 4 ∧ k < 8)
  | .sarConversion n k _ => decide (n < 2 ∧ k < 16)
  | .stringComplianceLoss => true
  | .spanWrite n _ => decide (n < 8)
  | .spanHoldEnd n => decide (n < 8)
  | .complianceCheck n _ _ => decide (n < 8)
  | .vloopLoss => true
  | .vloopReturn => true
  | .sineChange n _ _ _ => decide (n < 2)
  | .ropePathSwitch => true
  | .slotSample s => decide (s < 64)
  | .slotOutputPhase s => decide (s < 64)
  | .setpointWrite s _ => decide (s < 64)
  | .slotEnable s => decide (s < 64)
  | .slotDisable s => decide (s < 64)
  | .planishStep _ _ _ => true
  | .planishWithdraw _ _ _ => true
  | .planishTap dom => decide (dom < 5)
  | .planishTimeout dom => decide (dom < 5)
  | .planishOverdue _ _ => true
  | .stewardElection => true
  | .rowbeatPulse => true
  | .rowbeatSeen _ => true
  | .primaryLost => true
  | .recognitionDrop => true
  | .standbyNaming => true
  | .noUpStrand => true
  | .relayStep => true
  | .stewEnHwRelease => true
  | .rowBudget => true
  | .setpointRampStep => true
  | .pumpStall pump => decide (pump < 2)
  | .pumpRestore => true
  | .toothEdge t _ => decide (t < 2)
  | .toothMissed t => decide (t < 2)
  | .trackerEvent t _ _ => decide (t < 2)
  | .timebaseEvent t _ => decide (t < 2)
  | .leakStageTimer rope => decide (rope < 4)
  | .ropeOpen rope => decide (rope.rope < 4)
  | .filReleaseStage => true
  | .swapWindow n _ => decide (n < 16)
  | .swapStagingTimeout => true
  | .configScrub n _ => decide (n < 16)
  | .frameEnd s => decide (s < 8)
  | .serialCharacter s _ _ _ => decide (s < 8)
  | .fabricFlashProgram n _ _ => decide (n < 16)
  | .fabricFlashErase n _ => decide (n < 16)
  | .inRegStrobe r _ => decide (r < 32)
  | .secPulse => true
  | .oscTrim _ _ => true
  | .calMirror => true
  | .tokenRefill _ => true
  | .hmkSealWrite _ => true
  | .sealedFieldWrite _ _ _ => true
  | .clkAlarmSWrite _ => true
  | .clkAlarmArm _ => true
  | .clkAlarmFiredClear => true
  | .regLoRead _ _ => true
  | .regWrite _ _ _ _ => true
  | .refclkLocked => true
  | .stringComplianceRegain => true
  | .vphoToleranceReturn => true
  | .unknownOpcode _ _ => true
  | .flashOperationDone _ => true
  | .wmkSetTimeout => true
  | .strandSetTimeout k => decide (k < 64)
  | .entdaa _ => true
  | .platformEventMessageResponse _ _ => true
  | .wakeSignalTimeout => true

end Sys2Proof
end

