-- ==== Sys2Proof/Certificates/Slice0/Obligations.lean ====
section
/-! DEFINITION. The statements for the provers. Each says of some rows of the opcode table what their own effect is (Safety.Effect: the
next state is that effect with what follows of itself, and the queue as it was), for every state that meets the conditions; what is written
`u = { s with … }` is the frame. -/
open Sys2Proof Sys2Proof.Machine

/-- A step takes the command at the front of the queue and does what it does on the device with the rest of the queue; on an empty queue it
is one tick of the clock, which counts on (the model's choice, log entry 11): where no POST waits for its acknowledge, no request is in
progress and nothing else is due, a tick counts the clocks and the time in throttle and does nothing else. -/
def Obligations.StepRunsTheFrontCommand : Prop :=
  (∀ (s : State) (c : Instr) (rest : List Instr), s.pending = c :: rest → step s = exec c { s with pending := rest }) ∧
  (∀ s : State, s.pending = [] → step s = .next { s.idle.settle with pending := [] }) ∧
  (∀ s : State, s.supply.vdeck = false → s.idle = s) ∧
  (∀ s : State, s.supply.vdeck = true → (∀ m, m < 17 → (s.pageAt m).reqBusy = false) → s.clockTick.alarmReached = false →
    s.stew.beat = false → s.stew.offerAt = none → s.fil.badWords = [] → s.update.handover = none → s.damem.inflight = [] →
    s.idle = s.clockTick.mouldTick.throttleTime ∧ s.idle.clocks.uptime = (s.clocks.uptime + 1) % 2 ^ 48)

/-- A command leaves the queue as it was, and one that names a unit which the device does not have is the fault noSuchUnit and nothing else
(the model's choice, log entry 13): a command completes exactly where its units exist. -/
def Obligations.CommandsCompleteWhereTheirUnitsExist : Prop :=
  (∀ (i : Instr) (s t : State), exec i s = .next t → t.pending = s.pending) ∧
  (∀ (i : Instr) (s : State), WellFormed i = true → Completes i s) ∧
  (∀ (i : Instr) (s : State), WellFormed i = false → exec i s = .fault .noSuchUnit)

/-- Parts of 20 R778, Table 20-3: after every step, from whatever state, CHL_PROMISE says what the conditions of the promise are, and HELD
is set exactly where none holds and the device is in service. -/
def Obligations.EveryStepKeepsThePromiseTrue : Prop :=
  ∀ s t : State, PromiseTrue s → step s = .next t → PromiseTrue t

/-- What reset leaves: 02 R70's device in cold reset: PORST# low, no power-good, no rail driven, PWR_STATE at its reset value (03 Table 03-4:
STANDBY with TRANS), nothing queued or waiting, no memory listed, its byte memories in canonical form, and the promise true. That reset finds
VDECK present and PORST# low is the model's choice (log entry 1). -/
def Obligations.ResetIsColdReset : Prop :=
  State.reset.supply.porst = true ∧ State.reset.dev.state = .standby ∧ State.reset.dev.trans = true ∧ State.reset.pending = [] ∧
  (∀ r, r < 7 → Table.at State.reset.supply.en r true = false ∧ Table.at State.reset.supply.pg r true = false) ∧
  (∀ k, k < 64 → (State.reset.strandAt k).tx = .off) ∧ (∀ a, a < 24 → (State.reset.laserAt a).lit = false) ∧
  (∀ p, p < 16 → (State.reset.partAt p).state = .none) ∧ (∀ n, n < 512 → State.reset.tallyVal n = 0) ∧
  State.reset.mem.bytes = [] ∧ Mem.wf 0 State.reset.mem.bytes = true ∧ Mem.wf 0xFF State.reset.flash.bytes = true ∧
  Mem.wf 0xFF State.reset.fil.flash = true ∧ PromiseTrue State.reset ∧ Quiet State.reset

/-- Parts of 06 R253, R282: device memory holds what was last written: a byte inside the bytes written reads as written, every byte outside
reads as before, the listing keeps its canonical form, the poison of the sectors written is gone and no other, and nothing but memory
changes. -/
def Obligations.MemoryHoldsWhatIsWritten : Prop :=
  ∀ (s : State) (d : Nat) (b : List Byte), Mem.wf 0 s.mem.bytes = true →
    let t := s.memWrite d b
    Mem.wf 0 t.mem.bytes = true ∧ (∀ i, i < b.length → t.memRead (d + i) 1 = [(b[i]?).getD 0]) ∧
    (∀ a, a < d ∨ d + b.length ≤ a → t.memRead a 1 = s.memRead a 1) ∧
    (∀ x, t.isPoisoned x = (s.isPoisoned x && !(decide (d / 64 ≤ x) && decide (x ≤ (d + b.length - 1) / 64)))) ∧
    t = { s with mem := t.mem } ∧ t.memRead d b.length = b

/-- Parts of 02 R70: a low of 10 us or longer on PORST# is a cold reset, and a shorter one is ignored; the reset state has every EN_ low and
every unit at its reset value. What outlives a reset stays: OTP, the calendar time while VDECK stays (04 R172), the Calender, the
fabric's flash, the levels of pins that others drive. Without VDECK the device is in reset already, and only the level of PORST# is seen.
The reset values are those of `State.reset` (log entries 1 to 4 where the spec gives none). -/
def Obligations.PorstLowMakesColdReset : Prop :=
  ∀ (s : State) (us : Nat),
    (us < 10 → Effect (.porstAssert us) s s) ∧
    (10 ≤ us → s.supply.vdeck = false → Effect (.porstAssert us) s { s with supply := { s.supply with porstLow := true } }) ∧
    (10 ≤ us → s.supply.vdeck = true → ∃ t, exec (.porstAssert us) s = .next t ∧
      t.supply = { State.reset.supply with perst := s.supply.perst, strapPins := s.supply.strapPins } ∧
      t.dev = State.reset.dev ∧ t.boot = State.reset.boot ∧ t.hmk = State.reset.hmk ∧ t.row = State.reset.row ∧
      t.update = State.reset.update ∧ t.damem = State.reset.damem ∧ t.cmp = State.reset.cmp ∧ t.part = State.reset.part ∧
      t.ring = State.reset.ring ∧ t.mould = State.reset.mould ∧ t.tally = State.reset.tally ∧ t.sriov = State.reset.sriov ∧
      t.wmk = State.reset.wmk ∧ t.mesh = State.reset.mesh ∧ t.pho = State.reset.pho ∧ t.thm = State.reset.thm ∧
      t.aar = State.reset.aar ∧ t.lpe = State.reset.lpe ∧ t.prog = State.reset.prog ∧ t.pln = State.reset.pln ∧
      t.stew = State.reset.stew ∧ t.clocks.uptime = 0 ∧ t.clocks.calFs = s.clocks.calFs ∧
      t.clocks.timeValid = s.clocks.timeValid ∧ t.cal.recs = s.cal.recs ∧ t.cal.buckets = s.cal.buckets ∧ t.otp = s.otp ∧
      t.flash = (s.flashEnds false).flash ∧ t.fil.flash = s.fil.flash ∧ t.out = s.out ∧ t.pending = s.pending)

/-- Parts of 02 R70, R79: the loss of VDECK, told by its own command or by the detector, is a cold reset that also takes the calendar time and
the Calender's ring, and the device is OFF; VDECK back, the device is no longer OFF and its oscillators run, and the end of the reset,
by either command, starts the cold boot, whose next step samples the straps. A PORST# that is still low holds the reset on. -/
def Obligations.SupplyResetsAndReleases : Prop :=
  (∀ s : State, ∃ t, exec .vdeckLoss s = .next t ∧ t.supply.vdeck = false ∧ t.supply.porst = true ∧ t.dev.state = .off ∧
    (∀ r, t.enAt r = false) ∧ t.clocks = { State.reset.clocks with osc192 := false, oscFil := false } ∧ t.cal = State.reset.cal ∧
    t.hmk = State.reset.hmk ∧ t.part = State.reset.part ∧ t.otp = s.otp ∧ t.pending = s.pending) ∧
  (∀ s : State, s.supply.vdeck = true → exec (.powerOnDetect false) s = exec .vdeckLoss s) ∧
  (∀ s : State, s.supply.vdeck = false → Effect (.powerOnDetect false) s s) ∧
  (∀ s : State, s.supply.vdeck = false → s.supply.porstLow = false → Effect (.powerOnDetect true) s
    { s with
      supply := { s.supply with porst := false, vdeck := true }
      dev := { s.dev with state := .standby }
      clocks := { s.clocks with osc192 := true, oscFil := true }
      boot := { s.boot with phase := .strapWait } }) ∧
  (∀ s : State, s.supply.vdeck = false → s.supply.porstLow = true → Effect (.powerOnDetect true) s
    { s with
      supply := { s.supply with vdeck := true }
      dev := { s.dev with state := .standby }
      clocks := { s.clocks with osc192 := true, oscFil := true } }) ∧
  (∀ s : State, s.supply.vdeck = true → Effect (.powerOnDetect true) s s) ∧
  (∀ s : State, s.supply.porst = true → s.supply.vdeck = true → Effect .porstRelease s
    { s with
      supply := { s.supply with porst := false, porstLow := false }
      boot := { s.boot with phase := .strapWait } }) ∧
  (∀ s : State, (s.supply.porst = false ∨ s.supply.vdeck = false) →
    Effect .porstRelease s { s with supply := { s.supply with porstLow := false } })

/-- Parts of 02 R56: powering up, a PG_ line that the sequence awaits rises and its 1 ms begins; at the end of it the EN_ of the next rail
in the order VAN, VSRAM, VCORE, HBM, VPHO, VLD, VHTR is driven, VCORE starting at 750 mV (02 R59); powering down, the next rail goes off
when the PG_ of the last one has fallen. With VLD and VHTR the sub-mount heaters start where both are on, but not for DORMANT (12 R521). A
PG_ that the sequence does not await, of a rail that is not driven or is on already, starts nothing. -/
def Obligations.RailsFollowTheSequence : Prop :=
  (∀ (s : State) (r last : Nat), r < 7 → s.supply.seq = .up r false last → ((r ≠ 5 ∧ r ≠ 6) ∨ s.dev.target = .dormant) →
    Effect (.pgRise r) s { s with supply := { s.supply with
      pg := Table.put s.supply.pg r true, vphoOk := s.supply.vphoOk || decide (r = 4), seq := .up r true last } }) ∧
  (∀ (s : State) (r last : Nat), r = 5 ∨ r = 6 → s.supply.seq = .up r false last → s.dev.target ≠ .dormant →
    Effect (.pgRise r) s ((({ s with supply := { s.supply with pg := Table.put s.supply.pg r true } }).heatersFollow).seqTo
      (.up r true last) s.supply.goal)) ∧
  (∀ (s : State) (r q last : Nat) (w : Bool), r < 7 → s.supply.seq = .up q w last → r ≠ q → w = false →
    Effect (.pgRise r) s s) ∧
  (∀ (s : State) (r : Nat), r < 7 → s.supply.seq = .idle → (s.enAt r = false ∨ s.pgAt r = true) → Effect (.pgRise r) s s) ∧
  (∀ (s : State) (r last : Nat), r < last → last < 7 → s.supply.seq = .up r true last → s.enAt (r + 1) = false →
    Effect .railSettleExpiry s { s with supply := { s.supply with
      en := Table.put s.supply.en (r + 1) true
      seq := .up (r + 1) false last
      avsReq := if r + 1 = 2 then 750 else s.supply.avsReq
      avsAck := if r + 1 = 2 then 750 else s.supply.avsAck } }) ∧
  (∀ (s : State) (last : Nat), last < 7 → s.supply.seq = .up last true last →
    Effect .railSettleExpiry s s.seqDone) ∧
  (∀ s : State, s.supply.seq = .idle → Effect .railSettleExpiry s s ∧ Effect .railOffWaitEnd s s) ∧
  (∀ (s : State) (r q : Nat) (rest : List Nat), s.supply.seq = .down (r :: q :: rest) →
    Effect .railOffWaitEnd s (((s.updSupply fun u => { u with pg := Table.put u.pg r false }).railCut q).seqTo
      (.down (q :: rest)) s.supply.goal)) ∧
  (∀ (s : State) (r : Nat), s.supply.seq = .down [r] → s.supply.goal = .none →
    Effect .railOffWaitEnd s { s with supply := { s.supply with
      pg := Table.put s.supply.pg r false, seq := .idle, goal := .none } })

/-- Parts of 02 R75-R77, R84: a PG_ of the power-up that stays low or falls stops the sequence with the rail's record and SAFE, cause 0x01,
VAN going too where it is VAN that failed; after the sequence a lost rail takes the link down, its record and cause 0x02, VAN cause 0x03, in
DORMANT with the comparators, which lose their inputs, reading as tripped and the warning raised (03 R125); none of it where the rail is not
on. -/
def Obligations.LostRailsEnterSafe : Prop :=
  (∀ (s : State) (r last : Nat), s.supply.seq = .up r false last → Effect .pgTimeout s
    ((((s.updSupply fun u => { u with pg := Table.put u.pg r false }).log 0x1007 (param [(1, r)])).updSupply
      fun u => { u with seq := .idle }).enterSafe 1 (r == 0))) ∧
  (∀ s : State, s.supply.seq = .idle → Effect .pgTimeout s s) ∧
  (∀ (s : State) (r q last : Nat) (w : Bool), r < 7 → s.supply.seq = .up q w last → s.railOn r = true →
    Effect (.pgFallInSequence r) s (((((s.updSupply fun u => { u with pg := Table.put u.pg r false }).log 0x1007
      (param [(1, r)])).updSupply fun u => { u with seq := .idle }).enterSafe 1 (r == 0)).railLost r)) ∧
  (∀ (s : State) (r : Nat), 1 ≤ r → r < 7 → s.supply.seq = .idle → s.railOn r = true →
    Effect (.pgFallAfterSequence r) s ((((s.updSupply fun u => { u with pg := Table.put u.pg r false, endpoint := .off }).log 0x1007
      (param [(1, r)])).enterSafe 2).railLost r)) ∧
  (∀ s : State, s.supply.seq = .idle → s.railOn 0 = true → s.dev.state ≠ .dormant →
    Effect .pgVanFall s (((s.updSupply fun u => { u with pg := Table.put u.pg 0 false, endpoint := .off }).log 0x1007
      (param [(1, 0)])).enterSafe 3)) ∧
  (∀ s : State, s.supply.seq = .idle → s.railOn 0 = true → s.dev.state = .dormant →
    Effect .pgVanFall s ((((List.range 8).foldl State.cmpForced
      ((s.updSupply fun u => { u with pg := Table.put u.pg 0 false, endpoint := .off }).log 0x1007 (param [(1, 0)]))).warnSet 7).enterSafe 3)) ∧
  (∀ (s : State) (r : Nat), r < 7 → s.supply.seq = .idle → s.railOn r = false →
    Effect (.pgFallInSequence r) s s ∧ Effect (.pgFallAfterSequence r) s s ∧ (r = 0 → Effect .pgVanFall s s))

/-- Parts of 03 R100, R118, R855: a SAFE cause that arises with no episode in progress is SAFE_CAUSE and the only cause of a new episode, the
device is on its way into SAFE or there, and no partition start waits any more. A further cause joins the episode, newest first, and
SAFE_CAUSE takes it; one that meets a way out of SAFE turns the device back to SAFE. -/
def Obligations.SafeTakesItsCause : Prop :=
  (∀ (s : State) (c : Nat) (van : Bool), s.dev.episode = none →
    (s.enterSafe c van).dev.safeCause = c ∧ (s.enterSafe c van).dev.target = .safe ∧
    (s.enterSafe c van).dev.episode = some { causes := [c], fromHeld := s.noImage } ∧
    (s.enterSafe c van).dev.startsWaiting = []) ∧
  (∀ (s : State) (e : SafeEpisode) (c : Nat) (van : Bool), s.dev.episode = some e →
    (s.enterSafe c van).dev.safeCause = c ∧
    (s.enterSafe c van).dev.episode = some { e with causes := c :: e.causes }) ∧
  (∀ (s : State) (e : SafeEpisode) (c : Nat) (van : Bool), s.dev.episode = some e → s.leavingSafe = true →
    (s.enterSafe c van).dev.target = .safe ∧ (s.enterSafe c van).dev.startsWaiting = [])

/-- Parts of 03 R108 (Table 21-4): PWR_CMP_STAT reads each comparator's TRIP and its LEVEL; a write of 1 to a TRIP bit clears it, and it
sets again at once where the comparator is still tripped; every other TRIP bit stays, and so does everything else. The register is PF0's,
which answers while the endpoint is ready. -/
def Obligations.TripBitsClearByWriteOfOne : Prop :=
  (∀ (s : State) (v : Reg32), s.supply.endpoint = .ready → ∃ u : State, Effect (.cmpTripClear v) s u ∧ u = { s with cmp := u.cmp } ∧
    ∀ n, n < 8 → u.cmpAt n = { s.cmpAt n with trip := if v.getLsbD (8 + n) then (s.cmpAt n).level else (s.cmpAt n).trip }) ∧
  (∀ (s : State) (v : Reg32), s.supply.endpoint ≠ .ready → Effect (.cmpTripClear v) s s)

/-- Parts of 03 R108, R109: an armed comparator whose input trips shows TRIP and LEVEL with a record, its settings and every other
comparator as they were, and then takes its ACTION; a release clears LEVEL alone. A comparator that is not armed, or stands so already,
shows nothing. CMP0-CMP3 are judged here once their rectifiers are switched in (14 R604).

Parts of 03 R106: a leak pulse goes out on ASINE0 and ASINE1, with the polarity opposite to the one before, and at its end each rope's
comparator is sampled; one sample beyond the threshold only counts: where no rope has its second sample in a row beyond its threshold, or
past its release point, nothing trips and only the counts change. With the rectifiers switched in, in reset and without VDECK there is no
pulse. -/
def Obligations.ComparatorsAndLeaksAreJudged : Prop :=
  ((∀ (s : State) (n : Nat), n < 8 → (4 ≤ n ∨ s.aar.ropeRect = true) → s.cmpArmed n = true → (s.cmpAt n).level = false →
     ∃ v : State, Effect (.cmpTrip n) s (v.cmpActs n) ∧ (v.cmpAt n).trip = true ∧ (v.cmpAt n).level = true ∧
       (v.cmpAt n).cfg = (s.cmpAt n).cfg ∧ (∀ m, m ≠ n → v.cmpAt m = s.cmpAt m) ∧
       v = { s with cmp := v.cmp, cal := v.cal, damem := v.damem, out := v.out }) ∧
   (∀ (s : State) (n : Nat), n < 8 → (4 ≤ n ∨ s.aar.ropeRect = true) → s.cmpArmed n = true → (s.cmpAt n).level = true →
     Effect (.cmpTrip n) s s ∧
     ∃ v : State, Effect (.cmpRelease n) s (v.ropeWet n false) ∧ (v.cmpAt n).trip = (s.cmpAt n).trip ∧ (v.cmpAt n).level = false ∧
       (v.cmpAt n).cfg = (s.cmpAt n).cfg ∧ (∀ m, m ≠ n → v.cmpAt m = s.cmpAt m) ∧
       v = { s with cmp := v.cmp, cal := v.cal, damem := v.damem, out := v.out }) ∧
   (∀ (s : State) (n : Nat), n < 8 → s.cmpArmed n = true → (s.cmpAt n).level = false → Effect (.cmpRelease n) s s) ∧
   (∀ (s : State) (n : Nat), n < 8 → s.cmpArmed n = false → Effect (.cmpTrip n) s s ∧ Effect (.cmpRelease n) s s) ∧
   (∀ (s : State) (n : Nat), n < 4 → s.aar.ropeRect = false → Effect (.cmpTrip n) s s ∧ Effect (.cmpRelease n) s s)) ∧
  ((∀ (s : State) (b p : Vector Bool 4), s.aar.ropeRect = false → s.supply.porst = false → s.supply.vdeck = true →
     (∀ n, n < 4 → (Table.at b n false = true → (s.cmpAt n).beyond = 0) ∧ (Table.at p n false = true → (s.cmpAt n).past = 0)) →
     ∃ u : State, Effect (.leakPulse b p) s u ∧ u = { s with
         cmp := u.cmp
         aar := { s.aar with pulseNeg := !s.aar.pulseNeg }
         out := .pulse "ASINE0-1" (b2n s.aar.pulseNeg) :: s.out } ∧
       (∀ n, 4 ≤ n → u.cmpAt n = s.cmpAt n) ∧
       ∀ n, n < 4 → u.cmpAt n = { s.cmpAt n with
         beyond := if Table.at b n false then 1 else 0, past := if Table.at p n false then 1 else 0 }) ∧
   (∀ (s : State) (b p : Vector Bool 4), (s.aar.ropeRect = true ∨ s.supply.porst = true ∨ s.supply.vdeck = false) →
     Effect (.leakPulse b p) s s))

/-- Parts of 03 Table 03-7, R111, R112, R119 and 13 Table 13-9: what a trip leads to is its ACTION: SAFE with cause 0x05, in DORMANT through
the wake handler where WAKE is set; or the warning's cause 7; or nothing but the record; and where WAKE is set, the wake of a DORMANT
device, on to STANDBY where its ACTION is RECORD_WARN and the row wakes on a warning. During the entry into DORMANT the trip is latched
behind those before it. -/
def Obligations.TripsTakeTheirAction : Prop :=
  ∀ (s : State) (n : Nat), (4 ≤ n ∨ s.stew.role ≠ Role.primary) →
    let act := fieldOf (s.cmpAt n).cfg 29 28
    let wake := bitOf (s.cmpAt n).cfg.toNat 30
    (act = 2 → (wake = false ∨ s.dev.state ≠ .dormant ∨ s.dev.trans = true) → s.cmpActs n = s.enterSafe 5) ∧
    (act = 2 → wake = true → s.dev.state = .dormant → s.dev.trans = false → s.cmpActs n = (s.wakeHandler (n + 1)).enterSafe 5) ∧
    (act = 1 → wake = false → s.cmpActs n = s.warnSet 7) ∧
    (act = 0 → wake = false → s.cmpActs n = s) ∧
    (act = 0 → wake = true → s.dev.state = .dormant → s.dev.trans = false → s.cmpActs n = s.wakeBy (n + 1) false) ∧
    (act = 1 → wake = true → s.dev.state = .dormant → s.dev.trans = false →
      s.cmpActs n = (s.warnSet 7).wakeBy (n + 1) s.row.wakeWarn) ∧
    (act = 0 → wake = true → s.dev.trans = true → s.dev.target = .dormant → s.boot.complete = true →
      s.cmpActs n = { s with dev := { s.dev with latchedWake := (s.dev.latchedWake.filter fun m => m != n) ++ [n] } }) ∧
    (act = 0 → wake = true → s.dev.trans = false → s.dev.state ≠ .dormant → s.cmpActs n = s)

/-- Parts of 02 R72, R126: PORST# released, the straps are sampled as they stand: STRAP_TAP high leads to a board test, and otherwise boot
code runs with them; with a flash that does not answer the held envelope is sealed and the device is on its way into HELD, reason 0x02, from
which only a cold reset leads back. A strap that changes later is recorded once and changes nothing else.

Parts of 02 R62, R71, 03 R98, R121: light below tolerance on VPHO is dark, all of it; PERST# takes the endpoint and the functions'
configuration with it and disables every ring that is set up and held, but in DORMANT, where the endpoint is off already, changes nothing;
its release brings the endpoint back as far as Configuration Request Retry Status, wakes a DORMANT device (source 0x0B) and ends WAKE#; a
ready endpoint has mailbox pages at their reset values. Each command acts once. -/
def Obligations.PinsAndStrapsAct : Prop :=
  ((∀ (s : State) (env : BootEnv), s.boot.phase = .strapWait → s.supply.strapPins.tap = true → Effect (.strapSample env) s
     { s with supply := { s.supply with straps := some s.supply.strapPins }, boot := { s.boot with phase := .boardTest } }) ∧
   (∀ (s : State) (env : BootEnv), s.boot.phase = .strapWait → s.supply.strapPins.tap = false → env.cut = .none →
     let t := ({ s with supply := { s.supply with straps := some s.supply.strapPins } }).clocksFound env
     Effect (.strapSample env) s (t.bootRom false (t.flashFits env.flashReadable) fun x => x.stage1Cold env.touchOhm .none)) ∧
   (∀ (s : State) (env : BootEnv), s.boot.phase = .strapWait → s.supply.strapPins.tap = false → env.cut = .none →
     s.supply.strapPins.test = false → env.flashReadable = false → s.hmk.sealed = false →
     ∃ u : State, Effect (.strapSample env) s u ∧ u.supply.straps = some s.supply.strapPins ∧ u.hmk = heldHmk s.otp.orderCode ∧
       u.boot.reason = 2 ∧ u.boot.coldNeeded = true ∧ u.dev.target = .held) ∧
   (∀ (s : State) (env : BootEnv), s.boot.phase ≠ .strapWait → Effect (.strapSample env) s s) ∧
   (∀ (s : State) (n : Nat) (high : Bool), n < 4 →
     let p : Straps := { fvs := if n = 0 then high else s.supply.strapPins.fvs, mgt := if n = 1 then high else s.supply.strapPins.mgt,
                         tap := if n = 2 then high else s.supply.strapPins.tap, test := if n = 3 then high else s.supply.strapPins.test }
     ((s.supply.straps = none ∨ s.supply.strapRecorded = true ∨ p = s.supply.strapPins) →
       Effect (.strapChange n high) s { s with supply := { s.supply with strapPins := p } }) ∧
     (s.supply.straps.isSome = true → s.supply.strapRecorded = false → p ≠ s.supply.strapPins →
       Effect (.strapChange n high) s
         (({ s with supply := { s.supply with strapPins := p, strapRecorded := true } }).log 0x100A (param [(1, n)]))))) ∧
  ((∀ s : State, ∃ u : State, Effect .vphoOutOfTolerance s u ∧ u.supply = { s.supply with vphoOk := false } ∧
     (∀ a, a < 24 → (u.laserAt a).lit = false) ∧ u = { s with supply := u.supply, pho := u.pho }) ∧
   (∀ s : State, s.railOn 4 = true → s.supply.vphoOk = false → ∃ u : State, Effect .vphoToleranceReturn s u ∧
     u.supply = { s.supply with vphoOk := true } ∧ u = { s with supply := u.supply, pho := u.pho }) ∧
   (∀ s : State, (s.railOn 4 = false ∨ s.supply.vphoOk = true) → Effect .vphoToleranceReturn s s) ∧
   (∀ s : State, s.supply.perst = true → Effect .perstAssert s s) ∧
   (∀ s : State, s.supply.perst = false → s.dev.state = .dormant →
     Effect .perstAssert s { s with supply := { s.supply with perst := true } }) ∧
   (∀ s : State, s.supply.perst = false → s.dev.state ≠ .dormant → ∃ u : State, Effect .perstAssert s u ∧
     u.supply = { s.supply with perst := true, endpoint := .off } ∧
     u.sriov = { s.sriov with vfEnable := false, numVfs := 0, latches := [], msix := [] } ∧
     (∀ p, p < 16 → (u.partAt p).busMaster = false ∧ (u.partAt p).live = false) ∧
     (∀ p, p < 16 → ∀ r ∈ (s.partAt p).rings, r < 64 → (s.ringAt r).setup = true → (u.ringAt r).disabled = true)) ∧
   (∀ s : State, s.supply.perst = false → Effect .perstRelease s s) ∧
   (∀ s : State, s.supply.perst = true → (s.supply.vdeck = false ∨ s.supply.porst = true) →
     Effect .perstRelease s { s with supply := { s.supply with perst := false, wake := false } }) ∧
   (∀ s : State, s.supply.perst = true → s.supply.vdeck = true → s.supply.porst = false → (s.dev.state ≠ .dormant ∨ s.dev.trans = true) →
     s.supply.seq = .idle → s.supply.endpoint = .off → Effect .perstRelease s
       { s with supply := { s.supply with
         perst := false, wake := false, endpoint := if s.railOn 2 then .retry else .off } }) ∧
   (∀ s : State, s.supply.perst = true → s.supply.vdeck = true → s.supply.porst = false → s.dev.state = .dormant →
     s.dev.trans = false →
     Effect .perstRelease s (({ s with supply := { s.supply with perst := false, wake := false } }).wakeBy 0x0B true)) ∧
   (∀ (s : State) (src r : Nat), s.railNext 0 6 = some r →
     (s.wakeBy src true).dev = { s.dev with wakeSrc := src, trans := true, target := .standby } ∧
     (s.wakeBy src true).supply.seq = .up r false 6 ∧ (s.wakeBy src true).enAt r = true) ∧
   (∀ s : State, s.supply.endpoint ≠ .retry → Effect .endpointReady s s) ∧
   (∀ s : State, s.supply.endpoint = .retry → s.supply.goal = .none → (∀ m, m < 17 → (s.pageAt m).queued = []) →
     ∃ u : State, Effect .endpointReady s u ∧ u.supply = { s.supply with endpoint := .ready } ∧
       (∀ m, m < 17 → u.pageAt m = { mask := permittedMask m }) ∧ u = { s with supply := u.supply, damem := u.damem }) ∧
   (∀ s : State, Effect .wakeSignalTimeout s { s with supply := { s.supply with wake := false } }))

/-- Parts of 02 R64, R80, R81, 19 R758: a crystal fault takes XTAL_OK and both figures, its recovery gives XTAL_OK and the free-running figure
back where an external clock or the coefficients allow, with a record; lost lock of REFCLK in service, or on the way into it, enters SAFE with
cause 0x04, in HELD and SAFE it is recorded only; without coefficients there is no crystal correction, and with them it is the opposite of
what they give, but for an error of the device of at most 0.5 ppm, whose value is free (log entry 109).

Parts of 02 R60, R84: a poll takes each output's readings in the order of the rails; a transaction that is answered ends its regulator's
failures, and the third failed one in a row marks its telemetry stale with a record. Nothing else of the device changes, and while firmware
is absent, in DORMANT and in reset nothing is polled. -/
def Obligations.ClocksAndRegulatorsAreWatched : Prop :=
  ((∀ s : State, s.clocks.xtalFault = false → s.supply.vdeck = true → s.supply.porst = false → ∃ u : State,
     Effect .crystalFault s u ∧
     u.clocks = { s.clocks with xtalFault := true, xtalOk := false, freeHeld := false, discHeld := false } ∧
     u = { s with clocks := u.clocks, cal := u.cal, damem := u.damem, out := u.out }) ∧
   (∀ s : State, s.clocks.xtalFault = true → s.supply.vdeck = true → s.supply.porst = false → ∃ u : State,
     Effect .crystalRecover s u ∧
     u.clocks = { s.clocks with xtalFault := false, xtalOk := true, freeHeld := s.clocks.extClk || s.clocks.corrSet } ∧
     u = { s with clocks := u.clocks, cal := u.cal, damem := u.damem, out := u.out }) ∧
   (∀ s : State, (s.clocks.xtalFault = true ∨ s.supply.vdeck = false ∨ s.supply.porst = true) → Effect .crystalFault s s) ∧
   (∀ s : State, (s.clocks.xtalFault = false ∨ s.supply.vdeck = false ∨ s.supply.porst = true) → Effect .crystalRecover s s) ∧
   (∀ s : State, s.clocks.refclkLock = true → (s.inService = true ∨ s.towardService = true) →
     Effect .refclkLoss s (({ s with clocks := { s.clocks with refclkLock := false } }).enterSafe 4)) ∧
   (∀ s : State, s.clocks.refclkLock = true → s.inService = false → s.towardService = false →
     (s.dev.state = .held ∨ s.dev.state = .safe ∨ s.dev.episode.isSome = true) →
     Effect .refclkLoss s (({ s with clocks := { s.clocks with refclkLock := false } }).log 0x1009 [])) ∧
   (∀ s : State, s.clocks.refclkLock = true → s.inService = false → s.towardService = false → s.dev.state ≠ .held →
     s.dev.state ≠ .safe → s.dev.episode = none →
     Effect .refclkLoss s { s with clocks := { s.clocks with refclkLock := false } }) ∧
   (∀ s : State, s.clocks.refclkLock = false → Effect .refclkLoss s s) ∧
   (∀ s : State, s.supply.vdeck = true → s.supply.porst = false →
     Effect .refclkLocked s { s with clocks := { s.clocks with refclkLock := true } }) ∧
   (∀ s : State, (s.supply.vdeck = false ∨ s.supply.porst = true) → Effect .refclkLocked s s) ∧
   (∀ (s : State) (temp : Int), (s.boot.rowOk = false ∨ s.clocks.extClk = true) → Effect (.crystalCorrection temp) s s) ∧
   (∀ (s : State) (temp : Int), s.boot.rowOk = true → s.clocks.extClk = false →
     s.row.xtalOfs = 0 → s.row.xtalPara = 0 → s.row.xtalTurn = 0 →
     Effect (.crystalCorrection temp) s { s with clocks := { s.clocks with corr := 0, corrSet := false } }) ∧
   (∀ (s : State) (temp : Int), s.boot.rowOk = true → s.clocks.extClk = false →
     (s.row.xtalOfs ≠ 0 ∨ s.row.xtalPara ≠ 0 ∨ s.row.xtalTurn ≠ 0) →
     ∃ e : Int, -50 ≤ e ∧ e ≤ 50 ∧ Effect (.crystalCorrection temp) s { s with clocks := { s.clocks with
       corr := clampInt (-32768) 32767 (e - s.row.crystalOff temp), corrSet := true } })) ∧
  ((∀ (s : State) (l : List PmbusReading), s.supply.porst = false → s.supply.vdeck = true → s.dev.state ≠ .dormant →
     s.fwAbsent = false → s.boot.phase ≠ .strapWait → s.boot.phase ≠ .boardTest → l.length ≤ 9 →
     Effect (.pmbusPoll l) s (l.zipIdx.foldl (fun (t : State) x => t.railPolled x.2 x.1) s)) ∧
   (∀ (s : State) (e : Nat), e < 9 →
     let r := teleRail e
     let t := Table.at s.supply.tele r {}
     (∀ v, (s.pmbusOk e).supply = { s.supply with tele := Table.put s.supply.tele r { t with fails := 0, stale := false, staleAt := 0 } } ∧
       s.railPolled e { vout := some v } =
         ((((s.pmbusOk e).updTele e fun x => { x with vout := v }).pmbusFail e).pmbusFail e).pmbusFail e) ∧
     (t.fails < 2 → s.pmbusFail e = { s with supply := { s.supply with
       tele := Table.put s.supply.tele r { t with fails := t.fails + 1 } } }) ∧
     (t.fails = 2 → t.stale = false → s.pmbusFail e =
       ({ s with supply := { s.supply with tele := Table.put s.supply.tele r { t with fails := 3, stale := true, staleAt := s.now } } }).log
         0x100D (param [(1, r)])) ∧
     (∀ a, s.railPolled e a = { s with
       supply := (s.railPolled e a).supply, cal := (s.railPolled e a).cal, damem := (s.railPolled e a).damem, out := (s.railPolled e a).out })) ∧
   (∀ (s : State) (l : List PmbusReading), (s.fwAbsent = true ∨ s.dev.state = .dormant ∨ s.supply.porst = true ∨ s.supply.vdeck = false) →
     Effect (.pmbusPoll l) s s))

/-- Parts of 03 Table 03-3, R93, R104, R122, 21 R812: the state timers and wake sources. The ANNEAL idle timeout leads to STANDBY with HBM in
self-refresh, unless a partition start waits; the stop of the last partition leads from SERVING to ANNEAL; in DORMANT the first
transaction on the management port is not acknowledged and wakes the device (source 0x0A), and a retry is acknowledged; an alarm that is
reached sets FIRED, clears ARM, and may wake a DORMANT device (source 0x09). -/
def Obligations.StateTimersAndWakes : Prop :=
  (∀ s : State, s.dev.state = .anneal → s.dev.trans = false → s.row.idleS ≠ 0 → s.dev.startsWaiting = [] →
    ∃ u : State, Effect .annealIdleTimeout s u ∧ u.dev.state = .standby ∧ u.dev.trans = false ∧ u.dev.target = .standby ∧
      u.mem = { s.mem with selfRefresh := true } ∧ u.part = s.part ∧ u.supply = s.supply) ∧
  (∀ s : State, (s.dev.state ≠ .anneal ∨ s.dev.trans = true ∨ s.row.idleS = 0 ∨ s.dev.startsWaiting ≠ []) →
    Effect .annealIdleTimeout s s) ∧
  (∀ s : State, s.dev.state = .serving → s.dev.trans = false → s.thm.seed = none →
    (∀ p ∈ s.part.toList, p.live = false ∧ p.state ≠ .aborting) →
    ∃ u : State, Effect .lastPartitionStopped s u ∧ u.dev.state = .anneal ∧ u.dev.target = .anneal ∧ u.part = s.part ∧
      u.ring = s.ring ∧ ∀ m, m < 16 → (u.mouldAt m).mult = 0) ∧
  (∀ (s : State) (p : Part), p ∈ s.part.toList → p.live = true → Effect .lastPartitionStopped s s) ∧
  (∀ s : State, (s.dev.state ≠ .serving ∨ s.dev.trans = true) → Effect .lastPartitionStopped s s) ∧
  (∀ s : State, s.dev.state = .dormant → s.dev.trans = false → s.damem.nackAt = none → ∃ u : State, Effect .mgmtAddressMatch s u ∧
    u.dev = { s.dev with wakeSrc := 0x0A } ∧ u.damem.nackAt = some s.now ∧ Out.bus "MGMT address NACK" [] ∈ u.out ∧
    u = { s with dev := u.dev, cal := u.cal, damem := u.damem, out := u.out }) ∧
  (∀ s : State, s.mgmtHears = true → Effect .mgmtAddressMatch s s) ∧
  (∀ s : State, (s.dev.state ≠ .dormant ∨ s.dev.trans = true) → Effect .mgmtAddressMatch s s) ∧
  (∀ s : State, s.alarmReached = true → (s.clocks.alarmWake = false ∨ s.dev.state ≠ .dormant ∨ s.dev.trans = true) →
    Effect .rtcAlarmFire s { s with clocks := { s.clocks with alarmFired := true, alarmArm := false } }) ∧
  (∀ s : State, s.alarmReached = true → s.clocks.alarmWake = true → s.dev.state = .dormant → s.dev.trans = false →
    ∃ u : State, Effect .rtcAlarmFire s u ∧ u.clocks = { s.clocks with alarmFired := true, alarmArm := false } ∧
      u.dev = { s.dev with wakeSrc := 9 }) ∧
  (∀ s : State, s.alarmReached = false → Effect .rtcAlarmFire s s)

/-- 21 R807: reading a register named _LO (or CAL_TIME_S) latches its _HI (CAL_TIME_F) for the reading function; the next read of that
register by the same function returns the latched word and spends the latch; a read with no latch pending returns the present word. The
pairs are those of chapters 10, 11, 18, 19 and 21 in BAR0 of PF0, and the two of chapter 09 in BAR2 of a VF whose partition is there. A
read changes nothing else. -/
def Obligations.LoReadsLatchTheHighWord : Prop :=
  (∀ (s : State) (lo hi : Nat), s.supply.endpoint = .ready →
    (lo, hi) ∈ [(0x4, 0x8), (0x1050008, 0x105000C), (0x1060008, 0x106000C), (0x1060010, 0x1060014), (0x1060018, 0x106001C),
      (0x1060048, 0x106004C), (0x10C0300, 0x10C0304), (0x10D000C, 0x10D0010)] →
    ∃ u : State, Effect (.regLoRead 0 ⟨false, lo⟩) s u ∧ u = { s with sriov := u.sriov, out := u.out } ∧
      u.sriov.latches.find? (fun x => x.1 == 0 && x.2.1 == hi) = some (0, hi, s.bar0Word 0 hi)) ∧
  (∀ (s : State) (fn off v : Nat), s.supply.endpoint = .ready → (fn = 0 ∨ s.vfUp fn = true) → off % 4 = 0 →
    s.sriov.latches.find? (fun x => x.1 == fn && x.2.1 == off) = some (fn, off, v) →
    (∀ x ∈ latchPairs, x.1 ≠ off) →
    Effect (.regLoRead fn ⟨false, off⟩) s { s with
      sriov := { s.sriov with latches := s.sriov.latches.filter fun y => !(y.1 == fn && y.2.1 == off) }
      out := .readData fn off v :: s.out }) ∧
  (∀ (s : State) (fn off : Nat), s.supply.endpoint = .ready → (fn = 0 ∨ s.vfUp fn = true) → off % 4 = 0 →
    s.sriov.latches.find? (fun x => x.1 == fn && x.2.1 == off) = none →
    ∃ u : State, Effect (.regLoRead fn ⟨false, off⟩) s u ∧ u.out = .readData fn off (s.bar0Word fn off) :: s.out ∧
      u = { s with sriov := u.sriov, out := u.out }) ∧
  (∀ (s : State) (vf lo : Nat), 1 ≤ vf → vf < 17 → s.vfUp vf = true → (s.partAt (vf - 1)).state ≠ .none → lo = 0 ∨ lo = 8 →
    ∃ u : State, Effect (.bar2Access vf (ctrlBase + lo) none 4) s u ∧ u = { s with sriov := u.sriov, out := u.out } ∧
      u.sriov.latches.find? (fun x => x.1 == vf && x.2.1 == ctrlBase + lo + 4) =
        some (vf, ctrlBase + lo + 4, s.ctrlRead (vf - 1) (lo + 4))) ∧
  (∀ (s : State) (vf hi v : Nat), 1 ≤ vf → vf < 17 → s.vfUp vf = true → (s.partAt (vf - 1)).state ≠ .none → hi = 4 ∨ hi = 12 →
    s.sriov.latches.find? (fun x => x.1 == vf && x.2.1 == ctrlBase + hi) = some (vf, ctrlBase + hi, v) →
    Effect (.bar2Access vf (ctrlBase + hi) none 4) s { s with
      sriov := { s.sriov with latches := s.sriov.latches.filter fun y => !(y.1 == vf && y.2.1 == ctrlBase + hi) }
      out := .readData vf (ctrlBase + hi) v :: s.out }) ∧
  (∀ (s : State) (vf hi : Nat), 1 ≤ vf → vf < 17 → s.vfUp vf = true → (s.partAt (vf - 1)).state ≠ .none → hi = 4 ∨ hi = 12 →
    s.sriov.latches.find? (fun x => x.1 == vf && x.2.1 == ctrlBase + hi) = none →
    Effect (.bar2Access vf (ctrlBase + hi) none 4) s { s with
      out := .readData vf (ctrlBase + hi) (s.ctrlRead (vf - 1) hi) :: s.out }) ∧
  (∀ (s : State) (fn off : Nat), s.supply.endpoint ≠ .ready → Effect (.regLoRead fn ⟨false, off⟩) s s)

/-- 05 R220: MBX_NOTICE_MASK takes from a write only the classes that Table 05-16 permits on the mailbox, reads them back, and holds the
permitted set at reset: every class on mailbox 16, and classes 0, 1, 2, 4 and 8 on the others. -/
def Obligations.NoticeMasksStayPermitted : Prop :=
  (∀ m, m < 17 → permittedMask m = (if m = 16 then 0b111111111 else 0b100010111)) ∧
  (∀ m, m < 17 → (State.reset.pageAt m).mask = permittedMask m) ∧
  (∀ (s : State) (v : Reg32), s.supply.endpoint = .ready →
    Effect (.regWrite 0 (.bar0 0x110010) v 15) s
      (s.updPage 16 fun pg => { pg with mask := v.setWidth 9 &&& permittedMask 16 })) ∧
  (∀ (s : State) (m : Nat) (v : Reg32), m < 16 → s.supply.endpoint = .ready → s.vfUp (m + 1) = true →
    Effect (.regWrite (m + 1) (.bar0 0x100010) v 15) s
      (s.updPage m fun pg => { pg with mask := v.setWidth 9 &&& permittedMask m })) ∧
  (∀ (s : State) (m : Nat), m < 17 → s.pageWord m 0x10 = (s.pageAt m).mask.toNat)

/-- Parts of 05 Table 05-3, R195, R219, 06 R248: the mailbox page's own writes. A RESP_VALID bit written 1 clears and frees its tag, and so
does ACK; CI moves; MBX_INT_CFG takes the enables and the vector, with one record where the function's MSI-X table has no such vector (PF0
128, a VF 120). A page that its function does not reach takes none of them.

Parts of 04 R153, 21 R811, R812, R821: after the seal a write to HMK_SEAL, or to a register with RW-H or RO-H fields, is recorded with its
offset and changes nothing else; CLK_ALARM_S sets the seconds and disarms; CLK_ALARM_CTL sets FRAC, WAKE_EN and ARM, and FIRED clears by a
write of 1.

Parts of 00 R11, 05 R196, 21 R803, R805, R806: a write of POST to MBX_DB sets REQ_BUSY, and while it stands the window and POST take no
write; the window takes the bytes that are enabled, and a word of the page that it does not reach, of a page that its function does not
reach, or on an endpoint that is not ready takes nothing. A word of the MSI-X table in BAR4 takes a write of all its bytes and reads it
back, and a read of BAR4 latches nothing. -/
def Obligations.RegistersTakeTheirWrites : Prop :=
  ((∀ (s : State) (v : Reg32), s.supply.endpoint = .ready → v.getLsbD 0 = true → (s.pageAt 16).reqBusy = false →
     Effect (.regWrite 0 (.bar0 0x110000) v 15) s (s.updPage 16 fun pg => { pg with reqBusy := true })) ∧
   (∀ (s : State) (m off : Nat) (v : Reg32) (be : Nat), m < 16 → s.supply.endpoint = .ready → s.vfUp (m + 1) = true → off % 4 = 0 →
     0x100 ≤ off → off < 0x500 → (s.pageAt m).reqBusy = false → Effect (.regWrite (m + 1) (.bar0 (0x100000 + off)) v be) s
       (s.updPage m fun pg => { pg with window := putBytes pg.window (off - 0x100) v.toNat be })) ∧
   (∀ (s : State) (off : Nat) (v : Reg32) (be : Nat), (s.pageAt 16).reqBusy = true → (off = 0 ∨ (0x100 ≤ off ∧ off < 0x500)) →
     Effect (.regWrite 0 (.bar0 (0x110000 + off)) v be) s s) ∧
   (∀ (s : State) (fn : Nat) (sel : RegSel) (v : Reg32) (be : Nat), s.supply.endpoint ≠ .ready → Effect (.regWrite fn sel v be) s s) ∧
   (∀ (s : State) (fn off : Nat) (v : Reg32), s.supply.endpoint = .ready → (fn = 0 ∨ s.vfUp fn = true) → off % 4 = 0 →
     off < 16 * (if fn = 0 then 128 else 120) → ∃ u : State, Effect (.regWrite fn (.bar4 off) v 15) s u ∧ u = { s with sriov := u.sriov } ∧
       u.bar4Word fn off = v.toNat ∧ (∀ g o, o % 4 = 0 → (g ≠ fn ∨ o ≠ off) → u.bar4Word g o = s.bar4Word g o) ∧
       Effect (.regLoRead fn ⟨true, off⟩) u { u with out := .readBar4 fn off v.toNat :: u.out })) ∧
  ((∀ (s : State) (m : Nat) (v : Reg32), m < 17 → s.mbxUp m = true → ∃ u : State, Effect (.mbxRespClear m v) s u ∧
     u = { s with damem := { s.damem with page := u.damem.page } } ∧ (∀ k, k ≠ m → u.pageAt k = s.pageAt k) ∧
     (u.pageAt m).ack = ((s.pageAt m).ack && !v.getLsbD 0) ∧
     ∀ n, n < 8 → Table.at (u.pageAt m).respValid n false = (Table.at (s.pageAt m).respValid n false && !v.getLsbD (8 + n)) ∧
       Table.at (u.pageAt m).outstanding n false = (Table.at (s.pageAt m).outstanding n false &&
         !(Table.at (s.pageAt m).respValid n false && v.getLsbD (8 + n)))) ∧
   (∀ (s : State) (m : Nat), m < 17 → s.mbxUp m = true →
     Effect (.mbxAckClear m) s (s.updPage m fun pg => { pg with ack := false })) ∧
   (∀ (s : State) (m ci : Nat), m < 17 → s.mbxUp m = true → (s.pageAt m).lostDue = false →
     Effect (.mbxNoticeCiWrite m ci) s (s.updPage m fun pg => { pg with ci := ci % 256 })) ∧
   (∀ (s : State) (m : Nat) (v : Reg32), m < 17 → s.mbxUp m = true →
     let w (s : State) := s.updPage m fun pg =>
       { pg with ackIe := v.getLsbD 31, respIe := v.getLsbD 30, noticeIe := v.getLsbD 29, vec := v.toNat % 2048 }
     (v.toNat % 2048 < (if m = 16 then 128 else 120) → Effect (.mbxIntCfgWrite m v) s (w s)) ∧
     ((if m = 16 then 128 else 120) ≤ v.toNat % 2048 →
       Effect (.mbxIntCfgWrite m v) s ((w s).log 0x2009 (param [(2, v.toNat % 2048)])))) ∧
   (∀ (s : State) (m : Nat) (v : Reg32) (ci : Nat), m < 17 → s.mbxUp m = false →
     Effect (.mbxRespClear m v) s s ∧ Effect (.mbxAckClear m) s s ∧ Effect (.mbxNoticeCiWrite m ci) s s ∧
     Effect (.mbxIntCfgWrite m v) s s)) ∧
  ((∀ (s : State) (v : Reg32), s.supply.endpoint = .ready → s.hmk.sealed = true →
     Effect (.hmkSealWrite v) s (s.log 0x100C (param [(2, 0)]))) ∧
   (∀ (s : State) (v : Reg32), s.supply.endpoint = .ready → s.hmk.sealed = true →
     Effect (.sealedFieldWrite 0 0x10 v) s (s.log 0x100C (param [(2, 0x10)]))) ∧
   (∀ (s : State) (off : Nat) (v : Reg32), s.supply.endpoint = .ready → s.hmk.sealed = true →
     off ∈ [0x010, 0x014, 0x018, 0x01C, 0x020, 0x030, 0x034, 0x038] →
     Effect (.sealedFieldWrite 0 (0x1000000 + off) v) s (s.log 0x100C (param [(2, off)]))) ∧
   (∀ (s : State) (fn off : Nat) (v : Reg32), fn ≠ 0 → Effect (.sealedFieldWrite fn off v) s s) ∧
   (∀ (s : State) (v : Reg32), s.supply.endpoint = .ready →
     Effect (.clkAlarmSWrite v) s { s with clocks := { s.clocks with alarmS := v.toNat, alarmArm := false } }) ∧
   (∀ (s : State) (v : Reg32), s.supply.endpoint = .ready →
     Effect (.clkAlarmArm v) s { s with clocks := { s.clocks with
       alarmF := v.toNat / 65536, alarmWake := v.getLsbD 1, alarmArm := v.getLsbD 0,
       alarmFired := s.clocks.alarmFired && !v.getLsbD 2 } }) ∧
   (∀ s : State, s.supply.endpoint = .ready →
     Effect .clkAlarmFiredClear s { s with clocks := { s.clocks with alarmFired := false } }))

/-- Parts of 05 R195, R238, 06 R247, R277, R278, 21 R817: a Function Level Reset of PF0 resets mailbox page 16 and discards the responses of
its requests in progress, and every partition and ring stays; one of a VF also stops its partition by the ABORT rules; clearing VF Enable or
lowering NumVFs stops the partitions that lose their function; Bus Master Enable pauses and resumes a function's rings. A function that does
not exist is not reset, and one that is reset or gone has its MSI-X table at its reset values (log entry 135). -/
def Obligations.FunctionsResetAndLeave : Prop :=
  (∀ s : State, s.supply.endpoint = .ready → ∃ u : State, Effect .flrPf0 s u ∧
    u = { s with damem := u.damem, sriov := { s.sriov with msix := u.sriov.msix } } ∧
    u.pageAt 16 = { mask := permittedMask 16, queued := (s.pageAt 16).queued,
                    lost := if (s.pageAt 16).queued = [] then 0 else (s.pageAt 16).lost,
                    lostDue := (s.pageAt 16).queued ≠ [] && (s.pageAt 16).lostDue } ∧
    (∀ m, m ≠ 16 → u.pageAt m = s.pageAt m) ∧
    (∀ f ∈ u.damem.inflight, f.req.path = .mbx 16 → f.drop = true) ∧
    (∀ off, u.bar4Word 0 off = 0) ∧ (∀ fn off, fn ≠ 0 → u.bar4Word fn off = s.bar4Word fn off)) ∧
  (∀ (s : State) (vf : Nat), 1 ≤ vf → vf ≤ 16 → s.vfUp vf = true → Effect (.flrVf vf) s
    ((((s.flrPage (vf - 1)).bar4Clear vf).outsideStop (vf - 1) .flr true).updPart (vf - 1) fun x => { x with busMaster := false })) ∧
  (∀ (s : State) (vf : Nat), 1 ≤ vf → vf ≤ 16 → s.vfUp vf = false →
    Effect (.flrVf vf) s s ∧ Effect (.busMasterDisable vf) s s ∧ Effect (.busMasterEnable vf) s s) ∧
  (∀ s : State, s.supply.endpoint = .ready → s.sriov.vfEnable = false →
    Effect (.vfEnableClear 0) s { s with sriov := { s.sriov with vfEnable := false, msix := s.sriov.msix.filter fun x => x.1 == 0 } }) ∧
  (∀ s : State, s.supply.endpoint = .ready → s.sriov.vfEnable = true → s.sriov.numVfs = 1 →
    Effect (.vfEnableClear 0) s
      (({ s with sriov := { s.sriov with vfEnable := false, msix := s.sriov.msix.filter fun x => x.1 == 0 } }).outsideStop 0 .flr true)) ∧
  (∀ (s : State) (n : Nat), s.supply.endpoint = .ready → 0 < n → s.sriov.numVfs ≤ n →
    (∀ x ∈ s.sriov.msix, x.1 = 0 ∨ (s.sriov.vfEnable = true ∧ x.1 ≤ s.sriov.numVfs)) → Effect (.vfEnableClear n) s s) ∧
  (∀ (s : State) (n : Nat), s.supply.endpoint ≠ .ready → Effect (.vfEnableClear n) s s ∧ Effect .flrPf0 s s) ∧
  (∀ (s : State) (fn be : Nat) (v : Reg32), s.supply.endpoint = .ready →
    Effect (.regWrite fn .vfEnable v be) s (s.vfsTo (v.getLsbD 0) s.sriov.numVfs) ∧
    Effect (.regWrite fn .numVfs v be) s (s.vfsTo s.sriov.vfEnable (v.toNat % 65536))) ∧
  (∀ (s : State) (en : Bool) (n : Nat), (s.vfsTo en n).sriov = { s.sriov with
    vfEnable := en, numVfs := n, msix := s.sriov.msix.filter fun x => x.1 == 0 || (en && x.1 ≤ n) }) ∧
  (∀ (s : State) (fn vf be : Nat) (v : Reg32), s.supply.endpoint = .ready → 1 ≤ vf → vf ≤ 16 →
    exec (.regWrite fn (.busMaster vf) v be) s = if v.getLsbD 0 then exec (.busMasterEnable vf) s else exec (.busMasterDisable vf) s) ∧
  (∀ (s : State) (vf : Nat), 1 ≤ vf → vf ≤ 16 → s.vfUp vf = true → (s.partAt (vf - 1)).busMaster = true →
    (s.partAt (vf - 1)).state = .none → Effect (.busMasterDisable vf) s
      ((s.updPart (vf - 1) fun x => { x with busMaster := false }).ringsRefresh (vf - 1))) ∧
  (∀ (s : State) (vf : Nat), 1 ≤ vf → vf ≤ 16 → s.vfUp vf = true → (s.partAt (vf - 1)).rings = [] →
    Effect (.busMasterEnable vf) s (s.updPart (vf - 1) fun x => { x with busMaster := true }))

/-- Parts of 05 R197, R200, R201: a request that passes every step of Table 05-6 is acknowledged OK, enters the journal and has its opcode's
effect. -/
def Obligations.RequestsThatPassEveryStepAct : Prop :=
  ∀ p ∈ damemRows, ∀ (s : State) (r : Req), Served s p.1 r →
    Effect (p.2 r) s ((s.accepted p.1 r).perform (s.entryOf p.1 r false))

/-- Parts of 05 R193, R196, R197, R200, R230, Table 05-6, 06 Table 06-4: a request stops at the first step that fails. On a mailbox that its
function does not reach, or while a POST waits, it is ignored, and so is an MCTP message on a binding that does not reach the device or with
another vendor's ID; without the MCTP service, and in firmware's hand-over, it is turned away. A malformed header is rejected at acknowledge
with BAD_ARG, a device that boots answers BUSY_BOOTING with a hint of 1 to 100 ms, and a rejected request enters no journal. An accepted one
is answered BAD_OPCODE, HELD, NOT_OWNER, BAD_ARG, DENIED_ENVELOPE or PRECOND with its DETAIL, in this order; a supply set-point that the
guard denies also sets GUARD_REJ with a record (15 R626). -/
def Obligations.RequestsStopAtTheFirstFailure : Prop :=
  (∀ p ∈ damemRows, ∀ (s : State) (r : Req) (m : Fin 17), r.path = .mbx m → (s.mbxUp m.val = false ∨ (s.pageAt m.val).reqBusy = true) →
    Effect (p.2 r) s s) ∧
  (∀ p ∈ damemRows, ∀ (s : State) (r : Req), r.path = .mctp → (s.bindingUp r.binding = false ∨ r.vendorOk = false) → Effect (p.2 r) s s) ∧
  (∀ p ∈ damemRows, ∀ (s : State) (r : Req), r.path = .mctp → s.bindingUp r.binding = true → r.vendorOk = true → s.damem.mctpUp = false →
    Effect (p.2 r) s { s with out := .mctpControl 0 4 [] :: s.out }) ∧
  (∀ p ∈ damemRows, ∀ (s : State) (r : Req), r.path = .mctp → s.bindingUp r.binding = true → r.vendorOk = true → s.damem.mctpUp = true →
    s.asleep = true → s.mgmtHears = false → Effect (p.2 r) s s.mgmtNack) ∧
  (∀ p ∈ damemRows, ∀ (s : State) (r : Req) (m : Fin 17), r.path = .mbx m → s.mbxUp m.val = true → (s.pageAt m.val).reqBusy = false →
    s.headOk r = false →
    Effect (p.2 r) s ((s.received p.1 r).acknowledge m.val r.tag .badArg 0)) ∧
  (∀ p ∈ damemRows, ∀ (s : State) (r : Req) (m : Fin 17), r.path = .mbx m → s.mbxUp m.val = true → (s.pageAt m.val).reqBusy = false →
    s.headOk r = true → s.boot.complete = false → s.heldMode = false → s.recovering = false → ∃ h, 1 ≤ h ∧ h ≤ 100 ∧
    Effect (p.2 r) s (({ s.received p.1 r with freeCtr := s.freeCtr + 1 }).acknowledge m.val r.tag .busyBooting h)) ∧
  (∀ p ∈ damemRows, ∀ (s : State) (r : Req) (m : Fin 17), r.path = .mbx m → s.mbxUp m.val = true → (s.pageAt m.val).reqBusy = false →
    s.headOk r = true → s.boot.complete = true → s.fwAbsent = true →
    Effect (p.2 r) s ((s.received p.1 r).acknowledge m.val r.tag .fwRestarting s.resumeHint)) ∧
  (∀ (s : State) (r : Req) (c : Nat), Accepted s c r → opcodeRow c = none →
    Effect (.unknownOpcode c r) s ((s.accepted c r).answer (s.entryOf c r false) .badOpcode 0)) ∧
  (∀ p ∈ damemRows, ∀ (s : State) (r : Req), Accepted s p.1 r →
    let a := s.accepted p.1 r
    let f := s.entryOf p.1 r false
    (a.heldMode = true → recoverySet p.1 = false → Effect (p.2 r) s (a.answer f .held 0)) ∧
    (a.heldMode = false → a.owns p.1 r = false → Effect (p.2 r) s (a.answer f .notOwner 0)) ∧
    (∀ d, a.heldMode = false → a.owns p.1 r = true → a.argFault f = some d → Effect (p.2 r) s (a.answer f .badArg d)) ∧
    (∀ d, a.heldMode = false → a.owns p.1 r = true → a.argFault f = none → a.beyondEnvelope f = some d →
      Effect (p.2 r) s ((a.denied f).answer f .deniedEnvelope d)) ∧
    (a.heldMode = false → a.owns p.1 r = true → a.argFault f = none → a.beyondEnvelope f = none → a.partRefuses p.1 r = true →
      Effect (p.2 r) s (a.answer f .precond 0xFFFF))) ∧
  (∀ (s : State) (f : InFlight), (f.opcode ≠ 0x0304 → s.denied f = s) ∧
    (f.opcode = 0x0304 → s.supplyJudge (sfld f.req.body 0 4) = .envelope → s.denied f = s) ∧
    (f.opcode = 0x0304 → s.supplyJudge (sfld f.req.body 0 4) = .guard → s.denied f =
      (s.updSlot 8 fun x => { x with guardRej := true }).log 0x7003
        (param [(1, 8), (4, (lwFrac (sfld f.req.body 0 4) 1000).1.toNat)])))

/-- Parts of 05 R197, R201, R237, 04 R138: while firmware runs and the endpoint is ready, the answer to a request of a mailbox is a response
in slot TAG with RESP_VALID set, the request leaves the journal, and nothing else of any page changes; without the endpoint the response is
discarded. A resource that a request of another path holds is answered BUSY, its hint the holder's remaining bound within 1 to 1,000 ms, one
held on the same path is waited for, the request staying in the journal; and while the directory is written every flash opcode is answered
BUSY. -/
def Obligations.ResponsesLandInTheirSlot : Prop :=
  (∀ (s : State) (f : InFlight) (m : Fin 17) (st : Status) (d hint : Nat) (pl : List Byte), s.fwAbsent = false → s.supply.endpoint = .ready →
    f.req.path = .mbx m → f.req.tag < 8 → f.drop = false →
    let u := s.answer f st d pl none hint
    let x : Resp :=
      { opcode := f.opcode, tag := f.req.tag, status := st, seq := f.req.seq, hint := hint, detail := d, payload := pl, bulkOut := none }
    Table.at (u.pageAt m.val).slots f.req.tag none = some x ∧
    Table.at (u.pageAt m.val).respValid f.req.tag false = true ∧
    (∀ t, t ≠ f.req.tag → Table.at (u.pageAt m.val).slots t none = Table.at (s.pageAt m.val).slots t none ∧
      Table.at (u.pageAt m.val).respValid t false = Table.at (s.pageAt m.val).respValid t false) ∧
    (∀ k, k ≠ m.val → u.pageAt k = s.pageAt k) ∧
    u.damem.inflight = s.damem.inflight.erase f ∧ u = { s with damem := u.damem, out := u.out }) ∧
  (∀ (s : State) (f : InFlight) (m : Fin 17) (st : Status) (d hint : Nat) (pl : List Byte) (b : Option (List Byte)), s.fwAbsent = false →
    s.supply.endpoint ≠ .ready → f.req.path = .mbx m → f.drop = false →
    s.answer f st d pl b hint = { s with damem := { s.damem with inflight := s.damem.inflight.erase f } }) ∧
  (∀ (s : State) (g : InFlight), 1 ≤ s.busyHint g ∧ s.busyHint g ≤ 1000) ∧
  (∀ p ∈ damemRows, ∀ (s : State) (r : Req), Accepted s p.1 r → p.1 ≠ 0x0101 →
    let a := s.accepted p.1 r
    let f := s.entryOf p.1 r false
    a.heldMode = false → a.owns p.1 r = true → a.argFault f = none → a.beyondEnvelope f = none → a.partRefuses p.1 r = false →
    (p.1 = 0x0204 → (s.partAt (r.f 0 1)).state ≠ .starting ∧ (s.partAt (r.f 0 1)).state ≠ .started) →
    (∀ g, flashOpcode p.1 r = true → a.dirWriter = some g → Effect (p.2 r) s (a.answer f .busy 0 [] none (a.busyHint g))) ∧
    (∀ g, (flashOpcode p.1 r = true → a.dirWriter = none) → (a.blockers f).find? (fun g => g.req.path != r.path) = some g →
      Effect (p.2 r) s (a.answer f .busy 0 [] none (a.busyHint g))) ∧
    ((flashOpcode p.1 r = true → a.dirWriter = none) → a.blockers f ≠ [] → (∀ g ∈ a.blockers f, g.req.path = r.path) → Effect (p.2 r) s a))

/-- Parts of 05 R213, R214, R218, Tables 05-8, 05-9, 05-12, 05-13: a query that is served is answered OK with its payload, and changes
nothing but its mailbox and the journal. PART_QUERY of a partition that is not there is answered PRECOND.

Parts of 05 R217, R218, Table 05-13, 04 Table 04-16: CAL_READ gives the ring's ends and its records inline or as bulk data; HOLD_QUERY the
boot words and OTP's public fields; FLASH_READ the bytes of the flash; IMAGE_CHECK the first failing check of a copy, stage 1 before the
firmware image. What a flash that could not be used holds is free (the model's choice, log entry 7), and whether a loop program's body is
consistent is a free value of it (log entry 9). -/
def Obligations.QueriesAnswerTheirPayload : Prop :=
  (∀ (s : State) (r : Req),
     (Served s 0x0001 r → Effect (.nop r) s (s.answersOk 0x0001 r [])) ∧
     (Served s 0x0002 r → Effect (.info r) s (s.answersOk 0x0002 r
       (leBytes 8 s.otp.devId ++ leBytes 1 s.otp.orderCode ++ leBytes 1 s.row.position ++ leBytes 1 s.row.rowSize ++
         leBytes 1 (match r.path with | .mbx m => m.val | .mctp => 0xFF) ++ leBytes 4 s.boot.fwVer ++ leBytes 2 s.boot.compat ++ [1] ++
         leBytes 1 (b2n s.boot.fwSlot) ++ leBytes 4 s.hmk.envId.toNat))) ∧
     (Served s 0x0102 r → Effect (.stateGet r) s (s.answersOk 0x0102 r (leBytes 4 s.pwrStateWord ++ leBytes 4 s.cmpStatWord))) ∧
     (Served s 0x0103 r → Effect (.hallmarkQuery r) s (s.answersOk 0x0103 r
       ((hmkOrder.flatMap fun a => leBytes 4 (s.hmkWord a)) ++
         ((List.range 16).flatMap fun v => leBytes 4 (Table.at s.hmk.ceil0 v 0).toNat ++ leBytes 4 (Table.at s.hmk.ceil1 v 0).toNat) ++
         leBytes 8 s.otp.devId ++ leBytes 1 s.otp.orderCode ++ leBytes 1 (slotByte s.otp.rootHash s.otp.rootRevoke) ++
         leBytes 1 (slotByte s.otp.ownHash s.otp.ownRevoke) ++ leBytes 1 (b2n s.otp.debugPerm) ++ leBytes 1 s.otp.fwSvn ++
         leBytes 1 s.otp.ownSvn ++ [0, 0]))) ∧
     (Served s 0x0207 r → (s.partAt (r.f 0 1)).state ≠ .none → Effect (.partQuery r) s (s.answersOk 0x0207 r
       (let x := s.partAt (r.f 0 1)
        leBytes 1 x.state.code ++ leBytes 1 (b2n x.optical + 2 * b2n x.fallback) ++ leBytes 2 x.tag ++ leBytes 2 (maskOf x.moulds) ++
         leBytes 2 0 ++ leBytes 4 (maskOf x.tallies) ++ leBytes 8 (maskOf x.rings) ++ leBytes 8 (maskOf x.slices) ++
         leBytes 12 (maskOf x.granules)))) ∧
     (Served s 0x0207 r → (s.partAt (r.f 0 1)).state = .none →
       Effect (.partQuery r) s (s.answersWith 0x0207 r .precond 0xFFFF)) ∧
     (Served s 0x0301 r → Effect (.thermalQuery r) s (s.answersOk 0x0301 r
       (((List.range 4).flatMap fun i => leBytes 2 (unsgn 16 (s.tempOr (s.dieMax i) i))) ++ leBytes 4 (unsgn 32 (s.tempOr s.thm.inletM 4)) ++
         leBytes 4 (unsgn 32 (s.tempOr s.thm.outletM 5)) ++ leBytes 2 s.thm.pkgW ++ leBytes 2 s.thm.capW ++
         leBytes 2 (maskOf ((List.range 16).filter fun m => (s.mouldAt m).throttle != 0)) ++ leBytes 1 (b2n (s.thm.warn != 0)) ++
         leBytes 1 s.thm.capSrc))) ∧
     (Served s 0x0302 r → Effect (.stewardQuery r) s (s.answersOk 0x0302 r
       (leBytes 1 s.stew.role.code ++ leBytes 1 (orFF s.stew.primary) ++ leBytes 1 (orFF s.stew.standby) ++ leBytes 1 (b2n s.stewElig)))) ∧
     (Served s 0x0403 r → Effect (.linkQuery r) s (s.answersOk 0x0403 r
       (leBytes 8 (s.strandMap .up) ++ leBytes 8 (s.strandMap .miswired) ++
         leBytes 16 (((List.range 64).map fun k => s.lanesMinus k * 4 ^ k).sum) ++ leBytes 8 s.mesh.detour.toNat))) ∧
     (Served s 0x0404 r → Effect (.photonicQuery r) s (s.answersOk 0x0404 r
       (leBytes 88 (maskOf ((List.range 704).filter fun n =>
           (s.ring704At n).state != .parked && (s.ring704At n).state != .locked)) ++
         leBytes 4 (maskOf ((List.range 24).filter fun a => (s.laserAt a).failed != 0 || (s.laserAt a).state == .retired)) ++
         (s.spareMap.flatMap (leBytes 1)) ++ leBytes 2 s.headroomMin ++ [0, 0]))) ∧
     (Served s 0x0502 r → Effect (.planishQuery r) s (s.answersOk 0x0502 r
       (let x := s.itemAt (r.f 0 2) (r.f 2 2)
        leBytes 2 (x.last.elim 0xFFFF Status.code) ++ leBytes 2 0 ++ leBytes 4 x.timeS ++ leBytes 4 x.count))) ∧
     (Served s 0x0602 r → Effect (.loopQuery r) s (s.answersOk 0x0602 r
       (let x := s.slotAt (r.f 0 1)
        leBytes 4 x.statWord ++ leBytes 4 x.setUsed.toNat ++ leBytes 4 (x.inUse 0).value.toNat ++ leBytes 4 (Table.at x.out 0 0).toNat)))) ∧
  (∀ (s : State) (r : Req),
     (Served s 0x0801 r →
       let c := (s.accepted 0x0801 r).calRead r.partition (r.f 0 4) (r.f 4 2)
       let head := leBytes 4 c.1 ++ leBytes 4 c.2.1 ++ leBytes 2 c.2.2.length ++ List.replicate 6 0
       let recs := c.2.2.flatMap Rec.bytes
       (r.data = false → Effect (.calRead r) s (s.answersOk 0x0801 r (head ++ recs))) ∧
       (r.data = true → Effect (.calRead r) s ((s.accepted 0x0801 r).answer (s.entryOf 0x0801 r false) .ok 0 head (some recs)))) ∧
     (Served s 0x0901 r → Effect (.holdQuery r) s (s.answersOk 0x0901 r
       (leBytes 4 s.bootStatWord ++ (match s.boot.dirInUse with | some _ => s.boot.dir.bytes | none => List.replicate 84 0) ++
         leBytes 1 (s.boot.dirInUse.elim 0xFF b2n) ++ leBytes 1 s.otp.orderCode ++ leBytes 1 (slotByte s.otp.rootHash s.otp.rootRevoke) ++
         leBytes 1 (slotByte s.otp.ownHash s.otp.ownRevoke) ++ leBytes 8 s.otp.devId ++ leBytes 1 s.otp.fwSvn ++ leBytes 1 s.otp.ownSvn ++
         leBytes 1 (b2n s.otp.debugPerm) ++ [0]))) ∧
     (Served s 0x0902 r → s.boot.flashUsable = true → r.data = false →
       Effect (.flashRead r) s (s.answersOk 0x0902 r (padTo4 (s.flashRead (r.f 0 4) (r.f 4 4))))) ∧
     (Served s 0x0902 r → s.boot.flashUsable = true → r.data = true →
       Effect (.flashRead r) s
         ((s.accepted 0x0902 r).answer (s.entryOf 0x0902 r false) .ok 0 [] (some (s.flashRead (r.f 0 4) (r.f 4 4))))) ∧
     (Served s 0x0902 r → s.boot.flashUsable = false → r.data = false → ∃ b : List Byte, b.length = r.f 4 4 ∧
       Effect (.flashRead r) s (s.answersOk 0x0902 r (padTo4 b))) ∧
     (Served s 0x0905 r → s.boot.flashUsable = false → ∃ d, 1 ≤ d ∧ d ≤ 10 ∧ Effect (.imageCheck r) s
       (({ s.accepted 0x0905 r with freeCtr := s.freeCtr + 1 }).answer (s.entryOf 0x0905 r false) .ok 0 (leBytes 1 d ++ List.replicate 15 0))) ∧
     (Served s 0x0905 r → s.boot.flashUsable = true →
       let c := decide (r.f 1 1 = 1)
       let one := s.copyDetail .stage1 c
       let e := r.f 0 1
       (e = 0 → one ≠ 0 → Effect (.imageCheck r) s (s.answersOk 0x0905 r (checkBytes one 0 (s.imageAt .stage1 c)))) ∧
       (e ≠ 0 ∨ one = 0 → Effect (.imageCheck r) s (s.answersOk 0x0905 r
         (checkBytes (s.checkedDetail (entryKind e) c) (b2n (e = 0)) (s.imageAt (entryKind e) c))))))

/-- Parts of 05 R201, R206, 03 R91, R96: a STATE_SET with a transition in progress is answered BUSY, its hint the remaining bound of the
request that the transition serves (of a transition that no request asked for a free one of 1 to 1,000 ms, log entry 7), one for the present
state OK with no effect, and one for a transition that 03 Table 03-3 does not list BAD_ARG; DORMANT is refused while the device holds a
steward role, and STANDBY while a cause of SAFE holds. Each needs steps 5 to 9 of 05 Table 05-6 passed.

Parts of 05 R206, 03 R91-R97: a STATE_SET that goes on is held in the journal until its target is entered, and the transition begins: SAFE
from every state, DORMANT from STANDBY or SAFE, a wake from DORMANT, ANNEAL from STANDBY, and STANDBY from ANNEAL or SAFE. -/
def Obligations.StateSetIsJudgedAndStarts : Prop :=
  (∀ p ∈ damemRows, p.1 = 0x0101 → ∀ (s : State) (r : Req), Accepted s 0x0101 r →
     let a := s.accepted 0x0101 r
     let f := s.entryOf 0x0101 r false
     let t := stateOfTarget (r.f 0 1)
     a.heldMode = false → a.owns 0x0101 r = true → a.argFault f = none →
     (∀ g, s.dev.trans = true → (a.damem.inflight.find? fun g => match g.wait with | .state _ => true | _ => false) = some g →
       Effect (p.2 r) s (a.answer f .busy 0 [] none (a.busyHint g))) ∧
     (s.dev.trans = true → (a.damem.inflight.find? fun g => match g.wait with | .state _ => true | _ => false) = none → ∃ h, 1 ≤ h ∧ h ≤ 1000 ∧
       Effect (p.2 r) s (({ a with freeCtr := a.freeCtr + 1 }).answer f .busy 0 [] none h)) ∧
     (s.dev.trans = false → t = s.dev.state → Effect (p.2 r) s (s.answersOk 0x0101 r [])) ∧
     (s.dev.trans = false → t ≠ s.dev.state → stateListed s.dev.state t = false →
       Effect (p.2 r) s (s.answersWith 0x0101 r .badArg (r.at' 0))) ∧
     (s.dev.trans = false → a.blockers f = [] → s.dev.state = .standby → t = .dormant → s.stew.role ≠ Role.none →
       Effect (p.2 r) s (s.answersWith 0x0101 r .precond 0)) ∧
     (s.dev.trans = false → a.blockers f = [] → s.dev.state = .safe → t = .standby → s.causeHolds = true →
       Effect (p.2 r) s (s.answersWith 0x0101 r .precond 0))) ∧
  (∀ (s : State) (r : Req), Served s 0x0101 r →
     let a := s.accepted 0x0101 r
     let f := s.entryOf 0x0101 r false
     (r.f 0 1 = 6 → s.dev.state ≠ .dormant → Effect (.stateSetSafe r) s ((a.hold f (.state .safe)).enterSafe 7)) ∧
     (r.f 0 1 = 6 → s.dev.state = .dormant →
       Effect (.stateSetSafe r) s (((a.hold f (.state .safe)).wakeHandler 0x0C).enterSafe 7)) ∧
     (r.f 0 1 = 1 → s.stew.role = Role.none → s.dev.state = .standby ∨ s.dev.state = .safe →
       Effect (.stateSetDormant r) s ((a.hold f (.state .dormant)).enterDormant .request)) ∧
     (r.f 0 1 = 2 → s.dev.state = .dormant → Effect (.stateSetStandby r) s ((a.hold f (.state .standby)).wakeBy 0x0C true)) ∧
     (r.f 0 1 = 2 → s.dev.state = .anneal → Effect (.stateSetStandby r) s ((a.hold f (.state .standby)).leaveAnneal .request)) ∧
     (r.f 0 1 = 2 → s.dev.state = .safe → s.causeHolds = false → Effect (.stateSetStandby r) s
       (((a.hold f (.state .standby)).transTo .standby).upTo' 6 .toStandby fun x => x.standbyReady x.standbyTrigger)) ∧
     (r.f 0 1 = 3 → s.dev.state = .standby → Effect (.stateSetAnneal r) s ((a.hold f (.state .anneal)).enterAnneal .request)))

/-- Parts of 05 R207, R208, R213, Table 05-12, 19 R758: DEBUG_TOKEN, TIME_SET, STEWARD_RELEASE and CDU_SETPOINT. A token in order on an open
debug role is taken, one that is not the device's own is malformed; TIME_SET within 100 ms of the last one is answered BUSY with the time
remaining, any other is taken; a standby steward withdraws at once and a device without a role is answered PRECOND; a primary offers its
role to its standby, or gives it up where it has none; a supply set-point off the primary steward, of one that gives the role up (log entry
32), or of a slot that a cascade sets is answered NOT_READY, and one within the envelope and the guard is taken.

Parts of 10 R432, R436, R437, 11 R463, 05 Table 05-12: WMK_SET and STRAND_SET. A mode that stands already is answered at once; WMK_SET on
arms the scorer and waits for it where it warms up; WMK_SET off withdraws the queued batches, lets those in flight end and answers how many
came back; a strand whose loss would cut off a row position is not disabled, any other is sent dark, and an enabled strand waits to be Up
and probes where it may train. -/
def Obligations.OwnerScorerAndStrandRequests : Prop :=
  (∀ (s : State) (r : Req),
     (Served s 0x0104 r → r.f 0 8 ≠ s.otp.devId → Effect (.debugToken r) s (s.answersWith 0x0104 r .badArg 0)) ∧
     (Served s 0x0104 r → s.tokenFault r = none → fieldOf s.hmk.role 29 28 = 1 → s.otp.debugPerm = false →
       Effect (.debugToken r) s (({ s.accepted 0x0104 r with boot := { s.boot with debugToken := true } }).answer (s.entryOf 0x0104 r false) .ok)) ∧
     (Served s 0x0104 r → s.tokenFault r = none → fieldOf s.hmk.role 29 28 ≠ 1 ∨ s.otp.debugPerm = true →
       Effect (.debugToken r) s (s.answersWith 0x0104 r .precond 0xFFFF)) ∧
     (∀ t, Served s 0x0105 r → s.clocks.lastSet = some t → (s.now - t) * 1000 < 100 * 32768 → ∃ h, 1 ≤ h ∧
       (h - 1) * 32768 < 100 * 32768 - (s.now - t) * 1000 ∧ 100 * 32768 - (s.now - t) * 1000 ≤ h * 32768 ∧
       Effect (.timeSet r) s ((s.accepted 0x0105 r).answer (s.entryOf 0x0105 r false) .busy 0 [] none h)) ∧
     (Served s 0x0105 r → (∀ t, s.clocks.lastSet = some t → 100 * 32768 ≤ (s.now - t) * 1000) → Effect (.timeSet r) s
       ((((s.accepted 0x0105 r).timeAccept (r.f 0 4 * 1000000000 + r.f 4 4) (r.f 8 4)).alarmDue).answer (s.entryOf 0x0105 r false) .ok)) ∧
     (Served s 0x0303 r → s.stew.role = Role.none → Effect (.stewardRelease r) s (s.answersWith 0x0303 r .precond 0xFFFF)) ∧
     (Served s 0x0303 r → s.stew.role = Role.standby → ∃ u : State, Effect (.stewardRelease r) s (u.answer (s.entryOf 0x0303 r false) .ok) ∧
       u.stew = { s.stew with role := Role.none, standby := none, withdrawn := true, maxEpoch := max s.stew.maxEpoch s.stew.epoch }) ∧
     (∀ d, Served s 0x0303 r → s.stew.role = Role.primary → s.givingUp = false → s.stew.standby = some d → ∃ u : State,
       Effect (.stewardRelease r) s u ∧ u.stew.seq = .offered ∧ u.stew.withdrawn = true ∧ u.stew.role = Role.primary ∧
       ∃ g ∈ u.damem.inflight, g.req = r ∧ g.wait = .steward) ∧
     (Served s 0x0304 r → s.stew.role ≠ Role.primary → Effect (.cduSetpoint r) s (s.answersWith 0x0304 r .notReady 0)) ∧
     (Served s 0x0303 r → s.stew.role = Role.primary → s.givingUp = false → s.stew.standby = none → Effect (.stewardRelease r) s
       (({ (s.accepted 0x0303 r).hold (s.entryOf 0x0303 r false) .steward with stew := { s.stew with withdrawn := true } }).giveUp false)) ∧
     (Served s 0x0303 r → s.stew.role = Role.primary → s.givingUp = true → Effect (.stewardRelease r) s
       { (s.accepted 0x0303 r).hold (s.entryOf 0x0303 r false) .steward with stew := { s.stew with withdrawn := true } }) ∧
     (Served s 0x0304 r → s.stew.role = Role.primary → s.givingUp = true →
       Effect (.cduSetpoint r) s (s.answersWith 0x0304 r .notReady 0)) ∧
     (let v := (lwFrac (sfld r.body 0 4) 1000).1
      (Served s 0x0304 r → s.takesSupply = true → s.supplyJudge (sfld r.body 0 4) = .accepted →
       Effect (.cduSetpoint r) s
         (({ (s.accepted 0x0304 r).updSlot 8 fun x => { x with setpoint := v, guardRej := false } with
             stew := { s.stew with ramping := false } }).answer (s.entryOf 0x0304 r false) .ok)) ∧
      (Served s 0x0304 r → s.takesSupply = true → s.supplyJudge (sfld r.body 0 4) = .parent →
       Effect (.cduSetpoint r) s (s.answersWith 0x0304 r .notReady 0)))) ∧
  (∀ (s : State) (r : Req),
     (Served s 0x0401 r → r.f 0 1 = 1 → s.wmk.en = true → Effect (.wmkSetOn r) s (s.answersOk 0x0401 r (leBytes 4 0))) ∧
     (Served s 0x0401 r → r.f 0 1 = 0 → s.wmk.en = false → Effect (.wmkSetOff r) s (s.answersOk 0x0401 r (leBytes 4 0))) ∧
     (Served s 0x0401 r → r.f 0 1 = 1 → s.wmk.en = false → s.dev.state = .anneal ∨ s.dev.state = .serving → s.wmk.state = .off →
       ∃ u : State, Effect (.wmkSetOn r) s u ∧ u.wmk.en = true ∧ u.wmk.state = .warming ∧ u.wmk.stopping = false ∧ u.wmk.returned = 0 ∧
       (∃ g ∈ u.damem.inflight, g.req = r ∧ g.wait = .scorer) ∧
       u = { s with wmk := u.wmk, cal := u.cal, damem := u.damem, out := u.out }) ∧
     (Served s 0x0401 r → r.f 0 1 = 0 → s.wmk.en = true → (∀ p, p < 16 → Table.at s.wmk.queue p [] = []) → s.wmk.flight ≠ [] →
       ∃ u : State, Effect (.wmkSetOff r) s u ∧ u.wmk = { s.wmk with en := false, stopping := true, returned := 0 } ∧
       (∃ g ∈ u.damem.inflight, g.req = r ∧ g.wait = .scorer) ∧ u = { s with wmk := u.wmk, damem := u.damem, out := u.out }) ∧
     (Served s 0x0402 r → r.f 1 1 = 0 → (s.strandAt (r.f 0 1)).state = .up → s.upTo (s.peerOf (r.f 0 1)) = [r.f 0 1] →
       s.viaTo (s.peerOf (r.f 0 1)) = none → Effect (.strandSetDisable r) s (s.answersWith 0x0402 r .precond 0)) ∧
     (Served s 0x0402 r → r.f 1 1 = 0 → r.f 0 1 < 64 → (s.strandAt (r.f 0 1)).state = .off → (s.strandAt (r.f 0 1)).recon = none →
       (s.strandAt (r.f 0 1)).trip = none → ∃ u : State, Effect (.strandSetDisable r) s u ∧
       (u.strandAt (r.f 0 1)).en = false ∧ (u.strandAt (r.f 0 1)).state = .disabled ∧ (u.strandAt (r.f 0 1)).lastDown = 5 ∧
       (u.strandAt (r.f 0 1)).presence = false ∧ (∀ k, k ≠ r.f 0 1 → u.strandAt k = s.strandAt k)) ∧
     (Served s 0x0402 r → r.f 1 1 = 1 → (s.strandAt (r.f 0 1)).state = .up →
       Effect (.strandSetEnable r) s (s.answersOk 0x0402 r (leBytes 4 0))) ∧
     (Served s 0x0402 r → r.f 1 1 = 1 → r.f 0 1 < 64 → (s.strandAt (r.f 0 1)).state = .disabled → s.meshLit = true →
       s.pho.swept.getLsbD (r.f 0 1 / 4) = true → ∃ u : State, Effect (.strandSetEnable r) s u ∧
       (u.strandAt (r.f 0 1)).en = true ∧ (u.strandAt (r.f 0 1)).state = .dark ∧ (u.strandAt (r.f 0 1)).probing = true ∧
       (u.strandAt (r.f 0 1)).tx = .probe ∧ (∀ k, k ≠ r.f 0 1 → u.strandAt k = s.strandAt k) ∧
       ∃ g ∈ u.damem.inflight, g.req = r ∧ g.wait = .strand (r.f 0 1)))

/-- Parts of 15 R618, R630-R632, R640, 16 R667: LOOP_COEF writes the inactive bank, asks for a swap at the next sample where the inactive
bank is whole and keeps the slot's shape, or writes the active bank word by word; an empty slot and a swap that still waits are answered
PRECOND. PLANISH_RUN of an item that is used starts its step and waits for it.

Parts of 18 R736-R741, 05 Table 05-12: FIL_SECTOR. An image that passes its checks, lies within the envelope and fits its sector is put
beside the running one and waits for its swap window; one that fails a check is recorded with its DETAIL and answered PRECOND; DISABLE ends
a running sector and keeps its values; ENABLE of a sector that holds an image swaps that in, and of a running one does nothing; an empty
sector, DORMANT, SAFE and HELD are answered PRECOND. -/
def Obligations.LoopPlanishAndFabricRequests : Prop :=
  (∀ (s : State) (r : Req),
     let n := r.f 0 1
     let x := s.slotAt n
     let vals := (List.range (r.f 4 2)).map fun i => BitVec.ofNat 32 (r.f (8 + 4 * i) 4)
     let a := s.accepted 0x0601 r
     let f := s.entryOf 0x0601 r false
     (∀ p ∈ damemRows, p.1 = 0x0601 → Served s 0x0601 r → x.cfg.law = 0 → Effect (p.2 r) s (s.answersWith 0x0601 r .precond 0)) ∧
     (∀ p ∈ damemRows, p.1 = 0x0601 → Served s 0x0601 r → x.cfg.law ≠ 0 → r.f 1 1 ≠ 2 → x.swapPend = true →
       Effect (p.2 r) s (s.answersWith 0x0601 r .precond 0xFFFF)) ∧
     (Served s 0x0601 r → x.cfg.law ≠ 0 → x.swapPend = false → r.f 1 1 = 0 → x.bank = false → Effect (.loopCoefWriteInactive r) s
       ((a.updSlot n fun x => { x with bankB := writeBank x.bankB (r.f 2 2) vals }).answer f .ok)) ∧
     (Served s 0x0601 r → x.cfg.law ≠ 0 → x.swapPend = false → r.f 1 1 = 0 → x.bank = true → Effect (.loopCoefWriteInactive r) s
       ((a.updSlot n fun x => { x with bankA := writeBank x.bankA (r.f 2 2) vals }).answer f .ok)) ∧
     (Served s 0x0601 r → x.cfg.law ≠ 0 → x.swapPend = false → r.f 1 1 = 1 → bankGood x.inactive = true → hdrIn x.inactive = x.cfg.nin →
       hdrOut x.inactive = x.cfg.nout → Effect (.loopCoefSwap r) s ((a.updSlot n fun x => { x with swapPend := true }).answer f .ok)) ∧
     (Served s 0x0601 r → x.cfg.law ≠ 0 → x.swapPend = false → r.f 1 1 = 1 → bankGood x.inactive = false →
       Effect (.loopCoefSwap r) s (s.answersWith 0x0601 r .precond 0xFFFF)) ∧
     (Served s 0x0601 r → x.cfg.law ≠ 0 → r.f 1 1 = 2 → x.bank = false → Effect (.loopCoefSingle r) s
       ((a.updSlot n fun x => { x with bankA := writeBank x.bankA (r.f 2 2) vals }).answer f .ok)) ∧
     (Served s 0x0601 r → x.cfg.law ≠ 0 → r.f 1 1 = 2 → x.bank = true → Effect (.loopCoefSingle r) s
       ((a.updSlot n fun x => { x with bankB := writeBank x.bankB (r.f 2 2) vals }).answer f .ok)) ∧
     (Served s 0x0501 r → s.itemUsed (r.f 0 2) (r.f 2 2) = true → Effect (.planishRun r) s
       ((s.accepted 0x0501 r).holdEarly (s.entryOf 0x0501 r false) (.planish (r.f 0 2) (r.f 2 2)))) ∧
     (Served s 0x0501 r → s.itemUsed (r.f 0 2) (r.f 2 2) = false → Effect (.planishRun r) s (s.answersWith 0x0501 r .precond 0xFFFF))) ∧
  (∀ (s : State) (r : Req),
     let n := r.f 0 1
     let x := s.sectorAt n
     let a := s.accepted 0x0701 r
     let f := s.entryOf 0x0701 r false
     let im := imageOf (bytesAt r.bulkIn 0 r.dataLen)
     let off : Prop := s.dev.state = .dormant ∨ s.dev.state = .safe ∨ s.dev.state = .held
     (∀ i, Served s 0x0701 r → r.f 1 1 = 0 → secEntryAt im.body 0 = some i → s.imageDetail .sector im = 0 → s.imageInEnvelope i = true →
       s.secImageFits n i = true → ¬ off →
       Effect (.filSectorLoad r) s (((a.updSector n fun x => { x with shadow := some i }).hold f (.swap n)).filNext)) ∧
     (∀ i d, Served s 0x0701 r → r.f 1 1 = 0 → secEntryAt im.body 0 = some i → s.imageDetail .sector im = d → d ≠ 0 →
       Effect (.filSectorLoad r) s ((a.log 0xA005 (param [(1, 4), (1, d)])).answer f .precond 0xFFFF)) ∧
     (Served s 0x0701 r → r.f 1 1 = 0 → secEntryAt im.body 0 = none →
       let d := s.imageDetail .sector im
       Effect (.filSectorLoad r) s ((a.log 0xA005 (param [(1, 4), (1, if d = 0 then 10 else d)])).answer f .precond 0xFFFF)) ∧
     (∀ i, Served s 0x0701 r → r.f 1 1 = 0 → secEntryAt im.body 0 = some i → s.imageDetail .sector im = 0 → s.imageInEnvelope i = true →
       s.secImageFits n i = false → Effect (.filSectorLoad r) s (s.answersWith 0x0701 r .precond (r.at' 0))) ∧
     (∀ i, Served s 0x0701 r → r.f 1 1 = 0 → secEntryAt im.body 0 = some i → s.imageDetail .sector im = 0 → s.imageInEnvelope i = true →
       s.secImageFits n i = true → off → Effect (.filSectorLoad r) s (s.answersWith 0x0701 r .precond 0xFFFF)) ∧
     (∀ i, Served s 0x0701 r → r.f 1 1 = 0 → secEntryAt im.body 0 = some i → s.imageDetail .sector im = 0 → s.imageInEnvelope i = false →
       Effect (.filSectorLoad r) s (s.answersWith 0x0701 r .deniedEnvelope 0xFFFF)) ∧
     (Served s 0x0701 r → r.f 1 1 = 1 → ¬ off → x.state = .running → n < 16 → ∃ u : State,
       Effect (.filSectorDisable r) s (u.answer f .ok 0 (leBytes 4 0)) ∧ (u.sectorAt n).state = .disabled ∧
       (u.sectorAt n).image = x.image) ∧
     (Served s 0x0701 r → r.f 1 1 = 1 → ¬ off → x.state = .disabled ∨ x.state = .empty →
       Effect (.filSectorDisable r) s (s.answersOk 0x0701 r (leBytes 4 0))) ∧
     (Served s 0x0701 r → r.f 1 1 = 2 → ¬ off → x.state = .disabled → Effect (.filSectorEnable r) s
       (((a.updSector n fun x => { x with shadow := x.image }).hold f (.swap n)).filNext)) ∧
     (Served s 0x0701 r → r.f 1 1 = 2 → ¬ off → x.state = .running → Effect (.filSectorEnable r) s (s.answersOk 0x0701 r (leBytes 4 0))) ∧
     (Served s 0x0701 r → r.f 1 1 = 2 → x.state = .empty ∨ off → Effect (.filSectorEnable r) s (s.answersWith 0x0701 r .precond (r.at' 0))) ∧
     (Served s 0x0701 r → r.f 1 1 = 1 → off → Effect (.filSectorDisable r) s (s.answersWith 0x0701 r .precond 0xFFFF)))

/-- Parts of 05 R209, R210, 06 R243, R251, R253, R254, 09 R375, 21 R816: PART_CREATE of a partition that is not there grants the lowest free
units beside what it holds, configures it and leaves it stopped, answered with its grants; PART_RESIZE gives back and grants down and up to
the new totals, downwards only when stopped; PART_DESTROY of a stopped one gives all of it back and keeps EPOCH and Bus Master Enable. A
partition that is there, or is not, or has too little left, is answered PRECOND with the field concerned.

Parts of 05 R211, 06 R252, R273, R274, Table 06-11: PART_START of a stopped partition that can run starts it, in SERVING at once, from
ANNEAL on the way into SERVING, and in RAMP mode once three compute-die samples have seeded the limiter (03 R117); of one that runs it does
nothing; without an image, faulted, without its function, or in SAFE it is answered PRECOND. PART_STOP with DRAIN stops intake and waits for
the accepted sheets, with ABORT it counts EPOCH on and stops the partition at once; of a stopped one it answers zero counts. PART_RESET
leaves every register of the partition as after PART_CREATE. -/
def Obligations.PartitionsLiveAndStop : Prop :=
  (∀ (s : State) (r : Req),
     let p := r.f 0 1
     let x := s.partAt p
     let f (c : Nat) := s.entryOf c r false
     (Judged s 0x0201 r → x.state ≠ .none → Effect (.partCreate r) s (s.answersWith 0x0201 r .precond 0xFFFF)) ∧
     (∀ d, Served s 0x0201 r → x.state = .none → s.grantLack r false = some d →
       Effect (.partCreate r) s (s.answersWith 0x0201 r .precond d)) ∧
     (Served s 0x0201 r → x.state = .none → s.grantLack r false = none →
       ∃ (g : State) (l : List Nat),
         (let c := (g.talliesReset (g.partAt p).tallies).partTo p .stopped
          Effect (.partCreate r) s (c.answer (f 0x0201) .ok 0 (c.partAt p).grants)) ∧
         g.partAt p = { x.freshRegs with
           chl := r.f 6 1
           wmk := r.f 7 1
           tag := r.f 8 2
           optical := bitOf (r.f 0x0A 1) 0
           fallback := bitOf (r.f 0x0A 1) 1
           drainMs := r.f 0x0C 2
           late := 0
           memLost := false
           image := none
           intakeOff := true
           moulds := l
           slices := x.slices ++ (s.unowned 48 (·.slices)).take (r.f 2 1 - x.slices.length)
           granules := x.granules ++ (s.unowned 96 (·.granules)).take (r.f 3 1 - x.granules.length)
           rings := x.rings ++ (s.unowned 64 (·.rings)).take (r.f 4 1 - x.rings.length)
           tallies := x.tallies ++ (s.unowned 32 (·.tallies)).take (r.f 5 1 - x.tallies.length) } ∧
         (∀ m, m ∈ l ↔ m ∈ x.moulds ∨ m ∈ s.freeMoulds.take (r.f 1 1 - (x.moulds.length + s.mouldsOut p))) ∧
         (∀ q, q ≠ p → g.partAt q = s.partAt q)) ∧
     (Judged s 0x0202 r → x.state = .none ∨ s.partBusy p = true →
       Effect (.partResize r) s (s.answersWith 0x0202 r .precond 0xFFFF)) ∧
     (∀ d, Served s 0x0202 r → x.state ≠ .none → s.partBusy p = false → s.grantLack r (x.state != .stopped) = some d →
       Effect (.partResize r) s (s.answersWith 0x0202 r .precond d)) ∧
     (Served s 0x0202 r → x.state ≠ .none → s.partBusy p = false → s.grantLack r (x.state != .stopped) = none →
       (let u := ((((s.accepted 0x0202 r).shrink p r.wants).grow p r.wants).updPart p fun y => y.configure r).ringsRefresh p
        Effect (.partResize r) s (u.answer (f 0x0202) .ok 0 (u.partAt p).grants))) ∧
     (Judged s 0x0203 r → x.state ≠ .stopped → Effect (.partDestroy r) s (s.answersWith 0x0203 r .precond 0xFFFF)) ∧
     (Served s 0x0203 r → x.state = .stopped →
       Effect (.partDestroy r) s (((((s.accepted 0x0203 r).shrink p []).updPart p fun y =>
         { epoch := y.epoch, busMaster := y.busMaster, late := y.late }).partTo p .none).answer (f 0x0203) .ok))) ∧
  (∀ (s : State) (r : Req),
     let p := r.f 0 1
     let x := s.partAt p
     let f (c : Nat) := s.entryOf c r false
     (Judged s 0x0204 r → x.state = .started ∨ x.state = .starting → Effect (.partStart r) s (s.answersOk 0x0204 r [])) ∧
     (Judged s 0x0204 r → x.state = .none → Effect (.partStart r) s (s.answersWith 0x0204 r .precond 0xFFFF)) ∧
     (Served s 0x0204 r → x.state = .draining → Effect (.partStart r) s (s.answersWith 0x0204 r .precond 0xFFFF)) ∧
     (Served s 0x0204 r → x.state = .stopped → x.image = none ∨ x.faulted = true ∨ s.sriov.vfEnable = false ∨ s.sriov.numVfs < p + 1 ∨
       s.dev.state = .safe ∨ s.dev.episode.isSome = true → Effect (.partStart r) s (s.answersWith 0x0204 r .precond 0xFFFF)) ∧
     (Served s 0x0204 r → x.state = .stopped → x.image ≠ none → x.faulted = false → s.sriov.vfEnable = true → p < s.sriov.numVfs →
       s.dev.state = .serving → s.dev.trans = false → s.dev.startsWaiting = [] → s.dev.episode = none → s.thm.seed = none →
       s.rampMode = false → p < 16 →
       ∃ u : State, Effect (.partStart r) s u ∧ u.partAt p = { x with state := .started, intakeOff := false, memLost := false } ∧
         (∀ q, q ≠ p → u.partAt q = s.partAt q) ∧ u.dev = s.dev ∧
         u = { s with part := u.part, ring := u.ring, cal := u.cal, damem := u.damem, out := u.out }) ∧
     (Served s 0x0204 r → x.state = .stopped → x.image ≠ none → x.faulted = false → s.sriov.vfEnable = true → p < s.sriov.numVfs →
       s.dev.state = .serving → s.dev.trans = false → s.dev.startsWaiting = [] → s.dev.episode = none → s.thm.seed = none →
       s.rampMode = true → p < 16 →
       ∃ u : State, Effect (.partStart r) s u ∧ (u.partAt p).state = .starting ∧ u.dev = { s.dev with startsWaiting := [p] } ∧
         u.thm = { s.thm with seed := some [] } ∧ ∃ g ∈ u.damem.inflight, g.req = r ∧ g.wait = .partStart p) ∧
     (Served s 0x0204 r → x.state = .stopped → x.image ≠ none → x.faulted = false → s.sriov.vfEnable = true → p < s.sriov.numVfs →
       s.dev.state = .anneal → s.dev.trans = false → s.dev.startsWaiting = [] → s.dev.episode = none → s.thm.seed = none →
       s.rampMode = false → p < 16 →
       ∃ u : State, Effect (.partStart r) s u ∧ (u.partAt p).state = .started ∧ u.dev.state = .serving ∧ u.dev.startsWaiting = []) ∧
     (∀ k ∈ [.partStopDrain r, .partStopAbort r], Judged s 0x0205 r → x.state = .none →
       Effect k s (s.answersWith 0x0205 r .precond 0xFFFF)) ∧
     (∀ k ∈ [.partStopDrain r, .partStopAbort r], Served s 0x0205 r → x.state = .stopped →
       Effect k s (s.answersOk 0x0205 r (List.replicate 8 0))) ∧
     (Served s 0x0205 r → r.f 1 1 = 0 → x.live = true → s.partIdle p = false → p < 16 →
       ∃ u : State, Effect (.partStopDrain r) s u ∧ u.partAt p =
           { x with state := .draining, intakeOff := true, done := 0, aborted := 0, stopCause := some .drainDeadline } ∧
         (∀ q, q ≠ p → u.partAt q = s.partAt q) ∧ (∃ g ∈ u.damem.inflight, g.req = r ∧ g.wait = .partStop p) ∧
         u = { s with part := u.part, ring := u.ring, cal := u.cal, damem := u.damem, out := u.out }) ∧
     (Served s 0x0205 r → r.f 1 1 = 1 → x.live = true →
       (let n := (x.rings.map fun i => (s.ringAt i).sheets.length).foldl (· + ·) 0
        ∃ u : State, Effect (.partStopAbort r) s (u.answer (f 0x0205) .ok 0 (leBytes 4 0 ++ leBytes 4 n)) ∧
          (p < 16 → (u.partAt p).state = .stopped) ∧ (p < 16 → (∀ i ∈ x.rings, (s.ringAt i).sheets = []) → u.partAt p =
            { x with
              state := .stopped
              epoch := (x.epoch + 1) % 65536
              intakeOff := true
              stopCause := none
              done := if x.state = .draining then x.done else 0
              aborted := if x.state = .draining then x.aborted else 0 }))) ∧
     (Judged s 0x0206 r → x.state = .none → Effect (.partReset r) s (s.answersWith 0x0206 r .precond 0xFFFF)) ∧
     (Served s 0x0206 r → x.state ≠ .none →
       (let a := (s.accepted 0x0206 r).abortFor p .reset
        let s2 := ((x.rings.foldl State.ringTear a.2).updPart p fun y => { y.freshRegs with image := none, memLost := false }).markUnits
          x.granules x.slices
        let s4 := x.moulds.foldl (fun (s : State) m => s.updMould m fun y => { y with scratch := [] })
          ((s2.talliesReset x.tallies).dropCaches p)
        Effect (.partReset r) s ((if x.live then s4 else s4.partTo p .stopped 3).answer (f 0x0206) .ok 0 (leBytes 4 0 ++ leBytes 4 a.1)))))

/-- Parts of 06 R255, R257, R258, R266, R291, Table 06-5, 05 R212: PART_IMAGE of a stopped partition checks the image and puts it into the
last 16 MiB of its highest granule; RING_SETUP gives a ring that is not set up a doorbell page at its reset values with what the request
says; RING_TEARDOWN discards what the ring still holds. Where the partition's state forbids it they are answered PRECOND.

Parts of 05 R215-R217, R222-R226, 04 Table 04-16, R164, R165, 19 R764, R765: the Calender, flash and update actions. CAL_CLEAR frees records
up to UPTO; a flash erase, write, directory entry or owner hash is recorded and held until its operation ends; bytes of an active image and
bytes that are not erased are answered PRECOND; RECOVER outside HELD is answered PRECOND and in HELD starts a recovery boot; FW_ACTIVATE of
a slot that passes its checks makes it active on trial at the next cold boot, or begins the hand-over to it, which makes it active as it
quiesces (05 Table 05-15, log entry 31); FW_COMMIT ends the trial. -/
def Obligations.ImagesRingsAndFlashRequests : Prop :=
  (∀ (s : State) (r : Req),
     let p := r.f 0 1
     let n := r.f 1 1
     let x := s.partAt p
     let f (c : Nat) := s.entryOf c r false
     let b := bytesAt r.bulkIn 0 r.dataLen
     (∀ d, Served s 0x0208 r → imageFault b r.dataLen = some d → Effect (.partImage r) s (s.answersWith 0x0208 r .badArg d)) ∧
     (Judged s 0x0208 r → x.state ≠ .stopped → Effect (.partImage r) s (s.answersWith 0x0208 r .precond 0xFFFF)) ∧
     (Served s 0x0208 r → imageFault b r.dataLen = none → x.granules = [] →
       Effect (.partImage r) s (s.answersWith 0x0208 r .precond 0xFFFF)) ∧
     (∀ g, Served s 0x0208 r → imageFault b r.dataLen = none → x.granules.max? = some g → p < 16 →
       ∃ u : State, Effect (.partImage r) s (u.answer (f 0x0208) .ok) ∧
         u.mem = ((s.markBlocks (((g + 1) * granuleSize - 2 ^ 24) / 65536, 256)).memWrite ((g + 1) * granuleSize - 2 ^ 24) b).mem ∧
         (let img : KImage := { granule := g, entries := (List.range (fld b 6 2)).map fun i => fld b (0x40 + 4 * i) 4,
                                code := bytesAt b (codeAt b) (fld b 8 4), total := r.dataLen }
          u.partAt p = { x with image := some img }) ∧
         (∀ q, q ≠ p → u.partAt q = s.partAt q) ∧ u.ring = s.ring) ∧
     (Judged s 0x0209 r → x.state = .none ∨ s.partBusy p = true →
       Effect (.ringSetup r) s (s.answersWith 0x0209 r .precond 0xFFFF)) ∧
     (Judged s 0x020A r → x.state = .none ∨ s.partBusy p = true →
       Effect (.ringTeardown r) s (s.answersWith 0x020A r .precond 0xFFFF)) ∧
     (Served s 0x0209 r → (s.ringAt n).setup = true →
       Effect (.ringSetup r) s (s.answersWith 0x0209 r .precond 0xFFFF)) ∧
     (Served s 0x0209 r → (s.ringAt n).setup = false →
       Effect (.ringSetup r) s ((((s.accepted 0x0209 r).updRing n fun _ =>
         { setup := true
           log2 := r.f 2 1
           spillEn := bitOf (r.f 3 1) 0
           spillLog2 := r.f 0x20 1
           msix := r.f 4 2
           subBase := r.f 8 8
           cplBase := r.f 0x10 8
           spillBase := r.f 0x18 8
           drainBound := r.f 0x24 4 }).ringRefresh n).answer (f 0x0209) .ok)) ∧
     (Served s 0x020A r → x.state ≠ .none → s.partBusy p = false → x.state = .stopped ∨ (s.ringAt n).disabled = true ∨
       (s.ringAt n).sheets = [] → (s.ringAt n).setup = true → Effect (.ringTeardown r) s
       ((((s.accepted 0x020A r).ringTear n).ringRefresh n).answer (f 0x020A) .ok)) ∧
     (Served s 0x020A r → x.state ≠ .none → s.partBusy p = false → x.state = .stopped ∨ (s.ringAt n).disabled = true ∨
       (s.ringAt n).sheets = [] → (s.ringAt n).setup = false → Effect (.ringTeardown r) s (s.answersOk 0x020A r [])) ∧
     (Served s 0x020A r → x.state = .started → (s.ringAt n).disabled = false → (s.ringAt n).sheets ≠ [] →
       Effect (.ringTeardown r) s (s.answersWith 0x020A r .precond 0xFFFF))) ∧
  (∀ (s : State) (r : Req),
     let a (c : Nat) := s.accepted c r
     let f (c : Nat) := s.entryOf c r false
     let started (c : Nat) (op : FlashOp) : State :=
       let h := ((a c).log 0xA003 (param [(2, c)])).hold (f c) .flash
       { h with damem := { h.damem with flashOp := some op } }
     let size := if r.f 4 1 = 1 then 0x10000 else 0x1000
     (Served s 0x0802 r → r.f 4 1 = 0 → Effect (.calClear r) s (((a 0x0802).calClear (r.f 0 4)).answer (f 0x0802) .ok)) ∧
     (Served s 0x0802 r → r.f 4 1 = 1 →
       (let h := (a 0x0802).hold (f 0x0802) .flash
        Effect (.calClear r) s { h with damem := { h.damem with flashOp := some (.calFormat (r.f 0 4)) } })) ∧
     (Served s 0x0903 r → s.heldMode = true ∨ s.touchesActive (r.f 0 4) (size * r.f 6 2) = false →
       Effect (.flashErase r) s (started 0x0903 (.erase (r.f 0 4) size (r.f 6 2)))) ∧
     (Served s 0x0903 r → s.heldMode = false → s.touchesActive (r.f 0 4) (size * r.f 6 2) = true →
       Effect (.flashErase r) s (s.answersWith 0x0903 r .precond 0)) ∧
     (Served s 0x0904 r → (s.heldMode = true ∨ s.touchesActive (r.f 0 4) r.writeData.length = false) →
       (∀ b ∈ s.flashRead (r.f 0 4) r.writeData.length, b = 0xFF) → Effect (.flashWrite r) s (started 0x0904 (.write (r.f 0 4) r.writeData))) ∧
     (Served s 0x0904 r → (∃ b ∈ s.flashRead (r.f 0 4) r.writeData.length, b ≠ 0xFF) →
       Effect (.flashWrite r) s (s.answersWith 0x0904 r .precond 0)) ∧
     (Served s 0x0906 r → Effect (.dirSet r) s (started 0x0906 (.dirSet (r.f 0 1) (r.f 1 1 = 1) (r.f 2 1 = 1)))) ∧
     (Served s 0x0907 r → (∀ k, k < 4 → Table.at s.otp.ownHash k none = none) →
       Effect (.provision r) s (started 0x0907 (.provision (bytesAt r.body 0 48)))) ∧
     (Served s 0x0907 r → (∃ k, k < 4 ∧ Table.at s.otp.ownHash k none ≠ none) →
       Effect (.provision r) s (s.answersWith 0x0907 r .precond 0xFFFF)) ∧
     (∀ k ∈ [.recoverRetry r, .recoverFallback r], Served s 0x0908 r → s.heldMode = false ∨ s.dev.trans = true ∨ s.boot.coldNeeded = true ∨
       (s.dev.state = .safe ∧ s.causeHolds = true) →
       Effect k s (s.answersWith 0x0908 r .precond 0xFFFF)) ∧
     (Served s 0x0908 r → r.f 0 1 = 1 → (reasonEntry s.boot.reason = none ∨ s.boot.dirInUse = none ∨
       ∃ i, reasonEntry s.boot.reason = some i ∧ (s.boot.dir.entry i).lgValid = false) →
       Effect (.recoverFallback r) s (s.answersWith 0x0908 r .precond 0xFFFF)) ∧
     (Served s 0x0908 r → r.f 0 1 = 0 → s.heldMode = true → s.dev.trans = false → s.boot.coldNeeded = false →
       (s.dev.state ≠ .safe ∨ s.causeHolds = false) →
       Effect (.recoverRetry r) s ((((a 0x0908).log 0xA003 (param [(2, 0x0908)])).hold (f 0x0908) .recover).recoveryBoot)) ∧
     (∀ i, Served s 0x0908 r → r.f 0 1 = 1 → s.heldMode = true → s.dev.trans = false → s.boot.coldNeeded = false →
       (s.dev.state ≠ .safe ∨ s.causeHolds = false) →
       reasonEntry s.boot.reason = some i → s.boot.dirInUse ≠ none → (s.boot.dir.entry i).lgValid = true →
       Effect (.recoverFallback r) s (((((a 0x0908).log 0xA003 (param [(2, 0x0908)])).hold (f 0x0908) .recover).dirWrite fun d =>
         d.updEnt i fun x => { x with active := x.lastGood, trial := false }).recoveryBoot)) ∧
     (let slot := decide (r.f 0 1 = 1)
      let put (d : Directory) : Directory := d.updEnt 0 fun x => { x with active := slot, trial := true }
      (∀ k ∈ [.fwActivateLive r, .fwActivateNextCold r], Served s 0x0909 r → slot = s.boot.fwSlot →
        Effect k s (s.answersWith 0x0909 r .precond 0)) ∧
      (∀ k ∈ [.fwActivateLive r, .fwActivateNextCold r], ∀ d, Served s 0x0909 r → slot ≠ s.boot.fwSlot → s.slotDetail slot = d → d ≠ 0 →
        Effect k s (((a 0x0909).log 0xA005 (param [(1, 0), (1, d)])).answer (f 0x0909) .precond 0)) ∧
      (Served s 0x0909 r → r.f 1 1 = 1 → slot ≠ s.boot.fwSlot → s.slotDetail slot = 0 → s.update.trial = false → s.dev.trans = false →
        Effect (.fwActivateNextCold r) s (((a 0x0909).dirWrite put).answer (f 0x0909) .ok)) ∧
      (Served s 0x0909 r → r.f 1 1 = 0 → slot ≠ s.boot.fwSlot → s.slotDetail slot = 0 → s.update.trial = false → s.dev.trans = false →
        (s.imageAt .firmware slot).compat = s.boot.compat →
        Effect (.fwActivateLive r) s { (a 0x0909).holdEarly (f 0x0909) .handover with update := { s.update with
          handover := some { slot := slot, old := s.boot.fwSlot, trialS := r.f 2 2, rollback := false, began := s.now,
                             quiesceAt := none } } }) ∧
      (∀ k ∈ [.fwActivateLive r, .fwActivateNextCold r], Served s 0x0909 r → slot ≠ s.boot.fwSlot → s.slotDetail slot = 0 →
        (r.f 1 1 = 0 → (s.imageAt .firmware slot).compat = s.boot.compat) → s.update.trial = true ∨ s.dev.trans = true →
        Effect k s (s.answersWith 0x0909 r .precond 0xFFFF)) ∧
      (Served s 0x0909 r → r.f 1 1 = 0 → slot ≠ s.boot.fwSlot → s.slotDetail slot = 0 →
        (s.imageAt .firmware slot).compat ≠ s.boot.compat →
        Effect (.fwActivateLive r) s (s.answersWith 0x0909 r .precond 0))) ∧
     (Served s 0x090A r → s.update.trial = true → Effect (.fwCommit r) s ((a 0x090A).commitTrial.answer (f 0x090A) .ok)) ∧
     (Served s 0x090A r → s.update.trial = false → Effect (.fwCommit r) s (s.answersWith 0x090A r .precond 0xFFFF)))

/-- Parts of 04 R126, R132, R133, R142, R158, 03 R856: boot complete loads what the loop program and the Filigree set say, takes the
settings, ends the boot and enters the start state, where firmware runs, the rails and the endpoint are up and both images pass; an image
that fails leads to HELD with its reason, and a boot whose 2 s watchdog runs out to HELD with TRIAL or BOOT_TIMEOUT. A boot that ended in
SAFE loads its images there where they pass. Anything else changes nothing.

Parts of 08 R346, 05 R222-R227, 19 R768: a double fault restarts the Assay core alone, with a roll-back where a hand-over or a trial runs;
the end of a restart or a hand-over ends the window, so that journalled answers go out, with the firmware image reloaded where the fault had
found it spoiled; a hand-over past its window rolls back, one that has not quiesced quiesces first, and a trial past TRIAL_S is committed.
Without a restart, a hand-over or a trial these do nothing. -/
def Obligations.BootsAndFirmwareAct : Prop :=
  ((∀ (s : State) (p : LoopProg), s.boot.phase = .firmware → s.fwRuns = true → s.dev.episode = none → s.startReady = true →
     s.fwImages p = none →
     (let l := ((s.loadProgram p).loadSet).completeSettings
      Effect (.bootComplete p) s
        (({ l with boot := { l.boot with
           phase := .idle, complete := true, stage := 3, watchdog := false, recovery := false, reason := 0, detail := 0,
           copy := false, coldNeeded := false } }).answerWaiting .recover .ok).startEnter)) ∧
   (∀ (s : State) (p : LoopProg) (r : HeldReason) (d : Nat) (c : Bool), s.boot.phase = .firmware → s.fwRuns = true →
     s.dev.episode = none → s.startReady = true → s.fwImages p = some (r, d, c) →
     Effect (.bootComplete p) s (s.enterHeld r d c false)) ∧
   (∀ (s : State) (p : LoopProg), s.boot.phase ≠ .firmware ∨ s.fwRuns = false → Effect (.bootComplete p) s s) ∧
   (∀ (s : State) (p : LoopProg), s.dev.episode = none → s.startReady = false → Effect (.bootComplete p) s s) ∧
   (∀ (s : State) (p : LoopProg), s.boot.phase = .firmware → s.fwRuns = true → s.dev.episode ≠ none → s.dev.state = .safe →
     s.supply.seq = .idle → Effect (.bootComplete p) s (s.completeInSafe p)) ∧
   (∀ (s : State) (p : LoopProg), s.dev.episode ≠ none → (s.dev.state ≠ .safe ∨ s.supply.seq ≠ .idle) → Effect (.bootComplete p) s s) ∧
   (∀ s : State, s.boot.watchdog = true → s.boot.phase = .firmware → s.dev.episode = none →
     Effect .bootWatchdog s (({ s with update := { s.update with restarting := false } }).enterHeld
       (if (s.boot.dir.entry 0).trial then .trial else .bootTimeout) 0 s.boot.fwSlot false)) ∧
   (∀ s : State, (s.boot.watchdog = false ∨ s.boot.phase ≠ .firmware ∨ s.dev.episode ≠ none) → Effect .bootWatchdog s s) ∧
   (∀ (s : State) (r : HeldReason) (d : Nat) (c k : Bool), s.cutList [0, 1, 2] = [] → (∀ i, i < 3 → s.railOn i = true) →
     (s.enterHeld r d c k).dev.state = .held ∧ (s.enterHeld r d c k).boot.reason = r.code ∧ (s.enterHeld r d c k).boot.detail = d ∧
     (s.enterHeld r d c k).boot.copy = c ∧ (s.enterHeld r d c k).boot.coldNeeded = (s.boot.coldNeeded || k))) ∧
  ((∀ (s : State) (cause : Nat) (ok : Bool), s.assayRuns = true → s.update.handover = none → s.update.trial = false → ∃ u : State,
     Effect (.assayDoubleFault ⟨cause, ok⟩) s u ∧
     u.update = { s.update with restarting := true, restartAt := s.now, reload := s.update.reload || !ok } ∧
     u = { s with update := u.update, cal := u.cal, damem := u.damem, out := u.out }) ∧
   (∀ (s : State) (cause : Nat) (ok : Bool), s.assayRuns = true → s.update.handover = none → s.update.trial = true → ∃ u : State,
     Effect (.assayDoubleFault ⟨cause, ok⟩) s u ∧ u.update.restarting = true ∧ u.update.trial = false ∧ (u.boot.dir.entry 0).trial = false ∧
     u.update.handover = some { slot := s.boot.fwSlot, old := (s.boot.dir.entry 0).lastGood, trialS := s.update.trialS, rollback := true,
                                began := s.now, quiesceAt := some s.now }) ∧
   (∀ (s : State) (cause : Nat) (ok : Bool), s.assayRuns = false → Effect (.assayDoubleFault ⟨cause, ok⟩) s s) ∧
   (∀ s : State, s.update.handover = none → s.update.restarting = true →
     Effect .restartComplete s
       ((if s.update.reload then s.fwLoaded s.boot.fwSlot else s).windowEnds s.update.trial s.update.trialS)) ∧
   (∀ (s : State) (trial : Bool) (n : Nat), s.update.restarting = false → s.windowEnds trial n =
     ((({ s with update := { handover := none, trial := trial, trialS := n } }).journalEnds false).flushDeferred)) ∧
   (∀ (s : State) (trial : Bool) (n : Nat), s.update.restarting = true → s.windowEnds trial n =
     (((({ s with update := { handover := none, trial := trial, trialS := n } }).planishRestart).journalEnds true).flushDeferred)) ∧
   (∀ (s : State) (h : Handover), s.update.handover = some h → h.quiesceAt = none →
     exec .restartComplete s = exec .restartComplete s.quiesce ∧
     (h.rollback = false → exec .liveHandoverTimeout s = exec .liveHandoverTimeout s.quiesce) ∧
     s.quiesce.update.handover = some { h with quiesceAt := some s.now } ∧ (s.quiesce.boot.dir.entry 0).active = h.slot ∧
     (s.quiesce.boot.dir.entry 0).trial = true) ∧
   (∀ s : State, s.update.handover = none → s.update.restarting = false → Effect .restartComplete s s) ∧
   (∀ (s : State) (h : Handover), s.update.handover = some h → h.quiesceAt ≠ none → h.rollback = false →
     s.copyDetail .stage1 h.slot = 0 →
     s.copyDetail .firmware h.slot = 0 →
     Effect .restartComplete s ((((s.fwResume h.slot).windowEnds true h.trialS).logUpdate 1 h.slot).answerWaiting .handover .ok)) ∧
   (∀ (s : State) (h : Handover), s.update.handover = some h → h.quiesceAt ≠ none → h.rollback = true →
     Effect .restartComplete s ((((s.fwResume h.old).windowEnds false 0).logUpdate 2 h.old).answerWaiting .handover .aborted)) ∧
   (∀ (s : State) (h : Handover), s.update.handover = some h → h.quiesceAt ≠ none → h.rollback = false →
     (s.copyDetail .stage1 h.slot ≠ 0 ∨ s.copyDetail .firmware h.slot ≠ 0) → Effect .restartComplete s (s.rollBack h.trialS)) ∧
   (∀ (s : State) (h : Handover), s.update.handover = some h → h.rollback = true → Effect .liveHandoverTimeout s s) ∧
   (∀ (s : State) (h : Handover) (q : Nat), s.update.handover = some h → h.quiesceAt = some q → h.rollback = false → ∃ u : State,
     Effect .liveHandoverTimeout s u ∧ (u.boot.dir.entry 0).trial = false ∧ u.update.trial = false ∧
     u.update.handover = some { slot := s.boot.fwSlot, old := (s.boot.dir.entry 0).lastGood, trialS := h.trialS, rollback := true,
                                began := s.now, quiesceAt := some q } ∧
     u = { s with update := u.update, boot := u.boot, flash := u.flash }) ∧
   (∀ s : State, s.update.handover = none → Effect .liveHandoverTimeout s s) ∧
   (∀ s : State, s.update.trial = true → s.update.trialS ≠ 0 → s.fwRuns = true → ∃ u : State, Effect .trialTimeout s u ∧
     u.update = { s.update with trial := false, trialS := 0 } ∧
     u = { s with update := u.update, boot := u.boot, flash := u.flash, cal := u.cal, damem := u.damem, out := u.out }) ∧
   (∀ s : State, s.update.trial = false ∨ s.update.trialS = 0 → Effect .trialTimeout s s))

/-- Parts of 05 R216, 10 R432, 11 R463, 19 R757, R760, R761: the ends of operations that wait. A flash operation ends OK or TIMEOUT and its
request is answered; WMK_SET and STRAND_SET that still wait are answered OK; a slew ends with the calendar time at the time that was set;
records that wait are mirrored while the flash is free; a bucket gains a token, and one that owes a count writes it as code 0x0002. -/
def Obligations.WaitsAndTimersEnd : Prop :=
  (∀ (s : State) (ok : Bool), s.damem.flashOp = none → Effect (.flashOperationDone ok) s s) ∧
  (∀ s : State, s.damem.flashOp ≠ none → s.boot.flashUsable = true →
    Effect (.flashOperationDone true) s ((s.flashEnds true).answerWaiting .flash .ok)) ∧
  (∀ s : State, s.damem.flashOp ≠ none → Effect (.flashOperationDone false) s ((s.flashEnds false).answerWaiting .flash .timeout)) ∧
  (∀ s : State, s.wmk.state = .warming → ∃ u : State, Effect .wmkSetTimeout s u ∧ u = { s with damem := u.damem, out := u.out } ∧
    (s.fwAbsent = false → s.damem.inflight.Nodup → ∀ f ∈ u.damem.inflight, f.wait ≠ .scorer)) ∧
  (∀ s : State, s.wmk.state ≠ .warming → Effect .wmkSetTimeout s s) ∧
  (∀ (s : State) (k : Nat), k < 64 → (s.strandAt k).en = true → ∃ u : State, Effect (.strandSetTimeout k) s u ∧
    u = { s with damem := u.damem, out := u.out } ∧
    (s.fwAbsent = false → s.damem.inflight.Nodup → ∀ f ∈ u.damem.inflight, f.wait ≠ .strand k)) ∧
  (∀ (s : State) (k : Nat), k < 64 → (s.strandAt k).en = false → Effect (.strandSetTimeout k) s s) ∧
  (∀ s : State, s.clocks.slew = none → Effect .timeSlewEnd s s) ∧
  (∀ (s : State) (w : Slew), s.clocks.slew = some w → Effect .timeSlewEnd s { s with clocks := { s.clocks with
    calFs := ((s.clocks.calFs : Int) + (w.offsetNs * 1000000 - w.removed s.now)).toNat
    slew := none
    trimPpb := clampInt (-100000) 100000 (s.clocks.trimPpb + w.trimPpb) } }) ∧
  (∀ s : State, s.mirrorReady = false → Effect .calMirror s s) ∧
  (∀ s : State, s.mirrorReady = true → s.cal.pqueue.length ≤ 64 → s.cal.unmirrored = 0 →
    s.cal.slot + s.cal.pqueue.length ≤ 2048 → ∃ u : State, Effect .calMirror s u ∧ u.cal.pqueue = [] ∧
    u.cal.slot = s.cal.slot + s.cal.pqueue.length ∧ u.cal.recs = s.cal.recs ∧ u = { s with cal := u.cal, flash := u.flash }) ∧
  (∀ (s : State) (code : Nat) (l : Nat × Nat) (k : Bucket), s.limitOf code = some l →
    (s.cal.buckets.find? fun k => k.code == code) = some k → k.suppressed = 0 →
    Effect (.tokenRefill code) s { s with cal := { s.cal with buckets := giveToken l.1 code s.cal.buckets } }) ∧
  (∀ (s : State) (code : Nat) (l : Nat × Nat) (k : Bucket), s.limitOf code = some l →
    (s.cal.buckets.find? fun k => k.code == code) = some k → 0 < k.suppressed →
    Effect (.tokenRefill code) s (({ s with cal := { s.cal with
        buckets := s.cal.buckets.map fun (x : Bucket) => if x.code = code then { x with suppressed := 0 } else x } }).log 0x0002
      (param [(2, code), (2, 0), (4, k.suppressed)]))) ∧
  (∀ (s : State) (code : Nat), s.limitOf code = none → Effect (.tokenRefill code) s s)

/-- Parts of 05 R228, R229, R241, 04 Table 04-17: MCTP control. Over a binding that is up, with the service running and the device out of
DORMANT, each command of the list is answered, SET_ENDPOINT_ID taking an ID from 1 to 254 only, and a command outside it is answered
ERROR_UNSUPPORTED_CMD; before the service runs and while firmware is absent the answer is ERROR_NOT_READY; over a binding that is not up
nothing happens, and a message of a type that the device does not take is dropped. In DORMANT the first transaction is not acknowledged and
wakes the device; a retried one is served, or answered ERROR_NOT_READY (which of the two is free, log entry 7). ENTDAA gives the address in
I3C mode. Codes are log entry 33, values the spec does not state log entry 7.

Parts of 05 R231-R234, Table 05-17: PLDM types 0 and 2. Identity, types and commands; the PDRs of Table 05-17, each with its ID, kind and
unit or states; readings of numeric and of state sensors, unavailable ones as such and those of the CDU only on the primary steward;
effecters 200 and 201, which act as STATE_SET and CDU_SETPOINT on path M; the event receiver; an event that is not acknowledged is sent
again three times, then dropped with a record. Codes are log entry 33, the numbers of states and the records' contents log entry 34. -/
def Obligations.ManagementPortAnswers : Prop :=
  ((∀ (s : State) (b : Binding), s.bindingUp b = true → s.damem.mctpUp = true → s.fwAbsent = false → s.asleep = false →
     (∀ op eid, op % 4 ≤ 1 → 1 ≤ eid → eid < 255 → Effect (.setEndpointId b op eid) s
       (({ s with damem := { s.damem with eid := eid } }).emit (.mctpControl 1 0 [0, eid, 0]))) ∧
     (∀ op eid, ¬ (op % 4 ≤ 1 ∧ 1 ≤ eid ∧ eid < 255) → Effect (.setEndpointId b op eid) s (s.emit (.mctpControl 1 2 []))) ∧
     Effect (.getEndpointId b) s (s.emit (.mctpControl 2 0 [s.damem.eid, 0, 0])) ∧
     (∃ d : List Nat, d.length = 16 ∧ Effect (.getEndpointUuid b) s (s.emit (.mctpControl 3 0 d))) ∧
     (∀ mtype, mtype = 0xFF ∨ mtype = 0 ∨ mtype = 1 ∨ mtype = 0x7E → ∃ v : Nat,
       Effect (.getMctpVersionSupport b mtype) s (s.emit (.mctpControl 4 0 [1, v]))) ∧
     (∀ mtype, ¬ (mtype = 0xFF ∨ mtype = 0 ∨ mtype = 1 ∨ mtype = 0x7E) →
       Effect (.getMctpVersionSupport b mtype) s (s.emit (.mctpControl 4 0x80 []))) ∧
     Effect (.getMessageTypeSupport b) s (s.emit (.mctpControl 5 0 [3, 0, 1, 0x7E])) ∧
     Effect (.getVendorDefinedMsgSupport b 0) s (s.emit (.mctpControl 6 0 [0xFF, 0, pciVendor, 0])) ∧
     (∀ sel, sel ≠ 0 → Effect (.getVendorDefinedMsgSupport b sel) s (s.emit (.mctpControl 6 2 []))) ∧
     (∀ cmd, cmd = 0 ∨ 6 < cmd → Effect (.mctpUnsupportedCmd b cmd) s (s.emit (.mctpControl cmd 5 [])))) ∧
   (∀ (s : State) (b : Binding), s.bindingUp b = true → s.damem.mctpUp = false ∨ s.fwAbsent = true →
     Effect (.getEndpointId b) s (s.emit (.mctpControl 2 4 [])) ∧ Effect (.getMessageTypeSupport b) s (s.emit (.mctpControl 5 4 [])) ∧
     Effect (.getsensorreading b 14) s (s.emit (.pldm 2 0x11 4 []))) ∧
   (∀ (s : State) (b : Binding), s.bindingUp b = false → ∀ i ∈ [.getEndpointId b, .getEndpointUuid b, .getMessageTypeSupport b, .gettid b,
     .getpldmtypes b, .getpdrrepositoryinfo b, .geteventreceiver b], Effect i s s) ∧
   (∀ (s : State) (b : Binding), s.bindingUp b = true → s.damem.mctpUp = true → s.fwAbsent = false → s.asleep = true →
     (s.mgmtHears = false → Effect (.getEndpointId b) s s.mgmtNack ∧ Effect (.gettid b) s s.mgmtNack) ∧
     (s.mgmtHears = true → ∃ u : State, u = { s with freeCtr := u.freeCtr } ∧
       (Effect (.gettid b) s (u.emit (.pldm 0 2 0 [(s.damem.tid : Int)])) ∨ Effect (.gettid b) s (u.emit (.pldm 0 2 4 []))))) ∧
   (∀ (s : State) (b : Binding) (mtype : Nat), Effect (.mctpOtherType b mtype) s s) ∧
   (∀ (s : State) (addr : Nat) (x : Straps), s.supply.straps = some x → x.mgt = false → addr < 128 →
     Effect (.entdaa addr) s { s with damem := { s.damem with i3cAddr := some addr } }) ∧
   (∀ (s : State) (addr : Nat) (x : Straps), s.supply.straps = some x → x.mgt = true → Effect (.entdaa addr) s s)) ∧
  ((∀ (s : State) (b : Binding), s.bindingUp b = true → s.damem.mctpUp = true → s.fwAbsent = false → s.asleep = false →
     Effect (.gettid b) s (s.emit (.pldm 0 2 0 [(s.damem.tid : Int)])) ∧
     (∀ tid, 1 ≤ tid → tid < 255 → Effect (.settid b tid) s (({ s with damem := { s.damem with tid := tid } }).emit (.pldm 0 1 0 []))) ∧
     (∀ tid, tid = 0 ∨ 255 ≤ tid → Effect (.settid b tid) s (s.emit (.pldm 0 1 2 []))) ∧
     (∀ ptype, ptype = 0 ∨ ptype = 2 → ∃ v : Int, Effect (.getpldmversion b ptype) s (s.emit (.pldm 0 3 0 [v]))) ∧
     Effect (.getpldmtypes b) s (s.emit (.pldm 0 4 0 [0, 2])) ∧
     Effect (.getpldmcommands b 0) s (s.emit (.pldm 0 5 0 [1, 2, 3, 4, 5])) ∧
     Effect (.getpldmcommands b 2) s (s.emit (.pldm 0 5 0 [4, 5, 0x11, 0x21, 0x31, 0x32, 0x39, 0x3A, 0x50, 0x51])) ∧
     (∀ ptype, ptype ≠ 0 → ptype ≠ 2 → Effect (.getpldmcommands b ptype) s (s.emit (.pldm 0 5 0x83 []))) ∧
     Effect (.getpdrrepositoryinfo b) s (s.emit (.pldm 2 0x50 0 [0, 49])) ∧
     Effect (.getpdr b 0) s (s.emit (.pldm 2 0x51 0 ([2, 1] ++ [1, 1, 1, 2, 3, 4, 5, 6]))) ∧
     (∀ h id : Nat, 1 ≤ h → h < 49 → pdrIds[h - 1]? = some id →
       Effect (.getpdr b h) s (s.emit (.pldm 2 0x51 0 ([(h : Int) + 1, (id : Int)] ++ pdrBody id)))) ∧
     Effect (.getpdr b 49) s (s.emit (.pldm 2 0x51 0 ([0, 201] ++ [3, 0, -3]))) ∧
     (∀ h, 49 < h → Effect (.getpdr b h) s (s.emit (.pldm 2 0x51 0x82 []))) ∧
     (∀ n x, s.numericSensor n = some (some x) → cduEntry n = false ∨ s.stew.role = Role.primary →
       Effect (.getsensorreading b n) s (s.emit (.pldm 2 0x11 0 [0, x]))) ∧
     (∀ n, s.numericSensor n = some none → cduEntry n = false ∨ s.stew.role = Role.primary →
       Effect (.getsensorreading b n) s (s.emit (.pldm 2 0x11 0 [2]))) ∧
     (∀ n, s.numericSensor n ≠ none → cduEntry n = true → s.stew.role ≠ Role.primary →
       Effect (.getsensorreading b n) s (s.emit (.pldm 2 0x11 4 []))) ∧
     (∀ n, s.numericSensor n = none → Effect (.getsensorreading b n) s (s.emit (.pldm 2 0x11 0x80 []))) ∧
     (∀ n l, s.stateSensor n = some l → cduEntry n = false ∨ s.stew.role = Role.primary →
       Effect (.getstatesensorreadings b n) s (s.emit (.pldm 2 0x21 0 l))) ∧
     (∀ n, s.stateSensor n = none → Effect (.getstatesensorreadings b n) s (s.emit (.pldm 2 0x21 0x80 []))) ∧
     (∀ st, st < 256 → s.boot.complete = true → Effect (.setstateeffecterstates b 200 st) s (s.letIn 0x0101
       { path := .mctp, binding := b, tag := 0, len := 4, payload := [BitVec.ofNat 8 st, 0, 0, 0] } true)) ∧
     (∀ n st, n ≠ 200 → Effect (.setstateeffecterstates b n st) s (s.emit (.pldm 2 0x39 0x80 []))) ∧
     Effect (.getstateeffecterstates b 200) s
       (s.emit (.pldm 2 0x3A 0 [if s.dev.trans then 0 else 1, (s.dev.target.code : Int), (s.dev.state.code : Int)])) ∧
     (∀ v : Int, -(2 ^ 31) ≤ v → v < 2 ^ 31 → s.boot.complete = true → Effect (.setnumericeffectervalue b 201 v) s (s.letIn 0x0304
       { path := .mctp, binding := b, tag := 0, len := 4, payload := leBytes 4 (unsgn 32 v) } true)) ∧
     (∀ n v, n ≠ 201 → Effect (.setnumericeffectervalue b n v) s (s.emit (.pldm 2 0x31 0x80 []))) ∧
     (s.stew.role = Role.primary → Effect (.getnumericeffectervalue b 201) s
       (s.emit (.pldm 2 0x32 0 [1, (lwRat (s.slotAt 8).setpoint * 1000).floor]))) ∧
     (∀ addr, Effect (.seteventreceiver b addr) s
       (({ s with damem := { s.damem with receiver := some addr } }).emit (.pldm 2 4 0 []))) ∧
     Effect (.geteventreceiver b) s (s.emit (.pldm 2 5 0 [((s.damem.receiver.getD 0 : Nat) : Int)])) ∧
     (∀ ptype cmd, (pldmCommands ptype).contains cmd = false →
       Effect (.pldmUnsupportedCmd b ptype cmd) s (s.emit (.pldm ptype cmd 5 [])))) ∧
   (∀ (s : State) (n off : Nat) (e : PldmEvent), s.waitingEvent n off = some e → e.tries < 3 → ∃ u : State,
     Effect (.pldmEventResend n off) s (u.emit (.pldmEvent (s.damem.receiver.getD 0) n off e.value)) ∧
     u = { s with damem := { s.damem with
       events := s.damem.events.map fun x => if x = e then { x with tries := x.tries + 1 } else x } }) ∧
   (∀ (s : State) (n off : Nat) (e : PldmEvent), s.waitingEvent n off = some e → 3 ≤ e.tries →
     Effect (.pldmEventResend n off) s
       (({ s with damem := { s.damem with events := s.damem.events.erase e } }).log 0xA004 (param [(2, n)]))) ∧
   (∀ (s : State) (n off : Nat) (e : PldmEvent), s.waitingEvent n off = some e →
     Effect (.platformEventMessageResponse n off) s { s with damem := { s.damem with events := s.damem.events.erase e } }) ∧
   (∀ (s : State) (n off : Nat), s.waitingEvent n off = none →
     Effect (.pldmEventResend n off) s s ∧ Effect (.platformEventMessageResponse n off) s s))

/-- Parts of 07 R297, R300, R305-R307, 08 R350, R351, R353: the arithmetic instructions. Where no result is due in the registers that it names
(else nothing changes yet), a vector operation writes its result for the active, predicated-on threads alone, a comparison the predicate
register's bits of those threads, a scalar operation once for the group, MOVS a special register, a conversion the rounded value, CVT.pb8
and CVT.pb4 the block of the group's 32 values, each of those threads its mantissa and the shared exponent; a naming of registers that do
not exist, or of two scalar registers as uniform operands, is ILLEGAL. Results of IEEE 754 are those of the model's own figures; a shift by
32 and more is free (log entry 7), and the block's layout is log entry 10. -/
def Obligations.ArithmeticActsForItsThreads : Prop :=
  ∀ (s : State) (i : GIns) (g : Group), Issues s i g →
    let w := s.issuing i g
    let each (F : Group → Nat → Group) : State := (w.onGroup i fun h => (bitsSet 32 (i.acts g).toNat).foldl F h).advanced i g
    (∀ op rd a b c, g.blocks (vecNeed op rd a b c) = true → Effect (.vectorOp i op rd a b c) s s) ∧
    (∀ op rd a b c, g.blocks (vecNeed op rd a b c) = false → g.vecLegal op rd a b c = true → (∀ k, op ≠ .setp k) → op ≠ .add64 →
      (∀ p, op ≠ .sel p) →
      Effect (.vectorOp i op rd a b c) s (each fun h t => h.putV rd t (vecResult op false (g.src a t) (g.src b t) (g.src c t)))) ∧
    (∀ p rd a b c, g.blocks (vecNeed (.sel p) rd a b c) = false → g.vecLegal (.sel p) rd a b c = true →
      Effect (.vectorOp i (.sel p) rd a b c) s
        (each fun h t => h.putV rd t (if (Table.at g.pred p 0).getLsbD t = true then g.src a t else g.src b t))) ∧
    (∀ rd a b c, g.blocks (vecNeed .add64 rd a b c) = false → g.vecLegal .add64 rd a b c = true → Effect (.vectorOp i .add64 rd a b c) s
      (each fun h t => h.putWide rd t (g.src64 a t + g.src64 b t) 2)) ∧
    (∀ k rd a b c, g.blocks (vecNeed (.setp k) rd a b c) = false → g.vecLegal (.setp k) rd a b c = true →
      Effect (.vectorOp i (.setp k) rd a b c) s
        (each fun h t =>
          let bit := BitVec.ofNat 32 (2 ^ t)
          { h with pred := Table.upd h.pred rd fun m =>
              if cmpWords k (g.src a t) (g.src b t) = true then m ||| bit else m &&& ~~~ bit })) ∧
    (∀ op rd a b c, g.blocks (vecNeed op rd a b c) = false → g.vecLegal op rd a b c = false →
      Effect (.vectorOp i op rd a b c) s (s.illegal i g)) ∧
    (∀ op rd r r' c, r ≠ r' → g.blocks (vecNeed op rd (.s r) (.s r') c) = false →
      Effect (.vectorOp i op rd (.s r) (.s r') c) s (s.illegal i g)) ∧
    (∀ op rd a b, g.blocks (sNeed (rd :: (a.regs ++ b.regs))) = false → a.ok = true → b.ok = true → rd < 64 →
      Effect (.scalarOp i op rd a b) s ((w.onGroup i fun h => h.putS rd (scalarResult op (g.ssrc a) (g.ssrc b))).advanced i g)) ∧
    (∀ op rd a b, g.blocks (sNeed (rd :: (a.regs ++ b.regs))) = false → a.ok = false ∨ b.ok = false ∨ 64 ≤ rd →
      Effect (.scalarOp i op rd a b) s (s.illegal i g)) ∧
    (∀ sr rd, g.blocks (sNeed [rd, rd + 1]) = false → rd < 64 → let v := w.sregVal i g g.active (((bitsSet 32 g.active.toNat).head?).getD 0) sr
      ((w.sregVal i g g.active 0 sr).2 = false → Effect (.movs i sr true rd) s ((w.onGroup i fun h => h.putS rd v.1).advanced i g)) ∧
      ((w.sregVal i g g.active 0 sr).2 = true → rd % 2 = 0 → Effect (.movs i sr true rd) s
        ((w.onGroup i fun h => (h.putS rd (v.1 % 2 ^ 32)).putS (rd + 1) (v.1 / 2 ^ 32)).advanced i g))) ∧
    (∀ sr rd, g.blocks (vNeed [rd, rd + 1]) = false →
      ((w.sregVal i g g.active 0 sr).2 = false → g.regOk rd 4 = true → Effect (.movs i sr false rd) s
        (each fun h t => h.putWide rd t (w.sregVal i g g.active t sr).1 1)) ∧
      ((w.sregVal i g g.active 0 sr).2 = true → g.regOk rd 8 = true → Effect (.movs i sr false rd) s
        (each fun h t => h.putWide rd t (w.sregVal i g g.active t sr).1 2))) ∧
    (∀ f rd ra, g.blocks (vNeed [rd, ra]) = false → g.regOk rd 4 = true → g.regOk ra 4 = true → f = .bf16 ∨ f = .e4m3 ∨ f = .e5m2 →
      Effect (.cvt i (.toF f) rd ra) s (each fun h t => h.putV rd t (f.round (Fmt.fp32.decode (g.v ra t)))) ∧
      Effect (.cvt i (.fromF f) rd ra) s (each fun h t => h.putV rd t (Fmt.fp32.round (f.decode (g.v ra t % 2 ^ f.bits))))) ∧
    (∀ f rd ra, g.blocks (vNeed [rd, rd + 1, ra]) = false → g.regOk rd 4 = true → g.regOk (rd + 1) 4 = true → g.regOk ra 4 = true →
      f = .pb8 ∨ f = .pb4 →
      (let b := toBlock f ((List.range 32).map fun t => if (i.acts g).getLsbD t then g.v ra t else 0)
       Effect (.cvtPb i f rd ra) s (each fun h t => (h.putV rd t ((b.1[t]?).getD 0)).putV (rd + 1) t b.2)))

/-- Parts of 07 R298, R301-R304, R323, 08 R337, 09 Table 09-6: the control instructions. A branch sends the threads whose condition holds to
the target and the others on; a target outside the code or off its grain is ILLEGAL; YIELD and the escape after 4,096 issues give the
waiting threads the active set; BAR.G fences and holds threads until every live one has come; EXIT ends threads, and with the last one,
the group's accesses being performed, the group (that it waits for them is log entry 124). A group that may not issue, whose turn it is
not, and an escape that is not due, change nothing; a malformed encoding is ILLEGAL, and its trap waits for the results of earlier
instructions. An instruction that issues is the quarter's last. -/
def Obligations.ControlMovesThreads : Prop :=
  (∀ (s : State) (i : GIns) (g : Group), Issues s i g →
    let w := s.issuing i g
    let pc := g.activePc
    let inCode (t : Int) : Prop := t % 8 = 0 ∧ 0 ≤ (pc : Int) + t ∧ (pc : Int) + t < (w.codeLen g.part : Int)
    let goes (take : BitVec 32) (t : Int) : State := (w.onGroup i fun h =>
      (h.setPc take fun _ => ((pc : Int) + t).toNat).setPc (g.active &&& ~~~ take) fun x => x + i.len).issuedBy i g
    (∀ t, inCode t → Effect (.branch i .always t) s (goes (i.acts g) t)) ∧
    (∀ p t, p < 8 → inCode t → Effect (.branch i (.pred p false) t) s (goes (i.acts g &&& Table.at g.pred p 0) t) ∧
      Effect (.branch i (.pred p true) t) s (goes (i.acts g &&& ~~~ Table.at g.pred p 0) t)) ∧
    (∀ r t, g.blocks (sNeed [r]) = false → r < 64 → inCode t →
      Effect (.branch i (.scalar r) t) s (goes (if g.s r = 0 then 0 else i.acts g) t)) ∧
    (∀ c t, g.blocks (sNeed c.regs) = false → ¬ inCode t → Effect (.branch i c t) s (s.illegal i g)) ∧
    Effect (.yieldOp i) s ((w.onGroup i fun h =>
      { (h.setPc g.active fun x => x + i.len) with last := g.active }.takeEscape).slotIssued i) ∧
    Effect (.barG i) s (((w.acquire i.mould).onGroup i fun h =>
      { (h.setPc g.active fun x => x + i.len) with barrier := h.barrier ||| i.acts g }.barrierCheck).issuedBy i g) ∧
    (g.live &&& ~~~ i.acts g ≠ 0 → Effect (.exit i) s ((w.onGroup i fun h =>
      { (h.setPc (g.active &&& ~~~ i.acts g) fun x => x + i.len) with live := g.live &&& ~~~ i.acts g }.barrierCheck).issuedBy i g)) ∧
    (g.live &&& ~~~ i.acts g = 0 → g.settled = true →
      Effect (.exit i) s ((((w.freeGroup i.mould i.quarter i.slot false).updSheet g.ring g.subIndex fun h =>
        { h with ended := h.ended + 1 }).sheetCheck g.ring g.subIndex).issuedBy i g)) ∧
    (g.live &&& ~~~ i.acts g = 0 → g.settled = false → Effect (.exit i) s s)) ∧
  (∀ (s : State) (m q k : Nat) (g : Group), m < 16 → q < 4 → k < 16 → s.groupAt m q k = some g → 4096 ≤ g.starve → g.escape = none →
    Effect (.starvationEscape m q k) s (s.updGroup m q k Group.takeEscape)) ∧
  (∀ (s : State) (m q k : Nat), m < 16 → q < 4 → k < 16 → s.groupAt m q k = none → Effect (.starvationEscape m q k) s s) ∧
  (∀ (s : State) (i : GIns), i.mould < 16 → i.quarter < 4 → i.slot < 16 → s.ready i = none →
    ∀ c ∈ [.yieldOp i, .barG i, .exit i, .mwait i 0, .fenceP i, .brk i], Effect c s s) ∧
  (∀ (s : State) (i : GIns) (k : Nat), i.mould < 16 → i.quarter < 4 → i.slot < 16 →
    (s.canIssue i.mould i.quarter k).isSome = true → k < 16 → i.held.getLsbD k = false → k ≠ i.slot →
    (k + 16 - (s.quarterAt i.mould i.quarter).lastSlot - 1) % 16 < (i.slot + 16 - (s.quarterAt i.mould i.quarter).lastSlot - 1) % 16 →
    (s.quarterAt i.mould i.quarter).lastSlot < 16 → ∀ c ∈ [.yieldOp i, .barG i, .exit i, .fenceP i, .brk i], Effect c s s) ∧
  (∀ (s : State) (i : GIns) (g0 : Group), i.mould < 16 → i.quarter < 4 → i.slot < 16 → i.errors = [] → s.ready i = some g0 →
    i.malformed = true → ∀ c ∈ [.yieldOp i, .barG i, .exit i, .brk i], Effect c s (s.illegal i g0.escaping))

/-- Parts of 07 R305, R306: registers read back what was written to them, and a write changes nothing else: one lane of a vector register, one
scalar register, the program counters of the threads of a mask. -/
def Obligations.RegistersReadBack : Prop :=
  (∀ (g : Group) (r t x : Nat), r < g.vreg.length → t < 32 →
    (g.putV r t x).v r t = x % 2 ^ 32 ∧ (∀ r' t', (r' ≠ r ∨ t' ≠ t) → (g.putV r t x).v r' t' = g.v r' t') ∧
    (g.putV r t x).vreg.length = g.vreg.length ∧ g.putV r t x = { g with vreg := (g.putV r t x).vreg }) ∧
  (∀ (g : Group) (r x : Nat), r < 64 →
    (g.putS r x).s r = x % 2 ^ 32 ∧ (∀ r', r' ≠ r → (g.putS r x).s r' = g.s r') ∧ g.putS r x = { g with sreg := (g.putS r x).sreg }) ∧
  (∀ (g : Group) (m : BitVec 32) (f : Nat → Nat) (t : Nat), t < 32 →
    (g.setPc m f).pcOf t = (if m.getLsbD t = true then f (g.pcOf t) else g.pcOf t) ∧ g.setPc m f = { g with pc := (g.setPc m f).pc }) ∧
  (∀ (g : Group) (r t n x : Nat), r + n ≤ g.vreg.length → t < 32 → (g.putWide r t x n).vWide r t n = x % 2 ^ (32 * n))

/-- Parts of 08 R355-R358, Tables 08-6, 08-7: the wide accumulators. WACQ waits for one in order and takes it zeroed; WZERO, WADD, WSUB and
WRED act on its lanes, exactly; WRD, WRD2 and WFLG read lanes out; WST, WLD and WADDW move the 32 lane images to and from scratch; WREL
gives it back. A handle that the group does not hold is ILLEGAL, a second WACQ of one traps 0x0B, and a block off 64 bytes or beyond the
window traps; one whose vector register awaits a result does not issue (07 R297). -/
def Obligations.WideAccumulatorsAct : Prop :=
  ∀ (s : State) (i : GIns) (g : Group), Issues s i g →
    let w := s.issuing i g
    let each (F : Group → Nat → Group) : State := (w.onGroup i fun h => (bitsSet 32 (i.acts g).toNat).foldl F h).advanced i g
    let act := i.acts g
    (∀ h, h < 4 → g.wideOf h = none → Effect (.wacq i h) s (((w.onGroup i fun x => { x with wait := .wide h }).updQuarter i.mould i.quarter
      fun x => { x with wideQ := x.wideQ ++ [(i.slot, h)] }.serveWides 16).advanced i g)) ∧
    (∀ h, 4 ≤ h ∨ (g.wideOf h).isSome = true → Effect (.wacq i h) s (s.faults i g 0xB g.active 0 false)) ∧
    (∀ h a, g.blocks (vNeed [a, a]) = false → g.blocks (vNeed [a]) = false → g.wideOf h = none → ∀ c ∈
      [.wzero i h, .wadd i h a, .wsub i h a, .wred i h, .wrd i h a, .wrd2 i h a a, .wflg i h a, .wst i h a,
      .wld i h a, .waddw i h a, .wrel i h], Effect c s (s.illegal i g)) ∧
    (∀ h a, g.blocks (vNeed [a]) = true → ∀ c ∈ [.wadd i h a, .wsub i h a, .wrd i h a, .wflg i h a], Effect c s s) ∧
    (∀ h n, g.wideOf h = some n →
      let lane (t : Nat) : Lane := Table.at (w.wideAt i n).lanes t {}
      Effect (.wzero i h) s ((w.updWide i n fun x => x.onLanes act fun _ _ => {}).advanced i g) ∧
      (∀ ra, g.blocks (vNeed [ra]) = false → g.regOk ra 4 = true →
        Effect (.wadd i h ra) s ((w.updWide i n fun x => x.onLanes act fun t l => l.term (Fmt.fp32.decode (g.v ra t))).advanced i g) ∧
        Effect (.wsub i h ra) s ((w.updWide i n fun x => x.onLanes act fun t l => l.term (Fmt.fp32.decode (g.v ra t)).neg).advanced i g)) ∧
      Effect (.wred i h) s ((w.updWide i n fun x =>
        { x with lanes := x.lanes.mapIdx fun t (_ : Lane) => if t = 0 then x.reduce else {} }).advanced i g) ∧
      (∀ rd, g.blocks (vNeed [rd]) = false → g.regOk rd 4 = true → Effect (.wrd i h rd) s (each fun x t => x.putV rd t (lane t).readOut.1) ∧
        Effect (.wflg i h rd) s (each fun x t => x.putV rd t (lane t).flags)) ∧
      (∀ rd rd2, g.blocks (vNeed [rd, rd2]) = false → g.regOk rd 4 = true → g.regOk rd2 4 = true →
        Effect (.wrd2 i h rd rd2) s (each fun x t => (x.putV rd t (lane t).readOut.1).putV rd2 t (lane t).readOut.2)) ∧
      (∀ off, off % 64 = 0 → off + 1792 ≤ g.window →
        Effect (.wst i h off) s ((w.scratchWrite i g off ((w.wideAt i n).lanes.toList.flatMap Lane.image)).advanced i g) ∧
        (∀ l, w.lanesAt i g off = some l →
          Effect (.wld i h off) s ((w.updWide i n fun x =>
            { x with lanes := x.lanes.mapIdx fun t (_ : Lane) => (l[t]?).getD {} }).advanced i g) ∧
          Effect (.waddw i h off) s ((w.updWide i n fun x =>
            { x with lanes := x.lanes.mapIdx fun t (y : Lane) => y.merge ((l[t]?).getD {}) }).advanced i g)) ∧
        (w.lanesAt i g off = none → Effect (.wld i h off) s (s.illegal i g) ∧ Effect (.waddw i h off) s (s.illegal i g))) ∧
      (∀ off, off % 64 ≠ 0 → Effect (.wst i h off) s (s.faults i g 2 g.active off false)) ∧
      (∀ off, off % 64 = 0 → g.window < off + 1792 → Effect (.wst i h off) s (s.faults i g 3 g.active off false)) ∧
      Effect (.wrel i h) s (((w.onGroup i fun x => { x with wides := Table.put x.wides h none }).updQuarter i.mould i.quarter fun x =>
        { x with wides := Table.upd x.wides n fun (y : Wide) => { y with holder := none } }.serveWides 16).advanced i g))

/-- Parts of 07 R309-R312, R316, Tables 07-4, 07-5, 08 R352-R354: tiles, the matrix unit and bulk copies. MACQ waits for a tile in order;
MZERO, MLD, MMA and MST queue behind what the unit runs, where their operands lie in scratch as R310 asks, and act when they end; MWAIT
waits for the handle's instructions, MREL gives the tile back in its turn; a unit that is full issues nothing; a group without the matrix
entry, a handle that is not held and an operand out of its range are ILLEGAL. MCOPY starts a copy, or waits behind eight; CWAIT waits until
at most n are outstanding, and takes the trap of a copy that it covers; copies end in order. -/
def Obligations.MatrixAndCopiesAct : Prop :=
  (∀ (s : State) (i : GIns) (g : Group), Issues s i g →
    let w := s.issuing i g
    let illegal := s.illegal i g
    let queued (h t : Nat) (op : MatOp) : State := (w.updQuarter i.mould i.quarter fun x =>
      { x with matrix := x.matrix ++ [{ slot := i.slot, handle := h, tile := t, op := op }] }).advanced i g
    (∀ h, h < 2 → w.matRoom i = true → g.matrix = true → Table.at g.tiles h none = none → Effect (.macq i h) s
      (((w.onGroup i fun x => { x with wait := .tile h }).updQuarter i.mould i.quarter fun x =>
        { x with tileQ := x.tileQ ++ [(i.slot, h)] }.serveTiles 4).advanced i g)) ∧
    (∀ h, 2 ≤ h → w.matRoom i = true → g.matrix = true → Effect (.macq i h) s (s.faults i g 0xB g.active 0 false)) ∧
    (∀ h, w.matRoom i = true → g.matrix = false ∨ h < 2 ∧ (Table.at g.tiles h none).isSome = true → Effect (.macq i h) s illegal) ∧
    (∀ h t, g.matrix = true → Table.at g.tiles h none = some t → w.matRoom i = true →
      Effect (.mzero i h) s (queued h t .zero) ∧
      (∀ off, g.tileOk off 65536 = true → Effect (.mld i h off) s (queued h t (.load off))) ∧
      (∀ off, g.tileOk off 65536 = false → Effect (.mld i h off) s illegal) ∧
      (∀ fa fb a b k e, mmaFmts fa fb = true → 32 ≤ k → k ≤ 8192 → k % 32 = 0 → g.tileOk a (aBytes fa k) = true →
        g.tileOk b (k * fb.line) = true → (if fb.block = true then g.tileOk e (128 * (k / 32)) = true else e = 0) →
        Effect (.mma i h fa fb a b k e) s (queued h t (.mma fa fb a b k e))) ∧
      (∀ fa fb a b k e, mmaFmts fa fb = false ∨ k < 32 ∨ 8192 < k ∨ k % 32 ≠ 0 → Effect (.mma i h fa fb a b k e) s illegal) ∧
      (∀ f off, f.block = false → g.tileOk off (128 * f.line) = true → Effect (.mst i h f off) s (queued h t (.store f off))) ∧
      Effect (.mrel i h) s (((w.onGroup i fun x => { x with tiles := Table.put x.tiles h none }).updQuarter i.mould i.quarter fun x =>
        { x with matrix := x.matrix ++ [{ slot := i.slot, handle := h, tile := t, op := .rel }] }).advanced i g)) ∧
    (∀ h, g.matrix = false ∨ Table.at g.tiles h none = none → w.matRoom i = true →
      ∀ c ∈ [.mzero i h, .mwait i h, .mrel i h, .mld i h 0], Effect c s illegal) ∧
    (∀ h, w.matRoom i = false → ∀ c ∈ [.macq i h, .mzero i h, .mwait i h, .mrel i h, .mld i h 0], Effect c s s) ∧
    (∀ h t, w.matRoom i = true → g.matrix = true → Table.at g.tiles h none = some t →
      (w.quarterAt i.mould i.quarter).matPending i.slot h = true →
      Effect (.mwait i h) s ((w.onGroup i fun x => { x with wait := .matrix h }).advanced i g)) ∧
    (∀ h t, w.matRoom i = true → g.matrix = true → Table.at g.tiles h none = some t →
      (w.quarterAt i.mould i.quarter).matPending i.slot h = false →
      Effect (.mwait i h) s (w.advanced i g)) ∧
    (let copy (sc : Bool) (off va len : Nat) : Copy :=
       { toScratch := sc, scratch := off, va := va, len := len, pc := g.activePc }
     (∀ sc off va len, g.acq = false → len ≠ 0 → len ≤ 2 ^ 20 → len % 64 = 0 → g.copies.length < 8 →
       Effect (.mcopy i sc off va len) s ((w.copyStart i g (copy sc off va len)).advanced i g)) ∧
     (∀ sc off va len, g.acq = false → len ≠ 0 → len ≤ 2 ^ 20 → len % 64 = 0 → 8 ≤ g.copies.length →
       Effect (.mcopy i sc off va len) s ((w.onGroup i fun x => { x with wait := .copySlot (copy sc off va len) }).advanced i g)) ∧
     (∀ sc off va len, g.acq = false → len = 0 ∨ 2 ^ 20 < len ∨ len % 64 ≠ 0 → Effect (.mcopy i sc off va len) s illegal) ∧
     (∀ sc off va len, g.acq = true → Effect (.mcopy i sc off va len) s s))) ∧
  (∀ (s : State) (i : GIns) (g : Group), Issues s i g →
    (∀ n, g.coveredFault n = none → g.copies.length ≤ n → Effect (.cwait i n) s ((s.issuing i g).advanced i g)) ∧
    (∀ n, g.coveredFault n = none → n < g.copies.length → Effect (.cwait i n) s
      (((s.issuing i g).onGroup i fun x => { x with wait := .copies n i.len i.raw g.active }).issuedBy i g)) ∧
    (∀ n c, g.coveredFault n = some c → g.landed = true → i.acts g ≠ 0 → Effect (.cwait i n) s
      (((s.issuing i g).slotIssued i).copyTrap i.mould i.quarter i.slot g c i.raw (i.acts g)))) ∧
  (∀ (s : State) (m q : Nat), m < 16 → q < 4 → (s.quarterAt m q).matrix = [] → Effect (.matrixOpDone m q) s s) ∧
  (∀ (s : State) (m q : Nat) (e : MatEntry) (rest : List MatEntry), m < 16 → q < 4 → (s.quarterAt m q).matrix = e :: rest → e.tile < 4 →
    e.op ≠ .rel → (Table.at (s.quarterAt m q).tiles e.tile {}).holder ≠ none → ∃ u : State, Effect (.matrixOpDone m q) s u ∧ (u.quarterAt m q).matrix = rest ∧
      (let r := matEffect e.op (fun off => ((s.groupAt m q e.slot).map (·.phys off)).getD off) (Table.at (s.quarterAt m q).tiles e.tile {}) (s.mouldAt m).scratch
       (Table.at (u.quarterAt m q).tiles e.tile {}).data = r.1.data ∧ (u.mouldAt m).scratch = r.2) ∧
      (∀ n, n ≠ m → u.mouldAt n = s.mouldAt n) ∧ u = { s with mould := u.mould }) ∧
  (∀ (s : State) (m q : Nat) (e : MatEntry) (rest : List MatEntry), m < 16 → q < 4 → (s.quarterAt m q).matrix = e :: rest → e.tile < 4 →
    e.op = .rel → (s.quarterAt m q).tileQ = [] → ∃ u : State, Effect (.matrixOpDone m q) s u ∧ (u.quarterAt m q).matrix = rest ∧
      (Table.at (u.quarterAt m q).tiles e.tile {}).holder = none ∧ u = { s with mould := u.mould }) ∧
  (∀ (s : State) (m q k : Nat) (g : Group), m < 16 → q < 4 → k < 16 → s.groupAt m q k = some g → g.copies = [] →
    Effect (.copyDone m q k) s s) ∧
  (∀ (s : State) (m q k : Nat) (g : Group) (c : Copy) (rest : List Copy) (va : Nat), m < 16 → q < 4 → k < 16 →
    s.groupAt m q k = some g → g.copies = c :: rest → c.fault = none → c.pending = 0 → s.placeOf c.va = .local_ va →
    (s.copyMove m g c 0 18).1 = none →
    Effect (.copyDone m q k) s (((s.copyMove m g c 0 18).2.updGroup m q k fun x => { x with copies := rest }).copyWake m q k)) ∧
  (∀ (s : State) (m q k : Nat) (g : Group) (c : Copy) (rest : List Copy) (pos va : Nat), m < 16 → q < 4 → k < 16 →
    s.groupAt m q k = some g → g.copies = c :: rest → c.fault = none → c.pending = 0 → s.placeOf c.va = .remote pos va →
    Effect (.copyDone m q k) s ((s.updGroup m q k fun x => { x with copies := rest }).copyWake m q k))

/-- Parts of 07 R313-R315, 08 R333, R334, 09 R381, R386-R392, Table 09-6: loads, stores and atomics translate and check every element before
anything is read or written; the fault of the lowest kind traps, uncorrectable data in a table faults the partition, and an instruction
whose registers do not exist is ILLEGAL. For one thread: a load of scratch or of memory lands in its lane, a store and an atomic reach the
address that the meaning computes. LD.ACQ and the fences end with an acquire, ST.REL is a store that waits for the answers to earlier
remote accesses, as FENCE.R does. What awaits a result, or an acquire that is outstanding, does not issue (07 R297). -/
def Obligations.LoadsAndStoresAct : Prop :=
  ∀ (s : State) (i : GIns) (g : Group), Issues s i g →
    let w := s.issuing i g
    let act := i.acts g
    let bits (t : Nat) : BitVec 32 := BitVec.ofNat 32 (maskOf [t])
    (∀ op, g.blocks (memNeed op) = false → g.memLegal op = true →
      let r := w.targets i g false op act
      (r.1.any (fun e => e.2.2 == .table) = false → firstFault (r.1.filterMap (r.2.elemFault true)) = none →
        Effect (.load i op) s ((r.2.loadBody i g op false r.1).advanced i g) ∧
        (farSectors r.1 = [] → Effect (.ldAcq i op) s (((r.2.loadBody i g op true r.1).acquire i.mould).advanced i g))) ∧
      (r.1.any (fun e => e.2.2 == .table) = true → Effect (.load i op) s ((r.2.partFault g.part 1).issuedBy i g)) ∧
      (∀ k m a p, r.1.any (fun e => e.2.2 == .table) = false → firstFault (r.1.filterMap (r.2.elemFault true)) = some (.trap k m a p) →
        g.landed = true → act ≠ 0 →
        Effect (.load i op) s ((r.2.slotIssued i).trapTake i g k (m &&& act) a p (r.1.map fun e => e.2.1)))) ∧
    (∀ op, g.blocks (memNeed op) = true → ∀ c ∈ [.load i op, .ldAcq i op, .store i op, .stRel i op], Effect c s s) ∧
    (∀ op, g.blocks (memNeed op) = false → g.memLegal op = true →
      let r := w.targets i g true op act
      (r.1.any (fun e => e.2.2 == .table) = false → firstFault (r.1.filterMap (r.2.elemFault false)) = none →
        Effect (.store i op) s ((r.2.storeBody i g op r.1).advanced i g) ∧
        (g.pending = [] → Effect (.stRel i op) s ((r.2.storeBody i g op r.1).advanced i g)))) ∧
    (∀ op, g.blocks (memNeed op) = false → g.memLegal op = false → Effect (.load i op) s (s.illegal i g) ∧
      Effect (.store i op) s (s.illegal i g)) ∧
    (∀ op, g.blocks (atomNeed op) = false → g.atomLegal op = false → Effect (.atomicInstr i op) s (s.illegal i g)) ∧
    (∀ op, g.blocks (atomNeed op) = false → g.atomLegal op = true → g.memLegal op.mem = true →
      let r := w.targets i g true op.mem act
      r.1.any (fun e => e.2.2 == .table) = false → firstFault (r.1.filterMap (r.2.elemFault true)) = none →
        Effect (.atomicInstr i op) s ((r.2.atomBody i g op r.1).advanced i g)) ∧
    Effect (.fenceP i) s ((w.acquire i.mould).advanced i g) ∧ (g.pending = [] → Effect (.fenceR i) s ((w.acquire i.mould).advanced i g)) ∧
    (g.pending ≠ [] → Effect (.fenceR i) s s ∧ ∀ op, Effect (.stRel i op) s s) ∧
    (∀ op t, g.blocks (memNeed op) = false → g.memLegal op = true → bitsSet 32 act.toNat = [t] →
      let a := g.memAddr op t
      let x := leBytes op.size (g.vWide op.rd t (regsOf op.size))
      (a % op.size ≠ 0 → g.landed = true → Effect (.load i op) s ((w.slotIssued i).trapTake i g 2 (bits t &&& act) a false [a]) ∧
        Effect (.store i op) s ((w.slotIssued i).trapTake i g 2 (bits t &&& act) a false [a])) ∧
      (op.scratch = true → a % op.size = 0 → g.window < a + op.size → g.landed = true →
        Effect (.load i op) s ((w.slotIssued i).trapTake i g 3 (bits t &&& act) a false [a]) ∧
        Effect (.store i op) s ((w.slotIssued i).trapTake i g 3 (bits t &&& act) a false [a])) ∧
      (op.scratch = true → a % op.size = 0 → a + op.size ≤ g.window →
        Effect (.load i op) s ((w.onGroup i fun h =>
          h.putWide op.rd t (extendTo op.size op.signed (leNat (w.scratchRead i g a op.size))) (regsOf op.size)).advanced i g) ∧
        Effect (.store i op) s ((w.scratchWrite i g a x).advanced i g)) ∧
      (∀ va ppa wr ok w1 d, op.scratch = false → a % op.size = 0 → w.placeOf a = .local_ va →
        w.xlate i.mould g.part va = (.leaf ppa wr ok, w1) → (w1.partAt g.part).dpa (ppa + va % 65536) = some d →
        (w1.isPoisoned (d / 64) = false → (w1.mouldAt i.mould).lcache.find? (fun l => l.1 == d / 64) = none →
          Effect (.load i op) s (((w1.updMould i.mould fun m =>
              { m with lcache := (d / 64, w1.memRead (64 * (d / 64)) 64) :: m.lcache.filter fun l => l.1 != d / 64 }).onGroup i fun h =>
            h.putWide op.rd t (extendTo op.size op.signed (fld (w1.memRead (64 * (d / 64)) 64) (d % 64) op.size))
              (regsOf op.size)).advanced i g)) ∧
        (wr = true → (w1.partAt g.part).inImage d = false → Effect (.store i op) s ((w1.storeThrough i.mould d x).advanced i g)) ∧
        (wr = false ∨ (w1.partAt g.part).inImage d = true → g.landed = true →
          Effect (.store i op) s ((w1.slotIssued i).trapTake i g 4 (bits t &&& act) a false [a]))))

/-- Parts of 09 R377, R378, R383, R384, R399, Tables 09-4, 09-9: what a host does in BAR2. A write to a ROOT register changes it and queues
an invalidation of everything, RNG_XLT_INV_CMD one of what it names, a command that names nothing and a seventeenth are counted; parked
groups that a queued one covers translate again; the head of the queue ends with every translation that it covers, of pages and of tables;
TLY_SIGn adds to a tally that the partition holds; an access reaches the partition's memory, and one that reaches none reads 0 and is
counted. -/
def Obligations.HostReachesItsPartition : Prop :=
  (∀ (s : State) (vf : Nat), 1 ≤ vf → vf ≤ 16 → s.vfUp vf = true → (s.partAt (vf - 1)).state ≠ .none →
    let p := vf - 1
    let x := s.partAt p
    let all : Inval := { all := true, vpn := 0, count := 0 }
    (∀ v : Reg32, Effect (.xltRootWrite vf false v) s ((s.updPart p fun x =>
      { x with xltRoot := x.xltRoot / 2 ^ 20 * 2 ^ 20 + bitsOf v.toNat 31 12, xltEn := bitOf v.toNat 0 }).invalidate p all)) ∧
    (∀ v : Reg32, Effect (.xltRootWrite vf true v) s ((s.updPart p fun x =>
      { x with xltRoot := x.xltRoot % 2 ^ 20 + v.toNat % 65536 * 2 ^ 20 }).invalidate p all)) ∧
    (∀ v : Reg32, bitOf v.toNat 31 = true → (let q : Inval := { all := true, vpn := x.invVa, count := v.toNat % 65536 }
      Effect (.xltInvAll vf v) s (s.invalidate p q))) ∧
    (∀ v : Reg32, bitOf v.toNat 31 = false → v.toNat % 65536 ≠ 0 →
      (let q : Inval := { all := false, vpn := x.invVa, count := v.toNat % 65536 }
       Effect (.xltInvRange vf v) s (s.invalidate p q))) ∧
    (∀ v : Reg32, bitOf v.toNat 31 = false → v.toNat % 65536 = 0 → Effect (.xltInvRange vf v) s
      (s.updPart p fun x => { x with invLost := satInc 32 x.invLost })) ∧
    (∀ (t : Nat) (v : Reg32), t < 512 → s.holdsTally p t = true →
      Effect (.tlySigWrite vf t v) s (s.tallyPut t ((s.tallyVal t + v.toNat) % 2 ^ 32))) ∧
    (∀ (t : Nat) (v : Reg32), t < 512 → s.holdsTally p t = false → Effect (.tlySigWrite vf t v) s s) ∧
    (∀ a d b len, a < 0x3FFFFF0000 → x.dpa a = some d → x.inImage d = false →
      Effect (.bar2Access vf a (some b) len) s (s.memWrite d b)) ∧
    (∀ a d len, a < 0x3FFFFF0000 → x.dpa a = some d → s.mem.poisoned = [] →
      Effect (.bar2Access vf a none len) s (s.emit (.readData vf a (leNat (s.memRead d len))))) ∧
    (∀ a len, a < 0x3FFFFF0000 → x.dpa a = none →
      Effect (.bar2Access vf a none len) s ((s.updPart p fun x => { x with barMiss := satInc 32 x.barMiss }).emit (.readData vf a 0)))) ∧
  (∀ (s : State) (p : Nat) (q : Inval),
    ((s.partAt p).invQ.length < 16 →
      s.invalidate p q = (s.updPart p fun x => if x.invQ.length < 16 then { x with invQ := x.invQ ++ [q] } else
        { x with invLost := satInc 32 x.invLost }).unparkCovered p q) ∧
    (16 ≤ (s.partAt p).invQ.length → p < 16 → (s.invalidate p q).partAt p =
      { s.partAt p with invLost := satInc 32 (s.partAt p).invLost } ∧ s.invalidate p q = { s with part := (s.invalidate p q).part })) ∧
  (∀ (s : State) (vf : Nat), 1 ≤ vf → vf ≤ 16 → s.vfUp vf = true → (s.partAt (vf - 1)).state = .none → ∀ v : Reg32,
    Effect (.xltInvAll vf v) s (s.updPart (vf - 1) fun x => { x with barMiss := satInc 32 x.barMiss })) ∧
  (∀ (s : State) (vf : Nat), vf < 17 → s.vfUp vf = false → ∀ v : Reg32, Effect (.xltRootWrite vf false v) s s ∧
    Effect (.xltInvAll vf v) s s ∧ Effect (.tlySigWrite vf 0 v) s s) ∧
  (∀ (s : State) (p : Nat), p < 16 → (s.partAt p).invQ = [] → Effect (.invalidationDone p) s s) ∧
  (∀ (s : State) (p : Nat) (v : Inval) (rest : List Inval), p < 16 → (s.partAt p).invQ = v :: rest →
    (∀ m, m < 16 → s.residents m = []) → ∃ u : State, Effect (.invalidationDone p) s u ∧
    u.partAt p = { s.partAt p with invQ := rest, invDone := ((s.partAt p).invDone + 1) % 65536 } ∧
    (∀ m, m < 16 → u.mouldAt m = { s.mouldAt m with xlt := (s.mouldAt m).xlt.filter fun e => !(e.part == p && v.coversEntry e) }) ∧
    (∀ q, q ≠ p → u.partAt q = s.partAt q) ∧ u = { s with part := u.part, mould := u.mould })

/-- Parts of 08 R332-R345, Tables 08-2, 08-3: traps. Taking one writes the save slot; inside a handler it is a double fault, a replayable
page parks the group, no handler and a bad stack kill it, and otherwise every thread goes on at the handler. BRK raises BREAK for the
threads that execute it, once earlier results have landed; TRAPLD reads the slot, TRAPST writes the fields that a handler may, TRAPSET sets
the handler, TRAPRET restores the slot and TRAPKILL ends the group; a parked group whose pages are there goes on, and one whose park has
lasted too long is killed. -/
def Obligations.TrapsAreTakenAndReturned : Prop :=
  (∀ (s : State) (i : GIns) (g : Group), Issues s i g →
    let w := s.issuing i g
    let illegal := s.illegal i g
    Effect (.brk i) s (s.faults i g 7 (i.acts g) 0 false) ∧
    (∀ off rd, g.blocks (sNeed [rd]) = false → off % 4 = 0 → off < 1024 → rd < 64 →
      Effect (.trapld i off rd) s ((w.onGroup i fun h => h.putS rd (g.save.word off % 2 ^ 32)).advanced i g)) ∧
    (∀ off rd, g.blocks (sNeed [rd]) = false → off % 4 ≠ 0 ∨ 1024 ≤ off ∨ 64 ≤ rd → Effect (.trapld i off rd) s illegal) ∧
    (∀ off rs v, g.blocks (sNeed [rs]) = false → g.save.inHandler = true → rs < 64 → g.save.write off (g.s rs) = some v →
      Effect (.trapst i off rs) s ((w.onGroup i fun h => { h with save := v }).advanced i g)) ∧
    (∀ off rs, g.blocks (sNeed [rs]) = false → g.save.inHandler = false ∨ g.save.write off (g.s rs) = none → Effect (.trapst i off rs) s illegal) ∧
    (∀ rs, g.blocks (sNeed [rs]) = false → rs < 64 → g.s rs = 0 ∨ (g.s rs % 8 = 0 ∧ g.s rs < w.codeLen g.part) →
      Effect (.trapset i rs) s ((w.onGroup i fun x => { x with save := { x.save with handler := g.s rs } }).advanced i g)) ∧
    (∀ rs, g.blocks (sNeed [rs]) = false → g.s rs ≠ 0 → g.s rs % 8 ≠ 0 → Effect (.trapset i rs) s illegal) ∧
    (g.blocks (sNeed (List.range 64)) = false → g.save.inHandler = true → Effect (.trapret i false) s ((w.onGroup i fun x =>
      ({ x with
          pc := x.save.pc.map fun (p : Nat) => p
          pred := x.save.pred
          sreg := x.save.sreg
          barrier := x.save.barrier &&& x.live
          escape := none
          starve := 0
          save := { x.save with inHandler := false } } : Group).barrierCheck).issuedBy i g)) ∧
    (∀ code, g.save.inHandler = true →
      Effect (.trapkill i code) s ((w.trapKill i.mould i.quarter i.slot (0x100 + code % 256)).issuedBy i g)) ∧
    (g.blocks (sNeed (List.range 64)) = false → g.save.inHandler = false → ∀ skip, Effect (.trapret i skip) s illegal) ∧
    (g.save.inHandler = false → ∀ code, Effect (.trapkill i code) s illegal)) ∧
  (∀ (s : State) (i : GIns) (g : Group) (kind addr : Nat) (mask : BitVec 32) (replay : Bool),
    let slot : SaveSlot := { g.save with
      kind := kind
      copyFault := false
      parked := false
      faultPc := g.activePc
      faultAddr := addr
      faultMask := mask
      active := g.active
      live := g.live
      barrier := g.barrier
      instr := i.raw
      sp := g.s 63
      pred := g.pred
      pc := g.pc
      sreg := g.sreg }
    let s1 := s.updGroup i.mould i.quarter i.slot fun g => { g with save := slot }
    (g.save.inHandler = true → s.trapTake i g kind mask addr replay = s1.trapKill i.mould i.quarter i.slot 9) ∧
    (g.save.inHandler = false → kind = 5 → replay = true →
      s.trapTake i g kind mask addr replay = s1.park i.mould i.quarter i.slot g addr [addr]) ∧
    (g.save.inHandler = false → kind ≠ 5 ∨ replay = false → g.save.handler = 0 ∨ handlerMay kind = false →
      s.trapTake i g kind mask addr replay = s1.trapKill i.mould i.quarter i.slot kind) ∧
    (g.save.inHandler = false → kind ≠ 5 ∨ replay = false → g.save.handler ≠ 0 → handlerMay kind = true →
      g.s 63 % 16 = 0 → g.scratchBytes < g.s 63 → g.s 63 ≤ g.scratchBytes + g.stackBytes →
      s.trapTake i g kind mask addr replay = s1.updGroup i.mould i.quarter i.slot fun g =>
        { (g.setPc g.live fun _ => g.save.handler) with
          barrier := 0, escape := none, starve := 0, save := { g.save with inHandler := true } })) ∧
  (∀ (s : State) (m q k : Nat) (g : Group), m < 16 → q < 4 → k < 16 → s.groupAt m q k = some g → g.save.parked = true →
    (s.parkedTranslates g = true → Effect (.parkRetranslate m q k) s
      (s.updGroup m q k fun g => { g with parkVas := [], save := { g.save with parked := false } })) ∧
    (s.parkedTranslates g = false → Effect (.parkRetranslate m q k) s s) ∧
    Effect (.parkExpired m q k) s ((s.updGroup m q k fun g => { g with save := { g.save with kind := 0xA } }).trapKill m q k 0xA)) ∧
  (∀ (s : State) (m q k : Nat), m < 16 → q < 4 → k < 16 → s.groupAt m q k = none →
    Effect (.parkRetranslate m q k) s s ∧ Effect (.parkExpired m q k) s s)

/-- Parts of 09 R394-R398: the tally instructions. On a tally of its own a partition reads, adds to and sets the value modulo 2^32, with the
value before where the instruction returns one; on one of another device a request is queued, whose answer the register waits for; a tally
that it may not reach leaves a note on its sheet and reads 0. TWAIT goes on at once where its condition holds and waits otherwise. A wait
past its timeout ends its sheet TIMEOUT, and a waiter that was answered FULL polls.

Parts of 09 R395, R397: a tally holds what was last put into it, modulo 2^32, and no other tally changes; a wait under GE is satisfied when
(value - operand) mod 2^32 < 2^31, and one under EQ when they are equal. -/
def Obligations.TalliesAct : Prop :=
  ((∀ (s : State) (i : GIns) (g : Group), Issues s i g → ∀ t : TallyOp, t.ok = true →
     let w := s.issuing i g
     let x := g.s t.ss
     let waits : Prop := g.blocks (tallyNeed t false false) = false
     (∀ n, w.tallyRef g.part (g.s t.st) = .own n →
       let v := w.tallyVal n
       (g.blocks (tallyNeed t true false) = false →
         Effect (.tld i t) s (((w.onGroup i fun h => h.putS t.sd v).acquire i.mould).advanced i g)) ∧
       (g.blocks (tallyNeed t false true) = false →
         Effect (.tadd i t) s ((w.tallyPut n ((v + x) % 2 ^ 32)).advanced i g) ∧ Effect (.tset i t) s ((w.tallyPut n x).advanced i g)) ∧
       (g.blocks (tallyNeed t true true) = false →
         Effect (.taddr i t) s (((w.onGroup i fun h => h.putS t.sd v).tallyPut n ((v + x) % 2 ^ 32)).advanced i g)) ∧
       (waits → waitHolds false v x = true → Effect (.twaitGe i t) s ((w.acquire i.mould).advanced i g)) ∧
       (waits → waitHolds true v x = true → Effect (.twaitEq i t) s ((w.acquire i.mould).advanced i g)) ∧
       (waits → waitHolds false v x = false → Effect (.twaitGe i t) s ((w.onGroup i fun h =>
         { h with wait := .tally { tally := n, row := none, eq := false, operand := x, polling := false } }).advanced i g)) ∧
       (waits → waitHolds true v x = false → Effect (.twaitEq i t) s ((w.onGroup i fun h =>
         { h with wait := .tally { tally := n, row := none, eq := true, operand := x, polling := false } }).advanced i g))) ∧
     (∀ pos n, w.tallyRef g.part (g.s t.st) = .far pos n →
       let watch (eq : Bool) : State :=
         ((w.request i g.part { w.reqPacket g.part pos 5 n with op := b2n eq, opnd0 := x } .watch).onGroup i fun h =>
           { h with wait := .tally { tally := n, row := some pos, eq := eq, operand := x, polling := false } }).advanced i g
       (g.blocks (tallyNeed t true false) = false → Effect (.tld i t) s ((w.tallyReq i g pos n 0 0 (some t.sd) true).advanced i g)) ∧
       (g.blocks (tallyNeed t false true) = false → Effect (.tadd i t) s ((w.tallyReq i g pos n 1 x none false).advanced i g) ∧
         Effect (.tset i t) s ((w.tallyReq i g pos n 3 x none false).advanced i g)) ∧
       (g.blocks (tallyNeed t true true) = false → Effect (.taddr i t) s ((w.tallyReq i g pos n 2 x (some t.sd) false).advanced i g)) ∧
       (waits → Effect (.twaitGe i t) s (watch false) ∧ Effect (.twaitEq i t) s (watch true))) ∧
     (w.tallyRef g.part (g.s t.st) = .none →
       let denied := (w.tallyDenied g).advanced i g
       let zero := ((w.onGroup i fun h => h.putS t.sd 0).tallyDenied g).advanced i g
       (g.blocks (tallyNeed t true false) = false → Effect (.tld i t) s zero) ∧
       (g.blocks (tallyNeed t false true) = false → Effect (.tadd i t) s denied ∧ Effect (.tset i t) s denied) ∧
       (g.blocks (tallyNeed t true true) = false → Effect (.taddr i t) s zero) ∧
       (waits → Effect (.twaitGe i t) s denied ∧ Effect (.twaitEq i t) s denied)) ∧
     (g.blocks (tallyNeed t true true) = true → Effect (.taddr i t) s s) ∧
     (g.blocks (tallyNeed t false true) = true → Effect (.tadd i t) s s ∧ Effect (.tset i t) s s)) ∧
   (∀ (s : State) (i : GIns) (g : Group), Issues s i g → g.pending = [] → ∀ t : TallyOp, t.ok = false →
     ∀ c ∈ [.tld i t, .tadd i t, .taddr i t, .tset i t, .twaitGe i t, .twaitEq i t],
       Effect c s (s.illegal i g)) ∧
   (∀ (s : State) (m q k : Nat) (g : Group) (x : TallyWait), s.groupAt m q k = some g → g.wait = .tally x →
     Effect (.tallyWaitTimeout (.group m q k)) s ((((s.tallyTimedOut g.part x.tally (if x.row.isNone then s.tallyVal x.tally else 0) x.operand
       g.subIndex).cancelWatch m q k x).updSheet g.ring g.subIndex fun h => { h with timeout := some 2 }).endSheet g.ring g.subIndex)) ∧
   (∀ (s : State) (r sub p : Nat) (h : Sheet), s.sheetAt r sub = some h → s.ringOwner r = some p → h.waitOk = false → h.started = false →
     h.waitTally ≠ 0xFFFF → Effect (.tallyWaitTimeout (.sheet r sub)) s
       (((s.tallyTimedOut p h.waitTally (s.tallyVal h.waitTally) h.waitValue sub).updSheet r sub fun h => { h with timeout := some 2 }).endSheet
         r sub)) ∧
   (∀ (s : State) (m q k : Nat) (g : Group) (x : TallyWait) (pos : Nat), m < 16 → q < 4 → k < 16 → s.groupAt m q k = some g →
     g.wait = .tally x → x.polling = true → x.row = some pos → Effect (.watchFullPoll m q k) s
       (s.request { mould := m, quarter := q, slot := k } g.part (s.reqPacket g.part pos 4 x.tally) (.tally none))) ∧
   (∀ (s : State) (m q k : Nat), m < 16 → q < 4 → k < 16 → s.groupAt m q k = none → Effect (.watchFullPoll m q k) s s)) ∧
  ((∀ (s : State) (n x : Nat), n < 512 → (∀ m, m < 16 → s.residents m = []) → s.tally.watches = [] →
     (s.tallyPut n x).tallyVal n = x % 2 ^ 32 ∧ (∀ k, k ≠ n → (s.tallyPut n x).tallyVal k = s.tallyVal k)) ∧
   (∀ v x, v < 2 ^ 32 → x < 2 ^ 32 → waitHolds false v x = decide ((v - x : Int) % 2 ^ 32 < 2 ^ 31)) ∧
   (∀ v x, waitHolds true v x = decide (v = x)))

/-- 06 R259, 21 R819 in part: on a ring of its partition that is set up, a write to RNG_SUB_PI is taken where both distances are at most
2^L, one to RNG_CPL_CI or RNG_SPILL_CI where it neither passes the producer index nor moves back; each write that is ignored counts in
RNG_BAD_DB and has no other effect. On a ring that is not set up, or not its partition's, a write is ignored and not counted. -/
def Obligations.DoorbellsAreTakenOrCounted : Prop :=
  ∀ (s : State) (vf r : Nat), vf < 17 → r < 64 →
    let x := s.ringAt r
    let counted := s.updRing r fun x => { x with badDb := satInc 32 x.badDb }
    (s.ringOfVf vf r = true → x.setup = true → ∀ v : Reg32,
      (idxSub v.toNat x.subCi ≤ x.size → idxSub v.toNat x.subPi ≤ x.size →
        Effect (.rngSubPiWrite vf r v) s ((s.updRing r fun x => { x with subPi := v.toNat }).ringRefresh r)) ∧
      (x.size < idxSub v.toNat x.subCi ∨ x.size < idxSub v.toNat x.subPi → Effect (.rngSubPiWrite vf r v) s counted) ∧
      (idxSub v.toNat x.cplCi ≤ idxSub x.cplPi x.cplCi →
        Effect (.rngCplCiWrite vf r v) s ((s.updRing r fun x => { x with cplCi := v.toNat }).ringMoved r)) ∧
      (idxSub x.cplPi x.cplCi < idxSub v.toNat x.cplCi → Effect (.rngCplCiWrite vf r v) s counted) ∧
      (idxSub v.toNat x.spillCi ≤ idxSub x.spillPi x.spillCi →
        Effect (.rngSpillCiWrite vf r v) s ((s.updRing r fun x => { x with spillCi := v.toNat }).ringMoved r)) ∧
      (idxSub x.spillPi x.spillCi < idxSub v.toNat x.spillCi → Effect (.rngSpillCiWrite vf r v) s counted)) ∧
    (s.ringOfVf vf r = false ∨ x.setup = false → ∀ v : Reg32, Effect (.rngSubPiWrite vf r v) s s ∧ Effect (.rngCplCiWrite vf r v) s s ∧
      Effect (.rngSpillCiWrite vf r v) s s)

/-- Parts of 06 R260, R261, R267-R269, R277, R278, 20 R791: a sheet is accepted when its ring's intake is on, its partition is Started, the
host can reach the device, it is posted, credit permits and the turn has come to the partition, and RNG_SUB_CI advances past it; an unknown
KIND completes BAD_OPCODE, a malformed sheet BAD_ARG with the offset, one that the partition cannot run with its refusal, and any other
joins its ring; a DMA error of the fetch disables the ring, and one of the completion's write is that of its sheet. The turn goes round the
partitions with a sheet to fetch (their order is log entry 136). Otherwise nothing is accepted. -/
def Obligations.SheetsAreAccepted : Prop :=
  (∀ (s : State) (r p : Nat), r < 64 → s.ringOwner r = some p →
    let x := s.ringAt r
    let s1 := { s with sriov := { s.sriov with lastFetch := p } }
    let joined (h : Sheet) : State :=
      (s1.updRing r fun x => { x with subCi := (x.subCi + 1) % 2 ^ 32, sheets := x.sheets ++ [h] }).ringRefresh r
    (s.fetchTurn = some p → x.intake = true → (s.partAt p).state = .started → s.supply.endpoint = .ready → x.subPi ≠ x.subCi →
      x.outCount < x.outLimit → ∀ (b : List Byte),
      (∀ dma, dma ≠ .fetchError →
      (sheetKind b = none → let h := { (parseSheet b .nop x.subCi s.now).inert with dmaErr := dma == .completionError }
        Effect (.sheetAccept r b dma) s ((joined h).complete r h (.badOpcode, 0, false))) ∧
      (∀ k, sheetKind b = some k →
        let h := { parseSheet b k x.subCi s.now with dmaErr := dma == .completionError }
        (∀ off, sheetFault b k = some off →
          Effect (.sheetAccept r b dma) s ((joined h.inert).complete r h.inert (.badArg, off, false))) ∧
        (∀ v, sheetFault b k = none → s.sheetRefusal p h = some v →
          Effect (.sheetAccept r b dma) s ((joined h).complete r h (v.1, v.2, false))) ∧
        (sheetFault b k = none → s.sheetRefusal p h = none → Effect (.sheetAccept r b dma) s (joined { h with
          waitOk := h.waitTally == 0xFFFF || waitHolds false (s.tallyVal h.waitTally) h.waitValue })))) ∧
      Effect (.sheetAccept r b .fetchError) s ((((s1.updRing r fun x => { x with disabled := true, dmaErr := true }).ringRefresh r).log 0x2001
        (param [(1, 3), (1, (s.partAt p).cause), (2, 0)]) (some p)))) ∧
    (s.fetchTurn ≠ some p ∨ x.intake = false ∨ (s.partAt p).state ≠ .started ∨ s.supply.endpoint ≠ .ready ∨
      x.subPi = x.subCi ∨ x.outLimit ≤ x.outCount →
      ∀ (b : List Byte) (dma : DmaCase), Effect (.sheetAccept r b dma) s s)) ∧
  (∀ (s : State) (p : Nat), p < 16 → (∃ r ∈ (s.partAt p).rings, s.fetchable r p = true) → (∀ q, q < p → s.sriov.lastFetch < q →
    ∀ r ∈ (s.partAt q).rings, s.fetchable r q = false) → s.sriov.lastFetch < p → s.fetchTurn = some p) ∧
  (∀ (s : State) (r : Nat) (b : List Byte) (dma : DmaCase), r < 64 → s.ringOwner r = none → Effect (.sheetAccept r b dma) s s)

/-- Parts of 03 R115, 06 R265, R267, R269-R271, R273, 07 R292-R296: a FENCE completes when the sheets before it have; the KERNEL sheet whose
turn it is starts; its next group becomes resident on the quarter that R294 names, whose Mould runs from then on and acquires; a descriptor
that is not valid ends the sheet; OVERDUE follows the oldest overflow entry, with a record and notice; a sheet past its deadline ends
TIMEOUT; a drain past its deadline becomes an abort. The first dispatch ends the warming load, in RAMP that of its Mould (03 R115). ELAPSED
is the time between two moments whose places in their ticks are free, saturating (log entry 7). -/
def Obligations.SheetsStartAndEnd : Prop :=
  (∀ (s : State) (r sub : Nat) (h : Sheet), r < 64 → s.sheetAt r sub = some h →
    (h.kind = .fence → h.waitOk = true → (s.ringAt r).earlier sub = [] → Effect (.sheetFence r sub) s (s.complete r h h.verdict)) ∧
    (h.kind ≠ .fence ∨ h.waitOk = false ∨ (s.ringAt r).earlier sub ≠ [] → Effect (.sheetFence r sub) s s) ∧
    (h.deadlineUs = 0 → Effect (.sheetDeadline r sub) s s) ∧
    (h.deadlineUs ≠ 0 →
      Effect (.sheetDeadline r sub) s ((s.updSheet r sub fun h => { h with timeout := some 1 }).endSheet r sub))) ∧
  (∀ (s : State) (r sub : Nat), r < 64 → s.sheetAt r sub = none → Effect (.sheetFence r sub) s s ∧ Effect (.sheetDeadline r sub) s s) ∧
  (∀ (s : State) (r sub p : Nat) (h : Sheet), r < 64 → s.ringOwner r = some p → (s.ringAt r).startable = some h →
    (h.subIndex = sub → s.turnOf p = some r → s.dev.state = .serving → Effect (.sheetKernelDispatch r sub) s
      ((s.updSheet r sub fun h => { h with started := true, order := (s.partAt p).starts }).updPart p fun x =>
        { x with lastRing := r, starts := x.starts + 1 })) ∧
    (h.subIndex ≠ sub ∨ s.turnOf p ≠ some r ∨ s.dev.state ≠ .serving → Effect (.sheetKernelDispatch r sub) s s)) ∧
  (∀ (s : State) (r p : Nat) (h : Sheet), r < 64 → s.ringOwner r = some p → s.dispatching p = some (r, h) → s.dev.state = .serving →
    let d := s.descriptor p h
    let counted (t : State) : State := t.updSheet r h.subIndex fun h => { h with dispatched := h.dispatched + 1 }
    (d.2.2.1 = false → Effect (.groupDispatch r h.subIndex) s (s.badDescriptor r p h)) ∧
    (d.2.2.1 = true → s.bestHost (s.hosts p h d.1) = none → Effect (.groupDispatch r h.subIndex) s s) ∧
    (∀ m q k gran, d.2.2.1 = true → s.bestHost (s.hosts p h d.1) = some (m, q, k, gran) →
      let s2 := counted (s.updQuarter m q fun x =>
        { x with slots := Table.put x.slots k (some (newGroup p r h d.1 d.2.1 d.2.2.2 gran)) })
      let s3 : State := { s2 with thm := { s2.thm with
        warming := if s2.rampMode = true then s2.thm.warming &&& ~~~ BitVec.ofNat 16 (2 ^ m) else 0 } }
      ((s3.mouldAt m).state = .running → Effect (.groupDispatch r h.subIndex) s (s3.acquire m)) ∧
      ((s3.mouldAt m).state ≠ .running → Effect (.groupDispatch r h.subIndex) s
        (((s3.updMould m fun x => { x with state := .running }).clockOn m).acquire m)))) ∧
  (∀ (s : State) (r p : Nat) (h : Sheet) (sub r1 : Nat), r < 64 → s.ringOwner r = some p → s.dispatching p = some (r1, h) →
    r1 ≠ r ∨ h.subIndex ≠ sub ∨ s.dev.state ≠ .serving → Effect (.groupDispatch r sub) s s) ∧
  (∀ (s : State) (r : Nat), r < 64 →
    let x := s.ringAt r
    let bound : Nat := if x.drainBound = 0 then 10000 else x.drainBound
    (∀ c rest, x.overflow = c :: rest → x.setup = true → bound * 32768 < (s.now - c.since) * 1000000 → x.overdue = false →
      Effect (.overdueChange r) s ((s.updRing r fun x => { x with overdue := true }).log 0x2002 (param [(1, r)]) (s.ringOwner r) true true)) ∧
    (x.overflow = [] → x.overdue = true →
      Effect (.overdueChange r) s ((s.updRing r fun x => { x with overdue := false }).log 0x2002 (param [(1, r)]) (s.ringOwner r) false true)) ∧
    (x.overflow = [] → x.overdue = false → Effect (.overdueChange r) s s)) ∧
  (∀ (s : State) (p : Nat), p < 16 →
    ((s.partAt p).state = .draining → Effect (.drainDeadline p) s ((s.abortPart p .drainDeadline).answerStop p .aborted)) ∧
    ((s.partAt p).state ≠ .draining → Effect (.drainDeadline p) s s)) ∧
  (∀ (s : State) (since w parts : Nat), 0 < parts →
    let x := (s.elapsed since w parts).1
    let d := s.now - since
    x ≤ 2 ^ w - 1 ∧ x * 32768 ≤ (d + 1) * parts ∧ (x < 2 ^ w - 1 → (d - 1) * parts < (x + 1) * 32768))

/-- Parts of 03 R89, 06 R253, R281, Table 06-13, 07 R327: a Mould with no resident group and no warming load stops its clock; a fault, or a
watchdog where some group of the quarter is ready to issue, removes it: the sheets with groups there stop, and it leaves its partition for
its self-test; a pass returns it to its place in the order of grants, a fail retires it and a free Mould is granted in its place, the last
one being a partition fault (which one is the last is log entry 121). The sweep takes the blocks it has cleared off the marks, and changes
nothing else. -/
def Obligations.MouldsLeaveAndReturn : Prop :=
  (∀ (s : State) (m : Nat), m < 16 →
    ((s.mouldAt m).state = .running → s.residents m = [] → s.thm.warming.getLsbD m = false → Effect (.mouldClockIdleStop m) s
      ((s.updMould m fun x => { x with state := .stopped }).clockOff m)) ∧
    ((s.mouldAt m).state ≠ .running ∨ s.residents m ≠ [] ∨ s.thm.warming.getLsbD m = true → Effect (.mouldClockIdleStop m) s s) ∧
    (∀ c, (s.mouldAt m).state = .selfTest ∨ (s.mouldAt m).state = .retired → Effect (.mouldFault m c) s s) ∧
    (∀ c p, (s.mouldAt m).state ≠ .selfTest → (s.mouldAt m).state ≠ .retired → (s.mouldAt m).part = some p →
      let sheets := (s.residents m).filterMap fun (q, k) => (s.groupAt m q k).map fun g => (g.ring, g.subIndex)
      let s1 := (distinct sheets).foldl (fun (s : State) (y : Nat × Nat) =>
        (s.updSheet y.1 y.2 fun h => { h with stop := some (h.stop.getD .mouldFailure) }).endSheet y.1 y.2) s
      let gone := ((s1.updMould m fun x => { x with state := .selfTest, part := none, removedFrom := x.part, mult := 0 }).updPart p
        fun y => { y with moulds := y.moulds.filter (· != m) }).log 0x2004 (param [(1, m), (1, Config.codeOf 8 0)]) (some p)
      Effect (.mouldFault m c) s gone ∧
      (∀ q, q < 4 → (∃ k, k < 16 ∧ (s.canIssue m q k).isSome = true) →
        Effect (.mouldWatchdog m q) s gone)) ∧
    (∀ q, q < 4 → (∀ k, k < 16 → s.canIssue m q k = none) → Effect (.mouldWatchdog m q) s s) ∧
    (∀ ok, (s.mouldAt m).state ≠ .selfTest → Effect (.mouldSelftestDone m ok) s s)) ∧
  (∀ (s : State) (m p : Nat), m < 16 → (s.mouldAt m).state = .selfTest → (s.mouldAt m).removedFrom = some p → (s.partAt p).state ≠ .none →
    let s0 := s.updMould m fun x => { x with removedFrom := none }
    let back := s0.updMould m fun x => { x with state := .stopped, part := some p, removedFrom := none, mult := 0 }
    Effect (.mouldSelftestDone m true) s ((back.updPart p fun y => { y with moulds := back.byGrant (y.moulds ++ [m]) }).log 0x2004
      (param [(1, m), (1, Config.codeOf 8 1)]) (some p)) ∧
    (let s1 := (s0.updMould m fun x => { x with state := .retired, part := none }).log 0x2004 (param [(1, m), (1, Config.codeOf 8 2)]) (some p)
     (∀ n, (∀ k, k < n → (s1.mouldAt k).state ≠ .free) → n < 16 → (s1.mouldAt n).state = .free →
       let granted := s1.updMould n fun x =>
         { x with state := .stopped, part := some p, removedFrom := none, mult := 0, scratch := [], rank := s1.nextRank }
       Effect (.mouldSelftestDone m false) s ((granted.updPart p fun y => { y with moulds := granted.byGrant (y.moulds ++ [n]) }).log 0x2004
         (param [(1, n), (1, Config.codeOf 8 3)]) (some p))) ∧
     ((∀ k, k < 16 → (s1.mouldAt k).state ≠ .free) → (s1.partAt p).moulds = [] →
       Effect (.mouldSelftestDone m false) s (s1.partFault p 3)) ∧
     ((∀ k, k < 16 → (s1.mouldAt k).state ≠ .free) → (s1.partAt p).moulds ≠ [] → Effect (.mouldSelftestDone m false) s s1))) ∧
  (∀ (s : State) (l : List Nat), (s.byGrant l).Perm l ∧ (s.byGrant l).Pairwise fun a b => (s.mouldAt a).rank ≤ (s.mouldAt b).rank) ∧
  (∀ (s : State) (m : Nat), m < 16 → (s.mouldAt m).rank < s.nextRank) ∧
  (∀ (s : State) (a n : Nat), ∃ u : State, Effect (.memorySweep a n) s u ∧ u.mem = { s.mem with marked := unmark a n s.mem.marked } ∧
    u = { s with mem := u.mem })

/-- Parts of 06 R245, 10 R410, R416-R424, R437-R439, 12 R516: SCORE reads its descriptor and result address and submits the batch, as an
acquire: digitally where the partition holds no optical right or the batch asks for it, on the optical queue where the scorer is on,
digitally or SCORER_OFF otherwise; a fifth batch or a full queue makes the group wait. SWAIT goes on where at most n are outstanding. A
batch starts for the partition whose turn it is by its WMK shares, one passed over 16 times first, and is charged to it; one that ends
leaves its codes on the DACs, writes its selection and its header, marks its sheet, is counted, signals its tally and wakes who waits. -/
def Obligations.ScorerRunsBatches : Prop :=
  (∀ (s : State) (i : GIns) (g : Group), Issues s i g →
    let w := s.issuing i g
    let illegal := s.illegal i g
    (∀ rs, g.blocks (sNeed [rs, rs + 1]) = false → 63 ≤ rs → Effect (.score i rs) s illegal) ∧
    (∀ rs, g.blocks (sNeed [rs, rs + 1]) = true → Effect (.score i rs) s s) ∧
    (∀ rs d res t u, g.blocks (sNeed [rs, rs + 1]) = false → rs < 63 → w.scoreTarget i g false (g.s rs + 2 ^ 32 * g.s (rs + 1)) = (.mem d, t) →
      t.isPoisoned (d / 64) = false → t.isPoisoned (d / 64 + 1) = false →
      let desc := t.memRead d 128
      let x := parseDesc desc
      t.scoreTarget i g true x.res = (.mem res, u) →
      let b : Batch := { part := g.part, mould := i.mould, quarter := i.quarter, slot := i.slot, ring := g.ring, subIndex := g.subIndex,
                         number := g.number, res := res, desc := desc, issuedAt := w.now }
      let v := u.acquire i.mould
      let path := u.pathOf g.part x.forceDigital
      (4 ≤ u.outstandingOf i.mould i.quarter i.slot →
        Effect (.score i rs) s ((u.onGroup i fun h => { h with wait := .scoreRoom }).issuedBy i g)) ∧
      (path = .optical → 64 ≤ (Table.at u.wmk.queue g.part []).length →
        Effect (.score i rs) s ((u.onGroup i fun h => { h with wait := .scoreRoom }).issuedBy i g)) ∧
      (u.outstandingOf i.mould i.quarter i.slot < 4 →
        (path = .digital → Effect (.score i rs) s
          (({ v with wmk := { v.wmk with digitals := v.wmk.digitals ++ [{ b with digital := true }] } } : State).advanced i g)) ∧
        (path = .optical → (Table.at u.wmk.queue g.part []).length < 64 → Effect (.score i rs) s
          (({ v with wmk := { v.wmk with queue := Table.upd v.wmk.queue g.part (· ++ [b]) } } : State).advanced i g)) ∧
        (path = .none →
          Effect (.score i rs) s ((v.batchEnds b { status := .scorerOff }).advanced i g)))) ∧
    (∀ n, n ≤ 3 → w.outstandingOf i.mould i.quarter i.slot ≤ n → Effect (.swait i n) s ((w.acquire i.mould).advanced i g)) ∧
    (∀ n, n ≤ 3 → n < w.outstandingOf i.mould i.quarter i.slot →
      Effect (.swait i n) s ((w.onGroup i fun h => { h with wait := .score n }).advanced i g)) ∧
    (∀ n, 3 < n → Effect (.swait i n) s illegal)) ∧
  (∀ (s : State) (p : Nat) (force : Bool),
    (s.partAt p).optical = false ∨ force = true → s.pathOf p force = .digital) ∧
  (∀ (s : State) (p : Nat), (s.partAt p).optical = true →
    (s.wmk.state = .on → s.wmk.stopping = false → s.pathOf p false = .optical) ∧
    (s.wmk.state ≠ .on ∨ s.wmk.stopping = true → s.pathOf p false = if (s.partAt p).fallback then .digital else .none)) ∧
  (∀ (s : State) (p : Nat) (b : Batch) (rest : List Batch), s.wmk.state ≠ .off → s.insvcCount ≠ 0 → s.nextBatchOf = some p →
    Table.at s.wmk.queue p [] = b :: rest →
    let c := s.chargeBatch p (b.ns s.insvcCount)
    Effect .batchStart s (({ c with wmk := { c.wmk with
      queue := Table.put s.wmk.queue p rest, flight := s.wmk.flight ++ [{ b with channels := s.insvcCount }], lastPart := p } } : State).scoreWake)) ∧
  (∀ (s : State) (p : Nat), s.nextBatchOf = some p → p ∈ s.batchReady ∧ ∀ q ∈ s.batchReady, 0 < (s.partAt q).wmk →
    0 < (s.partAt p).wmk ∧ (Table.at s.wmk.passed p 0 < 16 →
      Table.at s.wmk.passed q 0 < 16 ∧ Table.at s.wmk.owed q (0 : Int) ≤ Table.at s.wmk.owed p 0)) ∧
  (∀ q k : List Byte, corrected q k = dot q k) ∧
  (∀ s : State, s.wmk.state = .off ∨ s.insvcCount = 0 ∨ s.nextBatchOf = none → Effect .batchStart s s) ∧
  (∀ (s : State) (p : Nat) (b : Batch), s.wmk.flight.find? (fun b => b.part == p) = some b →
    let f := s.free 30
    let s1 : State := ({ f.2 with wmk := { f.2.wmk with flight := f.2.wmk.flight.erase b } } : State).dacsAfter b f.1
    (b.discard = true → Effect (.batchEnd (.optical p)) s s1) ∧
    (b.discard = false → Effect (.batchEnd (.optical p)) s (s1.batchEnds b (s1.runBatch b f.1)))) ∧
  (∀ (s : State) (n : Nat) (b : Batch), s.wmk.digitals[n]? = some b →
    let s1 : State := { s with wmk := { s.wmk with digitals := s.wmk.digitals.eraseIdx n } }
    Effect (.batchEnd (.digital n)) s (s1.batchEnds b (s1.runBatch b 0))) ∧
  (∀ (s : State) (p : Nat), s.wmk.flight = [] → Effect (.batchEnd (.optical p)) s s) ∧
  (∀ (s : State) (n : Nat), s.wmk.digitals.length ≤ n → Effect (.batchEnd (.digital n)) s s) ∧
  (∀ (s : State) (b : Batch) (v : Verdict), v.status = .ok → (parseDesc b.desc).sigTally = 0xFFFF →
    let f := s.elapsed b.issuedAt 32 1000000000
    s.batchEnds b v = (let t := ((f.2.writeSelection b v).memWrite b.res (headerBytes b v f.1)).updSheet b.ring b.subIndex fun h =>
        { h with digital := h.digital || (b.digital || decide (0 < v.fromKeys)) }
      ({ t with wmk := if b.digital then { t.wmk with digCnt := satInc 32 t.wmk.digCnt }
        else { t.wmk with optCnt := satInc 32 t.wmk.optCnt } } : State).scoreWake))

/-- Parts of 04 R167, R169, 11 R457-R460, R486, Table 11-4, 12 R515: a strand that may train and probes pulses at probe level; presence
lights it at probe level, also before its own start time once its port's bank is swept; mutual presence takes it to full power and into
training; the stages go on in order, back to DARK with its record where one fails or passes its bound; a wrong peer is MISWIRED with its
cause, and leaves it when the checks pass; the last stage opens the strand; a loop test ends in LOOPBACK with the transmitter off; a
position's strands start probing, dark. A request of the peer for a tap beyond its range, or for the main tap, changes nothing (log entry
134).

Parts of 11 R475, R480-R482: light lost above probe level takes the transmitter to probe level and the strand to SAFETY, and from UP its
traffic is reconciled; light that does not return takes it down. A reconciliation that nobody answers ends every request of the strand, and
a request of a detour of this device's own whose packet no DACK has covered. -/
def Obligations.StrandsTrainAndLoseLight : Prop :=
  (∀ (s : State) (k : Nat), k < 64 →
     let t := s.strandAt k
     let failed : State := (if t.failRecorded then s.updStrand k fun t => { t with failRepeats := satInc 32 t.failRepeats }
       else (s.updStrand k fun t => { t with failRecorded := true }).log 0x3003 (param [(1, k), (1, t.stage + 1)])).strandDown k .dark 6 .probe
     (s.strandProbes k = true → t.probing = true → Effect (.probePulse k) s
       ((s.updStrand k fun t => { t with tx := .probe }).emit (.strandControl k "PROBE" [10]))) ∧
     (s.strandProbes k = false ∨ t.probing = false → Effect (.probePulse k) s s) ∧
     (s.strandProbes k = true ∨ (t.state = .paused ∧ s.strandMayTrain k = true) → Effect (.presenceDetect k) s
       (s.updStrand k fun t => { t with presence := true, tx := .probe })) ∧
     (s.strandProbes k = false → t.state ≠ .paused → t.state ≠ .off ∨ s.strandMayTrain k = false →
       Effect (.presenceDetect k) s (s.updStrand k fun t => { t with presence := true })) ∧
     (t.state = .off → s.strandMayTrain k = true → Effect (.presenceDetect k) s
       ((s.updStrand k fun t => { t with presence := true, tx := .probe }).strandTo k .dark)) ∧
     (t.state = .dark ∨ t.state = .safety ∨ t.state = .paused → s.strandMayTrain k = true → t.tx = .probe → t.presence = true →
       Effect (.fullPowerStart k) s ((s.updStrand k fun t => { t with tx := .full, stage := 0, lanesOk := 0 }).strandTo k .training)) ∧
     (t.presence = false → Effect (.fullPowerStart k) s s) ∧
     (t.state = .training → Effect (.trainingStageTimeout k) s failed) ∧
     (t.state ≠ .training → Effect (.trainingStageTimeout k) s s ∧ ∀ l b, Effect (.trainingStageDone k l b) s s) ∧
     (t.state = .training → ∀ (l : BitVec 4) (b : TsBlock),
       (t.stage = 0 → Effect (.trainingStageDone k l b) s (s.updStrand k fun t => { t with stage := 1 })) ∧
       (t.stage = 1 → l ≠ 0 → Effect (.trainingStageDone k l b) s (s.updStrand k fun t => { t with stage := 2, lanesOk := l })) ∧
       (t.stage = 1 → l = 0 → Effect (.trainingStageDone k l b) s failed) ∧
       (2 ≤ t.stage → b.good = false → Effect (.trainingStageDone k l b) s s) ∧
       (t.stage = 2 → b.good = true → s.tsCause k b ≠ 0 → Effect (.trainingStageDone k l b) s
         ((s.updStrand k fun t => { t with peerPos := b.position % 64, peerStrand := b.strand % 64,
                                           misw := s.tsCause k b, tx := .probe, stage := 2 }).strandTo k .miswired)) ∧
       (t.stage = 2 → b.good = true → s.tsCause k b = 0 → b.creditsOk = true → s.loopback k = false → t.trip = none →
         Effect (.trainingStageDone k l b) s
           (s.updStrand k fun t => { t with peerPos := b.position % 64, peerStrand := b.strand % 64, misw := 0, stage := 3 })) ∧
       (t.stage = 3 → b.good = true → Effect (.trainingStageDone k l b) s (s.updStrand k fun t =>
         { t.txReq b.txReq with stage := 4, lanesOk := if l = 0 then t.lanesOk else t.lanesOk &&& l })) ∧
       (4 ≤ t.stage → b.good = true → Effect (.trainingStageDone k l b) s (s.strandOpen k b))) ∧
     (∀ (r : Nat) (x : Int), x = Table.at t.taps (r % 4) 0 + (if r / 4 = 1 then 1 else if r / 4 = 2 then -1 else 0) →
       (r % 4 = 0 ∧ -8 ≤ x ∨ r % 4 = 2 ∧ -12 ≤ x) → x ≤ 0 → t.txReq r = { t with taps := Table.put t.taps (r % 4) x }) ∧
     (∀ r, r % 4 = 1 ∨ r % 4 = 3 → t.txReq r = t) ∧
     (∀ b : TsBlock, t.state = .miswired → b.good = true → s.tsCause k b ≠ 0 → Effect (.miswiredRetry k b) s
       (s.updStrand k fun t => { t with misw := s.tsCause k b, peerPos := b.position % 64, peerStrand := b.strand % 64 })) ∧
     (∀ b : TsBlock, t.state = .miswired → b.good = true → s.tsCause k b = 0 → Effect (.miswiredRetry k b) s
       (((s.updStrand k fun t => { t with tx := .full }).strandTo k .training).stageIdentity k b)) ∧
     (∀ b : TsBlock, t.state ≠ .miswired ∨ b.good = false → Effect (.miswiredRetry k b) s s) ∧
     (t.state = .loopTest → Effect (.loopTestEnd k) s ((s.updStrand k fun t => { t with tx := .off }).strandTo k .loopback)) ∧
     (t.state ≠ .loopTest → Effect (.loopTestEnd k) s s) ∧
     (∀ p, p < 16 → (∀ j, j < 4 → (s.strandAt (4 * p + j)).state ≠ .off ∧ (s.strandAt (4 * p + j)).state ≠ .dark) →
       Effect (.strandStartTime p) s s) ∧
     (∀ p, p < 16 → ∃ u : State, Effect (.strandStartTime p) s u ∧ ∀ j, j < 4 → s.strandMayTrain (4 * p + j) = true →
       ((s.strandAt (4 * p + j)).state = .off →
         (u.strandAt (4 * p + j)).state = .dark ∧ (u.strandAt (4 * p + j)).probing = true ∧ (u.strandAt (4 * p + j)).tx = .probe) ∧
       ((s.strandAt (4 * p + j)).state = .dark → u.strandAt (4 * p + j) = { s.strandAt (4 * p + j) with probing := true }))) ∧
  (∀ (s : State) (k : Nat), k < 64 →
     let t := s.strandAt k
     (t.tx = .full → t.state = .up → Effect (.lossOfLight k) s (((s.updStrand k fun t =>
       { t with tx := .probe, presence := false, lastDown := 1, stage := 0, trip := some (s.now, true) }).strandTo k .safety).beginRecon k true)) ∧
     (t.tx = .full → t.state = .training ∨ t.state = .mgmtOnly ∨ t.state = .loopTest → Effect (.lossOfLight k) s ((s.updStrand k fun t =>
       { t with tx := .probe, presence := false, lastDown := 1, stage := 0 }).strandTo k .safety)) ∧
     (t.tx ≠ .full ∨ t.state = .dark ∨ t.state = .disabled → Effect (.lossOfLight k) s s) ∧
     (t.state = .safety ∨ t.state = .paused ∨ t.state = .training → t.trip.isSome = true →
       Effect (.lightReturnTimeout k) s (s.strandDown k .dark 1 .probe)) ∧
     (t.trip = none → Effect (.lightReturnTimeout k) s s) ∧
     (t.recon = none → Effect (.reconTimeout k) s s) ∧
     (∀ r, t.recon = some r → Effect (.reconTimeout k) s
       (let x := (reconPackets none r).foldl (fun (a : Nat × State) y => ((a.1 + b2n (a.2.lostPacket y).1, (a.2.lostPacket y).2) : Nat × State)) (0, s)
        x.2.reconEnd k 0 x.1)))

/-- Parts of 06 R245, 11 R453-R455, R466, R469, R471-R474, R491, 20 R786, R787: the next codeword goes on the next lane: a marker after
16,383 frames of it, else the frame of the replay, else a new frame while fewer than 256 wait for their ACK. A bad frame is counted and
answered with NAK, and the eighth drops its lane, and so is a frame on a lane out of service; a good one gives ACK and credits, and its
flits where it is the next in SEQ order. Eight microseconds without progress replay from the oldest; a dropped lane is tested again and asks
to come back. A slot goes to MGMT, else to a requester that has waited 16 frames, else to the partition that is owed most under its CHL
shares. -/
def Obligations.StrandsCarryFrames : Prop :=
  ∀ (s : State) (k : Nat), k < 64 →
    let t := s.strandAt k
    (t.carries = false → Effect (.frameTransmit k) s s ∧ Effect (.replayTimeout k) s s ∧
      (∀ l b f, l < 4 → Effect (.frameReceive k l b f) s s) ∧
      (∀ l b ts, l < 4 → t.state ≠ .training ∨ t.stage ≠ 3 → Effect (.markerReceive k l b ts) s s) ∧
      (∀ l p, l < 4 → Effect (.laneRetest k l p) s s) ∧ (∀ l, l < 4 → Effect (.laneReadmit k l) s s)) ∧
    (t.state = .training → t.stage = 3 → ∀ l ts, l < 4 → ts.good = true → ts.lane = l →
      Effect (.markerReceive k l false ts) s (s.updStrand k fun t => t.txReq ts.txReq)) ∧
    (t.carries = true →
      (∀ l, t.laneAfter t.lastLane = some l →
        (16383 ≤ Table.at t.mcount l 0 → Effect (.frameTransmit k) s
          ((s.updStrand k fun t => { t with lastLane := l, mcount := Table.put t.mcount l 0 }).emit (.marker k l (s.tsBlock k l 6)))) ∧
        (Table.at t.mcount l 0 < 16383 → t.replayFrom = none → t.retry.length < 256 →
          let x := t.fill (fun p => (s.partAt p).chl) {} 9
          let fr := x.1.frameOf t.txSeq x.2.slots
          Effect (.frameTransmit k) s ((s.updStrand k fun _ => { x.1.grow.sentOn l with
            txSeq := (t.txSeq + 1) % 65536, replayFrom := none,
            retry := t.retry ++ [{ frame := fr, lane := l, ends := x.2.ends }] }).emit (.frame k l fr))) ∧
        (Table.at t.mcount l 0 < 16383 → t.replayFrom = none → 256 ≤ t.retry.length → Effect (.frameTransmit k) s s) ∧
        (∀ q f, Table.at t.mcount l 0 < 16383 → t.replayFrom = some q → t.retry.find? (fun x => x.frame.seq == q) = some f →
          let next := (f.frame.seq + 1) % 65536
          Effect (.frameTransmit k) s ((s.updStrand k fun t => { t.sentOn l with
            retry := t.retry.map fun x => if x.frame.seq = f.frame.seq then { x with lane := l, replays := x.replays + 1 } else x
            replays := satInc 32 t.replays
            replayFrom := if t.retry.any (fun x => x.frame.seq == next) then some next else none }).emit
              (.frame k l { t.frameOf f.frame.seq f.frame.slots with credits := t.freed })))) ∧
      (t.laneAfter t.lastLane = none → Effect (.frameTransmit k) s s) ∧
      (∀ l f, l < 4 → Table.at t.laneBad l 0 < 7 → Effect (.frameReceive k l true f) s
        (s.updStrand k fun t => { t with nak := true, laneBad := Table.put t.laneBad l (Table.at t.laneBad l 0 + 1) })) ∧
      (∀ l f, l < 4 → 7 ≤ Table.at t.laneBad l 0 → Effect (.frameReceive k l true f) s
        ((s.updStrand k fun t => { t with nak := true, laneBad := Table.put t.laneBad l (Table.at t.laneBad l 0 + 1) }).dropLane k l 1)) ∧
      (∀ l b f, l < 4 → t.lanes.getLsbD l = false → Table.at t.laneBad l 0 < 7 → Effect (.frameReceive k l b f) s
        (s.updStrand k fun t => { t with nak := true, laneBad := Table.put t.laneBad l (Table.at t.laneBad l 0 + 1) })) ∧
      (∀ l (f : Frame), l < 4 → t.lanes.getLsbD l = true → f.laneDrop = none → f.laneAdd = none → f.nak = none →
        let got := s.updStrand k fun t => { t with laneBad := Table.put t.laneBad l 0, returned := f.credits,
                                                   retry := t.retry.filter (fun x => !seqLe x.frame.seq f.ack), peerCal := f.laneCal }
        (f.seq ≠ t.rxSeq → Effect (.frameReceive k l false f) s got) ∧
        (f.seq = t.rxSeq → Effect (.frameReceive k l false f) s
          (f.slots.foldl (fun s x => s.flitIn k x) (got.updStrand k fun t => { t with rxSeq := (t.rxSeq + 1) % 65536, nak := false })))) ∧
      (∀ l ts, l < 4 → ts.good = true → ts.lane = l →
        Effect (.markerReceive k l false ts) s (s.updStrand k fun t => { t with peerEpoch := ts.linkEpoch })) ∧
      (∀ l ts, l < 4 → ts.good = false ∨ ts.lane ≠ l → Effect (.markerReceive k l false ts) s s) ∧
      (∀ chl f, (t.choose chl f).isSome = true → t.classesFor f ≠ []) ∧
      (∀ chl f e, (t.classesFor f).contains 0 = false → t.choose chl f = some e → e.1 ∈ t.classesFor f ∧ e.2 ∈ t.sources e.1 ∧
        (t.ages = [] → 0 < chl e.2 ∨ ∀ c ∈ t.classesFor f, ∀ x ∈ t.sources c, chl x = 0) ∧
        (t.ages = [] → ∀ c ∈ t.classesFor f, ∀ x ∈ t.sources c, 0 < chl x → Table.at t.owed x (0 : Int) ≤ Table.at t.owed e.2 0)) ∧
      (t.retry = [] → Effect (.replayTimeout k) s s) ∧
      (∀ f rest, t.retry = f :: rest → f.replays < 8 →
        Effect (.replayTimeout k) s (s.updStrand k fun t => { t with replayFrom := some f.frame.seq, lastLane := f.lane })) ∧
      (∀ f rest, t.retry = f :: rest → 8 ≤ f.replays → Effect (.replayTimeout k) s (s.strandDown k .dark 2 .probe)) ∧
      (∀ l, l < 4 → (Table.at t.droppedAt l none).isSome = true →
        Effect (.laneRetest k l true) s (s.updStrand k fun t => { t with retested := t.retested ||| BitVec.ofNat 4 (2 ^ l) }) ∧
        Effect (.laneRetest k l false) s (s.updStrand k fun t => { t with retested := t.retested &&& ~~~ BitVec.ofNat 4 (2 ^ l) })) ∧
      (∀ l, l < 4 → t.retested.getLsbD l = true → t.lanes.getLsbD l = false → t.laneArg = none → Table.at t.readmitAt l none = none →
        Effect (.laneReadmit k l) s (s.updStrand k fun t => { t with laneArg := some (l, false) })) ∧
      (∀ l, l < 4 → t.retested.getLsbD l = false ∨ t.laneArg ≠ none → Effect (.laneReadmit k l) s s))

/-- Parts of 01 R22, R23, 09 R387, R397, 11 R464, R465, Tables 11-9, 11-10: a request of another device is answered on the strand that it
came on: BAD_OPCODE for an unknown type, BAD_ARG for a malformed one, NOT_OWNER for a tag or an address that it may not reach, with a record
(whose code and PARAM are free, log entry 127), ABORTED where the partition takes none; READ answers its sectors, WRITE writes the bytes of
its mask, ATOMIC performs its operation and answers the old value, TALLY runs its operation, WATCH is answered where its condition holds,
registered where there is room and FULL otherwise, and WATCH_CANCEL removes it. -/
def Obligations.MeshRequestsAreServed : Prop :=
  (∀ (s : State) (k q : Nat) (p : Packet), ∃ (code : Nat) (b : List Byte), 0x3001 ≤ code ∧ code ≤ 0x3004 ∧ b.length = 16 ∧
    s.refuse k q p = (s.log code b).reply k q p .notOwner) ∧
  (∀ (s : State) (k : Nat) (p : Packet), k < 64 →
    let w := s.takePacket k p
    ∀ c ∈ ([.read k p, .write k p, .atomic k p, .tally k p, .watch k p, .watchCancel k p] : List Instr),
    (p.ptype = 0 ∨ 6 < p.ptype → Effect c s (w.reply k 16 p .badOpcode)) ∧
    (1 ≤ p.ptype → p.ptype ≤ 6 → p.requestOk = false → Effect c s (w.reply k 16 p .badArg)) ∧
    (1 ≤ p.ptype → p.ptype ≤ 6 → p.requestOk = true → w.partOfTag p.tag = none → Effect c s (w.refuse k 16 p)) ∧
    (∀ q, 1 ≤ p.ptype → p.ptype ≤ 6 → p.requestOk = true → w.partOfTag p.tag = some q → (w.partAt q).intakeOff = true →
      Effect c s (w.reply k q p .aborted)) ∧
    (∀ q, p.requestOk = true → w.partOfTag p.tag = some q → (w.partAt q).intakeOff = false →
      (∀ t, 1 ≤ p.ptype → p.ptype ≤ 3 → w.admitSectors q (p.ptype != 1) p.addr (if p.ptype = 3 then 1 else p.len / 64) = (none, t) →
        Effect c s (t.refuse k q p)) ∧
      (∀ ds t, p.ptype = 1 → w.admitSectors q false p.addr (p.len / 64) = (some ds, t) → t.mem.poisoned = [] →
        Effect c s (t.reply k q p .ok fun a => { a with
          len := p.len, dflits := p.len / 64, hflags := 0, data := ds.flatMap fun d => t.memRead d 64 })) ∧
      (∀ d t, p.ptype = 2 → p.len = 64 → w.admitSectors q true p.addr 1 = (some [d], t) →
        Effect c s ((t.memWrite d (maskBytes (t.memRead d 64) (bytesAt p.data 0 64) p.bmask)).reply k q p .ok)) ∧
      (∀ d t f, p.ptype = 3 → w.admitSectors q true p.addr 1 = (some [d], t) → t.mem.poisoned = [] → AtomKind.ofCode p.op = some f →
        let old := leNat (t.memRead d p.size)
        Effect c s ((t.memWrite d (leBytes p.size (f.apply p.size old (p.opnd0 % 2 ^ (8 * p.size)) (p.opnd1 % 2 ^ (8 * p.size))))).reply
          k q p .ok fun a => { a with opnd0 := old })) ∧
      (4 ≤ p.ptype → p.ptype ≤ 6 → p.addr < 256 ∨ w.holdsTally q p.addr = false → Effect c s (w.refuse k q p)) ∧
      (256 ≤ p.addr → w.holdsTally q p.addr = true →
        let v := w.tallyVal p.addr
        let x := p.opnd0 % 2 ^ 32
        (p.ptype = 4 → p.op = 0 → Effect c s (w.reply k q p .ok fun a => { a with op := 0, opnd0 := v })) ∧
        (p.ptype = 4 → p.op = 1 → Effect c s ((w.tallyPut p.addr ((v + x) % 2 ^ 32)).reply k q p .ok fun a => { a with op := 1, opnd0 := 0 })) ∧
        (p.ptype = 4 → p.op = 2 → Effect c s ((w.tallyPut p.addr ((v + x) % 2 ^ 32)).reply k q p .ok fun a => { a with op := 2, opnd0 := v })) ∧
        (p.ptype = 4 → p.op = 3 → Effect c s ((w.tallyPut p.addr x).reply k q p .ok fun a => { a with op := 3, opnd0 := 0 })) ∧
        (p.ptype = 5 → waitHolds (p.op == 1) v x = true → Effect c s (w.reply k q p .ok fun a => { a with op := 0 })) ∧
        (p.ptype = 5 → waitHolds (p.op == 1) v x = false → 256 ≤ w.tally.watches.length →
          Effect c s (w.reply k q p .ok fun a => { a with op := 1 })) ∧
        (p.ptype = 5 → waitHolds (p.op == 1) v x = false → w.tally.watches.length < 256 →
          let e : Watch := { tally := p.addr, eq := p.op == 1, operand := x, src := p.src, reqId := p.reqId, epoch := p.epoch, strand := k,
                             srcPart := p.tag }
          Effect c s { w with tally := { w.tally with watches := w.tally.watches ++ [e] } }) ∧
        (p.ptype = 6 →
          let mine (e : Watch) : Bool := e.src == p.src && e.reqId == p.reqId && e.epoch == p.epoch
          Effect c s (({ w with tally := { w.tally with watches := w.tally.watches.filter fun e => !mine e } } : State).reply k q p .ok
            fun a => { a with op := if w.tally.watches.any mine then 0 else 1 })))))

/-- Parts of 11 R467, R468, R476, 06 R275, 09 R398: an answer lands with the group that waits for it and frees its reservation; one without a
reservation, and that of a watch being cancelled, is only counted. The oldest queued request that nothing holds back is sent with its
answer reserved, or ends at once where it has no path. -/
def Obligations.AnswersLandOnce : Prop :=
  (∀ (s : State) (k : Nat) (p : Packet), k < 64 →
    let w := s.takePacket k p
    let late : State := match w.partOfTag p.tag with
      | some q => w.updPart q fun x => { x with late := satInc 32 x.late }
      | none => { w with mesh := { w.mesh with dropped := satInc 32 w.mesh.dropped } }
    ∀ c ∈ ([.readRsp k p, .writeAck k p, .atomicRsp k p, .tallyRsp k p, .watchAns k p, .cancelAck k p] : List Instr),
    (w.resvOf p = none → Effect c s late) ∧
    (∀ r x, w.resvOf p = some r → p.ptype ≠ 0x85 → r.waiter = some x →
      Effect c s (((w.landAnswer x r.packet p).copyWake x.mould x.quarter x.slot).freeResv r.reqId r.epoch)) ∧
    (∀ r, w.resvOf p = some r → p.ptype ≠ 0x85 → r.waiter = none → Effect c s (w.freeResv r.reqId r.epoch)) ∧
    (∀ r, w.resvOf p = some r → p.ptype = 0x85 →
      (w.mesh.resv.any fun x => x.reqId == r.reqId && x.epoch == r.epoch && x.packet.ptype == 6) = true → Effect c s late)) ∧
  (∀ (s : State) (reqId epoch : Nat) (r : Resv), r ∈ (s.freeResv reqId epoch).mesh.resv ↔
    r ∈ s.mesh.resv ∧ ¬ (r.reqId = reqId ∧ r.epoch = epoch)) ∧
  (∀ (s : State) (i : Issue) (rest : List Issue), s.mesh.issue = i :: rest →
    (s.issueGate i = .go → Effect .chlRequestIssue s (s.issueGo i)) ∧
    (s.issueGate i = .noPath → Effect .chlRequestIssue s { s with mesh := { s.mesh with
      issue := rest
      nopath := satInc 32 s.mesh.nopath
      ended := (match i.waiter with
        | some w => s.mesh.ended ++ [(w, i.packet)]
        | none => s.mesh.ended) } })) ∧
  (∀ s : State, (∀ i ∈ s.mesh.issue, s.issueGate i = .wait) → Effect .chlRequestIssue s s)

/-- Parts of 11 R475-R477, R484, R485, 20 R784: a LINKMAP replaces its sender's map; DEPART takes the strand to DARK; a RECON_REQ is
answered with LAST or UNKNOWN; a RECON_RSP resends what LAST does not cover, and with UNKNOWN ends the requests; a DACK covers detoured
packets; a type that is not known is answered REJECT, and a REJECT is recorded (log entry 107). LINKMAP and DACK are sent as they are due.
-/
def Obligations.ManagementMessagesAct : Prop :=
  (∀ (s : State) (k : Nat) (p : Packet), k < 64 →
    let w := s.takePacket k p
    (p.op = 1 → p.src < 64 → Effect (.linkmap k p) s { w with mesh := { w.mesh with
      linkmap := Table.put w.mesh.linkmap p.src (BitVec.ofNat 64 p.opnd0), pathDirty := true } }) ∧
    (p.op = 2 → (w.strandAt k).state = .up ∨ (w.strandAt k).state = .mgmtOnly ∨ (w.strandAt k).state = .paused →
      Effect (.depart k p) s (w.strandDown k .dark 4 .probe)) ∧
    (p.op = 2 → (w.strandAt k).state = .dark → Effect (.depart k p) s w) ∧
    (p.op = 3 →
      let j := mateOf (p.opnd0 % 256)
      let e := p.opnd0 / 256 % 65536
      let t := w.strandAt j
      (t.peerEpoch ≠ e → t.lastEpochSeq = none → Effect (.reconReq k p) s (w.sendMgmt p.src 0x04 p.opnd0 65536)) ∧
      (∀ q, t.peerEpoch ≠ e → t.lastEpochSeq = some (e, q) → Effect (.reconReq k p) s (w.sendMgmt p.src 0x04 p.opnd0 q)) ∧
      (t.peerEpoch = e → t.state = .safety ∨ t.state = .paused → Effect (.reconReq k p) s ((w.updStrand j fun t => { t with
        rxPart := Vector.replicate 5 none
        lastEpochSeq := some (e, (t.rxSeq + 65535) % 65536)
        trip := t.trip.map fun x => (x.1, false) }).sendMgmt p.src 0x04 p.opnd0 ((t.rxSeq + 65535) % 65536)))) ∧
    (p.op = 4 →
      let j := p.opnd0 % 256
      ((w.strandAt j).recon = none → Effect (.reconRsp k p) s w) ∧
      (∀ r, (w.strandAt j).recon = some r → r.1 = p.opnd0 / 256 % 65536 → p.src = w.peerOf j →
        (p.opnd1 < 65536 → Effect (.reconRsp k p) s
          (let x := (reconPackets (some p.opnd1) r).foldl (fun (a : (Nat × Nat) × State) y => let z := a.2.resendLost y
             (((a.1.1 + z.1.1, a.1.2 + z.1.2), z.2) : (Nat × Nat) × State)) ((0, 0), w)
           x.2.reconEnd j x.1.1 x.1.2)) ∧
        (65536 ≤ p.opnd1 → Effect (.reconRsp k p) s (w.reconFail j)))) ∧
    (p.op = 5 → p.opnd0 = w.pos → Effect (.dack k p) s { w with mesh := { w.mesh with
      dstore := w.mesh.dstore.filter fun q => !(q.dst == p.src && q.dseq ≤ p.opnd1) } }) ∧
    (p.op = 5 → p.opnd0 ≠ w.pos → Effect (.dack k p) s w) ∧
    (p.op = 0x7F → Effect (.mgmtReject k p) s { w with mesh := { w.mesh with rejected := some (p.src, p.status) } }) ∧
    (∀ j rest, knownMtype p.op = false → w.mgmtTo p.src = j :: rest → Effect (.mgmtReject k p) s
      (w.queueOn j 16 { mgmtPacket w.pos p.src 0x7F p.op 0 with status := Status.badOpcode.code }))) ∧
  (∀ s : State, s.upPositions = 0 → Effect .linkmapSend s s) ∧
  (∀ s : State, s.upPositions ≠ 0 → ∃ u : State, Effect .linkmapSend s u ∧ u.mesh.linkDirty = false ∧
    u = { s with mesh := u.mesh }) ∧
  (∀ (s : State) (d : Nat), s.mesh.dackDue.getLsbD d = true → Effect (.dackSend d) s
    (({ s with mesh := { s.mesh with dackDue := s.mesh.dackDue &&& ~~~ BitVec.ofNat 64 (2 ^ d) } } : State).sendMgmt d 0x05 d
      (Table.at s.mesh.dseqRx d 0))) ∧
  (∀ (s : State) (d : Nat), s.mesh.dackDue.getLsbD d = false → Effect (.dackSend d) s s)

/-- Parts of 00 R10, 13 R553, R554, 17 R679, R682-R690, 20 R784, Table 17-4: the messages of the steward on a device whose firmware runs. A
STEWBEAT of a primary that is not outranked is recognised; a MEMBER is current from now; OFFER is answered READY or REFUSE; READY, REFUSE
and no answer begin to give up the role; DONE takes it; a CAP of the recognised primary with the epoch of its election and a newer SEQ is
taken, and any other is discarded. Reserved fields that are not 0 make a message ignored, and values that Table 17-4 does not list are
answered REJECT with BAD_ARG (00 R10; log entry 131). A role and a device in service send what they owe. -/
def Obligations.StewardMessagesAct : Prop :=
  (∀ (s : State) (k : Nat) (p : Packet), k < 64 → s.fwAbsent = false → s.fwRuns = true →
    let w := s.takePacket k p
    let hand (code : Nat) : Prop := p.op = 0x13 ∧ p.opnd0 % 256 = code
    (p.op = 0x11 → p.opnd0 = 0 → p.opnd1 = 0 → restZero p.data 0x3D = true → p.len = 128 → p.dflits = 2 →
      (readBeat p.data w.now).listed = true →
      let b := readBeat p.data w.now
      let s1 : State := { w with stew := { w.stew with maxEpoch := max w.stew.maxEpoch b.epoch } }
      (b.role ≠ 1 → Effect (.stewbeat k p) s s1) ∧
      (b.role = 1 → w.stew.role ≠ .primary →
        w.stew.primary = none ∨ w.stew.epoch < b.epoch ∨ (∃ q, w.stew.primary = some q ∧ b.epoch = w.stew.epoch ∧ p.src ≤ q) →
        Effect (.stewbeat k p) s (s1.recognise p.src b)) ∧
      (b.role = 1 → w.stew.role = .primary → w.outranked p.src b.epoch = true → w.givingUp = false →
        Effect (.stewbeat k p) s (s1.giveUp false))) ∧
    (p.op = 0x11 → p.opnd0 ≠ 0 ∨ p.opnd1 ≠ 0 ∨ restZero p.data 0x3D = false → Effect (.stewbeat k p) s w) ∧
    (p.op = 0x11 → p.opnd0 = 0 → p.opnd1 = 0 → restZero p.data 0x3D = true →
      p.len ≠ 128 ∨ p.dflits ≠ 2 ∨ (readBeat p.data w.now).listed = false → Effect (.stewbeat k p) s (w.rejectMgmt p .badArg)) ∧
    (p.op = 0x12 → p.opnd0 = 0 → p.opnd1 = 0 → restZero p.data 0x10 = true → fld p.data 2 1 < 8 → fld p.data 1 1 < 2 ∨ 4 < fld p.data 1 1 →
      Effect (.member k p) s (w.rejectMgmt p .badArg)) ∧
    (hand 5 ∨ hand 0 → handGood p = true → Effect (.offer k p) s (w.rejectMgmt p .badArg)) ∧
    (p.op = 0x12 → p.len = 64 → p.dflits = 1 → 2 ≤ fld p.data 1 1 → fld p.data 1 1 ≤ 4 → posOrNone (fld p.data 3 1) = true →
      p.opnd0 = 0 → p.opnd1 = 0 → restZero p.data 0x10 = true → fld p.data 2 1 < 8 → fld p.data 0 1 = p.src →
      p.src < w.row.rowSize →
      let m : Member :=
        { state := fld p.data 1 1, elig := bitOf (fld p.data 2 1) 0, cand := bitOf (fld p.data 2 1) 1, capped := bitOf (fld p.data 2 1) 2,
          primary := fld p.data 3 1, compat := fld p.data 4 2, epoch := fld p.data 6 2, upMs := fld p.data 8 4, pkgW := fld p.data 12 2,
          capW := fld p.data 14 2, at_ := w.now }
      Effect (.member k p) s { w with stew := { w.stew with
        member := Table.put w.stew.member p.src (some m)
        maxEpoch := max w.stew.maxEpoch m.epoch
        firstReport := if (w.current p.src).isNone then some w.now else w.stew.firstReport } }) ∧
    (hand 1 → handGood p = true → w.stew.primary = some p.src →
      (w.selfCand = true → w.stew.role = .standby → w.stew.en0 = false → w.stew.en1 = false → Effect (.offer k p) s
        (({ w with stew := { w.stew with seq := .ready } } : State).sendMgmt p.src 0x13 (2 + handEpoch p * 2 ^ 8) 0)) ∧
      (w.selfCand = false ∨ w.stew.en0 = true ∨ w.stew.en1 = true →
        Effect (.offer k p) s (w.sendMgmt p.src 0x13 (3 + handEpoch p * 2 ^ 8) 0))) ∧
    (hand 2 → handGood p = true → w.stew.seq = .offered → w.stew.standby = some p.src → Effect (.ready k p) s (w.giveUp true)) ∧
    (hand 3 → handGood p = true → w.stew.seq = .offered → w.stew.standby = some p.src → Effect (.refuse k p) s (w.giveUp false)) ∧
    (hand 4 → handGood p = true → w.stew.seq = .ready → w.stew.primary = some p.src → Effect (.done k p) s (w.claim (handEpoch p))) ∧
    (handGood p = false → (hand 1 → Effect (.offer k p) s w) ∧ (hand 2 → Effect (.ready k p) s w) ∧ (hand 3 → Effect (.refuse k p) s w) ∧
      (hand 4 → Effect (.done k p) s w)) ∧
    (p.op = 0x10 → p.opnd0 / 2 ^ 48 = 0 → p.opnd1 = 0 → p.dflits = 2 → p.len = 128 →
      let seq := p.opnd0 % 2 ^ 32
      let epoch := p.opnd0 / 2 ^ 32 % 2 ^ 16
      (w.fwRuns = true → w.stew.primary ≠ some p.src ∨ epoch ≠ w.stew.epoch → Effect (.cap k p) s (w.discardCap p.src 1)) ∧
      (w.fwRuns = true → w.stew.primary = some p.src → epoch = w.stew.epoch → w.thm.capSeq = none →
        Effect (.cap k p) s (w.takeCap p.src (fld p.data (2 * w.pos) 2) epoch seq)) ∧
      (∀ l, w.fwRuns = true → w.stew.primary = some p.src → epoch = w.stew.epoch → w.thm.capSeq = some (epoch, l) →
        1 ≤ (seq + 2 ^ 32 - l) % 2 ^ 32 → (seq + 2 ^ 32 - l) % 2 ^ 32 ≤ 2 ^ 31 →
        Effect (.cap k p) s (w.takeCap p.src (fld p.data (2 * w.pos) 2) epoch seq)) ∧
      (w.fwRuns = true → w.stew.primary = some p.src → epoch = w.stew.epoch → w.thm.capSeq = some (epoch, seq) →
        Effect (.cap k p) s (w.discardCap p.src 2)))) ∧
  (∀ s : State, (s.stew.seq = .offered → Effect .readyTimeout s (s.giveUp false)) ∧ (s.stew.seq ≠ .offered → Effect .readyTimeout s s) ∧
    (s.stew.role = .none → Effect .stewbeatSend s s) ∧ (s.stew.role ≠ .none → Effect .stewbeatSend s s.sendBeat) ∧
    (s.inService = false ∨ s.fwRuns = false → Effect .memberSend s s)) ∧
  (∀ s : State, s.inService = true → s.fwRuns = true → ∃ (d : List Byte) (u : State), Effect .memberSend s u ∧ d.length = 64 ∧
    fld d 0 1 = s.pos % 256 ∧ fld d 1 1 = s.dev.state.code ∧ fld d 4 2 = s.boot.compat % 2 ^ 16 ∧ fld d 6 2 = s.stew.epoch % 2 ^ 16 ∧
    fld d 12 2 = s.thm.pkgMean % 2 ^ 16 ∧ fld d 14 2 = s.thm.capW % 2 ^ 16 ∧
    u = s.others.foldl (fun s x => s.sendMgmt x 0x12 0 0 d) s)

/-- Parts of 17 R679, R684-R691, R694, R695, R704-R706, R708, R709, Tables 17-5, 17-6: the primary role is claimed by the lowest candidate
where nobody holds it, 2 s after the last first report and the last STEWBEAT, and by the standby that has lost its primary (log entry 129),
and given up where no strand is UP; the relays go one step at a time; the primary names its standby, pulses ROWBEAT, ramps its set-point and
keeps the pumps; a pulse of 0.5 to 2.0 ms is seen.

Parts of 17 R697-R702, Table 17-9: a tooth in sync gives a sample, one that comes too soon is noise, and three regular ones gain sync; a
missed tooth is synthesised, and the second in a row drops sync; each event fires once per revolution, when its angle is reached or with the
tooth that passes it (log entry 130), marked where the angle is extrapolated or the time base drives it, each TB_PERIOD. A rope leaves its
stages when it has been dry for their time, is confirmed after 30 s and isolates 60 s later where it is told to; an open one is recorded. -/
def Obligations.StewardRowsAct : Prop :=
  (∀ s : State,
     let next := (s.stew.maxEpoch + 1) % 65536
     (∀ r, s.fwRuns = true → s.stew.primary = none → s.selfCand = true → s.stew.firstReport = some r → r + 65536 ≤ s.now →
       (∀ b, s.stew.snapshot = some b → b.at_ + 65536 ≤ s.now) → s.lowestCand 64 = some s.pos →
       Effect .stewardElection s (s.claim next)) ∧
     ((∀ r, s.stew.firstReport = some r → s.now < r + 65536) → Effect .stewardElection s s) ∧
     (s.fwRuns = false ∨ s.stew.primary ≠ none ∨ s.selfCand = false ∨ s.lowestCand 64 ≠ some s.pos → Effect .stewardElection s s) ∧
     (s.fwRuns = true → s.stew.role = .standby → s.primaryGone = true → s.stew.beat = false → s.selfCand = true →
       Effect .primaryLost s (s.claim next)) ∧
     (s.fwRuns = true → s.stew.role = .standby → s.primaryGone = true → s.stew.beat = true →
       let fallen := ({ s with stew := { s.stew with beat := false } } : State).log 0x8002 []
       (s.selfCand = true → Effect .primaryLost s (fallen.claim next)) ∧ (s.selfCand = false → Effect .primaryLost s fallen)) ∧
     (s.fwRuns = true → s.stew.role = .standby → s.stew.beat = false → s.selfCand = false → Effect .primaryLost s s) ∧
     (s.stew.role ≠ .standby ∨ s.primaryGone = false → Effect .primaryLost s s) ∧
     (∀ t b, s.stew.lastPulse = some t → s.stew.snapshot = some b →
       (s.primaryGone = true ↔ t + 4915 ≤ s.now ∧ b.at_ + 4915 ≤ s.now ∧ b.at_ ≤ t + 4915)) ∧
     (∀ b, s.stew.snapshot = some b → s.now < b.at_ + 32768 → Effect .recognitionDrop s s) ∧
     ((∀ b, s.stew.snapshot = some b → b.at_ + 32768 ≤ s.now) → s.stew.role ≠ .primary → s.stew.primary ≠ none →
       Effect .recognitionDrop s (s.roleSet .none none none s.stew.epoch)) ∧
     (s.stew.role = .primary ∨ s.stew.primary = none → Effect .recognitionDrop s s) ∧
     (s.fwRuns = true → s.stew.role = .primary →
       Effect .standbyNaming s (s.roleSet .primary s.stew.primary (s.lowestCand s.pos) s.stew.epoch)) ∧
     (s.fwRuns = false ∨ s.stew.role ≠ .primary → Effect .standbyNaming s s ∧ Effect .rowBudget s s ∧ Effect .setpointRampStep s s ∧
       Effect .pumpRestore s s ∧ ∀ n, n < 2 → Effect (.pumpStall n) s s) ∧
     (s.stew.role = .primary → (∀ k, k < 64 → (s.strandAt k).state ≠ .up) → s.givingUp = false → Effect .noUpStrand s (s.giveUp false)) ∧
     (s.stew.role ≠ .primary → Effect .noUpStrand s s) ∧
     (∀ pl, s.stew.seq = .giveK0 pl → Effect .relayStep s { s with stew := { s.stew with en1 := false, seq := .giveK1 pl } }) ∧
     (∀ pl, s.stew.seq = .giveK1 pl → Effect .relayStep s (s.roleEnd pl)) ∧
     (s.stew.seq = .takeK1 → Effect .relayStep s
       ({ s.k1Closed with stew := { s.k1Closed.stew with en0 := true, seq := .takeK0 } } : State)) ∧
     (s.stew.seq = .takeK0 → Effect .relayStep s
       (let t := ((s.slotEnable 9).slotEnable 10).slotEnable 11; { t with stew := { t.stew with seq := .none } })) ∧
     (s.stew.seq = .none → Effect .relayStep s s) ∧
     Effect .stewEnHwRelease s { s with stew := { s.stew with en0 := false, en1 := false } } ∧
     (s.stew.driving = true → Effect .rowbeatPulse s (s.emit (.pulse "ROWBEAT" 1000))) ∧
     (s.stew.driving = false → Effect .rowbeatPulse s s) ∧
     (∀ us, 500 ≤ us → us ≤ 2000 → s.stew.beat = true ∨ s.stew.role ≠ .standby → Effect (.rowbeatSeen us) s
       { s with stew := { s.stew with beat := true, lastPulse := some s.now } }) ∧
     (∀ us, 500 ≤ us → us ≤ 2000 → s.stew.beat = false → s.stew.role = .standby → Effect (.rowbeatSeen us) s
       (({ s with stew := { s.stew with beat := true, lastPulse := some s.now } } : State).log 0x8002 [] none false)) ∧
     (∀ us, us < 500 ∨ 2000 < us → Effect (.rowbeatSeen us) s s) ∧
     (s.fwRuns = true → s.stew.role = .primary →
       (s.stew.ramping = false → Effect .setpointRampStep s s) ∧
       (s.stew.ramping = true →
         let now : Rat := lwRat (s.slotAt 8).setpoint
         let goal : Rat := (s.row.supplyDef : Rat) / 100
         let step : Rat := min ((s.stepMax : Rat) / 1000) ((s.row.supplySlew : Rat) / 60000)
         let go (x : Rat) : State := (s.writeSetpoint 8 (ratLw x)).2
         (goal < now - step → Effect .setpointRampStep s
           { go (now - step) with stew := { (go (now - step)).stew with ramping := now - step != goal } }) ∧
         (now + step < goal → ¬ goal < now - step → Effect .setpointRampStep s
           { go (now + step) with stew := { (go (now + step)).stew with ramping := now + step != goal } }) ∧
         (¬ goal < now - step → ¬ now + step < goal → Effect .setpointRampStep s
           { go goal with stew := { (go goal).stew with ramping := false } })) ∧
       (s.stew.stalled = 0 → Effect .pumpRestore s s ∧ ∀ n, n < 2 → Effect (.pumpStall n) s
         ((let t := s.updSlot 11 fun x => { x with swapPend := true }
           ((({ t with stew := { t.stew with stalled := BitVec.ofNat 2 (2 ^ n), cause := t.stew.cause ||| 4#8 } } : State).slotDisable (9 + n)).log
             0x8004 (param [(1, n)])).warnSet 10))) ∧
       (s.stew.stalled = 1 → Effect .pumpRestore s
         ((((({ s with stew := { s.stew with stalled := 0 } } : State).updSlot 11 fun x => { x with swapPend := true }).slotEnable 9).slotEnable
           10).log 0x8004 (param [(1, 0)]) none false)) ∧
       (∃ u : State, Effect .rowBudget s u ∧ u.stew.avail = s.rowHeat.floor.toNat ∧ u.stew.sent = s.budget.2.1 ∧
         u.stew.capSeq = (s.stew.capSeq + 1) % 2 ^ 32))) ∧
  ((∀ (s : State) (t : Nat), t < 2 →
     let x := s.trkAt t
     (∀ l at_, x.sync = true → x.tLast = some l →
       (10 * (at_ - l) < 6 * x.p → Effect (.toothEdge t at_) s (s.updTrk t fun x => { x with noise := satInc 8 x.noise })) ∧
       (6 * x.p ≤ 10 * (at_ - l) → Effect (.toothEdge t at_) s (((s.catchUp t at_ false).updTrk t fun x => { x.count at_ with
         p := if x.missedRow = 0 then at_ - l else x.p, missedRow := 0 }).speedSample t (at_ - l)))) ∧
     (∀ at_, x.tLast = none → Effect (.toothEdge t at_) s (s.updTrk t fun x => x.count at_)) ∧
     (∀ l i1 at_, x.sync = false → x.tLast = some l → x.lastInterval = some i1 → 6 * i1 ≤ 10 * (at_ - l) → 10 * (at_ - l) ≤ 16 * i1 →
       let s1 := s.updTrk t fun x => { x.count at_ with
         p := at_ - l, sync := true, timebase := false, missedRow := 0, lastInterval := none }
       Effect (.toothEdge t at_) s ((({ s1 with fil := { s1.fil with trkTb := s1.fil.trkTb &&& ~~~ BitVec.ofNat 2 (2 ^ t) } } :
         State).speedSample t (at_ - l)).log 0x8005 (param [(1, t)]) none false true)) ∧
     (x.sync = false → Effect (.toothMissed t) s s) ∧
     (x.sync = true → x.missedRow = 0 → Effect (.toothMissed t) s ((s.catchUp t (x.tLast.getD 0 + x.p) true).updTrk t fun y =>
       { y.count (y.tLast.getD 0 + y.p) with missed := satInc 8 y.missed, missedRow := y.missedRow + 1 })) ∧
     (∀ time ext, (∀ ev ∈ x.events, ev.fired = true ∨ (x.tooth + 1) * 65536 < ev.angle * x.tpr) → s.catchUp t time ext = s) ∧
     (x.sync = true → x.missedRow ≠ 0 → ∃ u : State, Effect (.toothMissed t) s u ∧ (u.trkAt t).sync = false ∧
       (u.trkAt t).timebase = true ∧ (u.trkAt t).missed = satInc 8 x.missed ∧ u.fil.trkTb.getLsbD t = true) ∧
     (∀ e ev at_, x.events[e]? = some ev →
       let ext := x.missedRow != 0 || decide (x.tLast.getD 0 + x.p < at_)
       let fired := s.updTrk t fun x => { x with
         events := x.events.set e { ev with fired := true, at_ := some at_ }, extrap := (if ext then satInc 8 x.extrap else x.extrap) }
       (∀ l, x.tLast = some l → (x.reached ev at_ = true ↔
         l ≤ at_ ∧ ev.angle * x.tpr * x.p ≤ (x.tooth * x.p + (at_ - l)) * 65536)) ∧
       (x.sync = true → ev.fired = false → x.reached ev at_ = true →
         Effect (.trackerEvent t e at_) s (fired.fireEvent ev (if ext then " EXTRAPOLATED" else ""))) ∧
       (x.sync = false ∨ ev.fired = true ∨ x.reached ev at_ = false → Effect (.trackerEvent t e at_) s s) ∧
       (let period := if ev.tbPeriod = 0 then x.tpr * x.p else ev.tbPeriod * 1000
        (x.sync = false → x.timebase = true → (∀ l, ev.at_ = some l → l + period ≤ at_) → Effect (.timebaseEvent t ⟨e, at_⟩) s
          ((s.updTrk t fun x => { x with events := x.events.set e { ev with at_ := some at_ } }).fireEvent ev " TIMEBASE")) ∧
        (x.sync = true ∨ x.timebase = false ∨ (∃ l, ev.at_ = some l ∧ at_ < l + period) → Effect (.timebaseEvent t ⟨e, at_⟩) s s)))) ∧
   (∀ (s : State) (n : Nat), n < 4 →
     let r := s.ropeAt n
     (s.fwRuns = true → s.stew.role = .primary →
       (let dry : Prop := r.condAt + (if r.stage = 3 then 600 else 60) * 32768 ≤ s.now
        (r.stage ≠ 0 → r.cond = 0 → dry → r.isolated = false → Effect (.leakStageTimer n) s (s.ropeTo n 0 0)) ∧
        (r.stage = 1 → r.cond = 0 → ¬ dry → Effect (.leakStageTimer n) s s) ∧
        (r.stage ≠ 0 → r.cond = 0 → dry → r.isolated = true → Effect (.leakStageTimer n) s ((s.isolate n false).ropeTo n 0 0))) ∧
       (r.stage = 1 → r.cond = 1 → s.now < r.condAt + 30 * 32768 → Effect (.leakStageTimer n) s s) ∧
       (r.stage = 1 → r.cond = 1 → r.condAt + 30 * 32768 ≤ s.now → Effect (.leakStageTimer n) s (s.ropeTo n 2 1)) ∧
       (r.stage = 2 → r.cond ≠ 0 → r.stageAt + 60 * 32768 ≤ s.now → Table.at s.row.ropeIsolate n false = true →
         Effect (.leakStageTimer n) s ((s.ropeTo n 3 r.cond).isolate n true)) ∧
       (r.stage = 2 → r.cond ≠ 0 → Table.at s.row.ropeIsolate n false = false → Effect (.leakStageTimer n) s s) ∧
       (r.stage = 0 → Effect (.leakStageTimer n) s s) ∧
       (r.cond ≠ 1 → Effect (.ropeOpen ⟨n, true⟩) s (s.ropeTo n r.stage 2) ∧ Effect (.ropeOpen ⟨n, false⟩) s (s.ropeTo n r.stage 0)) ∧
       (r.cond = 1 → ∀ a, Effect (.ropeOpen ⟨n, a⟩) s s)) ∧
     (s.fwRuns = false ∨ s.stew.role ≠ .primary → Effect (.leakStageTimer n) s s ∧ ∀ a, Effect (.ropeOpen ⟨n, a⟩) s s)) ∧
   (∀ (s : State) (n stage cond : Nat), n < 4 → (s.ropeAt n).stage ≠ stage ∨ (s.ropeAt n).cond ≠ cond →
     let t := s.ropeTo n stage cond
     (t.ropeAt n).stage = stage ∧ (t.ropeAt n).cond = cond ∧ t.fil.leak.getLsbD n = decide (stage ≠ 0) ∧
       ∀ m, m ≠ n → t.ropeAt m = s.ropeAt m))

/-- Parts of 12 R502, R504, R508-R514, R520-R525, Tables 12-2 to 12-4: a bank that may be swept lights, each of its rings locks at the
resonance nearest to mid-range that is deep enough or fails, and the bank is swept; a sub-mount comes to temperature; a locked ring moves
its heater by the law and its error; narrow acquisition about its seed (log entry 137) locks or falls back to a sweep; a ring out of lock is
LOST and what it carries leaves service; RAIL sets at an end and clears away from it; a lit array moves its biases and records those that
age; failed wavelengths leave service. -/
def Obligations.RingsAndLasersAct : Prop :=
  (∀ (s : State) (n : Nat), n < 704 →
    let r := s.ring704At n
    (∀ ratio, r.state = .locked → s.waveLit n = true →
      let err := clampInt (-2047) 2047 ((ratio - r.target) * r.slope / 32768)
      let acc := r.acc + r.ki * err
      let word := (clampInt 0 65535 (r.word - (r.kp * err + acc) / 65536)).toNat
      let s1 := s.updRing704 n fun r =>
        { r with err := err, acc := acc, word := word, rail := r.rail || decide (word < 16 ∨ 65520 ≤ word) }
      (n < 512 ∨ err.natAbs ≤ 150 → Effect (.ringLockUpdate n ratio) s s1) ∧
      (512 ≤ n → 150 < err.natAbs → s.wmk.badOnce.getLsbD (channelOfRing n) = false → Effect (.ringLockUpdate n ratio) s
        { s1 with wmk := { s1.wmk with badOnce := s1.wmk.badOnce ||| BitVec.ofNat 64 (2 ^ channelOfRing n) } }) ∧
      (512 ≤ n → 150 < err.natAbs → s.wmk.badOnce.getLsbD (channelOfRing n) = true →
        Effect (.ringLockUpdate n ratio) s ((s1.channelOut (channelOfRing n)).scorerJudge))) ∧
    (∀ low, r.state = .locked → s.waveLit n = true →
      (low = true ∨ 300 < r.err.natAbs → Effect (.ringLost n low) s
        (((s.updRing704 n fun r => { r with state := .lost }).log 0x4002 (param [(2, n)])).ringOut n 3)) ∧
      (low = false → r.err.natAbs ≤ 300 → Effect (.ringLost n low) s s)) ∧
    (r.state ≠ .locked ∨ s.waveLit n = false → (∀ ratio, Effect (.ringLockUpdate n ratio) s s) ∧ ∀ low, Effect (.ringLost n low) s s) ∧
    (∀ held, r.state = .locked → r.code = 0 ∨ r.code = 4095 → held = false ∨ r.rail = false →
      Effect (.ringRail n held) s (s.updRing704 n fun r => { r with rail := true })) ∧
    (r.state = .locked → r.code = 0 ∨ r.code = 4095 → r.rail = true → Effect (.ringRail n true) s (s.ringLose n)) ∧
    (r.state = .locked → r.code ≠ 0 → r.code ≠ 4095 →
      Effect (.ringRail n true) s (s.updRing704 n fun r => { r with rail := false }) ∧ Effect (.ringRail n false) s s) ∧
    (∀ held, r.state ≠ .locked → Effect (.ringRail n held) s s) ∧
    (∀ f, r.state ≠ .acquire → r.state ≠ .lost → Effect (.narrowAcquire n f) s s) ∧
    (∀ (p : Nat × Int) (found : Option Resonance), r.state = .acquire ∨ r.state = .lost → r.map = some p →
      let seed : Int := p.1 - (s.zoneTemp - p.2) * 2048 / 1000
      (∀ m, found = none ∨ (∃ f, found = some f ∧ (f.depth < 60 ∨ 4095 < f.code ∨ 128 < ((f.code : Int) - seed).natAbs)) →
        m ∈ ringsOfBank (bankOf n) → m ≠ n → m < 704 → (s.ring704At m).state = .acquire →
        Effect (.narrowAcquire n found) s (s.updRing704 n fun r => { r with state := .sweep })) ∧
      (∀ f, found = some f → 60 ≤ f.depth → f.code ≤ 4095 → ((f.code : Int) - seed).natAbs ≤ 128 →
        ∃ u : State, Effect (.narrowAcquire n found) s u ∧ (u.ring704At n).state = .locked ∧ (u.ring704At n).word = 16 * f.code ∧
          (u.ring704At n).slope = f.slope ∧ (u.ring704At n).map = some (f.code, s.zoneTemp) ∧
          ∀ m, m ≠ n → m < 704 → u.ring704At m = s.ring704At m))) ∧
  (∀ (s : State) (b : Nat), b < 20 →
    (∀ l, s.sweepReady b = false → Effect (.bankSweep b l) s s) ∧
    (∀ l, s.sweepReady b = true → b < 16 → s.pho.swept.getLsbD b = false →
      let t := ((ringsOfBank b).zip (l ++ List.replicate (48 - l.length) [])).foldl (fun (s : State) x => s.sweepRing x.1 x.2 false)
        (s.laserLight (s.arrayAt b))
      Effect (.bankSweep b l) s { t with pho := { t.pho with swept := t.pho.swept ||| BitVec.ofNat 16 (2 ^ b) } }) ∧
    (∀ l, s.sweepReady b = true → 16 ≤ b → s.wmk.tried ≤ b - 16 →
      let t := ((ringsOfBank b).zip (l ++ List.replicate (48 - l.length) [])).foldl (fun (s : State) x => s.sweepRing x.1 x.2 false)
        (s.laserLight (s.arrayAt b))
      Effect (.bankSweep b l) s
        ((({ t with wmk := { t.wmk with tried := b - 16 + 1 } } : State).bankRefresh (b - 16)).scorerJudge))) ∧
  (∀ (s : State) (n : Nat) (l : List Resonance), (s.ring704At n).state ≠ .failed →
    ((∀ f ∈ l, f.depth < 60 ∨ 4095 < f.code) → s.sweepRing n l false = s.sweepFail n) ∧
    ((∃ f ∈ l, 60 ≤ f.depth ∧ f.code ≤ 4095) → ∃ f ∈ l, 60 ≤ f.depth ∧ f.code ≤ 4095 ∧
      (∀ g ∈ l, 60 ≤ g.depth → g.code ≤ 4095 → (2 * (f.code : Int) - 4095).natAbs ≤ (2 * (g.code : Int) - 4095).natAbs) ∧
      s.sweepRing n l false = s.ringLock n f.code f.slope)) ∧
  (∀ (s : State) (a : Nat), a < 24 →
    let l := s.laserAt a
    (∀ t, l.heater = false → Effect (.submountAtTemperature a t) s s) ∧
    (∀ t, l.heater = true → ∃ u : State, Effect (.submountAtTemperature a t) s u ∧ (u.laserAt a).atTemp = true ∧
      (u.laserAt a).submount = t ∧ (l.state = .off → l.lit = false → s.posOfArray a = some a → s.bankInUse a = false →
        u = s.updLaser a fun l => { l with atTemp := true, submount := t, state := .warm })) ∧
    (∀ m, l.lit = false → Effect (.laserPowerUpdate a m) s s) ∧
    (∀ m, l.lit = true → ∃ u : State, Effect (.laserPowerUpdate a m) s u ∧
      (∀ i, i < 16 → l.failed.getLsbD i = false → Table.at (u.laserAt a).bias i 0 =
        (clampInt 0 65535 (((Table.at l.bias i 0 : Nat) : Int) + l.setPower - ((m[i]?).getD l.setPower : Nat))).toNat) ∧
      (∀ i, i < 16 → l.failed.getLsbD i = true → Table.at (u.laserAt a).bias i 0 = Table.at l.bias i 0) ∧
      (∀ b, b ≠ a → u.laserAt b = s.laserAt b) ∧ u.mesh = s.mesh ∧ u.wmk = s.wmk ∧ u.part = s.part ∧ u.mem = s.mem) ∧
    (∀ m sub, l.atTemp = true → l.state ≠ .retired → l.lit = true → sub = false → m &&& ~~~ l.failed ≠ 0 →
      Effect (.wavelengthFail a m sub) s (s.wavesFail a (m &&& ~~~ l.failed))) ∧
    (∀ m sub, l.atTemp = true → l.state ≠ .retired → sub = true → 0xFFFF#16 &&& ~~~ l.failed ≠ 0 →
      Effect (.wavelengthFail a m sub) s (s.wavesFail a (0xFFFF#16 &&& ~~~ l.failed))) ∧
    (∀ m sub, l.atTemp = false ∨ l.state = .retired → Effect (.wavelengthFail a m sub) s s))

/-- Parts of 13 R540-R551, R553, R557, R566-R568, Tables 13-3 to 13-9: a sample is the reading with its offset, whatever else follows; a
third one in a row at a threshold enters its state; the state is left from below its lower edge. A throttle adds a step while it is hot, and
releases step by step; a stack loses an eighth of its peak, down to half, and regains it. The cap falls back, with its record once a cap has
been accepted; causes are set and cleared as their conditions hold, and the flow is judged from 400 W and 2 K. -/
def Obligations.SensorsAndCapsAct : Prop :=
  (∀ (s : State) (n : Nat) (temp : Int) (b : Bool) (u : State), n < 140 → s.evSensorSample n temp = (b, u) →
    (b = false → Effect (.sensorSample n temp) s u) ∧
    (b = true → u.supply.vdeck = true → u.supply.porst = false → u.boot.phase ≠ .strapWait → u.boot.phase ≠ .boardTest →
      Effect (.sensorSample n temp) s (u.enterSafe 6)) ∧
    (s.dev.state = .dormant ∨ s.dev.state = .off → Effect (.sensorSample n temp) s s) ∧
    (s.dev.state ≠ .dormant → s.dev.state ≠ .off → (u.sensAt n).temp = temp + (s.sensAt n).offset ∧ (u.sensAt n).fresh = true ∧
      (u.sensAt n).sampledAt = s.now ∧ ∀ k, k ≠ n → k < 140 → (u.sensAt k).temp = (s.sensAt k).temp)) ∧
  (∀ (s : State) (n w : Nat) (th : Int), n < 140 → w < 3 → s.threshold (groupOf n) w = some th →
    let x := s.sensAt n
    let c := Table.at x.cross w {}
    (x.temp < th - s.hysteresis (groupOf n) w → 0 ≤ s.hysteresis (groupOf n) w → s.compareSample n w = s.updSens n fun x =>
      { x with cross := Table.upd x.cross w fun c => { c with above := 0, belowSince := some (c.belowSince.getD s.now) } }) ∧
    (th ≤ x.temp → 0 ≤ s.hysteresis (groupOf n) w → c.above < 2 → s.compareSample n w = s.updSens n fun x =>
      { x with cross := Table.upd x.cross w fun c => { c with above := c.above + 1, belowSince := none } }) ∧
    (th ≤ x.temp → 0 ≤ s.hysteresis (groupOf n) w → 2 ≤ c.above → c.inState = false →
      s.compareSample n w = (((s.updSens n fun x => { x with cross := Table.upd x.cross w fun c =>
        { c with above := 3, belowSince := none, inState := true } }).logCrossing n w true).crossingEntered n w))) ∧
  (∀ (s : State) (n w : Nat), n < 140 → w < 3 →
    (s.sensIn n w = true → (Table.at (s.sensAt n).cross w {}).belowSince.isSome = true → Effect (.thresholdExit n w) s
      (((s.updSens n fun x => { x with cross := Table.upd x.cross w fun c => { c with inState := false } }).logCrossing n w
        false).throttleFollowAll)) ∧
    (s.sensIn n w = false ∨ (Table.at (s.sensAt n).cross w {}).belowSince = none → Effect (.thresholdExit n w) s s)) ∧
  (∀ (s : State) (m : Nat), m < 16 →
    let x := s.mouldAt m
    (x.throttle ≠ 0 → x.releasing = false → s.thm.blind.getLsbD m = false → s.mouldAdds m = true → Effect (.throttleStep m) s
      ((s.updMould m fun x => { x with throttle := min 16 (x.throttle + 1) }).refreshMult m)) ∧
    (x.throttle = 0 ∨ x.releasing = true ∨ s.mouldAdds m = false → Effect (.throttleStep m) s s) ∧
    (2 ≤ x.throttle → x.releasing = true → s.thm.blind.getLsbD m = false → Effect (.throttleReleaseStep m) s
      ((s.updMould m fun x => { x with throttle := x.throttle - 1, releasing := true }).refreshMult m)) ∧
    (x.throttle = 1 → x.releasing = true → s.thm.blind.getLsbD m = false → Effect (.throttleReleaseStep m) s
      ((s.updMould m fun x => { x with throttle := 0, releasing := false, mref := 0 }).refreshMult m)) ∧
    (x.throttle = 0 ∨ x.releasing = false → Effect (.throttleReleaseStep m) s s)) ∧
  (∀ (s : State) (k : Nat), k < 8 →
    let rate (f : Nat → Nat) : State := { s with thm := { s.thm with hbmRate := Table.upd s.thm.hbmRate k f } }
    (s.sensIn (128 + k) 1 = true → s.aboveEdge 3 1 (s.sensAt (128 + k)).temp = true →
      Effect (.hbmThrottleStep k) s (rate fun r => max 4 (r - 1))) ∧
    (s.sensIn (128 + k) 1 = true → s.aboveEdge 3 1 (s.sensAt (128 + k)).temp = false → Effect (.hbmThrottleStep k) s s) ∧
    (s.sensIn (128 + k) 1 = false → Effect (.hbmThrottleStep k) s (rate fun r => min 8 (r + 1)))) ∧
  (∀ s : State,
    let back : State := { s with thm := { s.thm with capW := min s.row.fallbackW s.pwrCeil, capSrc := 1 } }
    (s.fwRuns = true → s.thm.capSrc ≠ 1 → s.thm.capAt = none → Effect .capFallback s back.warmBandCap) ∧
    (s.fwRuns = true → s.thm.capSrc ≠ 1 → s.thm.capAt.isSome = true →
      Effect .capFallback s (({ back with thm := { back.thm with fellBack := true } }).log 0x6005 (param [(2, s.fallbackCap)])).warmBandCap) ∧
    (s.fwRuns = false ∨ s.thm.capSrc = 1 → Effect .capFallback s s) ∧
    (s.thm.mCap = 29 → s.thm.duty = 1 → s.thm.capW < s.thm.pkgW → Effect .capUnmet s (s.warnSet 9)) ∧
    (s.thm.mCap ≠ 29 ∨ s.thm.duty ≠ 1 ∨ s.thm.pkgW ≤ s.thm.capW → Effect .capUnmet s s) ∧
    (∀ c, c < 11 → s.fwRuns = true → s.warnCondition c = true → Effect (.warnCauseSet c) s (s.warnSet c)) ∧
    (∀ c, c < 11 → s.fwRuns = false ∨ s.warnCondition c = false → Effect (.warnCauseSet c) s s) ∧
    (∀ c, c < 11 → s.fwRuns = true → s.warnCondition c = false → (c = 5 → s.pho.fixedFlow = false ∨ 100 < s.headroomMin) →
      (c = 9 → s.thm.pkgW < s.thm.capW) → Effect (.warnCauseClear c) s (s.warnClear c)) ∧
    (∀ c, c < 11 → s.fwRuns = false ∨ s.warnCondition c = true ∨ (c = 9 ∧ s.thm.capW ≤ s.thm.pkgW) → Effect (.warnCauseClear c) s s) ∧
    (∀ a b, s.thm.tIn = some a → s.thm.tOut = some b → s.fwRuns = true → 400 ≤ s.thm.pkgW → 200 ≤ b - a → Effect .flowEstimate s
      { s with thm := { s.thm with flow := some (60 * s.thm.pkgW * 10000 / (s.row.kC * (b - a).toNat)) } }) ∧
    (s.thm.tIn = none ∨ s.thm.tOut = none ∨ s.fwRuns = false ∨ s.thm.pkgW < 400 → Effect .flowEstimate s s)) ∧
  (∀ (s : State) (c : Nat), c < 11 → (s.warnSet c).thm.warn = s.thm.warn ||| BitVec.ofNat 11 (2 ^ c) ∧
    (s.warnClear c).thm.warn = s.thm.warn &&& ~~~ BitVec.ofNat 11 (2 ^ c))

/-- Parts of 13 R555-R557, R560-R565, R573, 02 R84, 03 R114, R117, Table 13-8: a power tick enters the history, whose last 100 ticks are PKG_W
and CORE_W, never raises the cap limit or the duty cycle above the limit, never lowers them below it where AVSBus answers, and moves VCORE
by at most 25 mV; where AVSBus stays silent VCORE stays and the clock is held to what it supports; the scale follows fresh telemetry and
is kept while some is stale, and a start's samples are taken; the
predictor moves by its model and by 1/64 of its difference from the measured mean, and is refitted after ten minutes. How far a tick moves
a limit is free (log entry 43). -/
def Obligations.PowerAndPredictionAct : Prop :=
  (∀ (s : State) (a c v : Nat) (ack : Bool × Bool),
    let est := a * s.thm.scale / 65536
    let high := min s.thm.capW 1600 < est + s.estError est ∨ (s.thm.rampAllow ≠ 0xFFFF ∧ s.thm.rampAllow < c)
    ∃ u : State, Effect (.powerControlTick a c ⟨v, ack⟩) s u ∧
      u.thm.power = ((est, c, decide (u.thm.mCap < 156 ∨ u.thm.duty < 8)) :: s.thm.power).take 10000 ∧
      (let ms := u.thm.power.take 100
       u.thm.pkgW = min 0xFFFF ((ms.map (·.1)).sum / ms.length) ∧ u.thm.coreW = min 0xFFFF ((ms.map (·.2.1)).sum / ms.length)) ∧
      (high → u.thm.mCap ≤ s.thm.mCap ∧ u.thm.duty ≤ s.thm.duty ∧ (29 < s.thm.mCap → u.thm.mCap < s.thm.mCap ∧ 29 ≤ u.thm.mCap) ∧
        (s.thm.mCap ≤ 29 → 1 < s.thm.duty → u.thm.duty < s.thm.duty ∧ 1 ≤ u.thm.duty)) ∧
      (¬ high → ack.1 = true ∨ ack.2 = true → s.thm.mCap ≤ u.thm.mCap ∧ s.thm.duty ≤ u.thm.duty) ∧
      (s.supply.avsOk = false → ack = (false, false) → u.supply.avsOk = false ∧ u.supply.avsReq = s.supply.avsReq ∧
        u.supply.avsAck = s.supply.avsAck ∧ u.thm.mCap ≤ s.supply.clockFor) ∧
      u.supply.avsReq ≤ s.supply.avsReq + 25 ∧ s.supply.avsReq ≤ u.supply.avsReq + 25 ∧
      u = { s with thm := u.thm, mould := u.mould, supply := u.supply, out := u.out }) ∧
  (∀ s : State, ∃ u : State, Effect .estimateRescale s u ∧
    ((s.supply.tele.toList.any (·.stale)) = true ∨ s.thm.pkgW = 0 → u.thm.scale = s.thm.scale) ∧
    ((s.supply.tele.toList.any (·.stale)) = false → s.thm.pkgW ≠ 0 →
      u.thm.scale = s.thm.scale * ((s.supply.tele.toList.map fun t => t.vout * t.iout).sum / 10000) / s.thm.pkgW) ∧
    (∀ m l, s.dieMean = some m → s.thm.seed = some l → l.length < 2 → u.thm.seed = some (m :: l)) ∧
    (s.thm.seed = none →
      (∀ m, s.dieMean = some m → s.dev.state = .serving → u.dev.servingSamples = (m :: s.dev.servingSamples).take 6000) ∧
      u.thm.capW = s.thm.capW ∧ u.mould = s.mould ∧ u.part = s.part ∧ u.mem = s.mem)) ∧
  (∀ s : State,
    let hist := if s.inService then min 600000 (s.thm.history + 1) else s.thm.history
    (s.thm.tIn = none → Effect .predictorUpdate s { s with thm := { s.thm with history := hist } }) ∧
    (∀ t, s.thm.tIn = some t →
      let drive := t * 65536 / 100 + ((s.thm.rTh * s.thm.coreW * 65536 : Nat) : Int) / 1000000
      let t1 := s.thm.tPred + (drive - s.thm.tPred) / ((max 1 s.thm.tau : Nat) : Int)
      let t2 := match meanOf (s.validTemps (List.range 80)) with
        | some m => t1 + (m * 65536 / 100 - t1) / 64
        | none => t1
      (∃ u : State, Effect .predictorUpdate s u ∧ u.thm.tPred = t2 ∧ u.thm.history = hist) ∧
      (s.ramps = false → s.thm.rampAllow = 0xFFFF →
        Effect .predictorUpdate s { s with thm := { s.thm with history := hist, tPred := t2 } })) ∧
    (∀ r u, s.thm.history = 600000 → Effect (.predictorRefit r u) s
      { s with thm := { s.thm with rTh := max 20000 (min 60000 r), tau := max 500 (min 5000 u) } }) ∧
    (∀ r u, s.thm.history ≠ 600000 → Effect (.predictorRefit r u) s s))

/-- Parts of 14 R580-R611, Tables 14-5, 14-6: a conversion of the entry whose turn it is in a running array's scan reports its code, rounded
from the input, with SEQ advanced, clamped with OVR beyond range, with NBR while it settles and EXC without the string, and the scan goes
on; a withdrawn converter repeats its value with CAL; a triggered SAR scan runs once. The string and VLOOP fall with a record and return; a
span change sits at its safe code until its hold ends, and then takes the last code held; compliance is lost and regained with a record;
sines and the rope paths change where they run. -/
def Obligations.AnalogArrayConverts : Prop :=
  (∀ (s : State) (n k : Nat) (vin : Int) (vt : Nat), n < 4 → k < 8 → s.stew.scanSeen = none →
    (∀ p, Table.at s.pln.dom 0 none = some p → p.qty ≠ 0x0010 ∨ p.index ≠ n) →
    let d := Table.at s.aar.ds n {}
    let prev := Table.at d.sample k 0
    let next := if d.nscan ≤ k then 0 else k + 1
    let set (f : DsConv → DsConv) : State := { s with aar := { s.aar with ds := Table.upd s.aar.ds n f } }
    (s.arrayRuns = false ∨ d.en = false ∨ k ≠ d.next → Effect (.dsConversion n k ⟨vin, vt⟩) s s) ∧
    (s.arrayRuns = true → d.en = true → k = d.next → d.cal = true →
      Effect (.dsConversion n k ⟨vin, vt⟩) s (set fun d => { d with sample := Table.put d.sample k (prev ||| 16#32), next := next })) ∧
    (s.arrayRuns = true → d.en = true → k = d.next → d.cal = false →
      let raw := d.code vin vt
      let exc := d.touch && !s.aar.stringOk
      let ov : Prop := exc = true ∨ raw < -(2 ^ 23) ∨ 2 ^ 23 ≤ raw
      let t := set fun d => { d with
        sample := Table.put d.sample k (sampleWord (unsgn 24 (if exc = true ∧ 0 ≤ raw then 2 ^ 23 - 1 else if exc = true then -(2 ^ 23)
          else max (-(2 ^ 23)) (min (2 ^ 23 - 1) raw))) (decide ov) (decide (0 < d.nbr)) exc false (swSeq prev + 1))
        nbr := if ov then max (d.nbr - 1) (if 2 * raw.natAbs ≤ 3 * 2 ^ 23 then 2 else 8) else d.nbr - 1
        next := next }
      (d.touch = false ∨ d.nbr ≠ 0 → Effect (.dsConversion n k ⟨vin, vt⟩) s t) ∧
      ∃ u : State, Effect (.dsConversion n k ⟨vin, vt⟩) s u ∧ u = { t with thm := u.thm })) ∧
  (∀ (d : DsConv) (vin : Int) (vt : Nat),
    let ref : Int := if d.touch = true then vt else 2500000000
    ref ≠ 0 → 2 * (d.code vin vt * ref - 2 ^ d.gain * vin * 2 ^ 23).natAbs ≤ ref) ∧
  (∀ (s : State) (n k : Nat) (vin : Int), n < 2 → k < 16 →
    (∀ p, Table.at s.pln.dom 0 none = some p → p.qty ≠ 0x0011 ∨ p.index ≠ n) →
    let d := Table.at s.aar.sar n {}
    let prev := Table.at d.sample k 0
    let next := if d.nscan ≤ k + 1 then 0 else k + 1
    let set (f : SarConv → SarConv) : State := { s with aar := { s.aar with sar := Table.upd s.aar.sar n f } }
    (s.arrayRuns = false ∨ d.nscan = 0 ∨ k ≠ d.next ∨ (d.trigger ≠ none ∧ d.armed = false) → Effect (.sarConversion n k vin) s s) ∧
    (s.arrayRuns = true → d.nscan ≠ 0 → k = d.next → d.trigger = none ∨ d.armed = true →
      (d.cal = true → Effect (.sarConversion n k vin) s
        (set fun d => { d with sample := Table.put d.sample k (prev ||| 16#32), next := next, armed := next != 0 })) ∧
      (d.cal = false →
        let c := if d.bi.getLsbD k then sarCode vin + 32768 else sarCode vin
        let full : Nat := if d.bi.getLsbD k then 32768 else 65536
        Effect (.sarConversion n k vin) s (set fun d => { d with
          sample := Table.put d.sample k (sampleWord (256 * (max 0 (min 65535 c)).toNat) (decide (c < 0 ∨ 65535 < c)) (decide (0 < d.nbr))
            false false (swSeq prev + 1))
          nbr := if c < 0 ∨ 65535 < c then max (d.nbr - 1) (if 2 * (sarCode vin).natAbs ≤ 3 * full then 2 else 8) else d.nbr - 1
          next := next
          armed := next != 0 })))) ∧
  (∀ vin : Int, 2 * (sarCode vin * 5000000000 - vin * 65536).natAbs ≤ 5000000000) ∧
  (∀ (s : State) (n : Nat), n < 8 →
    let o := s.aoutAt n
    (∀ sp, sp < 4 → s.fwRuns = true → Effect (.spanWrite n sp) s
      (s.updAout n fun o => { o with hold := some (sp, none), code := safeCode o.span, clamp := false })) ∧
    (∀ sp, 4 ≤ sp ∨ s.fwRuns = false → Effect (.spanWrite n sp) s s) ∧
    (o.hold = none → Effect (.spanHoldEnd n) s s) ∧
    (∀ sp, o.hold = some (sp, none) → Effect (.spanHoldEnd n) s
      (s.updAout n fun o => { o with span := sp, code := safeCode sp, hold := none })) ∧
    (∀ sp c, o.hold = some (sp, some c) → Effect (.spanHoldEnd n) s (s.updAout n fun o => { o with
      span := sp, hold := none, code := c, clamp := decide (c < (spanClamp sp).1 ∨ (spanClamp sp).2 < c) })) ∧
    (∀ (lim : Bool) (v : Nat), v < 65536 →
      let d := ((v : Int) - max (spanClamp o.span).1 (min (spanClamp o.span).2 o.code)).natAbs
      (o.differs v lim = true ↔ (o.span = 1 ∧ 400 < d) ∨ (o.span = 2 ∧ (320 < d ∨ lim = true)) ∨
        (o.span ≠ 1 ∧ o.span ≠ 2 ∧ (160 < d ∨ lim = true))) ∧
      let lost := o.differs v lim && s.compliedTo n
      let t := ((s.updAout n fun o => { o with sense := v, complLost := lost }).log 0x7004 (param [(1, n)]) none lost true)
      (lost = o.complLost → Effect (.complianceCheck n lim v) s (s.updAout n fun o => { o with sense := v })) ∧
      (n ≠ 0 → lost ≠ o.complLost → Effect (.complianceCheck n lim v) s t) ∧
      (n = 0 → lost = true → o.complLost = false → Effect (.complianceCheck n lim v) s (t.fixedFlowFollow.warnSet 5)) ∧
      (n = 0 → lost = false → o.complLost = true → Effect (.complianceCheck n lim v) s t.fixedFlowFollow))) ∧
  (∀ s : State,
    (s.aar.excEn = true → s.aar.stringOk = true →
      Effect .stringComplianceLoss s (({ s with aar := { s.aar with stringOk := false } } : State).log 0x7006 [])) ∧
    (s.aar.excEn = false ∨ s.aar.stringOk = false → Effect .stringComplianceLoss s s) ∧
    (s.aar.excEn = true → Effect .stringComplianceRegain s { s with aar := { s.aar with stringOk := true } }) ∧
    (s.aar.excEn = false → Effect .stringComplianceRegain s s) ∧
    (s.aar.vloopOk = true → Effect .vloopLoss s
      (({ s with aar := { s.aar with vloopOk := false, vloopUse := false } } : State).log 0x7005 [])) ∧
    (s.aar.vloopOk = false → Effect .vloopLoss s s) ∧
    (s.aar.vloopUse = false → Effect .vloopReturn s
      (({ s with aar := { s.aar with vloopOk := true, vloopUse := true } } : State).log 0x7005 [] none false true)) ∧
    (s.aar.vloopUse = true → Effect .vloopReturn s s) ∧
    (∀ n en inc am, n < 2 → s.sineRuns = true → am ≤ 50000 → Effect (.sineChange n en inc am) s
      { s with aar := { s.aar with sine := Table.put s.aar.sine n { en := en, ampl := am, inc := inc % 2 ^ 32 } } }) ∧
    (∀ n en inc am, n < 2 → s.sineRuns = false ∨ 50000 < am → Effect (.sineChange n en inc am) s s) ∧
    (s.sineRuns = true → (Table.at s.aar.sine 0 {}).en = true → (Table.at s.aar.sine 1 {}).en = true →
      Effect .ropePathSwitch s { s with aar := { s.aar with ropeRect := true } }) ∧
    (s.sineRuns = false ∨ (Table.at s.aar.sine 0 {}).en = false ∨ (Table.at s.aar.sine 1 {}).en = false → Effect .ropePathSwitch s s))

/-- Parts of 12 R518, R519, 14 R592, 15 R614, R620-R639, R647: an enabled slot of a running engine takes a sample at its next start tick:
its inputs are judged, it acts on lost feedback, it computes its law or holds, slot 1 within the clamps of 12 R518, and a SAR scan that
waits for it is triggered; its outputs go out at its output phase, and the DISABLE values of one that has been disabled; set-points are
judged at the write; a slot that is enabled starts without history. -/
def Obligations.LoopSlotsRun : Prop :=
  ∀ (s : State) (n : Nat), n < 64 →
    let x := s.slotAt n
    (s.engineRuns = false ∨ x.en = false ∨ x.cfg.law = 0 → Effect (.slotSample n) s s) ∧
    (s.engineRuns = true → x.en = true → x.cfg.law ≠ 0 →
      let t := s.nextStart x
      let j := s.judgeInputs t x.swap
      let y := j.1.act
      ∃ u : State, Effect (.slotSample n) s u ∧ u.lpe.tick = t ∧ (u.slotAt n).lastStart = some t ∧ (u.slotAt n).alt = y.alt ∧
        (u.slotAt n).action = y.action ∧
        (y.stopped = true ∨ (n = 1 ∧ s.pho.fixedFlow = true) →
          (u.slotAt n).out = y.out ∧ (u.slotAt n).sec = y.sec ∧ (u.slotAt n).setUsed = y.setpoint) ∧
        (y.stopped = false → (n = 1 → s.pho.fixedFlow = false) →
          let z := y.compute (s.bankInForce n y)
          (u.slotAt n).out = z.out ∧ (u.slotAt n).sec = z.sec ∧ (u.slotAt n).xh = z.xh ∧ (u.slotAt n).sat = z.sat) ∧
        (∀ k, k < 2 → (Table.at s.aar.sar k {}).trigger = some n → (Table.at u.aar.sar k {}).armed = true) ∧
        (∀ m, m ≠ n → m ≠ 0 → u.slotAt m = s.slotAt m) ∧ u.part = s.part ∧ u.mem = s.mem) ∧
    (s.engineRuns = false ∨ x.cfg.law = 0 ∨ (x.disabling = false ∧ (x.en = false ∨ x.lastStart = none)) → Effect (.slotOutputPhase n) s s) ∧
    (n ≠ 1 → s.bankInForce n x = x.active) ∧
    (s.engineRuns = true → x.cfg.law ≠ 0 → x.disabling = true ∨ (x.en = true ∧ x.lastStart.isSome = true) →
      let vs : List (SlotOut × Reg32) := (List.range x.cfg.nout).map fun q =>
        let o := Table.at x.cfg.out q {}
        (o, if x.disabling then o.disable else Table.at x.out q 0)
      let s2 := (vs.foldl (fun (s : State) e => s.deliverOut n e.1 e.2) s).updSlot n fun x => { x with
        delivered := x.delivered.mapIdx fun q (d : Reg32) => ((vs[q]?).map (·.2)).getD d
        disabling := false }
      Effect (.slotOutputPhase n) s { s2 with lpe := { s2.lpe with tick := max s2.lpe.tick (x.lastStart.elim 0 (· + x.cfg.outPhase)) } }) ∧
    (∀ v, s.fwRuns = true → x.cfg.law ≠ 0 → lwGood v = true →
      (s.judgeSetpoint n v = .accepted → Effect (.setpointWrite n v) s (s.updSlot n fun x => { x with setpoint := v, guardRej := false })) ∧
      (s.judgeSetpoint n v = .guard → Effect (.setpointWrite n v) s
        ((s.updSlot n fun x => { x with guardRej := true }).log 0x7003 (param [(1, n), (4, v.toNat)]))) ∧
      (s.judgeSetpoint n v = .parent ∨ s.judgeSetpoint n v = .envelope → Effect (.setpointWrite n v) s s)) ∧
    (∀ v, s.fwRuns = false ∨ lwGood v = false → Effect (.setpointWrite n v) s s) ∧
    (s.fwRuns = true → x.cfg.law ≠ 0 → x.en = false → ∃ u : State, Effect (.slotEnable n) s u ∧ (u.slotAt n).en = true ∧
      (u.slotAt n).out = x.delivered ∧ (u.slotAt n).preload = true ∧ (u.slotAt n).lastStart = none ∧ (u.slotAt n).action = 0 ∧
      (∀ m, m ≠ n → u.slotAt m = s.slotAt m) ∧ u = { s with lpe := u.lpe }) ∧
    (x.cfg.law = 0 ∨ x.en = true ∨ s.fwRuns = false → Effect (.slotEnable n) s s) ∧
    (s.fwRuns = true → x.en = true → Effect (.slotDisable n) s
      (s.updSlot n fun x => { x with en := false, disabling := true, action := 0, alt := 0 })) ∧
    (x.en = false ∨ s.fwRuns = false → Effect (.slotDisable n) s s)

/-- Parts of 04 R180, 16 R651-R667, Table 16-7: once a boot is complete, a step of an item in use, with its domain free and no PLANISH_RUN
of it waiting, runs, a scorer channel's in a gap between batches; it checks the Touchstone, its precondition and the plausibility of its
result, and ends DONE, PRECOND or REJECT, or goes on tap by tap; a withdrawal runs for lanes and channels only; a tap moves one tap; a
timeout takes the taps back; an item without DONE for twice its interval is OVERDUE, with its record. -/
def Obligations.CalibrationStepsEnd : Prop :=
  (∀ (s : State) (q i : Nat) (m : PMeas),
    (s.stepMayRun q i = false → Effect (.planishStep q i m) s s ∧ Effect (.planishWithdraw q i m) s s) ∧
    (q ≠ 0x0040 → q ≠ 0x0050 → Effect (.planishWithdraw q i m) s s) ∧
    (i < planishCount q → s.fwRuns = true → s.boot.complete = true → s.itemUsed q i = true → Table.at s.pln.dom (planishDomain q) none = none →
      (∀ f ∈ s.damem.inflight, ∀ q' i', f.wait = .planish q' i' → planishDomain q' ≠ planishDomain q) → s.stepMayRun q i = true) ∧
    (s.fwRuns = false ∨ s.boot.complete = false ∨ s.itemUsed q i = false ∨ planishCount q ≤ i ∨
      Table.at s.pln.dom (planishDomain q) none ≠ none → s.stepMayRun q i = false) ∧
    (s.stepMayRun q i = true →
      let ask := s.damem.inflight.any fun f => f.wait == .planish q i
      (ask = true ∨ q ≠ 0x0050 ∨ s.wmk.flight = [] → Effect (.planishStep q i m) s (State.safeCause (s.runStep q i m ask) 6)) ∧
      (ask = false → q = 0x0050 → s.wmk.flight ≠ [] → Effect (.planishStep q i m) s s) ∧
      (q = 0x0040 ∨ q = 0x0050 → Effect (.planishWithdraw q i m) s (State.safeCause (s.runStep q i m true) 6))) ∧
    (∀ ask, let t := if q = 0x0001 ∨ planishDepends q = true then s.touchCheck m.touchOhm else s
      let prev := if (t.itemAt q i).doneOnce then some (t.itemAt q i).coef else none
      (q = 0x0001 ∨ planishDepends q = true → t.supply.touchFault = true → s.runStep q i m ask = t.endStep q i 1 .precond 0) ∧
      (q = 0x0001 → t.supply.touchFault = false → s.runStep q i m ask = t.endStep q i 5 .done 0) ∧
      (q ≠ 0x0001 → planishDepends q = false ∨ t.supply.touchFault = false →
        t.itemUsed q i = false ∨ t.itemPre q i = false ∨ m.pre = false → s.runStep q i m ask = t.endStep q i 2 .precond 0) ∧
      (q ≠ 0x0001 → planishDepends q = false ∨ t.supply.touchFault = false → t.itemUsed q i = true → t.itemPre q i = true →
        m.pre = true → plausible q prev (t.ringCoefs i) (t.stepResult q i m.result) = false → s.runStep q i m ask = t.endStep q i 4 .reject m.ppm) ∧
      (q = 0x0020 ∨ q = 0x0002 → t.supply.touchFault = false → t.itemUsed q i = true → t.itemPre q i = true → m.pre = true →
        plausible q prev (t.ringCoefs i) m.result = true → s.runStep q i m ask = ((t.applyBoundary q i m.result).updItem q i fun x =>
          { x with coef := m.result }).endStep q i 5 .done m.ppm))) ∧
  (∀ (s : State) (d : Nat), d < 5 →
    (Table.at s.pln.dom d none = none → Effect (.planishTap d) s s ∧ Effect (.planishTimeout d) s s) ∧
    (∀ p, Table.at s.pln.dom d none = some p →
      (p.qty = 0x0010 ∨ p.qty = 0x0011 → Effect (.planishTap d) s s) ∧
      (p.qty ≠ 0x0010 → p.qty ≠ 0x0011 →
        let t := (s.planishCommit p.qty p.index).tapOnce p
        ((t.2.taps.all fun x => x.2 == 0) = false → Effect (.planishTap d) s
          { t.1 with pln := { t.1.pln with dom := Table.put t.1.pln.dom d (some t.2) } }) ∧
        ((t.2.taps.all fun x => x.2 == 0) = true → Effect (.planishTap d) s (State.safeCause (t.1.finishStep t.2) 6))) ∧
      (let back : State := (List.range p.taps.length).foldl (fun s k =>
         let t := (p.taps[k]?).getD (0, 0)
         if t.1 = t.2 then s else s.moveTap p.qty p.index k (t.2 - t.1)) s
       Effect (.planishTimeout d) s (State.safeCause (back.endStep p.qty p.index p.phase .timeout p.ppm) 6)))) ∧
  (∀ (s : State) (q i : Nat),
    (q ≠ 0x0001 → i < planishCount q → (s.itemAt q i).overdue = false →
      let t := (s.updItem q i fun x => { x with overdue := true }).log 0x5008 (planishParam q i 0x5008 0 0)
      (q ≠ 0x0002 → q ≠ 0x0010 → q ≠ 0x0011 → Effect (.planishOverdue q i) s t) ∧
      (q = 0x0002 ∨ q = 0x0010 ∨ q = 0x0011 → Effect (.planishOverdue q i) s { t with aar := { t.aar with convCal := false } })) ∧
    (q = 0x0001 ∨ planishCount q ≤ i ∨ (s.itemAt q i).overdue = true → Effect (.planishOverdue q i) s s)) ∧
  (∀ (s : State) (q i ph : Nat) (out : POut) (ppm : Int), q ≠ 0x0020 → q ≠ 0x0050 →
    let u := (s.endStep q i ph out ppm).2
    let x := s.itemAt q i
    (u.itemAt q i).last = some out.status ∧ (u.itemAt q i).fails = (if out = .done then 0 else min 3 (x.fails + 1)) ∧
      (u.itemAt q i).doneOnce = (x.doneOnce || out == .done) ∧ (u.itemAt q i).coef = x.coef ∧
      (u.itemAt q i).failed = (if out = .done then false else x.failed || (min 3 (x.fails + 1) == 3 && x.fails == 2)))

/-- Parts of 18 R719, R722-R724, R728, R731, R737-R742, R748, R749, R752, Tables 18-3, 18-6, 18-8: a release goes on by one stage, and with
the last a sector is RUNNING; a swap window loads the new image by kind; a window that does not start in time leaves the old image; a scrub
that finds a fault parks the sector; frames and characters of the serial ports, the fabric flash of a region's own sector, an erase or a
program that power loss cuts off, samples of the input registers that a released sector writes, the pulse of a second and the trim of the
oscillators. -/
def Obligations.FabricEventsAct : Prop :=
  (∀ s : State, ∃ u : State, Effect .filReleaseStage s u ∧
    (∀ n, n < 16 → (s.sectorAt n).releasing = true → (u.sectorAt n).release = min 3 ((s.sectorAt n).release + 1) ∧
      (u.sectorAt n).releasing = decide ((s.sectorAt n).release + 1 < 3) ∧
      (2 ≤ (s.sectorAt n).release → (u.sectorAt n).state = .running)) ∧
    (∀ n, n < 16 → (s.sectorAt n).releasing = false → u.sectorAt n = s.sectorAt n) ∧
    u.fil.release = (if s.boot.complete = true ∧ s.fil.release < 3 then s.fil.release + 1 else s.fil.release)) ∧
  (∀ (s : State) (n : Nat) (ev : SwapEvents) (im : SecImage), n < 16 → s.swapReady n = true → (s.sectorAt n).shadow = some im →
    let x := s.sectorAt n
    ∃ u : State, Effect (.swapWindow n ev) s u ∧ (u.sectorAt n).image = some im ∧ (u.sectorAt n).state = .running ∧
      (u.sectorAt n).release = 3 ∧ (u.sectorAt n).historyFf = ev.history ∧
      (x.state ≠ .empty → x.state ≠ .fault → x.image.map (·.carryId) = some im.carryId → (u.sectorAt n).carryFf = x.carryFf) ∧
      (x.state = .empty ∨ x.state = .fault ∨ x.image.map (·.carryId) ≠ some im.carryId → (u.sectorAt n).carryFf = im.initial 0) ∧
      (let kept := x.capture &&& ~~~ ev.cleared
       let fresh := ev.captured &&& BitVec.ofNat 16 (2 ^ im.capCount - 1)
       (u.sectorAt n).capture = kept ||| fresh ∧ (u.sectorAt n).capOvf = satAdd 8 x.capOvf (popCount 16 (fresh &&& kept).toNat)) ∧
      (u.sectorAt n).lostEdges = satAdd 16 x.lostEdges ev.lost ∧ (∀ m, m ≠ n → u.sectorAt m = s.sectorAt m)) ∧
  (∀ (s : State) (n : Nat) (ev : SwapEvents), n < 16 → s.swapReady n = false → Effect (.swapWindow n ev) s s) ∧
  (∀ (s : State) (n : Nat), s.fil.busy = some n → Effect .swapStagingTimeout s
    (((s.updSector n fun x => { x with shadow := x.image }).answerWaiting (.swap n) .timeout).filNext)) ∧
  (∀ s : State, s.fil.busy = none → Effect .swapStagingTimeout s s) ∧
  (∀ (s : State) (n : Nat), n < 16 →
    let x := s.sectorAt n
    Effect (.configScrub n true) s s ∧
    (x.image = none ∨ x.state = .fault → Effect (.configScrub n false) s s) ∧
    (x.image ≠ none → x.state ≠ .fault → ∃ u : State, Effect (.configScrub n false) s u ∧ (u.sectorAt n).state = .fault ∧
      (u.sectorAt n).release = 0 ∧ (u.sectorAt n).image = x.image ∧
      (∀ im, x.shadow = some im → (crc32 im.payload == im.crc) = false → (u.sectorAt n).shadow = none) ∧
      (∀ im, x.shadow = some im → (crc32 im.payload == im.crc) = true → (u.sectorAt n).shadow = some im))) ∧
  (∀ (s : State) (p : Nat), p < 8 →
    let q := Table.at s.fil.port p {}
    let x := s.sectorAt q.sector
    let port (f : SPort → SPort) : State := { s with fil := { s.fil with port := Table.upd s.fil.port p f } }
    (q.mode ≠ 2 → Effect (.frameEnd p) s s) ∧
    (q.mode = 2 → q.frame = [] → Effect (.frameEnd p) s (port fun q => { q with de := false })) ∧
    (q.mode = 2 → q.frame ≠ [] → Effect (.frameEnd p) s (port fun q => { q with
      frameEnd := true
      crcOk := modbusCrc q.frame == 0
      de := false
      gapErr := if q.frameGap then satInc 8 q.gapErr else q.gapErr
      crcErr := if modbusCrc q.frame == 0 then q.crcErr else satInc 8 q.crcErr
      frame := []
      frameGap := false })) ∧
    (∀ rx b gap, q.mode = 0 ∨ s.inService = false ∨ x.release = 0 → Effect (.serialCharacter p rx b gap) s s) ∧
    (∀ b gap, q.mode ≠ 0 → s.inService = true → x.release ≠ 0 → q.mode ≠ 2 ∨ q.de = false →
      ∃ taken, taken ≤ q.rx.length ∧ Effect (.serialCharacter p true b gap) s { port fun q => { q with
          rx := if q.rx.length - taken < 256 then q.rx.drop taken ++ [b] else q.rx.drop taken
          frame := q.frame ++ [b]
          frameGap := q.frameGap || (gap && q.frame != [])
          frameEnd := false } with freeCtr := s.freeCtr + 1 }) ∧
    (∀ b gap, q.mode = 2 → q.de = true → Effect (.serialCharacter p true b gap) s s) ∧
    (∀ b gap, x.release < 2 → Effect (.serialCharacter p false b gap) s s) ∧
    (∀ b gap, q.mode ≠ 0 → s.inService = true → 2 ≤ x.release →
      let l := (q.txf ++ [b]).take 256
      Effect (.serialCharacter p false b gap) s ((port fun r => { r with
        txf := l.tail, de := q.mode == 2, underrun := if gap then satInc 8 q.underrun else q.underrun }).emit
          (.bus "SERIAL" [p, (l.headD b).toNat])))) ∧
  (∀ (s : State) (n w : Nat) (v : Reg64), n < 16 →
    (Table.at s.fil.region (w / 8192) none = some n → 2 ≤ (s.sectorAt n).release → s.inService = true → w ∉ s.fil.programmed →
      let t : State := { s with fil := { s.fil with
        flash := Mem.write 0xFF s.fil.flash (8 * w) (leBytes 8 v.toNat), programmed := w :: s.fil.programmed } }
      Effect (.fabricFlashProgram n w ⟨v, false⟩) s t ∧
      ∃ bad : Bool, Effect (.fabricFlashProgram n w ⟨v, true⟩) s { t with
        freeCtr := s.freeCtr + 1
        fil := { t.fil with badWords := if bad then w :: s.fil.badWords else s.fil.badWords } }) ∧
    (Table.at s.fil.region (w / 8192) none ≠ some n ∨ (s.sectorAt n).release < 2 ∨ s.inService = false ∨ w ∈ s.fil.programmed →
      ∀ cut, Effect (.fabricFlashProgram n w ⟨v, cut⟩) s s) ∧
    (Table.at s.fil.region (w / 16) none = some n → 2 ≤ (s.sectorAt n).release → s.inService = true →
      Effect (.fabricFlashErase n ⟨w, false⟩) s { s with fil := { s.fil with
        flash := Mem.clear s.fil.flash (4096 * w) 4096
        programmed := s.fil.programmed.filter fun x => x / 512 != w
        badWords := s.fil.badWords.filter fun x => x / 512 != w } } ∧
      ∃ u : State, Effect (.fabricFlashErase n ⟨w, true⟩) s u ∧ (∀ i, i < 512 → 512 * w + i ∈ u.fil.programmed) ∧
        (Mem.wf 0xFF s.fil.flash = true → ∀ a, a / 4096 ≠ w → Mem.get 0xFF u.fil.flash a = Mem.get 0xFF s.fil.flash a) ∧
        u = { s with fil := { s.fil with flash := u.fil.flash, programmed := u.fil.programmed } }) ∧
    (Table.at s.fil.region (w / 16) none ≠ some n ∨ (s.sectorAt n).release < 2 ∨ s.inService = false →
      ∀ cut, Effect (.fabricFlashErase n ⟨w, cut⟩) s s)) ∧
  (∀ (s : State) (r : Nat) (v : Reg32), r < 32 →
    (s.fil.regWrite.getLsbD r = false ∨ s.inService = false → Effect (.inRegStrobe r v) s s) ∧
    ((∀ n im, n < 16 → (s.sectorAt n).image = some im → im.writesReg r = true → (s.sectorAt n).release < 2) →
      Effect (.inRegStrobe r v) s s) ∧
    (∀ n im, n < 16 → s.fil.regWrite.getLsbD r = true → s.inService = true → (s.sectorAt n).image = some im → im.writesReg r = true →
      2 ≤ (s.sectorAt n).release → Effect (.inRegStrobe r v) s
        { s with fil := { s.fil with inReg := Table.upd s.fil.inReg r fun x => (v, (x.2 + 1) % 16) } })) ∧
  (∀ s : State, Effect .secPulse s (s.emit (.pulse "SEC_PULSE" (s.now / 32768)))) ∧
  (∀ (s : State) (a b : Nat),
    (s.clocks.xtalFault = true ∨ s.dev.state = .off ∨ s.dev.state = .dormant → Effect (.oscTrim a b) s s) ∧
    (s.clocks.xtalFault = false → s.dev.state ≠ .off → s.dev.state ≠ .dormant →
      Effect (.oscTrim a b) s { s with fil := { s.fil with oscTrim := some (a, b) } }))
end

