-- ==== Sys2Proof/Laws/State.lean ====
section
/-! SUPPORT. What each update of a table or a part of the state does to each field of the state: one lemma per field per update.
-/
namespace Sys2Proof.Machine

variable (s : State)

/-! ### State.updPart -/

@[simp] theorem State.updPart_supply (p : Nat) (f : Part → Part) : (s.updPart p f).supply = s.supply := rfl
@[simp] theorem State.updPart_clocks (p : Nat) (f : Part → Part) : (s.updPart p f).clocks = s.clocks := rfl
@[simp] theorem State.updPart_dev (p : Nat) (f : Part → Part) : (s.updPart p f).dev = s.dev := rfl
@[simp] theorem State.updPart_cmp (p : Nat) (f : Part → Part) : (s.updPart p f).cmp = s.cmp := rfl
@[simp] theorem State.updPart_otp (p : Nat) (f : Part → Part) : (s.updPart p f).otp = s.otp := rfl
@[simp] theorem State.updPart_flash (p : Nat) (f : Part → Part) : (s.updPart p f).flash = s.flash := rfl
@[simp] theorem State.updPart_hmk (p : Nat) (f : Part → Part) : (s.updPart p f).hmk = s.hmk := rfl
@[simp] theorem State.updPart_boot (p : Nat) (f : Part → Part) : (s.updPart p f).boot = s.boot := rfl
@[simp] theorem State.updPart_update (p : Nat) (f : Part → Part) : (s.updPart p f).update = s.update := rfl
@[simp] theorem State.updPart_row (p : Nat) (f : Part → Part) : (s.updPart p f).row = s.row := rfl
@[simp] theorem State.updPart_damem (p : Nat) (f : Part → Part) : (s.updPart p f).damem = s.damem := rfl
@[simp] theorem State.updPart_cal (p : Nat) (f : Part → Part) : (s.updPart p f).cal = s.cal := rfl
@[simp] theorem State.updPart_part (p : Nat) (f : Part → Part) : (s.updPart p f).part = Table.upd s.part p f := rfl
@[simp] theorem State.updPart_ring (p : Nat) (f : Part → Part) : (s.updPart p f).ring = s.ring := rfl
@[simp] theorem State.updPart_mould (p : Nat) (f : Part → Part) : (s.updPart p f).mould = s.mould := rfl
@[simp] theorem State.updPart_mem (p : Nat) (f : Part → Part) : (s.updPart p f).mem = s.mem := rfl
@[simp] theorem State.updPart_tally (p : Nat) (f : Part → Part) : (s.updPart p f).tally = s.tally := rfl
@[simp] theorem State.updPart_sriov (p : Nat) (f : Part → Part) : (s.updPart p f).sriov = s.sriov := rfl
@[simp] theorem State.updPart_wmk (p : Nat) (f : Part → Part) : (s.updPart p f).wmk = s.wmk := rfl
@[simp] theorem State.updPart_mesh (p : Nat) (f : Part → Part) : (s.updPart p f).mesh = s.mesh := rfl
@[simp] theorem State.updPart_pho (p : Nat) (f : Part → Part) : (s.updPart p f).pho = s.pho := rfl
@[simp] theorem State.updPart_thm (p : Nat) (f : Part → Part) : (s.updPart p f).thm = s.thm := rfl
@[simp] theorem State.updPart_aar (p : Nat) (f : Part → Part) : (s.updPart p f).aar = s.aar := rfl
@[simp] theorem State.updPart_lpe (p : Nat) (f : Part → Part) : (s.updPart p f).lpe = s.lpe := rfl
@[simp] theorem State.updPart_prog (p : Nat) (f : Part → Part) : (s.updPart p f).prog = s.prog := rfl
@[simp] theorem State.updPart_pln (p : Nat) (f : Part → Part) : (s.updPart p f).pln = s.pln := rfl
@[simp] theorem State.updPart_stew (p : Nat) (f : Part → Part) : (s.updPart p f).stew = s.stew := rfl
@[simp] theorem State.updPart_fil (p : Nat) (f : Part → Part) : (s.updPart p f).fil = s.fil := rfl
@[simp] theorem State.updPart_out (p : Nat) (f : Part → Part) : (s.updPart p f).out = s.out := rfl
@[simp] theorem State.updPart_freeCtr (p : Nat) (f : Part → Part) : (s.updPart p f).freeCtr = s.freeCtr := rfl
@[simp] theorem State.updPart_pending (p : Nat) (f : Part → Part) : (s.updPart p f).pending = s.pending := rfl

/-! ### State.updRing -/

@[simp] theorem State.updRing_supply (r : Nat) (f : Ring → Ring) : (s.updRing r f).supply = s.supply := rfl
@[simp] theorem State.updRing_clocks (r : Nat) (f : Ring → Ring) : (s.updRing r f).clocks = s.clocks := rfl
@[simp] theorem State.updRing_dev (r : Nat) (f : Ring → Ring) : (s.updRing r f).dev = s.dev := rfl
@[simp] theorem State.updRing_cmp (r : Nat) (f : Ring → Ring) : (s.updRing r f).cmp = s.cmp := rfl
@[simp] theorem State.updRing_otp (r : Nat) (f : Ring → Ring) : (s.updRing r f).otp = s.otp := rfl
@[simp] theorem State.updRing_flash (r : Nat) (f : Ring → Ring) : (s.updRing r f).flash = s.flash := rfl
@[simp] theorem State.updRing_hmk (r : Nat) (f : Ring → Ring) : (s.updRing r f).hmk = s.hmk := rfl
@[simp] theorem State.updRing_boot (r : Nat) (f : Ring → Ring) : (s.updRing r f).boot = s.boot := rfl
@[simp] theorem State.updRing_update (r : Nat) (f : Ring → Ring) : (s.updRing r f).update = s.update := rfl
@[simp] theorem State.updRing_row (r : Nat) (f : Ring → Ring) : (s.updRing r f).row = s.row := rfl
@[simp] theorem State.updRing_damem (r : Nat) (f : Ring → Ring) : (s.updRing r f).damem = s.damem := rfl
@[simp] theorem State.updRing_cal (r : Nat) (f : Ring → Ring) : (s.updRing r f).cal = s.cal := rfl
@[simp] theorem State.updRing_part (r : Nat) (f : Ring → Ring) : (s.updRing r f).part = s.part := rfl
@[simp] theorem State.updRing_ring (r : Nat) (f : Ring → Ring) : (s.updRing r f).ring = Table.upd s.ring r f := rfl
@[simp] theorem State.updRing_mould (r : Nat) (f : Ring → Ring) : (s.updRing r f).mould = s.mould := rfl
@[simp] theorem State.updRing_mem (r : Nat) (f : Ring → Ring) : (s.updRing r f).mem = s.mem := rfl
@[simp] theorem State.updRing_tally (r : Nat) (f : Ring → Ring) : (s.updRing r f).tally = s.tally := rfl
@[simp] theorem State.updRing_sriov (r : Nat) (f : Ring → Ring) : (s.updRing r f).sriov = s.sriov := rfl
@[simp] theorem State.updRing_wmk (r : Nat) (f : Ring → Ring) : (s.updRing r f).wmk = s.wmk := rfl
@[simp] theorem State.updRing_mesh (r : Nat) (f : Ring → Ring) : (s.updRing r f).mesh = s.mesh := rfl
@[simp] theorem State.updRing_pho (r : Nat) (f : Ring → Ring) : (s.updRing r f).pho = s.pho := rfl
@[simp] theorem State.updRing_thm (r : Nat) (f : Ring → Ring) : (s.updRing r f).thm = s.thm := rfl
@[simp] theorem State.updRing_aar (r : Nat) (f : Ring → Ring) : (s.updRing r f).aar = s.aar := rfl
@[simp] theorem State.updRing_lpe (r : Nat) (f : Ring → Ring) : (s.updRing r f).lpe = s.lpe := rfl
@[simp] theorem State.updRing_prog (r : Nat) (f : Ring → Ring) : (s.updRing r f).prog = s.prog := rfl
@[simp] theorem State.updRing_pln (r : Nat) (f : Ring → Ring) : (s.updRing r f).pln = s.pln := rfl
@[simp] theorem State.updRing_stew (r : Nat) (f : Ring → Ring) : (s.updRing r f).stew = s.stew := rfl
@[simp] theorem State.updRing_fil (r : Nat) (f : Ring → Ring) : (s.updRing r f).fil = s.fil := rfl
@[simp] theorem State.updRing_out (r : Nat) (f : Ring → Ring) : (s.updRing r f).out = s.out := rfl
@[simp] theorem State.updRing_freeCtr (r : Nat) (f : Ring → Ring) : (s.updRing r f).freeCtr = s.freeCtr := rfl
@[simp] theorem State.updRing_pending (r : Nat) (f : Ring → Ring) : (s.updRing r f).pending = s.pending := rfl

/-! ### State.updMould -/

@[simp] theorem State.updMould_supply (m : Nat) (f : Mould → Mould) : (s.updMould m f).supply = s.supply := rfl
@[simp] theorem State.updMould_clocks (m : Nat) (f : Mould → Mould) : (s.updMould m f).clocks = s.clocks := rfl
@[simp] theorem State.updMould_dev (m : Nat) (f : Mould → Mould) : (s.updMould m f).dev = s.dev := rfl
@[simp] theorem State.updMould_cmp (m : Nat) (f : Mould → Mould) : (s.updMould m f).cmp = s.cmp := rfl
@[simp] theorem State.updMould_otp (m : Nat) (f : Mould → Mould) : (s.updMould m f).otp = s.otp := rfl
@[simp] theorem State.updMould_flash (m : Nat) (f : Mould → Mould) : (s.updMould m f).flash = s.flash := rfl
@[simp] theorem State.updMould_hmk (m : Nat) (f : Mould → Mould) : (s.updMould m f).hmk = s.hmk := rfl
@[simp] theorem State.updMould_boot (m : Nat) (f : Mould → Mould) : (s.updMould m f).boot = s.boot := rfl
@[simp] theorem State.updMould_update (m : Nat) (f : Mould → Mould) : (s.updMould m f).update = s.update := rfl
@[simp] theorem State.updMould_row (m : Nat) (f : Mould → Mould) : (s.updMould m f).row = s.row := rfl
@[simp] theorem State.updMould_damem (m : Nat) (f : Mould → Mould) : (s.updMould m f).damem = s.damem := rfl
@[simp] theorem State.updMould_cal (m : Nat) (f : Mould → Mould) : (s.updMould m f).cal = s.cal := rfl
@[simp] theorem State.updMould_part (m : Nat) (f : Mould → Mould) : (s.updMould m f).part = s.part := rfl
@[simp] theorem State.updMould_ring (m : Nat) (f : Mould → Mould) : (s.updMould m f).ring = s.ring := rfl
@[simp] theorem State.updMould_mould (m : Nat) (f : Mould → Mould) : (s.updMould m f).mould = Table.upd s.mould m f := rfl
@[simp] theorem State.updMould_mem (m : Nat) (f : Mould → Mould) : (s.updMould m f).mem = s.mem := rfl
@[simp] theorem State.updMould_tally (m : Nat) (f : Mould → Mould) : (s.updMould m f).tally = s.tally := rfl
@[simp] theorem State.updMould_sriov (m : Nat) (f : Mould → Mould) : (s.updMould m f).sriov = s.sriov := rfl
@[simp] theorem State.updMould_wmk (m : Nat) (f : Mould → Mould) : (s.updMould m f).wmk = s.wmk := rfl
@[simp] theorem State.updMould_mesh (m : Nat) (f : Mould → Mould) : (s.updMould m f).mesh = s.mesh := rfl
@[simp] theorem State.updMould_pho (m : Nat) (f : Mould → Mould) : (s.updMould m f).pho = s.pho := rfl
@[simp] theorem State.updMould_thm (m : Nat) (f : Mould → Mould) : (s.updMould m f).thm = s.thm := rfl
@[simp] theorem State.updMould_aar (m : Nat) (f : Mould → Mould) : (s.updMould m f).aar = s.aar := rfl
@[simp] theorem State.updMould_lpe (m : Nat) (f : Mould → Mould) : (s.updMould m f).lpe = s.lpe := rfl
@[simp] theorem State.updMould_prog (m : Nat) (f : Mould → Mould) : (s.updMould m f).prog = s.prog := rfl
@[simp] theorem State.updMould_pln (m : Nat) (f : Mould → Mould) : (s.updMould m f).pln = s.pln := rfl
@[simp] theorem State.updMould_stew (m : Nat) (f : Mould → Mould) : (s.updMould m f).stew = s.stew := rfl
@[simp] theorem State.updMould_fil (m : Nat) (f : Mould → Mould) : (s.updMould m f).fil = s.fil := rfl
@[simp] theorem State.updMould_out (m : Nat) (f : Mould → Mould) : (s.updMould m f).out = s.out := rfl
@[simp] theorem State.updMould_freeCtr (m : Nat) (f : Mould → Mould) : (s.updMould m f).freeCtr = s.freeCtr := rfl
@[simp] theorem State.updMould_pending (m : Nat) (f : Mould → Mould) : (s.updMould m f).pending = s.pending := rfl

/-! ### State.updCmp -/

@[simp] theorem State.updCmp_supply (n : Nat) (f : Cmp → Cmp) : (s.updCmp n f).supply = s.supply := rfl
@[simp] theorem State.updCmp_clocks (n : Nat) (f : Cmp → Cmp) : (s.updCmp n f).clocks = s.clocks := rfl
@[simp] theorem State.updCmp_dev (n : Nat) (f : Cmp → Cmp) : (s.updCmp n f).dev = s.dev := rfl
@[simp] theorem State.updCmp_cmp (n : Nat) (f : Cmp → Cmp) : (s.updCmp n f).cmp = Table.upd s.cmp n f := rfl
@[simp] theorem State.updCmp_otp (n : Nat) (f : Cmp → Cmp) : (s.updCmp n f).otp = s.otp := rfl
@[simp] theorem State.updCmp_flash (n : Nat) (f : Cmp → Cmp) : (s.updCmp n f).flash = s.flash := rfl
@[simp] theorem State.updCmp_hmk (n : Nat) (f : Cmp → Cmp) : (s.updCmp n f).hmk = s.hmk := rfl
@[simp] theorem State.updCmp_boot (n : Nat) (f : Cmp → Cmp) : (s.updCmp n f).boot = s.boot := rfl
@[simp] theorem State.updCmp_update (n : Nat) (f : Cmp → Cmp) : (s.updCmp n f).update = s.update := rfl
@[simp] theorem State.updCmp_row (n : Nat) (f : Cmp → Cmp) : (s.updCmp n f).row = s.row := rfl
@[simp] theorem State.updCmp_damem (n : Nat) (f : Cmp → Cmp) : (s.updCmp n f).damem = s.damem := rfl
@[simp] theorem State.updCmp_cal (n : Nat) (f : Cmp → Cmp) : (s.updCmp n f).cal = s.cal := rfl
@[simp] theorem State.updCmp_part (n : Nat) (f : Cmp → Cmp) : (s.updCmp n f).part = s.part := rfl
@[simp] theorem State.updCmp_ring (n : Nat) (f : Cmp → Cmp) : (s.updCmp n f).ring = s.ring := rfl
@[simp] theorem State.updCmp_mould (n : Nat) (f : Cmp → Cmp) : (s.updCmp n f).mould = s.mould := rfl
@[simp] theorem State.updCmp_mem (n : Nat) (f : Cmp → Cmp) : (s.updCmp n f).mem = s.mem := rfl
@[simp] theorem State.updCmp_tally (n : Nat) (f : Cmp → Cmp) : (s.updCmp n f).tally = s.tally := rfl
@[simp] theorem State.updCmp_sriov (n : Nat) (f : Cmp → Cmp) : (s.updCmp n f).sriov = s.sriov := rfl
@[simp] theorem State.updCmp_wmk (n : Nat) (f : Cmp → Cmp) : (s.updCmp n f).wmk = s.wmk := rfl
@[simp] theorem State.updCmp_mesh (n : Nat) (f : Cmp → Cmp) : (s.updCmp n f).mesh = s.mesh := rfl
@[simp] theorem State.updCmp_pho (n : Nat) (f : Cmp → Cmp) : (s.updCmp n f).pho = s.pho := rfl
@[simp] theorem State.updCmp_thm (n : Nat) (f : Cmp → Cmp) : (s.updCmp n f).thm = s.thm := rfl
@[simp] theorem State.updCmp_aar (n : Nat) (f : Cmp → Cmp) : (s.updCmp n f).aar = s.aar := rfl
@[simp] theorem State.updCmp_lpe (n : Nat) (f : Cmp → Cmp) : (s.updCmp n f).lpe = s.lpe := rfl
@[simp] theorem State.updCmp_prog (n : Nat) (f : Cmp → Cmp) : (s.updCmp n f).prog = s.prog := rfl
@[simp] theorem State.updCmp_pln (n : Nat) (f : Cmp → Cmp) : (s.updCmp n f).pln = s.pln := rfl
@[simp] theorem State.updCmp_stew (n : Nat) (f : Cmp → Cmp) : (s.updCmp n f).stew = s.stew := rfl
@[simp] theorem State.updCmp_fil (n : Nat) (f : Cmp → Cmp) : (s.updCmp n f).fil = s.fil := rfl
@[simp] theorem State.updCmp_out (n : Nat) (f : Cmp → Cmp) : (s.updCmp n f).out = s.out := rfl
@[simp] theorem State.updCmp_freeCtr (n : Nat) (f : Cmp → Cmp) : (s.updCmp n f).freeCtr = s.freeCtr := rfl
@[simp] theorem State.updCmp_pending (n : Nat) (f : Cmp → Cmp) : (s.updCmp n f).pending = s.pending := rfl

/-! ### State.updPage -/

@[simp] theorem State.updPage_supply (m : Nat) (f : MbxPage → MbxPage) : (s.updPage m f).supply = s.supply := rfl
@[simp] theorem State.updPage_clocks (m : Nat) (f : MbxPage → MbxPage) : (s.updPage m f).clocks = s.clocks := rfl
@[simp] theorem State.updPage_dev (m : Nat) (f : MbxPage → MbxPage) : (s.updPage m f).dev = s.dev := rfl
@[simp] theorem State.updPage_cmp (m : Nat) (f : MbxPage → MbxPage) : (s.updPage m f).cmp = s.cmp := rfl
@[simp] theorem State.updPage_otp (m : Nat) (f : MbxPage → MbxPage) : (s.updPage m f).otp = s.otp := rfl
@[simp] theorem State.updPage_flash (m : Nat) (f : MbxPage → MbxPage) : (s.updPage m f).flash = s.flash := rfl
@[simp] theorem State.updPage_hmk (m : Nat) (f : MbxPage → MbxPage) : (s.updPage m f).hmk = s.hmk := rfl
@[simp] theorem State.updPage_boot (m : Nat) (f : MbxPage → MbxPage) : (s.updPage m f).boot = s.boot := rfl
@[simp] theorem State.updPage_update (m : Nat) (f : MbxPage → MbxPage) : (s.updPage m f).update = s.update := rfl
@[simp] theorem State.updPage_row (m : Nat) (f : MbxPage → MbxPage) : (s.updPage m f).row = s.row := rfl
@[simp] theorem State.updPage_damem (m : Nat) (f : MbxPage → MbxPage) : (s.updPage m f).damem = { s.damem with page := Table.upd s.damem.page m f } := rfl
@[simp] theorem State.updPage_cal (m : Nat) (f : MbxPage → MbxPage) : (s.updPage m f).cal = s.cal := rfl
@[simp] theorem State.updPage_part (m : Nat) (f : MbxPage → MbxPage) : (s.updPage m f).part = s.part := rfl
@[simp] theorem State.updPage_ring (m : Nat) (f : MbxPage → MbxPage) : (s.updPage m f).ring = s.ring := rfl
@[simp] theorem State.updPage_mould (m : Nat) (f : MbxPage → MbxPage) : (s.updPage m f).mould = s.mould := rfl
@[simp] theorem State.updPage_mem (m : Nat) (f : MbxPage → MbxPage) : (s.updPage m f).mem = s.mem := rfl
@[simp] theorem State.updPage_tally (m : Nat) (f : MbxPage → MbxPage) : (s.updPage m f).tally = s.tally := rfl
@[simp] theorem State.updPage_sriov (m : Nat) (f : MbxPage → MbxPage) : (s.updPage m f).sriov = s.sriov := rfl
@[simp] theorem State.updPage_wmk (m : Nat) (f : MbxPage → MbxPage) : (s.updPage m f).wmk = s.wmk := rfl
@[simp] theorem State.updPage_mesh (m : Nat) (f : MbxPage → MbxPage) : (s.updPage m f).mesh = s.mesh := rfl
@[simp] theorem State.updPage_pho (m : Nat) (f : MbxPage → MbxPage) : (s.updPage m f).pho = s.pho := rfl
@[simp] theorem State.updPage_thm (m : Nat) (f : MbxPage → MbxPage) : (s.updPage m f).thm = s.thm := rfl
@[simp] theorem State.updPage_aar (m : Nat) (f : MbxPage → MbxPage) : (s.updPage m f).aar = s.aar := rfl
@[simp] theorem State.updPage_lpe (m : Nat) (f : MbxPage → MbxPage) : (s.updPage m f).lpe = s.lpe := rfl
@[simp] theorem State.updPage_prog (m : Nat) (f : MbxPage → MbxPage) : (s.updPage m f).prog = s.prog := rfl
@[simp] theorem State.updPage_pln (m : Nat) (f : MbxPage → MbxPage) : (s.updPage m f).pln = s.pln := rfl
@[simp] theorem State.updPage_stew (m : Nat) (f : MbxPage → MbxPage) : (s.updPage m f).stew = s.stew := rfl
@[simp] theorem State.updPage_fil (m : Nat) (f : MbxPage → MbxPage) : (s.updPage m f).fil = s.fil := rfl
@[simp] theorem State.updPage_out (m : Nat) (f : MbxPage → MbxPage) : (s.updPage m f).out = s.out := rfl
@[simp] theorem State.updPage_freeCtr (m : Nat) (f : MbxPage → MbxPage) : (s.updPage m f).freeCtr = s.freeCtr := rfl
@[simp] theorem State.updPage_pending (m : Nat) (f : MbxPage → MbxPage) : (s.updPage m f).pending = s.pending := rfl

/-! ### State.updStrand -/

@[simp] theorem State.updStrand_supply (k : Nat) (f : Strand → Strand) : (s.updStrand k f).supply = s.supply := rfl
@[simp] theorem State.updStrand_clocks (k : Nat) (f : Strand → Strand) : (s.updStrand k f).clocks = s.clocks := rfl
@[simp] theorem State.updStrand_dev (k : Nat) (f : Strand → Strand) : (s.updStrand k f).dev = s.dev := rfl
@[simp] theorem State.updStrand_cmp (k : Nat) (f : Strand → Strand) : (s.updStrand k f).cmp = s.cmp := rfl
@[simp] theorem State.updStrand_otp (k : Nat) (f : Strand → Strand) : (s.updStrand k f).otp = s.otp := rfl
@[simp] theorem State.updStrand_flash (k : Nat) (f : Strand → Strand) : (s.updStrand k f).flash = s.flash := rfl
@[simp] theorem State.updStrand_hmk (k : Nat) (f : Strand → Strand) : (s.updStrand k f).hmk = s.hmk := rfl
@[simp] theorem State.updStrand_boot (k : Nat) (f : Strand → Strand) : (s.updStrand k f).boot = s.boot := rfl
@[simp] theorem State.updStrand_update (k : Nat) (f : Strand → Strand) : (s.updStrand k f).update = s.update := rfl
@[simp] theorem State.updStrand_row (k : Nat) (f : Strand → Strand) : (s.updStrand k f).row = s.row := rfl
@[simp] theorem State.updStrand_damem (k : Nat) (f : Strand → Strand) : (s.updStrand k f).damem = s.damem := rfl
@[simp] theorem State.updStrand_cal (k : Nat) (f : Strand → Strand) : (s.updStrand k f).cal = s.cal := rfl
@[simp] theorem State.updStrand_part (k : Nat) (f : Strand → Strand) : (s.updStrand k f).part = s.part := rfl
@[simp] theorem State.updStrand_ring (k : Nat) (f : Strand → Strand) : (s.updStrand k f).ring = s.ring := rfl
@[simp] theorem State.updStrand_mould (k : Nat) (f : Strand → Strand) : (s.updStrand k f).mould = s.mould := rfl
@[simp] theorem State.updStrand_mem (k : Nat) (f : Strand → Strand) : (s.updStrand k f).mem = s.mem := rfl
@[simp] theorem State.updStrand_tally (k : Nat) (f : Strand → Strand) : (s.updStrand k f).tally = s.tally := rfl
@[simp] theorem State.updStrand_sriov (k : Nat) (f : Strand → Strand) : (s.updStrand k f).sriov = s.sriov := rfl
@[simp] theorem State.updStrand_wmk (k : Nat) (f : Strand → Strand) : (s.updStrand k f).wmk = s.wmk := rfl
@[simp] theorem State.updStrand_mesh (k : Nat) (f : Strand → Strand) : (s.updStrand k f).mesh = { s.mesh with strand := Table.upd s.mesh.strand k f } := rfl
@[simp] theorem State.updStrand_pho (k : Nat) (f : Strand → Strand) : (s.updStrand k f).pho = s.pho := rfl
@[simp] theorem State.updStrand_thm (k : Nat) (f : Strand → Strand) : (s.updStrand k f).thm = s.thm := rfl
@[simp] theorem State.updStrand_aar (k : Nat) (f : Strand → Strand) : (s.updStrand k f).aar = s.aar := rfl
@[simp] theorem State.updStrand_lpe (k : Nat) (f : Strand → Strand) : (s.updStrand k f).lpe = s.lpe := rfl
@[simp] theorem State.updStrand_prog (k : Nat) (f : Strand → Strand) : (s.updStrand k f).prog = s.prog := rfl
@[simp] theorem State.updStrand_pln (k : Nat) (f : Strand → Strand) : (s.updStrand k f).pln = s.pln := rfl
@[simp] theorem State.updStrand_stew (k : Nat) (f : Strand → Strand) : (s.updStrand k f).stew = s.stew := rfl
@[simp] theorem State.updStrand_fil (k : Nat) (f : Strand → Strand) : (s.updStrand k f).fil = s.fil := rfl
@[simp] theorem State.updStrand_out (k : Nat) (f : Strand → Strand) : (s.updStrand k f).out = s.out := rfl
@[simp] theorem State.updStrand_freeCtr (k : Nat) (f : Strand → Strand) : (s.updStrand k f).freeCtr = s.freeCtr := rfl
@[simp] theorem State.updStrand_pending (k : Nat) (f : Strand → Strand) : (s.updStrand k f).pending = s.pending := rfl

/-! ### State.updRing704 -/

@[simp] theorem State.updRing704_supply (n : Nat) (f : Ring704 → Ring704) : (s.updRing704 n f).supply = s.supply := rfl
@[simp] theorem State.updRing704_clocks (n : Nat) (f : Ring704 → Ring704) : (s.updRing704 n f).clocks = s.clocks := rfl
@[simp] theorem State.updRing704_dev (n : Nat) (f : Ring704 → Ring704) : (s.updRing704 n f).dev = s.dev := rfl
@[simp] theorem State.updRing704_cmp (n : Nat) (f : Ring704 → Ring704) : (s.updRing704 n f).cmp = s.cmp := rfl
@[simp] theorem State.updRing704_otp (n : Nat) (f : Ring704 → Ring704) : (s.updRing704 n f).otp = s.otp := rfl
@[simp] theorem State.updRing704_flash (n : Nat) (f : Ring704 → Ring704) : (s.updRing704 n f).flash = s.flash := rfl
@[simp] theorem State.updRing704_hmk (n : Nat) (f : Ring704 → Ring704) : (s.updRing704 n f).hmk = s.hmk := rfl
@[simp] theorem State.updRing704_boot (n : Nat) (f : Ring704 → Ring704) : (s.updRing704 n f).boot = s.boot := rfl
@[simp] theorem State.updRing704_update (n : Nat) (f : Ring704 → Ring704) : (s.updRing704 n f).update = s.update := rfl
@[simp] theorem State.updRing704_row (n : Nat) (f : Ring704 → Ring704) : (s.updRing704 n f).row = s.row := rfl
@[simp] theorem State.updRing704_damem (n : Nat) (f : Ring704 → Ring704) : (s.updRing704 n f).damem = s.damem := rfl
@[simp] theorem State.updRing704_cal (n : Nat) (f : Ring704 → Ring704) : (s.updRing704 n f).cal = s.cal := rfl
@[simp] theorem State.updRing704_part (n : Nat) (f : Ring704 → Ring704) : (s.updRing704 n f).part = s.part := rfl
@[simp] theorem State.updRing704_ring (n : Nat) (f : Ring704 → Ring704) : (s.updRing704 n f).ring = s.ring := rfl
@[simp] theorem State.updRing704_mould (n : Nat) (f : Ring704 → Ring704) : (s.updRing704 n f).mould = s.mould := rfl
@[simp] theorem State.updRing704_mem (n : Nat) (f : Ring704 → Ring704) : (s.updRing704 n f).mem = s.mem := rfl
@[simp] theorem State.updRing704_tally (n : Nat) (f : Ring704 → Ring704) : (s.updRing704 n f).tally = s.tally := rfl
@[simp] theorem State.updRing704_sriov (n : Nat) (f : Ring704 → Ring704) : (s.updRing704 n f).sriov = s.sriov := rfl
@[simp] theorem State.updRing704_wmk (n : Nat) (f : Ring704 → Ring704) : (s.updRing704 n f).wmk = s.wmk := rfl
@[simp] theorem State.updRing704_mesh (n : Nat) (f : Ring704 → Ring704) : (s.updRing704 n f).mesh = s.mesh := rfl
@[simp] theorem State.updRing704_pho (n : Nat) (f : Ring704 → Ring704) : (s.updRing704 n f).pho = { s.pho with ring := Table.upd s.pho.ring n f } := rfl
@[simp] theorem State.updRing704_thm (n : Nat) (f : Ring704 → Ring704) : (s.updRing704 n f).thm = s.thm := rfl
@[simp] theorem State.updRing704_aar (n : Nat) (f : Ring704 → Ring704) : (s.updRing704 n f).aar = s.aar := rfl
@[simp] theorem State.updRing704_lpe (n : Nat) (f : Ring704 → Ring704) : (s.updRing704 n f).lpe = s.lpe := rfl
@[simp] theorem State.updRing704_prog (n : Nat) (f : Ring704 → Ring704) : (s.updRing704 n f).prog = s.prog := rfl
@[simp] theorem State.updRing704_pln (n : Nat) (f : Ring704 → Ring704) : (s.updRing704 n f).pln = s.pln := rfl
@[simp] theorem State.updRing704_stew (n : Nat) (f : Ring704 → Ring704) : (s.updRing704 n f).stew = s.stew := rfl
@[simp] theorem State.updRing704_fil (n : Nat) (f : Ring704 → Ring704) : (s.updRing704 n f).fil = s.fil := rfl
@[simp] theorem State.updRing704_out (n : Nat) (f : Ring704 → Ring704) : (s.updRing704 n f).out = s.out := rfl
@[simp] theorem State.updRing704_freeCtr (n : Nat) (f : Ring704 → Ring704) : (s.updRing704 n f).freeCtr = s.freeCtr := rfl
@[simp] theorem State.updRing704_pending (n : Nat) (f : Ring704 → Ring704) : (s.updRing704 n f).pending = s.pending := rfl

/-! ### State.updLaser -/

@[simp] theorem State.updLaser_supply (a : Nat) (f : Laser → Laser) : (s.updLaser a f).supply = s.supply := rfl
@[simp] theorem State.updLaser_clocks (a : Nat) (f : Laser → Laser) : (s.updLaser a f).clocks = s.clocks := rfl
@[simp] theorem State.updLaser_dev (a : Nat) (f : Laser → Laser) : (s.updLaser a f).dev = s.dev := rfl
@[simp] theorem State.updLaser_cmp (a : Nat) (f : Laser → Laser) : (s.updLaser a f).cmp = s.cmp := rfl
@[simp] theorem State.updLaser_otp (a : Nat) (f : Laser → Laser) : (s.updLaser a f).otp = s.otp := rfl
@[simp] theorem State.updLaser_flash (a : Nat) (f : Laser → Laser) : (s.updLaser a f).flash = s.flash := rfl
@[simp] theorem State.updLaser_hmk (a : Nat) (f : Laser → Laser) : (s.updLaser a f).hmk = s.hmk := rfl
@[simp] theorem State.updLaser_boot (a : Nat) (f : Laser → Laser) : (s.updLaser a f).boot = s.boot := rfl
@[simp] theorem State.updLaser_update (a : Nat) (f : Laser → Laser) : (s.updLaser a f).update = s.update := rfl
@[simp] theorem State.updLaser_row (a : Nat) (f : Laser → Laser) : (s.updLaser a f).row = s.row := rfl
@[simp] theorem State.updLaser_damem (a : Nat) (f : Laser → Laser) : (s.updLaser a f).damem = s.damem := rfl
@[simp] theorem State.updLaser_cal (a : Nat) (f : Laser → Laser) : (s.updLaser a f).cal = s.cal := rfl
@[simp] theorem State.updLaser_part (a : Nat) (f : Laser → Laser) : (s.updLaser a f).part = s.part := rfl
@[simp] theorem State.updLaser_ring (a : Nat) (f : Laser → Laser) : (s.updLaser a f).ring = s.ring := rfl
@[simp] theorem State.updLaser_mould (a : Nat) (f : Laser → Laser) : (s.updLaser a f).mould = s.mould := rfl
@[simp] theorem State.updLaser_mem (a : Nat) (f : Laser → Laser) : (s.updLaser a f).mem = s.mem := rfl
@[simp] theorem State.updLaser_tally (a : Nat) (f : Laser → Laser) : (s.updLaser a f).tally = s.tally := rfl
@[simp] theorem State.updLaser_sriov (a : Nat) (f : Laser → Laser) : (s.updLaser a f).sriov = s.sriov := rfl
@[simp] theorem State.updLaser_wmk (a : Nat) (f : Laser → Laser) : (s.updLaser a f).wmk = s.wmk := rfl
@[simp] theorem State.updLaser_mesh (a : Nat) (f : Laser → Laser) : (s.updLaser a f).mesh = s.mesh := rfl
@[simp] theorem State.updLaser_pho (a : Nat) (f : Laser → Laser) : (s.updLaser a f).pho = { s.pho with laser := Table.upd s.pho.laser a f } := rfl
@[simp] theorem State.updLaser_thm (a : Nat) (f : Laser → Laser) : (s.updLaser a f).thm = s.thm := rfl
@[simp] theorem State.updLaser_aar (a : Nat) (f : Laser → Laser) : (s.updLaser a f).aar = s.aar := rfl
@[simp] theorem State.updLaser_lpe (a : Nat) (f : Laser → Laser) : (s.updLaser a f).lpe = s.lpe := rfl
@[simp] theorem State.updLaser_prog (a : Nat) (f : Laser → Laser) : (s.updLaser a f).prog = s.prog := rfl
@[simp] theorem State.updLaser_pln (a : Nat) (f : Laser → Laser) : (s.updLaser a f).pln = s.pln := rfl
@[simp] theorem State.updLaser_stew (a : Nat) (f : Laser → Laser) : (s.updLaser a f).stew = s.stew := rfl
@[simp] theorem State.updLaser_fil (a : Nat) (f : Laser → Laser) : (s.updLaser a f).fil = s.fil := rfl
@[simp] theorem State.updLaser_out (a : Nat) (f : Laser → Laser) : (s.updLaser a f).out = s.out := rfl
@[simp] theorem State.updLaser_freeCtr (a : Nat) (f : Laser → Laser) : (s.updLaser a f).freeCtr = s.freeCtr := rfl
@[simp] theorem State.updLaser_pending (a : Nat) (f : Laser → Laser) : (s.updLaser a f).pending = s.pending := rfl

/-! ### State.updSens -/

@[simp] theorem State.updSens_supply (n : Nat) (f : Sensor → Sensor) : (s.updSens n f).supply = s.supply := rfl
@[simp] theorem State.updSens_clocks (n : Nat) (f : Sensor → Sensor) : (s.updSens n f).clocks = s.clocks := rfl
@[simp] theorem State.updSens_dev (n : Nat) (f : Sensor → Sensor) : (s.updSens n f).dev = s.dev := rfl
@[simp] theorem State.updSens_cmp (n : Nat) (f : Sensor → Sensor) : (s.updSens n f).cmp = s.cmp := rfl
@[simp] theorem State.updSens_otp (n : Nat) (f : Sensor → Sensor) : (s.updSens n f).otp = s.otp := rfl
@[simp] theorem State.updSens_flash (n : Nat) (f : Sensor → Sensor) : (s.updSens n f).flash = s.flash := rfl
@[simp] theorem State.updSens_hmk (n : Nat) (f : Sensor → Sensor) : (s.updSens n f).hmk = s.hmk := rfl
@[simp] theorem State.updSens_boot (n : Nat) (f : Sensor → Sensor) : (s.updSens n f).boot = s.boot := rfl
@[simp] theorem State.updSens_update (n : Nat) (f : Sensor → Sensor) : (s.updSens n f).update = s.update := rfl
@[simp] theorem State.updSens_row (n : Nat) (f : Sensor → Sensor) : (s.updSens n f).row = s.row := rfl
@[simp] theorem State.updSens_damem (n : Nat) (f : Sensor → Sensor) : (s.updSens n f).damem = s.damem := rfl
@[simp] theorem State.updSens_cal (n : Nat) (f : Sensor → Sensor) : (s.updSens n f).cal = s.cal := rfl
@[simp] theorem State.updSens_part (n : Nat) (f : Sensor → Sensor) : (s.updSens n f).part = s.part := rfl
@[simp] theorem State.updSens_ring (n : Nat) (f : Sensor → Sensor) : (s.updSens n f).ring = s.ring := rfl
@[simp] theorem State.updSens_mould (n : Nat) (f : Sensor → Sensor) : (s.updSens n f).mould = s.mould := rfl
@[simp] theorem State.updSens_mem (n : Nat) (f : Sensor → Sensor) : (s.updSens n f).mem = s.mem := rfl
@[simp] theorem State.updSens_tally (n : Nat) (f : Sensor → Sensor) : (s.updSens n f).tally = s.tally := rfl
@[simp] theorem State.updSens_sriov (n : Nat) (f : Sensor → Sensor) : (s.updSens n f).sriov = s.sriov := rfl
@[simp] theorem State.updSens_wmk (n : Nat) (f : Sensor → Sensor) : (s.updSens n f).wmk = s.wmk := rfl
@[simp] theorem State.updSens_mesh (n : Nat) (f : Sensor → Sensor) : (s.updSens n f).mesh = s.mesh := rfl
@[simp] theorem State.updSens_pho (n : Nat) (f : Sensor → Sensor) : (s.updSens n f).pho = s.pho := rfl
@[simp] theorem State.updSens_thm (n : Nat) (f : Sensor → Sensor) : (s.updSens n f).thm = { s.thm with sens := Table.upd s.thm.sens n f } := rfl
@[simp] theorem State.updSens_aar (n : Nat) (f : Sensor → Sensor) : (s.updSens n f).aar = s.aar := rfl
@[simp] theorem State.updSens_lpe (n : Nat) (f : Sensor → Sensor) : (s.updSens n f).lpe = s.lpe := rfl
@[simp] theorem State.updSens_prog (n : Nat) (f : Sensor → Sensor) : (s.updSens n f).prog = s.prog := rfl
@[simp] theorem State.updSens_pln (n : Nat) (f : Sensor → Sensor) : (s.updSens n f).pln = s.pln := rfl
@[simp] theorem State.updSens_stew (n : Nat) (f : Sensor → Sensor) : (s.updSens n f).stew = s.stew := rfl
@[simp] theorem State.updSens_fil (n : Nat) (f : Sensor → Sensor) : (s.updSens n f).fil = s.fil := rfl
@[simp] theorem State.updSens_out (n : Nat) (f : Sensor → Sensor) : (s.updSens n f).out = s.out := rfl
@[simp] theorem State.updSens_freeCtr (n : Nat) (f : Sensor → Sensor) : (s.updSens n f).freeCtr = s.freeCtr := rfl
@[simp] theorem State.updSens_pending (n : Nat) (f : Sensor → Sensor) : (s.updSens n f).pending = s.pending := rfl

/-! ### State.updAout -/

@[simp] theorem State.updAout_supply (n : Nat) (f : AOut → AOut) : (s.updAout n f).supply = s.supply := rfl
@[simp] theorem State.updAout_clocks (n : Nat) (f : AOut → AOut) : (s.updAout n f).clocks = s.clocks := rfl
@[simp] theorem State.updAout_dev (n : Nat) (f : AOut → AOut) : (s.updAout n f).dev = s.dev := rfl
@[simp] theorem State.updAout_cmp (n : Nat) (f : AOut → AOut) : (s.updAout n f).cmp = s.cmp := rfl
@[simp] theorem State.updAout_otp (n : Nat) (f : AOut → AOut) : (s.updAout n f).otp = s.otp := rfl
@[simp] theorem State.updAout_flash (n : Nat) (f : AOut → AOut) : (s.updAout n f).flash = s.flash := rfl
@[simp] theorem State.updAout_hmk (n : Nat) (f : AOut → AOut) : (s.updAout n f).hmk = s.hmk := rfl
@[simp] theorem State.updAout_boot (n : Nat) (f : AOut → AOut) : (s.updAout n f).boot = s.boot := rfl
@[simp] theorem State.updAout_update (n : Nat) (f : AOut → AOut) : (s.updAout n f).update = s.update := rfl
@[simp] theorem State.updAout_row (n : Nat) (f : AOut → AOut) : (s.updAout n f).row = s.row := rfl
@[simp] theorem State.updAout_damem (n : Nat) (f : AOut → AOut) : (s.updAout n f).damem = s.damem := rfl
@[simp] theorem State.updAout_cal (n : Nat) (f : AOut → AOut) : (s.updAout n f).cal = s.cal := rfl
@[simp] theorem State.updAout_part (n : Nat) (f : AOut → AOut) : (s.updAout n f).part = s.part := rfl
@[simp] theorem State.updAout_ring (n : Nat) (f : AOut → AOut) : (s.updAout n f).ring = s.ring := rfl
@[simp] theorem State.updAout_mould (n : Nat) (f : AOut → AOut) : (s.updAout n f).mould = s.mould := rfl
@[simp] theorem State.updAout_mem (n : Nat) (f : AOut → AOut) : (s.updAout n f).mem = s.mem := rfl
@[simp] theorem State.updAout_tally (n : Nat) (f : AOut → AOut) : (s.updAout n f).tally = s.tally := rfl
@[simp] theorem State.updAout_sriov (n : Nat) (f : AOut → AOut) : (s.updAout n f).sriov = s.sriov := rfl
@[simp] theorem State.updAout_wmk (n : Nat) (f : AOut → AOut) : (s.updAout n f).wmk = s.wmk := rfl
@[simp] theorem State.updAout_mesh (n : Nat) (f : AOut → AOut) : (s.updAout n f).mesh = s.mesh := rfl
@[simp] theorem State.updAout_pho (n : Nat) (f : AOut → AOut) : (s.updAout n f).pho = s.pho := rfl
@[simp] theorem State.updAout_thm (n : Nat) (f : AOut → AOut) : (s.updAout n f).thm = s.thm := rfl
@[simp] theorem State.updAout_aar (n : Nat) (f : AOut → AOut) : (s.updAout n f).aar = { s.aar with aout := Table.upd s.aar.aout n f } := rfl
@[simp] theorem State.updAout_lpe (n : Nat) (f : AOut → AOut) : (s.updAout n f).lpe = s.lpe := rfl
@[simp] theorem State.updAout_prog (n : Nat) (f : AOut → AOut) : (s.updAout n f).prog = s.prog := rfl
@[simp] theorem State.updAout_pln (n : Nat) (f : AOut → AOut) : (s.updAout n f).pln = s.pln := rfl
@[simp] theorem State.updAout_stew (n : Nat) (f : AOut → AOut) : (s.updAout n f).stew = s.stew := rfl
@[simp] theorem State.updAout_fil (n : Nat) (f : AOut → AOut) : (s.updAout n f).fil = s.fil := rfl
@[simp] theorem State.updAout_out (n : Nat) (f : AOut → AOut) : (s.updAout n f).out = s.out := rfl
@[simp] theorem State.updAout_freeCtr (n : Nat) (f : AOut → AOut) : (s.updAout n f).freeCtr = s.freeCtr := rfl
@[simp] theorem State.updAout_pending (n : Nat) (f : AOut → AOut) : (s.updAout n f).pending = s.pending := rfl

/-! ### State.updSlot -/

@[simp] theorem State.updSlot_supply (n : Nat) (f : Slot → Slot) : (s.updSlot n f).supply = s.supply := rfl
@[simp] theorem State.updSlot_clocks (n : Nat) (f : Slot → Slot) : (s.updSlot n f).clocks = s.clocks := rfl
@[simp] theorem State.updSlot_dev (n : Nat) (f : Slot → Slot) : (s.updSlot n f).dev = s.dev := rfl
@[simp] theorem State.updSlot_cmp (n : Nat) (f : Slot → Slot) : (s.updSlot n f).cmp = s.cmp := rfl
@[simp] theorem State.updSlot_otp (n : Nat) (f : Slot → Slot) : (s.updSlot n f).otp = s.otp := rfl
@[simp] theorem State.updSlot_flash (n : Nat) (f : Slot → Slot) : (s.updSlot n f).flash = s.flash := rfl
@[simp] theorem State.updSlot_hmk (n : Nat) (f : Slot → Slot) : (s.updSlot n f).hmk = s.hmk := rfl
@[simp] theorem State.updSlot_boot (n : Nat) (f : Slot → Slot) : (s.updSlot n f).boot = s.boot := rfl
@[simp] theorem State.updSlot_update (n : Nat) (f : Slot → Slot) : (s.updSlot n f).update = s.update := rfl
@[simp] theorem State.updSlot_row (n : Nat) (f : Slot → Slot) : (s.updSlot n f).row = s.row := rfl
@[simp] theorem State.updSlot_damem (n : Nat) (f : Slot → Slot) : (s.updSlot n f).damem = s.damem := rfl
@[simp] theorem State.updSlot_cal (n : Nat) (f : Slot → Slot) : (s.updSlot n f).cal = s.cal := rfl
@[simp] theorem State.updSlot_part (n : Nat) (f : Slot → Slot) : (s.updSlot n f).part = s.part := rfl
@[simp] theorem State.updSlot_ring (n : Nat) (f : Slot → Slot) : (s.updSlot n f).ring = s.ring := rfl
@[simp] theorem State.updSlot_mould (n : Nat) (f : Slot → Slot) : (s.updSlot n f).mould = s.mould := rfl
@[simp] theorem State.updSlot_mem (n : Nat) (f : Slot → Slot) : (s.updSlot n f).mem = s.mem := rfl
@[simp] theorem State.updSlot_tally (n : Nat) (f : Slot → Slot) : (s.updSlot n f).tally = s.tally := rfl
@[simp] theorem State.updSlot_sriov (n : Nat) (f : Slot → Slot) : (s.updSlot n f).sriov = s.sriov := rfl
@[simp] theorem State.updSlot_wmk (n : Nat) (f : Slot → Slot) : (s.updSlot n f).wmk = s.wmk := rfl
@[simp] theorem State.updSlot_mesh (n : Nat) (f : Slot → Slot) : (s.updSlot n f).mesh = s.mesh := rfl
@[simp] theorem State.updSlot_pho (n : Nat) (f : Slot → Slot) : (s.updSlot n f).pho = s.pho := rfl
@[simp] theorem State.updSlot_thm (n : Nat) (f : Slot → Slot) : (s.updSlot n f).thm = s.thm := rfl
@[simp] theorem State.updSlot_aar (n : Nat) (f : Slot → Slot) : (s.updSlot n f).aar = s.aar := rfl
@[simp] theorem State.updSlot_lpe (n : Nat) (f : Slot → Slot) : (s.updSlot n f).lpe = { s.lpe with slot := Table.upd s.lpe.slot n f } := rfl
@[simp] theorem State.updSlot_prog (n : Nat) (f : Slot → Slot) : (s.updSlot n f).prog = s.prog := rfl
@[simp] theorem State.updSlot_pln (n : Nat) (f : Slot → Slot) : (s.updSlot n f).pln = s.pln := rfl
@[simp] theorem State.updSlot_stew (n : Nat) (f : Slot → Slot) : (s.updSlot n f).stew = s.stew := rfl
@[simp] theorem State.updSlot_fil (n : Nat) (f : Slot → Slot) : (s.updSlot n f).fil = s.fil := rfl
@[simp] theorem State.updSlot_out (n : Nat) (f : Slot → Slot) : (s.updSlot n f).out = s.out := rfl
@[simp] theorem State.updSlot_freeCtr (n : Nat) (f : Slot → Slot) : (s.updSlot n f).freeCtr = s.freeCtr := rfl
@[simp] theorem State.updSlot_pending (n : Nat) (f : Slot → Slot) : (s.updSlot n f).pending = s.pending := rfl

/-! ### State.updSector -/

@[simp] theorem State.updSector_supply (n : Nat) (f : Sector → Sector) : (s.updSector n f).supply = s.supply := rfl
@[simp] theorem State.updSector_clocks (n : Nat) (f : Sector → Sector) : (s.updSector n f).clocks = s.clocks := rfl
@[simp] theorem State.updSector_dev (n : Nat) (f : Sector → Sector) : (s.updSector n f).dev = s.dev := rfl
@[simp] theorem State.updSector_cmp (n : Nat) (f : Sector → Sector) : (s.updSector n f).cmp = s.cmp := rfl
@[simp] theorem State.updSector_otp (n : Nat) (f : Sector → Sector) : (s.updSector n f).otp = s.otp := rfl
@[simp] theorem State.updSector_flash (n : Nat) (f : Sector → Sector) : (s.updSector n f).flash = s.flash := rfl
@[simp] theorem State.updSector_hmk (n : Nat) (f : Sector → Sector) : (s.updSector n f).hmk = s.hmk := rfl
@[simp] theorem State.updSector_boot (n : Nat) (f : Sector → Sector) : (s.updSector n f).boot = s.boot := rfl
@[simp] theorem State.updSector_update (n : Nat) (f : Sector → Sector) : (s.updSector n f).update = s.update := rfl
@[simp] theorem State.updSector_row (n : Nat) (f : Sector → Sector) : (s.updSector n f).row = s.row := rfl
@[simp] theorem State.updSector_damem (n : Nat) (f : Sector → Sector) : (s.updSector n f).damem = s.damem := rfl
@[simp] theorem State.updSector_cal (n : Nat) (f : Sector → Sector) : (s.updSector n f).cal = s.cal := rfl
@[simp] theorem State.updSector_part (n : Nat) (f : Sector → Sector) : (s.updSector n f).part = s.part := rfl
@[simp] theorem State.updSector_ring (n : Nat) (f : Sector → Sector) : (s.updSector n f).ring = s.ring := rfl
@[simp] theorem State.updSector_mould (n : Nat) (f : Sector → Sector) : (s.updSector n f).mould = s.mould := rfl
@[simp] theorem State.updSector_mem (n : Nat) (f : Sector → Sector) : (s.updSector n f).mem = s.mem := rfl
@[simp] theorem State.updSector_tally (n : Nat) (f : Sector → Sector) : (s.updSector n f).tally = s.tally := rfl
@[simp] theorem State.updSector_sriov (n : Nat) (f : Sector → Sector) : (s.updSector n f).sriov = s.sriov := rfl
@[simp] theorem State.updSector_wmk (n : Nat) (f : Sector → Sector) : (s.updSector n f).wmk = s.wmk := rfl
@[simp] theorem State.updSector_mesh (n : Nat) (f : Sector → Sector) : (s.updSector n f).mesh = s.mesh := rfl
@[simp] theorem State.updSector_pho (n : Nat) (f : Sector → Sector) : (s.updSector n f).pho = s.pho := rfl
@[simp] theorem State.updSector_thm (n : Nat) (f : Sector → Sector) : (s.updSector n f).thm = s.thm := rfl
@[simp] theorem State.updSector_aar (n : Nat) (f : Sector → Sector) : (s.updSector n f).aar = s.aar := rfl
@[simp] theorem State.updSector_lpe (n : Nat) (f : Sector → Sector) : (s.updSector n f).lpe = s.lpe := rfl
@[simp] theorem State.updSector_prog (n : Nat) (f : Sector → Sector) : (s.updSector n f).prog = s.prog := rfl
@[simp] theorem State.updSector_pln (n : Nat) (f : Sector → Sector) : (s.updSector n f).pln = s.pln := rfl
@[simp] theorem State.updSector_stew (n : Nat) (f : Sector → Sector) : (s.updSector n f).stew = s.stew := rfl
@[simp] theorem State.updSector_fil (n : Nat) (f : Sector → Sector) : (s.updSector n f).fil = { s.fil with sector := Table.upd s.fil.sector n f } := rfl
@[simp] theorem State.updSector_out (n : Nat) (f : Sector → Sector) : (s.updSector n f).out = s.out := rfl
@[simp] theorem State.updSector_freeCtr (n : Nat) (f : Sector → Sector) : (s.updSector n f).freeCtr = s.freeCtr := rfl
@[simp] theorem State.updSector_pending (n : Nat) (f : Sector → Sector) : (s.updSector n f).pending = s.pending := rfl

/-! ### State.updRope -/

@[simp] theorem State.updRope_supply (n : Nat) (f : Rope → Rope) : (s.updRope n f).supply = s.supply := rfl
@[simp] theorem State.updRope_clocks (n : Nat) (f : Rope → Rope) : (s.updRope n f).clocks = s.clocks := rfl
@[simp] theorem State.updRope_dev (n : Nat) (f : Rope → Rope) : (s.updRope n f).dev = s.dev := rfl
@[simp] theorem State.updRope_cmp (n : Nat) (f : Rope → Rope) : (s.updRope n f).cmp = s.cmp := rfl
@[simp] theorem State.updRope_otp (n : Nat) (f : Rope → Rope) : (s.updRope n f).otp = s.otp := rfl
@[simp] theorem State.updRope_flash (n : Nat) (f : Rope → Rope) : (s.updRope n f).flash = s.flash := rfl
@[simp] theorem State.updRope_hmk (n : Nat) (f : Rope → Rope) : (s.updRope n f).hmk = s.hmk := rfl
@[simp] theorem State.updRope_boot (n : Nat) (f : Rope → Rope) : (s.updRope n f).boot = s.boot := rfl
@[simp] theorem State.updRope_update (n : Nat) (f : Rope → Rope) : (s.updRope n f).update = s.update := rfl
@[simp] theorem State.updRope_row (n : Nat) (f : Rope → Rope) : (s.updRope n f).row = s.row := rfl
@[simp] theorem State.updRope_damem (n : Nat) (f : Rope → Rope) : (s.updRope n f).damem = s.damem := rfl
@[simp] theorem State.updRope_cal (n : Nat) (f : Rope → Rope) : (s.updRope n f).cal = s.cal := rfl
@[simp] theorem State.updRope_part (n : Nat) (f : Rope → Rope) : (s.updRope n f).part = s.part := rfl
@[simp] theorem State.updRope_ring (n : Nat) (f : Rope → Rope) : (s.updRope n f).ring = s.ring := rfl
@[simp] theorem State.updRope_mould (n : Nat) (f : Rope → Rope) : (s.updRope n f).mould = s.mould := rfl
@[simp] theorem State.updRope_mem (n : Nat) (f : Rope → Rope) : (s.updRope n f).mem = s.mem := rfl
@[simp] theorem State.updRope_tally (n : Nat) (f : Rope → Rope) : (s.updRope n f).tally = s.tally := rfl
@[simp] theorem State.updRope_sriov (n : Nat) (f : Rope → Rope) : (s.updRope n f).sriov = s.sriov := rfl
@[simp] theorem State.updRope_wmk (n : Nat) (f : Rope → Rope) : (s.updRope n f).wmk = s.wmk := rfl
@[simp] theorem State.updRope_mesh (n : Nat) (f : Rope → Rope) : (s.updRope n f).mesh = s.mesh := rfl
@[simp] theorem State.updRope_pho (n : Nat) (f : Rope → Rope) : (s.updRope n f).pho = s.pho := rfl
@[simp] theorem State.updRope_thm (n : Nat) (f : Rope → Rope) : (s.updRope n f).thm = s.thm := rfl
@[simp] theorem State.updRope_aar (n : Nat) (f : Rope → Rope) : (s.updRope n f).aar = s.aar := rfl
@[simp] theorem State.updRope_lpe (n : Nat) (f : Rope → Rope) : (s.updRope n f).lpe = s.lpe := rfl
@[simp] theorem State.updRope_prog (n : Nat) (f : Rope → Rope) : (s.updRope n f).prog = s.prog := rfl
@[simp] theorem State.updRope_pln (n : Nat) (f : Rope → Rope) : (s.updRope n f).pln = s.pln := rfl
@[simp] theorem State.updRope_stew (n : Nat) (f : Rope → Rope) : (s.updRope n f).stew = { s.stew with rope := Table.upd s.stew.rope n f } := rfl
@[simp] theorem State.updRope_fil (n : Nat) (f : Rope → Rope) : (s.updRope n f).fil = s.fil := rfl
@[simp] theorem State.updRope_out (n : Nat) (f : Rope → Rope) : (s.updRope n f).out = s.out := rfl
@[simp] theorem State.updRope_freeCtr (n : Nat) (f : Rope → Rope) : (s.updRope n f).freeCtr = s.freeCtr := rfl
@[simp] theorem State.updRope_pending (n : Nat) (f : Rope → Rope) : (s.updRope n f).pending = s.pending := rfl

/-! ### State.updTrk -/

@[simp] theorem State.updTrk_supply (n : Nat) (f : Tracker → Tracker) : (s.updTrk n f).supply = s.supply := rfl
@[simp] theorem State.updTrk_clocks (n : Nat) (f : Tracker → Tracker) : (s.updTrk n f).clocks = s.clocks := rfl
@[simp] theorem State.updTrk_dev (n : Nat) (f : Tracker → Tracker) : (s.updTrk n f).dev = s.dev := rfl
@[simp] theorem State.updTrk_cmp (n : Nat) (f : Tracker → Tracker) : (s.updTrk n f).cmp = s.cmp := rfl
@[simp] theorem State.updTrk_otp (n : Nat) (f : Tracker → Tracker) : (s.updTrk n f).otp = s.otp := rfl
@[simp] theorem State.updTrk_flash (n : Nat) (f : Tracker → Tracker) : (s.updTrk n f).flash = s.flash := rfl
@[simp] theorem State.updTrk_hmk (n : Nat) (f : Tracker → Tracker) : (s.updTrk n f).hmk = s.hmk := rfl
@[simp] theorem State.updTrk_boot (n : Nat) (f : Tracker → Tracker) : (s.updTrk n f).boot = s.boot := rfl
@[simp] theorem State.updTrk_update (n : Nat) (f : Tracker → Tracker) : (s.updTrk n f).update = s.update := rfl
@[simp] theorem State.updTrk_row (n : Nat) (f : Tracker → Tracker) : (s.updTrk n f).row = s.row := rfl
@[simp] theorem State.updTrk_damem (n : Nat) (f : Tracker → Tracker) : (s.updTrk n f).damem = s.damem := rfl
@[simp] theorem State.updTrk_cal (n : Nat) (f : Tracker → Tracker) : (s.updTrk n f).cal = s.cal := rfl
@[simp] theorem State.updTrk_part (n : Nat) (f : Tracker → Tracker) : (s.updTrk n f).part = s.part := rfl
@[simp] theorem State.updTrk_ring (n : Nat) (f : Tracker → Tracker) : (s.updTrk n f).ring = s.ring := rfl
@[simp] theorem State.updTrk_mould (n : Nat) (f : Tracker → Tracker) : (s.updTrk n f).mould = s.mould := rfl
@[simp] theorem State.updTrk_mem (n : Nat) (f : Tracker → Tracker) : (s.updTrk n f).mem = s.mem := rfl
@[simp] theorem State.updTrk_tally (n : Nat) (f : Tracker → Tracker) : (s.updTrk n f).tally = s.tally := rfl
@[simp] theorem State.updTrk_sriov (n : Nat) (f : Tracker → Tracker) : (s.updTrk n f).sriov = s.sriov := rfl
@[simp] theorem State.updTrk_wmk (n : Nat) (f : Tracker → Tracker) : (s.updTrk n f).wmk = s.wmk := rfl
@[simp] theorem State.updTrk_mesh (n : Nat) (f : Tracker → Tracker) : (s.updTrk n f).mesh = s.mesh := rfl
@[simp] theorem State.updTrk_pho (n : Nat) (f : Tracker → Tracker) : (s.updTrk n f).pho = s.pho := rfl
@[simp] theorem State.updTrk_thm (n : Nat) (f : Tracker → Tracker) : (s.updTrk n f).thm = s.thm := rfl
@[simp] theorem State.updTrk_aar (n : Nat) (f : Tracker → Tracker) : (s.updTrk n f).aar = s.aar := rfl
@[simp] theorem State.updTrk_lpe (n : Nat) (f : Tracker → Tracker) : (s.updTrk n f).lpe = s.lpe := rfl
@[simp] theorem State.updTrk_prog (n : Nat) (f : Tracker → Tracker) : (s.updTrk n f).prog = s.prog := rfl
@[simp] theorem State.updTrk_pln (n : Nat) (f : Tracker → Tracker) : (s.updTrk n f).pln = s.pln := rfl
@[simp] theorem State.updTrk_stew (n : Nat) (f : Tracker → Tracker) : (s.updTrk n f).stew = { s.stew with trk := Table.upd s.stew.trk n f } := rfl
@[simp] theorem State.updTrk_fil (n : Nat) (f : Tracker → Tracker) : (s.updTrk n f).fil = s.fil := rfl
@[simp] theorem State.updTrk_out (n : Nat) (f : Tracker → Tracker) : (s.updTrk n f).out = s.out := rfl
@[simp] theorem State.updTrk_freeCtr (n : Nat) (f : Tracker → Tracker) : (s.updTrk n f).freeCtr = s.freeCtr := rfl
@[simp] theorem State.updTrk_pending (n : Nat) (f : Tracker → Tracker) : (s.updTrk n f).pending = s.pending := rfl

/-! ### State.updMem -/

@[simp] theorem State.updMem_supply (f : Memory → Memory) : (s.updMem f).supply = s.supply := rfl
@[simp] theorem State.updMem_clocks (f : Memory → Memory) : (s.updMem f).clocks = s.clocks := rfl
@[simp] theorem State.updMem_dev (f : Memory → Memory) : (s.updMem f).dev = s.dev := rfl
@[simp] theorem State.updMem_cmp (f : Memory → Memory) : (s.updMem f).cmp = s.cmp := rfl
@[simp] theorem State.updMem_otp (f : Memory → Memory) : (s.updMem f).otp = s.otp := rfl
@[simp] theorem State.updMem_flash (f : Memory → Memory) : (s.updMem f).flash = s.flash := rfl
@[simp] theorem State.updMem_hmk (f : Memory → Memory) : (s.updMem f).hmk = s.hmk := rfl
@[simp] theorem State.updMem_boot (f : Memory → Memory) : (s.updMem f).boot = s.boot := rfl
@[simp] theorem State.updMem_update (f : Memory → Memory) : (s.updMem f).update = s.update := rfl
@[simp] theorem State.updMem_row (f : Memory → Memory) : (s.updMem f).row = s.row := rfl
@[simp] theorem State.updMem_damem (f : Memory → Memory) : (s.updMem f).damem = s.damem := rfl
@[simp] theorem State.updMem_cal (f : Memory → Memory) : (s.updMem f).cal = s.cal := rfl
@[simp] theorem State.updMem_part (f : Memory → Memory) : (s.updMem f).part = s.part := rfl
@[simp] theorem State.updMem_ring (f : Memory → Memory) : (s.updMem f).ring = s.ring := rfl
@[simp] theorem State.updMem_mould (f : Memory → Memory) : (s.updMem f).mould = s.mould := rfl
@[simp] theorem State.updMem_mem (f : Memory → Memory) : (s.updMem f).mem = f s.mem := rfl
@[simp] theorem State.updMem_tally (f : Memory → Memory) : (s.updMem f).tally = s.tally := rfl
@[simp] theorem State.updMem_sriov (f : Memory → Memory) : (s.updMem f).sriov = s.sriov := rfl
@[simp] theorem State.updMem_wmk (f : Memory → Memory) : (s.updMem f).wmk = s.wmk := rfl
@[simp] theorem State.updMem_mesh (f : Memory → Memory) : (s.updMem f).mesh = s.mesh := rfl
@[simp] theorem State.updMem_pho (f : Memory → Memory) : (s.updMem f).pho = s.pho := rfl
@[simp] theorem State.updMem_thm (f : Memory → Memory) : (s.updMem f).thm = s.thm := rfl
@[simp] theorem State.updMem_aar (f : Memory → Memory) : (s.updMem f).aar = s.aar := rfl
@[simp] theorem State.updMem_lpe (f : Memory → Memory) : (s.updMem f).lpe = s.lpe := rfl
@[simp] theorem State.updMem_prog (f : Memory → Memory) : (s.updMem f).prog = s.prog := rfl
@[simp] theorem State.updMem_pln (f : Memory → Memory) : (s.updMem f).pln = s.pln := rfl
@[simp] theorem State.updMem_stew (f : Memory → Memory) : (s.updMem f).stew = s.stew := rfl
@[simp] theorem State.updMem_fil (f : Memory → Memory) : (s.updMem f).fil = s.fil := rfl
@[simp] theorem State.updMem_out (f : Memory → Memory) : (s.updMem f).out = s.out := rfl
@[simp] theorem State.updMem_freeCtr (f : Memory → Memory) : (s.updMem f).freeCtr = s.freeCtr := rfl
@[simp] theorem State.updMem_pending (f : Memory → Memory) : (s.updMem f).pending = s.pending := rfl

/-! ### State.updSupply -/

@[simp] theorem State.updSupply_supply (f : Supply → Supply) : (s.updSupply f).supply = f s.supply := rfl
@[simp] theorem State.updSupply_clocks (f : Supply → Supply) : (s.updSupply f).clocks = s.clocks := rfl
@[simp] theorem State.updSupply_dev (f : Supply → Supply) : (s.updSupply f).dev = s.dev := rfl
@[simp] theorem State.updSupply_cmp (f : Supply → Supply) : (s.updSupply f).cmp = s.cmp := rfl
@[simp] theorem State.updSupply_otp (f : Supply → Supply) : (s.updSupply f).otp = s.otp := rfl
@[simp] theorem State.updSupply_flash (f : Supply → Supply) : (s.updSupply f).flash = s.flash := rfl
@[simp] theorem State.updSupply_hmk (f : Supply → Supply) : (s.updSupply f).hmk = s.hmk := rfl
@[simp] theorem State.updSupply_boot (f : Supply → Supply) : (s.updSupply f).boot = s.boot := rfl
@[simp] theorem State.updSupply_update (f : Supply → Supply) : (s.updSupply f).update = s.update := rfl
@[simp] theorem State.updSupply_row (f : Supply → Supply) : (s.updSupply f).row = s.row := rfl
@[simp] theorem State.updSupply_damem (f : Supply → Supply) : (s.updSupply f).damem = s.damem := rfl
@[simp] theorem State.updSupply_cal (f : Supply → Supply) : (s.updSupply f).cal = s.cal := rfl
@[simp] theorem State.updSupply_part (f : Supply → Supply) : (s.updSupply f).part = s.part := rfl
@[simp] theorem State.updSupply_ring (f : Supply → Supply) : (s.updSupply f).ring = s.ring := rfl
@[simp] theorem State.updSupply_mould (f : Supply → Supply) : (s.updSupply f).mould = s.mould := rfl
@[simp] theorem State.updSupply_mem (f : Supply → Supply) : (s.updSupply f).mem = s.mem := rfl
@[simp] theorem State.updSupply_tally (f : Supply → Supply) : (s.updSupply f).tally = s.tally := rfl
@[simp] theorem State.updSupply_sriov (f : Supply → Supply) : (s.updSupply f).sriov = s.sriov := rfl
@[simp] theorem State.updSupply_wmk (f : Supply → Supply) : (s.updSupply f).wmk = s.wmk := rfl
@[simp] theorem State.updSupply_mesh (f : Supply → Supply) : (s.updSupply f).mesh = s.mesh := rfl
@[simp] theorem State.updSupply_pho (f : Supply → Supply) : (s.updSupply f).pho = s.pho := rfl
@[simp] theorem State.updSupply_thm (f : Supply → Supply) : (s.updSupply f).thm = s.thm := rfl
@[simp] theorem State.updSupply_aar (f : Supply → Supply) : (s.updSupply f).aar = s.aar := rfl
@[simp] theorem State.updSupply_lpe (f : Supply → Supply) : (s.updSupply f).lpe = s.lpe := rfl
@[simp] theorem State.updSupply_prog (f : Supply → Supply) : (s.updSupply f).prog = s.prog := rfl
@[simp] theorem State.updSupply_pln (f : Supply → Supply) : (s.updSupply f).pln = s.pln := rfl
@[simp] theorem State.updSupply_stew (f : Supply → Supply) : (s.updSupply f).stew = s.stew := rfl
@[simp] theorem State.updSupply_fil (f : Supply → Supply) : (s.updSupply f).fil = s.fil := rfl
@[simp] theorem State.updSupply_out (f : Supply → Supply) : (s.updSupply f).out = s.out := rfl
@[simp] theorem State.updSupply_freeCtr (f : Supply → Supply) : (s.updSupply f).freeCtr = s.freeCtr := rfl
@[simp] theorem State.updSupply_pending (f : Supply → Supply) : (s.updSupply f).pending = s.pending := rfl

/-! ### State.updDev -/

@[simp] theorem State.updDev_supply (f : Dev → Dev) : (s.updDev f).supply = s.supply := rfl
@[simp] theorem State.updDev_clocks (f : Dev → Dev) : (s.updDev f).clocks = s.clocks := rfl
@[simp] theorem State.updDev_dev (f : Dev → Dev) : (s.updDev f).dev = f s.dev := rfl
@[simp] theorem State.updDev_cmp (f : Dev → Dev) : (s.updDev f).cmp = s.cmp := rfl
@[simp] theorem State.updDev_otp (f : Dev → Dev) : (s.updDev f).otp = s.otp := rfl
@[simp] theorem State.updDev_flash (f : Dev → Dev) : (s.updDev f).flash = s.flash := rfl
@[simp] theorem State.updDev_hmk (f : Dev → Dev) : (s.updDev f).hmk = s.hmk := rfl
@[simp] theorem State.updDev_boot (f : Dev → Dev) : (s.updDev f).boot = s.boot := rfl
@[simp] theorem State.updDev_update (f : Dev → Dev) : (s.updDev f).update = s.update := rfl
@[simp] theorem State.updDev_row (f : Dev → Dev) : (s.updDev f).row = s.row := rfl
@[simp] theorem State.updDev_damem (f : Dev → Dev) : (s.updDev f).damem = s.damem := rfl
@[simp] theorem State.updDev_cal (f : Dev → Dev) : (s.updDev f).cal = s.cal := rfl
@[simp] theorem State.updDev_part (f : Dev → Dev) : (s.updDev f).part = s.part := rfl
@[simp] theorem State.updDev_ring (f : Dev → Dev) : (s.updDev f).ring = s.ring := rfl
@[simp] theorem State.updDev_mould (f : Dev → Dev) : (s.updDev f).mould = s.mould := rfl
@[simp] theorem State.updDev_mem (f : Dev → Dev) : (s.updDev f).mem = s.mem := rfl
@[simp] theorem State.updDev_tally (f : Dev → Dev) : (s.updDev f).tally = s.tally := rfl
@[simp] theorem State.updDev_sriov (f : Dev → Dev) : (s.updDev f).sriov = s.sriov := rfl
@[simp] theorem State.updDev_wmk (f : Dev → Dev) : (s.updDev f).wmk = s.wmk := rfl
@[simp] theorem State.updDev_mesh (f : Dev → Dev) : (s.updDev f).mesh = s.mesh := rfl
@[simp] theorem State.updDev_pho (f : Dev → Dev) : (s.updDev f).pho = s.pho := rfl
@[simp] theorem State.updDev_thm (f : Dev → Dev) : (s.updDev f).thm = s.thm := rfl
@[simp] theorem State.updDev_aar (f : Dev → Dev) : (s.updDev f).aar = s.aar := rfl
@[simp] theorem State.updDev_lpe (f : Dev → Dev) : (s.updDev f).lpe = s.lpe := rfl
@[simp] theorem State.updDev_prog (f : Dev → Dev) : (s.updDev f).prog = s.prog := rfl
@[simp] theorem State.updDev_pln (f : Dev → Dev) : (s.updDev f).pln = s.pln := rfl
@[simp] theorem State.updDev_stew (f : Dev → Dev) : (s.updDev f).stew = s.stew := rfl
@[simp] theorem State.updDev_fil (f : Dev → Dev) : (s.updDev f).fil = s.fil := rfl
@[simp] theorem State.updDev_out (f : Dev → Dev) : (s.updDev f).out = s.out := rfl
@[simp] theorem State.updDev_freeCtr (f : Dev → Dev) : (s.updDev f).freeCtr = s.freeCtr := rfl
@[simp] theorem State.updDev_pending (f : Dev → Dev) : (s.updDev f).pending = s.pending := rfl

/-! ### State.emit -/

@[simp] theorem State.emit_supply (o : Out) : (s.emit o).supply = s.supply := rfl
@[simp] theorem State.emit_clocks (o : Out) : (s.emit o).clocks = s.clocks := rfl
@[simp] theorem State.emit_dev (o : Out) : (s.emit o).dev = s.dev := rfl
@[simp] theorem State.emit_cmp (o : Out) : (s.emit o).cmp = s.cmp := rfl
@[simp] theorem State.emit_otp (o : Out) : (s.emit o).otp = s.otp := rfl
@[simp] theorem State.emit_flash (o : Out) : (s.emit o).flash = s.flash := rfl
@[simp] theorem State.emit_hmk (o : Out) : (s.emit o).hmk = s.hmk := rfl
@[simp] theorem State.emit_boot (o : Out) : (s.emit o).boot = s.boot := rfl
@[simp] theorem State.emit_update (o : Out) : (s.emit o).update = s.update := rfl
@[simp] theorem State.emit_row (o : Out) : (s.emit o).row = s.row := rfl
@[simp] theorem State.emit_damem (o : Out) : (s.emit o).damem = s.damem := rfl
@[simp] theorem State.emit_cal (o : Out) : (s.emit o).cal = s.cal := rfl
@[simp] theorem State.emit_part (o : Out) : (s.emit o).part = s.part := rfl
@[simp] theorem State.emit_ring (o : Out) : (s.emit o).ring = s.ring := rfl
@[simp] theorem State.emit_mould (o : Out) : (s.emit o).mould = s.mould := rfl
@[simp] theorem State.emit_mem (o : Out) : (s.emit o).mem = s.mem := rfl
@[simp] theorem State.emit_tally (o : Out) : (s.emit o).tally = s.tally := rfl
@[simp] theorem State.emit_sriov (o : Out) : (s.emit o).sriov = s.sriov := rfl
@[simp] theorem State.emit_wmk (o : Out) : (s.emit o).wmk = s.wmk := rfl
@[simp] theorem State.emit_mesh (o : Out) : (s.emit o).mesh = s.mesh := rfl
@[simp] theorem State.emit_pho (o : Out) : (s.emit o).pho = s.pho := rfl
@[simp] theorem State.emit_thm (o : Out) : (s.emit o).thm = s.thm := rfl
@[simp] theorem State.emit_aar (o : Out) : (s.emit o).aar = s.aar := rfl
@[simp] theorem State.emit_lpe (o : Out) : (s.emit o).lpe = s.lpe := rfl
@[simp] theorem State.emit_prog (o : Out) : (s.emit o).prog = s.prog := rfl
@[simp] theorem State.emit_pln (o : Out) : (s.emit o).pln = s.pln := rfl
@[simp] theorem State.emit_stew (o : Out) : (s.emit o).stew = s.stew := rfl
@[simp] theorem State.emit_fil (o : Out) : (s.emit o).fil = s.fil := rfl
@[simp] theorem State.emit_out (o : Out) : (s.emit o).out = o :: s.out := rfl
@[simp] theorem State.emit_freeCtr (o : Out) : (s.emit o).freeCtr = s.freeCtr := rfl
@[simp] theorem State.emit_pending (o : Out) : (s.emit o).pending = s.pending := rfl

end Sys2Proof.Machine
end

