-- ==== Sys2Proof/Laws/Ops.lean ====
section
/-! SUPPORT. What the shared operations can do, said once each: notices, Calender records and answers change nothing of the device but
its mailboxes, its journal, its Calender and what it has sent. -/
namespace Sys2Proof.Machine

/-! ### Notices -/

theorem State.raiseMsix_form (s : State) (fn vec : Nat) : ∃ o, s.raiseMsix fn vec = { s with out := o } := by
  unfold State.raiseMsix
  generalize (if fn = 0 then 128 else 120) = n
  by_cases h : s.supply.endpoint = .ready ∧ vec < n
  · rw [if_pos h]; exact ⟨_, rfl⟩
  · rw [if_neg h]; exact ⟨s.out, rfl⟩

theorem State.updPage_form (s : State) (m : Nat) (f : MbxPage → MbxPage) :
    ∃ p, s.updPage m f = { s with damem := { s.damem with page := p } } := ⟨_, rfl⟩

theorem State.putNotice_form (s : State) (m : Nat) (n : Notice) :
    ∃ p o, s.putNotice m n = { s with damem := { s.damem with page := p }, out := o } := by
  unfold State.putNotice
  dsimp only
  split
  · obtain ⟨o, h⟩ := State.raiseMsix_form (s.updPage m fun pg =>
      { pg with ring := Table.put pg.ring (pg.pi % 8) (some { n with nseq := pg.nseq }), pi := (pg.pi + 1) % 256,
                nseq := (pg.nseq + 1) % 2 ^ 32 }) (mbxFn m) (s.pageAt m).vec
    exact ⟨_, o, h⟩
  · exact ⟨_, s.out, rfl⟩

theorem State.flushLost_form (s : State) (m : Nat) :
    ∃ p o, s.flushLost m = { s with damem := { s.damem with page := p }, out := o } := by
  unfold State.flushLost
  dsimp only
  split
  · obtain ⟨p, o, h⟩ := State.putNotice_form (s.updPage m fun pg => { pg with lostDue := false }) m (lostNotice s (s.pageAt m).lost)
    exact ⟨p, o, h⟩
  · exact ⟨s.damem.page, s.out, rfl⟩

theorem State.noticeTo_form (s : State) (m : Nat) (n : Notice) :
    ∃ p o, s.noticeTo m n = { s with damem := { s.damem with page := p }, out := o } := by
  obtain ⟨p, o, h⟩ := State.flushLost_form s m
  unfold State.noticeTo
  dsimp only
  rw [h]
  split
  · obtain ⟨p', o', h'⟩ := State.putNotice_form { s with damem := { s.damem with page := p }, out := o } m n
    exact ⟨p', o', h'⟩
  · exact ⟨_, o, rfl⟩

/-- A notice delivered, or queued, changes its mailbox page and what is sent. -/
theorem State.deliverNotice_form (s : State) (m : Nat) (n : Notice) :
    ∃ p o, s.deliverNotice m n = { s with damem := { s.damem with page := p }, out := o } := by
  unfold State.deliverNotice
  split
  · exact State.noticeTo_form s m n
  · exact ⟨_, s.out, rfl⟩

/-- A fold of an operation that changes only pages and what is sent changes only these. -/
theorem State.foldl_page_form {α : Type} (f : State → α → State)
    (hf : ∀ s a, ∃ p o, f s a = { s with damem := { s.damem with page := p }, out := o }) :
    ∀ (l : List α) (s : State), ∃ p o, l.foldl f s = { s with damem := { s.damem with page := p }, out := o }
  | [], s => ⟨s.damem.page, s.out, rfl⟩
  | a :: l, s => by
    obtain ⟨p, o, h⟩ := hf s a
    obtain ⟨p', o', h'⟩ := State.foldl_page_form f hf l (f s a)
    rw [h] at h'
    exact ⟨p', o', by rw [List.foldl_cons, h]; exact h'⟩

/-- A notice posted to every mailbox that subscribes changes only pages and what is sent. -/
theorem State.postNotice_form (s : State) (c : Nat) (part : Option Nat) (n : Notice) :
    ∃ p o, s.postNotice c part n = { s with damem := { s.damem with page := p }, out := o } := by
  refine State.foldl_page_form _ (fun s m => ?_) _ s
  split
  · exact State.deliverNotice_form _ _ _
  · exact ⟨s.damem.page, s.out, rfl⟩

theorem State.noticeNow_form (s : State) (c code : Nat) (raise : Bool) (prm : List Byte) (part : Option Nat) :
    ∃ p o, s.noticeNow c code raise prm part = { s with damem := { s.damem with page := p }, out := o } :=
  State.postNotice_form s _ _ _

/-! ### Calender records -/

theorem State.writeRec_form (s : State) (r : Rec) (n : Bool) :
    ∃ c p o, s.writeRec r n = { s with cal := c, damem := { s.damem with page := p }, out := o } := by
  unfold State.writeRec
  dsimp only
  split
  · split
    · obtain ⟨p, o, h⟩ := State.postNotice_form { s with cal := s.cal.push r } _ _ _
      exact ⟨_, p, o, h⟩
    · exact ⟨_, s.damem.page, s.out, rfl⟩
  · exact ⟨_, s.damem.page, s.out, rfl⟩

theorem State.check90_form (s : State) :
    ∃ c p o, s.check90 = { s with cal := c, damem := { s.damem with page := p }, out := o } := by
  unfold State.check90
  split
  · obtain ⟨c, p, o, h⟩ := State.writeRec_form ({ s with cal := { s.cal with warned90 := true } })
      (s.mkRec 0x0008 none true false (param [(4, s.cal.recs.length)])) true
    exact ⟨c, p, o, h⟩
  · exact ⟨s.cal, s.damem.page, s.out, rfl⟩

theorem State.logNew_form (s : State) (r : Rec) (n : Bool) :
    ∃ c p o, s.logNew r n = { s with cal := c, damem := { s.damem with page := p }, out := o } := by
  have h2 : ∀ s : State, ∃ c p o, (s.writeRec r n).check90 = { s with cal := c, damem := { s.damem with page := p }, out := o } := by
    intro s
    obtain ⟨c, p, o, h⟩ := State.writeRec_form s r n
    obtain ⟨c', p', o', h'⟩ := State.check90_form (s.writeRec r n)
    exact ⟨c', p', o', h'.trans (by rw [h])⟩
  unfold State.logNew
  split
  · exact h2 s
  · dsimp only
    split
    · obtain ⟨c, p, o, h⟩ := h2 { s with cal := { s.cal with buckets := _ } }
      exact ⟨c, p, o, h⟩
    · exact ⟨_, s.damem.page, s.out, rfl⟩

theorem State.logNow_form (s : State) (r : Rec) (n : Bool) :
    ∃ c p o, s.logNow r n = { s with cal := c, damem := { s.damem with page := p }, out := o } := by
  unfold State.logNow
  split
  · split
    · exact ⟨_, s.damem.page, s.out, rfl⟩
    · exact State.logNew_form s r n
  · exact State.logNew_form s r n

/-- A record changes the Calender, mailbox pages and what is sent, and nothing else. -/
theorem State.log_form (s : State) (code : Nat) (prm : List Byte) (part : Option Nat) (raise hw notice : Bool) :
    ∃ c p o, s.log code prm part raise hw notice = { s with cal := c, damem := { s.damem with page := p }, out := o } := by
  unfold State.log
  dsimp only
  split
  · exact ⟨_, s.damem.page, s.out, rfl⟩
  · exact State.logNow_form s _ _

theorem State.logRepeat_form (s : State) (i code : Nat) (prm : List Byte) (part : Option Nat) (raise hw : Bool) :
    ∃ c p o, s.logRepeat i code prm part raise hw = { s with cal := c, damem := { s.damem with page := p }, out := o } := by
  unfold State.logRepeat
  split
  · exact ⟨_, s.damem.page, s.out, rfl⟩
  · exact State.log_form s _ _ _ _ _ _

/-! ### Answers -/

theorem State.putResp_form (s : State) (f : InFlight) (r : Resp) :
    ∃ p o, s.putResp f r = { s with damem := { s.damem with page := p }, out := o } := by
  have h1 : ∀ (s : State) m, ∃ p o, (let s1 := s.updPage m fun pg =>
        { pg with slots := Table.put pg.slots r.tag (some r), respValid := Table.put pg.respValid r.tag true }
      let pg := s1.pageAt m
      if pg.respIe then s1.raiseMsix (mbxFn m) pg.vec else s1) = { s with damem := { s.damem with page := p }, out := o } := by
    intro s m
    dsimp only
    split
    · obtain ⟨o, h⟩ := State.raiseMsix_form (s.updPage m fun pg =>
        { pg with slots := Table.put pg.slots r.tag (some r), respValid := Table.put pg.respValid r.tag true }) (mbxFn m) _
      exact ⟨_, o, h⟩
    · exact ⟨_, s.out, rfl⟩
  unfold State.putResp
  split
  · split
    · exact ⟨s.damem.page, _, rfl⟩
    · exact ⟨s.damem.page, _, rfl⟩
  · rename_i m hm
    split
    · exact ⟨s.damem.page, s.out, rfl⟩
    · split
      · rename_i d hd
        obtain ⟨p, o, h⟩ := h1 (s.emit (.hostWrite (mbxFn m) (fld f.req.payload 0 8) d)) m
        exact ⟨p, o, h⟩
      · exact h1 s m

theorem State.sendResp_form (s : State) (f : InFlight) (r : Resp) : ∃ d o, s.sendResp f r = { s with damem := d, out := o } := by
  unfold State.sendResp
  dsimp only
  split
  · exact ⟨_, s.out, rfl⟩
  · obtain ⟨p, o, h⟩ := State.putResp_form { s with damem := { s.damem with inflight := s.damem.inflight.erase f } } f r
    exact ⟨_, o, h⟩

/-- An answer changes the journal, mailbox pages and what is sent, and nothing else. -/
theorem State.answer_form (s : State) (f : InFlight) (st : Status) (detail : Nat) (payload : List Byte) (bulk : Option (List Byte))
    (hint : Nat) : ∃ d o, s.answer f st detail payload bulk hint = { s with damem := d, out := o } := by
  unfold State.answer
  dsimp only
  split
  · exact ⟨_, s.out, rfl⟩
  · exact State.sendResp_form s f _

/-- A fold of an operation that changes only the mailboxes' part and what is sent changes only these. -/
theorem State.foldl_damem_form {α : Type} (f : State → α → State) (hf : ∀ s a, ∃ d o, f s a = { s with damem := d, out := o }) :
    ∀ (l : List α) (s : State), ∃ d o, l.foldl f s = { s with damem := d, out := o }
  | [], s => ⟨s.damem, s.out, rfl⟩
  | a :: l, s => by
    obtain ⟨p, o, h⟩ := hf s a
    obtain ⟨p', o', h'⟩ := State.foldl_damem_form f hf l (f s a)
    rw [h] at h'
    exact ⟨p', o', by rw [List.foldl_cons, h]; exact h'⟩

theorem State.answerWaiting_form (s : State) (w : Wait) (st : Status) (detail : Nat) (payload : InFlight → List Byte) :
    ∃ d o, s.answerWaiting w st detail payload = { s with damem := d, out := o } := by
  refine State.foldl_damem_form _ (fun s f => ?_) _ s
  split
  · exact State.answer_form s _ _ _ _ _ _
  · exact ⟨s.damem, s.out, rfl⟩

/-! ### Fields that records, notices and answers leave alone -/


variable (s : State)

@[simp] theorem State.log_supply (code : Nat) (prm : List Byte) (part : Option Nat) (raise hw notice : Bool) : (s.log code prm part raise hw notice).supply = s.supply := by
  obtain ⟨_, _, _, h⟩ := State.log_form s code prm part raise hw notice; rw [h]
@[simp] theorem State.log_clocks (code : Nat) (prm : List Byte) (part : Option Nat) (raise hw notice : Bool) : (s.log code prm part raise hw notice).clocks = s.clocks := by
  obtain ⟨_, _, _, h⟩ := State.log_form s code prm part raise hw notice; rw [h]
@[simp] theorem State.log_dev (code : Nat) (prm : List Byte) (part : Option Nat) (raise hw notice : Bool) : (s.log code prm part raise hw notice).dev = s.dev := by
  obtain ⟨_, _, _, h⟩ := State.log_form s code prm part raise hw notice; rw [h]
@[simp] theorem State.log_cmp (code : Nat) (prm : List Byte) (part : Option Nat) (raise hw notice : Bool) : (s.log code prm part raise hw notice).cmp = s.cmp := by
  obtain ⟨_, _, _, h⟩ := State.log_form s code prm part raise hw notice; rw [h]
@[simp] theorem State.log_otp (code : Nat) (prm : List Byte) (part : Option Nat) (raise hw notice : Bool) : (s.log code prm part raise hw notice).otp = s.otp := by
  obtain ⟨_, _, _, h⟩ := State.log_form s code prm part raise hw notice; rw [h]
@[simp] theorem State.log_flash (code : Nat) (prm : List Byte) (part : Option Nat) (raise hw notice : Bool) : (s.log code prm part raise hw notice).flash = s.flash := by
  obtain ⟨_, _, _, h⟩ := State.log_form s code prm part raise hw notice; rw [h]
@[simp] theorem State.log_hmk (code : Nat) (prm : List Byte) (part : Option Nat) (raise hw notice : Bool) : (s.log code prm part raise hw notice).hmk = s.hmk := by
  obtain ⟨_, _, _, h⟩ := State.log_form s code prm part raise hw notice; rw [h]
@[simp] theorem State.log_boot (code : Nat) (prm : List Byte) (part : Option Nat) (raise hw notice : Bool) : (s.log code prm part raise hw notice).boot = s.boot := by
  obtain ⟨_, _, _, h⟩ := State.log_form s code prm part raise hw notice; rw [h]
@[simp] theorem State.log_update (code : Nat) (prm : List Byte) (part : Option Nat) (raise hw notice : Bool) : (s.log code prm part raise hw notice).update = s.update := by
  obtain ⟨_, _, _, h⟩ := State.log_form s code prm part raise hw notice; rw [h]
@[simp] theorem State.log_row (code : Nat) (prm : List Byte) (part : Option Nat) (raise hw notice : Bool) : (s.log code prm part raise hw notice).row = s.row := by
  obtain ⟨_, _, _, h⟩ := State.log_form s code prm part raise hw notice; rw [h]
@[simp] theorem State.log_part (code : Nat) (prm : List Byte) (part : Option Nat) (raise hw notice : Bool) : (s.log code prm part raise hw notice).part = s.part := by
  obtain ⟨_, _, _, h⟩ := State.log_form s code prm part raise hw notice; rw [h]
@[simp] theorem State.log_ring (code : Nat) (prm : List Byte) (part : Option Nat) (raise hw notice : Bool) : (s.log code prm part raise hw notice).ring = s.ring := by
  obtain ⟨_, _, _, h⟩ := State.log_form s code prm part raise hw notice; rw [h]
@[simp] theorem State.log_mould (code : Nat) (prm : List Byte) (part : Option Nat) (raise hw notice : Bool) : (s.log code prm part raise hw notice).mould = s.mould := by
  obtain ⟨_, _, _, h⟩ := State.log_form s code prm part raise hw notice; rw [h]
@[simp] theorem State.log_mem (code : Nat) (prm : List Byte) (part : Option Nat) (raise hw notice : Bool) : (s.log code prm part raise hw notice).mem = s.mem := by
  obtain ⟨_, _, _, h⟩ := State.log_form s code prm part raise hw notice; rw [h]
@[simp] theorem State.log_tally (code : Nat) (prm : List Byte) (part : Option Nat) (raise hw notice : Bool) : (s.log code prm part raise hw notice).tally = s.tally := by
  obtain ⟨_, _, _, h⟩ := State.log_form s code prm part raise hw notice; rw [h]
@[simp] theorem State.log_sriov (code : Nat) (prm : List Byte) (part : Option Nat) (raise hw notice : Bool) : (s.log code prm part raise hw notice).sriov = s.sriov := by
  obtain ⟨_, _, _, h⟩ := State.log_form s code prm part raise hw notice; rw [h]
@[simp] theorem State.log_wmk (code : Nat) (prm : List Byte) (part : Option Nat) (raise hw notice : Bool) : (s.log code prm part raise hw notice).wmk = s.wmk := by
  obtain ⟨_, _, _, h⟩ := State.log_form s code prm part raise hw notice; rw [h]
@[simp] theorem State.log_mesh (code : Nat) (prm : List Byte) (part : Option Nat) (raise hw notice : Bool) : (s.log code prm part raise hw notice).mesh = s.mesh := by
  obtain ⟨_, _, _, h⟩ := State.log_form s code prm part raise hw notice; rw [h]
@[simp] theorem State.log_pho (code : Nat) (prm : List Byte) (part : Option Nat) (raise hw notice : Bool) : (s.log code prm part raise hw notice).pho = s.pho := by
  obtain ⟨_, _, _, h⟩ := State.log_form s code prm part raise hw notice; rw [h]
@[simp] theorem State.log_thm (code : Nat) (prm : List Byte) (part : Option Nat) (raise hw notice : Bool) : (s.log code prm part raise hw notice).thm = s.thm := by
  obtain ⟨_, _, _, h⟩ := State.log_form s code prm part raise hw notice; rw [h]
@[simp] theorem State.log_aar (code : Nat) (prm : List Byte) (part : Option Nat) (raise hw notice : Bool) : (s.log code prm part raise hw notice).aar = s.aar := by
  obtain ⟨_, _, _, h⟩ := State.log_form s code prm part raise hw notice; rw [h]
@[simp] theorem State.log_lpe (code : Nat) (prm : List Byte) (part : Option Nat) (raise hw notice : Bool) : (s.log code prm part raise hw notice).lpe = s.lpe := by
  obtain ⟨_, _, _, h⟩ := State.log_form s code prm part raise hw notice; rw [h]
@[simp] theorem State.log_prog (code : Nat) (prm : List Byte) (part : Option Nat) (raise hw notice : Bool) : (s.log code prm part raise hw notice).prog = s.prog := by
  obtain ⟨_, _, _, h⟩ := State.log_form s code prm part raise hw notice; rw [h]
@[simp] theorem State.log_pln (code : Nat) (prm : List Byte) (part : Option Nat) (raise hw notice : Bool) : (s.log code prm part raise hw notice).pln = s.pln := by
  obtain ⟨_, _, _, h⟩ := State.log_form s code prm part raise hw notice; rw [h]
@[simp] theorem State.log_stew (code : Nat) (prm : List Byte) (part : Option Nat) (raise hw notice : Bool) : (s.log code prm part raise hw notice).stew = s.stew := by
  obtain ⟨_, _, _, h⟩ := State.log_form s code prm part raise hw notice; rw [h]
@[simp] theorem State.log_fil (code : Nat) (prm : List Byte) (part : Option Nat) (raise hw notice : Bool) : (s.log code prm part raise hw notice).fil = s.fil := by
  obtain ⟨_, _, _, h⟩ := State.log_form s code prm part raise hw notice; rw [h]
@[simp] theorem State.log_freeCtr (code : Nat) (prm : List Byte) (part : Option Nat) (raise hw notice : Bool) : (s.log code prm part raise hw notice).freeCtr = s.freeCtr := by
  obtain ⟨_, _, _, h⟩ := State.log_form s code prm part raise hw notice; rw [h]
@[simp] theorem State.log_pending (code : Nat) (prm : List Byte) (part : Option Nat) (raise hw notice : Bool) : (s.log code prm part raise hw notice).pending = s.pending := by
  obtain ⟨_, _, _, h⟩ := State.log_form s code prm part raise hw notice; rw [h]

@[simp] theorem State.logRepeat_supply (i code : Nat) (prm : List Byte) (part : Option Nat) (raise hw : Bool) : (s.logRepeat i code prm part raise hw).supply = s.supply := by
  obtain ⟨_, _, _, h⟩ := State.logRepeat_form s i code prm part raise hw; rw [h]
@[simp] theorem State.logRepeat_clocks (i code : Nat) (prm : List Byte) (part : Option Nat) (raise hw : Bool) : (s.logRepeat i code prm part raise hw).clocks = s.clocks := by
  obtain ⟨_, _, _, h⟩ := State.logRepeat_form s i code prm part raise hw; rw [h]
@[simp] theorem State.logRepeat_dev (i code : Nat) (prm : List Byte) (part : Option Nat) (raise hw : Bool) : (s.logRepeat i code prm part raise hw).dev = s.dev := by
  obtain ⟨_, _, _, h⟩ := State.logRepeat_form s i code prm part raise hw; rw [h]
@[simp] theorem State.logRepeat_cmp (i code : Nat) (prm : List Byte) (part : Option Nat) (raise hw : Bool) : (s.logRepeat i code prm part raise hw).cmp = s.cmp := by
  obtain ⟨_, _, _, h⟩ := State.logRepeat_form s i code prm part raise hw; rw [h]
@[simp] theorem State.logRepeat_otp (i code : Nat) (prm : List Byte) (part : Option Nat) (raise hw : Bool) : (s.logRepeat i code prm part raise hw).otp = s.otp := by
  obtain ⟨_, _, _, h⟩ := State.logRepeat_form s i code prm part raise hw; rw [h]
@[simp] theorem State.logRepeat_flash (i code : Nat) (prm : List Byte) (part : Option Nat) (raise hw : Bool) : (s.logRepeat i code prm part raise hw).flash = s.flash := by
  obtain ⟨_, _, _, h⟩ := State.logRepeat_form s i code prm part raise hw; rw [h]
@[simp] theorem State.logRepeat_hmk (i code : Nat) (prm : List Byte) (part : Option Nat) (raise hw : Bool) : (s.logRepeat i code prm part raise hw).hmk = s.hmk := by
  obtain ⟨_, _, _, h⟩ := State.logRepeat_form s i code prm part raise hw; rw [h]
@[simp] theorem State.logRepeat_boot (i code : Nat) (prm : List Byte) (part : Option Nat) (raise hw : Bool) : (s.logRepeat i code prm part raise hw).boot = s.boot := by
  obtain ⟨_, _, _, h⟩ := State.logRepeat_form s i code prm part raise hw; rw [h]
@[simp] theorem State.logRepeat_update (i code : Nat) (prm : List Byte) (part : Option Nat) (raise hw : Bool) : (s.logRepeat i code prm part raise hw).update = s.update := by
  obtain ⟨_, _, _, h⟩ := State.logRepeat_form s i code prm part raise hw; rw [h]
@[simp] theorem State.logRepeat_row (i code : Nat) (prm : List Byte) (part : Option Nat) (raise hw : Bool) : (s.logRepeat i code prm part raise hw).row = s.row := by
  obtain ⟨_, _, _, h⟩ := State.logRepeat_form s i code prm part raise hw; rw [h]
@[simp] theorem State.logRepeat_part (i code : Nat) (prm : List Byte) (part : Option Nat) (raise hw : Bool) : (s.logRepeat i code prm part raise hw).part = s.part := by
  obtain ⟨_, _, _, h⟩ := State.logRepeat_form s i code prm part raise hw; rw [h]
@[simp] theorem State.logRepeat_ring (i code : Nat) (prm : List Byte) (part : Option Nat) (raise hw : Bool) : (s.logRepeat i code prm part raise hw).ring = s.ring := by
  obtain ⟨_, _, _, h⟩ := State.logRepeat_form s i code prm part raise hw; rw [h]
@[simp] theorem State.logRepeat_mould (i code : Nat) (prm : List Byte) (part : Option Nat) (raise hw : Bool) : (s.logRepeat i code prm part raise hw).mould = s.mould := by
  obtain ⟨_, _, _, h⟩ := State.logRepeat_form s i code prm part raise hw; rw [h]
@[simp] theorem State.logRepeat_mem (i code : Nat) (prm : List Byte) (part : Option Nat) (raise hw : Bool) : (s.logRepeat i code prm part raise hw).mem = s.mem := by
  obtain ⟨_, _, _, h⟩ := State.logRepeat_form s i code prm part raise hw; rw [h]
@[simp] theorem State.logRepeat_tally (i code : Nat) (prm : List Byte) (part : Option Nat) (raise hw : Bool) : (s.logRepeat i code prm part raise hw).tally = s.tally := by
  obtain ⟨_, _, _, h⟩ := State.logRepeat_form s i code prm part raise hw; rw [h]
@[simp] theorem State.logRepeat_sriov (i code : Nat) (prm : List Byte) (part : Option Nat) (raise hw : Bool) : (s.logRepeat i code prm part raise hw).sriov = s.sriov := by
  obtain ⟨_, _, _, h⟩ := State.logRepeat_form s i code prm part raise hw; rw [h]
@[simp] theorem State.logRepeat_wmk (i code : Nat) (prm : List Byte) (part : Option Nat) (raise hw : Bool) : (s.logRepeat i code prm part raise hw).wmk = s.wmk := by
  obtain ⟨_, _, _, h⟩ := State.logRepeat_form s i code prm part raise hw; rw [h]
@[simp] theorem State.logRepeat_mesh (i code : Nat) (prm : List Byte) (part : Option Nat) (raise hw : Bool) : (s.logRepeat i code prm part raise hw).mesh = s.mesh := by
  obtain ⟨_, _, _, h⟩ := State.logRepeat_form s i code prm part raise hw; rw [h]
@[simp] theorem State.logRepeat_pho (i code : Nat) (prm : List Byte) (part : Option Nat) (raise hw : Bool) : (s.logRepeat i code prm part raise hw).pho = s.pho := by
  obtain ⟨_, _, _, h⟩ := State.logRepeat_form s i code prm part raise hw; rw [h]
@[simp] theorem State.logRepeat_thm (i code : Nat) (prm : List Byte) (part : Option Nat) (raise hw : Bool) : (s.logRepeat i code prm part raise hw).thm = s.thm := by
  obtain ⟨_, _, _, h⟩ := State.logRepeat_form s i code prm part raise hw; rw [h]
@[simp] theorem State.logRepeat_aar (i code : Nat) (prm : List Byte) (part : Option Nat) (raise hw : Bool) : (s.logRepeat i code prm part raise hw).aar = s.aar := by
  obtain ⟨_, _, _, h⟩ := State.logRepeat_form s i code prm part raise hw; rw [h]
@[simp] theorem State.logRepeat_lpe (i code : Nat) (prm : List Byte) (part : Option Nat) (raise hw : Bool) : (s.logRepeat i code prm part raise hw).lpe = s.lpe := by
  obtain ⟨_, _, _, h⟩ := State.logRepeat_form s i code prm part raise hw; rw [h]
@[simp] theorem State.logRepeat_prog (i code : Nat) (prm : List Byte) (part : Option Nat) (raise hw : Bool) : (s.logRepeat i code prm part raise hw).prog = s.prog := by
  obtain ⟨_, _, _, h⟩ := State.logRepeat_form s i code prm part raise hw; rw [h]
@[simp] theorem State.logRepeat_pln (i code : Nat) (prm : List Byte) (part : Option Nat) (raise hw : Bool) : (s.logRepeat i code prm part raise hw).pln = s.pln := by
  obtain ⟨_, _, _, h⟩ := State.logRepeat_form s i code prm part raise hw; rw [h]
@[simp] theorem State.logRepeat_stew (i code : Nat) (prm : List Byte) (part : Option Nat) (raise hw : Bool) : (s.logRepeat i code prm part raise hw).stew = s.stew := by
  obtain ⟨_, _, _, h⟩ := State.logRepeat_form s i code prm part raise hw; rw [h]
@[simp] theorem State.logRepeat_fil (i code : Nat) (prm : List Byte) (part : Option Nat) (raise hw : Bool) : (s.logRepeat i code prm part raise hw).fil = s.fil := by
  obtain ⟨_, _, _, h⟩ := State.logRepeat_form s i code prm part raise hw; rw [h]
@[simp] theorem State.logRepeat_freeCtr (i code : Nat) (prm : List Byte) (part : Option Nat) (raise hw : Bool) : (s.logRepeat i code prm part raise hw).freeCtr = s.freeCtr := by
  obtain ⟨_, _, _, h⟩ := State.logRepeat_form s i code prm part raise hw; rw [h]
@[simp] theorem State.logRepeat_pending (i code : Nat) (prm : List Byte) (part : Option Nat) (raise hw : Bool) : (s.logRepeat i code prm part raise hw).pending = s.pending := by
  obtain ⟨_, _, _, h⟩ := State.logRepeat_form s i code prm part raise hw; rw [h]

@[simp] theorem State.noticeNow_supply (c code : Nat) (raise : Bool) (prm : List Byte) (part : Option Nat) : (s.noticeNow c code raise prm part).supply = s.supply := by
  obtain ⟨_, _, h⟩ := State.noticeNow_form s c code raise prm part; rw [h]
@[simp] theorem State.noticeNow_clocks (c code : Nat) (raise : Bool) (prm : List Byte) (part : Option Nat) : (s.noticeNow c code raise prm part).clocks = s.clocks := by
  obtain ⟨_, _, h⟩ := State.noticeNow_form s c code raise prm part; rw [h]
@[simp] theorem State.noticeNow_dev (c code : Nat) (raise : Bool) (prm : List Byte) (part : Option Nat) : (s.noticeNow c code raise prm part).dev = s.dev := by
  obtain ⟨_, _, h⟩ := State.noticeNow_form s c code raise prm part; rw [h]
@[simp] theorem State.noticeNow_cmp (c code : Nat) (raise : Bool) (prm : List Byte) (part : Option Nat) : (s.noticeNow c code raise prm part).cmp = s.cmp := by
  obtain ⟨_, _, h⟩ := State.noticeNow_form s c code raise prm part; rw [h]
@[simp] theorem State.noticeNow_otp (c code : Nat) (raise : Bool) (prm : List Byte) (part : Option Nat) : (s.noticeNow c code raise prm part).otp = s.otp := by
  obtain ⟨_, _, h⟩ := State.noticeNow_form s c code raise prm part; rw [h]
@[simp] theorem State.noticeNow_flash (c code : Nat) (raise : Bool) (prm : List Byte) (part : Option Nat) : (s.noticeNow c code raise prm part).flash = s.flash := by
  obtain ⟨_, _, h⟩ := State.noticeNow_form s c code raise prm part; rw [h]
@[simp] theorem State.noticeNow_hmk (c code : Nat) (raise : Bool) (prm : List Byte) (part : Option Nat) : (s.noticeNow c code raise prm part).hmk = s.hmk := by
  obtain ⟨_, _, h⟩ := State.noticeNow_form s c code raise prm part; rw [h]
@[simp] theorem State.noticeNow_boot (c code : Nat) (raise : Bool) (prm : List Byte) (part : Option Nat) : (s.noticeNow c code raise prm part).boot = s.boot := by
  obtain ⟨_, _, h⟩ := State.noticeNow_form s c code raise prm part; rw [h]
@[simp] theorem State.noticeNow_update (c code : Nat) (raise : Bool) (prm : List Byte) (part : Option Nat) : (s.noticeNow c code raise prm part).update = s.update := by
  obtain ⟨_, _, h⟩ := State.noticeNow_form s c code raise prm part; rw [h]
@[simp] theorem State.noticeNow_row (c code : Nat) (raise : Bool) (prm : List Byte) (part : Option Nat) : (s.noticeNow c code raise prm part).row = s.row := by
  obtain ⟨_, _, h⟩ := State.noticeNow_form s c code raise prm part; rw [h]
@[simp] theorem State.noticeNow_cal (c code : Nat) (raise : Bool) (prm : List Byte) (part : Option Nat) : (s.noticeNow c code raise prm part).cal = s.cal := by
  obtain ⟨_, _, h⟩ := State.noticeNow_form s c code raise prm part; rw [h]
@[simp] theorem State.noticeNow_part (c code : Nat) (raise : Bool) (prm : List Byte) (part : Option Nat) : (s.noticeNow c code raise prm part).part = s.part := by
  obtain ⟨_, _, h⟩ := State.noticeNow_form s c code raise prm part; rw [h]
@[simp] theorem State.noticeNow_ring (c code : Nat) (raise : Bool) (prm : List Byte) (part : Option Nat) : (s.noticeNow c code raise prm part).ring = s.ring := by
  obtain ⟨_, _, h⟩ := State.noticeNow_form s c code raise prm part; rw [h]
@[simp] theorem State.noticeNow_mould (c code : Nat) (raise : Bool) (prm : List Byte) (part : Option Nat) : (s.noticeNow c code raise prm part).mould = s.mould := by
  obtain ⟨_, _, h⟩ := State.noticeNow_form s c code raise prm part; rw [h]
@[simp] theorem State.noticeNow_mem (c code : Nat) (raise : Bool) (prm : List Byte) (part : Option Nat) : (s.noticeNow c code raise prm part).mem = s.mem := by
  obtain ⟨_, _, h⟩ := State.noticeNow_form s c code raise prm part; rw [h]
@[simp] theorem State.noticeNow_tally (c code : Nat) (raise : Bool) (prm : List Byte) (part : Option Nat) : (s.noticeNow c code raise prm part).tally = s.tally := by
  obtain ⟨_, _, h⟩ := State.noticeNow_form s c code raise prm part; rw [h]
@[simp] theorem State.noticeNow_sriov (c code : Nat) (raise : Bool) (prm : List Byte) (part : Option Nat) : (s.noticeNow c code raise prm part).sriov = s.sriov := by
  obtain ⟨_, _, h⟩ := State.noticeNow_form s c code raise prm part; rw [h]
@[simp] theorem State.noticeNow_wmk (c code : Nat) (raise : Bool) (prm : List Byte) (part : Option Nat) : (s.noticeNow c code raise prm part).wmk = s.wmk := by
  obtain ⟨_, _, h⟩ := State.noticeNow_form s c code raise prm part; rw [h]
@[simp] theorem State.noticeNow_mesh (c code : Nat) (raise : Bool) (prm : List Byte) (part : Option Nat) : (s.noticeNow c code raise prm part).mesh = s.mesh := by
  obtain ⟨_, _, h⟩ := State.noticeNow_form s c code raise prm part; rw [h]
@[simp] theorem State.noticeNow_pho (c code : Nat) (raise : Bool) (prm : List Byte) (part : Option Nat) : (s.noticeNow c code raise prm part).pho = s.pho := by
  obtain ⟨_, _, h⟩ := State.noticeNow_form s c code raise prm part; rw [h]
@[simp] theorem State.noticeNow_thm (c code : Nat) (raise : Bool) (prm : List Byte) (part : Option Nat) : (s.noticeNow c code raise prm part).thm = s.thm := by
  obtain ⟨_, _, h⟩ := State.noticeNow_form s c code raise prm part; rw [h]
@[simp] theorem State.noticeNow_aar (c code : Nat) (raise : Bool) (prm : List Byte) (part : Option Nat) : (s.noticeNow c code raise prm part).aar = s.aar := by
  obtain ⟨_, _, h⟩ := State.noticeNow_form s c code raise prm part; rw [h]
@[simp] theorem State.noticeNow_lpe (c code : Nat) (raise : Bool) (prm : List Byte) (part : Option Nat) : (s.noticeNow c code raise prm part).lpe = s.lpe := by
  obtain ⟨_, _, h⟩ := State.noticeNow_form s c code raise prm part; rw [h]
@[simp] theorem State.noticeNow_prog (c code : Nat) (raise : Bool) (prm : List Byte) (part : Option Nat) : (s.noticeNow c code raise prm part).prog = s.prog := by
  obtain ⟨_, _, h⟩ := State.noticeNow_form s c code raise prm part; rw [h]
@[simp] theorem State.noticeNow_pln (c code : Nat) (raise : Bool) (prm : List Byte) (part : Option Nat) : (s.noticeNow c code raise prm part).pln = s.pln := by
  obtain ⟨_, _, h⟩ := State.noticeNow_form s c code raise prm part; rw [h]
@[simp] theorem State.noticeNow_stew (c code : Nat) (raise : Bool) (prm : List Byte) (part : Option Nat) : (s.noticeNow c code raise prm part).stew = s.stew := by
  obtain ⟨_, _, h⟩ := State.noticeNow_form s c code raise prm part; rw [h]
@[simp] theorem State.noticeNow_fil (c code : Nat) (raise : Bool) (prm : List Byte) (part : Option Nat) : (s.noticeNow c code raise prm part).fil = s.fil := by
  obtain ⟨_, _, h⟩ := State.noticeNow_form s c code raise prm part; rw [h]
@[simp] theorem State.noticeNow_freeCtr (c code : Nat) (raise : Bool) (prm : List Byte) (part : Option Nat) : (s.noticeNow c code raise prm part).freeCtr = s.freeCtr := by
  obtain ⟨_, _, h⟩ := State.noticeNow_form s c code raise prm part; rw [h]
@[simp] theorem State.noticeNow_pending (c code : Nat) (raise : Bool) (prm : List Byte) (part : Option Nat) : (s.noticeNow c code raise prm part).pending = s.pending := by
  obtain ⟨_, _, h⟩ := State.noticeNow_form s c code raise prm part; rw [h]

@[simp] theorem State.answer_supply (f : InFlight) (st : Status) (detail : Nat) (payload : List Byte) (bulk : Option (List Byte)) (hint : Nat) : (s.answer f st detail payload bulk hint).supply = s.supply := by
  obtain ⟨_, _, h⟩ := State.answer_form s f st detail payload bulk hint; rw [h]
@[simp] theorem State.answer_clocks (f : InFlight) (st : Status) (detail : Nat) (payload : List Byte) (bulk : Option (List Byte)) (hint : Nat) : (s.answer f st detail payload bulk hint).clocks = s.clocks := by
  obtain ⟨_, _, h⟩ := State.answer_form s f st detail payload bulk hint; rw [h]
@[simp] theorem State.answer_dev (f : InFlight) (st : Status) (detail : Nat) (payload : List Byte) (bulk : Option (List Byte)) (hint : Nat) : (s.answer f st detail payload bulk hint).dev = s.dev := by
  obtain ⟨_, _, h⟩ := State.answer_form s f st detail payload bulk hint; rw [h]
@[simp] theorem State.answer_cmp (f : InFlight) (st : Status) (detail : Nat) (payload : List Byte) (bulk : Option (List Byte)) (hint : Nat) : (s.answer f st detail payload bulk hint).cmp = s.cmp := by
  obtain ⟨_, _, h⟩ := State.answer_form s f st detail payload bulk hint; rw [h]
@[simp] theorem State.answer_otp (f : InFlight) (st : Status) (detail : Nat) (payload : List Byte) (bulk : Option (List Byte)) (hint : Nat) : (s.answer f st detail payload bulk hint).otp = s.otp := by
  obtain ⟨_, _, h⟩ := State.answer_form s f st detail payload bulk hint; rw [h]
@[simp] theorem State.answer_flash (f : InFlight) (st : Status) (detail : Nat) (payload : List Byte) (bulk : Option (List Byte)) (hint : Nat) : (s.answer f st detail payload bulk hint).flash = s.flash := by
  obtain ⟨_, _, h⟩ := State.answer_form s f st detail payload bulk hint; rw [h]
@[simp] theorem State.answer_hmk (f : InFlight) (st : Status) (detail : Nat) (payload : List Byte) (bulk : Option (List Byte)) (hint : Nat) : (s.answer f st detail payload bulk hint).hmk = s.hmk := by
  obtain ⟨_, _, h⟩ := State.answer_form s f st detail payload bulk hint; rw [h]
@[simp] theorem State.answer_boot (f : InFlight) (st : Status) (detail : Nat) (payload : List Byte) (bulk : Option (List Byte)) (hint : Nat) : (s.answer f st detail payload bulk hint).boot = s.boot := by
  obtain ⟨_, _, h⟩ := State.answer_form s f st detail payload bulk hint; rw [h]
@[simp] theorem State.answer_update (f : InFlight) (st : Status) (detail : Nat) (payload : List Byte) (bulk : Option (List Byte)) (hint : Nat) : (s.answer f st detail payload bulk hint).update = s.update := by
  obtain ⟨_, _, h⟩ := State.answer_form s f st detail payload bulk hint; rw [h]
@[simp] theorem State.answer_row (f : InFlight) (st : Status) (detail : Nat) (payload : List Byte) (bulk : Option (List Byte)) (hint : Nat) : (s.answer f st detail payload bulk hint).row = s.row := by
  obtain ⟨_, _, h⟩ := State.answer_form s f st detail payload bulk hint; rw [h]
@[simp] theorem State.answer_cal (f : InFlight) (st : Status) (detail : Nat) (payload : List Byte) (bulk : Option (List Byte)) (hint : Nat) : (s.answer f st detail payload bulk hint).cal = s.cal := by
  obtain ⟨_, _, h⟩ := State.answer_form s f st detail payload bulk hint; rw [h]
@[simp] theorem State.answer_part (f : InFlight) (st : Status) (detail : Nat) (payload : List Byte) (bulk : Option (List Byte)) (hint : Nat) : (s.answer f st detail payload bulk hint).part = s.part := by
  obtain ⟨_, _, h⟩ := State.answer_form s f st detail payload bulk hint; rw [h]
@[simp] theorem State.answer_ring (f : InFlight) (st : Status) (detail : Nat) (payload : List Byte) (bulk : Option (List Byte)) (hint : Nat) : (s.answer f st detail payload bulk hint).ring = s.ring := by
  obtain ⟨_, _, h⟩ := State.answer_form s f st detail payload bulk hint; rw [h]
@[simp] theorem State.answer_mould (f : InFlight) (st : Status) (detail : Nat) (payload : List Byte) (bulk : Option (List Byte)) (hint : Nat) : (s.answer f st detail payload bulk hint).mould = s.mould := by
  obtain ⟨_, _, h⟩ := State.answer_form s f st detail payload bulk hint; rw [h]
@[simp] theorem State.answer_mem (f : InFlight) (st : Status) (detail : Nat) (payload : List Byte) (bulk : Option (List Byte)) (hint : Nat) : (s.answer f st detail payload bulk hint).mem = s.mem := by
  obtain ⟨_, _, h⟩ := State.answer_form s f st detail payload bulk hint; rw [h]
@[simp] theorem State.answer_tally (f : InFlight) (st : Status) (detail : Nat) (payload : List Byte) (bulk : Option (List Byte)) (hint : Nat) : (s.answer f st detail payload bulk hint).tally = s.tally := by
  obtain ⟨_, _, h⟩ := State.answer_form s f st detail payload bulk hint; rw [h]
@[simp] theorem State.answer_sriov (f : InFlight) (st : Status) (detail : Nat) (payload : List Byte) (bulk : Option (List Byte)) (hint : Nat) : (s.answer f st detail payload bulk hint).sriov = s.sriov := by
  obtain ⟨_, _, h⟩ := State.answer_form s f st detail payload bulk hint; rw [h]
@[simp] theorem State.answer_wmk (f : InFlight) (st : Status) (detail : Nat) (payload : List Byte) (bulk : Option (List Byte)) (hint : Nat) : (s.answer f st detail payload bulk hint).wmk = s.wmk := by
  obtain ⟨_, _, h⟩ := State.answer_form s f st detail payload bulk hint; rw [h]
@[simp] theorem State.answer_mesh (f : InFlight) (st : Status) (detail : Nat) (payload : List Byte) (bulk : Option (List Byte)) (hint : Nat) : (s.answer f st detail payload bulk hint).mesh = s.mesh := by
  obtain ⟨_, _, h⟩ := State.answer_form s f st detail payload bulk hint; rw [h]
@[simp] theorem State.answer_pho (f : InFlight) (st : Status) (detail : Nat) (payload : List Byte) (bulk : Option (List Byte)) (hint : Nat) : (s.answer f st detail payload bulk hint).pho = s.pho := by
  obtain ⟨_, _, h⟩ := State.answer_form s f st detail payload bulk hint; rw [h]
@[simp] theorem State.answer_thm (f : InFlight) (st : Status) (detail : Nat) (payload : List Byte) (bulk : Option (List Byte)) (hint : Nat) : (s.answer f st detail payload bulk hint).thm = s.thm := by
  obtain ⟨_, _, h⟩ := State.answer_form s f st detail payload bulk hint; rw [h]
@[simp] theorem State.answer_aar (f : InFlight) (st : Status) (detail : Nat) (payload : List Byte) (bulk : Option (List Byte)) (hint : Nat) : (s.answer f st detail payload bulk hint).aar = s.aar := by
  obtain ⟨_, _, h⟩ := State.answer_form s f st detail payload bulk hint; rw [h]
@[simp] theorem State.answer_lpe (f : InFlight) (st : Status) (detail : Nat) (payload : List Byte) (bulk : Option (List Byte)) (hint : Nat) : (s.answer f st detail payload bulk hint).lpe = s.lpe := by
  obtain ⟨_, _, h⟩ := State.answer_form s f st detail payload bulk hint; rw [h]
@[simp] theorem State.answer_prog (f : InFlight) (st : Status) (detail : Nat) (payload : List Byte) (bulk : Option (List Byte)) (hint : Nat) : (s.answer f st detail payload bulk hint).prog = s.prog := by
  obtain ⟨_, _, h⟩ := State.answer_form s f st detail payload bulk hint; rw [h]
@[simp] theorem State.answer_pln (f : InFlight) (st : Status) (detail : Nat) (payload : List Byte) (bulk : Option (List Byte)) (hint : Nat) : (s.answer f st detail payload bulk hint).pln = s.pln := by
  obtain ⟨_, _, h⟩ := State.answer_form s f st detail payload bulk hint; rw [h]
@[simp] theorem State.answer_stew (f : InFlight) (st : Status) (detail : Nat) (payload : List Byte) (bulk : Option (List Byte)) (hint : Nat) : (s.answer f st detail payload bulk hint).stew = s.stew := by
  obtain ⟨_, _, h⟩ := State.answer_form s f st detail payload bulk hint; rw [h]
@[simp] theorem State.answer_fil (f : InFlight) (st : Status) (detail : Nat) (payload : List Byte) (bulk : Option (List Byte)) (hint : Nat) : (s.answer f st detail payload bulk hint).fil = s.fil := by
  obtain ⟨_, _, h⟩ := State.answer_form s f st detail payload bulk hint; rw [h]
@[simp] theorem State.answer_freeCtr (f : InFlight) (st : Status) (detail : Nat) (payload : List Byte) (bulk : Option (List Byte)) (hint : Nat) : (s.answer f st detail payload bulk hint).freeCtr = s.freeCtr := by
  obtain ⟨_, _, h⟩ := State.answer_form s f st detail payload bulk hint; rw [h]
@[simp] theorem State.answer_pending (f : InFlight) (st : Status) (detail : Nat) (payload : List Byte) (bulk : Option (List Byte)) (hint : Nat) : (s.answer f st detail payload bulk hint).pending = s.pending := by
  obtain ⟨_, _, h⟩ := State.answer_form s f st detail payload bulk hint; rw [h]

@[simp] theorem State.answerWaiting_supply (w : Wait) (st : Status) (detail : Nat) (payload : InFlight → List Byte) : (s.answerWaiting w st detail payload).supply = s.supply := by
  obtain ⟨_, _, h⟩ := State.answerWaiting_form s w st detail payload; rw [h]
@[simp] theorem State.answerWaiting_clocks (w : Wait) (st : Status) (detail : Nat) (payload : InFlight → List Byte) : (s.answerWaiting w st detail payload).clocks = s.clocks := by
  obtain ⟨_, _, h⟩ := State.answerWaiting_form s w st detail payload; rw [h]
@[simp] theorem State.answerWaiting_dev (w : Wait) (st : Status) (detail : Nat) (payload : InFlight → List Byte) : (s.answerWaiting w st detail payload).dev = s.dev := by
  obtain ⟨_, _, h⟩ := State.answerWaiting_form s w st detail payload; rw [h]
@[simp] theorem State.answerWaiting_cmp (w : Wait) (st : Status) (detail : Nat) (payload : InFlight → List Byte) : (s.answerWaiting w st detail payload).cmp = s.cmp := by
  obtain ⟨_, _, h⟩ := State.answerWaiting_form s w st detail payload; rw [h]
@[simp] theorem State.answerWaiting_otp (w : Wait) (st : Status) (detail : Nat) (payload : InFlight → List Byte) : (s.answerWaiting w st detail payload).otp = s.otp := by
  obtain ⟨_, _, h⟩ := State.answerWaiting_form s w st detail payload; rw [h]
@[simp] theorem State.answerWaiting_flash (w : Wait) (st : Status) (detail : Nat) (payload : InFlight → List Byte) : (s.answerWaiting w st detail payload).flash = s.flash := by
  obtain ⟨_, _, h⟩ := State.answerWaiting_form s w st detail payload; rw [h]
@[simp] theorem State.answerWaiting_hmk (w : Wait) (st : Status) (detail : Nat) (payload : InFlight → List Byte) : (s.answerWaiting w st detail payload).hmk = s.hmk := by
  obtain ⟨_, _, h⟩ := State.answerWaiting_form s w st detail payload; rw [h]
@[simp] theorem State.answerWaiting_boot (w : Wait) (st : Status) (detail : Nat) (payload : InFlight → List Byte) : (s.answerWaiting w st detail payload).boot = s.boot := by
  obtain ⟨_, _, h⟩ := State.answerWaiting_form s w st detail payload; rw [h]
@[simp] theorem State.answerWaiting_update (w : Wait) (st : Status) (detail : Nat) (payload : InFlight → List Byte) : (s.answerWaiting w st detail payload).update = s.update := by
  obtain ⟨_, _, h⟩ := State.answerWaiting_form s w st detail payload; rw [h]
@[simp] theorem State.answerWaiting_row (w : Wait) (st : Status) (detail : Nat) (payload : InFlight → List Byte) : (s.answerWaiting w st detail payload).row = s.row := by
  obtain ⟨_, _, h⟩ := State.answerWaiting_form s w st detail payload; rw [h]
@[simp] theorem State.answerWaiting_cal (w : Wait) (st : Status) (detail : Nat) (payload : InFlight → List Byte) : (s.answerWaiting w st detail payload).cal = s.cal := by
  obtain ⟨_, _, h⟩ := State.answerWaiting_form s w st detail payload; rw [h]
@[simp] theorem State.answerWaiting_part (w : Wait) (st : Status) (detail : Nat) (payload : InFlight → List Byte) : (s.answerWaiting w st detail payload).part = s.part := by
  obtain ⟨_, _, h⟩ := State.answerWaiting_form s w st detail payload; rw [h]
@[simp] theorem State.answerWaiting_ring (w : Wait) (st : Status) (detail : Nat) (payload : InFlight → List Byte) : (s.answerWaiting w st detail payload).ring = s.ring := by
  obtain ⟨_, _, h⟩ := State.answerWaiting_form s w st detail payload; rw [h]
@[simp] theorem State.answerWaiting_mould (w : Wait) (st : Status) (detail : Nat) (payload : InFlight → List Byte) : (s.answerWaiting w st detail payload).mould = s.mould := by
  obtain ⟨_, _, h⟩ := State.answerWaiting_form s w st detail payload; rw [h]
@[simp] theorem State.answerWaiting_mem (w : Wait) (st : Status) (detail : Nat) (payload : InFlight → List Byte) : (s.answerWaiting w st detail payload).mem = s.mem := by
  obtain ⟨_, _, h⟩ := State.answerWaiting_form s w st detail payload; rw [h]
@[simp] theorem State.answerWaiting_tally (w : Wait) (st : Status) (detail : Nat) (payload : InFlight → List Byte) : (s.answerWaiting w st detail payload).tally = s.tally := by
  obtain ⟨_, _, h⟩ := State.answerWaiting_form s w st detail payload; rw [h]
@[simp] theorem State.answerWaiting_sriov (w : Wait) (st : Status) (detail : Nat) (payload : InFlight → List Byte) : (s.answerWaiting w st detail payload).sriov = s.sriov := by
  obtain ⟨_, _, h⟩ := State.answerWaiting_form s w st detail payload; rw [h]
@[simp] theorem State.answerWaiting_wmk (w : Wait) (st : Status) (detail : Nat) (payload : InFlight → List Byte) : (s.answerWaiting w st detail payload).wmk = s.wmk := by
  obtain ⟨_, _, h⟩ := State.answerWaiting_form s w st detail payload; rw [h]
@[simp] theorem State.answerWaiting_mesh (w : Wait) (st : Status) (detail : Nat) (payload : InFlight → List Byte) : (s.answerWaiting w st detail payload).mesh = s.mesh := by
  obtain ⟨_, _, h⟩ := State.answerWaiting_form s w st detail payload; rw [h]
@[simp] theorem State.answerWaiting_pho (w : Wait) (st : Status) (detail : Nat) (payload : InFlight → List Byte) : (s.answerWaiting w st detail payload).pho = s.pho := by
  obtain ⟨_, _, h⟩ := State.answerWaiting_form s w st detail payload; rw [h]
@[simp] theorem State.answerWaiting_thm (w : Wait) (st : Status) (detail : Nat) (payload : InFlight → List Byte) : (s.answerWaiting w st detail payload).thm = s.thm := by
  obtain ⟨_, _, h⟩ := State.answerWaiting_form s w st detail payload; rw [h]
@[simp] theorem State.answerWaiting_aar (w : Wait) (st : Status) (detail : Nat) (payload : InFlight → List Byte) : (s.answerWaiting w st detail payload).aar = s.aar := by
  obtain ⟨_, _, h⟩ := State.answerWaiting_form s w st detail payload; rw [h]
@[simp] theorem State.answerWaiting_lpe (w : Wait) (st : Status) (detail : Nat) (payload : InFlight → List Byte) : (s.answerWaiting w st detail payload).lpe = s.lpe := by
  obtain ⟨_, _, h⟩ := State.answerWaiting_form s w st detail payload; rw [h]
@[simp] theorem State.answerWaiting_prog (w : Wait) (st : Status) (detail : Nat) (payload : InFlight → List Byte) : (s.answerWaiting w st detail payload).prog = s.prog := by
  obtain ⟨_, _, h⟩ := State.answerWaiting_form s w st detail payload; rw [h]
@[simp] theorem State.answerWaiting_pln (w : Wait) (st : Status) (detail : Nat) (payload : InFlight → List Byte) : (s.answerWaiting w st detail payload).pln = s.pln := by
  obtain ⟨_, _, h⟩ := State.answerWaiting_form s w st detail payload; rw [h]
@[simp] theorem State.answerWaiting_stew (w : Wait) (st : Status) (detail : Nat) (payload : InFlight → List Byte) : (s.answerWaiting w st detail payload).stew = s.stew := by
  obtain ⟨_, _, h⟩ := State.answerWaiting_form s w st detail payload; rw [h]
@[simp] theorem State.answerWaiting_fil (w : Wait) (st : Status) (detail : Nat) (payload : InFlight → List Byte) : (s.answerWaiting w st detail payload).fil = s.fil := by
  obtain ⟨_, _, h⟩ := State.answerWaiting_form s w st detail payload; rw [h]
@[simp] theorem State.answerWaiting_freeCtr (w : Wait) (st : Status) (detail : Nat) (payload : InFlight → List Byte) : (s.answerWaiting w st detail payload).freeCtr = s.freeCtr := by
  obtain ⟨_, _, h⟩ := State.answerWaiting_form s w st detail payload; rw [h]
@[simp] theorem State.answerWaiting_pending (w : Wait) (st : Status) (detail : Nat) (payload : InFlight → List Byte) : (s.answerWaiting w st detail payload).pending = s.pending := by
  obtain ⟨_, _, h⟩ := State.answerWaiting_form s w st detail payload; rw [h]

end Sys2Proof.Machine
end

