-- ==== Sys2Proof/Laws/Table.lean ====
section
/-! SUPPORT. Reading a table after a write to it, and the tables of the state read after an update. -/
namespace Sys2Proof.Machine

variable {α : Type} {n : Nat}

theorem Table.at_put_same (t : Vector α n) {i : Nat} (h : i < n) (x d : α) : Table.at (Table.put t i x) i d = x := by
  simp [Table.at, Table.put, h]

theorem Table.at_put_other (t : Vector α n) {i j : Nat} (h : i ≠ j) (x d : α) : Table.at (Table.put t i x) j d = Table.at t j d := by
  simp [Table.at, Table.put, h]

theorem Table.at_upd_same (t : Vector α n) {i : Nat} (h : i < n) (f : α → α) (d : α) :
    Table.at (Table.upd t i f) i d = f (Table.at t i d) := by
  simp [Table.at, Table.upd, h]

theorem Table.at_upd_other (t : Vector α n) {i j : Nat} (h : i ≠ j) (f : α → α) (d : α) :
    Table.at (Table.upd t i f) j d = Table.at t j d := by
  rcases Nat.lt_or_ge i n with hi | hi
  · simp [Table.at, Table.upd, hi, h]
  · simp [Table.at, Table.upd, hi]

/-- Two changes of one entry are one change. -/
theorem Table.upd_upd (t : Vector α n) (i : Nat) (f g : α → α) : Table.upd (Table.upd t i f) i g = Table.upd t i fun x => g (f x) := by
  rcases Nat.lt_or_ge i n with h | h <;> simp [Table.upd, h]

/-- A write past the end of a table changes nothing. -/
theorem Table.upd_beyond (t : Vector α n) {i : Nat} (h : n ≤ i) (f : α → α) : Table.upd t i f = t := by
  simp [Table.upd, h]

theorem Table.at_replicate (i : Nat) (x : α) : Table.at (Vector.replicate n x) i x = x := by
  rcases Nat.lt_or_ge i n with h | h <;> simp [Table.at, h]

theorem Table.at_map {β : Type} (t : Vector α n) {i : Nat} (h : i < n) (f : α → β) (d : α) (e : β) :
    Table.at (t.map f) i e = f (Table.at t i d) := by
  simp [Table.at, h]

/-! ### Tables of the state -/

variable (s : State)

theorem State.partAt_updPart_same {p : Nat} (h : p < 16) (f : Part → Part) : (s.updPart p f).partAt p = f (s.partAt p) :=
  Table.at_upd_same _ h _ _
theorem State.partAt_updPart_other {p q : Nat} (h : p ≠ q) (f : Part → Part) : (s.updPart p f).partAt q = s.partAt q :=
  Table.at_upd_other _ h _ _
theorem State.ringAt_updRing_same {r : Nat} (h : r < 64) (f : Ring → Ring) : (s.updRing r f).ringAt r = f (s.ringAt r) :=
  Table.at_upd_same _ h _ _
theorem State.ringAt_updRing_other {r q : Nat} (h : r ≠ q) (f : Ring → Ring) : (s.updRing r f).ringAt q = s.ringAt q :=
  Table.at_upd_other _ h _ _
theorem State.mouldAt_updMould_same {m : Nat} (h : m < 16) (f : Mould → Mould) : (s.updMould m f).mouldAt m = f (s.mouldAt m) :=
  Table.at_upd_same _ h _ _
theorem State.mouldAt_updMould_other {m q : Nat} (h : m ≠ q) (f : Mould → Mould) : (s.updMould m f).mouldAt q = s.mouldAt q :=
  Table.at_upd_other _ h _ _
theorem State.cmpAt_updCmp_same {n : Nat} (h : n < 8) (f : Cmp → Cmp) : (s.updCmp n f).cmpAt n = f (s.cmpAt n) :=
  Table.at_upd_same _ h _ _
theorem State.cmpAt_updCmp_other {n q : Nat} (h : n ≠ q) (f : Cmp → Cmp) : (s.updCmp n f).cmpAt q = s.cmpAt q :=
  Table.at_upd_other _ h _ _
theorem State.pageAt_updPage_same {m : Nat} (h : m < 17) (f : MbxPage → MbxPage) : (s.updPage m f).pageAt m = f (s.pageAt m) :=
  Table.at_upd_same _ h _ _
theorem State.pageAt_updPage_other {m q : Nat} (h : m ≠ q) (f : MbxPage → MbxPage) : (s.updPage m f).pageAt q = s.pageAt q :=
  Table.at_upd_other _ h _ _
theorem State.strandAt_updStrand_same {k : Nat} (h : k < 64) (f : Strand → Strand) : (s.updStrand k f).strandAt k = f (s.strandAt k) :=
  Table.at_upd_same _ h _ _
theorem State.strandAt_updStrand_other {k q : Nat} (h : k ≠ q) (f : Strand → Strand) : (s.updStrand k f).strandAt q = s.strandAt q :=
  Table.at_upd_other _ h _ _
theorem State.laserAt_updLaser_same {a : Nat} (h : a < 24) (f : Laser → Laser) : (s.updLaser a f).laserAt a = f (s.laserAt a) :=
  Table.at_upd_same _ h _ _
theorem State.laserAt_updLaser_other {a q : Nat} (h : a ≠ q) (f : Laser → Laser) : (s.updLaser a f).laserAt q = s.laserAt q :=
  Table.at_upd_other _ h _ _
theorem State.sensAt_updSens_same {n : Nat} (h : n < 140) (f : Sensor → Sensor) : (s.updSens n f).sensAt n = f (s.sensAt n) :=
  Table.at_upd_same _ h _ _
theorem State.sensAt_updSens_other {n q : Nat} (h : n ≠ q) (f : Sensor → Sensor) : (s.updSens n f).sensAt q = s.sensAt q :=
  Table.at_upd_other _ h _ _
theorem State.aoutAt_updAout_same {n : Nat} (h : n < 8) (f : AOut → AOut) : (s.updAout n f).aoutAt n = f (s.aoutAt n) :=
  Table.at_upd_same _ h _ _
theorem State.aoutAt_updAout_other {n q : Nat} (h : n ≠ q) (f : AOut → AOut) : (s.updAout n f).aoutAt q = s.aoutAt q :=
  Table.at_upd_other _ h _ _
theorem State.slotAt_updSlot_same {n : Nat} (h : n < 64) (f : Slot → Slot) : (s.updSlot n f).slotAt n = f (s.slotAt n) :=
  Table.at_upd_same _ h _ _
theorem State.slotAt_updSlot_other {n q : Nat} (h : n ≠ q) (f : Slot → Slot) : (s.updSlot n f).slotAt q = s.slotAt q :=
  Table.at_upd_other _ h _ _
theorem State.sectorAt_updSector_same {n : Nat} (h : n < 16) (f : Sector → Sector) : (s.updSector n f).sectorAt n = f (s.sectorAt n) :=
  Table.at_upd_same _ h _ _
theorem State.sectorAt_updSector_other {n q : Nat} (h : n ≠ q) (f : Sector → Sector) : (s.updSector n f).sectorAt q = s.sectorAt q :=
  Table.at_upd_other _ h _ _

/-! ### Two changes of one entry are one -/

@[simp] theorem State.updPart_updPart (p : Nat) (f g : Part → Part) :
    (s.updPart p f).updPart p g = s.updPart p fun x => g (f x) := by simp only [State.updPart, Table.upd_upd]
@[simp] theorem State.updRing_updRing (r : Nat) (f g : Ring → Ring) :
    (s.updRing r f).updRing r g = s.updRing r fun x => g (f x) := by simp only [State.updRing, Table.upd_upd]
@[simp] theorem State.updMould_updMould (m : Nat) (f g : Mould → Mould) :
    (s.updMould m f).updMould m g = s.updMould m fun x => g (f x) := by simp only [State.updMould, Table.upd_upd]
@[simp] theorem State.updCmp_updCmp (n : Nat) (f g : Cmp → Cmp) :
    (s.updCmp n f).updCmp n g = s.updCmp n fun x => g (f x) := by simp only [State.updCmp, Table.upd_upd]
@[simp] theorem State.updPage_updPage (m : Nat) (f g : MbxPage → MbxPage) :
    (s.updPage m f).updPage m g = s.updPage m fun x => g (f x) := by simp only [State.updPage, Table.upd_upd]
@[simp] theorem State.updStrand_updStrand (k : Nat) (f g : Strand → Strand) :
    (s.updStrand k f).updStrand k g = s.updStrand k fun x => g (f x) := by simp only [State.updStrand, Table.upd_upd]
@[simp] theorem State.updLaser_updLaser (a : Nat) (f g : Laser → Laser) :
    (s.updLaser a f).updLaser a g = s.updLaser a fun x => g (f x) := by simp only [State.updLaser, Table.upd_upd]
@[simp] theorem State.updSens_updSens (n : Nat) (f g : Sensor → Sensor) :
    (s.updSens n f).updSens n g = s.updSens n fun x => g (f x) := by simp only [State.updSens, Table.upd_upd]
@[simp] theorem State.updAout_updAout (n : Nat) (f g : AOut → AOut) :
    (s.updAout n f).updAout n g = s.updAout n fun x => g (f x) := by simp only [State.updAout, Table.upd_upd]
@[simp] theorem State.updSlot_updSlot (n : Nat) (f g : Slot → Slot) :
    (s.updSlot n f).updSlot n g = s.updSlot n fun x => g (f x) := by simp only [State.updSlot, Table.upd_upd]
@[simp] theorem State.updSector_updSector (n : Nat) (f g : Sector → Sector) :
    (s.updSector n f).updSector n g = s.updSector n fun x => g (f x) := by simp only [State.updSector, Table.upd_upd]

end Sys2Proof.Machine
end

