-- ==== Sys2Proof/Laws/Units.lean ====
section
/-! SUPPORT. What the shared operations of the units change: one part of the state each, and for the scorer also what its record and
its answer change. -/
namespace Sys2Proof.Machine

/-- A fold of an operation that changes only one part of the state changes only that part. -/
theorem State.foldl_form {α β : Type} (set : State → β → State) (get : State → β) (h0 : ∀ s, set s (get s) = s)
    (h1 : ∀ s a b, set (set s a) b = set s b) (f : State → α → State) (hf : ∀ s a, ∃ b, f s a = set s b) :
    ∀ (l : List α) (s : State), ∃ b, l.foldl f s = set s b
  | [], s => ⟨get s, (h0 s).symm⟩
  | a :: l, s => by
    obtain ⟨b, h⟩ := hf s a
    obtain ⟨b', h'⟩ := State.foldl_form set get h0 h1 f hf l (f s a)
    exact ⟨b', by rw [List.foldl_cons, h', h, h1]⟩

/-- A fold of an operation that changes only the rings and lasers changes only these. -/
theorem State.foldl_pho {α : Type} (f : State → α → State) (hf : ∀ s a, ∃ p, f s a = { s with pho := p }) (l : List α) (s : State) :
    ∃ p, l.foldl f s = { s with pho := p } :=
  State.foldl_form (fun s p => { s with pho := p }) (·.pho) (fun _ => rfl) (fun _ _ _ => rfl) f hf l s

theorem State.foldl_mould {α : Type} (f : State → α → State) (hf : ∀ s a, ∃ p, f s a = { s with mould := p }) (l : List α) (s : State) :
    ∃ p, l.foldl f s = { s with mould := p } :=
  State.foldl_form (fun s p => { s with mould := p }) (·.mould) (fun _ => rfl) (fun _ _ _ => rfl) f hf l s

theorem State.foldl_lpe {α : Type} (f : State → α → State) (hf : ∀ s a, ∃ p, f s a = { s with lpe := p }) (l : List α) (s : State) :
    ∃ p, l.foldl f s = { s with lpe := p } :=
  State.foldl_form (fun s p => { s with lpe := p }) (·.lpe) (fun _ => rfl) (fun _ _ _ => rfl) f hf l s

theorem State.foldl_cmp {α : Type} (f : State → α → State) (hf : ∀ s a, ∃ p, f s a = { s with cmp := p }) (l : List α) (s : State) :
    ∃ p, l.foldl f s = { s with cmp := p } :=
  State.foldl_form (fun s p => { s with cmp := p }) (·.cmp) (fun _ => rfl) (fun _ _ _ => rfl) f hf l s

theorem State.lasersDark_form (s : State) : ∃ p, s.lasersDark = { s with pho := p } :=
  State.foldl_pho _ (fun _ _ => ⟨_, rfl⟩) _ s

theorem State.heatersStart_form (s : State) : ∃ p, s.heatersStart = { s with pho := p } :=
  State.foldl_pho _ (fun _ _ => ⟨_, rfl⟩) _ s

theorem State.heatersStop_form (s : State) : ∃ p, s.heatersStop = { s with pho := p } :=
  State.foldl_pho _ (fun _ _ => ⟨_, rfl⟩) _ s

/-- A fold of an operation that changes only the rings and lasers and the scorer changes only these. -/
theorem State.foldl_phoWmk {α : Type} (f : State → α → State) (hf : ∀ s a, ∃ p k, f s a = { s with pho := p, wmk := k }) (l : List α)
    (s : State) : ∃ p k, l.foldl f s = { s with pho := p, wmk := k } := by
  obtain ⟨b, h⟩ := State.foldl_form (fun s (b : Photonic × Scorer) => { s with pho := b.1, wmk := b.2 }) (fun s => (s.pho, s.wmk))
    (fun _ => rfl) (fun _ _ _ => rfl) f (fun s a => by obtain ⟨p, k, h⟩ := hf s a; exact ⟨(p, k), h⟩) l s
  exact ⟨b.1, b.2, h⟩

theorem State.parkBank_form (s : State) (b : Nat) : ∃ p k, s.parkBank b = { s with pho := p, wmk := k } := by
  unfold State.parkBank
  obtain ⟨p, h⟩ := State.foldl_pho (fun (s : State) n => s.updRing704 n fun r =>
    if r.state = .failed then r else { r with state := .parked, word := 0, err := 0, rail := false, acc := 0 })
    (fun _ _ => ⟨_, rfl⟩) (ringsOfBank b) (s.parkDacs b)
  rw [h]
  unfold State.parkDacs
  split
  · exact ⟨p, s.wmk, rfl⟩
  · exact ⟨p, _, rfl⟩

theorem State.parkRings_form (s : State) : ∃ p k, s.parkRings = { s with pho := p, wmk := k } :=
  State.foldl_phoWmk _ State.parkBank_form _ s

theorem State.clocksOff_form (s : State) : ∃ p, s.clocksOff = { s with mould := p } :=
  State.foldl_mould _ (fun _ _ => ⟨_, rfl⟩) _ s

theorem State.engineRestart_form (s : State) : ∃ p, s.engineRestart = { s with lpe := p, pho := { s.pho with zoneRef := none } } := by
  unfold State.engineRestart
  obtain ⟨p, h⟩ := State.foldl_lpe (fun (s1 : State) n => s1.updSlot n fun x =>
    { x with out := if s.lpe.fresh then x.out else Vector.ofFn fun q : Fin 4 => s.restartValue x q, ins := Vector.replicate 4 {}
             lastStart := none, preload := true, action := 0, alt := 0, stale := 0, frozen := 0, impl := 0 })
    (fun _ _ => ⟨_, rfl⟩) (List.range 64)
    { s with lpe := { s.lpe with running := true, tick := 0, fresh := false }, pho := { s.pho with zoneRef := none } }
  exact ⟨p, h⟩

theorem State.scorerTo_form (s : State) (w : WState) :
    ∃ k c d o, s.scorerTo w = { s with wmk := k, cal := c, damem := d, out := o } := by
  unfold State.scorerTo
  dsimp only
  split
  · exact ⟨s.wmk, s.cal, s.damem, s.out, rfl⟩
  · obtain ⟨c, p, o, h⟩ := State.log_form { s with wmk := { s.wmk with state := w } } 0x4007
      (param [(1, s.wmk.state.code), (1, w.code), (1, State.insvcCount { s with wmk := { s.wmk with state := w } })]) none true false true
    rw [h]
    split
    · obtain ⟨d', o', h'⟩ := State.answerWaiting_form
        { { s with wmk := { s.wmk with state := w } } with cal := c, damem := { s.damem with page := p }, out := o } .scorer .ok 0 _
      exact ⟨_, _, d', o', h'⟩
    · exact ⟨_, _, _, _, rfl⟩

theorem State.scorerDark_form (s : State) :
    ∃ k q c d o, s.scorerDark = { s with wmk := k, pho := q, cal := c, damem := d, out := o } := by
  unfold State.scorerDark
  obtain ⟨k, c, d, o, h⟩ := State.scorerTo_form s .off
  obtain ⟨q, k2, h2⟩ := State.foldl_phoWmk (fun (s : State) b => (s.laserDark (s.arrayAt b)).parkBank b)
    (fun s b => by obtain ⟨p, k, hp⟩ := State.parkBank_form (s.laserDark (s.arrayAt b)) b; exact ⟨p, k, hp⟩) [16, 17, 18, 19]
    (s.scorerTo .off)
  dsimp only
  rw [h2, h]
  exact ⟨_, q, c, d, o, rfl⟩

/-! ### A change of state (03 R99) -/

theorem State.zoneTarget_form (s : State) (st : DevState) : ∃ p, s.zoneTarget st = { s with lpe := p } := by
  have aim : ∀ v : Int, ∃ p, (if (s.slotAt 1).cfg.law = 0 then s else s.updSlot 1 fun x => { x with setpoint := (lwFrac v 1).1 }) =
      { s with lpe := p } := fun v => by
    split
    · exact ⟨s.lpe, rfl⟩
    · exact ⟨_, rfl⟩
  unfold State.zoneTarget
  cases st <;> first | exact ⟨s.lpe, rfl⟩ | exact aim _ | (dsimp only; split <;> first | exact ⟨s.lpe, rfl⟩ | exact aim _)

/-- A change of state changes STATE, TARGET, TRANS and WARM_BAND, the outer loop's target, the Calender, the journal and what is sent; on
entering STANDBY also a role given up for it. -/
theorem State.stateTo_form (s : State) (st : DevState) (t : Trigger) :
    ∃ w x p c d o, s.stateTo st t = { s with
      dev := { s.dev with state := st, trans := false, target := st, warmBand := x }
      stew := w
      lpe := p
      cal := c
      damem := d
      out := o } := by
  unfold State.stateTo
  dsimp only
  generalize h0 : (if st = .standby ∧ s.dev.state ≠ .standby then { s with stew := { s.stew with withdrawn := false } } else s) = s0
  have e0 : ∃ w, s0 = { s with stew := w } := by subst h0; split <;> exact ⟨_, rfl⟩
  obtain ⟨w, rfl⟩ := e0
  generalize h1 : (if s.dev.state = .safe ∧ st = .safe then _ else _) = s1
  have e1 : ∃ x c d o, s1 = { s with
      dev := { s.dev with state := st, trans := false, target := st, warmBand := x }
      stew := w
      cal := c
      damem := d
      out := o } := by
    subst h1
    split
    · exact ⟨_, s.cal, s.damem, s.out, rfl⟩
    · rw [(State.log_form _ 0x1001 _ none true false true).choose_spec.choose_spec.choose_spec]
      exact ⟨_, _, _, _, rfl⟩
  obtain ⟨x, c, d, o, rfl⟩ := e1
  obtain ⟨p, hz⟩ := State.zoneTarget_form { s with
      dev := { s.dev with state := st, trans := false, target := st, warmBand := x }
      stew := w
      cal := c
      damem := d
      out := o } st
  rw [hz]
  obtain ⟨d', o', h⟩ := State.answerWaiting_form { s with
      dev := { s.dev with state := st, trans := false, target := st, warmBand := x }
      stew := w
      lpe := p
      cal := c
      damem := d
      out := o } (.state st) .ok 0 fun _ => []
  exact ⟨w, x, p, c, d', o', h⟩

end Sys2Proof.Machine
end

