-- ==== Sys2Proof/Laws/Finish.lean ====
section
/-! SUPPORT. How commands end: every command whose units exist ends with what follows from its own effect, and the queue as it was. -/
namespace Sys2Proof.Machine

/-- A command that ends with `t` has the effect `t`. -/
theorem effect_of {i : Instr} {s t u : State} (h : exec i s = s.finish t) (e : t = u) : Effect i s u := by
  subst e; exact h

theorem Effect.completes {i : Instr} {s u : State} (h : Effect i s u) : Completes i s := ⟨_, h⟩

theorem State.finish_pending {s t u : State} (h : s.finish t = .next u) : u.pending = s.pending := by
  unfold State.finish at h; cases h; rfl

theorem State.onUnit_of_lt {s t : State} {i n : Nat} (h : i < n) : s.onUnit i n t = s.finish t := if_pos h
theorem State.onUnit_of_ge {s t : State} {i n : Nat} (h : n ≤ i) : s.onUnit i n t = .fault .noSuchUnit := if_neg (Nat.not_lt.2 h)
theorem State.onVf_of_le {s t : State} {v : Nat} (h1 : 1 ≤ v) (h2 : v ≤ 16) : s.onVf v t = s.finish t := if_pos ⟨h1, h2⟩
theorem State.onPlace_of_lt {s t : State} {m q k : Nat} (h1 : m < 16) (h2 : q < 4) (h3 : k < 16) : s.onPlace m q k t = s.finish t :=
  if_pos ⟨h1, h2, h3⟩
theorem State.onIns_of_lt {s t : State} {g : GIns} (h1 : g.mould < 16) (h2 : g.quarter < 4) (h3 : g.slot < 16) :
    s.onIns g t = s.finish t := State.onPlace_of_lt h1 h2 h3

theorem State.onUnit_next {s t u : State} {i n : Nat} (h : s.onUnit i n t = .next u) : s.finish t = .next u := by
  unfold State.onUnit at h; split at h
  · exact h
  · cases h
theorem State.onPlace_next {s t u : State} {m q k : Nat} (h : s.onPlace m q k t = .next u) : s.finish t = .next u := by
  unfold State.onPlace at h; split at h
  · exact h
  · cases h
theorem State.onIns_next {s t u : State} {g : GIns} (h : s.onIns g t = .next u) : s.finish t = .next u := State.onPlace_next h
theorem State.onVf_next {s t u : State} {v : Nat} (h : s.onVf v t = .next u) : s.finish t = .next u := by
  unfold State.onVf at h; split at h
  · exact h
  · cases h

set_option maxRecDepth 4000 in
/-- Every next state of a command is the end of some effect. -/
theorem exec_finish {i : Instr} {s u : State} (h : exec i s = .next u) : ∃ t, s.finish t = .next u := by
  cases i <;> first
    | exact ⟨_, h⟩
    | exact ⟨_, State.onUnit_next h⟩
    | exact ⟨_, State.onIns_next h⟩
    | exact ⟨_, State.onPlace_next h⟩
    | exact ⟨_, State.onVf_next h⟩
    | (simp only [exec, execDsConversion, execSarConversion, execMouldWatchdog, execThresholdExit, execFrameReceive, execMarkerReceive,
        execLaneRetest, execLaneReadmit, execRngSubPiWrite, execRngCplCiWrite, execRngSpillCiWrite, execMatrixOpDone] at h
       split at h
       · exact ⟨_, h⟩
       · cases h)

/-- In cold reset nothing follows from a command but what CHL_PROMISE says. -/
theorem State.settle_reset {s : State} (h : s.supply.porst = true ∨ s.supply.vdeck = false) : s.settle = s.followPromise := by
  unfold State.settle State.settleUnits
  rw [if_pos (h.imp_right fun e => by simp [e])]

end Sys2Proof.Machine
end

