-- ==== Sys2Proof/Laws/Damem.lean ====
section
/-! SUPPORT. Damem requests: which event a row of the table is, and what acknowledging and accepting a request leaves. -/
namespace Sys2Proof.Machine

/-- A row of a Damem opcode is that opcode's event, and every such opcode is known. -/
theorem exec_damemRow (s : State) (r : Req) : ∀ p ∈ damemRows, exec (p.2 r) s = s.finish (s.evDamem p.1 r) ∧ (opcodeRow p.1).isSome = true := by
  simp only [damemRows, List.cons_append, List.nil_append, List.forall_mem_cons]
  repeat' apply And.intro
  all_goals first | rfl | exact fun _ h => absurd h List.not_mem_nil

/-- A request that passes steps 1 to 4 draws no free value and changes nothing. -/
theorem State.ackStatus_ok {s : State} {c : Nat} {r : Req} (h : (s.ackStatus c r).1 = .ok) : s.ackStatus c r = (.ok, 0, s) := by
  revert h
  unfold State.ackStatus
  split
  · simp
  split
  · simp
  split
  · simp
  split
  · simp
  · simp

/-- An acknowledge changes mailbox pages and raises interrupts, and nothing else. -/
theorem State.acknowledge_form (s : State) (m t : Nat) (st : Status) (h : Nat) :
    ∃ p o, s.acknowledge m t st h = { s with damem := { s.damem with page := p }, out := o } := by
  unfold State.acknowledge
  generalize hx : (s.updPage m fun pg =>
    { pg with ack := true, ackStatus := st.code, ackHint := h, ackTag := t % 8
              outstanding := if st = .ok then Table.put pg.outstanding t true else pg.outstanding }) = x
  have : ∃ p, x = { s with damem := { s.damem with page := p } } := ⟨_, hx.symm⟩
  obtain ⟨p, rfl⟩ := this
  dsimp only
  cases hc : (State.pageAt { s with damem := { s.damem with page := p } } m).ackIe with
  | true =>
    obtain ⟨o, e⟩ := State.raiseMsix_form { s with damem := { s.damem with page := p } } (mbxFn m)
      (State.pageAt { s with damem := { s.damem with page := p } } m).vec
    exact ⟨p, o, e⟩
  | false => exact ⟨p, s.out, rfl⟩

/-- What a request's entry in the journal rests on, an acknowledge leaves alone. -/
theorem State.entryOf_acknowledge (s : State) (m : Fin 17) (w : List Byte) (t : Nat) (st : Status) (h c : Nat) (r : Req) (b : Bool) :
    ((s.updPage m.val fun pg => { pg with window := w }).acknowledge m.val t st h).entryOf c r b = s.entryOf c r b := by
  obtain ⟨p, o, e⟩ := State.acknowledge_form (s.updPage m.val fun pg => { pg with window := w }) m.val t st h
  rw [e]; rfl

/-- An accepted request is examined in the state that accepted it. -/
theorem State.evDamem_of_accepted {s : State} {c : Nat} {r : Req} (h : Accepted s c r) :
    s.evDamem c r = (s.accepted c r).examine (s.entryOf c r false) := by
  obtain ⟨h1, h2⟩ := h
  have h3 := State.ackStatus_ok h2
  unfold State.evDamem
  cases hp : r.path with
  | mbx m =>
    rw [hp] at h1
    dsimp only at h1 ⊢
    simp only [State.received, hp] at h3
    have e := State.entryOf_acknowledge s m (r.windowBytes c) r.tag .ok 0 c r false
    simp only [State.post, h1, not_true_eq_false, Bool.false_eq_true, or_self, if_false, State.process, h3, if_true, State.letIn,
      State.accepted, hp, State.received, e]
  | mctp =>
    rw [hp] at h1
    dsimp only at h1 ⊢
    simp only [State.received, hp] at h3
    have : ¬ 8 ≤ (s.damem.inflight.filter fun f => f.req.path == .mctp && !f.pldm).length := by omega
    simp only [State.mctpRequest, h1, not_true_eq_false, Bool.false_eq_true, or_self, not_false_eq_true, if_false, if_true,
      State.mgmtPort, State.mctpTake, this, h3, State.letIn, State.accepted, hp]

/-- Accepting a request changes mailbox pages, enters it in the journal and raises interrupts, and nothing else. -/
theorem State.accepted_form (s : State) (c : Nat) (r : Req) : ∃ p o, s.accepted c r =
    { s with damem := { s.damem with page := p, inflight := s.damem.inflight ++ [s.entryOf c r false] }, out := o } := by
  unfold State.accepted
  cases hp : r.path with
  | mctp => exact ⟨s.damem.page, s.out, rfl⟩
  | mbx m =>
    obtain ⟨p, o, e⟩ := State.acknowledge_form (s.received c r) m r.tag .ok 0
    dsimp only
    rw [e]
    refine ⟨p, o, ?_⟩
    simp only [State.received, hp]; rfl

end Sys2Proof.Machine
end

