-- ==== Sys2Proof/Laws/Issue.lean ====
section
/-! SUPPORT. What issuing an instruction does: once the group may issue, only the instruction's own effect is left to look at. -/
namespace Sys2Proof.Machine

/-- An instruction that issues, with nothing it needs on its way, does what its body says on the device as it starts. -/
theorem State.issue_of {s : State} {i : GIns} {g : Group} (h : Issues s i g) {need : Need} (hn : g.blocks need = false)
    (body : Group → BitVec 32 → BitVec 32 → State → Eff) :
    s.issue i need body = (body g g.active (i.acts g) (s.issuing i g)).after s (s.issuing i g) i g := by
  obtain ⟨_, _, _, h1, h2, h3⟩ := h
  obtain ⟨g0, e0, rfl⟩ := Option.map_eq_some_iff.1 h2
  have h4 : (s.ready i).isNone = false := by simpa [Option.isNone_iff_eq_none, Option.isSome_iff_ne_none] using h1
  have e1 : (List.foldl State.memError s i.errors).ready i = some g0 := e0
  unfold State.issue
  simp only [h4, e1, hn, h3, Bool.false_eq_true, if_false]
  rfl

/-- An instruction that waits for a value leaves everything as it was. -/
theorem State.issue_blocked {s : State} {i : GIns} {g : Group} (h : Issues s i g) {need : Need} (hn : g.blocks need = true)
    (body : Group → BitVec 32 → BitVec 32 → State → Eff) : s.issue i need body = s := by
  obtain ⟨_, _, _, h1, h2, _⟩ := h
  obtain ⟨g0, e0, rfl⟩ := Option.map_eq_some_iff.1 h2
  have h4 : (s.ready i).isNone = false := by simpa [Option.isNone_iff_eq_none, Option.isSome_iff_ne_none] using h1
  have e1 : (List.foldl State.memError s i.errors).ready i = some g0 := e0
  unfold State.issue
  simp only [h4, e1, hn, Bool.false_eq_true, if_false, if_true]

/-- Nothing happens where the group may not issue. -/
theorem State.issue_none {s : State} {i : GIns} (h : s.ready i = none) (need : Need) (body : Group → BitVec 32 → BitVec 32 → State → Eff) :
    s.issue i need body = s := by
  simp [State.issue, h]

/-- No instruction without needs waits. -/
@[simp] theorem Group.blocks_none (g : Group) : g.blocks {} = false := by simp [Group.blocks]

/-- A command of a group that issues has the effect of its body. -/
theorem effect_issue {s : State} {i : GIns} {g : Group} {c : Instr} {need : Need} {body : Group → BitVec 32 → BitVec 32 → State → Eff}
    {t : State} (h : Issues s i g) (hn : g.blocks need = false) (hc : exec c s = s.onIns i (s.issue i need body))
    (ht : (body g g.active (i.acts g) (s.issuing i g)).after s (s.issuing i g) i g = t) : Effect c s t := by
  subst ht
  rw [← State.issue_of h hn body]
  exact effect_of (hc.trans (State.onIns_of_lt h.1 h.2.1 h.2.2.1)) rfl

end Sys2Proof.Machine
end

