-- ==== Sys2Proof/Laws/Memory.lean ====
section
/-! SUPPORT. Byte memory: every operation on it keeps the canonical form (addresses strictly rising, no entry equal to what an
unlisted address reads as). -/
namespace Sys2Proof.Machine

/-- The form, entry by entry: no entry reads as an unlisted byte, and each address lies below all that follow. -/
theorem Mem.wf_cons (d : Byte) (c : Nat × Byte) (m : Mem) :
    Mem.wf d (c :: m) = true ↔ c.2 ≠ d ∧ (∀ e ∈ m, c.1 < e.1) ∧ Mem.wf d m = true := by
  induction m generalizing c with
  | nil => simp [Mem.wf]
  | cons b r ih =>
    simp only [Mem.wf, Bool.and_eq_true, bne_iff_ne, decide_eq_true_eq, List.mem_cons, forall_eq_or_imp]
    constructor
    · rintro ⟨⟨h1, h2⟩, h3⟩
      exact ⟨h1, ⟨h2, fun e he => Nat.lt_trans h2 (((ih b).1 h3).2.1 e he)⟩, h3⟩
    · rintro ⟨h1, ⟨h2, _⟩, h3⟩
      exact ⟨⟨h1, h2⟩, h3⟩

/-- An entry of a memory after a write is the byte written, or an entry of before. -/
theorem Mem.mem_set {d : Byte} {m : Mem} {a : Nat} {b : Byte} {e : Nat × Byte} (h : e ∈ Mem.set d m a b) : e = (a, b) ∨ e ∈ m := by
  induction m with
  | nil => simp only [Mem.set] at h; split at h <;> simp_all
  | cons c r ih =>
    simp only [Mem.set] at h
    split at h
    · split at h
      · exact .inr h
      · simpa using h
    · split at h
      · split at h
        · exact .inr (List.mem_cons_of_mem _ h)
        · rcases List.mem_cons.1 h with h | h
          · exact .inl h
          · exact .inr (List.mem_cons_of_mem _ h)
      · rcases List.mem_cons.1 h with h | h
        · exact .inr (h ▸ List.mem_cons_self)
        · exact (ih h).imp_right (List.mem_cons_of_mem _)

/-- Writing a byte keeps the canonical form. -/
theorem Mem.wf_set {d : Byte} {m : Mem} (a : Nat) (b : Byte) (h : Mem.wf d m = true) : Mem.wf d (Mem.set d m a b) = true := by
  induction m with
  | nil => simp only [Mem.set]; split <;> simp_all [Mem.wf]
  | cons c r ih =>
    obtain ⟨h1, h2, h3⟩ := (Mem.wf_cons d c r).1 h
    simp only [Mem.set]
    split
    · rename_i hac
      split
      · exact h
      · rename_i hb
        refine (Mem.wf_cons d _ _).2 ⟨hb, fun e he => ?_, h⟩
        rcases List.mem_cons.1 he with rfl | he
        · exact hac
        · exact Nat.lt_trans hac (h2 e he)
    · split
      · rename_i hca
        split
        · exact h3
        · rename_i hb
          exact (Mem.wf_cons d _ _).2 ⟨hb, fun e he => hca ▸ h2 e he, h3⟩
      · rename_i hac hca
        refine (Mem.wf_cons d _ _).2 ⟨h1, fun e he => ?_, ih h3⟩
        rcases Mem.mem_set he with rfl | he
        · exact Nat.lt_of_le_of_ne (Nat.le_of_not_lt hac) hca
        · exact h2 e he

/-- Writing bytes keeps the canonical form. -/
theorem Mem.wf_write {d : Byte} {m : Mem} (a : Nat) (l : List Byte) (h : Mem.wf d m = true) : Mem.wf d (Mem.write d m a l) = true := by
  induction l generalizing m a with
  | nil => exact h
  | cons b r ih => exact ih _ (Mem.wf_set a b h)

/-- Dropping entries keeps the canonical form. -/
theorem Mem.wf_filter {d : Byte} {m : Mem} (p : Nat × Byte → Bool) (h : Mem.wf d m = true) : Mem.wf d (m.filter p) = true := by
  induction m with
  | nil => simp [Mem.wf]
  | cons c r ih =>
    obtain ⟨h1, h2, h3⟩ := (Mem.wf_cons d c r).1 h
    rw [List.filter_cons]
    split
    · exact (Mem.wf_cons d _ _).2 ⟨h1, fun e he => h2 e (List.mem_filter.1 he).1, ih h3⟩
    · exact ih h3

/-- Clearing a range keeps the canonical form. -/
theorem Mem.wf_clear {d : Byte} {m : Mem} (a n : Nat) (h : Mem.wf d m = true) : Mem.wf d (m.clear a n) = true := Mem.wf_filter _ h

/-- Below every entry a memory reads as an unlisted byte. -/
theorem Mem.get_below {d : Byte} {m : Mem} {a : Nat} (h : ∀ e ∈ m, a < e.1) : Mem.get d m a = d := by
  cases m with
  | nil => rfl
  | cons c r =>
    have := h c List.mem_cons_self
    simp [Mem.get, this, Nat.ne_of_gt this]

/-- Where a Mould caches no page of a VA, a translation is one walk: from the root, or from a table that the Mould caches
(09 R382, log entry 7). -/
theorem State.xlate_miss (s : State) (m p va : Nat) (en : (s.partAt p).xltEn = true)
    (miss : ((s.mouldAt m).xlt.find? fun e => e.part == p && e.table.isNone && e.vpn == va / 65536) = none) :
    ∃ t : State, ∃ x ∈ (0, (t.partAt p).xltRoot * 4096) :: s.cachedTables m p va, (t = s ∨ t = (s.free 21).2) ∧
      s.xlate m p va = t.walkCached m p va x.1 x.2 := by
  have en' : ((s.free 21).2.partAt p).xltEn = true := en
  simp only [State.xlate, miss]
  split
  · exact ⟨s, _, List.mem_cons_self, .inl rfl, by simp [en]⟩
  · rename_i l _
    split
    · rename_i x hx
      exact ⟨(s.free 21).2, x, List.mem_cons_of_mem _ (List.mem_of_getElem? hx), .inr rfl, rfl⟩
    · exact ⟨(s.free 21).2, _, List.mem_cons_self, .inr rfl, by simp [en']⟩

end Sys2Proof.Machine
end

