-- ==== Sys2Proof/Machine/Flags.lean ====
section
/-! DEFINITION. Levels of lands that follow from the state: nothing stores them, and no command writes them by itself. -/
namespace Sys2Proof.Machine

/-- DEV_OK: high only in STANDBY, ANNEAL and SERVING, low in reset and until boot complete (02 R70, R74, 03 Table 03-2). -/
def State.devOk (s : State) : Bool :=
  s.supply.vdeck && !s.supply.porst && s.inService

/-- MGMT_ALERT# asserted: in SMBus mode, in HELD and SAFE (22 R839). -/
def State.mgmtAlert (s : State) : Bool :=
  (s.supply.straps.elim false fun x => x.mgt) && (s.dev.state == .held || s.dev.state == .safe)

/-! ### The test access port (02 R72, R73, 04 R150) -/

/-- The lands that the IEEE 1149.1 boundary register covers, in the order of 02 Table 02-4: every digital signal land but the PCIe
lanes, which IEEE 1149.6 covers, and the clocks (02 R73). -/
def boundaryLands : List String :=
  ["PERST#", "WAKE#", "CLKREQ#", "PORST#", "STRAP_FVS", "STRAP_MGT", "STRAP_TAP", "STRAP_TEST", "MGMT_SCL", "MGMT_SDA", "MGMT_ALERT#"] ++
  ["SPI_CLK", "SPI_CS#", "SPI_IO0", "SPI_IO1", "SPI_IO2", "SPI_IO3", "SPI_RST#", "TCK", "TMS", "TDI", "TDO", "TRST#"] ++
  ["PMB_SCL", "PMB_SDA", "PMB_ALERT#", "AVS_CLK", "AVS_MDATA", "AVS_SDATA"] ++
  (["VAN", "VSRAM", "VCORE", "HBM", "VPHO", "VLD", "VHTR"].flatMap fun r => ["EN_" ++ r, "PG_" ++ r]) ++
  ["ROWBEAT", "STEW_EN0", "STEW_EN1", "DEV_OK"] ++ ((List.range 48).map fun n => "FIL_IO" ++ toString n)

/-- Debug is open (04 R150): DEBUG is OPEN, or TOKEN and a debug token has been accepted since cold reset; DEBUG_PERM forces LOCKED. -/
def State.debugOpen (s : State) : Bool :=
  let d := fieldOf s.hmk.role 29 28
  !s.otp.debugPerm && (d == 0 || (d == 1 && s.boot.debugToken))

/-- The instructions that the test access port offers (02 Table 02-12, R73, 04 R150): none before the straps are sampled; in board test the
IEEE 1149.1 and IEEE 1149.6 ones; in service BYPASS and IDCODE, and debug where it is open. -/
def State.tapOffers (s : State) : List TapInstr :=
  match s.supply.straps with
  | none => []
  | some st =>
    if st.tap then [.bypass, .idcode, .boundary, .acBoundary]
    else [.bypass, .idcode] ++ (if s.debugOpen then [.debug] else [])

end Sys2Proof.Machine
end

