-- ==== Sys2Proof/Tests/Slice0.lean ====
section
/-! SUPPORT. Tests: commands that name no unit, steps and operations against the worked examples of spec/, and for every obligation
that has hypotheses a witness of each of its clauses. -/
namespace Sys2Proof.Tests
set_option Elab.async false
open Sys2Proof Sys2Proof.Machine
/-- A device in ANNEAL: booted, sealed, its rails on, its endpoint ready, SR-IOV on with 16 VFs. -/
def up : State :=
  { State.reset with
    supply := { State.reset.supply with
      porst := false, perst := false, straps := some {}, endpoint := .ready, en := Vector.replicate 7 true, pg := Vector.replicate 7 true, vphoOk := true }
    dev := { State.reset.dev with state := .anneal, trans := false, target := .anneal }
    clocks := { State.reset.clocks with refclkLock := true }
    hmk := { State.reset.hmk with
      sealed := true, limits := 0x1010FFFF#32, ceil0 := Vector.replicate 16 0x41018410#32, ceil1 := Vector.replicate 16 0x10404040#32
      tags := 0x7FFF0000#32 }
    boot := { State.reset.boot with complete := true, stage := 3, flashUsable := true, rowOk := true }
    damem := { State.reset.damem with mctpUp := true }
    sriov := { State.reset.sriov with vfEnable := true, numVfs := 16 } }
/-- A request on mailbox 16. -/
def req (p : List Byte) : Req := { path := .mbx 16, tag := 7, len := p.length, payload := p }
/-- A group of 32 threads with 32 vector registers and a matrix unit reservation, in the last slot of the last quarter of the last Mould. -/
def g0 : Group :=
  { part := 15, ring := 63, subIndex := 0, number := 0, x := 0, y := 0, z := 0, vregBlocks := 4, matrix := true, gran := [0, 1, 2, 3, 4, 5, 6, 7], scratchBytes := 65536
    stackBytes := 65536, vreg := List.replicate 32 (Vector.replicate 32 0), sreg := (Vector.replicate 64 0).set 63 131072, pred := Vector.replicate 8 0
    pc := Vector.replicate 32 0, live := 0xFFFFFFFF, barrier := 0 }
/-- `g0`, its vector register 31 and scalar register 63 awaiting answers. -/
def gP : Group :=
  { g0 with pending := [{ dest := .load 31 [(0, 0)] 4 false, pc := 0, raw := 0 }, { dest := .tally (some 63), pc := 0, raw := 0 }] }
def gi : GIns := { mould := 15, quarter := 3, slot := 15 }
/-- The device SERVING partition 15, whose group `g` is resident at `gi`, with ring 63 and tally granule 31. -/
def on (g : Group) : State :=
  (({ up with
      dev := { up.dev with state := .serving, target := .serving }
      part := Table.put up.part 15 { state := .started, intakeOff := false, moulds := [15], rings := [63], tallies := [31], tag := 7
                                     granules := [95], image := some { granule := 95, entries := [0], code := List.replicate 64 0, total := 4096 } } }).updMould 15
    fun m => { m with state := .running, part := some 15, mult := 100, q := Table.upd m.q 3 fun q => { q with slots := Table.put q.slots 15 (some g) } }).updRing 63
    fun r => { r with setup := true, intake := true, log2 := 6 }

/-- `Accepted`, decided. -/
def acceptedB (s : State) (c : Nat) (r : Req) : Bool :=
  (match r.path with
    | .mbx m => s.mbxUp m.val && !(s.pageAt m.val).reqBusy
    | .mctp => s.bindingUp r.binding && r.vendorOk && s.damem.mctpUp && !s.asleep &&
        decide ((s.damem.inflight.filter fun f => f.req.path == .mctp && !f.pldm).length < 8)) &&
  decide (((s.received c r).ackStatus c r).1 = .ok)
theorem accepted {s : State} {c : Nat} {r : Req} (h : acceptedB s c r = true) : Accepted s c r := by
  unfold acceptedB at h
  unfold Accepted
  rw [Bool.and_eq_true, decide_eq_true_eq] at h
  refine ⟨?_, h.2⟩
  have h1 := h.1
  split at h1 <;> simp_all
theorem judged {s : State} {c : Nat} {r : Req}
    (h : acceptedB s c r = true ∧
      (let a := s.accepted c r
       let f := s.entryOf c r false
       (opcodeRow c).isSome = true ∧ (a.heldMode = true → recoverySet c = true) ∧ a.owns c r = true ∧ a.argFault f = none ∧
         a.beyondEnvelope f = none)) : Judged s c r := ⟨accepted h.1, h.2⟩
theorem served {s : State} {c : Nat} {r : Req}
    (h : (acceptedB s c r = true ∧
      (let a := s.accepted c r
       let f := s.entryOf c r false
       (opcodeRow c).isSome = true ∧ (a.heldMode = true → recoverySet c = true) ∧ a.owns c r = true ∧ a.argFault f = none ∧
         a.beyondEnvelope f = none)) ∧
      (let a := s.accepted c r
       let f := s.entryOf c r false
       a.partRefuses c r = false ∧
         (c = 0x0204 → (s.partAt (r.f 0 1)).state ≠ .starting ∧ (s.partAt (r.f 0 1)).state ≠ .started) ∧
         (flashOpcode c r = true → a.dirWriter = none) ∧ a.blockers f = [] ∧ (c = 0x0101 → a.stateJudge f = none))) : Served s c r :=
  ⟨judged h.1, h.2⟩
theorem issues {s : State} {i : GIns} {g : Group}
    (h : i.mould < 16 ∧ i.quarter < 4 ∧ i.slot < 16 ∧ (s.ready i).isSome = true ∧ ((s.seen i).ready i).map Group.escaping = some g ∧
      i.malformed = false) : Issues s i g := h
/-- `served` of a request on a device with no other request, which the kernel need not compare with the journal. -/
theorem servedAlone {s : State} {c : Nat} {r : Req}
    (h : acceptedB s c r = true ∧ s.damem.inflight = [] ∧ s.damem.flashOp = none ∧ c ≠ 0x0204 ∧ c ≠ 0x0101 ∧
      (let a := s.accepted c r
       let f := s.entryOf c r false
       ((opcodeRow c).isSome = true ∧ (a.heldMode = true → recoverySet c = true) ∧ a.owns c r = true ∧ a.argFault f = none ∧
         a.beyondEnvelope f = none) ∧ a.partRefuses c r = false)) : Served s c r := by
  obtain ⟨h1, h2, h3, h4, h5, h6, h7⟩ := h
  obtain ⟨p, o, e⟩ := State.accepted_form s c r
  refine served ⟨⟨h1, h6⟩, h7, fun h => absurd h h4, fun _ => ?_, ?_, fun h => absurd h h5⟩
  · simp only [State.dirWriter, e, h3]
  · simp only [State.blockers, e, h2, List.nil_append, List.takeWhile_cons, bne_self_eq_false, Bool.false_eq_true, if_false, List.filter_nil,
      ite_self]
/-- A request on mailbox 16 with bulk data. -/
def reqB (p b : List Byte) : Req :=
  { req (leBytes 8 0 ++ leBytes 4 b.length ++ leBytes 4 0 ++ p) with flags := 1, bulkIn := b }
/-- An image, signed with a key of zeros and a signature of zeros, for a body of whole words. -/
def image (type format : Nat) (body : List Byte) : List Byte :=
  let h := leBytes 4 0x1664A55A ++ leBytes 2 type ++ leBytes 2 format ++ leBytes 4 0 ++ leBytes 4 body.length ++ leBytes 4 0 ++
    leBytes 4 (crc32 body) ++ List.replicate 248 0
  h ++ leBytes 4 (crc32 h) ++ List.replicate 236 0 ++ body ++ leBytes 4 0x600D1664
/-- Bytes in an erased flash. -/
def cells (a : Nat) (b : List Byte) : Mem := (b.zipIdx a).filterMap fun x => if x.1 = 0xFF then none else some (x.2, x.1)
/-- A sector image of no payload, as its request carries it. -/
def sectorBulk : List Byte := image 0x13 2 (List.replicate 32 0)
/-- The checks of an image's shape, which rest on no key and no hash. -/
def shape (k : ImageKind) (i : Image) : Bool :=
  let f := i.fieldAt
  f 0 4 == 0x1664A55A && f 4 2 == k.type &&
  f 0x110 4 == crc32 (i.read 0 0x110) && f 0x11 3 == 0 && f 0x18 8 == 0 && zeroAt (i.read 0x114 236) 0 236 && decide (i.svn ≤ 64) &&
  decide (i.commitAt + 4 ≤ i.region) && decide (i.commitAt + 4 ≤ i.most) && f i.commitAt 4 == 0x600D1664 && f 0x14 4 == crc32 i.body
/-- The device with stage 1 and firmware images in slot B, under root key 0, and owner slot 0 burned. -/
def flashed : State :=
  { up with
    otp := { up.otp with
      rootHash := Table.put up.otp.rootHash 0 (some (Config.sha384 (List.replicate 96 0)))
      ownHash := Table.put up.otp.ownHash 0 (some (Config.sha384 (List.replicate 96 0))) }
    flash := { up.flash with bytes := cells 0x2000000 (image 1 1 []) ++ cells 0x2040000 (image 2 1 []) } }
def flashedSafe : State := { flashed with dev := { flashed.dev with state := .safe } }
def flashedTrial : State := { flashed with update := { flashed.update with trial := true } }
def flashedNew : State := { flashed with boot := { flashed.boot with compat := 1 } }
/-- A Filigree set of no sectors. -/
def noSectors : List Byte :=
  leBytes 4 0x1664F16E ++ leBytes 12 0 ++ ((List.range 48).flatMap fun n => leBytes 4 (n / 3 * 16)) ++ List.replicate 16 0 ++
    List.replicate 8 0xFF ++ List.replicate 552 0
/-- Firmware boots with a loop program image and a Filigree set in copy A. -/
def loaded : State :=
  { flashed with
    boot := { flashed.boot with phase := .firmware }
    flash := { up.flash with bytes := cells 0x3100000 (image 0x12 1 []) ++ cells 0x3300000 (image 0x13 1 noSectors) } }
set_option maxRecDepth 100000 in
/-- The images of these two devices pass every check of their shape; whether the signature and the digest hold is what the opaque
SHA-384 and ECDSA say, which no test can evaluate, so the witnesses that need a genuine image have that as a premise. -/
theorem test_image_shapes : shape .stage1 (imageOf (image 1 1 [])) = true ∧ shape .firmware (imageOf (image 2 1 [])) = true ∧
    shape .loop (imageOf (image 0x12 1 [])) = true ∧
    shape .sector (imageOf sectorBulk) = true ∧ up.filSetGood noSectors = true := by decide +kernel
/-- `on g`, with page tables: a writable 2 MiB page at address 0 and a read-only one behind it. -/
def mapped (g : Group) : State :=
  ({ on g with mem := { up.mem with bytes :=
      [(95 * 2 ^ 31, 1), (95 * 2 ^ 31 + 1, 0x10), (95 * 2 ^ 31 + 0x1000, 1), (95 * 2 ^ 31 + 0x1001, 0x20), (95 * 2 ^ 31 + 0x2000, 0x17),
       (95 * 2 ^ 31 + 0x2002, 0x20), (95 * 2 ^ 31 + 0x2008, 0x13), (95 * 2 ^ 31 + 0x200A, 0x40)] } }).updPart 15 fun x => { x with xltEn := true }
/-- A group of which thread 31 alone lives. -/
def g31 : Group := { g0 with live := 0x80000000 }
/-- A group of one thread whose pair s62, s63 holds the last 128 bytes of the writable page. -/
def gS : Group := { g31 with sreg := (g31.sreg.set 62 0x1FFF80).set 63 0 }
/-- A batch of that group with a descriptor of zeros. -/
def bS : Batch :=
  { part := 15, mould := 15, quarter := 3, slot := 15, ring := 63, subIndex := 0, number := 0, res := 0, desc := List.replicate 128 0, issuedAt := 0 }
/-- The device on which it runs: the optical path asked for or not, the scorer's state, `n` batches of its own waiting and `m` of others. -/
def sS (opt : Bool) (st : WState) (n m : Nat) : State :=
  { ((mapped gS).updPart 15 fun x => { x with optical := opt, fallback := false }) with
    wmk := { up.wmk with state := st, queue := Table.put up.wmk.queue 15 (List.replicate n bS ++ List.replicate m { bS with mould := 14 }) } }
/-- What SCORE reads its descriptor from, and the state after that; and the same of its result header. -/
abbrev tS (s : State) : State := ((s.issuing gi gS).scoreTarget gi gS false (gS.s 62 + 2 ^ 32 * gS.s (62 + 1))).2
abbrev uS (s : State) : State := ((tS s).scoreTarget gi gS true (parseDesc ((tS s).memRead (95 * 2 ^ 31 + 0x3FFF80) 128)).res).2
/-- The state after a packet's sectors are checked. -/
abbrev tP (s : State) (p : Packet) (w : Bool) (n : Nat) : State := ((s.takePacket 63 p).admitSectors 15 w p.addr n).2
theorem pair {α β : Type} {x : α × β} {a : α} (h : x.1 = a) : x = (a, x.2) := Prod.ext h rfl
/-- No sector of `up` holds an image. -/
theorem up_sectors : ∀ n, n < 16 → (up.sectorAt n).image = none := by decide +kernel
/-- In the moment of its start, less than a second has elapsed, whatever the free part of a tick. -/
theorem elapsed_now (s : State) : (s.elapsed s.now 32 1).1 < 2 ^ 32 - 1 := by
  simp [State.elapsed]; omega
/-- The state after the walk of SCORE's result address, which is 0, from each of the tables that the Mould may walk from. -/
def resWalks (t : State) : List (Walk × State) :=
  [t, (t.free 21).2].flatMap fun f => ((0, (f.partAt 15).xltRoot * 4096) :: t.cachedTables 15 15 0).map fun x => f.walkCached 15 15 0 x.1 x.2
/-- The result address is 0, no page of it is cached, and each of those walks meets a writable page and leaves a state with `Q`. -/
def resAll (t : State) (a : Nat) (Q : State → Bool) : Bool :=
  (t.partAt 15).xltEn && a == 0 &&
    ((t.mouldAt 15).xlt.find? fun e => e.part == 15 && e.table.isNone && e.vpn == 0 / 65536) == none &&
    (resWalks t).all fun w => match w.1 with
      | .leaf ppa true _ => (t.partAt 15).dpa ppa == some (95 * 2 ^ 31 + 0x200000) && !(t.partAt 15).inImage (95 * 2 ^ 31 + 0x200000) && Q w.2
      | _ => false
/-- So the translation of the result address, whichever walk the free choice takes. -/
theorem res_of (t : State) (a : Nat) (Q : State → Bool) (h : resAll t a Q = true) :
    t.scoreTarget gi gS true a = (.mem (95 * 2 ^ 31 + 0x200000), (t.scoreTarget gi gS true a).2) ∧
      Q (t.scoreTarget gi gS true a).2 = true := by
  simp only [resAll, Bool.and_eq_true, beq_iff_eq, List.all_eq_true] at h
  obtain ⟨⟨⟨en, rfl⟩, miss⟩, h⟩ := h
  obtain ⟨f, x, hx, hf, hw⟩ := State.xlate_miss t 15 15 0 en miss
  have := h (f.walkCached 15 15 0 x.1 x.2) (by
    simp only [resWalks, List.mem_flatMap, List.mem_map]
    exact ⟨f, by rcases hf with hf | hf <;> rw [hf] <;> simp, x, hx, rfl⟩)
  rw [← hw] at this
  have e : t.scoreTarget gi gS true 0 = match t.targetOf gi gS false true 128 0 with
    | (.far _ _, t) => (.fault 5 false, t)
    | r => r := rfl
  rw [e]
  have e : t.targetOf gi gS false true 128 0 =
      match (t.xlate 15 15 0).1 with
      | .leaf ppa wr _ =>
        match (t.partAt 15).dpa (ppa + 0) with
        | none => (.fault 5 false, (t.xlate 15 15 0).2)
        | some d => if true && (!wr || (t.partAt 15).inImage d) then (.fault 4 false, (t.xlate 15 15 0).2) else (.mem d, (t.xlate 15 15 0).2)
      | .absent rpl => (.fault 5 rpl, (t.xlate 15 15 0).2)
      | .malformed => (.fault 5 false, (t.xlate 15 15 0).2)
      | .tableError => (.table, (t.xlate 15 15 0).2) := rfl
  rw [e]
  revert this
  generalize t.xlate 15 15 0 = w
  rcases w with ⟨⟨ppa, wr, ok⟩ | _ | _ | _, u⟩ <;> try simp
  cases wr <;> simp
  intro h1 h2 h3
  simp [h1, h2, h3]
theorem score_res (s : State) (P : State → Prop) [DecidablePred P]
    (h : resAll (tS s) (parseDesc ((tS s).memRead (95 * 2 ^ 31 + 0x3FFF80) 128)).res (fun u => decide (P u)) = true) :
    (tS s).scoreTarget gi gS true (parseDesc ((tS s).memRead (95 * 2 ^ 31 + 0x3FFF80) 128)).res = (.mem (95 * 2 ^ 31 + 0x200000), uS s) ∧
      P (uS s) := (res_of _ _ _ h).imp id of_decide_eq_true

/-! ### Commands that name no unit: for each check an ill-formed command beside the last well-formed one -/

/-- Well formed with a number, not with the next one. -/
def edge (f : Nat → Instr) (n : Nat) : Bool := WellFormed (f n) && !WellFormed (f (n + 1))

/-- A training block of zeros. -/
def noBlock : TsBlock := ⟨0, 0, 0, 0, 0, 0, 0, 0, 0, 0, 0, 0, Vector.replicate 4 0, 0, 0⟩

/-- Functions 1-16: neither 0 nor 17. -/
theorem test_wf_vf : [
    edge .flrVf 16, !WellFormed (.flrVf 0), edge .busMasterDisable 16, !WellFormed (.busMasterDisable 0), edge .busMasterEnable 16,
    !WellFormed (.busMasterEnable 0)].all id = true := by decide
/-- The numbers 0-1. -/
theorem test_wf_below_2 : [
    edge (fun n => .sarConversion n 0 0) 1, edge (fun n => .sineChange n false 0 0) 1, edge .pumpStall 1,
    edge (fun n => .toothEdge n 0) 1, edge .toothMissed 1, edge (fun n => .trackerEvent n 0 0) 1, edge (fun n => .timebaseEvent n ⟨0, 0⟩) 1].all id = true := by decide
/-- The numbers 0-2. -/
theorem test_wf_below_3 : [
    edge (fun n => .thresholdExit 0 n) 2].all id = true := by decide
/-- The numbers 0-3. -/
theorem test_wf_below_4 : [
    edge (fun n => .strapChange n false) 3, edge (fun n => .mouldWatchdog 0 n) 3, edge (fun n => .starvationEscape 0 n 0) 3,
    edge (fun n => .matrixOpDone 0 n) 3, edge (fun n => .copyDone 0 n 0) 3, edge (fun n => .parkRetranslate 0 n 0) 3,
    edge (fun n => .parkExpired 0 n 0) 3, edge (fun n => .watchFullPoll 0 n 0) 3,
    edge (fun n => .frameReceive 0 n false ⟨0, 0, none, none, none, none, Vector.replicate 4 0, []⟩) 3,
    edge (fun n => .markerReceive 0 n false noBlock) 3, edge (fun n => .laneRetest 0 n false) 3, edge (fun n => .laneReadmit 0 n) 3,
    edge (fun n => .dsConversion n 0 ⟨0, 0⟩) 3, edge .leakStageTimer 3, edge (fun n => .ropeOpen ⟨n, false⟩) 3].all id = true := by decide
/-- The numbers 0-4. -/
theorem test_wf_below_5 : [
    edge .planishTap 4, edge .planishTimeout 4].all id = true := by decide
/-- The numbers 0-6. -/
theorem test_wf_below_7 : [
    edge .pgRise 6, edge .pgFallInSequence 6, edge .pgFallAfterSequence 6].all id = true := by decide
/-- The numbers 0-7. -/
theorem test_wf_below_8 : [
    edge .cmpTrip 7, edge .cmpRelease 7, edge .hbmThrottleStep 7, edge (fun n => .dsConversion 0 n ⟨0, 0⟩) 7,
    edge (fun n => .spanWrite n 0) 7, edge .spanHoldEnd 7, edge (fun n => .complianceCheck n false 0) 7, edge .frameEnd 7,
    edge (fun n => .serialCharacter n false default false) 7].all id = true := by decide
/-- The numbers 0-10. -/
theorem test_wf_below_11 : [
    edge .warnCauseSet 10, edge .warnCauseClear 10].all id = true := by decide
/-- The numbers 0-15. -/
theorem test_wf_below_16 : [
    edge .drainDeadline 15, edge .mouldClockIdleStop 15, edge (fun n => .mouldFault n 0) 15, edge (fun n => .mouldWatchdog n 0) 15,
    edge (fun n => .mouldSelftestDone n false) 15, edge (fun n => .starvationEscape n 0 0) 15,
    edge (fun n => .starvationEscape 0 0 n) 15, edge (fun n => .matrixOpDone n 0) 15, edge (fun n => .copyDone n 0 0) 15,
    edge (fun n => .copyDone 0 0 n) 15, edge (fun n => .parkRetranslate n 0 0) 15, edge (fun n => .parkRetranslate 0 0 n) 15,
    edge (fun n => .parkExpired n 0 0) 15, edge (fun n => .parkExpired 0 0 n) 15, edge (fun n => .watchFullPoll n 0 0) 15,
    edge (fun n => .watchFullPoll 0 0 n) 15, edge .invalidationDone 15, edge .strandStartTime 15, edge .throttleStep 15,
    edge .throttleReleaseStep 15, edge (fun n => .sarConversion 0 n 0) 15, edge (fun n => .swapWindow n default) 15,
    edge (fun n => .configScrub n false) 15, edge (fun n => .fabricFlashProgram n 0 ⟨default, false⟩) 15,
    edge (fun n => .fabricFlashErase n ⟨0, false⟩) 15].all id = true := by decide
/-- The numbers 0-16. -/
theorem test_wf_below_17 : [
    edge (fun n => .mbxRespClear n default) 16, edge .mbxAckClear 16, edge (fun n => .mbxNoticeCiWrite n 0) 16,
    edge (fun n => .mbxIntCfgWrite n default) 16, edge (fun n => .rngSubPiWrite n 0 default) 16,
    edge (fun n => .rngCplCiWrite n 0 default) 16, edge (fun n => .rngSpillCiWrite n 0 default) 16,
    edge (fun n => .xltRootWrite n false default) 16, edge (fun n => .xltInvAll n default) 16, edge (fun n => .xltInvRange n default) 16,
    edge (fun n => .tlySigWrite n 0 default) 16, edge (fun n => .bar2Access n 0 default 0) 16].all id = true := by decide
/-- The numbers 0-19. -/
theorem test_wf_below_20 : [
    edge (fun n => .bankSweep n default) 19].all id = true := by decide
/-- The numbers 0-23. -/
theorem test_wf_below_24 : [
    edge (fun n => .submountAtTemperature n 0) 23, edge (fun n => .laserPowerUpdate n default) 23,
    edge (fun n => .wavelengthFail n default false) 23].all id = true := by decide
/-- The numbers 0-31. -/
theorem test_wf_below_32 : [
    edge (fun n => .inRegStrobe n default) 31].all id = true := by decide
/-- The numbers 0-63. -/
theorem test_wf_below_64 : [
    edge (fun n => .rngSubPiWrite 0 n default) 63, edge (fun n => .rngCplCiWrite 0 n default) 63,
    edge (fun n => .rngSpillCiWrite 0 n default) 63, edge (fun n => .sheetAccept n default .ok) 63, edge (fun n => .sheetFence n 0) 63,
    edge (fun n => .sheetKernelDispatch n 0) 63, edge (fun n => .groupDispatch n 0) 63, edge .overdueChange 63,
    edge (fun n => .sheetDeadline n 0) 63, edge .probePulse 63, edge .presenceDetect 63, edge .fullPowerStart 63,
    edge (fun n => .trainingStageDone n default noBlock) 63, edge .trainingStageTimeout 63, edge (fun n => .miswiredRetry n noBlock) 63,
    edge .frameTransmit 63, edge (fun n => .frameReceive n 0 false ⟨0, 0, none, none, none, none, Vector.replicate 4 0, []⟩) 63,
    edge (fun n => .markerReceive n 0 false noBlock) 63, edge .replayTimeout 63, edge (fun n => .laneRetest n 0 false) 63,
    edge (fun n => .laneReadmit n 0) 63, edge .lossOfLight 63, edge .reconTimeout 63, edge .lightReturnTimeout 63, edge .loopTestEnd 63,
    edge (fun n => .read n default) 63, edge (fun n => .write n default) 63, edge (fun n => .atomic n default) 63,
    edge (fun n => .tally n default) 63, edge (fun n => .watch n default) 63, edge (fun n => .watchCancel n default) 63,
    edge (fun n => .readRsp n default) 63, edge (fun n => .writeAck n default) 63, edge (fun n => .atomicRsp n default) 63,
    edge (fun n => .tallyRsp n default) 63, edge (fun n => .watchAns n default) 63, edge (fun n => .cancelAck n default) 63,
    edge (fun n => .linkmap n default) 63, edge (fun n => .depart n default) 63, edge (fun n => .reconReq n default) 63,
    edge (fun n => .reconRsp n default) 63, edge (fun n => .dack n default) 63, edge (fun n => .mgmtReject n default) 63,
    edge (fun n => .cap n default) 63, edge (fun n => .stewbeat n default) 63, edge (fun n => .member n default) 63,
    edge (fun n => .offer n default) 63, edge (fun n => .ready n default) 63, edge (fun n => .refuse n default) 63,
    edge (fun n => .done n default) 63, edge .slotSample 63, edge .slotOutputPhase 63, edge (fun n => .setpointWrite n default) 63,
    edge .slotEnable 63, edge .slotDisable 63, edge .strandSetTimeout 63].all id = true := by decide
/-- The numbers 0-139. -/
theorem test_wf_below_140 : [
    edge (fun n => .sensorSample n 0) 139, edge (fun n => .thresholdExit n 0) 139].all id = true := by decide
/-- The numbers 0-703. -/
theorem test_wf_below_704 : [
    edge (fun n => .ringLockUpdate n 0) 703, edge (fun n => .narrowAcquire n default) 703, edge (fun n => .ringLost n false) 703,
    edge (fun n => .ringRail n false) 703].all id = true := by decide
/-- A place: Moulds 0-15, quarters 0-3, slots 0-15. -/
def placed (f : GIns → Instr) : Bool :=
  WellFormed (f ⟨15, 3, 15, 8, none, 0, false, 0, []⟩) && !WellFormed (f ⟨16, 3, 15, 8, none, 0, false, 0, []⟩) &&
    !WellFormed (f ⟨15, 4, 15, 8, none, 0, false, 0, []⟩) && !WellFormed (f ⟨15, 3, 16, 8, none, 0, false, 0, []⟩)

/-- Every instruction of a group names a place. -/
theorem test_wf_place : [
    placed (fun g => .vectorOp g .mov 0 (.v 0) (.v 0) (.v 0)), placed (fun g => .scalarOp g .mov 0 (.s 0) (.s 0)),
    placed (fun g => .branch g .always 0), placed .yieldOp, placed .barG, placed .exit, placed (fun g => .movs g .tid false 0),
    placed (fun g => .macq g 0), placed (fun g => .mzero g 0), placed (fun g => .mld g 0 0),
    placed (fun g => .mma g 0 .bf16 .bf16 0 0 0 0), placed (fun g => .mst g 0 .bf16 0), placed (fun g => .mwait g 0),
    placed (fun g => .mrel g 0), placed (fun g => .mcopy g false 0 0 0), placed (fun g => .cwait g 0),
    placed (fun g => .load g ⟨false, 0, none, none, 0, 4, false⟩), placed (fun g => .store g ⟨false, 0, none, none, 0, 4, false⟩),
    placed (fun g => .atomicInstr g { mem := ⟨false, 0, none, none, 0, 4, false⟩, kind := .add, rb := 0 }),
    placed (fun g => .ldAcq g ⟨false, 0, none, none, 0, 4, false⟩), placed (fun g => .stRel g ⟨false, 0, none, none, 0, 4, false⟩),
    placed .fenceP, placed .fenceR, placed .brk, placed (fun g => .trapld g 0 0), placed (fun g => .trapst g 0 0),
    placed (fun g => .trapset g 0), placed (fun g => .trapret g false), placed (fun g => .trapkill g 0),
    placed (fun g => .cvt g (.toF .bf16) 0 0), placed (fun g => .cvtPb g .bf16 0 0), placed (fun g => .wacq g 0),
    placed (fun g => .wzero g 0), placed (fun g => .wadd g 0 0), placed (fun g => .wsub g 0 0), placed (fun g => .wred g 0),
    placed (fun g => .wrd g 0 0), placed (fun g => .wrd2 g 0 0 0), placed (fun g => .wflg g 0 0), placed (fun g => .wst g 0 0),
    placed (fun g => .wld g 0 0), placed (fun g => .waddw g 0 0), placed (fun g => .wrel g 0), placed (fun g => .tld g { st := 0 }),
    placed (fun g => .tadd g { st := 0 }), placed (fun g => .taddr g { st := 0 }), placed (fun g => .tset g { st := 0 }),
    placed (fun g => .twaitGe g { st := 0 }), placed (fun g => .twaitEq g { st := 0 }), placed (fun g => .score g 0),
    placed (fun g => .swait g 0)].all id = true := by decide

/-! ### One step, and operations, against the spec's worked examples -/

/-- 08, worked example "0.3 in each format". -/
theorem test_formats_of_three_tenths :
    Fmt.bf16.round (Fmt.fp32.decode 0x3E99999A) = 0x3E9A ∧ Fmt.e4m3.round (Fmt.fp32.decode 0x3E99999A) = 0x2A ∧
      Fmt.e5m2.round (Fmt.fp32.decode 0x3E99999A) = 0x35 := by decide +kernel
/-- 08, worked example of a PB8 block: 1.5, 0.3 and -1.99 with E = 127. -/
theorem test_pb8_block :
    (toBlock .pb8 ([0x3FC00000, 0x3E99999A, 0xBFFEB852] ++ List.replicate 29 0)).1.take 3 = [0x60, 0x13, 0x81] ∧
      (toBlock .pb8 ([0x3FC00000, 0x3E99999A, 0xBFFEB852] ++ List.replicate 29 0)).2 = 127 := by decide +kernel
/-- 08, worked example "one large key and a million small ones", with four small ones: no term is lost. -/
theorem test_wide_sum_is_exact :
    (([0x3F800000, 0x33800000, 0x33800000, 0x33800000, 0x33800000].map Fmt.fp32.decode).foldl Lane.term {}).readOut =
      (0x3F800002, 0) := by decide +kernel
/-- 11, worked example "a row of 4": the mates of strands 5 and 3 of position 2, and 16 loopback strands. -/
theorem test_row_of_four :
    let s := { State.reset with row := { State.reset.row with position := 2, rowSize := 4 } }
    s.peerOf 5 = 0 ∧ mateOf 5 = 57 ∧ s.loopback 3 = true ∧ mateOf 3 = 59 ∧ ((List.range 64).filter s.loopback).length = 16 := by
  decide +kernel
/-- 09, worked examples of a walk to a 64 KiB page and of the row address of position 9. The tables stand in granule 24. -/
theorem test_walk_to_a_page :
    let p : Part := { granules := (List.range 12).map (· + 24), xltEn := true, xltRoot := 0 }
    let e (a v : Nat) : Mem := (leBytes 8 v).zipIdx.filterMap fun x => if x.1 = 0 then none else some (24 * 2 ^ 31 + a + x.2, x.1)
    let b := e (8 * 254) 0x1001 ++ e (0x1000 + 8 * 256) 0x2001 ++ e (0x2000 + 8 * 145) 0x3001 ++ e (0x3000 + 8 * 20) 0x0000000500030017
    let s := { State.reset with
      row := { State.reset.row with position := 4, rowSize := 64 }
      mem := { State.reset.mem with bytes := b } }
    s.walk p 0x7F4012345678 = .leaf 0x500030000 true true ∧ p.dpa 0x500035678 = some 0x1100035678 ∧
      s.placeOf 0x00497F4012345678 = .remote 9 0x7F4012345678 := by decide +kernel
/-- 09, worked example "handing a layer's outputs between devices": the tally operand 0x8007_012C. -/
theorem test_tally_operand :
    let s := { State.reset with row := { State.reset.row with position := 4, rowSize := 64 } }
    (s.updPart 3 fun x => { x with tag := 5 }).tallyRef 3 0x8007012C = .far 7 300 := by decide +kernel
/-- 13, Table 13-6: the throttle of a Mould at M = 144. -/
theorem test_throttle_steps :
    ([1, 2, 3].map fun n => Mould.throttleLimit { mref := 144, throttle := n }) = [136, 129, 122] := by decide +kernel
/-- 19, worked example "tally wait timeouts": of 20 events of limit 8, 8 are written and 12 suppressed. -/
theorem test_record_limit :
    (List.range 20).foldl (fun b _ => (takeToken 8 0x2005 b).2) [] = [{ code := 0x2005, tokens := 0, suppressed := 12 }] := by
  decide +kernel
/-- 14, worked example of SAR0: the two conversions after one at 1.2 x full scale are disturbed, the third is clean. -/
theorem test_over_range_window : windowAfter 0 true 65535 78643 = 2 ∧ windowAfter 2 false 65535 0 = 1 ∧
    windowAfter 1 false 65535 0 = 0 := by decide +kernel
/-- 21, worked example of addresses: THM_SENS22 lies at 0x0104_0058 of PF0, PHC_RING517 at 0x0107_1814. -/
theorem test_register_addresses :
    let s := (up.updSens 22 fun x => { x with temp := 10020, invalid := false }).updRing704 517 fun x => { x with rail := true }
    bitsOf (s.pf0Word 0x01040058) 31 16 = 10020 ∧ bitsOf (s.pf0Word 0x01040054) 31 16 = 0 ∧
      bitOf (s.pf0Word 0x01071814) 28 = true ∧ bitOf (s.pf0Word 0x01071810) 28 = false := by decide +kernel

/-- What `f` reads in the state that a step answers. -/
def after {α : Type} (f : State → α) (s : State) : Option α :=
  match step s with
  | .next t => some (f t)
  | _ => none
/-- A state with commands waiting. -/
def given (cs : List Instr) (s : State) : State := { s with pending := cs }
/-- The state after a step, the state itself where the step stops. -/
def run1 (s : State) : State := ((after id s).getD s)

/-- The comparators enabled, with action RECORD. -/
def armed : State := { up with cmp := Vector.replicate 8 { cfg := 0x80000000#32 } }

/-- A command that names a unit that does not exist stops by name. -/
theorem test_no_such_unit :
    (match step (given [.mouldClockIdleStop 16] up) with
      | .fault .noSuchUnit => true
      | _ => false) = true := by decide +kernel
/-- The front of the queue runs first and the rest waits. -/
theorem test_queue_order :
    after (fun t => (t.pending.length, (t.cmpAt 5).level, (t.cmpAt 6).level)) (given [.cmpTrip 5, .cmpTrip 6] armed) =
      some (1, true, false) := by decide +kernel
/-- 03, worked example "a leak found in DORMANT": the second consecutive wet sample of rope 1 trips CMP1, the first does not. -/
theorem test_leak_needs_two_samples :
    let wet : Vector Bool 4 := #v[false, true, false, false]
    let dry : Vector Bool 4 := #v[false, false, false, false]
    let s : State := { armed with dev := { up.dev with state := .dormant, target := .dormant } }
    let t := run1 (given [.leakPulse wet dry, .leakPulse wet dry] s)
    (t.cmpAt 1).trip = false ∧ ((run1 t).cmpAt 1).trip = true ∧ ((run1 t).cmpAt 0).trip = false := by decide +kernel
/-- 07, worked example "a short divergent block": the odd threads go to 0x120, the even threads to 0x110. -/
theorem test_divergent_branch :
    let s := on { g0 with pc := Vector.replicate 32 0x108, pred := g0.pred.set 0 0xAAAAAAAA }
    let s := s.updPart 15 fun x => { x with image := some { granule := 95, entries := [0], code := List.replicate 304 0, total := 4096 } }
    after (fun t => (t.groupAt 15 3 15).map fun g => (g.pcOf 0, g.pcOf 1)) (given [.branch gi (.pred 0 false) 0x18] s) =
      some (some (0x110, 0x120)) := by decide +kernel
/-- The envelope of that example: HMK_VF4_CEIL0 and HMK_VF4_CEIL1, MAX_PART = 8, tags 1-9. -/
def enveloped : State := { up with hmk := { up.hmk with
  limits := regWord [(21, 350), (16, 8)], tags := regWord [(16, 9), (0, 1)]
  ceil0 := up.hmk.ceil0.set 3 (regWord [(27, 4), (21, 12), (14, 24), (9, 4), (3, 2)])
  ceil1 := up.hmk.ceil1.set 3 (regWord [(25, 16), (18, 16)]) } }
/-- Its request: TAG 0, LEN 16, VERSION 1, SEQ 0x21; without its two tally groups, whose values take the kernel long to clear. -/
def creating : Req := { req [3, 4, 0x0C, 0x0C, 4, 0, 0x10, 0x10, 5, 0, 3, 0, 0, 0, 0, 0] with tag := 0, version := 1, seq := 0x21 }
/-- What partition 3 has. -/
def granted (s : State) : List Nat :=
  let p := s.partAt 3
  [p.moulds.length, p.slices.length, p.granules.length, p.rings.length, p.tallies.length, p.tag]
set_option maxRecDepth 100000 in
/-- 05, worked example "creating and starting partition 3": 4 Moulds, 12 slices, 12 granules, 4 rings and tag 5. -/
theorem test_part_create : after granted (given [.partCreate creating] enveloped) = some [4, 12, 12, 4, 0, 5] := by decide +kernel
/-- An empty queue lets the clock count on, and changes no state of the device's. -/
theorem test_reset_idles : after (fun t => (t.dev.state, t.supply.en.toList, t.clocks.uptime)) State.reset =
    some (State.reset.dev.state, List.replicate 7 false, State.reset.clocks.uptime + 1) := by decide +kernel

/-! ### Groups that issue, used below -/

theorem on_P : Issues (on gP) gi gP := issues (by decide +kernel)
theorem on_g0 : Issues (on g0) gi g0 := issues (by decide +kernel)
theorem on_2 : Issues (on ({ g0 with wides := g0.wides.set 3 (some 15) })) gi ({ g0 with wides := g0.wides.set 3 (some 15) }) := issues (by decide +kernel)
theorem on_3 : Issues (on ({ g0 with tiles := g0.tiles.set 1 (some 3) })) gi ({ g0 with tiles := g0.tiles.set 1 (some 3) }) := issues (by decide +kernel)
theorem on_4 : Issues (((on ({ g0 with tiles := g0.tiles.set 1 (some 3) }))).updQuarter 15 3 fun x => { x with matrix := [{ slot := 15, handle := 1, tile := 3, op := .zero }] }) gi ({ g0 with tiles := g0.tiles.set 1 (some 3) }) := issues (by decide +kernel)
theorem on_5 : Issues (on ({ g0 with copies := [{ toScratch := true, scratch := 0, va := 0, len := 64, pc := 0 }] })) gi ({ g0 with copies := [{ toScratch := true, scratch := 0, va := 0, len := 64, pc := 0 }] }) := issues (by decide +kernel)
theorem on_6 : Issues (on g31) gi g31 := issues (by decide +kernel)
theorem on_7 : Issues (mapped g31) gi g31 := issues (by decide +kernel)
theorem on_8 : Issues (on ({ g0 with save := { g0.save with inHandler := true } })) gi ({ g0 with save := { g0.save with inHandler := true } }) := issues (by decide +kernel)
theorem on_9 : Issues (on ({ g0 with sreg := ((g0.sreg.set 0 511).set 1 0) })) gi ({ g0 with sreg := ((g0.sreg.set 0 511).set 1 0) }) := issues (by decide +kernel)
theorem on_10 : Issues (on ({ g0 with sreg := ((g0.sreg.set 0 511).set 1 1) })) gi ({ g0 with sreg := ((g0.sreg.set 0 511).set 1 1) }) := issues (by decide +kernel)
theorem on_11 : Issues (sS false .off 4 0) gi gS := issues (by decide +kernel)
theorem on_12 : Issues (sS false .off 3 0) gi gS := issues (by decide +kernel)

/-! ### What each statement assumes can be met: one witness for each of its clauses -/

theorem witness_StepRunsTheFrontCommand :
    (∃ (s : State) (c : Instr) (rest : List Instr), s.pending = c :: rest) ∧
    (∃ (s : State), s.pending = []) ∧
    (∃ (s : State), s.supply.vdeck = false) ∧
    (∃ (s : State), s.supply.vdeck = true ∧ (∀ m, m < 17 → (s.pageAt m).reqBusy = false) ∧ s.clockTick.alarmReached = false ∧ s.stew.beat
      = false ∧ s.stew.offerAt = none ∧ s.fil.badWords = [] ∧ s.update.handover = none ∧ s.damem.inflight = []) :=
  ⟨⟨{ up with pending := [.porstRelease, .porstRelease] }, .porstRelease, [.porstRelease], by decide +kernel⟩,
   ⟨up, by decide +kernel⟩,
   ⟨{ up with supply := { up.supply with vdeck := false } }, by decide +kernel⟩,
   ⟨up, by decide +kernel⟩⟩

theorem witness_CommandsCompleteWhereTheirUnitsExist :
    (∃ (i : Instr) (s : State) (t : State), exec i s = .next t) ∧
    (∃ (i : Instr) (_ : State), WellFormed i = true) ∧
    (∃ (i : Instr) (_ : State), WellFormed i = false) :=
  ⟨⟨.wakeSignalTimeout, up, _, rfl⟩,
   ⟨.strapChange 3 true, up, by decide +kernel⟩,
   ⟨.strapChange 4 true, up, by decide +kernel⟩⟩

theorem witness_EveryStepKeepsThePromiseTrue : ∃ (s : State) (t : State), PromiseTrue s ∧ step s = .next t :=
  ⟨State.reset, { State.reset.idle.settle with pending := [] }, by unfold PromiseTrue; decide +kernel, rfl⟩

theorem witness_ResetIsColdReset :
    (∃ r, r < 7) ∧
    (∃ k, k < 64) ∧
    (∃ a, a < 24) ∧
    (∃ p, p < 16) ∧
    (∃ n, n < 512) :=
  ⟨⟨6, by decide +kernel⟩,
   ⟨63, by decide +kernel⟩,
   ⟨23, by decide +kernel⟩,
   ⟨15, by decide +kernel⟩,
   ⟨511, by decide +kernel⟩⟩

theorem witness_MemoryHoldsWhatIsWritten :
    (∃ (s : State), Mem.wf 0 s.mem.bytes = true) ∧
    (∃ (s : State) (_ : Nat) (b : List Byte), ∃ i, Mem.wf 0 s.mem.bytes = true ∧ i < b.length) ∧
    (∃ (s : State) (d : Nat) (b : List Byte), Mem.wf 0 s.mem.bytes = true ∧ ∃ a, (a < d ∨ d + b.length ≤ a)) :=
  ⟨⟨up, by decide +kernel⟩,
   ⟨up, 0, [1], 0, by decide +kernel⟩,
   ⟨up, 1, [1], by decide +kernel, 0, by decide +kernel⟩⟩

theorem witness_PorstLowMakesColdReset :
    (∃ (_ : State) (us : Nat), us < 10) ∧
    (∃ (s : State) (us : Nat), 10 ≤ us ∧ s.supply.vdeck = true) ∧
    (∃ (s : State) (us : Nat), 10 ≤ us ∧ s.supply.vdeck = false) :=
  ⟨⟨up, 9, by decide +kernel⟩,
   ⟨{ up with supply := { up.supply with vdeck := true } }, 10, by decide +kernel⟩,
   ⟨{ up with supply := { up.supply with vdeck := false } }, 10, by decide +kernel⟩⟩

theorem witness_SupplyResetsAndReleases :
    (∃ (s : State), s.supply.vdeck = true) ∧
    (∃ (s : State), s.supply.vdeck = false) ∧
    (∃ (s : State), s.supply.vdeck = false ∧ s.supply.porstLow = false) ∧
    (∃ (s : State), s.supply.vdeck = false ∧ s.supply.porstLow = true) ∧
    (∃ (s : State), s.supply.porst = true ∧ s.supply.vdeck = true) ∧
    (∃ (s : State), (s.supply.porst = false ∨ s.supply.vdeck = false)) :=
  ⟨⟨{ up with supply := { up.supply with vdeck := true } }, by decide +kernel⟩,
   ⟨{ up with supply := { up.supply with vdeck := false } }, by decide +kernel⟩,
   ⟨{ up with supply := { up.supply with vdeck := false, porstLow := false } }, by decide +kernel⟩,
   ⟨{ up with supply := { up.supply with vdeck := false, porstLow := true } }, by decide +kernel⟩,
   ⟨{ up with supply := { up.supply with porst := true, vdeck := true } }, by decide +kernel⟩,
   ⟨{ up with supply := { up.supply with vdeck := false } }, by decide +kernel⟩⟩

theorem witness_RailsFollowTheSequence :
    (∃ (s : State) (r : Nat) (last : Nat), r < 7 ∧ s.supply.seq = .up r false last ∧ ((r ≠ 5 ∧ r ≠ 6) ∨ s.dev.target = .dormant)) ∧
    (∃ (s : State) (r : Nat) (last : Nat), (r = 5 ∨ r = 6) ∧ s.supply.seq = .up r false last ∧ s.dev.target ≠ .dormant) ∧
    (∃ (s : State) (r : Nat) (q : Nat) (last : Nat) (w : Bool), r < 7 ∧ s.supply.seq = .up q w last ∧ r ≠ q ∧ w = false) ∧
    (∃ (s : State) (r : Nat) (last : Nat), r < last ∧ last < 7 ∧ s.supply.seq = .up r true last ∧ s.enAt (r + 1) = false) ∧
    (∃ (s : State) (last : Nat), last < 7 ∧ s.supply.seq = .up last true last) ∧
    (∃ (s : State) (r : Nat) (q : Nat) (rest : List Nat), s.supply.seq = .down (r :: q :: rest)) ∧
    (∃ (s : State) (r : Nat), s.supply.seq = .down [r] ∧ s.supply.goal = .none) ∧
    (∃ (s : State) (r : Nat), r < 7 ∧ s.supply.seq = .idle ∧ (s.enAt r = false ∨ s.pgAt r = true)) ∧
    (∃ (s : State), s.supply.seq = .idle) :=
  ⟨⟨{ up with supply := { up.supply with seq := .up 4 false 0 } }, 4, 0, by decide +kernel⟩,
   ⟨{ up with supply := { up.supply with seq := .up 6 false 0 } }, 6, 0, by decide +kernel⟩,
   ⟨{ up with supply := { up.supply with seq := .up 0 false 0 } }, 6, 0, 0, false, by decide +kernel⟩,
   ⟨{ up with supply := { up.supply with seq := .up 5 true 6, en := Table.put up.supply.en 6 false } }, 5, 6, by decide +kernel⟩,
   ⟨{ up with supply := { up.supply with seq := .up 6 true 6 } }, 6, by decide +kernel⟩,
   ⟨{ up with supply := { up.supply with seq := .down (7 :: 0 :: []) } }, 7, 0, [], by decide +kernel⟩,
   ⟨{ up with supply := { up.supply with seq := .down [7], goal := .none } }, 7, by decide +kernel⟩,
   ⟨up, 6, by decide +kernel⟩,
   ⟨up, by decide +kernel⟩⟩

theorem witness_LostRailsEnterSafe :
    (∃ (s : State) (r : Nat) (last : Nat), s.supply.seq = .up r false last) ∧
    (∃ (s : State), s.supply.seq = .idle) ∧
    (∃ (s : State) (r : Nat) (q : Nat) (last : Nat) (w : Bool), r < 7 ∧ s.supply.seq = .up q w last ∧ s.railOn r = true) ∧
    (∃ (s : State) (r : Nat), 1 ≤ r ∧ r < 7 ∧ s.supply.seq = .idle ∧ s.railOn r = true) ∧
    (∃ (s : State), s.supply.seq = .idle ∧ s.railOn 0 = true ∧ s.dev.state ≠ .dormant) ∧
    (∃ (s : State), s.supply.seq = .idle ∧ s.railOn 0 = true ∧ s.dev.state = .dormant) ∧
    (∃ (s : State) (r : Nat), r < 7 ∧ s.supply.seq = .idle ∧ s.railOn r = false) ∧
    (∃ (s : State) (r : Nat), r < 7 ∧ s.supply.seq = .idle ∧ s.railOn r = false ∧ r = 0) :=
  ⟨⟨{ up with supply := { up.supply with seq := .up 7 false 0 } }, 7, 0, by decide +kernel⟩,
   ⟨{ up with supply := { up.supply with seq := .idle } }, by decide +kernel⟩,
   ⟨{ up with supply := { up.supply with seq := .up 0 true 0 } }, 6, 0, 0, true, by decide +kernel⟩,
   ⟨{ up with supply := { up.supply with seq := .idle } }, 6, by decide +kernel⟩,
   ⟨{ up with supply := { up.supply with seq := .idle } }, by decide +kernel⟩,
   ⟨{ up with dev := { up.dev with state := .dormant } }, by decide +kernel⟩,
   ⟨{ up with supply := { up.supply with seq := .idle, en := Table.put up.supply.en 6 false } }, 6, by decide +kernel⟩,
   ⟨{ up with supply := { up.supply with seq := .idle, en := Table.put up.supply.en 0 false } }, 0, by decide +kernel⟩⟩

theorem witness_SafeTakesItsCause :
    (∃ (s : State) (_ : Nat) (_ : Bool), s.dev.episode = none) ∧
    (∃ (s : State) (e : SafeEpisode) (_ : Nat) (_ : Bool), s.dev.episode = some e) ∧
    (∃ (s : State) (e : SafeEpisode) (_ : Nat) (_ : Bool), s.dev.episode = some e ∧ s.leavingSafe = true) :=
  ⟨⟨{ up with dev := { up.dev with episode := none } }, 0, true, by decide +kernel⟩,
   ⟨{ up with dev := { up.dev with episode := some { causes := [2], fromHeld := false } } }, { causes := [2], fromHeld := false }, 0,
      true, by decide +kernel⟩,
   ⟨{ up with dev := { up.dev with episode := some { causes := [2], fromHeld := false }, state := .safe, trans := true, target :=
      .standby } }, { causes := [2], fromHeld := false }, 0, true, by decide +kernel⟩⟩

theorem witness_TripBitsClearByWriteOfOne :
    (∃ (s : State) (_ : Reg32), s.supply.endpoint = .ready) ∧
    (∃ (s : State) (_ : Reg32), s.supply.endpoint ≠ .ready) :=
  ⟨⟨{ up with supply := { up.supply with endpoint := .ready } }, 0, by decide +kernel⟩,
   ⟨{ up with supply := { up.supply with endpoint := .off } }, 0, by decide +kernel⟩⟩

theorem witness_ComparatorsAndLeaksAreJudged :
    (∃ (s : State) (n : Nat), n < 8 ∧ (4 ≤ n ∨ s.aar.ropeRect = true) ∧ s.cmpArmed n = true ∧ (s.cmpAt n).level = false) ∧
    (∃ (s : State) (n : Nat), n < 8 ∧ (4 ≤ n ∨ s.aar.ropeRect = true) ∧ s.cmpArmed n = true ∧ (s.cmpAt n).level = true) ∧
    (∃ (s : State) (n : Nat), n < 8 ∧ s.cmpArmed n = true ∧ (s.cmpAt n).level = false) ∧
    (∃ (s : State) (n : Nat), n < 8 ∧ s.cmpArmed n = false) ∧
    (∃ (s : State) (n : Nat), n < 4 ∧ s.aar.ropeRect = false) ∧
    (∃ (s : State) (b : Vector Bool 4) (p : Vector Bool 4), s.aar.ropeRect = false ∧ s.supply.porst = false ∧ s.supply.vdeck = true ∧ (∀
      n, n < 4 → (Table.at b n false = true → (s.cmpAt n).beyond = 0) ∧ (Table.at p n false = true → (s.cmpAt n).past = 0))) ∧
    (∃ (s : State), (s.aar.ropeRect = true ∨ s.supply.porst = true ∨ s.supply.vdeck = false)) :=
  ⟨⟨up.updCmp 7 fun x => { x with cfg := 0x80000000, level := false }, 7, by decide +kernel⟩,
   ⟨up.updCmp 7 fun x => { x with cfg := 0x80000000, level := true }, 7, by decide +kernel⟩,
   ⟨armed, 7, by decide +kernel⟩,
   ⟨up, 7, by decide +kernel⟩,
   ⟨{ up with aar := { up.aar with ropeRect := false } }, 3, by decide +kernel⟩,
   ⟨up, Vector.replicate 4 true, Vector.replicate 4 true, by decide +kernel⟩,
   ⟨{ up with supply := { up.supply with vdeck := false } }, by decide +kernel⟩⟩

theorem witness_TripsTakeTheirAction :
    (∃ (s : State) (n : Nat), (4 ≤ n ∨ s.stew.role ≠ Role.primary) ∧ fieldOf (s.cmpAt n).cfg 29 28 = 2 ∧ (bitOf (s.cmpAt n).cfg.toNat 30
      = false ∨ s.dev.state ≠ .dormant ∨ s.dev.trans = true)) ∧
    (∃ (s : State) (n : Nat), (4 ≤ n ∨ s.stew.role ≠ Role.primary) ∧ fieldOf (s.cmpAt n).cfg 29 28 = 2 ∧ bitOf (s.cmpAt n).cfg.toNat 30 =
      true ∧ s.dev.state = .dormant ∧ s.dev.trans = false) ∧
    (∃ (s : State) (n : Nat), (4 ≤ n ∨ s.stew.role ≠ Role.primary) ∧ fieldOf (s.cmpAt n).cfg 29 28 = 1 ∧ bitOf (s.cmpAt n).cfg.toNat 30 =
      false) ∧
    (∃ (s : State) (n : Nat), (4 ≤ n ∨ s.stew.role ≠ Role.primary) ∧ fieldOf (s.cmpAt n).cfg 29 28 = 0 ∧ bitOf (s.cmpAt n).cfg.toNat 30 =
      false) ∧
    (∃ (s : State) (n : Nat), (4 ≤ n ∨ s.stew.role ≠ Role.primary) ∧ fieldOf (s.cmpAt n).cfg 29 28 = 0 ∧ bitOf (s.cmpAt n).cfg.toNat 30 =
      true ∧ s.dev.state = .dormant ∧ s.dev.trans = false) ∧
    (∃ (s : State) (n : Nat), (4 ≤ n ∨ s.stew.role ≠ Role.primary) ∧ fieldOf (s.cmpAt n).cfg 29 28 = 1 ∧ bitOf (s.cmpAt n).cfg.toNat 30 =
      true ∧ s.dev.state = .dormant ∧ s.dev.trans = false) ∧
    (∃ (s : State) (n : Nat), (4 ≤ n ∨ s.stew.role ≠ Role.primary) ∧ fieldOf (s.cmpAt n).cfg 29 28 = 0 ∧ bitOf (s.cmpAt n).cfg.toNat 30 =
      true ∧ s.dev.trans = true ∧ s.dev.target = .dormant ∧ s.boot.complete = true) ∧
    (∃ (s : State) (n : Nat), (4 ≤ n ∨ s.stew.role ≠ Role.primary) ∧ fieldOf (s.cmpAt n).cfg 29 28 = 0 ∧ bitOf (s.cmpAt n).cfg.toNat 30 =
      true ∧ s.dev.trans = false ∧ s.dev.state ≠ .dormant) :=
  ⟨⟨(up.updCmp 3 fun x => { x with cfg := 0xA0000000 }), 3, by decide +kernel⟩,
   ⟨(({ up with dev := { up.dev with state := .dormant } }).updCmp 3 fun x => { x with cfg := 0xE0000000 }), 3, by decide +kernel⟩,
   ⟨(up.updCmp 3 fun x => { x with cfg := 0x90000000 }), 3, by decide +kernel⟩,
   ⟨up, 0, by decide +kernel⟩,
   ⟨(({ up with dev := { up.dev with state := .dormant } }).updCmp 3 fun x => { x with cfg := 0xC0000000 }), 3, by decide +kernel⟩,
   ⟨(({ up with dev := { up.dev with state := .dormant } }).updCmp 3 fun x => { x with cfg := 0xD0000000 }), 3, by decide +kernel⟩,
   ⟨(({ up with dev := { up.dev with trans := true, target := .dormant } }).updCmp 7 fun x => { x with cfg := 0xC0000000 }), 7, by
      decide +kernel⟩,
   ⟨(up.updCmp 7 fun x => { x with cfg := 0xC0000000 }), 7, by decide +kernel⟩⟩

theorem witness_PinsAndStrapsAct :
    (∃ (s : State) (_ : BootEnv), s.boot.phase = .strapWait ∧ s.supply.strapPins.tap = true) ∧
    (∃ (s : State) (env : BootEnv), s.boot.phase = .strapWait ∧ s.supply.strapPins.tap = false ∧ env.cut = .none) ∧
    (∃ (s : State) (env : BootEnv), s.boot.phase = .strapWait ∧ s.supply.strapPins.tap = false ∧ env.cut = .none ∧
      s.supply.strapPins.test = false ∧ env.flashReadable = false ∧ s.hmk.sealed = false) ∧
    (∃ (s : State) (_ : BootEnv), s.boot.phase ≠ .strapWait) ∧
    (∃ (s : State) (n : Nat) (high : Bool), n < 4 ∧ let p : Straps :=
      { fvs := if n = 0 then high else s.supply.strapPins.fvs, mgt := if n = 1 then high else s.supply.strapPins.mgt, tap := if n = 2 then high else s.supply.strapPins.tap, test := if n = 3 then high else s.supply.strapPins.test };
      (s.supply.straps = none ∨ s.supply.strapRecorded = true ∨ p = s.supply.strapPins)) ∧
    (∃ (s : State) (n : Nat) (high : Bool), n < 4 ∧ let p : Straps :=
      { fvs := if n = 0 then high else s.supply.strapPins.fvs, mgt := if n = 1 then high else s.supply.strapPins.mgt, tap := if n = 2 then high else s.supply.strapPins.tap, test := if n = 3 then high else s.supply.strapPins.test };
      s.supply.straps.isSome = true ∧ s.supply.strapRecorded = false ∧ p ≠ s.supply.strapPins) ∧
    (∃ (s : State), s.railOn 4 = true ∧ s.supply.vphoOk = false) ∧
    (∃ (s : State), s.railOn 4 = false ∨ s.supply.vphoOk = true) ∧
    (∃ (s : State), s.supply.perst = true) ∧
    (∃ (s : State), s.supply.perst = false ∧ s.dev.state = .dormant) ∧
    (∃ (s : State), s.supply.perst = false ∧ s.dev.state ≠ .dormant) ∧
    (∃ (s : State), s.supply.perst = false) ∧
    (∃ (s : State), s.supply.perst = true ∧ (s.supply.vdeck = false ∨ s.supply.porst = true)) ∧
    (∃ (s : State), s.supply.perst = true ∧ s.supply.vdeck = true ∧ s.supply.porst = false ∧ (s.dev.state ≠ .dormant ∨ s.dev.trans =
      true) ∧ s.supply.seq = .idle ∧ s.supply.endpoint = .off) ∧
    (∃ (s : State), s.supply.perst = true ∧ s.supply.vdeck = true ∧ s.supply.porst = false ∧ s.dev.state = .dormant ∧ s.dev.trans = false) ∧
    (∃ (s : State) (r : Nat), s.railNext 0 6 = some r) ∧
    (∃ (s : State), s.supply.endpoint ≠ .retry) ∧
    (∃ (s : State), s.supply.endpoint = .retry ∧ s.supply.goal = .none ∧ (∀ m, m < 17 → (s.pageAt m).queued = [])) :=
  ⟨⟨{ up with boot := { up.boot with phase := .strapWait }, supply := { up.supply with strapPins := { tap := true } } }, {},
      by decide +kernel⟩,
   ⟨{ up with boot := { up.boot with phase := .strapWait } }, {}, by decide +kernel⟩,
   ⟨{ up with boot := { up.boot with phase := .strapWait }, hmk := { up.hmk with sealed := false } }, { flashReadable := false },
      by decide +kernel⟩,
   ⟨up, {}, by decide +kernel⟩,
   ⟨up, 3, false, by decide +kernel⟩,
   ⟨up, 3, true, by decide +kernel⟩,
   ⟨{ up with supply := { up.supply with vphoOk := false } }, by decide +kernel⟩,
   ⟨up, by decide +kernel⟩,
   ⟨{ up with supply := { up.supply with perst := true } }, by decide +kernel⟩,
   ⟨({ up with dev := { up.dev with state := .dormant } }), by decide +kernel⟩,
   ⟨on g0, by decide +kernel⟩,
   ⟨{ up with supply := { up.supply with perst := false } }, by decide +kernel⟩,
   ⟨{ up with supply := { up.supply with perst := true, porst := true } }, by decide +kernel⟩,
   ⟨({ up with supply := { up.supply with perst := true, endpoint := .off } }), by decide +kernel⟩,
   ⟨{ ({ up with supply := { up.supply with perst := true, endpoint := .off } }) with dev := { up.dev with state := .dormant } },
      by decide +kernel⟩,
   ⟨{ up with supply := { up.supply with en := Table.put up.supply.en 6 false, pg := Table.put up.supply.pg 6 false } }, 6,
      by decide +kernel⟩,
   ⟨up, by decide +kernel⟩,
   ⟨{ up with supply := { up.supply with endpoint := .retry, goal := .none } }, by decide +kernel⟩⟩

theorem witness_ClocksAndRegulatorsAreWatched :
    (∃ (s : State), s.clocks.xtalFault = false ∧ s.supply.vdeck = true ∧ s.supply.porst = false) ∧
    (∃ (s : State), s.clocks.xtalFault = true ∧ s.supply.vdeck = true ∧ s.supply.porst = false) ∧
    (∃ (s : State), (s.clocks.xtalFault = true ∨ s.supply.vdeck = false ∨ s.supply.porst = true)) ∧
    (∃ (s : State), (s.clocks.xtalFault = false ∨ s.supply.vdeck = false ∨ s.supply.porst = true)) ∧
    (∃ (s : State), s.clocks.refclkLock = true ∧ (s.inService = true ∨ s.towardService = true)) ∧
    (∃ (s : State), s.clocks.refclkLock = true ∧ s.inService = false ∧ s.towardService = false ∧ (s.dev.state = .held ∨ s.dev.state =
      .safe ∨ s.dev.episode.isSome = true)) ∧
    (∃ (s : State), s.clocks.refclkLock = true ∧ s.inService = false ∧ s.towardService = false ∧ s.dev.state ≠ .held ∧ s.dev.state ≠
      .safe ∧ s.dev.episode = none) ∧
    (∃ (s : State), s.clocks.refclkLock = false) ∧
    (∃ (s : State), s.supply.vdeck = true ∧ s.supply.porst = false) ∧
    (∃ (s : State), (s.supply.vdeck = false ∨ s.supply.porst = true)) ∧
    (∃ (s : State), (s.boot.rowOk = false ∨ s.clocks.extClk = true)) ∧
    (∃ (s : State) (_ : Int), s.boot.rowOk = true ∧ s.clocks.extClk = false ∧ s.row.xtalOfs = 0 ∧ s.row.xtalPara = 0 ∧ s.row.xtalTurn = 0) ∧
    (∃ (s : State) (_ : Int), s.boot.rowOk = true ∧ s.clocks.extClk = false ∧ (s.row.xtalOfs ≠ 0 ∨ s.row.xtalPara ≠ 0 ∨ s.row.xtalTurn ≠
      0)) ∧
    (∃ (s : State) (l : List PmbusReading), s.supply.porst = false ∧ s.supply.vdeck = true ∧ s.dev.state ≠ .dormant ∧ s.fwAbsent = false
      ∧ s.boot.phase ≠ .strapWait ∧ s.boot.phase ≠ .boardTest ∧ l.length ≤ 9) ∧
    (∃ (e : Nat), e < 9) ∧
    (∃ (s : State) (e : Nat), e < 9 ∧ (Table.at s.supply.tele (teleRail e) {}).fails < 2) ∧
    (∃ (s : State) (e : Nat), let t := Table.at s.supply.tele (teleRail e) {}; e < 9 ∧ t.fails = 2 ∧ t.stale = false) ∧
    (∃ (s : State), s.fwAbsent = true ∨ s.dev.state = .dormant ∨ s.supply.porst = true ∨ s.supply.vdeck = false) :=
  ⟨⟨{ up with clocks := { up.clocks with xtalFault := false }, supply := { up.supply with vdeck := true, porst := false } },
      by decide +kernel⟩,
   ⟨{ up with clocks := { up.clocks with xtalFault := true }, supply := { up.supply with vdeck := true, porst := false } },
      by decide +kernel⟩,
   ⟨{ up with clocks := { up.clocks with xtalFault := true } }, by decide +kernel⟩,
   ⟨{ up with clocks := { up.clocks with xtalFault := false } }, by decide +kernel⟩,
   ⟨up, by decide +kernel⟩,
   ⟨{ up with dev := { up.dev with state := .held } }, by decide +kernel⟩,
   ⟨{ up with dev := { up.dev with state := .dormant } }, by decide +kernel⟩,
   ⟨{ up with clocks := { up.clocks with refclkLock := false } }, by decide +kernel⟩,
   ⟨up, by decide +kernel⟩,
   ⟨{ up with supply := { up.supply with vdeck := false } }, by decide +kernel⟩,
   ⟨{ up with clocks := { up.clocks with extClk := true } }, by decide +kernel⟩,
   ⟨{ up with boot := { up.boot with rowOk := true }, clocks := { up.clocks with extClk := false }, row := { up.row with xtalOfs := 0, xtalPara := 0, xtalTurn := 0 } },
      0, by decide +kernel⟩,
   ⟨{ up with row := { up.row with xtalTurn := 25 } }, 0, by decide +kernel⟩,
   ⟨up, List.replicate 9 {}, by decide +kernel⟩,
   ⟨8, by decide +kernel⟩,
   ⟨up, 8, by decide +kernel⟩,
   ⟨{ up with supply := { up.supply with tele := Vector.replicate 9 { fails := 2 } } }, 8, by decide +kernel⟩,
   ⟨{ up with dev := { up.dev with state := .dormant } }, by decide +kernel⟩⟩

theorem witness_StateTimersAndWakes :
    (∃ (s : State), s.dev.state = .anneal ∧ s.dev.trans = false ∧ s.row.idleS ≠ 0 ∧ s.dev.startsWaiting = []) ∧
    (∃ (s : State), (s.dev.state ≠ .anneal ∨ s.dev.trans = true ∨ s.row.idleS = 0 ∨ s.dev.startsWaiting ≠ [])) ∧
    (∃ (s : State), s.dev.state = .serving ∧ s.dev.trans = false ∧ s.thm.seed = none ∧ (∀ p ∈ s.part.toList, p.live = false ∧ p.state ≠
      .aborting)) ∧
    (∃ (s : State) (p : Part), p ∈ s.part.toList ∧ p.live = true) ∧
    (∃ (s : State), s.dev.state ≠ .serving ∨ s.dev.trans = true) ∧
    (∃ (s : State), s.dev.state = .dormant ∧ s.dev.trans = false ∧ s.damem.nackAt = none) ∧
    (∃ (s : State), s.mgmtHears = true) ∧
    (∃ (s : State), (s.dev.state ≠ .dormant ∨ s.dev.trans = true)) ∧
    (∃ (s : State), s.alarmReached = true ∧ (s.clocks.alarmWake = false ∨ s.dev.state ≠ .dormant ∨ s.dev.trans = true)) ∧
    (∃ (s : State), s.alarmReached = true ∧ s.clocks.alarmWake = true ∧ s.dev.state = .dormant ∧ s.dev.trans = false) ∧
    (∃ (s : State), s.alarmReached = false) :=
  ⟨⟨{ up with dev := { up.dev with state := .anneal, trans := false, startsWaiting := [] }, row := { up.row with idleS := 1 } },
      by decide +kernel⟩,
   ⟨up, by decide +kernel⟩,
   ⟨{ up with dev := { up.dev with state := .serving } }, by decide +kernel⟩,
   ⟨{ up with part := Table.put up.part 15 { state := .started } }, { state := .started }, by decide +kernel⟩,
   ⟨up, by decide +kernel⟩,
   ⟨{ up with dev := { up.dev with state := .dormant } }, by decide +kernel⟩,
   ⟨{ up with dev := { up.dev with state := .dormant }, clocks := { up.clocks with uptime := 33 }, damem := { up.damem with nackAt := some 0 } },
      by decide +kernel⟩,
   ⟨up, by decide +kernel⟩,
   ⟨{ up with clocks := { up.clocks with alarmWake := true, alarmArm := true, timeValid := true } }, by decide +kernel⟩,
   ⟨{ up with clocks := { up.clocks with alarmWake := true, alarmArm := true, timeValid := true }, dev := { up.dev with state := .dormant, trans := false } },
      by decide +kernel⟩,
   ⟨up, by decide +kernel⟩⟩

theorem witness_LoReadsLatchTheHighWord :
    (∃ (s : State) (lo : Nat) (hi : Nat), s.supply.endpoint = .ready ∧
      (lo, hi) ∈ [(0x4, 0x8), (0x1050008, 0x105000C), (0x1060008, 0x106000C), (0x1060010, 0x1060014), (0x1060018, 0x106001C), (0x1060048, 0x106004C), (0x10C0300, 0x10C0304), (0x10D000C, 0x10D0010)]) ∧
    (∃ (s : State) (fn : Nat) (off : Nat) (v : Nat), s.supply.endpoint = .ready ∧ (fn = 0 ∨ s.vfUp fn = true) ∧ off % 4 = 0 ∧
      s.sriov.latches.find? (fun x => x.1 == fn && x.2.1 == off) = some (fn, off, v) ∧ (∀ x ∈ latchPairs, x.1 ≠ off)) ∧
    (∃ (s : State) (fn : Nat) (off : Nat), s.supply.endpoint = .ready ∧ (fn = 0 ∨ s.vfUp fn = true) ∧ off % 4 = 0 ∧
      s.sriov.latches.find? (fun x => x.1 == fn && x.2.1 == off) = none) ∧
    (∃ (s : State) (vf : Nat) (lo : Nat), 1 ≤ vf ∧ vf < 17 ∧ s.vfUp vf = true ∧ (s.partAt (vf - 1)).state ≠ .none ∧ (lo = 0 ∨ lo = 8)) ∧
    (∃ (s : State) (vf : Nat) (hi : Nat) (v : Nat), 1 ≤ vf ∧ vf < 17 ∧ s.vfUp vf = true ∧ (s.partAt (vf - 1)).state ≠ .none ∧
      (hi = 4 ∨ hi = 12) ∧ s.sriov.latches.find? (fun x => x.1 == vf && x.2.1 == ctrlBase + hi) = some (vf, ctrlBase + hi, v)) ∧
    (∃ (s : State) (vf : Nat) (hi : Nat), 1 ≤ vf ∧ vf < 17 ∧ s.vfUp vf = true ∧ (s.partAt (vf - 1)).state ≠ .none ∧ (hi = 4 ∨ hi = 12) ∧
      s.sriov.latches.find? (fun x => x.1 == vf && x.2.1 == ctrlBase + hi) = none) ∧
    (∃ (s : State) (_ : Nat) (_ : Nat), s.supply.endpoint ≠ .ready) :=
  ⟨⟨{ up with supply := { up.supply with endpoint := .ready } }, 0x10D000C, 0x10D0010, by decide +kernel⟩,
   ⟨{ up with supply := { up.supply with endpoint := .ready }, sriov := { up.sriov with latches := [(0, 8, 5)] } }, 0, 8, 5,
      by decide +kernel⟩,
   ⟨{ up with supply := { up.supply with endpoint := .ready } }, 0, 0, by decide +kernel⟩,
   ⟨(up).updPart 15 fun x => { x with state := .stopped }, 16, 8, by decide +kernel⟩,
   ⟨({ up with sriov := { up.sriov with latches := [(16, ctrlBase + 12, 5)] } }).updPart 15 fun x => { x with state := .stopped }, 16, 12, 5,
      by decide +kernel⟩,
   ⟨(up).updPart 15 fun x => { x with state := .stopped }, 16, 12, by decide +kernel⟩,
   ⟨{ up with supply := { up.supply with endpoint := .retry } }, 0, 0, by decide +kernel⟩⟩

theorem witness_NoticeMasksStayPermitted :
    (∃ m, m < 17) ∧
    (∃ (s : State), s.supply.endpoint = .ready) ∧
    (∃ (s : State) (m : Nat) (_ : Reg32), m < 16 ∧ s.supply.endpoint = .ready ∧ s.vfUp (m + 1) = true) ∧
    (∃ m, m < 17) :=
  ⟨⟨16, by decide +kernel⟩,
   ⟨up, by decide +kernel⟩,
   ⟨{ up with supply := { up.supply with endpoint := .ready } }, 15, 0, by decide +kernel⟩,
   ⟨16, by decide +kernel⟩⟩

theorem witness_RegistersTakeTheirWrites :
    (∃ (s : State) (v : Reg32), s.supply.endpoint = .ready ∧ v.getLsbD 0 = true ∧ (s.pageAt 16).reqBusy = false) ∧
    (∃ (s : State) (m off : Nat) (_ : Reg32) (_ : Nat), m < 16 ∧ s.supply.endpoint = .ready ∧ s.vfUp (m + 1) = true ∧ off % 4 = 0 ∧ 0x100
      ≤ off ∧ off < 0x500 ∧ (s.pageAt m).reqBusy = false) ∧
    (∃ (s : State) (off : Nat) (_ : Reg32) (_ : Nat), (s.pageAt 16).reqBusy = true ∧ (off = 0 ∨ (0x100 ≤ off ∧ off < 0x500))) ∧
    (∃ (s : State) (_ : Nat) (_ : RegSel) (_ : Reg32) (_ : Nat), s.supply.endpoint ≠ .ready) ∧
    (∃ (s : State) (fn off : Nat) (_ : Reg32), s.supply.endpoint = .ready ∧ (fn = 0 ∨ s.vfUp fn = true) ∧ off % 4 = 0 ∧ off < 16 * (if fn
      = 0 then 128 else 120)) ∧
    (∃ (s : State) (m : Nat), m < 17 ∧ s.mbxUp m = true) ∧
    (∃ (s : State) (m : Nat) (_ : Nat), m < 17 ∧ s.mbxUp m = true ∧ (s.pageAt m).lostDue = false) ∧
    (∃ (s : State) (m : Nat) (v : Reg32), m < 17 ∧ s.mbxUp m = true ∧ v.toNat % 2048 < (if m = 16 then 128 else 120)) ∧
    (∃ (s : State) (m : Nat) (v : Reg32), m < 17 ∧ s.mbxUp m = true ∧ (if m = 16 then 128 else 120) ≤ v.toNat % 2048) ∧
    (∃ (s : State) (m : Nat) (_ : Reg32) (_ : Nat), m < 17 ∧ s.mbxUp m = false) ∧
    (∃ (s : State), s.supply.endpoint = .ready ∧ s.hmk.sealed = true) ∧
    (∃ (s : State) (off : Nat) (_ : Reg32), s.supply.endpoint = .ready ∧ s.hmk.sealed = true ∧ off ∈ [0x010, 0x014, 0x018, 0x01C, 0x020,
      0x030, 0x034, 0x038]) ∧
    (∃ (_ : State) (fn : Nat) (_ : Nat) (_ : Reg32), fn ≠ 0) ∧
    (∃ (s : State), s.supply.endpoint = .ready) :=
  ⟨⟨up, 1, by decide +kernel⟩,
   ⟨up, 15, 0x4FC, 0, 15, by decide +kernel⟩,
   ⟨(up.updPage 16 fun x => { x with reqBusy := true }), 0x100, 0, 15, by decide +kernel⟩,
   ⟨{ up with supply := { up.supply with endpoint := .retry } }, 0, .vfEnable, 0, 15, by decide +kernel⟩,
   ⟨up, 16, 1916, 0, by decide +kernel⟩,
   ⟨up, 16, by decide +kernel⟩,
   ⟨((up).updPage 16 fun x => { x with lostDue := false }), 16, 0, by decide +kernel⟩,
   ⟨up, 16, 0, by decide +kernel⟩,
   ⟨up, 16, 128, by decide +kernel⟩,
   ⟨{ up with sriov := { up.sriov with numVfs := 15 } }, 15, 0, 0, by decide +kernel⟩,
   ⟨up, by decide +kernel⟩,
   ⟨{ up with supply := { up.supply with endpoint := .ready }, hmk := { up.hmk with sealed := true } }, (0x010), 0, by decide +kernel⟩,
   ⟨up, 1, 0, 0, by decide +kernel⟩,
   ⟨{ up with supply := { up.supply with endpoint := .ready } }, by decide +kernel⟩⟩

theorem witness_FunctionsResetAndLeave :
    (∃ (s : State), s.supply.endpoint = .ready) ∧
    (∃ (s : State) (vf : Nat), 1 ≤ vf ∧ vf ≤ 16 ∧ s.vfUp vf = true) ∧
    (∃ (s : State) (vf : Nat), 1 ≤ vf ∧ vf ≤ 16 ∧ s.vfUp vf = false) ∧
    (∃ (s : State), s.supply.endpoint = .ready ∧ s.sriov.vfEnable = false) ∧
    (∃ (s : State), s.supply.endpoint = .ready ∧ s.sriov.vfEnable = true ∧ s.sriov.numVfs = 1) ∧
    (∃ (s : State) (n : Nat), s.supply.endpoint = .ready ∧ 0 < n ∧ s.sriov.numVfs ≤ n ∧ (∀ x ∈ s.sriov.msix, x.1 = 0 ∨ (s.sriov.vfEnable
      = true ∧ x.1 ≤ s.sriov.numVfs))) ∧
    (∃ (s : State), s.supply.endpoint ≠ .ready) ∧
    (∃ (s : State) (vf : Nat), s.supply.endpoint = .ready ∧ 1 ≤ vf ∧ vf ≤ 16) ∧
    (∃ (s : State) (vf : Nat), 1 ≤ vf ∧ vf ≤ 16 ∧ s.vfUp vf = true ∧ (s.partAt (vf - 1)).busMaster = true ∧ (s.partAt (vf - 1)).state =
      .none) ∧
    (∃ (s : State) (vf : Nat), 1 ≤ vf ∧ vf ≤ 16 ∧ s.vfUp vf = true ∧ (s.partAt (vf - 1)).rings = []) :=
  ⟨⟨up, by decide +kernel⟩,
   ⟨up, 16, by decide +kernel⟩,
   ⟨{ up with sriov := { up.sriov with numVfs := 15 } }, 16, by decide +kernel⟩,
   ⟨{ up with supply := { up.supply with endpoint := .ready }, sriov := { up.sriov with vfEnable := false } }, by decide +kernel⟩,
   ⟨{ up with supply := { up.supply with endpoint := .ready }, sriov := { up.sriov with vfEnable := true, numVfs := 1 } },
      by decide +kernel⟩,
   ⟨{ up with sriov := { up.sriov with msix := [(0, 0, 1), (16, 0, 1)] } }, 16, by decide +kernel⟩,
   ⟨{ up with supply := { up.supply with endpoint := .retry } }, by decide +kernel⟩,
   ⟨up, 16, by decide +kernel⟩,
   ⟨((up).updPart (16 - 1) fun x => { x with busMaster := true, state := .none }), 16, by decide +kernel⟩,
   ⟨((up).updPart (16 - 1) fun x => { x with rings := [] }), 16, by decide +kernel⟩⟩

theorem witness_RequestsThatPassEveryStepAct : ∃ p, ∃ (s : State) (r : Req), p ∈ damemRows ∧ Served s p.1 r :=
  ⟨(0x0001, Instr.nop), up, req [], by simp [damemRows], served (by decide +kernel)⟩

theorem witness_RequestsStopAtTheFirstFailure :
    (∃ p, ∃ (s : State) (r : Req) (m : Fin 17), p ∈ damemRows ∧ r.path = .mbx m ∧ (s.mbxUp m.val = false ∨ (s.pageAt m.val).reqBusy =
      true)) ∧
    (∃ p, ∃ (s : State) (r : Req), p ∈ damemRows ∧ r.path = .mctp ∧ (s.bindingUp r.binding = false ∨ r.vendorOk = false)) ∧
    (∃ p, ∃ (s : State) (r : Req), p ∈ damemRows ∧ r.path = .mctp ∧ s.bindingUp r.binding = true ∧ r.vendorOk = true ∧ s.damem.mctpUp =
      false) ∧
    (∃ p, ∃ (s : State) (r : Req), p ∈ damemRows ∧ r.path = .mctp ∧ s.bindingUp r.binding = true ∧ r.vendorOk = true ∧ s.damem.mctpUp =
      true ∧ s.asleep = true ∧ s.mgmtHears = false) ∧
    (∃ p, ∃ (s : State) (r : Req) (m : Fin 17), p ∈ damemRows ∧ r.path = .mbx m ∧ s.mbxUp m.val = true ∧ (s.pageAt m.val).reqBusy = false
      ∧ s.headOk r = false) ∧
    (∃ p, ∃ (s : State) (r : Req) (m : Fin 17), p ∈ damemRows ∧ r.path = .mbx m ∧ s.mbxUp m.val = true ∧ (s.pageAt m.val).reqBusy = false
      ∧ s.headOk r = true ∧ s.boot.complete = false ∧ s.heldMode = false ∧ s.recovering = false) ∧
    (∃ p, ∃ (s : State) (r : Req) (m : Fin 17), p ∈ damemRows ∧ r.path = .mbx m ∧ s.mbxUp m.val = true ∧ (s.pageAt m.val).reqBusy = false
      ∧ s.headOk r = true ∧ s.boot.complete = true ∧ s.fwAbsent = true) ∧
    (∃ (s : State) (r : Req) (c : Nat), Accepted s c r ∧ opcodeRow c = none) ∧
    (∃ p, ∃ (s : State) (r : Req), let a := s.accepted p.1 r; p ∈ damemRows ∧ Accepted s p.1 r ∧ a.heldMode = true ∧ recoverySet p.1 =
      false) ∧
    (∃ p, ∃ (s : State) (r : Req), let a := s.accepted p.1 r; p ∈ damemRows ∧ Accepted s p.1 r ∧ a.heldMode = false ∧ a.owns p.1 r =
      false) ∧
    (∃ p, ∃ (s : State) (r : Req), let a := s.accepted p.1 r; let f := s.entryOf p.1 r false; ∃ d, p ∈ damemRows ∧ Accepted s p.1 r ∧
      a.heldMode = false ∧ a.owns p.1 r = true ∧ a.argFault f = some d) ∧
    (∃ p, ∃ (s : State) (r : Req), let a := s.accepted p.1 r; let f := s.entryOf p.1 r false; ∃ d, p ∈ damemRows ∧ Accepted s p.1 r ∧
      a.heldMode = false ∧ a.owns p.1 r = true ∧ a.argFault f = none ∧ a.beyondEnvelope f = some d) ∧
    (∃ p, ∃ (s : State) (r : Req), let a := s.accepted p.1 r; let f := s.entryOf p.1 r false; p ∈ damemRows ∧ Accepted s p.1 r ∧
      a.heldMode = false ∧ a.owns p.1 r = true ∧ a.argFault f = none ∧ a.beyondEnvelope f = none ∧ a.partRefuses p.1 r = true) ∧
    (∃ (f : InFlight), f.opcode ≠ 0x0304) ∧
    (∃ (s : State) (f : InFlight), f.opcode = 0x0304 ∧ s.supplyJudge (sfld f.req.body 0 4) = .envelope) ∧
    (∃ (s : State) (f : InFlight), f.opcode = 0x0304 ∧ s.supplyJudge (sfld f.req.body 0 4) = .guard) :=
  ⟨⟨(0x0001, Instr.nop), { up with sriov := { up.sriov with numVfs := 15 } }, { req [] with path := .mbx 15 }, 15, by simp [damemRows],
      by decide +kernel⟩,
   ⟨(0x0001, Instr.nop), up, { req [] with path := .mctp, binding := .vdm, vendorOk := false }, by simp [damemRows], by decide +kernel⟩,
   ⟨(0x0001, Instr.nop), { up with damem := { up.damem with mctpUp := false } }, { req [] with path := .mctp, binding := .vdm }, by
      simp [damemRows], by decide +kernel⟩,
   ⟨(0x0001, Instr.nop), { up with dev := { up.dev with state := .dormant } }, { req [] with path := .mctp, binding := .vdm }, by simp
      [damemRows], by decide +kernel⟩,
   ⟨(0x0001, Instr.nop), up, { req [] with tag := 8 }, 16, by simp [damemRows], by decide +kernel⟩,
   ⟨(0x0001, Instr.nop), { up with boot := { up.boot with complete := false, phase := .firmware } }, req [], 16, by simp [damemRows],
      by decide +kernel⟩,
   ⟨(0x0001, Instr.nop), { up with update := { up.update with restarting := true } }, req [], 16, by simp [damemRows],
      by decide +kernel⟩,
   ⟨up, req [], 0x0003, accepted (by decide +kernel), by decide +kernel⟩,
   ⟨(0x0001, Instr.nop), { up with dev := { up.dev with state := .held } }, req [], by simp [damemRows], accepted (by decide +kernel),
      by decide +kernel⟩,
   ⟨(0x0103, Instr.hallmarkQuery), up, { req [] with path := .mbx 0 }, by simp [damemRows], accepted (by decide +kernel),
      by decide +kernel⟩,
   ⟨(0x0001, Instr.nop), up, req [0, 0, 0, 0], 0xFFFF, by simp [damemRows], accepted (by decide +kernel), by decide +kernel⟩,
   ⟨(0x0201, Instr.partCreate), up, req [15, 16, 1, 1, 1, 1, 1, 1, 7, 0, 0, 0, 100, 0, 0, 0], 1, by simp [damemRows], accepted
      (by decide +kernel), by decide +kernel⟩,
   ⟨(0x0203, Instr.partDestroy), on g0, req [15, 0, 0, 0], by simp [damemRows], accepted (by decide +kernel), by decide +kernel⟩,
   ⟨{ opcode := 0x0301, req := req [], locks := [], wait := .queued, committed := false }, by decide +kernel⟩,
   ⟨up, up.entryOf 0x0304 (req (leBytes 4 40000)) false, by decide +kernel⟩,
   ⟨{ up with hmk := { up.hmk with cool := regWord [(22, 200), (12, 500)] } }, up.entryOf 0x0304 (req (leBytes 4 30000)) false,
      by decide +kernel⟩⟩

theorem witness_ResponsesLandInTheirSlot :
    (∃ (s : State) (f : InFlight) (m : Fin 17), s.fwAbsent = false ∧ s.supply.endpoint = .ready ∧ f.req.path = .mbx m ∧ f.req.tag < 8 ∧
      f.drop = false) ∧
    (∃ (s : State) (f : InFlight) (m : Fin 17) (_ : Status) (_ : Nat) (_ : Nat) (_ : List Byte), ∃ t, s.fwAbsent = false ∧
      s.supply.endpoint = .ready ∧ f.req.path = .mbx m ∧ f.req.tag < 8 ∧ f.drop = false ∧ t ≠ f.req.tag) ∧
    (∃ (s : State) (f : InFlight) (m : Fin 17) (_ : Status) (_ : Nat) (_ : Nat) (_ : List Byte), ∃ k, s.fwAbsent = false ∧
      s.supply.endpoint = .ready ∧ f.req.path = .mbx m ∧ f.req.tag < 8 ∧ f.drop = false ∧ k ≠ m.val) ∧
    (∃ (s : State) (f : InFlight) (m : Fin 17), s.fwAbsent = false ∧ s.supply.endpoint ≠ .ready ∧ f.req.path = .mbx m ∧ f.drop = false) ∧
    (∃ (p : Nat × (Req → Instr)) (s : State) (r : Req), let a := s.accepted p.1 r; let f := s.entryOf p.1 r false; ∃ g, p ∈ damemRows ∧
      Accepted s p.1 r ∧ p.1 ≠ 0x0101 ∧ a.heldMode = false ∧ a.owns p.1 r = true ∧ a.argFault f = none ∧ a.beyondEnvelope f = none ∧
      a.partRefuses p.1 r = false ∧ (p.1 = 0x0204 → (s.partAt (r.f 0 1)).state ≠ .starting ∧ (s.partAt (r.f 0 1)).state ≠ .started) ∧
      flashOpcode p.1 r = true ∧ a.dirWriter = some g) ∧
    (∃ p, ∃ (s : State) (r : Req), let a := s.accepted p.1 r; let f := s.entryOf p.1 r false; ∃ g, p ∈ damemRows ∧ Accepted s p.1 r ∧ p.1
      ≠ 0x0101 ∧ a.heldMode = false ∧ a.owns p.1 r = true ∧ a.argFault f = none ∧ a.beyondEnvelope f = none ∧ a.partRefuses p.1 r = false
      ∧ (p.1 = 0x0204 → (s.partAt (r.f 0 1)).state ≠ .starting ∧ (s.partAt (r.f 0 1)).state ≠ .started) ∧ (flashOpcode p.1 r = true →
      a.dirWriter = none) ∧ (a.blockers f).find? (fun g => g.req.path != r.path) = some g) ∧
    (∃ p, ∃ (s : State) (r : Req), let a := s.accepted p.1 r; let f := s.entryOf p.1 r false; p ∈ damemRows ∧ Accepted s p.1 r ∧ p.1 ≠
      0x0101 ∧ a.heldMode = false ∧ a.owns p.1 r = true ∧ a.argFault f = none ∧ a.beyondEnvelope f = none ∧ a.partRefuses p.1 r = false ∧
      (p.1 = 0x0204 → (s.partAt (r.f 0 1)).state ≠ .starting ∧ (s.partAt (r.f 0 1)).state ≠ .started) ∧ (flashOpcode p.1 r = true →
      a.dirWriter = none) ∧ a.blockers f ≠ [] ∧ (∀ g ∈ a.blockers f, g.req.path = r.path)) :=
  ⟨⟨up, { opcode := 1, req := req [], locks := [], wait := .queued, committed := false }, 16, by decide +kernel⟩,
   ⟨up, { opcode := 1, req := req [], locks := [], wait := .queued, committed := false }, 16, .ok, 0, 0, [], 0, by decide +kernel⟩,
   ⟨up, { opcode := 1, req := req [], locks := [], wait := .queued, committed := false }, 16, .ok, 0, 0, [], 0, by decide +kernel⟩,
   ⟨{ up with supply := { up.supply with endpoint := .retry } }, up.entryOf 1 (req []) false, 16, by decide +kernel⟩,
   ⟨(0x0905, Instr.imageCheck),
      { up with damem := { up.damem with flashOp := some (.dirSet 0 false false), inflight := [{ opcode := 0x0904, req := { req [0, 0, 0, 0] with path := .mctp }, locks := [.flash], wait := .flash, committed := false }] } },
      req [4, 1, 0, 0],
      { opcode := 0x0904, req := { req [0, 0, 0, 0] with path := .mctp }, locks := [.flash], wait := .flash, committed := false }, by simp
      [damemRows], accepted (by decide +kernel), by decide +kernel⟩,
   ⟨(0x0402, Instr.strandSetDisable),
      { up with damem := { up.damem with inflight := [up.entryOf 0x0402 ({ req [63, 0, 0, 0] with path := .mctp }) false] } }, req [63, 0,
      0, 0], up.entryOf 0x0402 ({ req [63, 0, 0, 0] with path := .mctp }) false, by simp [damemRows], accepted (by decide +kernel),
      by decide +kernel⟩,
   ⟨(0x0402, Instr.strandSetDisable),
      { up with damem := { up.damem with inflight := [up.entryOf 0x0402 ({ req [63, 0, 0, 0] with tag := 6 }) false] } }, req [63, 0, 0,
      0], by simp [damemRows], accepted (by decide +kernel), by decide +kernel⟩⟩

theorem witness_QueriesAnswerTheirPayload :
    (∃ (s : State) (r : Req), Served s 0x0001 r) ∧
    (∃ (s : State) (r : Req), Served s 0x0002 r) ∧
    (∃ (s : State) (r : Req), Served s 0x0102 r) ∧
    (∃ (s : State) (r : Req), Served s 0x0103 r) ∧
    (∃ (s : State) (r : Req), Served s 0x0207 r ∧ (s.partAt (r.f 0 1)).state ≠ .none) ∧
    (∃ (s : State) (r : Req), Served s 0x0207 r ∧ (s.partAt (r.f 0 1)).state = .none) ∧
    (∃ (s : State) (r : Req), Served s 0x0301 r) ∧
    (∃ (s : State) (r : Req), Served s 0x0302 r) ∧
    (∃ (s : State) (r : Req), Served s 0x0403 r) ∧
    (∃ (s : State) (r : Req), Served s 0x0404 r) ∧
    (∃ (s : State) (r : Req), Served s 0x0502 r) ∧
    (∃ (s : State) (r : Req), Served s 0x0602 r) ∧
    (∃ (s : State) (r : Req), Served s 0x0801 r ∧ r.data = false) ∧
    (∃ (s : State) (r : Req), Served s 0x0801 r ∧ r.data = true) ∧
    (∃ (s : State) (r : Req), Served s 0x0901 r) ∧
    (∃ (s : State) (r : Req), Served s 0x0902 r ∧ s.boot.flashUsable = true ∧ r.data = false) ∧
    (∃ (s : State) (r : Req), Served s 0x0902 r ∧ s.boot.flashUsable = true ∧ r.data = true) ∧
    (∃ (s : State) (r : Req), let c := decide (r.f 1 1 = 1); let one := s.copyDetail .stage1 c; let e := r.f 0 1; Served s 0x0905 r ∧
      s.boot.flashUsable = true ∧ e = 0 ∧ one ≠ 0) ∧
    (∃ (s : State) (r : Req), let c := decide (r.f 1 1 = 1); let one := s.copyDetail .stage1 c; let e := r.f 0 1; Served s 0x0905 r ∧
      s.boot.flashUsable = true ∧ (e ≠ 0 ∨ one = 0)) ∧
    (∃ (s : State) (r : Req), Served s 0x0902 r ∧ s.boot.flashUsable = false ∧ r.data = false) ∧
    (∃ (s : State) (r : Req), Served s 0x0905 r ∧ s.boot.flashUsable = false) :=
  ⟨⟨up, req [], served (by decide +kernel)⟩,
   ⟨up, req [], served (by decide +kernel)⟩,
   ⟨up, req [], served (by decide +kernel)⟩,
   ⟨up, req [], served (by decide +kernel)⟩,
   ⟨(up).updPart 15 fun x => { x with state := .stopped }, req [15, 0, 0, 0], served (by decide +kernel), by decide +kernel⟩,
   ⟨up, req [15, 0, 0, 0], served (by decide +kernel), by decide +kernel⟩,
   ⟨up, req [], served (by decide +kernel)⟩,
   ⟨up, req [], served (by decide +kernel)⟩,
   ⟨up, req [], served (by decide +kernel)⟩,
   ⟨up, req [], served (by decide +kernel)⟩,
   ⟨up, req [1, 0, 0, 0], served (by decide +kernel)⟩,
   ⟨up, req [63, 0, 0, 0], served (by decide +kernel)⟩,
   ⟨up, req [0, 0, 0, 0, 7, 0, 0, 0], served (by decide +kernel), by decide +kernel⟩,
   ⟨up, reqB [0, 0, 0, 0, 1, 0, 0, 0] (List.replicate 32 0), served (by decide +kernel), by decide +kernel⟩,
   ⟨up, req [], served (by decide +kernel)⟩,
   ⟨{ up with boot := { up.boot with flashUsable := true } }, req [0xFC, 0xFF, 0xFF, 3, 4, 0, 0, 0], served (by decide +kernel),
      by decide +kernel⟩,
   ⟨{ up with boot := { up.boot with flashUsable := true } }, reqB [0xFC, 0xFF, 0xFF, 3, 4, 0, 0, 0] (List.replicate 4 0), served
      (by decide +kernel), by decide +kernel⟩,
   ⟨{ up with boot := { up.boot with flashUsable := true } }, req [0, 1, 0, 0], served (by decide +kernel), by decide +kernel⟩,
   ⟨{ up with boot := { up.boot with flashUsable := true } }, req [4, 1, 0, 0], served (by decide +kernel), by decide +kernel⟩,
   ⟨{ up with boot := { up.boot with flashUsable := false } }, req [0xFC, 0xFF, 0xFF, 3, 4, 0, 0, 0], served (by decide +kernel),
      by decide +kernel⟩,
   ⟨{ up with boot := { up.boot with flashUsable := false } }, req [4, 1, 0, 0], served (by decide +kernel), by decide +kernel⟩⟩

theorem witness_StateSetIsJudgedAndStarts :
    (∃ p, ∃ (s : State) (r : Req), let a := s.accepted 0x0101 r; let f := s.entryOf 0x0101 r false; p ∈ damemRows ∧ p.1 = 0x0101 ∧
      Accepted s 0x0101 r ∧ a.heldMode = false ∧ a.owns 0x0101 r = true ∧ a.argFault f = none ∧ s.dev.trans = true ∧
      (a.damem.inflight.find? fun g => match g.wait with | .state _ => true | _ => false) = none) ∧
    (∃ p, ∃ (s : State) (r : Req), let a := s.accepted 0x0101 r; let f := s.entryOf 0x0101 r false; let t := stateOfTarget (r.f 0 1); p ∈
      damemRows ∧ p.1 = 0x0101 ∧ Accepted s 0x0101 r ∧ a.heldMode = false ∧ a.owns 0x0101 r = true ∧ a.argFault f = none ∧ s.dev.trans =
      false ∧ t = s.dev.state) ∧
    (∃ p, ∃ (s : State) (r : Req), let a := s.accepted 0x0101 r; let f := s.entryOf 0x0101 r false; let t := stateOfTarget (r.f 0 1); p ∈
      damemRows ∧ p.1 = 0x0101 ∧ Accepted s 0x0101 r ∧ a.heldMode = false ∧ a.owns 0x0101 r = true ∧ a.argFault f = none ∧ s.dev.trans =
      false ∧ t ≠ s.dev.state ∧ stateListed s.dev.state t = false) ∧
    (∃ p, ∃ (s : State) (r : Req), let a := s.accepted 0x0101 r; let f := s.entryOf 0x0101 r false; let t := stateOfTarget (r.f 0 1); p ∈
      damemRows ∧ p.1 = 0x0101 ∧ Accepted s 0x0101 r ∧ a.heldMode = false ∧ a.owns 0x0101 r = true ∧ a.argFault f = none ∧ s.dev.trans =
      false ∧ a.blockers f = [] ∧ s.dev.state = .standby ∧ t = .dormant ∧ s.stew.role ≠ Role.none) ∧
    (∃ p, ∃ (s : State) (r : Req), let a := s.accepted 0x0101 r; let f := s.entryOf 0x0101 r false; let t := stateOfTarget (r.f 0 1); p ∈
      damemRows ∧ p.1 = 0x0101 ∧ Accepted s 0x0101 r ∧ a.heldMode = false ∧ a.owns 0x0101 r = true ∧ a.argFault f = none ∧ s.dev.trans =
      false ∧ a.blockers f = [] ∧ s.dev.state = .safe ∧ t = .standby ∧ s.causeHolds = true) ∧
    (∃ (s : State) (r : Req), Served s 0x0101 r ∧ r.f 0 1 = 6 ∧ s.dev.state ≠ .dormant) ∧
    (∃ (s : State) (r : Req), Served s 0x0101 r ∧ r.f 0 1 = 1 ∧ s.stew.role = Role.none ∧ (s.dev.state = .standby ∨ s.dev.state = .safe)) ∧
    (∃ (s : State) (r : Req), Served s 0x0101 r ∧ r.f 0 1 = 2 ∧ s.dev.state = .dormant) ∧
    (∃ (s : State) (r : Req), Served s 0x0101 r ∧ r.f 0 1 = 2 ∧ s.dev.state = .anneal) ∧
    (∃ (s : State) (r : Req), Served s 0x0101 r ∧ r.f 0 1 = 2 ∧ s.dev.state = .safe ∧ s.causeHolds = false) ∧
    (∃ (s : State) (r : Req), Served s 0x0101 r ∧ r.f 0 1 = 3 ∧ s.dev.state = .standby) ∧
    (∃ p, ∃ (s : State) (r : Req) (g : InFlight), let a := s.accepted 0x0101 r; let f := s.entryOf 0x0101 r false; p ∈ damemRows ∧ p.1 =
      0x0101 ∧ Accepted s 0x0101 r ∧ a.heldMode = false ∧ a.owns 0x0101 r = true ∧ a.argFault f = none ∧ s.dev.trans = true ∧
      (a.damem.inflight.find? fun g => match g.wait with | .state _ => true | _ => false) = some g) ∧
    (∃ (s : State) (r : Req), Served s 0x0101 r ∧ r.f 0 1 = 6 ∧ s.dev.state = .dormant) :=
  ⟨⟨(0x0101, Instr.stateSetSafe), { up with dev := { up.dev with trans := true } }, req [6, 0, 0, 0], by simp [damemRows],
      by decide +kernel, accepted (by decide +kernel), by decide +kernel⟩,
   ⟨(0x0101, Instr.stateSetSafe), { up with dev := { up.dev with trans := false, state := .anneal } }, req [3, 0, 0, 0], by simp
      [damemRows], by decide +kernel, accepted (by decide +kernel), by decide +kernel⟩,
   ⟨(0x0101, Instr.stateSetSafe), { up with dev := { up.dev with trans := false } }, req [1, 0, 0, 0], by simp [damemRows],
      by decide +kernel, accepted (by decide +kernel), by decide +kernel⟩,
   ⟨(0x0101, Instr.stateSetSafe),
      { up with dev := { up.dev with trans := false, state := .standby }, stew := { up.stew with role := .standby } }, req [1, 0, 0, 0],
      by simp [damemRows], by decide +kernel, accepted (by decide +kernel), by decide +kernel⟩,
   ⟨(0x0101, Instr.stateSetSafe),
      { up with dev := { up.dev with trans := false, state := .safe }, clocks := { up.clocks with refclkLock := false } }, req [2, 0, 0,
      0], by simp [damemRows], by decide +kernel, accepted (by decide +kernel), by decide +kernel⟩,
   ⟨up, req [6, 0, 0, 0], served (by decide +kernel), by decide +kernel⟩,
   ⟨{ up with stew := { up.stew with role := Role.none }, dev := { up.dev with state := .standby } }, req [1, 0, 0, 0], served
      (by decide +kernel), by decide +kernel⟩,
   ⟨{ up with dev := { up.dev with state := .dormant } }, req [2, 0, 0, 0], served (by decide +kernel), by decide +kernel⟩,
   ⟨{ up with dev := { up.dev with state := .anneal } }, req [2, 0, 0, 0], served (by decide +kernel), by decide +kernel⟩,
   ⟨{ up with dev := { up.dev with state := .safe } }, req [2, 0, 0, 0], served (by decide +kernel), by decide +kernel⟩,
   ⟨{ up with dev := { up.dev with state := .standby } }, req [3, 0, 0, 0], served (by decide +kernel), by decide +kernel⟩,
   ⟨(0x0101, Instr.stateSetSafe),
      { up with dev := { up.dev with trans := true }, damem := { up.damem with inflight := [{ up.entryOf 0x0101 (req [6, 0, 0, 0]) false with wait := .state .safe }] } },
      req [6, 0, 0, 0], { up.entryOf 0x0101 (req [6, 0, 0, 0]) false with wait := .state .safe }, by simp [damemRows], by decide +kernel,
      accepted (by decide +kernel), by decide +kernel⟩,
   ⟨{ up with dev := { up.dev with state := .dormant } }, req [6, 0, 0, 0], served (by decide +kernel), by decide +kernel⟩⟩

theorem witness_OwnerScorerAndStrandRequests :
    (∃ (s : State) (r : Req), Served s 0x0104 r ∧ r.f 0 8 ≠ s.otp.devId) ∧
    ({ up with hmk := { up.hmk with role := 0x10000000 } }.tokenFault (req (List.replicate 208 0)) = none → ∃ (s : State) (r : Req),
      Served s 0x0104 r ∧ s.tokenFault r = none ∧ fieldOf s.hmk.role 29 28 = 1 ∧ s.otp.debugPerm = false) ∧
    ({ up with otp := { up.otp with debugPerm := true } }.tokenFault (req (List.replicate 208 0)) = none → ∃ (s : State) (r : Req),
      Served s 0x0104 r ∧ s.tokenFault r = none ∧ (fieldOf s.hmk.role 29 28 ≠ 1 ∨ s.otp.debugPerm = true)) ∧
    (∃ (s : State) (r : Req), ∃ t, Served s 0x0105 r ∧ s.clocks.lastSet = some t ∧ (s.now - t) * 1000 < 100 * 32768) ∧
    (∃ (s : State) (r : Req), Served s 0x0105 r ∧ (∀ t, s.clocks.lastSet = some t → 100 * 32768 ≤ (s.now - t) * 1000)) ∧
    (∃ (s : State) (r : Req), Served s 0x0303 r ∧ s.stew.role = Role.none) ∧
    (∃ (s : State) (r : Req), Served s 0x0303 r ∧ s.stew.role = Role.standby) ∧
    (∃ (s : State) (r : Req), ∃ d, Served s 0x0303 r ∧ s.stew.role = Role.primary ∧ s.givingUp = false ∧ s.stew.standby = some d) ∧
    (∃ (s : State) (r : Req), Served s 0x0304 r ∧ s.stew.role ≠ Role.primary) ∧
    (∃ (s : State) (r : Req), Served s 0x0304 r ∧ s.takesSupply = true ∧ s.supplyJudge (sfld r.body 0 4) = .accepted) ∧
    (∃ (s : State) (r : Req), Served s 0x0304 r ∧ s.takesSupply = true ∧ s.supplyJudge (sfld r.body 0 4) = .parent) ∧
    (∃ (s : State) (r : Req), Served s 0x0401 r ∧ r.f 0 1 = 1 ∧ s.wmk.en = true) ∧
    (∃ (s : State) (r : Req), Served s 0x0401 r ∧ r.f 0 1 = 0 ∧ s.wmk.en = false) ∧
    (∃ (s : State) (r : Req), Served s 0x0401 r ∧ r.f 0 1 = 1 ∧ s.wmk.en = false ∧ (s.dev.state = .anneal ∨ s.dev.state = .serving) ∧
      s.wmk.state = .off) ∧
    (∃ (s : State) (r : Req), Served s 0x0401 r ∧ r.f 0 1 = 0 ∧ s.wmk.en = true ∧ (∀ p, p < 16 → Table.at s.wmk.queue p [] = []) ∧
      s.wmk.flight ≠ []) ∧
    (∃ (s : State) (r : Req), Served s 0x0402 r ∧ r.f 1 1 = 0 ∧ (s.strandAt (r.f 0 1)).state = .up ∧ s.upTo (s.peerOf (r.f 0 1)) = [r.f 0
      1] ∧ s.viaTo (s.peerOf (r.f 0 1)) = none) ∧
    (∃ (s : State) (r : Req), Served s 0x0402 r ∧ r.f 1 1 = 0 ∧ r.f 0 1 < 64 ∧ (s.strandAt (r.f 0 1)).state = .off ∧ (s.strandAt (r.f 0
      1)).recon = none ∧ (s.strandAt (r.f 0 1)).trip = none) ∧
    (∃ (s : State) (r : Req), Served s 0x0402 r ∧ r.f 1 1 = 1 ∧ (s.strandAt (r.f 0 1)).state = .up) ∧
    (∃ (s : State) (r : Req), Served s 0x0402 r ∧ r.f 1 1 = 1 ∧ r.f 0 1 < 64 ∧ (s.strandAt (r.f 0 1)).state = .disabled ∧ s.meshLit =
      true ∧ s.pho.swept.getLsbD (r.f 0 1 / 4) = true) ∧
    (∃ (s : State) (r : Req), Served s 0x0303 r ∧ s.stew.role = Role.primary ∧ s.givingUp = false ∧ s.stew.standby = none) ∧
    (∃ (s : State) (r : Req), Served s 0x0303 r ∧ s.stew.role = Role.primary ∧ s.givingUp = true) ∧
    (∃ (s : State) (r : Req), Served s 0x0304 r ∧ s.stew.role = Role.primary ∧ s.givingUp = true) :=
  ⟨⟨up, req (1 :: List.replicate 207 0), served (by decide +kernel), by decide +kernel⟩,
   fun h => ⟨{ up with otp := { up.otp with debugPerm := false }, hmk := { up.hmk with role := 0x10000000 } }, req (List.replicate 208
      0), served (by decide +kernel), h, by decide +kernel⟩,
   fun h => ⟨{ up with otp := { up.otp with debugPerm := true } }, req (List.replicate 208 0), served (by decide +kernel), h,
      by decide +kernel⟩,
   ⟨{ up with clocks := { up.clocks with lastSet := some 0, uptime := 3276 } }, req (leBytes 4 757382400 ++ leBytes 4 999999999 ++
      leBytes 4 1000000), 0, served (by decide +kernel), by decide +kernel⟩,
   ⟨{ up with clocks := { up.clocks with lastSet := some 0, uptime := 3277 } }, req (leBytes 4 757382400 ++ leBytes 4 999999999 ++
      leBytes 4 1000000), served (by decide +kernel), fun t h => by have e : 0 = t := Option.some.inj h; subst e; decide +kernel⟩,
   ⟨{ up with stew := { up.stew with role := Role.none } }, req [], served (by decide +kernel), by decide +kernel⟩,
   ⟨{ up with stew := { up.stew with role := Role.standby } }, req [], served (by decide +kernel), by decide +kernel⟩,
   ⟨{ up with stew := { up.stew with role := Role.primary, standby := some 1 } }, req [], 1, served (by decide +kernel),
      by decide +kernel⟩,
   ⟨up, req [0, 0, 0, 0], served (by decide +kernel), by decide +kernel⟩,
   ⟨{ up with stew := { up.stew with role := Role.primary }, hmk := { up.hmk with cool := regWord [(22, 20), (12, 400), (0, 4095)] } },
      req (leBytes 4 2000), served (by decide +kernel), by decide +kernel⟩,
   ⟨({ up with stew := { up.stew with role := Role.primary } }).updSlot 8 fun x => { x with cfg := { parent := some 0 } }, req (leBytes
      4 2000), served (by decide +kernel), by decide +kernel⟩,
   ⟨{ up with wmk := { up.wmk with en := true } }, req [1, 0, 0, 0], served (by decide +kernel), by decide +kernel⟩,
   ⟨{ up with wmk := { up.wmk with en := false } }, req [0, 0, 0, 0], served (by decide +kernel), by decide +kernel⟩,
   ⟨{ up with wmk := { up.wmk with en := false, state := .off }, dev := { up.dev with state := .anneal } }, req [1, 0, 0, 0], served
      (by decide +kernel), by decide +kernel⟩,
   ⟨{ up with wmk := { up.wmk with en := true, flight := [{ part := 15, mould := 0, quarter := 0, slot := 0, ring := 0, subIndex := 0, number := 0, res := 0, desc := List.replicate 128 0, issuedAt := 0 }] } },
      req [0, 0, 0, 0], served (by decide +kernel), by decide +kernel⟩,
   ⟨up.updStrand 62 fun x => { x with state := .up }, req [62, 0, 0, 0], served (by decide +kernel), by decide +kernel⟩,
   ⟨up, req [63, 0, 0, 0], served (by decide +kernel), by decide +kernel⟩,
   ⟨up.updStrand 63 fun x => { x with state := .up }, req [63, 1, 0, 0], served (by decide +kernel), by decide +kernel⟩,
   ⟨({ up with pho := { up.pho with swept := 0x8000 } }).updStrand 63 fun x => { x with state := .disabled }, req [63, 1, 0, 0], served
      (by decide +kernel), by decide +kernel⟩,
   ⟨{ up with stew := { up.stew with role := Role.primary } }, req [], served (by decide +kernel), by decide +kernel⟩,
   ⟨{ up with stew := { up.stew with role := Role.primary, seq := .giveK1 false } }, req [], served (by decide +kernel),
      by decide +kernel⟩,
   ⟨{ up with stew := { up.stew with role := Role.primary, seq := .giveK1 false } }, req (leBytes 4 2000), served (by decide +kernel),
      by decide +kernel⟩⟩

set_option maxRecDepth 100000 in
theorem witness_LoopPlanishAndFabricRequests :
    (∃ (s : State) (r : Req), let n := r.f 0 1; let x := s.slotAt n; ∃ p, p ∈ damemRows ∧ p.1 = 0x0601 ∧ Served s 0x0601 r ∧ x.cfg.law =
      0) ∧
    (∃ (s : State) (r : Req), let n := r.f 0 1; let x := s.slotAt n; ∃ p, p ∈ damemRows ∧ p.1 = 0x0601 ∧ Served s 0x0601 r ∧ x.cfg.law ≠
      0 ∧ r.f 1 1 ≠ 2 ∧ x.swapPend = true) ∧
    (∃ (s : State) (r : Req), let n := r.f 0 1; let x := s.slotAt n; Served s 0x0601 r ∧ x.cfg.law ≠ 0 ∧ x.swapPend = false ∧ r.f 1 1 = 0
      ∧ x.bank = false) ∧
    (∃ (s : State) (r : Req), let n := r.f 0 1; let x := s.slotAt n; Served s 0x0601 r ∧ x.cfg.law ≠ 0 ∧ x.swapPend = false ∧ r.f 1 1 = 0
      ∧ x.bank = true) ∧
    (∃ (s : State) (r : Req), let n := r.f 0 1; let x := s.slotAt n; Served s 0x0601 r ∧ x.cfg.law ≠ 0 ∧ x.swapPend = false ∧ r.f 1 1 = 1
      ∧ bankGood x.inactive = true ∧ hdrIn x.inactive = x.cfg.nin ∧ hdrOut x.inactive = x.cfg.nout) ∧
    (∃ (s : State) (r : Req), let n := r.f 0 1; let x := s.slotAt n; Served s 0x0601 r ∧ x.cfg.law ≠ 0 ∧ x.swapPend = false ∧ r.f 1 1 = 1
      ∧ bankGood x.inactive = false) ∧
    (∃ (s : State) (r : Req), let n := r.f 0 1; let x := s.slotAt n; Served s 0x0601 r ∧ x.cfg.law ≠ 0 ∧ r.f 1 1 = 2 ∧ x.bank = false) ∧
    (∃ (s : State) (r : Req), let n := r.f 0 1; let x := s.slotAt n; Served s 0x0601 r ∧ x.cfg.law ≠ 0 ∧ r.f 1 1 = 2 ∧ x.bank = true) ∧
    (∃ (s : State) (r : Req), Served s 0x0501 r ∧ s.itemUsed (r.f 0 2) (r.f 2 2) = true) ∧
    (∃ (s : State) (r : Req), Served s 0x0501 r ∧ s.itemUsed (r.f 0 2) (r.f 2 2) = false) ∧
    (flashed.imageDetail .sector (imageOf (bytesAt (reqB [0, 0, 0, 0] sectorBulk).bulkIn 0 (reqB [0, 0, 0, 0] sectorBulk).dataLen)) = 0 →
      flashed.imageInEnvelope { sector := 0, carry := false, capCount := 0, globalId := 0, carryId := 0, crc := 0, payload := [] } = true
      → flashed.secImageFits 0 { sector := 0, carry := false, capCount := 0, globalId := 0, carryId := 0, crc := 0, payload := [] } = true
      → ∃ (s : State) (r : Req), let n := r.f 0 1; let im := imageOf (bytesAt r.bulkIn 0 r.dataLen); let off : Prop := s.dev.state =
      .dormant ∨ s.dev.state = .safe ∨ s.dev.state = .held; ∃ i, Served s 0x0701 r ∧ r.f 1 1 = 0 ∧ secEntryAt im.body 0 = some i ∧
      s.imageDetail .sector im = 0 ∧ s.imageInEnvelope i = true ∧ s.secImageFits n i = true ∧ ¬ off) ∧
    (∃ (s : State) (r : Req), let im := imageOf (bytesAt r.bulkIn 0 r.dataLen); ∃ (i : _) (d : _), Served s 0x0701 r ∧ r.f 1 1 = 0 ∧
      secEntryAt im.body 0 = some i ∧ s.imageDetail .sector im = d ∧ d ≠ 0) ∧
    (∃ (s : State) (r : Req), let im := imageOf (bytesAt r.bulkIn 0 r.dataLen); Served s 0x0701 r ∧ r.f 1 1 = 0 ∧ secEntryAt im.body 0 =
      none) ∧
    (flashed.imageDetail .sector (imageOf (bytesAt (reqB [0, 0, 0, 0] sectorBulk).bulkIn 0 (reqB [0, 0, 0, 0] sectorBulk).dataLen)) = 0 →
      flashed.imageInEnvelope { sector := 0, carry := false, capCount := 0, globalId := 0, carryId := 0, crc := 0, payload := [] } = true
      → flashed.secImageFits 0 { sector := 0, carry := false, capCount := 0, globalId := 0, carryId := 0, crc := 0, payload := [] } =
      false → ∃ (s : State) (r : Req), let n := r.f 0 1; let im := imageOf (bytesAt r.bulkIn 0 r.dataLen); ∃ i, Served s 0x0701 r ∧ r.f 1
      1 = 0 ∧ secEntryAt im.body 0 = some i ∧ s.imageDetail .sector im = 0 ∧ s.imageInEnvelope i = true ∧ s.secImageFits n i = false) ∧
    (flashedSafe.imageDetail .sector (imageOf (bytesAt (reqB [0, 0, 0, 0] sectorBulk).bulkIn 0 (reqB [0, 0, 0, 0] sectorBulk).dataLen)) =
      0 → flashedSafe.imageInEnvelope { sector := 0, carry := false, capCount := 0, globalId := 0, carryId := 0, crc := 0, payload := [] }
      = true → flashedSafe.secImageFits 0
      { sector := 0, carry := false, capCount := 0, globalId := 0, carryId := 0, crc := 0, payload := [] } = true → ∃ (s : State) (r :
      Req), let n := r.f 0 1; let im := imageOf (bytesAt r.bulkIn 0 r.dataLen); let off : Prop := s.dev.state = .dormant ∨ s.dev.state =
      .safe ∨ s.dev.state = .held; ∃ i, Served s 0x0701 r ∧ r.f 1 1 = 0 ∧ secEntryAt im.body 0 = some i ∧ s.imageDetail .sector im = 0 ∧
      s.imageInEnvelope i = true ∧ s.secImageFits n i = true ∧ off) ∧
    (flashed.imageDetail .sector (imageOf (bytesAt (reqB [0, 0, 0, 0] sectorBulk).bulkIn 0 (reqB [0, 0, 0, 0] sectorBulk).dataLen)) = 0 →
      flashed.imageInEnvelope { sector := 0, carry := false, capCount := 0, globalId := 0, carryId := 0, crc := 0, payload := [] } = false
      → ∃ (s : State) (r : Req), let im := imageOf (bytesAt r.bulkIn 0 r.dataLen); ∃ i, Served s 0x0701 r ∧ r.f 1 1 = 0 ∧ secEntryAt
      im.body 0 = some i ∧ s.imageDetail .sector im = 0 ∧ s.imageInEnvelope i = false) ∧
    (∃ (s : State) (r : Req), let n := r.f 0 1; let x := s.sectorAt n; let off : Prop := s.dev.state = .dormant ∨ s.dev.state = .safe ∨
      s.dev.state = .held; Served s 0x0701 r ∧ r.f 1 1 = 1 ∧ ¬ off ∧ x.state = .running ∧ n < 16) ∧
    (∃ (s : State) (r : Req), let n := r.f 0 1; let x := s.sectorAt n; let off : Prop := s.dev.state = .dormant ∨ s.dev.state = .safe ∨
      s.dev.state = .held; Served s 0x0701 r ∧ r.f 1 1 = 1 ∧ ¬ off ∧ (x.state = .disabled ∨ x.state = .empty)) ∧
    (∃ (s : State) (r : Req), let n := r.f 0 1; let x := s.sectorAt n; let off : Prop := s.dev.state = .dormant ∨ s.dev.state = .safe ∨
      s.dev.state = .held; Served s 0x0701 r ∧ r.f 1 1 = 2 ∧ ¬ off ∧ x.state = .disabled) ∧
    (∃ (s : State) (r : Req), let n := r.f 0 1; let x := s.sectorAt n; let off : Prop := s.dev.state = .dormant ∨ s.dev.state = .safe ∨
      s.dev.state = .held; Served s 0x0701 r ∧ r.f 1 1 = 2 ∧ ¬ off ∧ x.state = .running) ∧
    (∃ (s : State) (r : Req), let n := r.f 0 1; let x := s.sectorAt n; let off : Prop := s.dev.state = .dormant ∨ s.dev.state = .safe ∨
      s.dev.state = .held; Served s 0x0701 r ∧ r.f 1 1 = 2 ∧ (x.state = .empty ∨ off)) ∧
    (∃ (s : State) (r : Req), let off : Prop := s.dev.state = .dormant ∨ s.dev.state = .safe ∨ s.dev.state = .held; Served s 0x0701 r ∧
      r.f 1 1 = 1 ∧ off) :=
  ⟨⟨up.updSlot 63 fun x => { x with cfg := {} }, req [63, 1, 0, 0, 0, 0, 0, 0], (0x0601, Instr.loopCoefSwap), by simp [damemRows],
      by decide +kernel, served (by decide +kernel), by decide +kernel⟩,
   ⟨up.updSlot 63 fun x => { x with cfg := { law := 1 }, swapPend := true }, req [63, 1, 0, 0, 0, 0, 0, 0], (0x0601,
      Instr.loopCoefSwap), by simp [damemRows], by decide +kernel, served (by decide +kernel), by decide +kernel⟩,
   ⟨up.updSlot 63 fun x => { x with cfg := { law := 1 } }, req [63, 0, 255, 0, 1, 0, 0, 0, 0, 0, 0, 0], served (by decide +kernel),
      by decide +kernel⟩,
   ⟨up.updSlot 63 fun x => { x with cfg := { law := 1 }, bank := true }, req [63, 0, 255, 0, 1, 0, 0, 0, 0, 0, 0, 0], served
      (by decide +kernel), by decide +kernel⟩,
   ⟨up.updSlot 63 fun x => { x with cfg := { law := 1 }, bankB := Table.put x.bankB 0 0x11110000 }, req [63, 1, 0, 0, 0, 0, 0, 0],
      served (by decide +kernel), by decide +kernel⟩,
   ⟨up.updSlot 63 fun x => { x with cfg := { law := 1 } }, req [63, 1, 0, 0, 0, 0, 0, 0], served (by decide +kernel),
      by decide +kernel⟩,
   ⟨up.updSlot 63 fun x => { x with cfg := { law := 1 } }, req [63, 2, 255, 0, 1, 0, 0, 0, 0, 0, 0, 0], served (by decide +kernel),
      by decide +kernel⟩,
   ⟨up.updSlot 63 fun x => { x with cfg := { law := 1 }, bank := true }, req [63, 2, 255, 0, 1, 0, 0, 0, 0, 0, 0, 0], served
      (by decide +kernel), by decide +kernel⟩,
   ⟨up.updLaser 23 fun x => { x with lit := true }, req [0x30, 0, 23, 0], served (by decide +kernel), by decide +kernel⟩,
   ⟨up, req [0x10, 0, 3, 0], served (by decide +kernel), by decide +kernel⟩,
   fun h h2 h3 => ⟨flashed, reqB [0, 0, 0, 0] sectorBulk,
      { sector := 0, carry := false, capCount := 0, globalId := 0, carryId := 0, crc := 0, payload := [] }, servedAlone
      (by decide +kernel), by decide +kernel, by decide +kernel, h, h2, h3, by decide +kernel⟩,
   ⟨up, reqB [0, 0, 0, 0] (List.replicate 64 0),
      { sector := 0, carry := false, capCount := 0, globalId := 0, carryId := 0, crc := 0, payload := [] }, 1, served (by decide +kernel),
      by decide +kernel⟩,
   ⟨up, reqB [0, 0, 0, 0] (image 0x13 2 (List.replicate 12 0 ++ [255] ++ List.replicate 19 0)), servedAlone (by decide +kernel),
      by decide +kernel⟩,
   fun h h2 h3 => ⟨flashed, reqB [0, 0, 0, 0] sectorBulk,
      { sector := 0, carry := false, capCount := 0, globalId := 0, carryId := 0, crc := 0, payload := [] }, servedAlone
      (by decide +kernel), by decide +kernel, by decide +kernel, h, h2, h3⟩,
   fun h h2 h3 => ⟨flashedSafe, reqB [0, 0, 0, 0] sectorBulk,
      { sector := 0, carry := false, capCount := 0, globalId := 0, carryId := 0, crc := 0, payload := [] }, servedAlone
      (by decide +kernel), by decide +kernel, by decide +kernel, h, h2, h3, by decide +kernel⟩,
   fun h h2 => ⟨flashed, reqB [0, 0, 0, 0] sectorBulk,
      { sector := 0, carry := false, capCount := 0, globalId := 0, carryId := 0, crc := 0, payload := [] }, servedAlone
      (by decide +kernel), by decide +kernel, by decide +kernel, h, h2⟩,
   ⟨up.updSector 15 fun x => { x with state := .running }, req [15, 1, 0, 0], served (by decide +kernel), by decide +kernel⟩,
   ⟨up.updSector 15 fun x => { x with state := .disabled }, req [15, 1, 0, 0], served (by decide +kernel), by decide +kernel⟩,
   ⟨up.updSector 15 fun x => { x with state := .disabled }, req [15, 2, 0, 0], served (by decide +kernel), by decide +kernel⟩,
   ⟨up.updSector 15 fun x => { x with state := .running }, req [15, 2, 0, 0], served (by decide +kernel), by decide +kernel⟩,
   ⟨up, req [15, 2, 0, 0], served (by decide +kernel), by decide +kernel⟩,
   ⟨{ up with dev := { up.dev with state := .safe } }, req [15, 1, 0, 0], served (by decide +kernel), by decide +kernel⟩⟩

theorem witness_PartitionsLiveAndStop :
    (∃ (s : State) (r : Req), let p := r.f 0 1; let x := s.partAt p; Judged s 0x0201 r ∧ x.state ≠ .none) ∧
    (∃ (s : State) (r : Req), let p := r.f 0 1; let x := s.partAt p; ∃ d, Served s 0x0201 r ∧ x.state = .none ∧ s.grantLack r false =
      some d) ∧
    (∃ (s : State) (r : Req), let p := r.f 0 1; let x := s.partAt p; Served s 0x0201 r ∧ x.state = .none ∧ s.grantLack r false = none) ∧
    (∃ (s : State) (r : Req), let p := r.f 0 1; let x := s.partAt p; Judged s 0x0202 r ∧ (x.state = .none ∨ s.partBusy p = true)) ∧
    (∃ (s : State) (r : Req), let p := r.f 0 1; let x := s.partAt p; ∃ d, Served s 0x0202 r ∧ x.state ≠ .none ∧ s.partBusy p = false ∧
      s.grantLack r (x.state != .stopped) = some d) ∧
    (∃ (s : State) (r : Req), let p := r.f 0 1; let x := s.partAt p; Served s 0x0202 r ∧ x.state ≠ .none ∧ s.partBusy p = false ∧
      s.grantLack r (x.state != .stopped) = none) ∧
    (∃ (s : State) (r : Req), let p := r.f 0 1; let x := s.partAt p; Judged s 0x0203 r ∧ x.state ≠ .stopped) ∧
    (∃ (s : State) (r : Req), let p := r.f 0 1; let x := s.partAt p; Served s 0x0203 r ∧ x.state = .stopped) ∧
    (∃ (s : State) (r : Req), let p := r.f 0 1; let x := s.partAt p; Judged s 0x0204 r ∧ (x.state = .started ∨ x.state = .starting)) ∧
    (∃ (s : State) (r : Req), let p := r.f 0 1; let x := s.partAt p; Judged s 0x0204 r ∧ x.state = .none) ∧
    (∃ (s : State) (r : Req), let p := r.f 0 1; let x := s.partAt p; Served s 0x0204 r ∧ x.state = .draining) ∧
    (∃ (s : State) (r : Req), let p := r.f 0 1; let x := s.partAt p; Served s 0x0204 r ∧ x.state = .stopped ∧ (x.image = none ∨ x.faulted
      = true ∨ s.sriov.vfEnable = false ∨ s.sriov.numVfs < p + 1 ∨ s.dev.state = .safe ∨ s.dev.episode.isSome = true)) ∧
    (∃ (s : State) (r : Req), let p := r.f 0 1; let x := s.partAt p; Served s 0x0204 r ∧ x.state = .stopped ∧ x.image ≠ none ∧ x.faulted
      = false ∧ s.sriov.vfEnable = true ∧ p < s.sriov.numVfs ∧ s.dev.state = .serving ∧ s.dev.trans = false ∧ s.dev.startsWaiting = [] ∧
      s.dev.episode = none ∧ s.thm.seed = none ∧ s.rampMode = false ∧ p < 16) ∧
    (∃ (s : State) (r : Req), let p := r.f 0 1; let x := s.partAt p; Served s 0x0204 r ∧ x.state = .stopped ∧ x.image ≠ none ∧ x.faulted
      = false ∧ s.sriov.vfEnable = true ∧ p < s.sriov.numVfs ∧ s.dev.state = .serving ∧ s.dev.trans = false ∧ s.dev.startsWaiting = [] ∧
      s.dev.episode = none ∧ s.thm.seed = none ∧ s.rampMode = true ∧ p < 16) ∧
    (∃ (s : State) (r : Req), let p := r.f 0 1; let x := s.partAt p; Served s 0x0204 r ∧ x.state = .stopped ∧ x.image ≠ none ∧ x.faulted
      = false ∧ s.sriov.vfEnable = true ∧ p < s.sriov.numVfs ∧ s.dev.state = .anneal ∧ s.dev.trans = false ∧ s.dev.startsWaiting = [] ∧
      s.dev.episode = none ∧ s.thm.seed = none ∧ s.rampMode = false ∧ p < 16) ∧
    (∃ (s : State) (r : Req), let p := r.f 0 1; let x := s.partAt p; ∃ k : Instr, k ∈ [.partStopDrain r, .partStopAbort r] ∧ Judged s
      0x0205 r ∧ x.state = .none) ∧
    (∃ (s : State) (r : Req), let p := r.f 0 1; let x := s.partAt p; ∃ k, k ∈ ([.partStopDrain r, .partStopAbort r] : List Instr) ∧
      Served s 0x0205 r ∧ x.state = .stopped) ∧
    (∃ (s : State) (r : Req), let p := r.f 0 1; let x := s.partAt p; Served s 0x0205 r ∧ r.f 1 1 = 0 ∧ x.live = true ∧ s.partIdle p =
      false ∧ p < 16) ∧
    (∃ (s : State) (r : Req), let p := r.f 0 1; let x := s.partAt p; Served s 0x0205 r ∧ r.f 1 1 = 1 ∧ x.live = true) ∧
    (∃ (s : State) (r : Req), let p := r.f 0 1; let x := s.partAt p; Judged s 0x0206 r ∧ x.state = .none) ∧
    (∃ (s : State) (r : Req), let p := r.f 0 1; let x := s.partAt p; Served s 0x0206 r ∧ x.state ≠ .none) :=
  ⟨⟨up.updPart 15 fun x => { x with state := .stopped }, req [15, 1, 1, 1, 1, 1, 1, 1, 7, 0, 0, 0, 100, 0, 0, 0], judged
      (by decide +kernel), by decide +kernel⟩,
   ⟨{ up with mould := Vector.replicate 16 { state := .retired } }, req [15, 1, 1, 1, 1, 1, 1, 1, 7, 0, 0, 0, 100, 0, 0, 0], 1, served
      (by decide +kernel), by decide +kernel⟩,
   ⟨up, req [15, 1, 1, 1, 1, 1, 1, 1, 7, 0, 0, 0, 100, 0, 0, 0], served (by decide +kernel), by decide +kernel⟩,
   ⟨up.updPart 15 fun x => { x with state := .draining }, req [15, 1, 1, 1, 1, 1, 1, 1, 7, 0, 0, 0, 100, 0, 0, 0], judged
      (by decide +kernel), by decide +kernel⟩,
   ⟨{ (up.updPart 15 fun x => { x with state := .stopped }) with mould := Vector.replicate 16 { state := .retired } }, req [15, 1, 1,
      1, 1, 1, 1, 1, 7, 0, 0, 0, 100, 0, 0, 0], 1, served (by decide +kernel), by decide +kernel⟩,
   ⟨up.updPart 15 fun x => { x with state := .started }, req [15, 1, 1, 1, 1, 1, 1, 1, 7, 0, 0, 0, 100, 0, 0, 0], served
      (by decide +kernel), by decide +kernel⟩,
   ⟨up.updPart 15 fun x => { x with state := .started }, req [15, 0, 0, 0], judged (by decide +kernel), by decide +kernel⟩,
   ⟨up.updPart 15 fun x => { x with state := .stopped }, req [15, 0, 0, 0], served (by decide +kernel), by decide +kernel⟩,
   ⟨up.updPart 15 fun x => { x with state := .starting }, req [15, 0, 0, 0], judged (by decide +kernel), by decide +kernel⟩,
   ⟨up, req [15, 0, 0, 0], judged (by decide +kernel), by decide +kernel⟩,
   ⟨up.updPart 15 fun x => { x with state := .draining }, req [15, 0, 0, 0], served (by decide +kernel), by decide +kernel⟩,
   ⟨up.updPart 15 fun x => { x with state := .stopped }, req [15, 0, 0, 0], served (by decide +kernel), by decide +kernel⟩,
   ⟨({ up with dev := { up.dev with state := .serving } }).updPart 15 fun x =>
      { x with state := .stopped, image := some { granule := 0, entries := [0], code := List.replicate 64 0, total := 128 } }, req [15, 0,
      0, 0], served (by decide +kernel), by decide +kernel⟩,
   ⟨({ up with hmk := { up.hmk with role := 0x40000000 }, dev := { up.dev with state := .serving } }).updPart 15 fun x =>
      { x with state := .stopped, image := some { granule := 0, entries := [0], code := List.replicate 64 0, total := 128 } }, req [15, 0,
      0, 0], served (by decide +kernel), by decide +kernel⟩,
   ⟨up.updPart 15 fun x =>
      { x with state := .stopped, image := some { granule := 0, entries := [0], code := List.replicate 64 0, total := 128 } }, req [15, 0,
      0, 0], served (by decide +kernel), by decide +kernel⟩,
   ⟨up, req [15, 0, 0, 0], (.partStopDrain (req [15, 0, 0, 0])), by decide +kernel, judged (by decide +kernel), by decide +kernel⟩,
   ⟨up.updPart 15 fun x => { x with state := .stopped }, req [15, 0, 0, 0], (.partStopDrain (req [15, 0, 0, 0])), by decide +kernel,
      served (by decide +kernel), by decide +kernel⟩,
   ⟨(up.updPart 15 fun x => { x with state := .started, rings := [63] }).updRing 63 fun x =>
      { x with sheets := [parseSheet [] .nop 0 0] }, req [15, 0, 0, 0], served (by decide +kernel), by decide +kernel⟩,
   ⟨up.updPart 15 fun x => { x with state := .draining }, req [15, 1, 0, 0], served (by decide +kernel), by decide +kernel⟩,
   ⟨up, req [15, 0, 0, 0], judged (by decide +kernel), by decide +kernel⟩,
   ⟨up.updPart 15 fun x => { x with state := .started }, req [15, 0, 0, 0], served (by decide +kernel), by decide +kernel⟩⟩

theorem witness_ImagesRingsAndFlashRequests :
    (∃ (s : State) (r : Req), let b := bytesAt r.bulkIn 0 r.dataLen; ∃ d, Served s 0x0208 r ∧ imageFault b r.dataLen = some d) ∧
    (∃ (s : State) (r : Req), let p := r.f 0 1; let x := s.partAt p; Judged s 0x0208 r ∧ x.state ≠ .stopped) ∧
    (∃ (s : State) (r : Req), let p := r.f 0 1; let x := s.partAt p; let b := bytesAt r.bulkIn 0 r.dataLen; Served s 0x0208 r ∧
      imageFault b r.dataLen = none ∧ x.granules = []) ∧
    (∃ (s : State) (r : Req), let p := r.f 0 1; let x := s.partAt p; let b := bytesAt r.bulkIn 0 r.dataLen; ∃ g, Served s 0x0208 r ∧
      imageFault b r.dataLen = none ∧ x.granules.max? = some g ∧ p < 16) ∧
    (∃ (s : State) (r : Req), let p := r.f 0 1; let x := s.partAt p; Judged s 0x0209 r ∧ (x.state = .none ∨ s.partBusy p = true)) ∧
    (∃ (s : State) (r : Req), let p := r.f 0 1; let x := s.partAt p; Judged s 0x020A r ∧ (x.state = .none ∨ s.partBusy p = true)) ∧
    (∃ (s : State) (r : Req), let n := r.f 1 1; Served s 0x0209 r ∧ (s.ringAt n).setup = true) ∧
    (∃ (s : State) (r : Req), let n := r.f 1 1; Served s 0x0209 r ∧ (s.ringAt n).setup = false) ∧
    (∃ (s : State) (r : Req), let p := r.f 0 1; let n := r.f 1 1; let x := s.partAt p; Served s 0x020A r ∧ x.state ≠ .none ∧ s.partBusy p
      = false ∧ (x.state = .stopped ∨ (s.ringAt n).disabled = true ∨ (s.ringAt n).sheets = []) ∧ (s.ringAt n).setup = true) ∧
    (∃ (s : State) (r : Req), let p := r.f 0 1; let n := r.f 1 1; let x := s.partAt p; Served s 0x020A r ∧ x.state ≠ .none ∧ s.partBusy p
      = false ∧ (x.state = .stopped ∨ (s.ringAt n).disabled = true ∨ (s.ringAt n).sheets = []) ∧ (s.ringAt n).setup = false) ∧
    (∃ (s : State) (r : Req), let p := r.f 0 1; let n := r.f 1 1; let x := s.partAt p; Served s 0x020A r ∧ x.state = .started ∧ (s.ringAt
      n).disabled = false ∧ (s.ringAt n).sheets ≠ []) ∧
    (∃ (s : State) (r : Req), Served s 0x0802 r ∧ r.f 4 1 = 0) ∧
    (∃ (s : State) (r : Req), Served s 0x0802 r ∧ r.f 4 1 = 1) ∧
    (∃ (s : State) (r : Req), let size := if r.f 4 1 = 1 then 0x10000 else 0x1000; Served s 0x0903 r ∧ (s.heldMode = true ∨
      s.touchesActive (r.f 0 4) (size * r.f 6 2) = false)) ∧
    (∃ (s : State) (r : Req), let size := if r.f 4 1 = 1 then 0x10000 else 0x1000; Served s 0x0903 r ∧ s.heldMode = false ∧
      s.touchesActive (r.f 0 4) (size * r.f 6 2) = true) ∧
    (∃ (s : State) (r : Req), Served s 0x0904 r ∧ (s.heldMode = true ∨ s.touchesActive (r.f 0 4) r.writeData.length = false) ∧ (∀ b ∈
      s.flashRead (r.f 0 4) r.writeData.length, b = 0xFF)) ∧
    (∃ (s : State) (r : Req), Served s 0x0904 r ∧ (∃ b ∈ s.flashRead (r.f 0 4) r.writeData.length, b ≠ 0xFF)) ∧
    (∃ (s : State) (r : Req), Served s 0x0906 r) ∧
    (∃ (s : State) (r : Req), Served s 0x0907 r ∧ (∀ k, k < 4 → Table.at s.otp.ownHash k none = none)) ∧
    (∃ (s : State) (r : Req), Served s 0x0907 r ∧ (∃ k, k < 4 ∧ Table.at s.otp.ownHash k none ≠ none)) ∧
    (∃ (s : State) (r : Req) (k : Instr), k ∈ [.recoverRetry r, .recoverFallback r] ∧ Served s 0x0908 r ∧ (s.heldMode = false ∨
      s.dev.trans = true ∨ s.boot.coldNeeded = true ∨ (s.dev.state = .safe ∧ s.causeHolds = true))) ∧
    (∃ (s : State) (r : Req), Served s 0x0908 r ∧ r.f 0 1 = 1 ∧ (reasonEntry s.boot.reason = none ∨ s.boot.dirInUse = none ∨ ∃ i,
      reasonEntry s.boot.reason = some i ∧ (s.boot.dir.entry i).lgValid = false)) ∧
    (∃ (s : State) (r : Req), Served s 0x0908 r ∧ r.f 0 1 = 0 ∧ s.heldMode = true ∧ s.dev.trans = false ∧ s.boot.coldNeeded = false ∧
      (s.dev.state ≠ .safe ∨ s.causeHolds = false)) ∧
    (∃ (s : State) (r : Req) (i : _), Served s 0x0908 r ∧ r.f 0 1 = 1 ∧ s.heldMode = true ∧ s.dev.trans = false ∧ s.boot.coldNeeded =
      false ∧ (s.dev.state ≠ .safe ∨ s.causeHolds = false) ∧ reasonEntry s.boot.reason = some i ∧ s.boot.dirInUse ≠ none ∧
      (s.boot.dir.entry i).lgValid = true) ∧
    (∃ (s : State) (r : Req), let slot := decide (r.f 0 1 = 1); ∃ k, k ∈ ([.fwActivateLive r, .fwActivateNextCold r] : List Instr) ∧
      Served s 0x0909 r ∧ slot = s.boot.fwSlot) ∧
    (∃ (s : State) (r : Req), let slot := decide (r.f 0 1 = 1); ∃ k, ∃ d, k ∈ ([.fwActivateLive r, .fwActivateNextCold r] : List Instr) ∧
      Served s 0x0909 r ∧ slot ≠ s.boot.fwSlot ∧ s.slotDetail slot = d ∧ d ≠ 0) ∧
    (flashed.slotDetail true = 0 → ∃ (s : State) (r : Req), let slot := decide (r.f 0 1 = 1); Served s 0x0909 r ∧ r.f 1 1 = 1 ∧ slot ≠
      s.boot.fwSlot ∧ s.slotDetail slot = 0 ∧ s.update.trial = false ∧ s.dev.trans = false) ∧
    (flashed.slotDetail true = 0 → (flashed.imageAt .firmware true).compat = 0 → ∃ (s : State) (r : Req), let slot := decide (r.f 0 1 =
      1); Served s 0x0909 r ∧ r.f 1 1 = 0 ∧ slot ≠ s.boot.fwSlot ∧ s.slotDetail slot = 0 ∧ s.update.trial = false ∧ s.dev.trans = false ∧
      (s.imageAt .firmware slot).compat = s.boot.compat) ∧
    (flashedTrial.slotDetail true = 0 → ∃ (s : State) (r : Req), let slot := decide (r.f 0 1 = 1); ∃ k : Instr, k ∈ [.fwActivateLive r,
      .fwActivateNextCold r] ∧ Served s 0x0909 r ∧ slot ≠ s.boot.fwSlot ∧ s.slotDetail slot = 0 ∧ (r.f 1 1 = 0 → (s.imageAt .firmware
      slot).compat = s.boot.compat) ∧ (s.update.trial = true ∨ s.dev.trans = true)) ∧
    (flashedNew.slotDetail true = 0 → (flashedNew.imageAt .firmware true).compat = 0 → ∃ (s : State) (r : Req), let slot := decide (r.f 0
      1 = 1); Served s 0x0909 r ∧ r.f 1 1 = 0 ∧ slot ≠ s.boot.fwSlot ∧ s.slotDetail slot = 0 ∧ (s.imageAt .firmware slot).compat ≠
      s.boot.compat) ∧
    (∃ (s : State) (r : Req), Served s 0x090A r ∧ s.update.trial = true) ∧
    (∃ (s : State) (r : Req), Served s 0x090A r ∧ s.update.trial = false) :=
  ⟨⟨up.updPart 15 fun x => { x with state := .stopped }, reqB [15, 0, 0, 0] (List.replicate 128 0), 0, served (by decide +kernel),
      by decide +kernel⟩,
   ⟨up, reqB [15, 0, 0, 0] (leBytes 4 0x1664C0DE ++ leBytes 2 1 ++ leBytes 2 1 ++ leBytes 4 64 ++ leBytes 4 0 ++ leBytes 4 (crc32
      (List.replicate 128 0)) ++ List.replicate 172 0), judged (by decide +kernel), by decide +kernel⟩,
   ⟨up.updPart 15 fun x => { x with state := .stopped }, reqB [15, 0, 0, 0] (leBytes 4 0x1664C0DE ++ leBytes 2 1 ++ leBytes 2 1 ++
      leBytes 4 64 ++ leBytes 4 0 ++ leBytes 4 (crc32 (List.replicate 128 0)) ++ List.replicate 172 0), served (by decide +kernel),
      by decide +kernel⟩,
   ⟨up.updPart 15 fun x => { x with state := .stopped, granules := [95, 3] }, reqB [15, 0, 0, 0] (leBytes 4 0x1664C0DE ++ leBytes 2 1
      ++ leBytes 2 1 ++ leBytes 4 64 ++ leBytes 4 0 ++ leBytes 4 (crc32 (List.replicate 128 0)) ++ List.replicate 172 0), 95, served
      (by decide +kernel), by decide +kernel⟩,
   ⟨up, req ([15, 63, 16, 0, 119, 0, 0, 0] ++ leBytes 8 4096 ++ leBytes 8 8192 ++ leBytes 8 0 ++ [0, 0, 0, 0] ++ leBytes 4 10000000),
      judged (by decide +kernel), by decide +kernel⟩,
   ⟨up, req [15, 63, 0, 0], judged (by decide +kernel), by decide +kernel⟩,
   ⟨(up.updPart 15 fun x => { x with state := .started, rings := [63] }).updRing 63 fun x => { x with setup := true }, req ([15, 63,
      16, 0, 119, 0, 0, 0] ++ leBytes 8 4096 ++ leBytes 8 8192 ++ leBytes 8 0 ++ [0, 0, 0, 0] ++ leBytes 4 10000000), served
      (by decide +kernel), by decide +kernel⟩,
   ⟨up.updPart 15 fun x => { x with state := .started, rings := [63] }, req ([15, 63, 16, 0, 119, 0, 0, 0] ++ leBytes 8 4096 ++ leBytes
      8 8192 ++ leBytes 8 0 ++ [0, 0, 0, 0] ++ leBytes 4 10000000), served (by decide +kernel), by decide +kernel⟩,
   ⟨(up.updPart 15 fun x => { x with state := .stopped, rings := [63] }).updRing 63 fun x => { x with setup := true }, req [15, 63, 0,
      0], served (by decide +kernel), by decide +kernel⟩,
   ⟨up.updPart 15 fun x => { x with state := .stopped, rings := [63] }, req [15, 63, 0, 0], served (by decide +kernel),
      by decide +kernel⟩,
   ⟨(up.updPart 15 fun x => { x with state := .started, rings := [63] }).updRing 63 fun x =>
      { x with setup := true, sheets := [parseSheet [] .nop 0 0] }, req [15, 63, 0, 0], served (by decide +kernel), by decide +kernel⟩,
   ⟨up, req [0, 0, 0, 0, 0, 0, 0, 0], servedAlone (by decide +kernel), by decide +kernel⟩,
   ⟨up, req [0, 0, 0, 0, 1, 0, 0, 0], servedAlone (by decide +kernel), by decide +kernel⟩,
   ⟨{ up with dev := { up.dev with state := .held } }, req [0, 0, 0, 2, 0, 0, 1, 0], servedAlone (by decide +kernel),
      by decide +kernel⟩,
   ⟨up, req [0, 0, 0, 1, 1, 0, 1, 0], servedAlone (by decide +kernel), by decide +kernel⟩,
   ⟨up, req [0, 0, 0, 2, 1, 0, 0, 0, 0, 0, 0, 0], servedAlone (by decide +kernel), by decide +kernel⟩,
   ⟨{ up with flash := { up.flash with bytes := [(0x2000000, 0)] } }, req [0, 0, 0, 2, 1, 0, 0, 0, 0, 0, 0, 0], servedAlone
      (by decide +kernel), ⟨0, by decide +kernel, by decide⟩⟩,
   ⟨up, req [4, 1, 0, 0], servedAlone (by decide +kernel)⟩,
   ⟨up, req (List.replicate 48 0), servedAlone (by decide +kernel), by decide +kernel⟩,
   ⟨{ up with otp := { up.otp with ownHash := Table.put up.otp.ownHash 3 (some []) } }, req (List.replicate 48 0), servedAlone
      (by decide +kernel), ⟨3, by decide +kernel⟩⟩,
   ⟨up, req [1, 0, 0, 0], (.recoverFallback (req [1, 0, 0, 0])), by decide +kernel, servedAlone (by decide +kernel), by decide +kernel⟩,
   ⟨{ up with dev := { up.dev with state := .held }, boot := { up.boot with complete := false, reason := 9, dirInUse := some false, dir := up.boot.dir.updEnt 4 fun x => { x with lgValid := false } } },
      req [1, 0, 0, 0], servedAlone (by decide +kernel), by decide +kernel⟩,
   ⟨{ up with dev := { up.dev with state := .held }, boot := { up.boot with complete := false, reason := 9, dirInUse := some false, dir := up.boot.dir.updEnt 4 fun x => { x with lgValid := true } } },
      req [0, 0, 0, 0], servedAlone (by decide +kernel), by decide +kernel⟩,
   ⟨{ up with dev := { up.dev with state := .held }, boot := { up.boot with complete := false, reason := 9, dirInUse := some false, dir := up.boot.dir.updEnt 4 fun x => { x with lgValid := true } } },
      req [1, 0, 0, 0], 4, servedAlone (by decide +kernel), by decide +kernel⟩,
   ⟨up, req [0, 1, 0, 0], (.fwActivateLive (req [0, 1, 0, 0])), by decide +kernel, servedAlone (by decide +kernel), by decide +kernel⟩,
   ⟨up, req [1, 1, 0, 0], (.fwActivateLive (req [1, 1, 0, 0])), 1, by decide +kernel, servedAlone (by decide +kernel),
      by decide +kernel⟩,
   fun h => ⟨flashed, req [1, 1, 0, 0], servedAlone (by decide +kernel), by decide +kernel, by decide +kernel, h, by decide +kernel⟩,
   fun h h2 => ⟨flashed, req [1, 0, 0, 0], servedAlone (by decide +kernel), by decide +kernel, by decide +kernel, h, by decide +kernel,
      by decide +kernel, h2⟩,
   fun h => ⟨flashedTrial, req [1, 1, 0, 0], (.fwActivateNextCold (req [1, 1, 0, 0])), by decide +kernel, servedAlone
      (by decide +kernel), by decide +kernel, h, fun e => absurd e (by decide +kernel), by decide +kernel⟩,
   fun h h2 => ⟨flashedNew, req [1, 0, 0, 0], servedAlone (by decide +kernel), by decide +kernel, by decide +kernel, h, fun e => absurd
      (h2.symm.trans e) (by decide +kernel)⟩,
   ⟨{ up with update := { up.update with trial := true } }, req [], servedAlone (by decide +kernel), by decide +kernel⟩,
   ⟨{ up with update := { up.update with trial := false } }, req [], servedAlone (by decide +kernel), by decide +kernel⟩⟩

theorem witness_BootsAndFirmwareAct :
    (loaded.fwImages {} = none → ∃ (s : State) (p : LoopProg), s.boot.phase = .firmware ∧ s.fwRuns = true ∧ s.dev.episode = none ∧
      s.startReady = true ∧ s.fwImages p = none) ∧
    (∃ (s : State) (p : LoopProg) (r : HeldReason) (d : Nat) (c : Bool), s.boot.phase = .firmware ∧ s.fwRuns = true ∧ s.dev.episode =
      none ∧ s.startReady = true ∧ s.fwImages p = some (r, d, c)) ∧
    (∃ (s : State) (_ : LoopProg), (s.boot.phase ≠ .firmware ∨ s.fwRuns = false)) ∧
    (∃ (s : State) (_ : LoopProg), s.dev.episode = none ∧ s.startReady = false) ∧
    (∃ (s : State), s.boot.phase = .firmware ∧ s.fwRuns = true ∧ s.dev.episode ≠ none ∧ s.dev.state = .safe ∧ s.supply.seq = .idle) ∧
    (∃ (s : State), s.dev.episode ≠ none ∧ (s.dev.state ≠ .safe ∨ s.supply.seq ≠ .idle)) ∧
    (∃ (s : State), s.boot.watchdog = true ∧ s.boot.phase = .firmware ∧ s.dev.episode = none) ∧
    (∃ (s : State), (s.boot.watchdog = false ∨ s.boot.phase ≠ .firmware ∨ s.dev.episode ≠ none)) ∧
    (∃ (s : State) (_ : HeldReason) (_ : Nat) (_ : Bool) (_ : Bool), s.cutList [0, 1, 2] = [] ∧ (∀ i, i < 3 → s.railOn i = true)) ∧
    (∃ (s : State) (_ : Nat), s.assayRuns = true ∧ s.update.handover = none ∧ s.update.trial = false) ∧
    (∃ (s : State), s.assayRuns = true ∧ s.update.handover = none ∧ s.update.trial = true) ∧
    (∃ (s : State) (_ : Nat), s.assayRuns = false) ∧
    (∃ (s : State), s.update.handover = none ∧ s.update.restarting = true) ∧
    (∃ (s : State), s.update.restarting = false) ∧
    (∃ (s : State), s.update.restarting = true) ∧
    (∃ (s : State) (h : Handover), s.update.handover = some h ∧ h.quiesceAt = none) ∧
    (∃ (s : State) (h : Handover), s.update.handover = some h ∧ h.quiesceAt = none ∧ h.rollback = false) ∧
    (∃ (s : State), s.update.handover = none ∧ s.update.restarting = false) ∧
    (flashed.copyDetail .stage1 true = 0 → flashed.copyDetail .firmware true = 0 → ∃ (s : State) (h : Handover), s.update.handover = some
      h ∧ h.quiesceAt ≠ none ∧ h.rollback = false ∧ s.copyDetail .stage1 h.slot = 0 ∧ s.copyDetail .firmware h.slot = 0) ∧
    (∃ (s : State) (h : Handover), s.update.handover = some h ∧ h.quiesceAt ≠ none ∧ h.rollback = true) ∧
    (∃ (s : State) (h : Handover), s.update.handover = some h ∧ h.quiesceAt ≠ none ∧ h.rollback = false ∧ (s.copyDetail .stage1 h.slot ≠
      0 ∨ s.copyDetail .firmware h.slot ≠ 0)) ∧
    (∃ (s : State) (h : Handover), s.update.handover = some h ∧ h.rollback = true) ∧
    (∃ (s : State) (h : Handover) (q : Nat), s.update.handover = some h ∧ h.quiesceAt = some q ∧ h.rollback = false) ∧
    (∃ (s : State), s.update.handover = none) ∧
    (∃ (s : State), s.update.trial = true ∧ s.update.trialS ≠ 0 ∧ s.fwRuns = true) ∧
    (∃ (s : State), (s.update.trial = false ∨ s.update.trialS = 0)) :=
  ⟨fun h => ⟨loaded, {}, by decide +kernel, by decide +kernel, by decide +kernel, by decide +kernel, h⟩,
   ⟨{ up with boot := { up.boot with phase := .firmware }, dev := { up.dev with episode := none } }, {}, .loopprog, 1, false,
      by decide +kernel⟩,
   ⟨up, {}, by decide +kernel⟩,
   ⟨{ up with dev := { up.dev with episode := none }, supply := { up.supply with seq := .up 6 true 6 } }, {}, by decide +kernel⟩,
   ⟨{ up with boot := { up.boot with phase := .firmware }, dev := { up.dev with state := .safe, episode := some { causes := [2], fromHeld := false } } },
      by decide +kernel⟩,
   ⟨{ up with dev := { up.dev with episode := some { causes := [2], fromHeld := false } } }, by decide +kernel⟩,
   ⟨{ up with boot := { up.boot with watchdog := true, phase := .firmware }, dev := { up.dev with episode := none } },
      by decide +kernel⟩,
   ⟨{ up with boot := { up.boot with watchdog := false } }, by decide +kernel⟩,
   ⟨{ up with supply := { up.supply with en := #v[true, true, true, false, false, false, false] } }, .flash, 0, true, true,
      by decide +kernel⟩,
   ⟨{ up with update := { up.update with handover := none, trial := false } }, 0, by decide +kernel⟩,
   ⟨{ up with update := { up.update with trial := true } }, by decide +kernel⟩,
   ⟨{ up with boot := { up.boot with phase := .strapWait } }, 0, by decide +kernel⟩,
   ⟨{ up with update := { up.update with handover := none, restarting := true } }, by decide +kernel⟩,
   ⟨up, by decide +kernel⟩,
   ⟨{ up with update := { up.update with restarting := true } }, by decide +kernel⟩,
   ⟨{ up with update := { up.update with handover := some { slot := true, old := false, trialS := 5, rollback := false, began := 0, quiesceAt := none } } },
      { slot := true, old := false, trialS := 5, rollback := false, began := 0, quiesceAt := none }, by decide +kernel⟩,
   ⟨{ up with update := { up.update with handover := some { slot := true, old := false, trialS := 5, rollback := false, began := 0, quiesceAt := none } } },
      { slot := true, old := false, trialS := 5, rollback := false, began := 0, quiesceAt := none }, by decide +kernel⟩,
   ⟨{ up with update := { up.update with handover := none, restarting := false } }, by decide +kernel⟩,
   fun h h2 =>
      ⟨{ flashed with update := { flashed.update with handover := some { slot := true, old := false, trialS := 5, rollback := false, began := 0, quiesceAt := some 0 } } },
      { slot := true, old := false, trialS := 5, rollback := false, began := 0, quiesceAt := some 0 }, by decide +kernel,
      by decide +kernel, by decide +kernel, h, h2⟩,
   ⟨{ up with update := { up.update with handover := some { slot := true, old := false, trialS := 5, rollback := true, began := 0, quiesceAt := some 0 } } },
      { slot := true, old := false, trialS := 5, rollback := true, began := 0, quiesceAt := some 0 }, by decide +kernel⟩,
   ⟨{ up with update := { up.update with handover := some { slot := true, old := false, trialS := 5, rollback := false, began := 0, quiesceAt := some 0 } } },
      { slot := true, old := false, trialS := 5, rollback := false, began := 0, quiesceAt := some 0 }, by decide +kernel⟩,
   ⟨{ up with update := { up.update with handover := some ({ slot := true, old := false, trialS := 5, rollback := true, began := 0, quiesceAt := none }) } },
      { slot := true, old := false, trialS := 5, rollback := true, began := 0, quiesceAt := none }, by decide +kernel⟩,
   ⟨{ up with update := { up.update with handover := some { slot := true, old := false, trialS := 5, rollback := false, began := 0, quiesceAt := some 0 } } },
      { slot := true, old := false, trialS := 5, rollback := false, began := 0, quiesceAt := some 0 }, 0, by decide +kernel⟩,
   ⟨up, by decide +kernel⟩,
   ⟨{ up with update := { up.update with trial := true, trialS := 1 } }, by decide +kernel⟩,
   ⟨{ up with update := { up.update with trial := false } }, by decide +kernel⟩⟩

theorem witness_WaitsAndTimersEnd :
    (∃ (s : State) (_ : Bool), s.damem.flashOp = none) ∧
    (∃ (s : State), s.damem.flashOp ≠ none ∧ s.boot.flashUsable = true) ∧
    (∃ (s : State), s.damem.flashOp ≠ none) ∧
    (∃ (s : State), s.wmk.state = .warming) ∧
    (∃ (s : State), s.wmk.state ≠ .warming) ∧
    (∃ (s : State) (k : Nat), k < 64 ∧ (s.strandAt k).en = true) ∧
    (∃ (s : State) (k : Nat), k < 64 ∧ (s.strandAt k).en = false) ∧
    (∃ (s : State), s.clocks.slew = none) ∧
    (∃ (s : State) (w : Slew), s.clocks.slew = some w) ∧
    (∃ (s : State), s.mirrorReady = false) ∧
    (∃ (s : State), s.mirrorReady = true ∧ s.cal.pqueue.length ≤ 64 ∧ s.cal.unmirrored = 0 ∧ s.cal.slot + s.cal.pqueue.length ≤ 2048) ∧
    (∃ (s : State) (code : Nat) (l : Nat × Nat) (k : Bucket), s.limitOf code = some l ∧ (s.cal.buckets.find? fun k => k.code == code) =
      some k ∧ k.suppressed = 0) ∧
    (∃ (s : State) (code : Nat) (l : Nat × Nat) (k : Bucket), s.limitOf code = some l ∧ (s.cal.buckets.find? fun k => k.code == code) =
      some k ∧ 0 < k.suppressed) ∧
    (∃ (s : State) (code : Nat), s.limitOf code = none) :=
  ⟨⟨{ up with damem := { up.damem with flashOp := none } }, true, by decide +kernel⟩,
   ⟨{ up with boot := { up.boot with flashUsable := true }, damem := { up.damem with flashOp := some (.erase 0x1000000 0x1000 1) } },
      by decide +kernel⟩,
   ⟨{ up with damem := { up.damem with flashOp := some (.dirSet 0 false false) } }, by decide +kernel⟩,
   ⟨{ up with wmk := { up.wmk with state := .warming } }, by decide +kernel⟩,
   ⟨up, by decide +kernel⟩,
   ⟨((up).updStrand 63 fun x => { x with en := true }), 63, by decide +kernel⟩,
   ⟨((up).updStrand 63 fun x => { x with en := false }), 63, by decide +kernel⟩,
   ⟨{ up with clocks := { up.clocks with slew := none } }, by decide +kernel⟩,
   ⟨{ up with clocks := { up.clocks with slew := some { offsetNs := 1000000, began := 0, trimPpb := 5 } } },
      { offsetNs := 1000000, began := 0, trimPpb := 5 }, by decide +kernel⟩,
   ⟨{ up with cal := { up.cal with sector := none } }, by decide +kernel⟩,
   ⟨{ up with cal := { up.cal with unmirrored := 0, sector := some 0 } }, by decide +kernel⟩,
   ⟨{ up with cal := { up.cal with buckets := [{ code := 0x0004, tokens := 0, suppressed := 0 }] } }, 0x0004, (8, 4),
      { code := 0x0004, tokens := 0, suppressed := 0 }, by decide +kernel⟩,
   ⟨{ up with cal := { up.cal with buckets := [{ code := 0x0004, tokens := 0, suppressed := 3 }] } }, 0x0004, (8, 4),
      { code := 0x0004, tokens := 0, suppressed := 3 }, by decide +kernel⟩,
   ⟨up, 0x1001, by decide +kernel⟩⟩

theorem witness_ManagementPortAnswers :
    (∃ (s : State) (b : Binding) (op : _) (eid : _), s.bindingUp b = true ∧ s.damem.mctpUp = true ∧ s.fwAbsent = false ∧ s.asleep = false
      ∧ op % 4 ≤ 1 ∧ 1 ≤ eid ∧ eid < 255) ∧
    (∃ (s : State) (b : Binding) (op : _) (eid : _), s.bindingUp b = true ∧ s.damem.mctpUp = true ∧ s.fwAbsent = false ∧ s.asleep = false
      ∧ ¬ (op % 4 ≤ 1 ∧ 1 ≤ eid ∧ eid < 255)) ∧
    (∃ (s : State) (b : Binding), s.bindingUp b = true ∧ s.damem.mctpUp = true ∧ s.fwAbsent = false ∧ s.asleep = false) ∧
    (∃ (s : State) (b : Binding) (mtype : _), s.bindingUp b = true ∧ s.damem.mctpUp = true ∧ s.fwAbsent = false ∧ s.asleep = false ∧
      (mtype = 0xFF ∨ mtype = 0 ∨ mtype = 1 ∨ mtype = 0x7E)) ∧
    (∃ (s : State) (b : Binding) (mtype : _), s.bindingUp b = true ∧ s.damem.mctpUp = true ∧ s.fwAbsent = false ∧ s.asleep = false ∧ ¬
      (mtype = 0xFF ∨ mtype = 0 ∨ mtype = 1 ∨ mtype = 0x7E)) ∧
    (∃ (s : State) (b : Binding) (sel : _), s.bindingUp b = true ∧ s.damem.mctpUp = true ∧ s.fwAbsent = false ∧ s.asleep = false ∧ sel ≠
      0) ∧
    (∃ (s : State) (b : Binding) (cmd : _), s.bindingUp b = true ∧ s.damem.mctpUp = true ∧ s.fwAbsent = false ∧ s.asleep = false ∧ (cmd =
      0 ∨ 6 < cmd)) ∧
    (∃ (s : State) (b : Binding), s.bindingUp b = true ∧ (s.damem.mctpUp = false ∨ s.fwAbsent = true)) ∧
    (∃ (s : State) (b : Binding), ∃ i, s.bindingUp b = false ∧ i ∈ ([.getEndpointId b, .getEndpointUuid b, .getMessageTypeSupport b,
      .gettid b, .getpldmtypes b, .getpdrrepositoryinfo b, .geteventreceiver b] : List Instr)) ∧
    (∃ (s : State) (b : Binding), s.bindingUp b = true ∧ s.damem.mctpUp = true ∧ s.fwAbsent = false ∧ s.asleep = true ∧ s.mgmtHears =
      false) ∧
    (∃ (s : State) (b : Binding), s.bindingUp b = true ∧ s.damem.mctpUp = true ∧ s.fwAbsent = false ∧ s.asleep = true ∧ s.mgmtHears =
      true) ∧
    (∃ (s : State) (addr : Nat) (x : Straps), s.supply.straps = some x ∧ x.mgt = false ∧ addr < 128) ∧
    (∃ (s : State) (_ : Nat) (x : Straps), s.supply.straps = some x ∧ x.mgt = true) ∧
    (∃ (s : State) (b : Binding) (tid : _), s.bindingUp b = true ∧ s.damem.mctpUp = true ∧ s.fwAbsent = false ∧ s.asleep = false ∧ 1 ≤
      tid ∧ tid < 255) ∧
    (∃ (s : State) (b : Binding) (tid : _), s.bindingUp b = true ∧ s.damem.mctpUp = true ∧ s.fwAbsent = false ∧ s.asleep = false ∧ (tid =
      0 ∨ 255 ≤ tid)) ∧
    (∃ (s : State) (b : Binding) (ptype : _), s.bindingUp b = true ∧ s.damem.mctpUp = true ∧ s.fwAbsent = false ∧ s.asleep = false ∧
      (ptype = 0 ∨ ptype = 2)) ∧
    (∃ (s : State) (b : Binding) (ptype : _), s.bindingUp b = true ∧ s.damem.mctpUp = true ∧ s.fwAbsent = false ∧ s.asleep = false ∧
      ptype ≠ 0 ∧ ptype ≠ 2) ∧
    (∃ (s : State) (b : Binding) (h id : Nat), s.bindingUp b = true ∧ s.damem.mctpUp = true ∧ s.fwAbsent = false ∧ s.asleep = false ∧ 1 ≤
      h ∧ h < 49 ∧ pdrIds[h - 1]? = some id) ∧
    (∃ (s : State) (b : Binding) (h : _), s.bindingUp b = true ∧ s.damem.mctpUp = true ∧ s.fwAbsent = false ∧ s.asleep = false ∧ 49 < h) ∧
    (∃ (s : State) (b : Binding) (n : _) (x : _), s.bindingUp b = true ∧ s.damem.mctpUp = true ∧ s.fwAbsent = false ∧ s.asleep = false ∧
      s.numericSensor n = some (some x) ∧ (cduEntry n = false ∨ s.stew.role = Role.primary)) ∧
    (∃ (s : State) (b : Binding) (n : _), s.bindingUp b = true ∧ s.damem.mctpUp = true ∧ s.fwAbsent = false ∧ s.asleep = false ∧
      s.numericSensor n = some none ∧ (cduEntry n = false ∨ s.stew.role = Role.primary)) ∧
    (∃ (s : State) (b : Binding) (n : _), s.bindingUp b = true ∧ s.damem.mctpUp = true ∧ s.fwAbsent = false ∧ s.asleep = false ∧
      s.numericSensor n ≠ none ∧ cduEntry n = true ∧ s.stew.role ≠ Role.primary) ∧
    (∃ (s : State) (b : Binding) (n : _), s.bindingUp b = true ∧ s.damem.mctpUp = true ∧ s.fwAbsent = false ∧ s.asleep = false ∧
      s.numericSensor n = none) ∧
    (∃ (s : State) (b : Binding) (n : _) (l : _), s.bindingUp b = true ∧ s.damem.mctpUp = true ∧ s.fwAbsent = false ∧ s.asleep = false ∧
      s.stateSensor n = some l ∧ (cduEntry n = false ∨ s.stew.role = Role.primary)) ∧
    (∃ (s : State) (b : Binding) (n : _), s.bindingUp b = true ∧ s.damem.mctpUp = true ∧ s.fwAbsent = false ∧ s.asleep = false ∧
      s.stateSensor n = none) ∧
    (∃ (s : State) (b : Binding) (st : _), s.bindingUp b = true ∧ s.damem.mctpUp = true ∧ s.fwAbsent = false ∧ s.asleep = false ∧ st <
      256 ∧ s.boot.complete = true) ∧
    (∃ (s : State) (b : Binding) (n : _), s.bindingUp b = true ∧ s.damem.mctpUp = true ∧ s.fwAbsent = false ∧ s.asleep = false ∧ n ≠ 200) ∧
    (∃ (s : State) (b : Binding) (v : Int), s.bindingUp b = true ∧ s.damem.mctpUp = true ∧ s.fwAbsent = false ∧ s.asleep = false ∧ -(2 ^
      31) ≤ v ∧ v < 2 ^ 31 ∧ s.boot.complete = true) ∧
    (∃ (s : State) (b : Binding) (n : _), s.bindingUp b = true ∧ s.damem.mctpUp = true ∧ s.fwAbsent = false ∧ s.asleep = false ∧ n ≠ 201) ∧
    (∃ (s : State) (b : Binding), s.bindingUp b = true ∧ s.damem.mctpUp = true ∧ s.fwAbsent = false ∧ s.asleep = false ∧ s.stew.role =
      Role.primary) ∧
    (∃ (s : State) (b : Binding) (ptype : _) (cmd : _), s.bindingUp b = true ∧ s.damem.mctpUp = true ∧ s.fwAbsent = false ∧ s.asleep =
      false ∧ (pldmCommands ptype).contains cmd = false) ∧
    (∃ (s : State) (n : Nat) (off : Nat) (e : PldmEvent), s.waitingEvent n off = some e ∧ e.tries < 3) ∧
    (∃ (s : State) (n : Nat) (off : Nat) (e : PldmEvent), s.waitingEvent n off = some e ∧ 3 ≤ e.tries) ∧
    (∃ (s : State) (n off : Nat) (e : PldmEvent), s.waitingEvent n off = some e) ∧
    (∃ (s : State) (n : Nat) (off : Nat), s.waitingEvent n off = none) :=
  ⟨⟨{ up with damem := { up.damem with mctpUp := true } }, .vdm, 1, 254, by decide +kernel⟩,
   ⟨{ up with damem := { up.damem with mctpUp := true } }, .vdm, 2, 255, by decide +kernel⟩,
   ⟨up, .vdm, by decide +kernel⟩,
   ⟨{ up with damem := { up.damem with mctpUp := true } }, .vdm, 0xFF, by decide +kernel⟩,
   ⟨{ up with damem := { up.damem with mctpUp := true } }, .vdm, 2, by decide +kernel⟩,
   ⟨{ up with damem := { up.damem with mctpUp := true } }, .vdm, 1, by decide +kernel⟩,
   ⟨{ up with damem := { up.damem with mctpUp := true } }, .vdm, 7, by decide +kernel⟩,
   ⟨{ up with damem := { up.damem with mctpUp := false } }, .vdm, by decide +kernel⟩,
   ⟨{ up with supply := { up.supply with endpoint := .off } }, .vdm, (.getEndpointId .vdm), by decide +kernel⟩,
   ⟨{ up with dev := { up.dev with state := .dormant }, clocks := { up.clocks with uptime := 10 }, damem := { up.damem with nackAt := some 0 } },
      .vdm, by decide +kernel⟩,
   ⟨{ up with dev := { up.dev with state := .dormant }, clocks := { up.clocks with uptime := 100 }, damem := { up.damem with nackAt := some 0 } },
      .vdm, by decide +kernel⟩,
   ⟨{ up with supply := { up.supply with straps := some { mgt := false } } }, 127, { mgt := false }, by decide +kernel⟩,
   ⟨{ up with supply := { up.supply with straps := some { mgt := true } } }, 127, { mgt := true }, by decide +kernel⟩,
   ⟨{ up with damem := { up.damem with mctpUp := true } }, .vdm, 254, by decide +kernel⟩,
   ⟨{ up with damem := { up.damem with mctpUp := true } }, .vdm, 255, by decide +kernel⟩,
   ⟨{ up with damem := { up.damem with mctpUp := true } }, .vdm, 0, by decide +kernel⟩,
   ⟨{ up with damem := { up.damem with mctpUp := true } }, .vdm, 1, by decide +kernel⟩,
   ⟨up, .vdm, 48, 200, by decide +kernel⟩,
   ⟨{ up with damem := { up.damem with mctpUp := true } }, .vdm, 50, by decide +kernel⟩,
   ⟨{ up with stew := { up.stew with role := .primary } }, .vdm, 18, 0, by decide +kernel⟩,
   ⟨{ up with damem := { up.damem with mctpUp := true }, thm := { up.thm with inletM := none } }, .vdm, 14, by decide +kernel⟩,
   ⟨{ up with damem := { up.damem with mctpUp := true } }, .vdm, 109, by decide +kernel⟩,
   ⟨{ up with damem := { up.damem with mctpUp := true } }, .vdm, 110, by decide +kernel⟩,
   ⟨{ up with damem := { up.damem with mctpUp := true } }, .vdm, 5, [0], by decide +kernel⟩,
   ⟨{ up with damem := { up.damem with mctpUp := true } }, .vdm, 6, by decide +kernel⟩,
   ⟨{ up with damem := { up.damem with mctpUp := true }, boot := { up.boot with complete := true } }, .vdm, 255, by decide +kernel⟩,
   ⟨{ up with damem := { up.damem with mctpUp := true } }, .vdm, 0, by decide +kernel⟩,
   ⟨{ up with damem := { up.damem with mctpUp := true }, boot := { up.boot with complete := true } }, .vdm, 2147483647,
      by decide +kernel⟩,
   ⟨{ up with damem := { up.damem with mctpUp := true } }, .vdm, 0, by decide +kernel⟩,
   ⟨{ up with damem := { up.damem with mctpUp := true }, stew := { up.stew with role := Role.primary } }, .vdm, by decide +kernel⟩,
   ⟨{ up with damem := { up.damem with mctpUp := true } }, .vdm, 2, 0x12, by decide +kernel⟩,
   ⟨{ up with damem := { up.damem with events := [{ sensor := 3, offset := 0, value := 1, tries := 2 }] } }, 3, 0,
      { sensor := 3, offset := 0, value := 1, tries := 2 }, by decide +kernel⟩,
   ⟨{ up with damem := { up.damem with events := [{ sensor := 3, offset := 0, value := 1, tries := 3 }] } }, 3, 0,
      { sensor := 3, offset := 0, value := 1, tries := 3 }, by decide +kernel⟩,
   ⟨{ up with damem := { up.damem with events := [{ sensor := 3, offset := 1, value := 0, tries := 0 }] } }, 3, 1,
      { sensor := 3, offset := 1, value := 0, tries := 0 }, by decide +kernel⟩,
   ⟨up, 0, 0, by decide +kernel⟩⟩

theorem witness_ArithmeticActsForItsThreads :
    (∃ (s : State) (i : GIns) (g : Group) (op : VOp) (rd : Nat) (a : VSrc) (b : VSrc) (c : VSrc), Issues s i g ∧ g.blocks (vecNeed op rd
      a b c) = true) ∧
    (∃ (s : State) (i : GIns) (g : Group) (op : VOp) (rd : Nat) (a : VSrc) (b : VSrc) (c : VSrc), Issues s i g ∧ g.blocks (vecNeed op rd
      a b c) = false ∧ g.vecLegal op rd a b c = true ∧ (∀ k, op ≠ .setp k) ∧ op ≠ .add64 ∧ (∀ p, op ≠ .sel p)) ∧
    (∃ (s : State) (i : GIns) (g : Group) (p : Nat) (rd : Nat) (a : VSrc) (b : VSrc) (c : VSrc), Issues s i g ∧ g.blocks (vecNeed (.sel
      p) rd a b c) = false ∧ g.vecLegal (.sel p) rd a b c = true) ∧
    (∃ (s : State) (i : GIns) (g : Group) (rd : Nat) (a : VSrc) (b : VSrc) (c : VSrc), Issues s i g ∧ g.blocks (vecNeed .add64 rd a b c)
      = false ∧ g.vecLegal .add64 rd a b c = true) ∧
    (∃ (s : State) (i : GIns) (g : Group) (k : Cond) (rd : Nat) (a : VSrc) (b : VSrc) (c : VSrc), Issues s i g ∧ g.blocks (vecNeed (.setp
      k) rd a b c) = false ∧ g.vecLegal (.setp k) rd a b c = true) ∧
    (∃ (s : State) (i : GIns) (g : Group) (op : VOp) (rd : Nat) (a : VSrc) (b : VSrc) (c : VSrc), Issues s i g ∧ g.blocks (vecNeed op rd
      a b c) = false ∧ g.vecLegal op rd a b c = false) ∧
    (∃ (s : State) (i : GIns) (g : Group) (op : VOp) (rd : Nat) (r : Nat) (r' : Nat) (c : VSrc), Issues s i g ∧ r ≠ r' ∧ g.blocks
      (vecNeed op rd (.s r) (.s r') c) = false) ∧
    (∃ (s : State) (i : GIns) (g : Group) (rd : Nat) (a : SSrc) (b : SSrc), Issues s i g ∧ g.blocks (sNeed (rd :: (a.regs ++ b.regs))) =
      false ∧ a.ok = true ∧ b.ok = true ∧ rd < 64) ∧
    (∃ (s : State) (i : GIns) (g : Group) (rd : Nat) (a : SSrc) (b : SSrc), Issues s i g ∧ g.blocks (sNeed (rd :: (a.regs ++ b.regs))) =
      false ∧ (a.ok = false ∨ b.ok = false ∨ 64 ≤ rd)) ∧
    (∃ (s : State) (i : GIns) (g : Group), let w := s.issuing i g; ∃ (sr : SReg) (rd : Nat), Issues s i g ∧ g.blocks (sNeed [rd, rd + 1])
      = false ∧ rd < 64 ∧ (w.sregVal i g g.active 0 sr).2 = false) ∧
    (∃ (s : State) (i : GIns) (g : Group), let w := s.issuing i g; ∃ (sr : SReg) (rd : Nat), Issues s i g ∧ g.blocks (sNeed [rd, rd + 1])
      = false ∧ rd < 64 ∧ (w.sregVal i g g.active 0 sr).2 = true ∧ rd % 2 = 0) ∧
    (∃ (s : State) (i : GIns) (g : Group), let w := s.issuing i g; ∃ (sr : SReg) (rd : Nat), Issues s i g ∧ g.blocks (vNeed [rd, rd + 1])
      = false ∧ (w.sregVal i g g.active 0 sr).2 = false ∧ g.regOk rd 4 = true) ∧
    (∃ (s : State) (i : GIns) (g : Group), let w := s.issuing i g; ∃ (sr : SReg) (rd : Nat), Issues s i g ∧ g.blocks (vNeed [rd, rd + 1])
      = false ∧ (w.sregVal i g g.active 0 sr).2 = true ∧ g.regOk rd 8 = true) ∧
    (∃ (s : State) (i : GIns) (g : Group) (f : Fmt) (rd : Nat) (ra : Nat), Issues s i g ∧ g.blocks (vNeed [rd, ra]) = false ∧ g.regOk rd
      4 = true ∧ g.regOk ra 4 = true ∧ (f = .bf16 ∨ f = .e4m3 ∨ f = .e5m2)) ∧
    (∃ (s : State) (i : GIns) (g : Group) (f : Fmt) (rd : Nat) (ra : Nat), Issues s i g ∧ g.blocks (vNeed [rd, rd + 1, ra]) = false ∧
      g.regOk rd 4 = true ∧ g.regOk (rd + 1) 4 = true ∧ g.regOk ra 4 = true ∧ (f = .pb8 ∨ f = .pb4)) :=
  ⟨⟨(on gP), gi, gP, .add, 30, .v 31, .v 30, .v 30, on_P, by decide +kernel⟩,
   ⟨(on g0), gi, g0, .add, 31, .v 31, .v 31, .v 31, on_g0, by decide +kernel, by decide +kernel, fun k h => (nomatch h),
      by decide +kernel, fun p h => (nomatch h)⟩,
   ⟨(on g0), gi, g0, 7, 31, .v 31, .v 31, .v 31, on_g0, by decide +kernel⟩,
   ⟨(on g0), gi, g0, 30, .v 30, .s 62, .imm 5, on_g0, by decide +kernel⟩,
   ⟨(on g0), gi, g0, .fle, 7, .v 31, .v 31, .v 31, on_g0, by decide +kernel⟩,
   ⟨(on g0), gi, g0, .add, 32, .v 31, .v 31, .v 31, on_g0, by decide +kernel⟩,
   ⟨(on g0), gi, g0, .add, 31, 62, 63, .v 31, on_g0, by decide +kernel⟩,
   ⟨(on g0), gi, g0, 63, .s 63, .p 7, on_g0, by decide +kernel⟩,
   ⟨(on g0), gi, g0, 64, .s 64, .p 7, on_g0, by decide +kernel⟩,
   ⟨(on g0), gi, g0, .slot, 63, on_g0, by decide +kernel⟩,
   ⟨(on g0), gi, g0, .time, 62, on_g0, by decide +kernel⟩,
   ⟨(on g0), gi, g0, .slot, 31, on_g0, by decide +kernel⟩,
   ⟨(on g0), gi, g0, .time, 30, on_g0, by decide +kernel⟩,
   ⟨(on g0), gi, g0, .e5m2, 31, 31, on_g0, by decide +kernel⟩,
   ⟨(on g0), gi, g0, .pb4, 30, 31, on_g0, by decide +kernel⟩⟩

theorem witness_ControlMovesThreads :
    (∃ (s : State) (i : GIns) (g : Group), let w := s.issuing i g; let pc := g.activePc; let inCode (t : Int) : Prop := t % 8 = 0 ∧ 0 ≤
      (pc : Int) + t ∧ (pc : Int) + t < (w.codeLen g.part : Int); ∃ t, Issues s i g ∧ inCode t) ∧
    (∃ (s : State) (i : GIns) (g : Group), let w := s.issuing i g; let pc := ((bitsSet 32 g.active.toNat).head?.map g.pcOf).getD 0; let
      inCode (t : Int) : Prop := t % 8 = 0 ∧ 0 ≤ (pc : Int) + t ∧ (pc : Int) + t < (w.codeLen g.part : Int); ∃ (p : Nat) (t : Int), Issues
      s i g ∧ p < 8 ∧ inCode t) ∧
    (∃ (s : State) (i : GIns) (g : Group), let w := s.issuing i g; let pc := g.activePc; let inCode (t : Int) : Prop := t % 8 = 0 ∧ 0 ≤
      (pc : Int) + t ∧ (pc : Int) + t < (w.codeLen g.part : Int); ∃ (r : _) (t : _), Issues s i g ∧ g.blocks (sNeed [r]) = false ∧ r < 64
      ∧ inCode t) ∧
    (∃ (s : State) (i : GIns) (g : Group), let w := s.issuing i g; let pc := g.activePc; let inCode (t : Int) : Prop := t % 8 = 0 ∧ 0 ≤
      (pc : Int) + t ∧ (pc : Int) + t < (w.codeLen g.part : Int); ∃ (c : BranchCond) (t : Int), Issues s i g ∧ g.blocks (sNeed c.regs) =
      false ∧ ¬ inCode t) ∧
    (∃ (s : State) (i : GIns) (g : Group), Issues s i g) ∧
    (∃ (s : State) (i : GIns) (g : Group), Issues s i g ∧ g.live &&& ~~~ i.acts g ≠ 0) ∧
    (∃ (s : State) (i : GIns) (g : Group), Issues s i g ∧ g.live &&& ~~~ i.acts g = 0 ∧ g.settled = true) ∧
    (∃ (s : State) (i : GIns) (g : Group), Issues s i g ∧ g.live &&& ~~~ i.acts g = 0 ∧ g.settled = false) ∧
    (∃ (s : State) (m : Nat) (q : Nat) (k : Nat) (g : Group), m < 16 ∧ q < 4 ∧ k < 16 ∧ s.groupAt m q k = some g ∧ 4096 ≤ g.starve ∧
      g.escape = none) ∧
    (∃ (s : State) (m : Nat) (q : Nat) (k : Nat), m < 16 ∧ q < 4 ∧ k < 16 ∧ s.groupAt m q k = none) ∧
    (∃ (s : State) (i : GIns), ∃ (c : Instr), i.mould < 16 ∧ i.quarter < 4 ∧ i.slot < 16 ∧ s.ready i = none ∧ c ∈ ([.yieldOp i, .barG i,
      .exit i, .mwait i 0, .fenceP i, .brk i] : List Instr)) ∧
    (∃ (s : State) (i : GIns) (k : Nat) (c : _), i.mould < 16 ∧ i.quarter < 4 ∧ i.slot < 16 ∧ (s.canIssue i.mould i.quarter k).isSome =
      true ∧ k < 16 ∧ i.held.getLsbD k = false ∧ k ≠ i.slot ∧ (k + 16 - (s.quarterAt i.mould i.quarter).lastSlot - 1) % 16 < (i.slot + 16
      - (s.quarterAt i.mould i.quarter).lastSlot - 1) % 16 ∧ (s.quarterAt i.mould i.quarter).lastSlot < 16 ∧ c ∈ ([.yieldOp i, .barG i,
      .exit i, .fenceP i, .brk i] : List Instr)) ∧
    (∃ (s : State) (i : GIns) (g0 : Group) (c : Instr), i.mould < 16 ∧ i.quarter < 4 ∧ i.slot < 16 ∧ i.errors = [] ∧ s.ready i = some g0
      ∧ i.malformed = true ∧ c ∈ ([.yieldOp i, .barG i, .exit i, .brk i] : List Instr)) :=
  ⟨⟨(on g0), gi, g0, 56, on_g0, by decide +kernel⟩,
   ⟨(on g0), gi, g0, 7, 56, on_g0, by decide +kernel⟩,
   ⟨(on g0), gi, g0, 63, 56, on_g0, by decide +kernel⟩,
   ⟨(on g0), gi, g0, .always, 64, on_g0, by decide +kernel⟩,
   ⟨on g0, gi, g0, on_g0⟩,
   ⟨(on ({ g0 with pc := g0.pc.set 31 8 })), gi, { g0 with pc := g0.pc.set 31 8 }, issues (by decide +kernel), by decide +kernel⟩,
   ⟨(on g0), gi, g0, on_g0, by decide +kernel⟩,
   ⟨(on gP), gi, gP, on_P, by decide +kernel⟩,
   ⟨on { g0 with starve := 4096 }, 15, 3, 15, { g0 with starve := 4096 }, by decide +kernel⟩,
   ⟨up, 15, 3, 15, by decide +kernel⟩,
   ⟨up, gi, (.yieldOp gi), by decide +kernel⟩,
   ⟨((on g0).updQuarter 15 3 fun x => { x with slots := Table.put x.slots 14 (some g0) }), gi, 14, (.yieldOp gi), by decide +kernel⟩,
   ⟨on g0, { gi with illegal := true }, g0, (.yieldOp { gi with illegal := true }), by decide +kernel⟩⟩

theorem witness_RegistersReadBack :
    (∃ (g : Group) (r t : Nat), r < g.vreg.length ∧ t < 32) ∧
    (∃ (g : Group) (r : Nat) (t : Nat) (_ : Nat), ∃ (r' : Nat) (t' : Nat), r < g.vreg.length ∧ t < 32 ∧ (r' ≠ r ∨ t' ≠ t)) ∧
    (∃ (r : Nat), r < 64) ∧
    (∃ (_ : Group) (r : Nat) (_ : Nat), ∃ (r' : Nat), r < 64 ∧ r' ≠ r) ∧
    (∃ (_ : Group) (_ : BitVec 32) (_ : Nat → Nat) (t : Nat), t < 32) ∧
    (∃ (g : Group) (r : Nat) (t : Nat) (n : Nat) (_ : Nat), r + n ≤ g.vreg.length ∧ t < 32) :=
  ⟨⟨g0, 31, 31, by decide +kernel⟩,
   ⟨g0, 31, 31, 1, 31, 30, by decide +kernel⟩,
   ⟨63, by decide +kernel⟩,
   ⟨g0, 63, 0, 62, by decide +kernel⟩,
   ⟨g0, 0, fun x => x + 8, 31, by decide +kernel⟩,
   ⟨g0, 30, 31, 2, 5, by decide +kernel⟩⟩

theorem witness_WideAccumulatorsAct :
    (∃ (s : State) (i : GIns) (g : Group), ∃ (h : Nat), Issues s i g ∧ h < 4 ∧ g.wideOf h = none) ∧
    (∃ (s : State) (i : GIns) (g : Group), ∃ (h : Nat), Issues s i g ∧ (4 ≤ h ∨ (g.wideOf h).isSome = true)) ∧
    (∃ (s : State) (i : GIns) (g : Group) (h : _) (a : _) (c : Instr), Issues s i g ∧ g.blocks (vNeed [a, a]) = false ∧ g.blocks (vNeed
      [a]) = false ∧ g.wideOf h = none ∧ c ∈ ([.wzero i h, .wadd i h a, .wsub i h a, .wred i h, .wrd i h a, .wrd2 i h a a, .wflg i h a,
      .wst i h a, .wld i h a, .waddw i h a, .wrel i h] : List Instr)) ∧
    (∃ (s : State) (i : GIns) (g : Group) (h : _) (a : _) (c : Instr), Issues s i g ∧ g.blocks (vNeed [a]) = true ∧ c ∈ ([.wadd i h a,
      .wsub i h a, .wrd i h a, .wflg i h a] : List Instr)) ∧
    (∃ (s : State) (i : GIns) (g : Group) (h : _) (n : _), Issues s i g ∧ g.wideOf h = some n) ∧
    (∃ (s : State) (i : GIns) (g : Group) (h : _) (n : _) (ra : _), Issues s i g ∧ g.wideOf h = some n ∧ g.blocks (vNeed [ra]) = false ∧
      g.regOk ra 4 = true) ∧
    (∃ (s : State) (i : GIns) (g : Group) (h : _) (n : _) (rd : _), Issues s i g ∧ g.wideOf h = some n ∧ g.blocks (vNeed [rd]) = false ∧
      g.regOk rd 4 = true) ∧
    (∃ (s : State) (i : GIns) (g : Group) (h : _) (n : _) (rd : _) (rd2 : _), Issues s i g ∧ g.wideOf h = some n ∧ g.blocks (vNeed [rd,
      rd2]) = false ∧ g.regOk rd 4 = true ∧ g.regOk rd2 4 = true) ∧
    (∃ (s : State) (i : GIns) (g : Group) (h : _) (n : _) (off : _), Issues s i g ∧ g.wideOf h = some n ∧ off % 64 = 0 ∧ off + 1792 ≤
      g.window) ∧
    (∃ (s : State) (i : GIns) (g : Group), let w := s.issuing i g; ∃ (h : Nat) (n : Nat), ∃ (off : Nat), ∃ (l : List Lane), Issues s i g
      ∧ g.wideOf h = some n ∧ off % 64 = 0 ∧ off + 1792 ≤ g.window ∧ w.lanesAt i g off = some l) ∧
    (∃ (s : State) (i : GIns) (g : Group), let w := s.issuing i g; ∃ (h : Nat) (n : Nat), ∃ (off : Nat), Issues s i g ∧ g.wideOf h = some
      n ∧ off % 64 = 0 ∧ off + 1792 ≤ g.window ∧ w.lanesAt i g off = none) ∧
    (∃ (s : State) (i : GIns) (g : Group), ∃ (h : Nat) (n : Nat), ∃ (off : Nat), Issues s i g ∧ g.wideOf h = some n ∧ off % 64 ≠ 0) ∧
    (∃ (s : State) (i : GIns) (g : Group), ∃ (h : Nat) (n : Nat), ∃ (off : Nat), Issues s i g ∧ g.wideOf h = some n ∧ off % 64 = 0 ∧
      g.window < off + 1792) :=
  ⟨⟨(on g0), gi, g0, 3, on_g0, by decide +kernel⟩,
   ⟨(on g0), gi, g0, 4, on_g0, by decide +kernel⟩,
   ⟨(on g0), gi, g0, 3, 0, (.wst gi 3 0), on_g0, by decide +kernel⟩,
   ⟨(on gP), gi, gP, 3, 31, (.wadd gi 3 31), on_P, by decide +kernel⟩,
   ⟨(on ({ g0 with wides := g0.wides.set 3 (some 15) })), gi, ({ g0 with wides := g0.wides.set 3 (some 15) }), 3, 15, on_2,
      by decide +kernel⟩,
   ⟨(on ({ g0 with wides := g0.wides.set 3 (some 15) })), gi, { g0 with wides := g0.wides.set 3 (some 15) }, 3, 15, 31, on_2,
      by decide +kernel⟩,
   ⟨(on ({ g0 with wides := g0.wides.set 3 (some 15) })), gi, ({ g0 with wides := g0.wides.set 3 (some 15) }), 3, 15, 31, on_2,
      by decide +kernel⟩,
   ⟨(on ({ g0 with wides := g0.wides.set 3 (some 15) })), gi, { g0 with wides := g0.wides.set 3 (some 15) }, 3, 15, 31, 31, on_2,
      by decide +kernel⟩,
   ⟨(on ({ g0 with wides := g0.wides.set 3 (some 15) })), gi, ({ g0 with wides := g0.wides.set 3 (some 15) }), 3, 15, 129280, on_2,
      by decide +kernel⟩,
   ⟨(on ({ g0 with wides := g0.wides.set 3 (some 15) })), gi, { g0 with wides := g0.wides.set 3 (some 15) }, 3, 15, 129280,
      List.replicate 32 {}, on_2, by decide +kernel⟩,
   ⟨((on ({ g0 with wides := g0.wides.set 3 (some 15) }))).updMould 15 fun x => { x with scratch := [(129280 + 0x30, 255)] }, gi,
      { g0 with wides := g0.wides.set 3 (some 15) }, 3, 15, 129280, issues (by decide +kernel), by decide +kernel⟩,
   ⟨(on ({ g0 with wides := g0.wides.set 3 (some 15) })), gi, { g0 with wides := g0.wides.set 3 (some 15) }, 3, 15, 1, on_2,
      by decide +kernel⟩,
   ⟨(on ({ g0 with wides := g0.wides.set 3 (some 15) })), gi, { g0 with wides := g0.wides.set 3 (some 15) }, 3, 15, 129344, on_2,
      by decide +kernel⟩⟩

theorem witness_MatrixAndCopiesAct :
    (∃ (s : State) (i : GIns) (g : Group), let w := s.issuing i g; ∃ h : Nat, Issues s i g ∧ h < 2 ∧ w.matRoom i = true ∧ g.matrix = true
      ∧ Table.at g.tiles h none = none) ∧
    (∃ (s : State) (i : GIns) (g : Group), let w := s.issuing i g; ∃ h : Nat, Issues s i g ∧ 2 ≤ h ∧ w.matRoom i = true ∧ g.matrix = true) ∧
    (∃ (s : State) (i : GIns) (g : Group), let w := s.issuing i g; ∃ h : Nat, Issues s i g ∧ w.matRoom i = true ∧ (g.matrix = false ∨ h <
      2 ∧ (Table.at g.tiles h none).isSome = true)) ∧
    (∃ (s : State) (i : GIns) (g : Group), let w := s.issuing i g; ∃ (h : Nat) (t : Nat), Issues s i g ∧ g.matrix = true ∧ Table.at
      g.tiles h none = some t ∧ w.matRoom i = true) ∧
    (∃ (s : State) (i : GIns) (g : Group), let w := s.issuing i g; ∃ (h : Nat) (t : Nat) (off : Nat), Issues s i g ∧ g.matrix = true ∧
      Table.at g.tiles h none = some t ∧ w.matRoom i = true ∧ g.tileOk off 65536 = true) ∧
    (∃ (s : State) (i : GIns) (g : Group), let w := s.issuing i g; ∃ (h : Nat) (t : Nat) (off : Nat), Issues s i g ∧ g.matrix = true ∧
      Table.at g.tiles h none = some t ∧ w.matRoom i = true ∧ g.tileOk off 65536 = false) ∧
    (∃ (s : State) (i : GIns) (g : Group), let w := s.issuing i g; ∃ (h : Nat) (t : Nat) (fa : Fmt) (fb : Fmt) (a : Nat) (b : Nat) (k :
      Nat) (e : Nat), Issues s i g ∧ g.matrix = true ∧ Table.at g.tiles h none = some t ∧ w.matRoom i = true ∧ mmaFmts fa fb = true ∧ 32 ≤
      k ∧ k ≤ 8192 ∧ k % 32 = 0 ∧ g.tileOk a (aBytes fa k) = true ∧ g.tileOk b (k * fb.line) = true ∧ (if fb.block = true then g.tileOk e
      (128 * (k / 32)) = true else e = 0)) ∧
    (∃ (s : State) (i : GIns) (g : Group), let w := s.issuing i g; ∃ (h : Nat) (t : Nat) (fa : Fmt) (fb : Fmt) (k : Nat), Issues s i g ∧
      g.matrix = true ∧ Table.at g.tiles h none = some t ∧ w.matRoom i = true ∧ (mmaFmts fa fb = false ∨ k < 32 ∨ 8192 < k ∨ k % 32 ≠ 0)) ∧
    (∃ (s : State) (i : GIns) (g : Group), let w := s.issuing i g; ∃ (h : Nat) (t : Nat) (f : Fmt) (off : Nat), Issues s i g ∧ g.matrix =
      true ∧ Table.at g.tiles h none = some t ∧ w.matRoom i = true ∧ f.block = false ∧ g.tileOk off (128 * f.line) = true) ∧
    (∃ (s : State) (i : GIns) (g : Group), let w := s.issuing i g; ∃ (h : Nat) (c : Instr), Issues s i g ∧ (g.matrix = false ∨ Table.at
      g.tiles h none = none) ∧ w.matRoom i = true ∧ c ∈ ([.mzero i h, .mwait i h, .mrel i h, .mld i h 0] : List Instr)) ∧
    (∃ (s : State) (i : GIns) (g : Group), let w := s.issuing i g; ∃ (h : Nat) (c : Instr), Issues s i g ∧ w.matRoom i = false ∧ c ∈
      ([.macq i h, .mzero i h, .mwait i h, .mrel i h, .mld i h 0] : List Instr)) ∧
    (∃ (s : State) (i : GIns) (g : Group), let w := s.issuing i g; ∃ (h : Nat) (t : Nat), Issues s i g ∧ w.matRoom i = true ∧ g.matrix =
      true ∧ Table.at g.tiles h none = some t ∧ (w.quarterAt i.mould i.quarter).matPending i.slot h = true) ∧
    (∃ (s : State) (i : GIns) (g : Group), let w := s.issuing i g; ∃ (h : Nat) (t : Nat), Issues s i g ∧ w.matRoom i = true ∧ g.matrix =
      true ∧ Table.at g.tiles h none = some t ∧ (w.quarterAt i.mould i.quarter).matPending i.slot h = false) ∧
    (∃ (s : State) (i : GIns) (g : Group) (len : Nat), Issues s i g ∧ g.acq = false ∧ len ≠ 0 ∧ len ≤ 2 ^ 20 ∧ len % 64 = 0 ∧
      g.copies.length < 8) ∧
    (∃ (s : State) (i : GIns) (g : Group) (len : Nat), Issues s i g ∧ g.acq = false ∧ len ≠ 0 ∧ len ≤ 2 ^ 20 ∧ len % 64 = 0 ∧ 8 ≤
      g.copies.length) ∧
    (∃ (s : State) (i : GIns) (g : Group) (len : Nat), Issues s i g ∧ g.acq = false ∧ (len = 0 ∨ 2 ^ 20 < len ∨ len % 64 ≠ 0)) ∧
    (∃ (s : State) (i : GIns) (g : Group), Issues s i g ∧ g.acq = true) ∧
    (∃ (s : State) (i : GIns) (g : Group) (n : Nat), Issues s i g ∧ g.coveredFault n = none ∧ g.copies.length ≤ n) ∧
    (∃ (s : State) (i : GIns) (g : Group) (n : Nat), Issues s i g ∧ g.coveredFault n = none ∧ n < g.copies.length) ∧
    (∃ (s : State) (i : GIns) (g : Group) (n : Nat) (c : Copy), Issues s i g ∧ g.coveredFault n = some c ∧ g.landed = true ∧ i.acts g ≠ 0) ∧
    (∃ (s : State) (m : Nat) (q : Nat), m < 16 ∧ q < 4 ∧ (s.quarterAt m q).matrix = []) ∧
    (∃ (s : State) (m : Nat) (q : Nat) (e : MatEntry) (rest : List MatEntry), m < 16 ∧ q < 4 ∧ (s.quarterAt m q).matrix = e :: rest ∧
      e.tile < 4 ∧ e.op ≠ .rel ∧ (Table.at (s.quarterAt m q).tiles e.tile {}).holder ≠ none) ∧
    (∃ (s : State) (m q : Nat) (e : MatEntry) (rest : List MatEntry), m < 16 ∧ q < 4 ∧ (s.quarterAt m q).matrix = e :: rest ∧ e.tile < 4
      ∧ e.op = .rel ∧ (s.quarterAt m q).tileQ = []) ∧
    (∃ (s : State) (m : Nat) (q : Nat) (k : Nat) (g : Group), m < 16 ∧ q < 4 ∧ k < 16 ∧ s.groupAt m q k = some g ∧ g.copies = []) ∧
    (∃ (s : State) (m : Nat) (q : Nat) (k : Nat) (g : Group) (c : Copy) (rest : List Copy) (va : Nat), m < 16 ∧ q < 4 ∧ k < 16 ∧
      s.groupAt m q k = some g ∧ g.copies = c :: rest ∧ c.fault = none ∧ c.pending = 0 ∧ s.placeOf c.va = .local_ va ∧ (s.copyMove m g c 0
      18).1 = none) ∧
    (∃ (s : State) (m q k : Nat) (g : Group) (c : Copy) (rest : List Copy) (pos va : Nat), m < 16 ∧ q < 4 ∧ k < 16 ∧ s.groupAt m q k =
      some g ∧ g.copies = c :: rest ∧ c.fault = none ∧ c.pending = 0 ∧ s.placeOf c.va = .remote pos va) :=
  ⟨⟨(on g0), gi, g0, 1, on_g0, by decide +kernel⟩,
   ⟨(on g0), gi, g0, 2, on_g0, by decide +kernel⟩,
   ⟨(on ({ g0 with matrix := false })), gi, { g0 with matrix := false }, 1, issues (by decide +kernel), by decide +kernel⟩,
   ⟨(on ({ g0 with tiles := g0.tiles.set 1 (some 3) })), gi, { g0 with tiles := g0.tiles.set 1 (some 3) }, 1, 3, on_3,
      by decide +kernel⟩,
   ⟨(on ({ g0 with tiles := g0.tiles.set 1 (some 3) })), gi, { g0 with tiles := g0.tiles.set 1 (some 3) }, 1, 3, 65536, on_3,
      by decide +kernel⟩,
   ⟨(on ({ g0 with tiles := g0.tiles.set 1 (some 3) })), gi, { g0 with tiles := g0.tiles.set 1 (some 3) }, 1, 3, 65600, on_3,
      by decide +kernel⟩,
   ⟨(on ({ g0 with tiles := g0.tiles.set 1 (some 3) })), gi, { g0 with tiles := g0.tiles.set 1 (some 3) }, 1, 3, .bf16, .bf16, 0,
      65536, 256, 0, on_3, by decide +kernel⟩,
   ⟨(on ({ g0 with tiles := g0.tiles.set 1 (some 3) })), gi, { g0 with tiles := g0.tiles.set 1 (some 3) }, 1, 3, .bf16, .bf16, 8224,
      on_3, by decide +kernel⟩,
   ⟨(on ({ g0 with tiles := g0.tiles.set 1 (some 3) })), gi, { g0 with tiles := g0.tiles.set 1 (some 3) }, 1, 3, .fp32, 65536, on_3,
      by decide +kernel⟩,
   ⟨(on g0), gi, g0, 1, (.mrel gi 1), on_g0, by decide +kernel⟩,
   ⟨((on ({ g0 with tiles := g0.tiles.set 1 (some 3) }))).updQuarter 15 3 fun x =>
      { x with matrix := [{ slot := 15, handle := 1, tile := 3, op := .zero }, { slot := 15, handle := 1, tile := 3, op := .zero }, { slot := 15, handle := 1, tile := 3, op := .zero }] },
      gi, { g0 with tiles := g0.tiles.set 1 (some 3) }, 1, (.mrel gi 1), issues (by decide +kernel), by decide +kernel⟩,
   ⟨((on ({ g0 with tiles := g0.tiles.set 1 (some 3) }))).updQuarter 15 3 fun x =>
      { x with matrix := [{ slot := 15, handle := 1, tile := 3, op := .zero }] }, gi, { g0 with tiles := g0.tiles.set 1 (some 3) }, 1, 3,
      on_4, by decide +kernel⟩,
   ⟨(on ({ g0 with tiles := g0.tiles.set 1 (some 3) })), gi, { g0 with tiles := g0.tiles.set 1 (some 3) }, 1, 3, on_3,
      by decide +kernel⟩,
   ⟨(on g0), gi, g0, 1048576, on_g0, by decide +kernel⟩,
   ⟨(on ({ g0 with copies := List.replicate 8 { toScratch := true, scratch := 0, va := 0, len := 64, pc := 0 } })), gi,
      { g0 with copies := List.replicate 8 { toScratch := true, scratch := 0, va := 0, len := 64, pc := 0 } }, 64, issues
      (by decide +kernel), by decide +kernel⟩,
   ⟨(on g0), gi, g0, 1048640, on_g0, by decide +kernel⟩,
   ⟨(on ({ g0 with acq := true })), gi, { g0 with acq := true }, issues (by decide +kernel), by decide +kernel⟩,
   ⟨(on ({ g0 with copies := [{ toScratch := true, scratch := 0, va := 0, len := 64, pc := 0 }] })), gi,
      { g0 with copies := [{ toScratch := true, scratch := 0, va := 0, len := 64, pc := 0 }] }, 1, on_5, by decide +kernel⟩,
   ⟨(on ({ g0 with copies := [{ toScratch := true, scratch := 0, va := 0, len := 64, pc := 0 }] })), gi,
      { g0 with copies := [{ toScratch := true, scratch := 0, va := 0, len := 64, pc := 0 }] }, 0, on_5, by decide +kernel⟩,
   ⟨(on ({ g0 with copies := [{ toScratch := true, scratch := 0, va := 0, len := 64, pc := 0, fault := some (4, 0, false) }] })), gi,
      { g0 with copies := [{ toScratch := true, scratch := 0, va := 0, len := 64, pc := 0, fault := some (4, 0, false) }] }, 0,
      { toScratch := true, scratch := 0, va := 0, len := 64, pc := 0, fault := some (4, 0, false) }, issues (by decide +kernel),
      by decide +kernel⟩,
   ⟨up, 15, 3, by decide +kernel⟩,
   ⟨((up.updQuarter 15 3 fun x => { x with matrix := [{ slot := 15, handle := 1, tile := 3, op := .zero }] }).updQuarter 15 3 fun x =>
      { x with tiles := Table.put x.tiles 3 { holder := some (15, 1) } }), 15, 3, { slot := 15, handle := 1, tile := 3, op := .zero }, [],
      by decide +kernel⟩,
   ⟨(on g0).updQuarter 15 3 fun x => { x with matrix := [{ slot := 15, handle := 1, tile := 3, op := .rel }] }, 15, 3,
      { slot := 15, handle := 1, tile := 3, op := .rel }, [], by decide +kernel⟩,
   ⟨on g0, 15, 3, 15, g0, by decide +kernel⟩,
   ⟨mapped { g0 with copies := [{ toScratch := true, scratch := 0, va := 0, len := 64, pc := 0 }] }, 15, 3, 15,
      { g0 with copies := [{ toScratch := true, scratch := 0, va := 0, len := 64, pc := 0 }] },
      { toScratch := true, scratch := 0, va := 0, len := 64, pc := 0 }, [], 0, by decide +kernel⟩,
   ⟨{ on ({ g0 with copies := [{ toScratch := true, scratch := 0, va := 2 ^ 54 + 2 ^ 48, len := 64, pc := 0 }] }) with row := { up.row with rowSize := 64 } },
      15, 3, 15, { g0 with copies := [{ toScratch := true, scratch := 0, va := 2 ^ 54 + 2 ^ 48, len := 64, pc := 0 }] },
      { toScratch := true, scratch := 0, va := 2 ^ 54 + 2 ^ 48, len := 64, pc := 0 }, [], 1, 0, by decide +kernel⟩⟩

theorem witness_LoadsAndStoresAct :
    (∃ (s : State) (i : GIns) (g : Group), let w := s.issuing i g; let act := i.acts g; ∃ op : MemOp,
      let r := w.targets i g false op act; Issues s i g ∧ g.blocks (memNeed op) = false ∧ g.memLegal op = true ∧ r.1.any (fun e => e.2.2
      == .table) = false ∧ firstFault (r.1.filterMap (r.2.elemFault true)) = none) ∧
    (∃ (s : State) (i : GIns) (g : Group), let w := s.issuing i g; let act := i.acts g; ∃ op : MemOp,
      let r := w.targets i g false op act; Issues s i g ∧ g.blocks (memNeed op) = false ∧ g.memLegal op = true ∧ r.1.any (fun e => e.2.2
      == .table) = false ∧ firstFault (r.1.filterMap (r.2.elemFault true)) = none ∧ farSectors r.1 = []) ∧
    (∃ (s : State) (i : GIns) (g : Group), let w := s.issuing i g; let act := i.acts g; ∃ op : MemOp,
      let r := w.targets i g false op act; Issues s i g ∧ g.blocks (memNeed op) = false ∧ g.memLegal op = true ∧ r.1.any (fun e => e.2.2
      == .table) = true) ∧
    (∃ (s : State) (i : GIns) (g : Group), let w := s.issuing i g; let act := i.acts g; ∃ op : MemOp,
      let r := w.targets i g false op act; ∃ (k : Nat) (m : BitVec 32) (a : Nat) (p : Bool), Issues s i g ∧ g.blocks (memNeed op) = false
      ∧ g.memLegal op = true ∧ r.1.any (fun e => e.2.2 == .table) = false ∧ firstFault (r.1.filterMap (r.2.elemFault true)) = some (.trap
      k m a p) ∧ g.landed = true ∧ act ≠ 0) ∧
    (∃ (s : State) (i : GIns) (g : Group) (op : MemOp) (c : Instr), Issues s i g ∧ g.blocks (memNeed op) = true ∧ c ∈ ([.load i op,
      .ldAcq i op, .store i op, .stRel i op] : List Instr)) ∧
    (∃ (s : State) (i : GIns) (g : Group), let w := s.issuing i g; let act := i.acts g; ∃ op : MemOp, let r := w.targets i g true op act;
      Issues s i g ∧ g.blocks (memNeed op) = false ∧ g.memLegal op = true ∧ r.1.any (fun e => e.2.2 == .table) = false ∧ firstFault
      (r.1.filterMap (r.2.elemFault false)) = none) ∧
    (∃ (s : State) (i : GIns) (g : Group), let w := s.issuing i g; let act := i.acts g; ∃ op : MemOp, let r := w.targets i g true op act;
      Issues s i g ∧ g.blocks (memNeed op) = false ∧ g.memLegal op = true ∧ r.1.any (fun e => e.2.2 == .table) = false ∧ firstFault
      (r.1.filterMap (r.2.elemFault false)) = none ∧ g.pending = []) ∧
    (∃ (s : State) (i : GIns) (g : Group) (op : MemOp), Issues s i g ∧ g.blocks (memNeed op) = false ∧ g.memLegal op = false) ∧
    (∃ (s : State) (i : GIns) (g : Group) (op : AtomOp), Issues s i g ∧ g.blocks (atomNeed op) = false ∧ g.atomLegal op = false) ∧
    (∃ (s : State) (i : GIns) (g : Group), let w := s.issuing i g; let act := i.acts g; ∃ op : AtomOp,
      let r := w.targets i g true op.mem act; Issues s i g ∧ g.blocks (atomNeed op) = false ∧ g.atomLegal op = true ∧ g.memLegal op.mem =
      true ∧ r.1.any (fun e => e.2.2 == .table) = false ∧ firstFault (r.1.filterMap (r.2.elemFault true)) = none) ∧
    (∃ (s : State) (i : GIns) (g : Group), Issues s i g) ∧
    (∃ (s : State) (i : GIns) (g : Group), Issues s i g ∧ g.pending = []) ∧
    (∃ (s : State) (i : GIns) (g : Group), Issues s i g ∧ g.pending ≠ []) ∧
    (∃ (s : State) (i : GIns) (g : Group), let act := i.acts g; ∃ (op : MemOp) (t : Nat), let a := g.memAddr op t; Issues s i g ∧
      g.blocks (memNeed op) = false ∧ g.memLegal op = true ∧ bitsSet 32 act.toNat = [t] ∧ a % op.size ≠ 0 ∧ g.landed = true) ∧
    (∃ (s : State) (i : GIns) (g : Group), let act := i.acts g; ∃ (op : MemOp) (t : Nat), let a := g.memAddr op t; Issues s i g ∧
      g.blocks (memNeed op) = false ∧ g.memLegal op = true ∧ bitsSet 32 act.toNat = [t] ∧ op.scratch = true ∧ a % op.size = 0 ∧ g.window <
      a + op.size ∧ g.landed = true) ∧
    (∃ (s : State) (i : GIns) (g : Group), let act := i.acts g; ∃ (op : MemOp) (t : Nat), let a := g.memAddr op t; Issues s i g ∧
      g.blocks (memNeed op) = false ∧ g.memLegal op = true ∧ bitsSet 32 act.toNat = [t] ∧ op.scratch = true ∧ a % op.size = 0 ∧ a +
      op.size ≤ g.window) ∧
    (∃ (s : State) (i : GIns) (g : Group), let w := s.issuing i g; let act := i.acts g; ∃ (op : MemOp) (t : Nat),
      let a := g.memAddr op t; ∃ (va : Nat) (ppa : Nat) (wr : Bool) (ok : Bool) (w1 : State) (d : Nat), Issues s i g ∧ g.blocks (memNeed
      op) = false ∧ g.memLegal op = true ∧ bitsSet 32 act.toNat = [t] ∧ op.scratch = false ∧ a % op.size = 0 ∧ w.placeOf a = .local_ va ∧
      w.xlate i.mould g.part va = (.leaf ppa wr ok, w1) ∧ (w1.partAt g.part).dpa (ppa + va % 65536) = some d ∧ w1.isPoisoned (d / 64) =
      false ∧ (w1.mouldAt i.mould).lcache.find? (fun l => l.1 == d / 64) = none) ∧
    (∃ (s : State) (i : GIns) (g : Group), let w := s.issuing i g; let act := i.acts g; ∃ (op : MemOp) (t : Nat),
      let a := g.memAddr op t; ∃ (va : Nat) (ppa : Nat) (wr : Bool) (ok : Bool) (w1 : State) (d : Nat), Issues s i g ∧ g.blocks (memNeed
      op) = false ∧ g.memLegal op = true ∧ bitsSet 32 act.toNat = [t] ∧ op.scratch = false ∧ a % op.size = 0 ∧ w.placeOf a = .local_ va ∧
      w.xlate i.mould g.part va = (.leaf ppa wr ok, w1) ∧ (w1.partAt g.part).dpa (ppa + va % 65536) = some d ∧ wr = true ∧ (w1.partAt
      g.part).inImage d = false) ∧
    (∃ (s : State) (i : GIns) (g : Group), let w := s.issuing i g; let act := i.acts g; ∃ (op : MemOp) (t : Nat),
      let a := g.memAddr op t; ∃ (va : Nat) (ppa : Nat) (wr : Bool) (ok : Bool) (w1 : State) (d : Nat), Issues s i g ∧ g.blocks (memNeed
      op) = false ∧ g.memLegal op = true ∧ bitsSet 32 act.toNat = [t] ∧ op.scratch = false ∧ a % op.size = 0 ∧ w.placeOf a = .local_ va ∧
      w.xlate i.mould g.part va = (.leaf ppa wr ok, w1) ∧ (w1.partAt g.part).dpa (ppa + va % 65536) = some d ∧ (wr = false ∨ (w1.partAt
      g.part).inImage d = true) ∧ g.landed = true) :=
  ⟨⟨(on g0), gi, g0, { scratch := true, rd := 31, imm := 131068 }, on_g0, by decide +kernel⟩,
   ⟨(on g0), gi, g0, { scratch := true, rd := 31, imm := 131068 }, on_g0, by decide +kernel⟩,
   ⟨{ mapped g0 with mem := { (mapped g0).mem with poisoned := [95 * 2 ^ 25] } }, gi, g0, { scratch := false, rd := 31, imm := 0 },
      issues (by decide +kernel), by decide +kernel⟩,
   ⟨(on g0), gi, g0, { scratch := true, rd := 31, imm := 131072 }, 3, 0xFFFFFFFF, 131072, false, on_g0, by decide +kernel⟩,
   ⟨(on gP), gi, gP, { scratch := true, rd := 31 }, (.load gi { scratch := true, rd := 31 }), on_P, by decide +kernel⟩,
   ⟨(on g0), gi, g0, { scratch := true, rd := 31, imm := 131068 }, on_g0, by decide +kernel⟩,
   ⟨(on g0), gi, g0, { scratch := true, rd := 31, imm := 131068 }, on_g0, by decide +kernel⟩,
   ⟨(on g0), gi, g0, { scratch := true, rd := 32 }, on_g0, by decide +kernel⟩,
   ⟨(on g0), gi, g0, { mem := { scratch := true, rd := 31 }, kind := .add, rb := 32 }, on_g0, by decide +kernel⟩,
   ⟨(on g0), gi, g0, { mem := { scratch := true, rd := 31, imm := 131068 }, kind := .add, rb := 31 }, on_g0, by decide +kernel⟩,
   ⟨on g0, gi, g0, on_g0⟩,
   ⟨(on g0), gi, g0, on_g0, by decide +kernel⟩,
   ⟨(on gP), gi, gP, on_P, by decide +kernel⟩,
   ⟨(on g31), gi, g31, { scratch := true, rd := 31, imm := 1 }, 31, on_6, by decide +kernel⟩,
   ⟨(on g31), gi, g31, { scratch := true, rd := 31, imm := 131072 }, 31, on_6, by decide +kernel⟩,
   ⟨(on g31), gi, g31, { scratch := true, rd := 31, imm := 131068 }, 31, on_6, by decide +kernel⟩,
   ⟨mapped g31, gi, g31, { scratch := false, rd := 31, imm := 2097148 }, 31, 2097148, 4128768, true, true, (((mapped g31).issuing gi
      g31).xlate 15 15 2097148).2, (95 * 2 ^ 31 + 4194300), on_7, by decide +kernel, by decide +kernel, by decide +kernel,
      by decide +kernel, by decide +kernel, by decide +kernel, pair (by decide +kernel), by decide +kernel⟩,
   ⟨mapped g31, gi, g31, { scratch := false, rd := 31, imm := 2097148 }, 31, 2097148, 4128768, true, true, (((mapped g31).issuing gi
      g31).xlate 15 15 2097148).2, (95 * 2 ^ 31 + 4194300), on_7, by decide +kernel, by decide +kernel, by decide +kernel,
      by decide +kernel, by decide +kernel, by decide +kernel, pair (by decide +kernel), by decide +kernel⟩,
   ⟨mapped g31, gi, g31, { scratch := false, rd := 31, imm := 2097152 }, 31, 2097152, 4194304, false, true, (((mapped g31).issuing gi
      g31).xlate 15 15 2097152).2, (95 * 2 ^ 31 + 4194304), on_7, by decide +kernel, by decide +kernel, by decide +kernel,
      by decide +kernel, by decide +kernel, by decide +kernel, pair (by decide +kernel), by decide +kernel⟩⟩

theorem witness_HostReachesItsPartition :
    (∃ (s : State) (vf : Nat), 1 ≤ vf ∧ vf ≤ 16 ∧ s.vfUp vf = true ∧ (s.partAt (vf - 1)).state ≠ .none) ∧
    (∃ (s : State) (vf : Nat), ∃ (v : Reg32), 1 ≤ vf ∧ vf ≤ 16 ∧ s.vfUp vf = true ∧ (s.partAt (vf - 1)).state ≠ .none ∧ bitOf v.toNat 31
      = true) ∧
    (∃ (s : State) (vf : Nat), ∃ (v : Reg32), 1 ≤ vf ∧ vf ≤ 16 ∧ s.vfUp vf = true ∧ (s.partAt (vf - 1)).state ≠ .none ∧ bitOf v.toNat 31
      = false ∧ v.toNat % 65536 ≠ 0) ∧
    (∃ (s : State) (vf : Nat), ∃ (v : Reg32), 1 ≤ vf ∧ vf ≤ 16 ∧ s.vfUp vf = true ∧ (s.partAt (vf - 1)).state ≠ .none ∧ bitOf v.toNat 31
      = false ∧ v.toNat % 65536 = 0) ∧
    (∃ (s : State) (vf : Nat), let p := vf - 1; ∃ (t : Nat) (_ : Reg32), 1 ≤ vf ∧ vf ≤ 16 ∧ s.vfUp vf = true ∧ (s.partAt (vf - 1)).state
      ≠ .none ∧ t < 512 ∧ s.holdsTally p t = true) ∧
    (∃ (s : State) (vf : Nat), let p := vf - 1; ∃ (t : Nat) (_ : Reg32), 1 ≤ vf ∧ vf ≤ 16 ∧ s.vfUp vf = true ∧ (s.partAt (vf - 1)).state
      ≠ .none ∧ t < 512 ∧ s.holdsTally p t = false) ∧
    (∃ (s : State) (vf : Nat), let p := vf - 1; let x := s.partAt p; ∃ (a : Nat) (d : Nat) (_ : List Byte) (_ : Nat), 1 ≤ vf ∧ vf ≤ 16 ∧
      s.vfUp vf = true ∧ (s.partAt (vf - 1)).state ≠ .none ∧ a < 0x3FFFFF0000 ∧ x.dpa a = some d ∧ x.inImage d = false) ∧
    (∃ (s : State) (vf : Nat), let p := vf - 1; let x := s.partAt p; ∃ (a : Nat) (d : Nat) (_ : Nat), 1 ≤ vf ∧ vf ≤ 16 ∧ s.vfUp vf = true
      ∧ (s.partAt (vf - 1)).state ≠ .none ∧ a < 0x3FFFFF0000 ∧ x.dpa a = some d ∧ s.mem.poisoned = []) ∧
    (∃ (s : State) (vf : Nat), let p := vf - 1; let x := s.partAt p; ∃ (a : Nat) (_ : Nat), 1 ≤ vf ∧ vf ≤ 16 ∧ s.vfUp vf = true ∧
      (s.partAt (vf - 1)).state ≠ .none ∧ a < 0x3FFFFF0000 ∧ x.dpa a = none) ∧
    (∃ (s : State) (p : Nat), (s.partAt p).invQ.length < 16) ∧
    (∃ (s : State) (p : Nat), 16 ≤ (s.partAt p).invQ.length ∧ p < 16) ∧
    (∃ (s : State) (vf : Nat), ∃ (_ : Reg32), 1 ≤ vf ∧ vf ≤ 16 ∧ s.vfUp vf = true ∧ (s.partAt (vf - 1)).state = .none) ∧
    (∃ (s : State) (vf : Nat), ∃ (_ : Reg32), vf < 17 ∧ s.vfUp vf = false) ∧
    (∃ (s : State) (p : Nat), p < 16 ∧ (s.partAt p).invQ = []) ∧
    (∃ (s : State) (p : Nat) (v : Inval) (rest : List Inval), p < 16 ∧ (s.partAt p).invQ = v :: rest ∧ (∀ m, m < 16 → s.residents m = [])) :=
  ⟨⟨on g0, 16, by decide +kernel⟩,
   ⟨{ up with part := Table.put up.part 15 { state := .stopped, granules := [95], tallies := [31] } }, 16, 0x80000000,
      by decide +kernel⟩,
   ⟨{ up with part := Table.put up.part 15 { state := .stopped, granules := [95], tallies := [31] } }, 16, 0x0000FFFF,
      by decide +kernel⟩,
   ⟨{ up with part := Table.put up.part 15 { state := .stopped, granules := [95], tallies := [31] } }, 16, 0, by decide +kernel⟩,
   ⟨{ up with part := Table.put up.part 15 { state := .stopped, granules := [95], tallies := [31] } }, 16, 511, 0, by decide +kernel⟩,
   ⟨{ up with part := Table.put up.part 15 { state := .stopped, granules := [95], tallies := [31] } }, 16, 495, 0, by decide +kernel⟩,
   ⟨{ up with part := Table.put up.part 15 { state := .stopped, granules := [95], tallies := [31] } }, 16, 0x7EFFFFFF, (95 * 2 ^ 31 +
      0x7EFFFFFF), [1], 1, by decide +kernel⟩,
   ⟨{ up with part := Table.put up.part 15 { state := .stopped, granules := [95], tallies := [31] } }, 16, 0x7FFFFFFF, (95 * 2 ^ 31 +
      0x7FFFFFFF), 1, by decide +kernel⟩,
   ⟨{ up with part := Table.put up.part 15 { state := .stopped, granules := [95], tallies := [31] } }, 16, 0x80000000, 1,
      by decide +kernel⟩,
   ⟨up, 15, by decide +kernel⟩,
   ⟨(up.updPart 15 fun x => { x with invQ := List.replicate 16 { all := true, vpn := 0, count := 0 } }), 15, by decide +kernel⟩,
   ⟨up, 16, 0, by decide +kernel⟩,
   ⟨{ up with sriov := { up.sriov with numVfs := 15 } }, 16, 0, by decide +kernel⟩,
   ⟨up, 15, by decide +kernel⟩,
   ⟨{ up with part := Table.put up.part 15 { state := .stopped, invQ := [{ all := true, vpn := 0, count := 0 }] } }, 15,
      { all := true, vpn := 0, count := 0 }, [], by decide +kernel⟩⟩

theorem witness_TrapsAreTakenAndReturned :
    (∃ (s : State) (i : GIns) (g : Group), Issues s i g) ∧
    (∃ (s : State) (i : GIns) (g : Group) (off : Nat) (rd : Nat), Issues s i g ∧ g.blocks (sNeed [rd]) = false ∧ off % 4 = 0 ∧ off < 1024
      ∧ rd < 64) ∧
    (∃ (s : State) (i : GIns) (g : Group) (off : Nat) (rd : Nat), Issues s i g ∧ g.blocks (sNeed [rd]) = false ∧ (off % 4 ≠ 0 ∨ 1024 ≤
      off ∨ 64 ≤ rd)) ∧
    (∃ (s : State) (i : GIns) (g : Group) (off : Nat) (rs : Nat) (v : SaveSlot), Issues s i g ∧ g.blocks (sNeed [rs]) = false ∧
      g.save.inHandler = true ∧ rs < 64 ∧ g.save.write off (g.s rs) = some v) ∧
    (∃ (s : State) (i : GIns) (g : Group) (off : Nat) (rs : Nat), Issues s i g ∧ g.blocks (sNeed [rs]) = false ∧ (g.save.inHandler =
      false ∨ g.save.write off (g.s rs) = none)) ∧
    (∃ (s : State) (i : GIns) (g : Group), let w := s.issuing i g; ∃ rs : Nat, Issues s i g ∧ g.blocks (sNeed [rs]) = false ∧ rs < 64 ∧
      (g.s rs = 0 ∨ (g.s rs % 8 = 0 ∧ g.s rs < w.codeLen g.part))) ∧
    (∃ (s : State) (i : GIns) (g : Group) (rs : Nat), Issues s i g ∧ g.blocks (sNeed [rs]) = false ∧ g.s rs ≠ 0 ∧ g.s rs % 8 ≠ 0) ∧
    (∃ (s : State) (i : GIns) (g : Group), Issues s i g ∧ g.blocks (sNeed (List.range 64)) = false ∧ g.save.inHandler = true) ∧
    (∃ (s : State) (i : GIns) (g : Group), ∃ (_ : Nat), Issues s i g ∧ g.save.inHandler = true) ∧
    (∃ (s : State) (i : GIns) (g : Group), Issues s i g ∧ g.blocks (sNeed (List.range 64)) = false ∧ g.save.inHandler = false) ∧
    (∃ (s : State) (i : GIns) (g : Group), ∃ (_ : Bool) (_ : Nat), Issues s i g ∧ g.save.inHandler = false) ∧
    (∃ (_ : State) (_ : GIns) (g : Group) (_ : Nat) (_ : Nat) (_ : BitVec 32) (_ : Bool), g.save.inHandler = true) ∧
    (∃ (_ : State) (_ : GIns) (g : Group) (kind : Nat) (_ : Nat) (_ : BitVec 32) (replay : Bool), g.save.inHandler = false ∧ kind = 5 ∧
      replay = true) ∧
    (∃ (_ : State) (_ : GIns) (g : Group) (kind : Nat) (_ : Nat) (_ : BitVec 32) (replay : Bool), g.save.inHandler = false ∧ (kind ≠ 5 ∨
      replay = false) ∧ (g.save.handler = 0 ∨ handlerMay kind = false)) ∧
    (∃ (_ : State) (_ : GIns) (g : Group) (kind : Nat) (_ : Nat) (_ : BitVec 32) (replay : Bool), g.save.inHandler = false ∧ (kind ≠ 5 ∨
      replay = false) ∧ g.save.handler ≠ 0 ∧ handlerMay kind = true ∧ g.s 63 % 16 = 0 ∧ g.scratchBytes < g.s 63 ∧ g.s 63 ≤ g.scratchBytes
      + g.stackBytes) ∧
    (∃ (s : State) (m : Nat) (q : Nat) (k : Nat) (g : Group), m < 16 ∧ q < 4 ∧ k < 16 ∧ s.groupAt m q k = some g ∧ g.save.parked = true ∧
      s.parkedTranslates g = true) ∧
    (∃ (s : State) (m : Nat) (q : Nat) (k : Nat) (g : Group), m < 16 ∧ q < 4 ∧ k < 16 ∧ s.groupAt m q k = some g ∧ g.save.parked = true ∧
      s.parkedTranslates g = false) ∧
    (∃ (s : State) (m q k : Nat) (g : Group), m < 16 ∧ q < 4 ∧ k < 16 ∧ s.groupAt m q k = some g ∧ g.save.parked = true) ∧
    (∃ (s : State) (m : Nat) (q : Nat) (k : Nat), m < 16 ∧ q < 4 ∧ k < 16 ∧ s.groupAt m q k = none) :=
  ⟨⟨on g0, gi, g0, on_g0⟩,
   ⟨(on g0), gi, g0, 1020, 63, on_g0, by decide +kernel⟩,
   ⟨(on g0), gi, g0, 1024, 63, on_g0, by decide +kernel⟩,
   ⟨(on ({ g0 with save := { g0.save with inHandler := true } })), gi, { g0 with save := { g0.save with inHandler := true } }, 508, 63,
      (({ g0.save with inHandler := true }.write 508 131072).getD {}), on_8, by decide +kernel⟩,
   ⟨(on g0), gi, g0, 508, 63, on_g0, by decide +kernel⟩,
   ⟨(on g0), gi, g0, 62, on_g0, by decide +kernel⟩,
   ⟨(on ({ g0 with sreg := g0.sreg.set 62 12 })), gi, { g0 with sreg := g0.sreg.set 62 12 }, 62, issues (by decide +kernel),
      by decide +kernel⟩,
   ⟨(on ({ g0 with save := { g0.save with inHandler := true } })), gi, { g0 with save := { g0.save with inHandler := true } }, on_8,
      by decide +kernel⟩,
   ⟨(on ({ g0 with save := { g0.save with inHandler := true } })), gi, { g0 with save := { g0.save with inHandler := true } }, 65535,
      on_8, by decide +kernel⟩,
   ⟨(on g0), gi, g0, on_g0, by decide +kernel⟩,
   ⟨(on g0), gi, g0, true, 0, on_g0, by decide +kernel⟩,
   ⟨on g0, gi, { g0 with save := { g0.save with inHandler := true } }, 5, 0, 1, true, by decide +kernel⟩,
   ⟨on g0, gi, g0, 5, 0, 1, true, by decide +kernel⟩,
   ⟨on g0, gi, { g0 with save := { g0.save with handler := 8 } }, 6, 0, 1, true, by decide +kernel⟩,
   ⟨on g0, gi, { g0 with save := { g0.save with handler := 8 }, sreg := g0.sreg.set 63 131072 }, 0xB, 0, 1, true, by decide +kernel⟩,
   ⟨mapped { g0 with save := { g0.save with parked := true }, parkVas := [0] }, 15, 3, 15,
      { g0 with save := { g0.save with parked := true }, parkVas := [0] }, by decide +kernel⟩,
   ⟨({ mapped { g0 with save := { g0.save with parked := true }, parkVas := [0] } with mem := { up.mem with bytes := [(95 * 2 ^ 31, 8)] } }),
      15, 3, 15, { g0 with save := { g0.save with parked := true }, parkVas := [0] }, by decide +kernel⟩,
   ⟨on ({ g0 with save := { g0.save with parked := true } }), 15, 3, 15, { g0 with save := { g0.save with parked := true } },
      by decide +kernel⟩,
   ⟨up, 15, 3, 15, by decide +kernel⟩⟩

theorem witness_TalliesAct :
    (∃ (s : State) (i : GIns) (g : Group) (t : TallyOp), let w := s.issuing i g; ∃ n : Nat, Issues s i g ∧ t.ok = true ∧ w.tallyRef
      g.part (g.s t.st) = .own n ∧ g.blocks (tallyNeed t true false) = false) ∧
    (∃ (s : State) (i : GIns) (g : Group) (t : TallyOp), let w := s.issuing i g; ∃ n : Nat, Issues s i g ∧ t.ok = true ∧ w.tallyRef
      g.part (g.s t.st) = .own n ∧ g.blocks (tallyNeed t false true) = false) ∧
    (∃ (s : State) (i : GIns) (g : Group) (t : TallyOp), let w := s.issuing i g; ∃ n : Nat, Issues s i g ∧ t.ok = true ∧ w.tallyRef
      g.part (g.s t.st) = .own n ∧ g.blocks (tallyNeed t true true) = false) ∧
    (∃ (s : State) (i : GIns) (g : Group) (t : TallyOp), let w := s.issuing i g; let x := g.s t.ss;
      let waits : Prop := g.blocks (tallyNeed t false false) = false; ∃ n : Nat, let v := w.tallyVal n; Issues s i g ∧ t.ok = true ∧
      w.tallyRef g.part (g.s t.st) = .own n ∧ waits ∧ waitHolds false v x = true) ∧
    (∃ (s : State) (i : GIns) (g : Group) (t : TallyOp), let w := s.issuing i g; let x := g.s t.ss;
      let waits : Prop := g.blocks (tallyNeed t false false) = false; ∃ n : Nat, let v := w.tallyVal n; Issues s i g ∧ t.ok = true ∧
      w.tallyRef g.part (g.s t.st) = .own n ∧ waits ∧ waitHolds true v x = true) ∧
    (∃ (s : State) (i : GIns) (g : Group) (t : TallyOp), let w := s.issuing i g; let x := g.s t.ss;
      let waits : Prop := g.blocks (tallyNeed t false false) = false; ∃ n : Nat, let v := w.tallyVal n; Issues s i g ∧ t.ok = true ∧
      w.tallyRef g.part (g.s t.st) = .own n ∧ waits ∧ waitHolds false v x = false) ∧
    (∃ (s : State) (i : GIns) (g : Group) (t : TallyOp), let w := s.issuing i g; let x := g.s t.ss;
      let waits : Prop := g.blocks (tallyNeed t false false) = false; ∃ n : Nat, let v := w.tallyVal n; Issues s i g ∧ t.ok = true ∧
      w.tallyRef g.part (g.s t.st) = .own n ∧ waits ∧ waitHolds true v x = false) ∧
    (∃ (s : State) (i : GIns) (g : Group) (t : TallyOp), let w := s.issuing i g; ∃ (pos : Nat) (n : Nat), Issues s i g ∧ t.ok = true ∧
      w.tallyRef g.part (g.s t.st) = .far pos n ∧ g.blocks (tallyNeed t true false) = false) ∧
    (∃ (s : State) (i : GIns) (g : Group) (t : TallyOp), let w := s.issuing i g; ∃ (pos : Nat) (n : Nat), Issues s i g ∧ t.ok = true ∧
      w.tallyRef g.part (g.s t.st) = .far pos n ∧ g.blocks (tallyNeed t false true) = false) ∧
    (∃ (s : State) (i : GIns) (g : Group) (t : TallyOp), let w := s.issuing i g; ∃ (pos : Nat) (n : Nat), Issues s i g ∧ t.ok = true ∧
      w.tallyRef g.part (g.s t.st) = .far pos n ∧ g.blocks (tallyNeed t true true) = false) ∧
    (∃ (s : State) (i : GIns) (g : Group) (t : TallyOp), let w := s.issuing i g;
      let waits : Prop := g.blocks (tallyNeed t false false) = false; ∃ (pos : Nat) (n : Nat), Issues s i g ∧ t.ok = true ∧ w.tallyRef
      g.part (g.s t.st) = .far pos n ∧ waits) ∧
    (∃ (s : State) (i : GIns) (g : Group) (t : TallyOp), let w := s.issuing i g; Issues s i g ∧ t.ok = true ∧ w.tallyRef g.part (g.s
      t.st) = .none ∧ g.blocks (tallyNeed t true false) = false) ∧
    (∃ (s : State) (i : GIns) (g : Group) (t : TallyOp), let w := s.issuing i g; Issues s i g ∧ t.ok = true ∧ w.tallyRef g.part (g.s
      t.st) = .none ∧ g.blocks (tallyNeed t false true) = false) ∧
    (∃ (s : State) (i : GIns) (g : Group) (t : TallyOp), let w := s.issuing i g; Issues s i g ∧ t.ok = true ∧ w.tallyRef g.part (g.s
      t.st) = .none ∧ g.blocks (tallyNeed t true true) = false) ∧
    (∃ (s : State) (i : GIns) (g : Group) (t : TallyOp), let w := s.issuing i g;
      let waits : Prop := g.blocks (tallyNeed t false false) = false; Issues s i g ∧ t.ok = true ∧ w.tallyRef g.part (g.s t.st) = .none ∧
      waits) ∧
    (∃ (s : State) (i : GIns) (g : Group) (t : TallyOp), Issues s i g ∧ t.ok = true ∧ g.blocks (tallyNeed t true true) = true) ∧
    (∃ (s : State) (i : GIns) (g : Group) (t : TallyOp), Issues s i g ∧ t.ok = true ∧ g.blocks (tallyNeed t false true) = true) ∧
    (∃ (s : State) (i : GIns) (g : Group) (t : TallyOp) (c : Instr), Issues s i g ∧ g.pending = [] ∧ t.ok = false ∧ c ∈ ([.tld i t, .tadd
      i t, .taddr i t, .tset i t, .twaitGe i t, .twaitEq i t] : List Instr)) ∧
    (∃ (s : State) (m q k : Nat) (g : Group) (x : TallyWait), s.groupAt m q k = some g ∧ g.wait = .tally x) ∧
    (∃ (s : State) (r : Nat) (sub : Nat) (p : Nat) (h : Sheet), s.sheetAt r sub = some h ∧ s.ringOwner r = some p ∧ h.waitOk = false ∧
      h.started = false ∧ h.waitTally ≠ 0xFFFF) ∧
    (∃ (s : State) (m : Nat) (q : Nat) (k : Nat) (g : Group) (x : TallyWait) (pos : Nat), m < 16 ∧ q < 4 ∧ k < 16 ∧ s.groupAt m q k =
      some g ∧ g.wait = .tally x ∧ x.polling = true ∧ x.row = some pos) ∧
    (∃ (s : State) (m : Nat) (q : Nat) (k : Nat), m < 16 ∧ q < 4 ∧ k < 16 ∧ s.groupAt m q k = none) ∧
    (∃ (s : State) (n : Nat), n < 512 ∧ (∀ m, m < 16 → s.residents m = []) ∧ s.tally.watches = []) ∧
    (∃ (s : State) (n : Nat) (_ : Nat), ∃ (k : Nat), n < 512 ∧ (∀ m, m < 16 → s.residents m = []) ∧ s.tally.watches = [] ∧ k ≠ n) ∧
    (∃ (v : Nat) (x : Nat), v < 2 ^ 32 ∧ x < 2 ^ 32) :=
  ⟨⟨(on ({ g0 with sreg := ((g0.sreg.set 0 511).set 1 0) })), gi, { g0 with sreg := ((g0.sreg.set 0 511).set 1 0) },
      { sd := 63, st := 0, ss := 1 }, 511, on_9, by decide +kernel⟩,
   ⟨(on ({ g0 with sreg := ((g0.sreg.set 0 511).set 1 0) })), gi, { g0 with sreg := ((g0.sreg.set 0 511).set 1 0) },
      { sd := 63, st := 0, ss := 1 }, 511, on_9, by decide +kernel⟩,
   ⟨(on ({ g0 with sreg := ((g0.sreg.set 0 511).set 1 0) })), gi, { g0 with sreg := ((g0.sreg.set 0 511).set 1 0) },
      { sd := 63, st := 0, ss := 1 }, 511, on_9, by decide +kernel⟩,
   ⟨(on ({ g0 with sreg := ((g0.sreg.set 0 511).set 1 0) })), gi, { g0 with sreg := ((g0.sreg.set 0 511).set 1 0) },
      { sd := 63, st := 0, ss := 1 }, 511, on_9, by decide +kernel⟩,
   ⟨(on ({ g0 with sreg := ((g0.sreg.set 0 511).set 1 0) })), gi, { g0 with sreg := ((g0.sreg.set 0 511).set 1 0) },
      { sd := 63, st := 0, ss := 1 }, 511, on_9, by decide +kernel⟩,
   ⟨(on ({ g0 with sreg := ((g0.sreg.set 0 511).set 1 1) })), gi, { g0 with sreg := ((g0.sreg.set 0 511).set 1 1) },
      { sd := 63, st := 0, ss := 1 }, 511, on_10, by decide +kernel⟩,
   ⟨(on ({ g0 with sreg := ((g0.sreg.set 0 511).set 1 1) })), gi, { g0 with sreg := ((g0.sreg.set 0 511).set 1 1) },
      { sd := 63, st := 0, ss := 1 }, 511, on_10, by decide +kernel⟩,
   ⟨(on ({ g0 with sreg := ((g0.sreg.set 0 (0x800101FF)).set 1 0) })), gi, { g0 with sreg := ((g0.sreg.set 0 (0x800101FF)).set 1 0) },
      { sd := 63, st := 0, ss := 1 }, 1, 511, issues (by decide +kernel), by decide +kernel⟩,
   ⟨(on ({ g0 with sreg := ((g0.sreg.set 0 (0x800101FF)).set 1 0) })), gi, { g0 with sreg := ((g0.sreg.set 0 (0x800101FF)).set 1 0) },
      { sd := 63, st := 0, ss := 1 }, 1, 511, issues (by decide +kernel), by decide +kernel⟩,
   ⟨(on ({ g0 with sreg := ((g0.sreg.set 0 (0x800101FF)).set 1 0) })), gi, { g0 with sreg := ((g0.sreg.set 0 (0x800101FF)).set 1 0) },
      { sd := 63, st := 0, ss := 1 }, 1, 511, issues (by decide +kernel), by decide +kernel⟩,
   ⟨(on ({ g0 with sreg := ((g0.sreg.set 0 (0x800101FF)).set 1 0) })), gi, { g0 with sreg := ((g0.sreg.set 0 (0x800101FF)).set 1 0) },
      { sd := 63, st := 0, ss := 1 }, 1, 511, issues (by decide +kernel), by decide +kernel⟩,
   ⟨(on ({ g0 with sreg := ((g0.sreg.set 0 495).set 1 0) })), gi, { g0 with sreg := ((g0.sreg.set 0 495).set 1 0) },
      { sd := 63, st := 0, ss := 1 }, issues (by decide +kernel), by decide +kernel⟩,
   ⟨(on ({ g0 with sreg := ((g0.sreg.set 0 495).set 1 0) })), gi, { g0 with sreg := ((g0.sreg.set 0 495).set 1 0) },
      { sd := 63, st := 0, ss := 1 }, issues (by decide +kernel), by decide +kernel⟩,
   ⟨(on ({ g0 with sreg := ((g0.sreg.set 0 495).set 1 0) })), gi, { g0 with sreg := ((g0.sreg.set 0 495).set 1 0) },
      { sd := 63, st := 0, ss := 1 }, issues (by decide +kernel), by decide +kernel⟩,
   ⟨(on ({ g0 with sreg := ((g0.sreg.set 0 495).set 1 0) })), gi, { g0 with sreg := ((g0.sreg.set 0 495).set 1 0) },
      { sd := 63, st := 0, ss := 1 }, issues (by decide +kernel), by decide +kernel⟩,
   ⟨(on gP), gi, gP, { sd := 63, st := 63, ss := 63 }, on_P, by decide +kernel⟩,
   ⟨(on gP), gi, gP, { sd := 62, st := 61, ss := 63 }, on_P, by decide +kernel⟩,
   ⟨(on g0), gi, g0, { sd := 64, st := 0 }, (.tset gi { sd := 64, st := 0 }), on_g0, by decide +kernel⟩,
   ⟨on ({ g0 with wait := .tally { tally := 511, row := some 1, eq := false, operand := 5, polling := true } }), 15, 3, 15,
      { g0 with wait := .tally { tally := 511, row := some 1, eq := false, operand := 5, polling := true } },
      { tally := 511, row := some 1, eq := false, operand := 5, polling := true }, by decide +kernel⟩,
   ⟨(on g0).updRing 63 fun x => { x with sheets := [{ parseSheet [] .kernel 7 0 with waitTally := 511 }] }, 63, 7, 15,
      { parseSheet [] .kernel 7 0 with waitTally := 511 }, by decide +kernel⟩,
   ⟨on { g0 with wait := .tally { tally := 511, row := some 1, eq := false, operand := 5, polling := true } }, 15, 3, 15,
      { g0 with wait := .tally { tally := 511, row := some 1, eq := false, operand := 5, polling := true } },
      { tally := 511, row := some 1, eq := false, operand := 5, polling := true }, 1, by decide +kernel⟩,
   ⟨up, 15, 3, 15, by decide +kernel⟩,
   ⟨up, 511, by decide +kernel⟩,
   ⟨up, 511, 4294967296, 510, by decide +kernel⟩,
   ⟨0, 0xFFFFFFFF, by decide +kernel⟩⟩

theorem witness_DoorbellsAreTakenOrCounted :
    (∃ (s : State) (vf r : Nat), let x := s.ringAt r; ∃ (v : Reg32), vf < 17 ∧ r < 64 ∧ s.ringOfVf vf r = true ∧ x.setup = true ∧ idxSub
      v.toNat x.subCi ≤ x.size ∧ idxSub v.toNat x.subPi ≤ x.size) ∧
    (∃ (s : State) (vf r : Nat), let x := s.ringAt r; ∃ (v : Reg32), vf < 17 ∧ r < 64 ∧ s.ringOfVf vf r = true ∧ x.setup = true ∧ (x.size
      < idxSub v.toNat x.subCi ∨ x.size < idxSub v.toNat x.subPi)) ∧
    (∃ (s : State) (vf r : Nat), let x := s.ringAt r; ∃ (v : Reg32), vf < 17 ∧ r < 64 ∧ s.ringOfVf vf r = true ∧ x.setup = true ∧ idxSub
      v.toNat x.cplCi ≤ idxSub x.cplPi x.cplCi) ∧
    (∃ (s : State) (vf r : Nat), let x := s.ringAt r; ∃ (v : Reg32), vf < 17 ∧ r < 64 ∧ s.ringOfVf vf r = true ∧ x.setup = true ∧ idxSub
      x.cplPi x.cplCi < idxSub v.toNat x.cplCi) ∧
    (∃ (s : State) (vf r : Nat), let x := s.ringAt r; ∃ (v : Reg32), vf < 17 ∧ r < 64 ∧ s.ringOfVf vf r = true ∧ x.setup = true ∧ idxSub
      v.toNat x.spillCi ≤ idxSub x.spillPi x.spillCi) ∧
    (∃ (s : State) (vf r : Nat), let x := s.ringAt r; ∃ (v : Reg32), vf < 17 ∧ r < 64 ∧ s.ringOfVf vf r = true ∧ x.setup = true ∧ idxSub
      x.spillPi x.spillCi < idxSub v.toNat x.spillCi) ∧
    (∃ (s : State) (vf r : Nat), let x := s.ringAt r; vf < 17 ∧ r < 64 ∧ (s.ringOfVf vf r = false ∨ x.setup = false)) :=
  ⟨⟨on g0, 16, 63, 64, by decide +kernel⟩,
   ⟨on g0, 16, 63, 65, by decide +kernel⟩,
   ⟨on g0, 16, 63, 0, by decide +kernel⟩,
   ⟨on g0, 16, 63, 1, by decide +kernel⟩,
   ⟨on g0, 16, 63, 0, by decide +kernel⟩,
   ⟨on g0, 16, 63, 1, by decide +kernel⟩,
   ⟨up, 16, 63, by decide +kernel⟩⟩

theorem witness_SheetsAreAccepted :
    (∃ (s : State) (r p : Nat), let x := s.ringAt r; ∃ (b : List Byte) (dma : DmaCase), r < 64 ∧ s.ringOwner r = some p ∧ s.fetchTurn =
      some p ∧ x.intake = true ∧ (s.partAt p).state = .started ∧ s.supply.endpoint = .ready ∧ x.subPi ≠ x.subCi ∧ x.outCount < x.outLimit
      ∧ dma ≠ .fetchError ∧ sheetKind b = none) ∧
    (∃ (s : State) (r p : Nat), let x := s.ringAt r; ∃ (b : List Byte) (dma : DmaCase) (k : SheetKind) (off : Nat), r < 64 ∧ s.ringOwner
      r = some p ∧ s.fetchTurn = some p ∧ x.intake = true ∧ (s.partAt p).state = .started ∧ s.supply.endpoint = .ready ∧ x.subPi ≠ x.subCi
      ∧ x.outCount < x.outLimit ∧ dma ≠ .fetchError ∧ sheetKind b = some k ∧ sheetFault b k = some off) ∧
    (∃ (s : State) (r p : Nat), let x := s.ringAt r; ∃ (b : List Byte) (dma : DmaCase) (k : SheetKind),
      let h := { parseSheet b k x.subCi s.now with dmaErr := dma == .completionError }; ∃ v : Status × Nat, r < 64 ∧ s.ringOwner r = some
      p ∧ s.fetchTurn = some p ∧ x.intake = true ∧ (s.partAt p).state = .started ∧ s.supply.endpoint = .ready ∧ x.subPi ≠ x.subCi ∧
      x.outCount < x.outLimit ∧ dma ≠ .fetchError ∧ sheetKind b = some k ∧ sheetFault b k = none ∧ s.sheetRefusal p h = some v) ∧
    (∃ (s : State) (r p : Nat), let x := s.ringAt r; ∃ (b : List Byte) (dma : DmaCase) (k : SheetKind),
      let h := { parseSheet b k x.subCi s.now with dmaErr := dma == .completionError }; r < 64 ∧ s.ringOwner r = some p ∧ s.fetchTurn =
      some p ∧ x.intake = true ∧ (s.partAt p).state = .started ∧ s.supply.endpoint = .ready ∧ x.subPi ≠ x.subCi ∧ x.outCount < x.outLimit
      ∧ dma ≠ .fetchError ∧ sheetKind b = some k ∧ sheetFault b k = none ∧ s.sheetRefusal p h = none) ∧
    (∃ (s : State) (r p : Nat), let x := s.ringAt r; r < 64 ∧ s.ringOwner r = some p ∧ s.fetchTurn = some p ∧ x.intake = true ∧ (s.partAt
      p).state = .started ∧ s.supply.endpoint = .ready ∧ x.subPi ≠ x.subCi ∧ x.outCount < x.outLimit) ∧
    (∃ (s : State) (r p : Nat), let x := s.ringAt r; r < 64 ∧ s.ringOwner r = some p ∧ (s.fetchTurn ≠ some p ∨ x.intake = false ∨
      (s.partAt p).state ≠ .started ∨ s.supply.endpoint ≠ .ready ∨ x.subPi = x.subCi ∨ x.outLimit ≤ x.outCount)) ∧
    (∃ (s : State) (p : Nat), p < 16 ∧ (∃ r ∈ (s.partAt p).rings, s.fetchable r p = true) ∧ (∀ q, q < p → s.sriov.lastFetch < q → ∀ r ∈
      (s.partAt q).rings, s.fetchable r q = false) ∧ s.sriov.lastFetch < p) ∧
    (∃ (s : State) (r : Nat) (_ : List Byte) (_ : Bool), r < 64 ∧ s.ringOwner r = none) :=
  ⟨⟨(on g0).updRing 63 fun x => { x with subPi := 1 }, 63, 15, [4], .ok, by decide +kernel⟩,
   ⟨(on g0).updRing 63 fun x => { x with subPi := 1 }, 63, 15, [1], .ok, .kernel, 8, by decide +kernel⟩,
   ⟨(on g0).updRing 63 fun x => { x with subPi := 1 }, 63, 15, (leBytes 8 0x10001 ++ leBytes 4 1 ++ leBytes 2 1 ++ leBytes 2 1 ++
      leBytes 8 0 ++ leBytes 2 0 ++ leBytes 2 0 ++ leBytes 4 0xFFFFFFFF ++ List.replicate 32 0), .completionError, .kernel, (.precond, 2),
      by decide +kernel⟩,
   ⟨(on g0).updRing 63 fun x => { x with subPi := 1 }, 63, 15, (leBytes 8 1 ++ leBytes 4 1 ++ leBytes 2 1 ++ leBytes 2 1 ++ leBytes 8 0
      ++ leBytes 2 0 ++ leBytes 2 0 ++ leBytes 4 0xFFFFFFFF ++ List.replicate 32 0), .completionError, .kernel, by decide +kernel⟩,
   ⟨(on g0).updRing 63 fun x => { x with subPi := 1 }, 63, 15, by decide +kernel⟩,
   ⟨on g0, 63, 15, by decide +kernel⟩,
   ⟨{ (on g0).updRing 63 fun x => { x with subPi := 1 } with sriov := { (on g0).sriov with lastFetch := 14 } }, 15, by decide +kernel⟩,
   ⟨up, 63, [], true, by decide +kernel⟩⟩

theorem witness_SheetsStartAndEnd :
    (∃ (s : State) (r : Nat) (sub : Nat) (h : Sheet), r < 64 ∧ s.sheetAt r sub = some h ∧ h.kind = .fence ∧ h.waitOk = true ∧ (s.ringAt
      r).earlier sub = []) ∧
    (∃ (s : State) (r : Nat) (sub : Nat) (h : Sheet), r < 64 ∧ s.sheetAt r sub = some h ∧ (h.kind ≠ .fence ∨ h.waitOk = false ∨ (s.ringAt
      r).earlier sub ≠ [])) ∧
    (∃ (s : State) (r : Nat) (sub : Nat) (h : Sheet), r < 64 ∧ s.sheetAt r sub = some h ∧ h.deadlineUs = 0) ∧
    (∃ (s : State) (r : Nat) (sub : Nat) (h : Sheet), r < 64 ∧ s.sheetAt r sub = some h ∧ h.deadlineUs ≠ 0) ∧
    (∃ (s : State) (r : Nat) (sub : Nat), r < 64 ∧ s.sheetAt r sub = none) ∧
    (∃ (s : State) (r : Nat) (sub : Nat) (p : Nat) (h : Sheet), r < 64 ∧ s.ringOwner r = some p ∧ (s.ringAt r).startable = some h ∧
      h.subIndex = sub ∧ s.turnOf p = some r ∧ s.dev.state = .serving) ∧
    (∃ (s : State) (r : Nat) (sub : Nat) (p : Nat) (h : Sheet), r < 64 ∧ s.ringOwner r = some p ∧ (s.ringAt r).startable = some h ∧
      (h.subIndex ≠ sub ∨ s.turnOf p ≠ some r ∨ s.dev.state ≠ .serving)) ∧
    (∃ (s : State) (r : Nat) (p : Nat) (h : Sheet), let d := s.descriptor p h; r < 64 ∧ s.ringOwner r = some p ∧ s.dispatching p = some
      (r, h) ∧ s.dev.state = .serving ∧ d.2.2.1 = false) ∧
    (∃ (s : State) (r : Nat) (p : Nat) (h : Sheet), let d := s.descriptor p h; r < 64 ∧ s.ringOwner r = some p ∧ s.dispatching p = some
      (r, h) ∧ s.dev.state = .serving ∧ d.2.2.1 = true ∧ s.bestHost (s.hosts p h d.1) = none) ∧
    (∃ (s : State) (r p : Nat) (h : Sheet), let d := s.descriptor p h;
      let counted (t : State) : State := t.updSheet r h.subIndex fun h => { h with dispatched := h.dispatched + 1 }; ∃ (m : Nat) (q : Nat)
      (k : Nat) (gran : List Nat),
      let s2 := counted (s.updQuarter m q fun x => { x with slots := Table.put x.slots k (some (newGroup p r h d.1 d.2.1 d.2.2.2 gran)) });
      let s3 : State := { s2 with thm := { s2.thm with warming := if s2.rampMode = true then s2.thm.warming &&& ~~~ BitVec.ofNat 16 (2 ^ m) else 0 } };
      r < 64 ∧ s.ringOwner r = some p ∧ s.dispatching p = some (r, h) ∧ s.dev.state = .serving ∧ d.2.2.1 = true ∧ s.bestHost (s.hosts p h
      d.1) = some (m, q, k, gran) ∧ (s3.mouldAt m).state = .running) ∧
    (∃ (s : State) (r p : Nat) (h : Sheet), let d := s.descriptor p h;
      let counted (t : State) : State := t.updSheet r h.subIndex fun h => { h with dispatched := h.dispatched + 1 }; ∃ (m : Nat) (q : Nat)
      (k : Nat) (gran : List Nat),
      let s2 := counted (s.updQuarter m q fun x => { x with slots := Table.put x.slots k (some (newGroup p r h d.1 d.2.1 d.2.2.2 gran)) });
      let s3 : State := { s2 with thm := { s2.thm with warming := if s2.rampMode = true then s2.thm.warming &&& ~~~ BitVec.ofNat 16 (2 ^ m) else 0 } };
      r < 64 ∧ s.ringOwner r = some p ∧ s.dispatching p = some (r, h) ∧ s.dev.state = .serving ∧ d.2.2.1 = true ∧ s.bestHost (s.hosts p h
      d.1) = some (m, q, k, gran) ∧ (s3.mouldAt m).state ≠ .running) ∧
    (∃ (s : State) (r : Nat) (p : Nat) (h : Sheet) (sub : Nat) (r1 : Nat), r < 64 ∧ s.ringOwner r = some p ∧ s.dispatching p = some (r1,
      h) ∧ (r1 ≠ r ∨ h.subIndex ≠ sub ∨ s.dev.state ≠ .serving)) ∧
    (∃ (s : State) (r : Nat), let x := s.ringAt r; let bound : Nat := if x.drainBound = 0 then 10000 else x.drainBound; ∃ (c :
      Completion) (rest : List Completion), r < 64 ∧ x.overflow = c :: rest ∧ x.setup = true ∧ bound * 32768 < (s.now - c.since) * 1000000
      ∧ x.overdue = false) ∧
    (∃ (s : State) (r : Nat), let x := s.ringAt r; r < 64 ∧ x.overflow = [] ∧ x.overdue = true) ∧
    (∃ (s : State) (r : Nat), let x := s.ringAt r; r < 64 ∧ x.overflow = [] ∧ x.overdue = false) ∧
    (∃ (s : State) (p : Nat), p < 16 ∧ (s.partAt p).state = .draining) ∧
    (∃ (s : State) (p : Nat), p < 16 ∧ (s.partAt p).state ≠ .draining) ∧
    (∃ (parts : Nat), 0 < parts) ∧
    (∃ (s : State) (since w parts : Nat), let x := (s.elapsed since w parts).1; 0 < parts ∧ x < 2 ^ w - 1) :=
  ⟨⟨(on g0).updRing 63 fun x => { x with sheets := [{ parseSheet [] .fence 7 0 with waitTally := 0xFFFF, waitOk := true }] }, 63, 7,
      { parseSheet [] .fence 7 0 with waitTally := 0xFFFF, waitOk := true }, by decide +kernel⟩,
   ⟨(on g0).updRing 63 fun x => { x with sheets := [{ parseSheet [] .fence 7 0 with waitTally := 0xFFFF }] }, 63, 7,
      { parseSheet [] .fence 7 0 with waitTally := 0xFFFF }, by decide +kernel⟩,
   ⟨(on g0).updRing 63 fun x => { x with sheets := [{ parseSheet [] .nop 7 0 with waitTally := 0xFFFF }] }, 63, 7,
      { parseSheet [] .nop 7 0 with waitTally := 0xFFFF }, by decide +kernel⟩,
   ⟨(on g0).updRing 63 fun x => { x with sheets := [{ parseSheet [] .nop 7 0 with waitTally := 0xFFFF, deadlineUs := 60000000 }] }, 63,
      7, { parseSheet [] .nop 7 0 with waitTally := 0xFFFF, deadlineUs := 60000000 }, by decide +kernel⟩,
   ⟨up, 63, 7, by decide +kernel⟩,
   ⟨(on g0).updRing 63 fun x =>
      { x with sheets := [{ parseSheet (leBytes 8 1 ++ leBytes 4 1 ++ leBytes 2 1 ++ leBytes 2 1 ++ leBytes 8 0 ++ leBytes 2 0 ++ leBytes 2 0 ++ leBytes 4 0xFFFFFFFF ++ List.replicate 32 0) .kernel 7 0 with waitTally := 0xFFFF, waitOk := true }] },
      63, 7, 15,
      { parseSheet (leBytes 8 1 ++ leBytes 4 1 ++ leBytes 2 1 ++ leBytes 2 1 ++ leBytes 8 0 ++ leBytes 2 0 ++ leBytes 2 0 ++ leBytes 4 0xFFFFFFFF ++ List.replicate 32 0) .kernel 7 0 with waitTally := 0xFFFF, waitOk := true },
      by decide +kernel⟩,
   ⟨(on g0).updRing 63 fun x =>
      { x with sheets := [{ parseSheet (leBytes 8 1 ++ leBytes 4 1 ++ leBytes 2 1 ++ leBytes 2 1 ++ leBytes 8 0 ++ leBytes 2 0 ++ leBytes 2 0 ++ leBytes 4 0xFFFFFFFF ++ List.replicate 32 0) .kernel 7 0 with waitTally := 0xFFFF, waitOk := true }] },
      63, 8, 15,
      { parseSheet (leBytes 8 1 ++ leBytes 4 1 ++ leBytes 2 1 ++ leBytes 2 1 ++ leBytes 8 0 ++ leBytes 2 0 ++ leBytes 2 0 ++ leBytes 4 0xFFFFFFFF ++ List.replicate 32 0) .kernel 7 0 with waitTally := 0xFFFF, waitOk := true },
      by decide +kernel⟩,
   ⟨((on g0).updRing 63 fun x =>
      { x with sheets := [{ parseSheet (leBytes 8 1 ++ leBytes 4 1 ++ leBytes 2 1 ++ leBytes 2 1 ++ leBytes 8 0 ++ leBytes 2 0 ++ leBytes 2 0 ++ leBytes 4 0xFFFFFFFF ++ List.replicate 32 0) .kernel 7 0 with waitTally := 0xFFFF, waitOk := true, started := true }] }).updPart
      15 fun x => { x with image := some { granule := 95, entries := [0], code := leBytes 64 0, total := 4096 } }, 63, 15,
      { parseSheet (leBytes 8 1 ++ leBytes 4 1 ++ leBytes 2 1 ++ leBytes 2 1 ++ leBytes 8 0 ++ leBytes 2 0 ++ leBytes 2 0 ++ leBytes 4 0xFFFFFFFF ++ List.replicate 32 0) .kernel 7 0 with waitTally := 0xFFFF, waitOk := true, started := true },
      by decide +kernel⟩,
   ⟨((((on g0).updRing 63 fun x =>
      { x with sheets := [{ parseSheet (leBytes 8 1 ++ leBytes 4 1 ++ leBytes 2 1 ++ leBytes 2 1 ++ leBytes 8 0 ++ leBytes 2 0 ++ leBytes 2 0 ++ leBytes 4 0xFFFFFFFF ++ List.replicate 32 0) .kernel 7 0 with waitTally := 0xFFFF, waitOk := true, started := true }] }).updPart
      15 fun x => { x with image := some { granule := 95, entries := [0], code := leBytes 64 32, total := 4096 } }).updMould 15 fun m =>
      { m with state := .retired }), 63, 15,
      { parseSheet (leBytes 8 1 ++ leBytes 4 1 ++ leBytes 2 1 ++ leBytes 2 1 ++ leBytes 8 0 ++ leBytes 2 0 ++ leBytes 2 0 ++ leBytes 4 0xFFFFFFFF ++ List.replicate 32 0) .kernel 7 0 with waitTally := 0xFFFF, waitOk := true, started := true },
      by decide +kernel⟩,
   ⟨((on g0).updRing 63 fun x =>
      { x with sheets := [{ parseSheet (leBytes 8 1 ++ leBytes 4 1 ++ leBytes 2 1 ++ leBytes 2 1 ++ leBytes 8 0 ++ leBytes 2 0 ++ leBytes 2 0 ++ leBytes 4 0xFFFFFFFF ++ List.replicate 32 0) .kernel 7 0 with waitTally := 0xFFFF, waitOk := true, started := true }] }).updPart
      15 fun x => { x with image := some { granule := 95, entries := [0], code := leBytes 64 32, total := 4096 } }, 63, 15,
      { parseSheet (leBytes 8 1 ++ leBytes 4 1 ++ leBytes 2 1 ++ leBytes 2 1 ++ leBytes 8 0 ++ leBytes 2 0 ++ leBytes 2 0 ++ leBytes 4 0xFFFFFFFF ++ List.replicate 32 0) .kernel 7 0 with waitTally := 0xFFFF, waitOk := true, started := true },
      15, 0, 0, [], by decide +kernel⟩,
   ⟨(((on g0).updRing 63 fun x =>
      { x with sheets := [{ parseSheet (leBytes 8 1 ++ leBytes 4 1 ++ leBytes 2 1 ++ leBytes 2 1 ++ leBytes 8 0 ++ leBytes 2 0 ++ leBytes 2 0 ++ leBytes 4 0xFFFFFFFF ++ List.replicate 32 0) .kernel 7 0 with waitTally := 0xFFFF, waitOk := true, started := true }] }).updPart
      15 fun x => { x with image := some { granule := 95, entries := [0], code := leBytes 64 32, total := 4096 } }).updMould 15 fun m =>
      { m with state := .stopped }, 63, 15,
      { parseSheet (leBytes 8 1 ++ leBytes 4 1 ++ leBytes 2 1 ++ leBytes 2 1 ++ leBytes 8 0 ++ leBytes 2 0 ++ leBytes 2 0 ++ leBytes 4 0xFFFFFFFF ++ List.replicate 32 0) .kernel 7 0 with waitTally := 0xFFFF, waitOk := true, started := true },
      15, 0, 0, [], by decide +kernel⟩,
   ⟨((on g0).updRing 63 fun x =>
      { x with sheets := [{ parseSheet (leBytes 8 1 ++ leBytes 4 1 ++ leBytes 2 1 ++ leBytes 2 1 ++ leBytes 8 0 ++ leBytes 2 0 ++ leBytes 2 0 ++ leBytes 4 0xFFFFFFFF ++ List.replicate 32 0) .kernel 7 0 with waitTally := 0xFFFF, waitOk := true, started := true }] }).updPart
      15 fun x => { x with image := some { granule := 95, entries := [0], code := leBytes 64 0, total := 4096 } }, 63, 15,
      { parseSheet (leBytes 8 1 ++ leBytes 4 1 ++ leBytes 2 1 ++ leBytes 2 1 ++ leBytes 8 0 ++ leBytes 2 0 ++ leBytes 2 0 ++ leBytes 4 0xFFFFFFFF ++ List.replicate 32 0) .kernel 7 0 with waitTally := 0xFFFF, waitOk := true, started := true },
      8, 63, by decide +kernel⟩,
   ⟨({ up with clocks := { up.clocks with uptime := 328 } }).updRing 63 fun x =>
      { x with overflow := [{ userId := 0, subIndex := 0, status := .ok, detail := 0, trap := false, digital := false, viaOvf := true, elapsed := 0, irq := false, since := 0 }], setup := true },
      63,
      { userId := 0, subIndex := 0, status := .ok, detail := 0, trap := false, digital := false, viaOvf := true, elapsed := 0, irq := false, since := 0 },
      [], by decide +kernel⟩,
   ⟨({ up with clocks := { up.clocks with uptime := 328 } }).updRing 63 fun x => { x with overdue := true }, 63, by decide +kernel⟩,
   ⟨({ up with clocks := { up.clocks with uptime := 328 } }).updRing 63 fun x => { x with overdue := false }, 63, by decide +kernel⟩,
   ⟨up.updPart 15 fun x => { x with state := .draining }, 15, by decide +kernel⟩,
   ⟨up, 15, by decide +kernel⟩,
   ⟨32768, by decide +kernel⟩,
   ⟨up, up.now, 32, 1, by decide +kernel, elapsed_now up⟩⟩

theorem witness_MouldsLeaveAndReturn :
    (∃ (s : State) (m : Nat), m < 16 ∧ (s.mouldAt m).state = .running ∧ s.residents m = [] ∧ s.thm.warming.getLsbD m = false) ∧
    (∃ (s : State) (m : Nat), m < 16 ∧ ((s.mouldAt m).state ≠ .running ∨ s.residents m ≠ [] ∨ s.thm.warming.getLsbD m = true)) ∧
    (∃ (s : State) (m : Nat), ∃ (_ : Nat), m < 16 ∧ ((s.mouldAt m).state = .selfTest ∨ (s.mouldAt m).state = .retired)) ∧
    (∃ (s : State) (m : Nat) (p : _), m < 16 ∧ (s.mouldAt m).state ≠ .selfTest ∧ (s.mouldAt m).state ≠ .retired ∧ (s.mouldAt m).part =
      some p) ∧
    (∃ (s : State) (m : Nat) (p : _) (q : _), m < 16 ∧ (s.mouldAt m).state ≠ .selfTest ∧ (s.mouldAt m).state ≠ .retired ∧ (s.mouldAt
      m).part = some p ∧ q < 4 ∧ (∃ k, k < 16 ∧ (s.canIssue m q k).isSome = true)) ∧
    (∃ (s : State) (m : Nat) (q : _), m < 16 ∧ q < 4 ∧ (∀ k, k < 16 → s.canIssue m q k = none)) ∧
    (∃ (s : State) (m : Nat), ∃ (_ : Bool), m < 16 ∧ (s.mouldAt m).state ≠ .selfTest) ∧
    (∃ (s : State) (m p : Nat), m < 16 ∧ (s.mouldAt m).state = .selfTest ∧ (s.mouldAt m).removedFrom = some p ∧ (s.partAt p).state ≠
      .none) ∧
    (∃ (s : State) (m : Nat) (p : Nat), let s0 := s.updMould m fun x => { x with removedFrom := none };
      let s1 := (s0.updMould m fun x => { x with state := .retired, part := none }).log 0x2004 (param [(1, m), (1, Config.codeOf 8 2)]) (some p);
      ∃ (n : Nat), m < 16 ∧ (s.mouldAt m).state = .selfTest ∧ (s.mouldAt m).removedFrom = some p ∧ (s.partAt p).state ≠ .none ∧ (∀ k, k <
      n → (s1.mouldAt k).state ≠ .free) ∧ n < 16 ∧ (s1.mouldAt n).state = .free) ∧
    (∃ (s : State) (m : Nat) (p : Nat), let s0 := s.updMould m fun x => { x with removedFrom := none };
      let s1 := (s0.updMould m fun x => { x with state := .retired, part := none }).log 0x2004 (param [(1, m), (1, Config.codeOf 8 2)]) (some p);
      m < 16 ∧ (s.mouldAt m).state = .selfTest ∧ (s.mouldAt m).removedFrom = some p ∧ (s.partAt p).state ≠ .none ∧ (∀ k, k < 16 →
      (s1.mouldAt k).state ≠ .free) ∧ (s1.partAt p).moulds = []) ∧
    (∃ (s : State) (m : Nat) (p : Nat), let s0 := s.updMould m fun x => { x with removedFrom := none };
      let s1 := (s0.updMould m fun x => { x with state := .retired, part := none }).log 0x2004 (param [(1, m), (1, Config.codeOf 8 2)]) (some p);
      m < 16 ∧ (s.mouldAt m).state = .selfTest ∧ (s.mouldAt m).removedFrom = some p ∧ (s.partAt p).state ≠ .none ∧ (∀ k, k < 16 →
      (s1.mouldAt k).state ≠ .free) ∧ (s1.partAt p).moulds ≠ []) ∧
    (∃ (m : Nat), m < 16) :=
  ⟨⟨up.updMould 15 fun m => { m with state := .running }, 15, by decide +kernel⟩,
   ⟨on g0, 15, by decide +kernel⟩,
   ⟨up.updMould 15 fun m => { m with state := .retired }, 15, 0, by decide +kernel⟩,
   ⟨on g0, 15, 15, by decide +kernel⟩,
   ⟨on g0, 15, 15, 3, by decide +kernel, by decide +kernel, by decide +kernel, by decide +kernel, by decide +kernel, ⟨15,
      by decide +kernel⟩⟩,
   ⟨up, 15, 3, by decide +kernel⟩,
   ⟨up, 15, false, by decide +kernel⟩,
   ⟨(up.updMould 15 fun m => { m with state := .selfTest, removedFrom := some 15 }).updPart 15 fun x => { x with state := .stopped },
      15, 15, by decide +kernel⟩,
   ⟨{ (up.updPart 15 fun x => { x with state := .stopped }) with mould := Vector.ofFn fun k : Fin 16 => { state := if k.val < 14 then .running else if k.val = 14 then .free else .selfTest, removedFrom := if k.val = 15 then some 15 else none } },
      15, 15, 14, by decide +kernel⟩,
   ⟨{ (up.updPart 15 fun x => { x with state := .stopped }) with mould := Vector.ofFn fun k : Fin 16 => { state := if k.val = 15 then .selfTest else .running, removedFrom := if k.val = 15 then some 15 else none } },
      15, 15, by decide +kernel⟩,
   ⟨{ (up.updPart 15 fun x => { x with state := .stopped, moulds := [14] }) with mould := Vector.ofFn fun k : Fin 16 => { state := if k.val = 15 then .selfTest else .running, removedFrom := if k.val = 15 then some 15 else none } },
      15, 15, by decide +kernel⟩,
   ⟨15, by decide +kernel⟩⟩

set_option maxRecDepth 10000 in
theorem witness_ScorerRunsBatches :
    (∃ (s : State) (i : GIns) (g : Group) (rs : Nat), Issues s i g ∧ g.blocks (sNeed [rs, rs + 1]) = false ∧ 63 ≤ rs) ∧
    (∃ (s : State) (i : GIns) (g : Group) (rs : Nat), Issues s i g ∧ g.blocks (sNeed [rs, rs + 1]) = true) ∧
    (∃ (s : State) (i : GIns) (g : Group), let w := s.issuing i g; ∃ (rs : Nat) (d : Nat) (res : Nat) (t : State) (u : State),
      let desc := t.memRead d 128; let x := parseDesc desc; Issues s i g ∧ g.blocks (sNeed [rs, rs + 1]) = false ∧ rs < 63 ∧ w.scoreTarget
      i g false (g.s rs + 2 ^ 32 * g.s (rs + 1)) = (.mem d, t) ∧ t.isPoisoned (d / 64) = false ∧ t.isPoisoned (d / 64 + 1) = false ∧
      t.scoreTarget i g true x.res = (.mem res, u) ∧ 4 ≤ u.outstandingOf i.mould i.quarter i.slot) ∧
    (∃ (s : State) (i : GIns) (g : Group), let w := s.issuing i g; ∃ (rs : Nat) (d : Nat) (res : Nat) (t : State) (u : State),
      let desc := t.memRead d 128; let x := parseDesc desc; let path := u.pathOf g.part x.forceDigital; Issues s i g ∧ g.blocks (sNeed
      [rs, rs + 1]) = false ∧ rs < 63 ∧ w.scoreTarget i g false (g.s rs + 2 ^ 32 * g.s (rs + 1)) = (.mem d, t) ∧ t.isPoisoned (d / 64) =
      false ∧ t.isPoisoned (d / 64 + 1) = false ∧ t.scoreTarget i g true x.res = (.mem res, u) ∧ path = .optical ∧ 64 ≤ (Table.at
      u.wmk.queue g.part []).length) ∧
    (∃ (s : State) (i : GIns) (g : Group), let w := s.issuing i g; ∃ (rs : Nat) (d : Nat) (res : Nat) (t : State) (u : State),
      let desc := t.memRead d 128; let x := parseDesc desc; let path := u.pathOf g.part x.forceDigital; Issues s i g ∧ g.blocks (sNeed
      [rs, rs + 1]) = false ∧ rs < 63 ∧ w.scoreTarget i g false (g.s rs + 2 ^ 32 * g.s (rs + 1)) = (.mem d, t) ∧ t.isPoisoned (d / 64) =
      false ∧ t.isPoisoned (d / 64 + 1) = false ∧ t.scoreTarget i g true x.res = (.mem res, u) ∧ u.outstandingOf i.mould i.quarter i.slot
      < 4 ∧ path = .digital) ∧
    (∃ (s : State) (i : GIns) (g : Group), let w := s.issuing i g; ∃ (rs : Nat) (d : Nat) (res : Nat) (t : State) (u : State),
      let desc := t.memRead d 128; let x := parseDesc desc; let path := u.pathOf g.part x.forceDigital; Issues s i g ∧ g.blocks (sNeed
      [rs, rs + 1]) = false ∧ rs < 63 ∧ w.scoreTarget i g false (g.s rs + 2 ^ 32 * g.s (rs + 1)) = (.mem d, t) ∧ t.isPoisoned (d / 64) =
      false ∧ t.isPoisoned (d / 64 + 1) = false ∧ t.scoreTarget i g true x.res = (.mem res, u) ∧ u.outstandingOf i.mould i.quarter i.slot
      < 4 ∧ path = .optical ∧ (Table.at u.wmk.queue g.part []).length < 64) ∧
    (∃ (s : State) (i : GIns) (g : Group), let w := s.issuing i g; ∃ (rs : Nat) (d : Nat) (res : Nat) (t : State) (u : State),
      let desc := t.memRead d 128; let x := parseDesc desc; let path := u.pathOf g.part x.forceDigital; Issues s i g ∧ g.blocks (sNeed
      [rs, rs + 1]) = false ∧ rs < 63 ∧ w.scoreTarget i g false (g.s rs + 2 ^ 32 * g.s (rs + 1)) = (.mem d, t) ∧ t.isPoisoned (d / 64) =
      false ∧ t.isPoisoned (d / 64 + 1) = false ∧ t.scoreTarget i g true x.res = (.mem res, u) ∧ u.outstandingOf i.mould i.quarter i.slot
      < 4 ∧ path = .none) ∧
    (∃ (s : State) (i : GIns) (g : Group), let w := s.issuing i g; ∃ (n : Nat), Issues s i g ∧ n ≤ 3 ∧ w.outstandingOf i.mould i.quarter
      i.slot ≤ n) ∧
    (∃ (s : State) (i : GIns) (g : Group), let w := s.issuing i g; ∃ (n : Nat), Issues s i g ∧ n ≤ 3 ∧ n < w.outstandingOf i.mould
      i.quarter i.slot) ∧
    (∃ (s : State) (i : GIns) (g : Group), ∃ (n : Nat), Issues s i g ∧ 3 < n) ∧
    (∃ (s : State) (p : Nat) (force : Bool), ((s.partAt p).optical = false ∨ force = true)) ∧
    (∃ (s : State) (p : Nat), (s.partAt p).optical = true ∧ s.wmk.state = .on ∧ s.wmk.stopping = false) ∧
    (∃ (s : State) (p : Nat), (s.partAt p).optical = true ∧ (s.wmk.state ≠ .on ∨ s.wmk.stopping = true)) ∧
    (∃ (s : State) (p : Nat) (b : Batch) (rest : List Batch), s.wmk.state ≠ .off ∧ s.insvcCount ≠ 0 ∧ s.nextBatchOf = some p ∧ Table.at
      s.wmk.queue p [] = b :: rest) ∧
    (∃ (s : State) (p q : Nat), s.nextBatchOf = some p ∧ q ∈ s.batchReady ∧ 0 < (s.partAt q).wmk ∧ Table.at s.wmk.passed p 0 < 16) ∧
    (∃ (s : State), (s.wmk.state = .off ∨ s.insvcCount = 0 ∨ s.nextBatchOf = none)) ∧
    (∃ (s : State) (p : Nat) (b : Batch), s.wmk.flight.find? (fun b => b.part == p) = some b ∧ b.discard = true) ∧
    (∃ (s : State) (p : Nat) (b : Batch), s.wmk.flight.find? (fun b => b.part == p) = some b ∧ b.discard = false) ∧
    (∃ (s : State) (n : Nat) (b : Batch), s.wmk.digitals[n]? = some b) ∧
    (∃ (s : State) (_ : Nat), s.wmk.flight = []) ∧
    (∃ (s : State) (n : Nat), s.wmk.digitals.length ≤ n) ∧
    (∃ (_ : State) (b : Batch) (v : Verdict), v.status = .ok ∧ (parseDesc b.desc).sigTally = 0xFFFF) :=
  ⟨⟨(on g0), gi, g0, 63, on_g0, by decide +kernel⟩,
   ⟨(on gP), gi, gP, 62, on_P, by decide +kernel⟩,
   ⟨(sS false .off 4 0), gi, gS, 62, (95 * 2 ^ 31 + 0x3FFF80), (95 * 2 ^ 31 + 0x200000), tS (sS false .off 4 0), uS (sS false .off 4
      0), on_11, by decide +kernel, by decide +kernel, pair (by decide +kernel), by decide +kernel, by decide +kernel, (score_res (sS
      false .off 4 0) (fun u => 4 ≤ u.outstandingOf 15 3 15) (by decide +kernel)).1, (score_res (sS false .off 4 0) (fun u => 4 ≤
      u.outstandingOf 15 3 15) (by decide +kernel)).2⟩,
   ⟨(sS true .on 0 64), gi, gS, 62, (95 * 2 ^ 31 + 0x3FFF80), (95 * 2 ^ 31 + 0x200000), tS (sS true .on 0 64), uS (sS true .on 0 64),
      issues (by decide +kernel), by decide +kernel, by decide +kernel, pair (by decide +kernel), by decide +kernel, by decide +kernel,
      (score_res (sS true .on 0 64) (fun u => u.pathOf 15 (parseDesc ((tS (sS true .on 0 64)).memRead (95 * 2 ^ 31 + 0x3FFF80)
      128)).forceDigital = .optical ∧ 64 ≤ (Table.at u.wmk.queue 15 []).length) (by decide +kernel)).1, (score_res (sS true .on 0 64) (fun
      u => u.pathOf 15 (parseDesc ((tS (sS true .on 0 64)).memRead (95 * 2 ^ 31 + 0x3FFF80) 128)).forceDigital = .optical ∧ 64 ≤ (Table.at
      u.wmk.queue 15 []).length) (by decide +kernel)).2⟩,
   ⟨(sS false .off 3 0), gi, gS, 62, (95 * 2 ^ 31 + 0x3FFF80), (95 * 2 ^ 31 + 0x200000), tS (sS false .off 3 0), uS (sS false .off 3
      0), on_12, by decide +kernel, by decide +kernel, pair (by decide +kernel), by decide +kernel, by decide +kernel, (score_res (sS
      false .off 3 0) (fun u => u.outstandingOf 15 3 15 < 4 ∧ u.pathOf 15 (parseDesc ((tS (sS false .off 3 0)).memRead (95 * 2 ^ 31 +
      0x3FFF80) 128)).forceDigital = .digital) (by decide +kernel)).1, (score_res (sS false .off 3 0) (fun u => u.outstandingOf 15 3 15 <
      4 ∧ u.pathOf 15 (parseDesc ((tS (sS false .off 3 0)).memRead (95 * 2 ^ 31 + 0x3FFF80) 128)).forceDigital = .digital)
      (by decide +kernel)).2⟩,
   ⟨(sS true .on 3 60), gi, gS, 62, (95 * 2 ^ 31 + 0x3FFF80), (95 * 2 ^ 31 + 0x200000), tS (sS true .on 3 60), uS (sS true .on 3 60),
      issues (by decide +kernel), by decide +kernel, by decide +kernel, pair (by decide +kernel), by decide +kernel, by decide +kernel,
      (score_res (sS true .on 3 60) (fun u => u.outstandingOf 15 3 15 < 4 ∧ u.pathOf 15 (parseDesc ((tS (sS true .on 3 60)).memRead (95 *
      2 ^ 31 + 0x3FFF80) 128)).forceDigital = .optical ∧ (Table.at u.wmk.queue 15 []).length < 64) (by decide +kernel)).1, (score_res (sS
      true .on 3 60) (fun u => u.outstandingOf 15 3 15 < 4 ∧ u.pathOf 15 (parseDesc ((tS (sS true .on 3 60)).memRead (95 * 2 ^ 31 +
      0x3FFF80) 128)).forceDigital = .optical ∧ (Table.at u.wmk.queue 15 []).length < 64) (by decide +kernel)).2⟩,
   ⟨(sS true .off 3 0), gi, gS, 62, (95 * 2 ^ 31 + 0x3FFF80), (95 * 2 ^ 31 + 0x200000), tS (sS true .off 3 0), uS (sS true .off 3 0),
      issues (by decide +kernel), by decide +kernel, by decide +kernel, pair (by decide +kernel), by decide +kernel, by decide +kernel,
      (score_res (sS true .off 3 0) (fun u => u.outstandingOf 15 3 15 < 4 ∧ u.pathOf 15 (parseDesc ((tS (sS true .off 3 0)).memRead (95 *
      2 ^ 31 + 0x3FFF80) 128)).forceDigital = .none) (by decide +kernel)).1, (score_res (sS true .off 3 0) (fun u => u.outstandingOf 15 3
      15 < 4 ∧ u.pathOf 15 (parseDesc ((tS (sS true .off 3 0)).memRead (95 * 2 ^ 31 + 0x3FFF80) 128)).forceDigital = .none)
      (by decide +kernel)).2⟩,
   ⟨(sS false .off 3 0), gi, gS, 3, on_12, by decide +kernel⟩,
   ⟨(sS false .off 4 0), gi, gS, 3, on_11, by decide +kernel⟩,
   ⟨(on g0), gi, g0, 4, on_g0, by decide +kernel⟩,
   ⟨up, 15, true, by decide +kernel⟩,
   ⟨{ up.updPart 15 fun x => { x with optical := true } with wmk := { up.wmk with state := .on } }, 15, by decide +kernel⟩,
   ⟨up.updPart 15 fun x => { x with optical := true }, 15, by decide +kernel⟩,
   ⟨{ up with wmk := { up.wmk with state := .on, insvc := 1, queue := Table.put up.wmk.queue 15 [bS] } }, 15, bS, [],
      by decide +kernel⟩,
   ⟨{ up.updPart 15 fun x => { x with wmk := 1 } with wmk := { up.wmk with state := .on, insvc := 1, queue := Table.put up.wmk.queue 15 [bS] } },
      15, 15, by decide +kernel⟩,
   ⟨up, by decide +kernel⟩,
   ⟨{ up with wmk := { up.wmk with flight := [{ bS with discard := true }] } }, 15, { bS with discard := true }, by decide +kernel⟩,
   ⟨{ up with wmk := { up.wmk with flight := [bS] } }, 15, bS, by decide +kernel⟩,
   ⟨{ up with wmk := { up.wmk with digitals := List.replicate 4 (bS) } }, 3, bS, by decide +kernel⟩,
   ⟨up, 15, by decide +kernel⟩,
   ⟨up, 0, by decide +kernel⟩,
   ⟨up, { bS with desc := List.replicate 128 0xFF }, { status := .ok }, by decide +kernel⟩⟩

theorem witness_StrandsTrainAndLoseLight :
    (∃ (s : State) (k : Nat), let t := s.strandAt k; k < 64 ∧ s.strandProbes k = true ∧ t.probing = true) ∧
    (∃ (s : State) (k : Nat), let t := s.strandAt k; k < 64 ∧ (s.strandProbes k = false ∨ t.probing = false)) ∧
    (∃ (s : State) (k : Nat), let t := s.strandAt k; k < 64 ∧ (s.strandProbes k = true ∨ (t.state = .paused ∧ s.strandMayTrain k = true))) ∧
    (∃ (s : State) (k : Nat), let t := s.strandAt k; k < 64 ∧ s.strandProbes k = false ∧ t.state ≠ .paused ∧ (t.state ≠ .off ∨
      s.strandMayTrain k = false)) ∧
    (∃ (s : State) (k : Nat), let t := s.strandAt k; k < 64 ∧ t.state = .off ∧ s.strandMayTrain k = true) ∧
    (∃ (s : State) (k : Nat), let t := s.strandAt k; k < 64 ∧ (t.state = .dark ∨ t.state = .safety ∨ t.state = .paused) ∧
      s.strandMayTrain k = true ∧ t.tx = .probe ∧ t.presence = true) ∧
    (∃ (s : State) (k : Nat), let t := s.strandAt k; k < 64 ∧ t.presence = false) ∧
    (∃ (s : State) (k : Nat), let t := s.strandAt k; k < 64 ∧ t.state = .training) ∧
    (∃ (s : State) (k : Nat), let t := s.strandAt k; k < 64 ∧ t.state ≠ .training) ∧
    (∃ (s : State) (k : Nat), let t := s.strandAt k; ∃ (_ : BitVec 4) (_ : TsBlock), k < 64 ∧ t.state = .training ∧ t.stage = 0) ∧
    (∃ (s : State) (k : Nat), let t := s.strandAt k; ∃ (l : BitVec 4) (_ : TsBlock), k < 64 ∧ t.state = .training ∧ t.stage = 1 ∧ l ≠ 0) ∧
    (∃ (s : State) (k : Nat), let t := s.strandAt k; ∃ (l : BitVec 4) (_ : TsBlock), k < 64 ∧ t.state = .training ∧ t.stage = 1 ∧ l = 0) ∧
    (∃ (s : State) (k : Nat), let t := s.strandAt k; ∃ (_ : BitVec 4) (b : TsBlock), k < 64 ∧ t.state = .training ∧ 2 ≤ t.stage ∧ b.good
      = false) ∧
    (∃ (s : State) (k : Nat), let t := s.strandAt k; ∃ (_ : BitVec 4) (b : TsBlock), k < 64 ∧ t.state = .training ∧ t.stage = 2 ∧ b.good
      = true ∧ s.tsCause k b ≠ 0) ∧
    (∃ (s : State) (k : Nat), let t := s.strandAt k; ∃ (_ : BitVec 4) (b : TsBlock), k < 64 ∧ t.state = .training ∧ t.stage = 2 ∧ b.good
      = true ∧ s.tsCause k b = 0 ∧ b.creditsOk = true ∧ s.loopback k = false ∧ t.trip = none) ∧
    (∃ (s : State) (k : Nat), let t := s.strandAt k; ∃ (b : TsBlock), k < 64 ∧ t.state = .training ∧ t.stage = 3 ∧ b.good = true) ∧
    (∃ (s : State) (k : Nat), let t := s.strandAt k; ∃ (b : TsBlock), k < 64 ∧ t.state = .training ∧ 4 ≤ t.stage ∧ b.good = true) ∧
    (∃ (s : State) (k : Nat), let t := s.strandAt k; ∃ (r : Nat) (x : Int), k < 64 ∧ x = Table.at t.taps (r % 4) 0 + (if r / 4 = 1 then 1
      else if r / 4 = 2 then -1 else 0) ∧ (r % 4 = 0 ∧ -8 ≤ x ∨ r % 4 = 2 ∧ -12 ≤ x) ∧ x ≤ 0) ∧
    (∃ (k : Nat) (r : Nat), k < 64 ∧ (r % 4 = 1 ∨ r % 4 = 3)) ∧
    (∃ (s : State) (k : Nat), let t := s.strandAt k; ∃ (b : TsBlock), k < 64 ∧ t.state = .miswired ∧ b.good = true ∧ s.tsCause k b ≠ 0) ∧
    (∃ (s : State) (k : Nat), let t := s.strandAt k; ∃ (b : TsBlock), k < 64 ∧ t.state = .miswired ∧ b.good = true ∧ s.tsCause k b = 0) ∧
    (∃ (s : State) (k : Nat), let t := s.strandAt k; ∃ (b : TsBlock), k < 64 ∧ (t.state ≠ .miswired ∨ b.good = false)) ∧
    (∃ (s : State) (k : Nat), let t := s.strandAt k; k < 64 ∧ t.state = .loopTest) ∧
    (∃ (s : State) (k : Nat), let t := s.strandAt k; k < 64 ∧ t.state ≠ .loopTest) ∧
    (∃ (s : State) (k : Nat) (p : Nat), k < 64 ∧ p < 16 ∧ (∀ j, j < 4 → (s.strandAt (4 * p + j)).state ≠ .off ∧ (s.strandAt (4 * p +
      j)).state ≠ .dark)) ∧
    (∃ (k : Nat) (p : Nat), k < 64 ∧ p < 16) ∧
    (∃ (s : State) (k : Nat), let t := s.strandAt k; k < 64 ∧ t.tx = .full ∧ t.state = .up) ∧
    (∃ (s : State) (k : Nat), let t := s.strandAt k; k < 64 ∧ t.tx = .full ∧ (t.state = .training ∨ t.state = .mgmtOnly ∨ t.state =
      .loopTest)) ∧
    (∃ (s : State) (k : Nat), let t := s.strandAt k; k < 64 ∧ (t.tx ≠ .full ∨ t.state = .dark ∨ t.state = .disabled)) ∧
    (∃ (s : State) (k : Nat), let t := s.strandAt k; k < 64 ∧ (t.state = .safety ∨ t.state = .paused ∨ t.state = .training) ∧
      t.trip.isSome = true) ∧
    (∃ (s : State) (k : Nat), let t := s.strandAt k; k < 64 ∧ t.trip = none) ∧
    (∃ (s : State) (k : Nat), let t := s.strandAt k; k < 64 ∧ t.recon = none) ∧
    (∃ (s : State) (k : Nat), let t := s.strandAt k; ∃ (r : Nat × List Sent × List (Nat × Packet)), k < 64 ∧ t.recon = some r) :=
  ⟨⟨({ up with pho := { up.pho with swept := 0xFFFF } }).updStrand 62 fun x => { x with state := .dark, probing := true }, 62,
      by decide +kernel⟩,
   ⟨up, 62, by decide +kernel⟩,
   ⟨({ up with pho := { up.pho with swept := 0xFFFF } }).updStrand 62 fun x => { x with state := .paused }, 62, by decide +kernel⟩,
   ⟨up, 62, by decide +kernel⟩,
   ⟨({ up with pho := { up.pho with swept := 0xFFFF } }).updStrand 62 fun x => { x with state := .off }, 62, by decide +kernel⟩,
   ⟨({ up with pho := { up.pho with swept := 0xFFFF } }).updStrand 62 fun x =>
      { x with state := .dark, tx := .probe, presence := true }, 62, by decide +kernel⟩,
   ⟨up, 62, by decide +kernel⟩,
   ⟨(up).updStrand 62 fun x => { x with state := .training }, 62, by decide +kernel⟩,
   ⟨up, 62, by decide +kernel⟩,
   ⟨(up).updStrand 62 fun x => { x with state := .training }, 62, 15,
      { magic := 0xC41A1664, version := 1, stage := 2, lane := 3, strand := 0, position := 1, rowSize := 2, compat := 0, lanesOk := 15, txReq := 0, linkEpoch := 0, devId := 0, credits := #v[16, 130, 65, 65] },
      by decide +kernel⟩,
   ⟨(up).updStrand 62 fun x => { x with state := .training, stage := 1 }, 62, 8,
      { magic := 0xC41A1664, version := 1, stage := 2, lane := 3, strand := 0, position := 1, rowSize := 2, compat := 0, lanesOk := 15, txReq := 0, linkEpoch := 0, devId := 0, credits := #v[16, 130, 65, 65] },
      by decide +kernel⟩,
   ⟨(up).updStrand 62 fun x => { x with state := .training, stage := 1 }, 62, 0,
      { magic := 0xC41A1664, version := 1, stage := 2, lane := 3, strand := 0, position := 1, rowSize := 2, compat := 0, lanesOk := 15, txReq := 0, linkEpoch := 0, devId := 0, credits := #v[16, 130, 65, 65] },
      by decide +kernel⟩,
   ⟨(up).updStrand 62 fun x => { x with state := .training, stage := 2 }, 62, 0,
      { magic := 0xC41A1664, version := 2, stage := 2, lane := 3, strand := 0, position := 1, rowSize := 2, compat := 0, lanesOk := 15, txReq := 0, linkEpoch := 0, devId := 0, credits := #v[16, 130, 65, 65] },
      by decide +kernel⟩,
   ⟨(up).updStrand 62 fun x => { x with state := .training, stage := 2 }, 62, 0,
      { magic := 0xC41A1664, version := 1, stage := 2, lane := 3, strand := 1, position := 1, rowSize := 2, compat := 0, lanesOk := 15, txReq := 0, linkEpoch := 0, devId := 0, credits := #v[16, 130, 65, 65] },
      by decide +kernel⟩,
   ⟨(up).updStrand 62 fun x => { x with state := .training, stage := 2 }, 62, 0,
      { magic := 0xC41A1664, version := 1, stage := 2, lane := 3, strand := 0, position := 1, rowSize := 2, compat := 0, lanesOk := 15, txReq := 0, linkEpoch := 0, devId := 0, credits := #v[16, 130, 65, 65] },
      by decide +kernel⟩,
   ⟨(up).updStrand 62 fun x => { x with state := .training, stage := 3 }, 62,
      { magic := 0xC41A1664, version := 1, stage := 2, lane := 3, strand := 0, position := 1, rowSize := 2, compat := 0, lanesOk := 15, txReq := 0, linkEpoch := 0, devId := 0, credits := #v[16, 130, 65, 65] },
      by decide +kernel⟩,
   ⟨(up).updStrand 62 fun x => { x with state := .training, stage := 4 }, 62,
      { magic := 0xC41A1664, version := 1, stage := 2, lane := 3, strand := 0, position := 1, rowSize := 2, compat := 0, lanesOk := 15, txReq := 0, linkEpoch := 0, devId := 0, credits := #v[16, 130, 65, 65] },
      by decide +kernel⟩,
   ⟨up, 63, 10, -1, by decide +kernel⟩,
   ⟨63, 3, by decide +kernel⟩,
   ⟨(up).updStrand 62 fun x => { x with state := .miswired }, 62,
      { magic := 0xC41A1664, version := 1, stage := 2, lane := 3, strand := 0, position := 1, rowSize := 4, compat := 0, lanesOk := 15, txReq := 0, linkEpoch := 0, devId := 0, credits := #v[16, 130, 65, 65] },
      by decide +kernel⟩,
   ⟨(up).updStrand 62 fun x => { x with state := .miswired }, 62,
      { magic := 0xC41A1664, version := 1, stage := 2, lane := 3, strand := 0, position := 1, rowSize := 2, compat := 0, lanesOk := 15, txReq := 0, linkEpoch := 0, devId := 0, credits := #v[16, 130, 65, 65] },
      by decide +kernel⟩,
   ⟨up, 62,
      { magic := 0xC41A1664, version := 1, stage := 2, lane := 3, strand := 0, position := 1, rowSize := 2, compat := 0, lanesOk := 15, txReq := 0, linkEpoch := 0, devId := 0, credits := #v[16, 130, 65, 65] },
      by decide +kernel⟩,
   ⟨(up).updStrand 62 fun x => { x with state := .loopTest }, 62, by decide +kernel⟩,
   ⟨up, 62, by decide +kernel⟩,
   ⟨{ up with mesh := { up.mesh with strand := Vector.replicate 64 { state := .up } } }, 62, 15, by decide +kernel⟩,
   ⟨63, 15, by decide +kernel⟩,
   ⟨(up).updStrand 62 fun x => { x with state := .up, tx := .full }, 62, by decide +kernel⟩,
   ⟨(up).updStrand 62 fun x => { x with state := .loopTest, tx := .full }, 62, by decide +kernel⟩,
   ⟨(up).updStrand 62 fun x => { x with tx := .full, state := .disabled }, 62, by decide +kernel⟩,
   ⟨(up).updStrand 62 fun x => { x with state := .training, trip := some (0, true) }, 62, by decide +kernel⟩,
   ⟨up, 62, by decide +kernel⟩,
   ⟨up, 62, by decide +kernel⟩,
   ⟨(up).updStrand 62 fun x => { x with recon := some (1, [], []) }, 62, (1, [], []), by decide +kernel⟩⟩

theorem witness_StrandsCarryFrames :
    (∃ (s : State) (k : Nat), let t := s.strandAt k; k < 64 ∧ t.carries = false) ∧
    (∃ (s : State) (k : Nat), let t := s.strandAt k; ∃ (l : Nat) (_ : Bool) (_ : Frame), k < 64 ∧ t.carries = false ∧ l < 4) ∧
    (∃ (s : State) (k : Nat), let t := s.strandAt k; ∃ l : Nat, k < 64 ∧ t.carries = false ∧ l < 4 ∧ (t.state ≠ .training ∨ t.stage ≠ 3)) ∧
    (∃ (s : State) (k : Nat), let t := s.strandAt k; ∃ (l : Nat) (ts : TsBlock), k < 64 ∧ t.state = .training ∧ t.stage = 3 ∧ l < 4 ∧
      ts.good = true ∧ ts.lane = l) ∧
    (∃ (s : State) (k : Nat), let t := s.strandAt k; ∃ (l : Nat), k < 64 ∧ t.carries = true ∧ t.laneAfter t.lastLane = some l ∧ 16383 ≤
      Table.at t.mcount l 0) ∧
    (∃ (s : State) (k : Nat), let t := s.strandAt k; ∃ (l : Nat), k < 64 ∧ t.carries = true ∧ t.laneAfter t.lastLane = some l ∧ Table.at
      t.mcount l 0 < 16383 ∧ t.replayFrom = none ∧ t.retry.length < 256) ∧
    (∃ (s : State) (k : Nat), let t := s.strandAt k; ∃ (l : Nat), k < 64 ∧ t.carries = true ∧ t.laneAfter t.lastLane = some l ∧ Table.at
      t.mcount l 0 < 16383 ∧ t.replayFrom = none ∧ 256 ≤ t.retry.length) ∧
    (∃ (s : State) (k : Nat), let t := s.strandAt k; ∃ (l : Nat), ∃ (q : Nat) (f : Sent), k < 64 ∧ t.carries = true ∧ t.laneAfter
      t.lastLane = some l ∧ Table.at t.mcount l 0 < 16383 ∧ t.replayFrom = some q ∧ t.retry.find? (fun x => x.frame.seq == q) = some f) ∧
    (∃ (s : State) (k : Nat), let t := s.strandAt k; k < 64 ∧ t.carries = true ∧ t.laneAfter t.lastLane = none) ∧
    (∃ (s : State) (k : Nat), let t := s.strandAt k; ∃ (l : Nat) (_ : Frame), k < 64 ∧ t.carries = true ∧ l < 4 ∧ Table.at t.laneBad l 0
      < 7) ∧
    (∃ (s : State) (k : Nat), let t := s.strandAt k; ∃ (l : Nat) (_ : Frame), k < 64 ∧ t.carries = true ∧ l < 4 ∧ 7 ≤ Table.at t.laneBad
      l 0) ∧
    (∃ (s : State) (k : Nat), let t := s.strandAt k; ∃ l : Nat, k < 64 ∧ t.carries = true ∧ l < 4 ∧ t.lanes.getLsbD l = false ∧ Table.at
      t.laneBad l 0 < 7) ∧
    (∃ (s : State) (k : Nat), let t := s.strandAt k; ∃ (l : Nat) (f : Frame), k < 64 ∧ t.carries = true ∧ l < 4 ∧ t.lanes.getLsbD l =
      true ∧ f.laneDrop = none ∧ f.laneAdd = none ∧ f.nak = none ∧ f.seq ≠ t.rxSeq) ∧
    (∃ (s : State) (k : Nat), let t := s.strandAt k; ∃ (l : Nat) (f : Frame), k < 64 ∧ t.carries = true ∧ l < 4 ∧ t.lanes.getLsbD l =
      true ∧ f.laneDrop = none ∧ f.laneAdd = none ∧ f.nak = none ∧ f.seq = t.rxSeq) ∧
    (∃ (s : State) (k : Nat), let t := s.strandAt k; ∃ (l : Nat) (ts : TsBlock), k < 64 ∧ t.carries = true ∧ l < 4 ∧ ts.good = true ∧
      ts.lane = l) ∧
    (∃ (s : State) (k : Nat), let t := s.strandAt k; ∃ (l : Nat) (ts : TsBlock), k < 64 ∧ t.carries = true ∧ l < 4 ∧ (ts.good = false ∨
      ts.lane ≠ l)) ∧
    (∃ (s : State) (k : Nat), let t := s.strandAt k; ∃ (chl : Nat → Nat) (f : Fill), k < 64 ∧ t.carries = true ∧ (t.choose chl f).isSome
      = true) ∧
    (∃ (s : State) (k : Nat), let t := s.strandAt k; ∃ (chl : Nat → Nat) (f : Fill) (e : Nat × Nat), k < 64 ∧ t.carries = true ∧
      (t.classesFor f).contains 0 = false ∧ t.choose chl f = some e) ∧
    (∃ (s : State) (k : Nat), let t := s.strandAt k; ∃ (chl : Nat → Nat) (f : Fill) (e : Nat × Nat), k < 64 ∧ t.carries = true ∧
      (t.classesFor f).contains 0 = false ∧ t.choose chl f = some e ∧ t.ages = []) ∧
    (∃ (s : State) (k : Nat), let t := s.strandAt k; ∃ (chl : Nat → Nat) (f : Fill) (e : Nat × Nat) (c : Nat) (x : Nat), k < 64 ∧
      t.carries = true ∧ (t.classesFor f).contains 0 = false ∧ t.choose chl f = some e ∧ t.ages = [] ∧ c ∈ t.classesFor f ∧ x ∈ t.sources
      c ∧ 0 < chl x) ∧
    (∃ (s : State) (k : Nat), let t := s.strandAt k; k < 64 ∧ t.carries = true ∧ t.retry = []) ∧
    (∃ (s : State) (k : Nat), let t := s.strandAt k; ∃ (f : Sent) (rest : List Sent), k < 64 ∧ t.carries = true ∧ t.retry = f :: rest ∧
      f.replays < 8) ∧
    (∃ (s : State) (k : Nat), let t := s.strandAt k; ∃ (f : Sent) (rest : List Sent), k < 64 ∧ t.carries = true ∧ t.retry = f :: rest ∧ 8
      ≤ f.replays) ∧
    (∃ (s : State) (k : Nat), let t := s.strandAt k; ∃ (l : Nat), k < 64 ∧ t.carries = true ∧ l < 4 ∧ (Table.at t.droppedAt l
      none).isSome = true) ∧
    (∃ (s : State) (k : Nat), let t := s.strandAt k; ∃ (l : Nat), k < 64 ∧ t.carries = true ∧ l < 4 ∧ t.retested.getLsbD l = true ∧
      t.lanes.getLsbD l = false ∧ t.laneArg = none ∧ Table.at t.readmitAt l none = none) ∧
    (∃ (s : State) (k : Nat), let t := s.strandAt k; ∃ (l : Nat), k < 64 ∧ t.carries = true ∧ l < 4 ∧ (t.retested.getLsbD l = false ∨
      t.laneArg ≠ none)) :=
  ⟨⟨up, 63, by decide +kernel⟩,
   ⟨up, 63, 3, true, { seq := 0, ack := 0, credits := Vector.replicate 4 0, slots := [] }, by decide +kernel⟩,
   ⟨up, 63, 3, by decide +kernel⟩,
   ⟨(up).updStrand 63 fun x => { x with state := .training, stage := 3 }, 63, 3,
      { magic := 0xC41A1664, version := 1, stage := 2, lane := 3, strand := 0, position := 1, rowSize := 2, compat := 0, lanesOk := 15, txReq := 0, linkEpoch := 0, devId := 0, credits := #v[16, 130, 65, 65] },
      by decide +kernel⟩,
   ⟨(up).updStrand 63 fun x => { x with state := .up, tx := .full, lanes := 15, lastLane := 2, mcount := Vector.replicate 4 16383 },
      63, 3, by decide +kernel⟩,
   ⟨(up).updStrand 63 fun x => { x with state := .up, tx := .full, lanes := 15, lastLane := 2, mcount := Vector.replicate 4 16382 },
      63, 3, by decide +kernel⟩,
   ⟨(up).updStrand 63 fun x =>
      { x with state := .up, tx := .full, lanes := 15, lastLane := 2, retry := List.replicate 256 { frame := { seq := 0, ack := 0, credits := Vector.replicate 4 0, slots := [] }, lane := 3, replays := 0 } },
      63, 3, by decide +kernel⟩,
   ⟨(up).updStrand 63 fun x =>
      { x with state := .up, tx := .full, lanes := 15, lastLane := 2, replayFrom := some 65535, retry := [{ frame := { seq := 65535, ack := 0, credits := Vector.replicate 4 0, slots := [] }, lane := 3, replays := 0 }] },
      63, 3, 65535, { frame := { seq := 65535, ack := 0, credits := Vector.replicate 4 0, slots := [] }, lane := 3, replays := 0 },
      by decide +kernel⟩,
   ⟨(up).updStrand 63 fun x => { x with state := .up, tx := .full, lanes := 0 }, 63, by decide +kernel⟩,
   ⟨(up).updStrand 63 fun x => { x with state := .up, tx := .full, lanes := 15, laneBad := Vector.replicate 4 6 }, 63, 3,
      { seq := 0, ack := 0, credits := Vector.replicate 4 0, slots := [] }, by decide +kernel⟩,
   ⟨(up).updStrand 63 fun x => { x with state := .up, tx := .full, lanes := 15, laneBad := Vector.replicate 4 7 }, 63, 3,
      { seq := 0, ack := 0, credits := Vector.replicate 4 0, slots := [] }, by decide +kernel⟩,
   ⟨(up).updStrand 63 fun x => { x with state := .up, tx := .full, lanes := 7, laneBad := Vector.replicate 4 6 }, 63, 3,
      by decide +kernel⟩,
   ⟨(up).updStrand 63 fun x => { x with state := .up, tx := .full, lanes := 15 }, 63, 3,
      { seq := 1, ack := 0, credits := Vector.replicate 4 0, slots := [] }, by decide +kernel⟩,
   ⟨(up).updStrand 63 fun x => { x with state := .up, tx := .full, lanes := 15 }, 63, 3,
      { seq := 0, ack := 0, credits := Vector.replicate 4 0, slots := [] }, by decide +kernel⟩,
   ⟨(up).updStrand 63 fun x => { x with state := .up, tx := .full, lanes := 15 }, 63, 3,
      { magic := 0xC41A1664, version := 1, stage := 2, lane := 3, strand := 0, position := 1, rowSize := 2, compat := 0, lanesOk := 15, txReq := 0, linkEpoch := 0, devId := 0, credits := #v[16, 130, 65, 65] },
      by decide +kernel⟩,
   ⟨(up).updStrand 63 fun x => { x with state := .up, tx := .full, lanes := 15 }, 63, 3,
      { magic := 0xC41A1664, version := 2, stage := 2, lane := 3, strand := 0, position := 1, rowSize := 2, compat := 0, lanesOk := 15, txReq := 0, linkEpoch := 0, devId := 0, credits := #v[16, 130, 65, 65] },
      by decide +kernel⟩,
   ⟨(up).updStrand 63 fun x =>
      { x with state := .up, tx := .full, lanes := 15, txq := Table.put x.txq 1 [(15, { ptype := 0, op := 0, src := 0 })] }, 63, (fun _ =>
      0), {}, by decide +kernel⟩,
   ⟨(up).updStrand 63 fun x =>
      { x with state := .up, tx := .full, lanes := 15, txq := Table.put x.txq 1 [(15, { ptype := 0, op := 0, src := 0 })] }, 63, (fun _ =>
      0), {}, (1, 15), by decide +kernel⟩,
   ⟨(up).updStrand 63 fun x =>
      { x with state := .up, tx := .full, lanes := 15, txq := Table.put x.txq 1 [(15, { ptype := 0, op := 0, src := 0 })] }, 63, (fun _ =>
      0), {}, (1, 15), by decide +kernel⟩,
   ⟨(up).updStrand 63 fun x =>
      { x with state := .up, tx := .full, lanes := 15, txq := Table.put x.txq 1 [(15, { ptype := 0, op := 0, src := 0 })] }, 63, (fun _ =>
      1), {}, (1, 15), 1, 15, by decide +kernel⟩,
   ⟨(up).updStrand 63 fun x => { x with state := .up, tx := .full, lanes := 15 }, 63, by decide +kernel⟩,
   ⟨(up).updStrand 63 fun x =>
      { x with state := .up, tx := .full, lanes := 15, retry := [{ frame := { seq := 0, ack := 0, credits := Vector.replicate 4 0, slots := [] }, lane := 3, replays := 7 }] },
      63, { frame := { seq := 0, ack := 0, credits := Vector.replicate 4 0, slots := [] }, lane := 3, replays := 7 }, [],
      by decide +kernel⟩,
   ⟨(up).updStrand 63 fun x =>
      { x with state := .up, tx := .full, lanes := 15, retry := [{ frame := { seq := 0, ack := 0, credits := Vector.replicate 4 0, slots := [] }, lane := 3, replays := 8 }] },
      63, { frame := { seq := 0, ack := 0, credits := Vector.replicate 4 0, slots := [] }, lane := 3, replays := 8 }, [],
      by decide +kernel⟩,
   ⟨(up).updStrand 63 fun x => { x with state := .up, tx := .full, lanes := 15, droppedAt := Vector.replicate 4 (some 0) }, 63, 3,
      by decide +kernel⟩,
   ⟨(up).updStrand 63 fun x => { x with state := .up, tx := .full, lanes := 7, retested := 8 }, 63, 3, by decide +kernel⟩,
   ⟨(up).updStrand 63 fun x => { x with state := .up, tx := .full, lanes := 15, laneArg := some (3, true) }, 63, 3, by decide +kernel⟩⟩

set_option maxRecDepth 10000 in
theorem witness_MeshRequestsAreServed :
    (∃ (_ : State) (k : Nat) (p : Packet), ∃ (c : Instr), k < 64 ∧
      c ∈ ([.read k p, .write k p, .atomic k p, .tally k p, .watch k p, .watchCancel k p] : List Instr) ∧ (p.ptype = 0 ∨ 6 < p.ptype)) ∧
    (∃ (_ : State) (k : Nat) (p : Packet), ∃ (c : Instr), k < 64 ∧
      c ∈ ([.read k p, .write k p, .atomic k p, .tally k p, .watch k p, .watchCancel k p] : List Instr) ∧ 1 ≤ p.ptype ∧ p.ptype ≤ 6 ∧
      p.requestOk = false) ∧
    (∃ (s : State) (k : Nat) (p : Packet), let w := s.takePacket k p; ∃ (c : Instr), k < 64 ∧
      c ∈ ([.read k p, .write k p, .atomic k p, .tally k p, .watch k p, .watchCancel k p] : List Instr) ∧ 1 ≤ p.ptype ∧ p.ptype ≤ 6 ∧
      p.requestOk = true ∧ w.partOfTag p.tag = none) ∧
    (∃ (s : State) (k : Nat) (p : Packet), let w := s.takePacket k p; ∃ (c : Instr), ∃ (q : Nat), k < 64 ∧
      c ∈ ([.read k p, .write k p, .atomic k p, .tally k p, .watch k p, .watchCancel k p] : List Instr) ∧ 1 ≤ p.ptype ∧ p.ptype ≤ 6 ∧
      p.requestOk = true ∧ w.partOfTag p.tag = some q ∧ (w.partAt q).intakeOff = true) ∧
    (∃ (s : State) (k : Nat) (p : Packet), let w := s.takePacket k p; ∃ (c : Instr), ∃ (q : Nat), ∃ (t : State), k < 64 ∧
      c ∈ ([.read k p, .write k p, .atomic k p, .tally k p, .watch k p, .watchCancel k p] : List Instr) ∧ p.requestOk = true ∧
      w.partOfTag p.tag = some q ∧ (w.partAt q).intakeOff = false ∧ 1 ≤ p.ptype ∧ p.ptype ≤ 3 ∧
      w.admitSectors q (p.ptype != 1) p.addr (if p.ptype = 3 then 1 else p.len / 64) = (none, t)) ∧
    (∃ (s : State) (k : Nat) (p : Packet), let w := s.takePacket k p; ∃ (c : Instr), ∃ (q : Nat), ∃ (ds : List Nat) (t : State), k < 64 ∧
      c ∈ ([.read k p, .write k p, .atomic k p, .tally k p, .watch k p, .watchCancel k p] : List Instr) ∧ p.requestOk = true ∧
      w.partOfTag p.tag = some q ∧ (w.partAt q).intakeOff = false ∧ p.ptype = 1 ∧ w.admitSectors q false p.addr (p.len / 64) = (some ds, t) ∧
      t.mem.poisoned = []) ∧
    (∃ (s : State) (k : Nat) (p : Packet), let w := s.takePacket k p; ∃ (c : Instr), ∃ (q : Nat), ∃ (d : Nat) (t : State), k < 64 ∧
      c ∈ ([.read k p, .write k p, .atomic k p, .tally k p, .watch k p, .watchCancel k p] : List Instr) ∧ p.requestOk = true ∧
      w.partOfTag p.tag = some q ∧ (w.partAt q).intakeOff = false ∧ p.ptype = 2 ∧ p.len = 64 ∧
      w.admitSectors q true p.addr 1 = (some [d], t)) ∧
    (∃ (s : State) (k : Nat) (p : Packet), let w := s.takePacket k p; ∃ (c : Instr), ∃ (q : Nat), ∃ (d : Nat) (t : State) (f : AtomKind),
      k < 64 ∧ c ∈ ([.read k p, .write k p, .atomic k p, .tally k p, .watch k p, .watchCancel k p] : List Instr) ∧ p.requestOk = true ∧
      w.partOfTag p.tag = some q ∧ (w.partAt q).intakeOff = false ∧ p.ptype = 3 ∧ w.admitSectors q true p.addr 1 = (some [d], t) ∧
      t.mem.poisoned = [] ∧ AtomKind.ofCode p.op = some f) ∧
    (∃ (s : State) (k : Nat) (p : Packet), let w := s.takePacket k p; ∃ (c : Instr), ∃ (q : Nat), k < 64 ∧
      c ∈ ([.read k p, .write k p, .atomic k p, .tally k p, .watch k p, .watchCancel k p] : List Instr) ∧ p.requestOk = true ∧
      w.partOfTag p.tag = some q ∧ (w.partAt q).intakeOff = false ∧ 4 ≤ p.ptype ∧ p.ptype ≤ 6 ∧
      (p.addr < 256 ∨ w.holdsTally q p.addr = false)) ∧
    (∃ (s : State) (k : Nat) (p : Packet), let w := s.takePacket k p; ∃ (c : Instr), ∃ (q : Nat), k < 64 ∧
      c ∈ ([.read k p, .write k p, .atomic k p, .tally k p, .watch k p, .watchCancel k p] : List Instr) ∧ p.requestOk = true ∧
      w.partOfTag p.tag = some q ∧ (w.partAt q).intakeOff = false ∧ 256 ≤ p.addr ∧ w.holdsTally q p.addr = true ∧ p.ptype = 4 ∧ p.op = 0) ∧
    (∃ (s : State) (k : Nat) (p : Packet), let w := s.takePacket k p; ∃ (c : Instr), ∃ (q : Nat), k < 64 ∧
      c ∈ ([.read k p, .write k p, .atomic k p, .tally k p, .watch k p, .watchCancel k p] : List Instr) ∧ p.requestOk = true ∧
      w.partOfTag p.tag = some q ∧ (w.partAt q).intakeOff = false ∧ 256 ≤ p.addr ∧ w.holdsTally q p.addr = true ∧ p.ptype = 4 ∧ p.op = 1) ∧
    (∃ (s : State) (k : Nat) (p : Packet), let w := s.takePacket k p; ∃ (c : Instr), ∃ (q : Nat), k < 64 ∧
      c ∈ ([.read k p, .write k p, .atomic k p, .tally k p, .watch k p, .watchCancel k p] : List Instr) ∧ p.requestOk = true ∧
      w.partOfTag p.tag = some q ∧ (w.partAt q).intakeOff = false ∧ 256 ≤ p.addr ∧ w.holdsTally q p.addr = true ∧ p.ptype = 4 ∧ p.op = 2) ∧
    (∃ (s : State) (k : Nat) (p : Packet), let w := s.takePacket k p; ∃ (c : Instr), ∃ (q : Nat), k < 64 ∧
      c ∈ ([.read k p, .write k p, .atomic k p, .tally k p, .watch k p, .watchCancel k p] : List Instr) ∧ p.requestOk = true ∧
      w.partOfTag p.tag = some q ∧ (w.partAt q).intakeOff = false ∧ 256 ≤ p.addr ∧ w.holdsTally q p.addr = true ∧ p.ptype = 4 ∧ p.op = 3) ∧
    (∃ (s : State) (k : Nat) (p : Packet), let w := s.takePacket k p; ∃ (c : Instr), ∃ (q : Nat), let v := w.tallyVal p.addr;
      let x := p.opnd0 % 2 ^ 32; k < 64 ∧ c ∈ ([.read k p, .write k p, .atomic k p, .tally k p, .watch k p, .watchCancel k p] : List Instr) ∧
      p.requestOk = true ∧ w.partOfTag p.tag = some q ∧ (w.partAt q).intakeOff = false ∧ 256 ≤ p.addr ∧ w.holdsTally q p.addr = true ∧
      p.ptype = 5 ∧ waitHolds (p.op == 1) v x = true) ∧
    (∃ (s : State) (k : Nat) (p : Packet), let w := s.takePacket k p; ∃ (c : Instr), ∃ (q : Nat), let v := w.tallyVal p.addr;
      let x := p.opnd0 % 2 ^ 32; k < 64 ∧ c ∈ ([.read k p, .write k p, .atomic k p, .tally k p, .watch k p, .watchCancel k p] : List Instr) ∧
      p.requestOk = true ∧ w.partOfTag p.tag = some q ∧ (w.partAt q).intakeOff = false ∧ 256 ≤ p.addr ∧ w.holdsTally q p.addr = true ∧
      p.ptype = 5 ∧ waitHolds (p.op == 1) v x = false ∧ 256 ≤ w.tally.watches.length) ∧
    (∃ (s : State) (k : Nat) (p : Packet), let w := s.takePacket k p; ∃ (c : Instr), ∃ (q : Nat), let v := w.tallyVal p.addr;
      let x := p.opnd0 % 2 ^ 32; k < 64 ∧ c ∈ ([.read k p, .write k p, .atomic k p, .tally k p, .watch k p, .watchCancel k p] : List Instr) ∧
      p.requestOk = true ∧ w.partOfTag p.tag = some q ∧ (w.partAt q).intakeOff = false ∧ 256 ≤ p.addr ∧ w.holdsTally q p.addr = true ∧
      p.ptype = 5 ∧ waitHolds (p.op == 1) v x = false ∧ w.tally.watches.length < 256) ∧
    (∃ (s : State) (k : Nat) (p : Packet), let w := s.takePacket k p; ∃ (c : Instr), ∃ (q : Nat), k < 64 ∧
      c ∈ ([.read k p, .write k p, .atomic k p, .tally k p, .watch k p, .watchCancel k p] : List Instr) ∧ p.requestOk = true ∧
      w.partOfTag p.tag = some q ∧ (w.partAt q).intakeOff = false ∧ 256 ≤ p.addr ∧ w.holdsTally q p.addr = true ∧ p.ptype = 6) :=
  ⟨⟨(mapped g0), 63, { ptype := 7, tag := 7, addr := 0 }, (.read 63 { ptype := 7, tag := 7, addr := 0 }), by decide +kernel⟩,
   ⟨(mapped g0), 63, { ptype := 1, tag := 7, addr := 0 }, (.read 63 { ptype := 1, tag := 7, addr := 0 }), by decide +kernel⟩,
   ⟨(mapped g0), 63, { ptype := 4, tag := 0, addr := 0 }, (.read 63 { ptype := 4, tag := 0, addr := 0 }), by decide +kernel⟩,
   ⟨{ up with row := { up.row with rowSize := 64 }, part := Table.put up.part 15 { state := .started, intakeOff := true, tag := 7, tallies := [31], granules := [95], xltEn := true } },
      63, { ptype := 4, tag := 7, addr := 0 }, (.read 63 { ptype := 4, tag := 7, addr := 0 }), 15, by decide +kernel⟩,
   ⟨(mapped g0), 63, { ptype := 2, tag := 7, addr := 0x200000, len := 64, dflits := 1 },
      (.read 63 { ptype := 2, tag := 7, addr := 0x200000, len := 64, dflits := 1 }), 15,
      tP (mapped g0) { ptype := 2, tag := 7, addr := 0x200000, len := 64, dflits := 1 } (({ ptype := 2, tag := 7, addr := 0x200000, len := 64, dflits := 1 } : Packet).ptype != 1) (if ({ ptype := 2, tag := 7, addr := 0x200000, len := 64, dflits := 1 } : Packet).ptype = 3 then 1 else ({ ptype := 2, tag := 7, addr := 0x200000, len := 64, dflits := 1 } : Packet).len / 64),
      by decide +kernel, by decide +kernel, by decide +kernel, by decide +kernel, by decide +kernel, by decide +kernel, by decide +kernel,
      pair (by decide +kernel)⟩,
   ⟨(mapped g0), 63, { ptype := 1, tag := 7, addr := 0x1FFF80, len := 128 },
      (.read 63 { ptype := 1, tag := 7, addr := 0x1FFF80, len := 128 }), 15, [95 * 2 ^ 31 + 0x3FFF80, 95 * 2 ^ 31 + 0x3FFFC0],
      tP (mapped g0) { ptype := 1, tag := 7, addr := 0x1FFF80, len := 128 } false (({ ptype := 1, tag := 7, addr := 0x1FFF80, len := 128 } : Packet).len / 64),
      by decide +kernel, by decide +kernel, by decide +kernel, by decide +kernel, by decide +kernel, by decide +kernel,
      pair (by decide +kernel), by decide +kernel⟩,
   ⟨(mapped g0), 63, { ptype := 2, tag := 7, addr := 0x1FFFC0, len := 64, dflits := 1 },
      (.read 63 { ptype := 2, tag := 7, addr := 0x1FFFC0, len := 64, dflits := 1 }), 15, (95 * 2 ^ 31 + 0x3FFFC0),
      tP (mapped g0) { ptype := 2, tag := 7, addr := 0x1FFFC0, len := 64, dflits := 1 } true 1, by decide +kernel, by decide +kernel,
      by decide +kernel, by decide +kernel, by decide +kernel, by decide +kernel, by decide +kernel, pair (by decide +kernel)⟩,
   ⟨(mapped g0), 63, { ptype := 3, tag := 7, addr := 0x1FFFFC, size := 4, op := 0 },
      (.read 63 { ptype := 3, tag := 7, addr := 0x1FFFFC, size := 4, op := 0 }), 15, (95 * 2 ^ 31 + 0x3FFFFC),
      tP (mapped g0) { ptype := 3, tag := 7, addr := 0x1FFFFC, size := 4, op := 0 } true 1, .add, by decide +kernel, by decide +kernel,
      by decide +kernel, by decide +kernel, by decide +kernel, by decide +kernel, pair (by decide +kernel), by decide +kernel⟩,
   ⟨(mapped g0), 63, { ptype := 6, tag := 7, addr := 255 }, (.read 63 { ptype := 6, tag := 7, addr := 255 }), 15, by decide +kernel⟩,
   ⟨(mapped g0), 63, { ptype := 4, tag := 7, addr := 511, op := 0 }, (.read 63 { ptype := 4, tag := 7, addr := 511, op := 0 }), 15,
      by decide +kernel⟩,
   ⟨(mapped g0), 63, { ptype := 4, tag := 7, addr := 511, op := 1 }, (.read 63 { ptype := 4, tag := 7, addr := 511, op := 1 }), 15,
      by decide +kernel⟩,
   ⟨(mapped g0), 63, { ptype := 4, tag := 7, addr := 511, op := 2 }, (.read 63 { ptype := 4, tag := 7, addr := 511, op := 2 }), 15,
      by decide +kernel⟩,
   ⟨(mapped g0), 63, { ptype := 4, tag := 7, addr := 511, op := 3 }, (.read 63 { ptype := 4, tag := 7, addr := 511, op := 3 }), 15,
      by decide +kernel⟩,
   ⟨(mapped g0), 63, { ptype := 5, tag := 7, addr := 511, op := 0 }, (.read 63 { ptype := 5, tag := 7, addr := 511, op := 0 }), 15,
      by decide +kernel⟩,
   ⟨{ (mapped g0) with tally := { up.tally with watches := List.replicate 256 { tally := 511, eq := true, operand := 1, src := 0, reqId := 0, epoch := 0, strand := 0, srcPart := 0 } } },
      63, { ptype := 5, tag := 7, addr := 511, op := 1, opnd0 := 1 }, (.read 63 { ptype := 5, tag := 7, addr := 511, op := 1, opnd0 := 1 }),
      15, by decide +kernel⟩,
   ⟨(mapped g0), 63, { ptype := 5, tag := 7, addr := 511, op := 1, opnd0 := 1 },
      (.read 63 { ptype := 5, tag := 7, addr := 511, op := 1, opnd0 := 1 }), 15, by decide +kernel⟩,
   ⟨(mapped g0), 63, { ptype := 6, tag := 7, addr := 511 }, (.read 63 { ptype := 6, tag := 7, addr := 511 }), 15, by decide +kernel⟩⟩

theorem witness_AnswersLandOnce :
    (∃ (s : State) (k : Nat) (p : Packet), let w := s.takePacket k p; ∃ (c : Instr), k < 64 ∧
      c ∈ ([.readRsp k p, .writeAck k p, .atomicRsp k p, .tallyRsp k p, .watchAns k p, .cancelAck k p] : List Instr) ∧ w.resvOf p = none) ∧
    (∃ (s : State) (k : Nat) (p : Packet), let w := s.takePacket k p; ∃ (c : Instr), ∃ (r : Resv) (x : Waiter), k < 64 ∧
      c ∈ ([.readRsp k p, .writeAck k p, .atomicRsp k p, .tallyRsp k p, .watchAns k p, .cancelAck k p] : List Instr) ∧ w.resvOf p = some r ∧
      p.ptype ≠ 0x85 ∧ r.waiter = some x) ∧
    (∃ (s : State) (k : Nat) (p : Packet), let w := s.takePacket k p; ∃ (c : Instr), ∃ (r : Resv), k < 64 ∧
      c ∈ ([.readRsp k p, .writeAck k p, .atomicRsp k p, .tallyRsp k p, .watchAns k p, .cancelAck k p] : List Instr) ∧ w.resvOf p = some r ∧
      p.ptype ≠ 0x85 ∧ r.waiter = none) ∧
    (∃ (s : State) (k : Nat) (p : Packet), let w := s.takePacket k p; ∃ (c : Instr), ∃ (r : Resv), k < 64 ∧
      c ∈ ([.readRsp k p, .writeAck k p, .atomicRsp k p, .tallyRsp k p, .watchAns k p, .cancelAck k p] : List Instr) ∧ w.resvOf p = some r ∧
      p.ptype = 0x85 ∧ (w.mesh.resv.any fun x => x.reqId == r.reqId && x.epoch == r.epoch && x.packet.ptype == 6) = true) ∧
    (∃ (s : State) (i : Issue) (rest : List Issue), s.mesh.issue = i :: rest ∧ s.issueGate i = .go) ∧
    (∃ (s : State) (i : Issue) (rest : List Issue), s.mesh.issue = i :: rest ∧ s.issueGate i = .noPath) ∧
    (∃ (s : State), (∀ i ∈ s.mesh.issue, s.issueGate i = .wait)) :=
  ⟨⟨{ on g0 with mesh := { up.mesh with resv := [] } }, 63, { ptype := 0x81, cls := 1, reqId := 5, epoch := 1, tag := 7 },
      (.readRsp 63 { ptype := 0x81, cls := 1, reqId := 5, epoch := 1, tag := 7 }), by decide +kernel⟩,
   ⟨{ on g0 with mesh := { up.mesh with resv := [{ reqId := 5, epoch := 1, part := 15, peer := 1, strand := 62, flits := 1, waiter := some { mould := 15, quarter := 3, slot := 15, dest := .store }, packet := { ptype := 1 } }] } },
      63, { ptype := 0x81, cls := 1, reqId := 5, epoch := 1, tag := 7 },
      (.readRsp 63 { ptype := 0x81, cls := 1, reqId := 5, epoch := 1, tag := 7 }),
      { reqId := 5, epoch := 1, part := 15, peer := 1, strand := 62, flits := 1, waiter := some { mould := 15, quarter := 3, slot := 15, dest := .store }, packet := { ptype := 1 } },
      { mould := 15, quarter := 3, slot := 15, dest := .store }, by decide +kernel⟩,
   ⟨{ on g0 with mesh := { up.mesh with resv := [{ reqId := 5, epoch := 1, part := 15, peer := 1, strand := 62, flits := 1, waiter := none, packet := { ptype := 1 } }] } },
      63, { ptype := 0x81, cls := 1, reqId := 5, epoch := 1, tag := 7 },
      (.readRsp 63 { ptype := 0x81, cls := 1, reqId := 5, epoch := 1, tag := 7 }),
      { reqId := 5, epoch := 1, part := 15, peer := 1, strand := 62, flits := 1, waiter := none, packet := { ptype := 1 } },
      by decide +kernel⟩,
   ⟨{ on g0 with mesh := { up.mesh with resv := [{ reqId := 5, epoch := 1, part := 15, peer := 1, strand := 62, flits := 1, waiter := some { mould := 15, quarter := 3, slot := 15, dest := .store }, packet := { ptype := 5 } }, { reqId := 5, epoch := 1, part := 15, peer := 1, strand := 62, flits := 1, waiter := none, packet := { ptype := 6 } }] } },
      63, { ptype := 0x85, cls := 1, reqId := 5, epoch := 1, tag := 7 },
      (.readRsp 63 { ptype := 0x85, cls := 1, reqId := 5, epoch := 1, tag := 7 }),
      { reqId := 5, epoch := 1, part := 15, peer := 1, strand := 62, flits := 1, waiter := some { mould := 15, quarter := 3, slot := 15, dest := .store }, packet := { ptype := 5 } },
      by decide +kernel⟩,
   ⟨{ (up.updPart 15 fun x => { x with state := .started, chl := 64 }).updStrand 62 fun x => { x with state := .up } with mesh := { (((up.updPart 15 fun x => { x with state := .started, chl := 64 }).updStrand 62 fun x => { x with state := .up }).mesh) with issue := [{ part := 15, packet := { ptype := 1, dst := 1, addr := 64, len := 64 }, waiter := none }] } },
      { part := 15, packet := { ptype := 1, dst := 1, addr := 64, len := 64 }, waiter := none }, [], by decide +kernel⟩,
   ⟨{ up with mesh := { up.mesh with issue := [{ part := 15, packet := { ptype := 1, dst := 1, addr := 64, len := 64 }, waiter := none }] } },
      { part := 15, packet := { ptype := 1, dst := 1, addr := 64, len := 64 }, waiter := none }, [], by decide +kernel⟩,
   ⟨{ (up.updPart 15 fun x => { x with state := .started, chl := 64 }).updStrand 62 fun x => { x with state := .up } with mesh := { (((up.updPart 15 fun x => { x with state := .started, chl := 64 }).updStrand 62 fun x => { x with state := .up }).mesh) with issue := [{ part := 15, packet := { ptype := 1, dst := 1, addr := 64, len := 64 }, waiter := none }], fence := 2 } },
      by decide +kernel⟩⟩

theorem witness_ManagementMessagesAct :
    (∃ (_ : State) (k : Nat) (p : Packet), k < 64 ∧ p.op = 1 ∧ p.src < 64) ∧
    (∃ (s : State) (k : Nat) (p : Packet), let w := s.takePacket k p; k < 64 ∧ p.op = 2 ∧
      ((w.strandAt k).state = .up ∨ (w.strandAt k).state = .mgmtOnly ∨ (w.strandAt k).state = .paused)) ∧
    (∃ (s : State) (k : Nat) (p : Packet), let w := s.takePacket k p; k < 64 ∧ p.op = 2 ∧ (w.strandAt k).state = .dark) ∧
    (∃ (s : State) (k : Nat) (p : Packet), let w := s.takePacket k p; let j := mateOf (p.opnd0 % 256); let e := p.opnd0 / 256 % 65536;
      let t := w.strandAt j; k < 64 ∧ p.op = 3 ∧ t.peerEpoch ≠ e ∧ t.lastEpochSeq = none) ∧
    (∃ (s : State) (k : Nat) (p : Packet), let w := s.takePacket k p; let j := mateOf (p.opnd0 % 256); let e := p.opnd0 / 256 % 65536;
      let t := w.strandAt j; ∃ (q : Nat), k < 64 ∧ p.op = 3 ∧ t.peerEpoch ≠ e ∧ t.lastEpochSeq = some (e, q)) ∧
    (∃ (s : State) (k : Nat) (p : Packet), let w := s.takePacket k p; let j := mateOf (p.opnd0 % 256); let e := p.opnd0 / 256 % 65536;
      let t := w.strandAt j; k < 64 ∧ p.op = 3 ∧ t.peerEpoch = e ∧ (t.state = .safety ∨ t.state = .paused)) ∧
    (∃ (s : State) (k : Nat) (p : Packet), let w := s.takePacket k p; let j := p.opnd0 % 256; k < 64 ∧ p.op = 4 ∧
      (w.strandAt j).recon = none) ∧
    (∃ (s : State) (k : Nat) (p : Packet), let w := s.takePacket k p; let j := p.opnd0 % 256; ∃ (r : Nat × List Sent × List (Nat × Packet)),
      k < 64 ∧ p.op = 4 ∧ (w.strandAt j).recon = some r ∧ r.1 = p.opnd0 / 256 % 65536 ∧ p.src = w.peerOf j ∧ p.opnd1 < 65536) ∧
    (∃ (s : State) (k : Nat) (p : Packet), let w := s.takePacket k p; let j := p.opnd0 % 256; ∃ (r : Nat × List Sent × List (Nat × Packet)),
      k < 64 ∧ p.op = 4 ∧ (w.strandAt j).recon = some r ∧ r.1 = p.opnd0 / 256 % 65536 ∧ p.src = w.peerOf j ∧ 65536 ≤ p.opnd1) ∧
    (∃ (s : State) (k : Nat) (p : Packet), let w := s.takePacket k p; k < 64 ∧ p.op = 5 ∧ p.opnd0 = w.pos) ∧
    (∃ (s : State) (k : Nat) (p : Packet), let w := s.takePacket k p; k < 64 ∧ p.op = 5 ∧ p.opnd0 ≠ w.pos) ∧
    (∃ (_ : State) (k : Nat) (p : Packet), k < 64 ∧ p.op = 0x7F) ∧
    (∃ (s : State) (k : Nat) (p : Packet), let w := s.takePacket k p; ∃ (j : Nat) (rest : List Nat), k < 64 ∧ knownMtype p.op = false ∧
      w.mgmtTo p.src = j :: rest) ∧
    (∃ (s : State), s.upPositions = 0) ∧
    (∃ (s : State), s.upPositions ≠ 0) ∧
    (∃ (s : State) (d : Nat), s.mesh.dackDue.getLsbD d = true) ∧
    (∃ (s : State) (d : Nat), s.mesh.dackDue.getLsbD d = false) :=
  ⟨⟨up, 63, { ptype := 0xC0, op := 1, src := 63 }, by decide +kernel⟩,
   ⟨(up).updStrand 63 fun x => { x with state := .paused }, 63, { ptype := 0xC0, op := 2 }, by decide +kernel⟩,
   ⟨(up).updStrand 63 fun x => { x with state := .dark }, 63, { ptype := 0xC0, op := 2 }, by decide +kernel⟩,
   ⟨(up).updStrand 62 fun x => { x with peerEpoch := 2 }, 63, { ptype := 0xC0, op := 3, opnd0 := 0x100 }, by decide +kernel⟩,
   ⟨(up).updStrand 62 fun x => { x with peerEpoch := 2, lastEpochSeq := some (1, 5) }, 63, { ptype := 0xC0, op := 3, opnd0 := 0x100 }, 5,
      by decide +kernel⟩,
   ⟨(up).updStrand 62 fun x => { x with peerEpoch := 1, state := .paused }, 63, { ptype := 0xC0, op := 3, opnd0 := 0x100 },
      by decide +kernel⟩,
   ⟨up, 63, { ptype := 0xC0, op := 4 }, by decide +kernel⟩,
   ⟨(up).updStrand 0 fun x => { x with recon := some (1, [], []) }, 63, { ptype := 0xC0, op := 4, src := 1, opnd0 := 0x100, opnd1 := 65535 },
      (1, [], []), by decide +kernel⟩,
   ⟨(up).updStrand 0 fun x => { x with recon := some (1, [], []) }, 63, { ptype := 0xC0, op := 4, src := 1, opnd0 := 0x100, opnd1 := 65536 },
      (1, [], []), by decide +kernel⟩,
   ⟨up, 63, { ptype := 0xC0, op := 5 }, by decide +kernel⟩,
   ⟨up, 63, { ptype := 0xC0, op := 5, opnd0 := 1 }, by decide +kernel⟩,
   ⟨up, 63, { ptype := 0xC0, op := 0x7F }, by decide +kernel⟩,
   ⟨(up).updStrand 62 fun x => { x with state := .mgmtOnly }, 63, { ptype := 0xC0, op := 6, src := 1 }, 62, [], by decide +kernel⟩,
   ⟨up, by decide +kernel⟩,
   ⟨(up).updStrand 62 fun x => { x with state := .up }, by decide +kernel⟩,
   ⟨{ up with mesh := { up.mesh with dackDue := BitVec.ofNat 64 (2 ^ 63) } }, 63, by decide +kernel⟩,
   ⟨up, 64, by decide +kernel⟩⟩

theorem witness_StewardMessagesAct :
    (∃ (s : State) (k : Nat) (p : Packet), let w := s.takePacket k p; let b := readBeat p.data w.now; k < 64 ∧ s.fwAbsent = false ∧
      s.fwRuns = true ∧ p.op = 0x11 ∧ p.opnd0 = 0 ∧ p.opnd1 = 0 ∧ restZero p.data 0x3D = true ∧ p.len = 128 ∧ p.dflits = 2 ∧ (readBeat
      p.data w.now).listed = true ∧ b.role ≠ 1) ∧
    (∃ (s : State) (k : Nat) (p : Packet), let w := s.takePacket k p; let b := readBeat p.data w.now; k < 64 ∧ s.fwAbsent = false ∧
      s.fwRuns = true ∧ p.op = 0x11 ∧ p.opnd0 = 0 ∧ p.opnd1 = 0 ∧ restZero p.data 0x3D = true ∧ p.len = 128 ∧ p.dflits = 2 ∧ (readBeat
      p.data w.now).listed = true ∧ b.role = 1 ∧ w.stew.role ≠ .primary ∧ (w.stew.primary = none ∨ w.stew.epoch < b.epoch ∨ (∃ q,
      w.stew.primary = some q ∧ b.epoch = w.stew.epoch ∧ p.src ≤ q))) ∧
    (∃ (s : State) (k : Nat) (p : Packet), let w := s.takePacket k p; let b := readBeat p.data w.now; k < 64 ∧ s.fwAbsent = false ∧
      s.fwRuns = true ∧ p.op = 0x11 ∧ p.opnd0 = 0 ∧ p.opnd1 = 0 ∧ restZero p.data 0x3D = true ∧ p.len = 128 ∧ p.dflits = 2 ∧ (readBeat
      p.data w.now).listed = true ∧ b.role = 1 ∧ w.stew.role = .primary ∧ w.outranked p.src b.epoch = true ∧ w.givingUp = false) ∧
    (∃ (s : State) (k : Nat) (p : Packet), k < 64 ∧ s.fwAbsent = false ∧ s.fwRuns = true ∧ p.op = 0x11 ∧ (p.opnd0 ≠ 0 ∨ p.opnd1 ≠ 0 ∨
      restZero p.data 0x3D = false)) ∧
    (∃ (s : State) (k : Nat) (p : Packet), let w := s.takePacket k p; k < 64 ∧ s.fwAbsent = false ∧ s.fwRuns = true ∧ p.op = 0x11 ∧
      p.opnd0 = 0 ∧ p.opnd1 = 0 ∧ restZero p.data 0x3D = true ∧ (p.len ≠ 128 ∨ p.dflits ≠ 2 ∨ (readBeat p.data w.now).listed = false)) ∧
    (∃ (s : State) (k : Nat) (p : Packet), k < 64 ∧ s.fwAbsent = false ∧ s.fwRuns = true ∧ p.op = 0x12 ∧ p.opnd0 = 0 ∧ p.opnd1 = 0 ∧
      restZero p.data 0x10 = true ∧ fld p.data 2 1 < 8 ∧ (fld p.data 1 1 < 2 ∨ 4 < fld p.data 1 1)) ∧
    (∃ (s : State) (k : Nat) (p : Packet), let hand (code : Nat) : Prop := p.op = 0x13 ∧ p.opnd0 % 256 = code; k < 64 ∧ s.fwAbsent =
      false ∧ s.fwRuns = true ∧ (hand 5 ∨ hand 0) ∧ handGood p = true) ∧
    (∃ (s : State) (k : Nat) (p : Packet), let w := s.takePacket k p; k < 64 ∧ s.fwAbsent = false ∧ s.fwRuns = true ∧ p.op = 0x12 ∧ p.len
      = 64 ∧ p.dflits = 1 ∧ 2 ≤ fld p.data 1 1 ∧ fld p.data 1 1 ≤ 4 ∧ posOrNone (fld p.data 3 1) = true ∧ p.opnd0 = 0 ∧ p.opnd1 = 0 ∧
      restZero p.data 0x10 = true ∧ fld p.data 2 1 < 8 ∧ fld p.data 0 1 = p.src ∧ p.src < w.row.rowSize) ∧
    (∃ (s : State) (k : Nat) (p : Packet), let w := s.takePacket k p; let hand (code : Nat) : Prop := p.op = 0x13 ∧ p.opnd0 % 256 = code;
      k < 64 ∧ s.fwAbsent = false ∧ s.fwRuns = true ∧ hand 1 ∧ handGood p = true ∧ w.stew.primary = some p.src ∧ w.selfCand = true ∧
      w.stew.role = .standby ∧ w.stew.en0 = false ∧ w.stew.en1 = false) ∧
    (∃ (s : State) (k : Nat) (p : Packet), let w := s.takePacket k p; let hand (code : Nat) : Prop := p.op = 0x13 ∧ p.opnd0 % 256 = code;
      k < 64 ∧ s.fwAbsent = false ∧ s.fwRuns = true ∧ hand 1 ∧ handGood p = true ∧ w.stew.primary = some p.src ∧ (w.selfCand = false ∨
      w.stew.en0 = true ∨ w.stew.en1 = true)) ∧
    (∃ (s : State) (k : Nat) (p : Packet), let w := s.takePacket k p; let hand (code : Nat) : Prop := p.op = 0x13 ∧ p.opnd0 % 256 = code;
      k < 64 ∧ s.fwAbsent = false ∧ s.fwRuns = true ∧ hand 2 ∧ handGood p = true ∧ w.stew.seq = .offered ∧ w.stew.standby = some p.src) ∧
    (∃ (s : State) (k : Nat) (p : Packet), let w := s.takePacket k p; let hand (code : Nat) : Prop := p.op = 0x13 ∧ p.opnd0 % 256 = code;
      k < 64 ∧ s.fwAbsent = false ∧ s.fwRuns = true ∧ hand 3 ∧ handGood p = true ∧ w.stew.seq = .offered ∧ w.stew.standby = some p.src) ∧
    (∃ (s : State) (k : Nat) (p : Packet), let w := s.takePacket k p; let hand (code : Nat) : Prop := p.op = 0x13 ∧ p.opnd0 % 256 = code;
      k < 64 ∧ s.fwAbsent = false ∧ s.fwRuns = true ∧ hand 4 ∧ handGood p = true ∧ w.stew.seq = .ready ∧ w.stew.primary = some p.src) ∧
    (∃ (s : State) (k : Nat) (p : Packet), let hand (code : Nat) : Prop := p.op = 0x13 ∧ p.opnd0 % 256 = code; k < 64 ∧ s.fwAbsent =
      false ∧ s.fwRuns = true ∧ handGood p = false ∧ hand 1) ∧
    (∃ (s : State) (k : Nat) (p : Packet), let hand (code : Nat) : Prop := p.op = 0x13 ∧ p.opnd0 % 256 = code; k < 64 ∧ s.fwAbsent =
      false ∧ s.fwRuns = true ∧ handGood p = false ∧ hand 2) ∧
    (∃ (s : State) (k : Nat) (p : Packet), let hand (code : Nat) : Prop := p.op = 0x13 ∧ p.opnd0 % 256 = code; k < 64 ∧ s.fwAbsent =
      false ∧ s.fwRuns = true ∧ handGood p = false ∧ hand 3) ∧
    (∃ (s : State) (k : Nat) (p : Packet), let hand (code : Nat) : Prop := p.op = 0x13 ∧ p.opnd0 % 256 = code; k < 64 ∧ s.fwAbsent =
      false ∧ s.fwRuns = true ∧ handGood p = false ∧ hand 4) ∧
    (∃ (s : State) (k : Nat) (p : Packet), let w := s.takePacket k p; let epoch := p.opnd0 / 2 ^ 32 % 2 ^ 16; k < 64 ∧ s.fwAbsent = false
      ∧ s.fwRuns = true ∧ p.op = 0x10 ∧ p.opnd0 / 2 ^ 48 = 0 ∧ p.opnd1 = 0 ∧ p.dflits = 2 ∧ p.len = 128 ∧ w.fwRuns = true ∧
      (w.stew.primary ≠ some p.src ∨ epoch ≠ w.stew.epoch)) ∧
    (∃ (s : State) (k : Nat) (p : Packet), let w := s.takePacket k p; let epoch := p.opnd0 / 2 ^ 32 % 2 ^ 16; k < 64 ∧ s.fwAbsent = false
      ∧ s.fwRuns = true ∧ p.op = 0x10 ∧ p.opnd0 / 2 ^ 48 = 0 ∧ p.opnd1 = 0 ∧ p.dflits = 2 ∧ p.len = 128 ∧ w.fwRuns = true ∧ w.stew.primary
      = some p.src ∧ epoch = w.stew.epoch ∧ w.thm.capSeq = none) ∧
    (∃ (s : State) (k : Nat) (p : Packet), let w := s.takePacket k p; let seq := p.opnd0 % 2 ^ 32;
      let epoch := p.opnd0 / 2 ^ 32 % 2 ^ 16; ∃ (l : Nat), k < 64 ∧ s.fwAbsent = false ∧ s.fwRuns = true ∧ p.op = 0x10 ∧ p.opnd0 / 2 ^ 48
      = 0 ∧ p.opnd1 = 0 ∧ p.dflits = 2 ∧ p.len = 128 ∧ w.fwRuns = true ∧ w.stew.primary = some p.src ∧ epoch = w.stew.epoch ∧ w.thm.capSeq
      = some (epoch, l) ∧ 1 ≤ (seq + 2 ^ 32 - l) % 2 ^ 32 ∧ (seq + 2 ^ 32 - l) % 2 ^ 32 ≤ 2 ^ 31) ∧
    (∃ (s : State) (k : Nat) (p : Packet), let w := s.takePacket k p; let seq := p.opnd0 % 2 ^ 32;
      let epoch := p.opnd0 / 2 ^ 32 % 2 ^ 16; k < 64 ∧ s.fwAbsent = false ∧ s.fwRuns = true ∧ p.op = 0x10 ∧ p.opnd0 / 2 ^ 48 = 0 ∧ p.opnd1
      = 0 ∧ p.dflits = 2 ∧ p.len = 128 ∧ w.fwRuns = true ∧ w.stew.primary = some p.src ∧ epoch = w.stew.epoch ∧ w.thm.capSeq = some
      (epoch, seq)) ∧
    (∃ (s : State), s.stew.seq = .offered) ∧
    (∃ (s : State), s.stew.seq ≠ .offered) ∧
    (∃ (s : State), s.stew.role = .none) ∧
    (∃ (s : State), s.stew.role ≠ .none) ∧
    (∃ (s : State), (s.inService = false ∨ s.fwRuns = false)) ∧
    (∃ (s : State), s.inService = true ∧ s.fwRuns = true) :=
  ⟨⟨up, 63, { ptype := 0xC0, op := 0x11, src := 1, len := 128, dflits := 2, data := [2, 255] ++ leBytes 2 0 ++ List.replicate 124 0 },
      by decide +kernel⟩,
   ⟨up, 63,
      { ptype := 0xC0, op := 0x11, src := 1, len := 128, dflits := 2, data := [1, 255] ++ leBytes 2 65535 ++ List.replicate 124 0 },
      by decide +kernel⟩,
   ⟨{ up with stew := { up.stew with role := .primary } }, 63,
      { ptype := 0xC0, op := 0x11, src := 1, len := 128, dflits := 2, data := [1, 255] ++ leBytes 2 1 ++ List.replicate 124 0 },
      by decide +kernel⟩,
   ⟨up, 63,
      { ptype := 0xC0, op := 0x11, src := 1, len := 128, opnd1 := 1, dflits := 2, data := [1, 255, 0, 0] ++ List.replicate 124 0 },
      by decide +kernel⟩,
   ⟨up, 63, { ptype := 0xC0, op := 0x11, src := 1, len := 128, dflits := 2, data := [3, 255, 0, 0] ++ List.replicate 124 0 },
      by decide +kernel⟩,
   ⟨up, 63, { ptype := 0xC0, op := 0x12, src := 1, len := 64, dflits := 1, data := [1, 5, 7] ++ List.replicate 61 0 },
      by decide +kernel⟩,
   ⟨up, 63, { ptype := 0xC0, op := 0x13, src := 1, opnd0 := 5 }, by decide +kernel⟩,
   ⟨up, 63, { ptype := 0xC0, op := 0x12, src := 1, len := 64, dflits := 1, data := [1, 4, 7] ++ List.replicate 61 0 },
      by decide +kernel⟩,
   ⟨{ up with stew := { up.stew with primary := some 1, role := .standby }, hmk := { up.hmk with role := 0x80000000 } }, 63,
      { ptype := 0xC0, op := 0x13, src := 1, opnd0 := 1 }, by decide +kernel⟩,
   ⟨{ up with stew := { up.stew with primary := some 1, en0 := true } }, 63, { ptype := 0xC0, op := 0x13, src := 1, opnd0 := 1 },
      by decide +kernel⟩,
   ⟨{ up with stew := { up.stew with seq := .offered, standby := some 1 } }, 63, { ptype := 0xC0, op := 0x13, src := 1, opnd0 := 2 },
      by decide +kernel⟩,
   ⟨{ up with stew := { up.stew with seq := .offered, standby := some 1 } }, 63, { ptype := 0xC0, op := 0x13, src := 1, opnd0 := 3 },
      by decide +kernel⟩,
   ⟨{ up with stew := { up.stew with seq := .ready, primary := some 1 } }, 63, { ptype := 0xC0, op := 0x13, src := 1, opnd0 := 4 },
      by decide +kernel⟩,
   ⟨up, 63, { ptype := 0xC0, op := 0x13, src := 1, dflits := 1, opnd0 := 1 }, by decide +kernel⟩,
   ⟨up, 63, { ptype := 0xC0, op := 0x13, src := 1, dflits := 1, opnd0 := 2 }, by decide +kernel⟩,
   ⟨up, 63, { ptype := 0xC0, op := 0x13, src := 1, dflits := 1, opnd0 := 3 }, by decide +kernel⟩,
   ⟨up, 63, { ptype := 0xC0, op := 0x13, src := 1, dflits := 1, opnd0 := 4 }, by decide +kernel⟩,
   ⟨up, 63, { ptype := 0xC0, op := 0x10, src := 1, opnd0 := 0, dflits := 2, len := 128 }, by decide +kernel⟩,
   ⟨{ up with stew := { up.stew with primary := some 1 } }, 63,
      { ptype := 0xC0, op := 0x10, src := 1, opnd0 := 0, dflits := 2, len := 128 }, by decide +kernel⟩,
   ⟨{ up with stew := { up.stew with primary := some 1 }, thm := { up.thm with capSeq := some (0, 0) } }, 63,
      { ptype := 0xC0, op := 0x10, src := 1, opnd0 := 0x80000000, dflits := 2, len := 128 }, 0, by decide +kernel⟩,
   ⟨{ up with stew := { up.stew with primary := some 1 }, thm := { up.thm with capSeq := some (0, 0xFFFFFFFF) } }, 63,
      { ptype := 0xC0, op := 0x10, src := 1, opnd0 := 0xFFFFFFFF, dflits := 2, len := 128 }, by decide +kernel⟩,
   ⟨{ up with stew := { up.stew with seq := .offered } }, by decide +kernel⟩,
   ⟨up, by decide +kernel⟩,
   ⟨up, by decide +kernel⟩,
   ⟨{ up with stew := { up.stew with role := .standby } }, by decide +kernel⟩,
   ⟨{ up with dev := { up.dev with state := .safe } }, by decide +kernel⟩,
   ⟨up, by decide +kernel⟩⟩

theorem witness_StewardRowsAct :
    (∃ (s : State) (r : Nat), s.fwRuns = true ∧ s.stew.primary = none ∧ s.selfCand = true ∧ s.stew.firstReport = some r ∧ r + 65536 ≤
      s.now ∧ (∀ b, s.stew.snapshot = some b → b.at_ + 65536 ≤ s.now) ∧ s.lowestCand 64 = some s.pos) ∧
    (∃ (s : State), (∀ r, s.stew.firstReport = some r → s.now < r + 65536)) ∧
    (∃ (s : State), (s.fwRuns = false ∨ s.stew.primary ≠ none ∨ s.selfCand = false ∨ s.lowestCand 64 ≠ some s.pos)) ∧
    (∃ (s : State), s.fwRuns = true ∧ s.stew.role = .standby ∧ s.primaryGone = true ∧ s.stew.beat = false ∧ s.selfCand = true) ∧
    (∃ (s : State), s.fwRuns = true ∧ s.stew.role = .standby ∧ s.primaryGone = true ∧ s.stew.beat = true ∧ s.selfCand = true) ∧
    (∃ (s : State), s.fwRuns = true ∧ s.stew.role = .standby ∧ s.primaryGone = true ∧ s.stew.beat = true ∧ s.selfCand = false) ∧
    (∃ (s : State), s.fwRuns = true ∧ s.stew.role = .standby ∧ s.stew.beat = false ∧ s.selfCand = false) ∧
    (∃ (s : State), (s.stew.role ≠ .standby ∨ s.primaryGone = false)) ∧
    (∃ (s : State) (t : Nat) (b : Snapshot), s.stew.lastPulse = some t ∧ s.stew.snapshot = some b) ∧
    (∃ (s : State) (b : Snapshot), s.stew.snapshot = some b ∧ s.now < b.at_ + 32768) ∧
    (∃ (s : State), (∀ b, s.stew.snapshot = some b → b.at_ + 32768 ≤ s.now) ∧ s.stew.role ≠ .primary ∧ s.stew.primary ≠ none) ∧
    (∃ (s : State), (s.stew.role = .primary ∨ s.stew.primary = none)) ∧
    (∃ (s : State), s.fwRuns = true ∧ s.stew.role = .primary) ∧
    (∃ (s : State), (s.fwRuns = false ∨ s.stew.role ≠ .primary)) ∧
    (∃ (s : State), s.stew.role = .primary ∧ (∀ k, k < 64 → (s.strandAt k).state ≠ .up) ∧ s.givingUp = false) ∧
    (∃ (s : State), s.stew.role ≠ .primary) ∧
    (∃ (s : State), ∃ (pl : Bool), s.stew.seq = .giveK0 pl) ∧
    (∃ (s : State), ∃ (pl : Bool), s.stew.seq = .giveK1 pl) ∧
    (∃ (s : State), s.stew.seq = .takeK1) ∧
    (∃ (s : State), s.stew.seq = .takeK0) ∧
    (∃ (s : State), s.stew.seq = .none) ∧
    (∃ (s : State), s.stew.driving = true) ∧
    (∃ (s : State), s.stew.driving = false) ∧
    (∃ (s : State), ∃ (us : Nat), 500 ≤ us ∧ us ≤ 2000 ∧ (s.stew.beat = true ∨ s.stew.role ≠ .standby)) ∧
    (∃ (s : State), ∃ (us : Nat), 500 ≤ us ∧ us ≤ 2000 ∧ s.stew.beat = false ∧ s.stew.role = .standby) ∧
    (∃ (_ : State), ∃ (us : Nat), (us < 500 ∨ 2000 < us)) ∧
    (∃ (s : State), s.fwRuns = true ∧ s.stew.role = .primary ∧ s.stew.ramping = false) ∧
    (∃ (s : State), let now : Rat := lwRat (s.slotAt 8).setpoint; let goal : Rat := (s.row.supplyDef : Rat) / 100;
      let step : Rat := min ((s.stepMax : Rat) / 1000) ((s.row.supplySlew : Rat) / 60000); s.fwRuns = true ∧ s.stew.role = .primary ∧
      s.stew.ramping = true ∧ goal < now - step) ∧
    (∃ (s : State), let now : Rat := lwRat (s.slotAt 8).setpoint; let goal : Rat := (s.row.supplyDef : Rat) / 100;
      let step : Rat := min ((s.stepMax : Rat) / 1000) ((s.row.supplySlew : Rat) / 60000); s.fwRuns = true ∧ s.stew.role = .primary ∧
      s.stew.ramping = true ∧ now + step < goal ∧ ¬ goal < now - step) ∧
    (∃ (s : State), let now : Rat := lwRat (s.slotAt 8).setpoint; let goal : Rat := (s.row.supplyDef : Rat) / 100;
      let step : Rat := min ((s.stepMax : Rat) / 1000) ((s.row.supplySlew : Rat) / 60000); s.fwRuns = true ∧ s.stew.role = .primary ∧
      s.stew.ramping = true ∧ ¬ goal < now - step ∧ ¬ now + step < goal) ∧
    (∃ (s : State), s.fwRuns = true ∧ s.stew.role = .primary ∧ s.stew.stalled = 0) ∧
    (∃ (s : State), s.fwRuns = true ∧ s.stew.role = .primary ∧ s.stew.stalled = 1) ∧
    (∃ (s : State) (t : Nat), let x := s.trkAt t; ∃ (l : Nat) (at_ : Nat), t < 2 ∧ x.sync = true ∧ x.tLast = some l ∧ 10 * (at_ - l) < 6
      * x.p) ∧
    (∃ (s : State) (t : Nat), let x := s.trkAt t; ∃ (l : Nat) (at_ : Nat), t < 2 ∧ x.sync = true ∧ x.tLast = some l ∧ 6 * x.p ≤ 10 * (at_
      - l)) ∧
    (∃ (s : State) (t : Nat), let x := s.trkAt t; ∃ (_ : Nat), t < 2 ∧ x.tLast = none) ∧
    (∃ (s : State) (t : Nat), let x := s.trkAt t; ∃ (l : Nat) (i1 : Nat) (at_ : Nat), t < 2 ∧ x.sync = false ∧ x.tLast = some l ∧
      x.lastInterval = some i1 ∧ 6 * i1 ≤ 10 * (at_ - l) ∧ 10 * (at_ - l) ≤ 16 * i1) ∧
    (∃ (s : State) (t : Nat), let x := s.trkAt t; t < 2 ∧ x.sync = false) ∧
    (∃ (s : State) (t : Nat), let x := s.trkAt t; t < 2 ∧ x.sync = true ∧ x.missedRow = 0) ∧
    (∃ (s : State) (t : Nat), let x := s.trkAt t; t < 2 ∧ (∀ ev ∈ x.events, ev.fired = true ∨ (x.tooth + 1) * 65536 < ev.angle * x.tpr)) ∧
    (∃ (s : State) (t : Nat), let x := s.trkAt t; t < 2 ∧ x.sync = true ∧ x.missedRow ≠ 0) ∧
    (∃ (s : State) (t : Nat), let x := s.trkAt t; ∃ (e : Nat) (ev : TrkEvent) (l : Nat), t < 2 ∧ x.events[e]? = some ev ∧ x.tLast = some
      l) ∧
    (∃ (s : State) (t : Nat), let x := s.trkAt t; ∃ (e : Nat) (ev : TrkEvent) (at_ : Nat), t < 2 ∧ x.events[e]? = some ev ∧ x.sync = true
      ∧ ev.fired = false ∧ x.reached ev at_ = true) ∧
    (∃ (s : State) (t : Nat), let x := s.trkAt t; ∃ (e : Nat) (ev : TrkEvent) (at_ : Nat), t < 2 ∧ x.events[e]? = some ev ∧ (x.sync =
      false ∨ ev.fired = true ∨ x.reached ev at_ = false)) ∧
    (∃ (s : State) (t : Nat), let x := s.trkAt t; ∃ (e : Nat) (ev : TrkEvent) (at_ : Nat),
      let period := if ev.tbPeriod = 0 then x.tpr * x.p else ev.tbPeriod * 1000; t < 2 ∧ x.events[e]? = some ev ∧ x.sync = false ∧
      x.timebase = true ∧ (∀ l, ev.at_ = some l → l + period ≤ at_)) ∧
    (∃ (s : State) (t : Nat), let x := s.trkAt t; ∃ (e : Nat) (ev : TrkEvent) (at_ : Nat),
      let period := if ev.tbPeriod = 0 then x.tpr * x.p else ev.tbPeriod * 1000; t < 2 ∧ x.events[e]? = some ev ∧ (x.sync = true ∨
      x.timebase = false ∨ (∃ l, ev.at_ = some l ∧ at_ < l + period))) ∧
    (∃ (s : State) (n : Nat), let r := s.ropeAt n; let dry : Prop := r.condAt + (if r.stage = 3 then 600 else 60) * 32768 ≤ s.now; n < 4
      ∧ s.fwRuns = true ∧ s.stew.role = .primary ∧ r.stage ≠ 0 ∧ r.cond = 0 ∧ dry ∧ r.isolated = false) ∧
    (∃ (s : State) (n : Nat), let r := s.ropeAt n; let dry : Prop := r.condAt + (if r.stage = 3 then 600 else 60) * 32768 ≤ s.now; n < 4
      ∧ s.fwRuns = true ∧ s.stew.role = .primary ∧ r.stage = 1 ∧ r.cond = 0 ∧ ¬ dry) ∧
    (∃ (s : State) (n : Nat), let r := s.ropeAt n; let dry : Prop := r.condAt + (if r.stage = 3 then 600 else 60) * 32768 ≤ s.now; n < 4
      ∧ s.fwRuns = true ∧ s.stew.role = .primary ∧ r.stage ≠ 0 ∧ r.cond = 0 ∧ dry ∧ r.isolated = true) ∧
    (∃ (s : State) (n : Nat), let r := s.ropeAt n; n < 4 ∧ s.fwRuns = true ∧ s.stew.role = .primary ∧ r.stage = 1 ∧ r.cond = 1 ∧ s.now <
      r.condAt + 30 * 32768) ∧
    (∃ (s : State) (n : Nat), let r := s.ropeAt n; n < 4 ∧ s.fwRuns = true ∧ s.stew.role = .primary ∧ r.stage = 1 ∧ r.cond = 1 ∧ r.condAt
      + 30 * 32768 ≤ s.now) ∧
    (∃ (s : State) (n : Nat), let r := s.ropeAt n; n < 4 ∧ s.fwRuns = true ∧ s.stew.role = .primary ∧ r.stage = 2 ∧ r.cond ≠ 0 ∧
      r.stageAt + 60 * 32768 ≤ s.now ∧ Table.at s.row.ropeIsolate n false = true) ∧
    (∃ (s : State) (n : Nat), let r := s.ropeAt n; n < 4 ∧ s.fwRuns = true ∧ s.stew.role = .primary ∧ r.stage = 2 ∧ r.cond ≠ 0 ∧ Table.at
      s.row.ropeIsolate n false = false) ∧
    (∃ (s : State) (n : Nat), let r := s.ropeAt n; n < 4 ∧ s.fwRuns = true ∧ s.stew.role = .primary ∧ r.stage = 0) ∧
    (∃ (s : State) (n : Nat), let r := s.ropeAt n; n < 4 ∧ s.fwRuns = true ∧ s.stew.role = .primary ∧ r.cond ≠ 1) ∧
    (∃ (s : State) (n : Nat), let r := s.ropeAt n; n < 4 ∧ s.fwRuns = true ∧ s.stew.role = .primary ∧ r.cond = 1) ∧
    (∃ (s : State) (n : Nat), n < 4 ∧ (s.fwRuns = false ∨ s.stew.role ≠ .primary)) ∧
    (∃ (s : State) (n stage cond : Nat), n < 4 ∧ ((s.ropeAt n).stage ≠ stage ∨ (s.ropeAt n).cond ≠ cond)) :=
  ⟨⟨{ up with stew := { up.stew with firstReport := some 0, snapshot := some (readBeat [] 0) }, hmk := { up.hmk with role := 0x80000000 }, clocks := { up.clocks with uptime := 65536 } },
      0, by decide +kernel⟩,
   ⟨{ up with stew := { up.stew with firstReport := some 1 }, clocks := { up.clocks with uptime := 65536 } }, by decide +kernel⟩,
   ⟨{ up with stew := { up.stew with primary := some 1 } }, by decide +kernel⟩,
   ⟨{ up with stew := { up.stew with role := .standby, lastPulse := some 0, snapshot := some (readBeat [] 0) }, hmk := { up.hmk with role := 0x80000000 }, clocks := { up.clocks with uptime := 4915 } },
      by decide +kernel⟩,
   ⟨{ up with stew := { up.stew with role := .standby, lastPulse := some 0, snapshot := some (readBeat [] 0), beat := true }, hmk := { up.hmk with role := 0x80000000 }, clocks := { up.clocks with uptime := 4915 } },
      by decide +kernel⟩,
   ⟨{ up with stew := { up.stew with role := .standby, lastPulse := some 0, snapshot := some (readBeat [] 0), beat := true, withdrawn := true }, clocks := { up.clocks with uptime := 4915 } },
      by decide +kernel⟩,
   ⟨{ up with stew := { up.stew with role := .standby, withdrawn := true } }, by decide +kernel⟩,
   ⟨{ up with stew := { up.stew with role := .standby, lastPulse := some 0, snapshot := some (readBeat [] 0) }, hmk := { up.hmk with role := 0x80000000 }, clocks := { up.clocks with uptime := 4914 } },
      by decide +kernel⟩,
   ⟨{ up with stew := { up.stew with role := .standby, lastPulse := some 0, snapshot := some (readBeat [] 0) }, clocks := { up.clocks with uptime := 4915 } },
      0, readBeat [] 0, by decide +kernel⟩,
   ⟨{ up with stew := { up.stew with snapshot := some (readBeat [] 0), primary := some 1 }, clocks := { up.clocks with uptime := 32767 } },
      readBeat [] 0, by decide +kernel⟩,
   ⟨{ up with stew := { up.stew with snapshot := some (readBeat [] 0), primary := some 1, role := .standby }, clocks := { up.clocks with uptime := 32768 } },
      by decide +kernel⟩,
   ⟨up, by decide +kernel⟩,
   ⟨{ up with stew := { up.stew with role := .primary } }, by decide +kernel⟩,
   ⟨up, by decide +kernel⟩,
   ⟨{ up with stew := { up.stew with role := .primary } }, by decide +kernel⟩,
   ⟨up, by decide +kernel⟩,
   ⟨{ up with stew := { up.stew with seq := .giveK0 true } }, true, by decide +kernel⟩,
   ⟨{ up with stew := { up.stew with seq := .giveK1 true } }, true, by decide +kernel⟩,
   ⟨{ up with stew := { up.stew with seq := .takeK1 } }, by decide +kernel⟩,
   ⟨{ up with stew := { up.stew with seq := .takeK0 } }, by decide +kernel⟩,
   ⟨up, by decide +kernel⟩,
   ⟨{ up with stew := { up.stew with driving := true } }, by decide +kernel⟩,
   ⟨up, by decide +kernel⟩,
   ⟨up, 500, by decide +kernel⟩,
   ⟨{ up with stew := { up.stew with role := .standby } }, 2000, by decide +kernel⟩,
   ⟨up, 499, by decide +kernel⟩,
   ⟨{ up with stew := { up.stew with role := .primary } }, by decide +kernel⟩,
   ⟨({ up with stew := { up.stew with role := .primary, ramping := true }, row := { up.row with supplyDef := 25, supplySlew := 60 } }).updSlot
      8 fun x => { x with setpoint := ratLw 1000 }, by decide +kernel⟩,
   ⟨({ up with stew := { up.stew with role := .primary, ramping := true }, row := { up.row with supplyDef := 25, supplySlew := 60 } }).updSlot
      8 fun x => { x with setpoint := ratLw (-1000) }, by decide +kernel⟩,
   ⟨({ up with stew := { up.stew with role := .primary, ramping := true }, row := { up.row with supplyDef := 0, supplySlew := 60 } }).updSlot
      8 fun x => { x with setpoint := ratLw 0 }, by decide +kernel⟩,
   ⟨{ up with stew := { up.stew with role := .primary } }, by decide +kernel⟩,
   ⟨{ up with stew := { up.stew with role := .primary, stalled := 1 } }, by decide +kernel⟩,
   ⟨up.updTrk 1 fun x => { x with sync := true, tLast := some 100, p := 100 }, 1, 100, 159, by decide +kernel⟩,
   ⟨up.updTrk 1 fun x => { x with sync := true, tLast := some 100, p := 100 }, 1, 100, 160, by decide +kernel⟩,
   ⟨up, 1, 0, by decide +kernel⟩,
   ⟨up.updTrk 1 fun x => { x with tLast := some 100, lastInterval := some 100 }, 1, 100, 100, 260, by decide +kernel⟩,
   ⟨up, 1, by decide +kernel⟩,
   ⟨up.updTrk 1 fun x => { x with sync := true }, 1, by decide +kernel⟩,
   ⟨up.updTrk 1 fun x => { x with events := [{ angle := 65536, target := 0, tbPeriod := 0 }], tpr := 2, tooth := 0 }, 1,
      by decide +kernel⟩,
   ⟨up.updTrk 1 fun x => { x with sync := true, missedRow := 1 }, 1, by decide +kernel⟩,
   ⟨up.updTrk 1 fun x => { x with events := [{ angle := 0, target := 0, tbPeriod := 0 }], tLast := some 7 }, 1, 0,
      { angle := 0, target := 0, tbPeriod := 0 }, 7, by decide +kernel⟩,
   ⟨up.updTrk 1 fun x => { x with sync := true, tLast := some 7, events := [{ angle := 0, target := 0, tbPeriod := 0 }] }, 1, 0,
      { angle := 0, target := 0, tbPeriod := 0 }, 7, by decide +kernel⟩,
   ⟨up.updTrk 1 fun x =>
      { x with sync := true, tLast := some 7, p := 65536, tpr := 2, events := [{ angle := 1, target := 0, tbPeriod := 0 }] }, 1, 0,
      { angle := 1, target := 0, tbPeriod := 0 }, 8, by decide +kernel⟩,
   ⟨up.updTrk 1 fun x => { x with timebase := true, events := [{ angle := 0, target := 0, tbPeriod := 1, at_ := some 0 }] }, 1, 0,
      { angle := 0, target := 0, tbPeriod := 1, at_ := some 0 }, 1000, by decide +kernel⟩,
   ⟨up.updTrk 1 fun x => { x with timebase := true, events := [{ angle := 0, target := 0, tbPeriod := 1, at_ := some 0 }] }, 1, 0,
      { angle := 0, target := 0, tbPeriod := 1, at_ := some 0 }, 999, by decide +kernel⟩,
   ⟨({ up with stew := { up.stew with role := .primary }, clocks := { up.clocks with uptime := 1966080 }, row := { up.row with ropeIsolate := Table.put up.row.ropeIsolate 3 true } }).updRope
      3 fun x => { x with stage := 2 }, 3, by decide +kernel⟩,
   ⟨({ up with stew := { up.stew with role := .primary }, clocks := { up.clocks with uptime := 1966079 }, row := { up.row with ropeIsolate := Table.put up.row.ropeIsolate 3 true } }).updRope
      3 fun x => { x with stage := 1 }, 3, by decide +kernel⟩,
   ⟨({ up with stew := { up.stew with role := .primary }, clocks := { up.clocks with uptime := 19660800 }, row := { up.row with ropeIsolate := Table.put up.row.ropeIsolate 3 true } }).updRope
      3 fun x => { x with stage := 3, isolated := true }, 3, by decide +kernel⟩,
   ⟨({ up with stew := { up.stew with role := .primary }, clocks := { up.clocks with uptime := 983039 }, row := { up.row with ropeIsolate := Table.put up.row.ropeIsolate 3 true } }).updRope
      3 fun x => { x with stage := 1, cond := 1 }, 3, by decide +kernel⟩,
   ⟨({ up with stew := { up.stew with role := .primary }, clocks := { up.clocks with uptime := 983040 }, row := { up.row with ropeIsolate := Table.put up.row.ropeIsolate 3 true } }).updRope
      3 fun x => { x with stage := 1, cond := 1 }, 3, by decide +kernel⟩,
   ⟨({ up with stew := { up.stew with role := .primary }, clocks := { up.clocks with uptime := 1966080 }, row := { up.row with ropeIsolate := Table.put up.row.ropeIsolate 3 true } }).updRope
      3 fun x => { x with stage := 2, cond := 2 }, 3, by decide +kernel⟩,
   ⟨(({ up with stew := { up.stew with role := .primary }, row := { up.row with ropeIsolate := Table.put up.row.ropeIsolate 3 false } }).updRope
      3 fun x => { x with stage := 2, cond := 2 }), 3, by decide +kernel⟩,
   ⟨(({ up with stew := { up.stew with role := .primary }, row := { up.row with ropeIsolate := Table.put up.row.ropeIsolate 3 false } }).updRope
      3 fun x => { x with stage := 0 }), 3, by decide +kernel⟩,
   ⟨({ up with stew := { up.stew with role := .primary }, clocks := { up.clocks with uptime := 0 }, row := { up.row with ropeIsolate := Table.put up.row.ropeIsolate 3 true } }).updRope
      3 fun x => { x with stage := 3, cond := 2 }, 3, by decide +kernel⟩,
   ⟨({ up with stew := { up.stew with role := .primary }, clocks := { up.clocks with uptime := 0 }, row := { up.row with ropeIsolate := Table.put up.row.ropeIsolate 3 true } }).updRope
      3 fun x => { x with stage := 3, cond := 1 }, 3, by decide +kernel⟩,
   ⟨up, 3, by decide +kernel⟩,
   ⟨up, 3, 2, 1, by decide +kernel⟩⟩

theorem witness_RingsAndLasersAct :
    (∃ (s : State) (n : Nat), let r := s.ring704At n; ∃ (ratio : Int),
      let err := clampInt (-2047) 2047 ((ratio - r.target) * r.slope / 32768); n < 704 ∧ r.state = .locked ∧ s.waveLit n = true ∧ (n < 512
      ∨ err.natAbs ≤ 150)) ∧
    (∃ (s : State) (n : Nat), let r := s.ring704At n; ∃ (ratio : Int),
      let err := clampInt (-2047) 2047 ((ratio - r.target) * r.slope / 32768); n < 704 ∧ r.state = .locked ∧ s.waveLit n = true ∧ 512 ≤ n
      ∧ 150 < err.natAbs ∧ s.wmk.badOnce.getLsbD (channelOfRing n) = false) ∧
    (∃ (s : State) (n : Nat), let r := s.ring704At n; ∃ (ratio : Int),
      let err := clampInt (-2047) 2047 ((ratio - r.target) * r.slope / 32768); n < 704 ∧ r.state = .locked ∧ s.waveLit n = true ∧ 512 ≤ n
      ∧ 150 < err.natAbs ∧ s.wmk.badOnce.getLsbD (channelOfRing n) = true) ∧
    (∃ (s : State) (n : Nat), let r := s.ring704At n; ∃ low : Bool, n < 704 ∧ r.state = .locked ∧ s.waveLit n = true ∧ (low = true ∨ 300
      < r.err.natAbs)) ∧
    (∃ (s : State) (n : Nat), let r := s.ring704At n; ∃ low : Bool, n < 704 ∧ r.state = .locked ∧ s.waveLit n = true ∧ low = false ∧
      r.err.natAbs ≤ 300) ∧
    (∃ (s : State) (n : Nat), let r := s.ring704At n; ∃ (_ : Int), n < 704 ∧ (r.state ≠ .locked ∨ s.waveLit n = false)) ∧
    (∃ (s : State) (n : Nat), let r := s.ring704At n; ∃ (held : Bool), n < 704 ∧ r.state = .locked ∧ (r.code = 0 ∨ r.code = 4095) ∧ (held
      = false ∨ r.rail = false)) ∧
    (∃ (s : State) (n : Nat), let r := s.ring704At n; n < 704 ∧ r.state = .locked ∧ (r.code = 0 ∨ r.code = 4095) ∧ r.rail = true) ∧
    (∃ (s : State) (n : Nat), let r := s.ring704At n; n < 704 ∧ r.state = .locked ∧ r.code ≠ 0 ∧ r.code ≠ 4095) ∧
    (∃ (s : State) (n : Nat), let r := s.ring704At n; ∃ (_ : Bool), n < 704 ∧ r.state ≠ .locked) ∧
    (∃ (s : State) (n : Nat), let r := s.ring704At n; ∃ (_ : Option Resonance), n < 704 ∧ r.state ≠ .acquire ∧ r.state ≠ .lost) ∧
    (∃ (s : State) (n : Nat), let r := s.ring704At n; ∃ (p : Nat × Int) (found : Option Resonance),
      let seed : Int := p.1 - (s.zoneTemp - p.2) * 2048 / 1000; ∃ m : Nat, n < 704 ∧ (r.state = .acquire ∨ r.state = .lost) ∧ r.map = some
      p ∧ (found = none ∨ (∃ f, found = some f ∧ (f.depth < 60 ∨ 4095 < f.code ∨ 128 < ((f.code : Int) - seed).natAbs))) ∧ m ∈ ringsOfBank
      (bankOf n) ∧ m ≠ n ∧ m < 704 ∧ (s.ring704At m).state = .acquire) ∧
    (∃ (s : State) (n : Nat), let r := s.ring704At n; ∃ (p : Nat × Int) (found : Option Resonance),
      let seed : Int := p.1 - (s.zoneTemp - p.2) * 2048 / 1000; ∃ f : Resonance, n < 704 ∧ (r.state = .acquire ∨ r.state = .lost) ∧ r.map
      = some p ∧ found = some f ∧ 60 ≤ f.depth ∧ f.code ≤ 4095 ∧ ((f.code : Int) - seed).natAbs ≤ 128) ∧
    (∃ (s : State) (b : Nat), ∃ (_ : List (List Resonance)), b < 20 ∧ s.sweepReady b = false) ∧
    (∃ (s : State) (b : Nat), ∃ (_ : List (List Resonance)), b < 20 ∧ s.sweepReady b = true ∧ b < 16 ∧ s.pho.swept.getLsbD b = false) ∧
    (∃ (s : State) (b : Nat), ∃ (_ : List (List Resonance)), b < 20 ∧ s.sweepReady b = true ∧ 16 ≤ b ∧ s.wmk.tried ≤ b - 16) ∧
    (∃ (s : State) (n : Nat) (l : List Resonance), (s.ring704At n).state ≠ .failed ∧ (∀ f ∈ l, f.depth < 60 ∨ 4095 < f.code)) ∧
    (∃ (s : State) (n : Nat) (l : List Resonance), (s.ring704At n).state ≠ .failed ∧ (∃ f ∈ l, 60 ≤ f.depth ∧ f.code ≤ 4095)) ∧
    (∃ (s : State) (a : Nat), let l := s.laserAt a; ∃ (_ : Int), a < 24 ∧ l.heater = false) ∧
    (∃ (s : State) (a : Nat), let l := s.laserAt a; ∃ (_ : Int), a < 24 ∧ l.heater = true) ∧
    (∃ (s : State) (a : Nat), let l := s.laserAt a; ∃ (_ : List Nat), a < 24 ∧ l.lit = false) ∧
    (∃ (s : State) (a : Nat), let l := s.laserAt a; a < 24 ∧ l.lit = true) ∧
    (∃ (s : State) (a : Nat), let l := s.laserAt a; ∃ (m : BitVec 16) (sub : Bool), a < 24 ∧ l.atTemp = true ∧ l.state ≠ .retired ∧ l.lit
      = true ∧ sub = false ∧ m &&& ~~~ l.failed ≠ 0) ∧
    (∃ (s : State) (a : Nat), let l := s.laserAt a; ∃ (_ : BitVec 16) (sub : Bool), a < 24 ∧ l.atTemp = true ∧ l.state ≠ .retired ∧ sub =
      true ∧ 0xFFFF#16 &&& ~~~ l.failed ≠ 0) ∧
    (∃ (s : State) (a : Nat), let l := s.laserAt a; ∃ (_ : BitVec 16) (_ : Bool), a < 24 ∧ (l.atTemp = false ∨ l.state = .retired)) :=
  ⟨⟨(((up.updLaser 19 fun x => { x with lit := true, atTemp := true })).updRing704 703 fun x =>
      { x with state := .locked, slope := 32768 }), 703, 150, by decide +kernel⟩,
   ⟨(((up.updLaser 19 fun x => { x with lit := true, atTemp := true })).updRing704 703 fun x =>
      { x with state := .locked, slope := 32768 }), 703, 151, by decide +kernel⟩,
   ⟨{ (((up.updLaser 19 fun x => { x with lit := true, atTemp := true })).updRing704 703 fun x => { x with state := .locked, slope := 32768 }) with wmk := { up.wmk with badOnce := BitVec.ofNat 64 (2 ^ 63) } },
      703, -2047, by decide +kernel⟩,
   ⟨(((up.updLaser 19 fun x => { x with lit := true, atTemp := true })).updRing704 703 fun x =>
      { x with state := .locked, err := -301 }), 703, false, by decide +kernel⟩,
   ⟨(((up.updLaser 19 fun x => { x with lit := true, atTemp := true })).updRing704 703 fun x =>
      { x with state := .locked, err := -300 }), 703, false, by decide +kernel⟩,
   ⟨up, 703, 0, by decide +kernel⟩,
   ⟨(((up.updLaser 19 fun x => { x with lit := true, atTemp := true })).updRing704 703 fun x =>
      { x with state := .locked, word := 0 }), 703, true, by decide +kernel⟩,
   ⟨(((up.updLaser 19 fun x => { x with lit := true, atTemp := true })).updRing704 703 fun x =>
      { x with state := .locked, word := 65535, rail := true }), 703, by decide +kernel⟩,
   ⟨(((up.updLaser 19 fun x => { x with lit := true, atTemp := true })).updRing704 703 fun x =>
      { x with state := .locked, word := 16 }), 703, by decide +kernel⟩,
   ⟨up, 703, true, by decide +kernel⟩,
   ⟨up, 703, none, by decide +kernel⟩,
   ⟨((((up.updLaser 19 fun x => { x with lit := true, atTemp := true })).updRing704 703 fun x =>
      { x with state := .acquire, map := some (2000, up.zoneTemp) })).updRing704 702 fun x => { x with state := .acquire }, 703, (2000,
      up.zoneTemp), some { code := 2129, depth := 60 }, 702, by decide +kernel⟩,
   ⟨(((up.updLaser 19 fun x => { x with lit := true, atTemp := true })).updRing704 511 fun x =>
      { x with state := .lost, map := some (2000, up.zoneTemp) }), 511, (2000, up.zoneTemp), some { code := 1872, depth := 60 },
      { code := 1872, depth := 60 }, by decide +kernel⟩,
   ⟨up, 19, [], by decide +kernel⟩,
   ⟨{ up with pho := { up.pho with laser := up.pho.laser.map fun x => { x with lit := true, atTemp := true } } }, 15, [],
      by decide +kernel⟩,
   ⟨{ (up.updLaser 19 fun x => { x with lit := true, atTemp := true }) with wmk := { up.wmk with state := .warming, tried := 3 } }, 19,
      [], by decide +kernel⟩,
   ⟨up, 703, [{ code := 4095, depth := 59 }, { code := 4096, depth := 60 }], by decide +kernel⟩,
   ⟨up, 703, [{ code := 4096, depth := 60 }, { code := 4095, depth := 60 }], by decide +kernel⟩,
   ⟨((up).updLaser 23 fun x => { x with heater := false }), 23, 0, by decide +kernel⟩,
   ⟨((up).updLaser 23 fun x => { x with heater := true }), 23, 0, by decide +kernel⟩,
   ⟨((up).updLaser 23 fun x => { x with lit := false }), 23, [], by decide +kernel⟩,
   ⟨(up).updLaser 23 fun x => { x with lit := true }, 23, by decide +kernel⟩,
   ⟨up.updLaser 23 fun x => { x with atTemp := true, lit := true }, 23, 0x8000, false, by decide +kernel⟩,
   ⟨((up).updLaser 23 fun x => { x with atTemp := true }), 23, 0x8000, true, by decide +kernel⟩,
   ⟨up, 23, 0x8000, true, by decide +kernel⟩⟩

theorem witness_SensorsAndCapsAct :
    (∃ (s : State) (n : Nat) (temp : Int) (b : Bool) (u : State), n < 140 ∧ s.evSensorSample n temp = (b, u) ∧ b = false) ∧
    (∃ (s : State) (n : Nat) (temp : Int) (b : Bool) (u : State), n < 140 ∧ s.evSensorSample n temp = (b, u) ∧ b = true ∧ u.supply.vdeck
      = true ∧ u.supply.porst = false ∧ u.boot.phase ≠ .strapWait ∧ u.boot.phase ≠ .boardTest) ∧
    (∃ (s : State) (n : Nat) (temp : Int) (b : Bool) (u : State), n < 140 ∧ s.evSensorSample n temp = (b, u) ∧ (s.dev.state = .dormant ∨
      s.dev.state = .off)) ∧
    (∃ (s : State) (n : Nat) (temp : Int) (b : Bool) (u : State), n < 140 ∧ s.evSensorSample n temp = (b, u) ∧ s.dev.state ≠ .dormant ∧
      s.dev.state ≠ .off) ∧
    (∃ (s : State) (n : Nat) (w : Nat) (th : Int), let x := s.sensAt n; n < 140 ∧ w < 3 ∧ s.threshold (groupOf n) w = some th ∧ x.temp <
      th - s.hysteresis (groupOf n) w ∧ 0 ≤ s.hysteresis (groupOf n) w) ∧
    (∃ (s : State) (n : Nat) (w : Nat) (th : Int), let x := s.sensAt n; let c := Table.at x.cross w {}; n < 140 ∧ w < 3 ∧ s.threshold
      (groupOf n) w = some th ∧ th ≤ x.temp ∧ 0 ≤ s.hysteresis (groupOf n) w ∧ c.above < 2) ∧
    (∃ (s : State) (n : Nat) (w : Nat) (th : Int), let x := s.sensAt n; let c := Table.at x.cross w {}; n < 140 ∧ w < 3 ∧ s.threshold
      (groupOf n) w = some th ∧ th ≤ x.temp ∧ 0 ≤ s.hysteresis (groupOf n) w ∧ 2 ≤ c.above ∧ c.inState = false) ∧
    (∃ (s : State) (n : Nat) (w : Nat), n < 140 ∧ w < 3 ∧ s.sensIn n w = true ∧ (Table.at (s.sensAt n).cross w {}).belowSince.isSome =
      true) ∧
    (∃ (s : State) (n : Nat) (w : Nat), n < 140 ∧ w < 3 ∧ (s.sensIn n w = false ∨ (Table.at (s.sensAt n).cross w {}).belowSince = none)) ∧
    (∃ (s : State) (m : Nat), let x := s.mouldAt m; m < 16 ∧ x.throttle ≠ 0 ∧ x.releasing = false ∧ s.thm.blind.getLsbD m = false ∧
      s.mouldAdds m = true) ∧
    (∃ (s : State) (m : Nat), let x := s.mouldAt m; m < 16 ∧ (x.throttle = 0 ∨ x.releasing = true ∨ s.mouldAdds m = false)) ∧
    (∃ (s : State) (m : Nat), let x := s.mouldAt m; m < 16 ∧ 2 ≤ x.throttle ∧ x.releasing = true ∧ s.thm.blind.getLsbD m = false) ∧
    (∃ (s : State) (m : Nat), let x := s.mouldAt m; m < 16 ∧ x.throttle = 1 ∧ x.releasing = true ∧ s.thm.blind.getLsbD m = false) ∧
    (∃ (s : State) (m : Nat), let x := s.mouldAt m; m < 16 ∧ (x.throttle = 0 ∨ x.releasing = false)) ∧
    (∃ (s : State) (k : Nat), k < 8 ∧ s.sensIn (128 + k) 1 = true ∧ s.aboveEdge 3 1 (s.sensAt (128 + k)).temp = true) ∧
    (∃ (s : State) (k : Nat), k < 8 ∧ s.sensIn (128 + k) 1 = true ∧ s.aboveEdge 3 1 (s.sensAt (128 + k)).temp = false) ∧
    (∃ (s : State) (k : Nat), k < 8 ∧ s.sensIn (128 + k) 1 = false) ∧
    (∃ (s : State), s.fwRuns = true ∧ s.thm.capSrc ≠ 1 ∧ s.thm.capAt = none) ∧
    (∃ (s : State), s.fwRuns = true ∧ s.thm.capSrc ≠ 1 ∧ s.thm.capAt.isSome = true) ∧
    (∃ (s : State), (s.fwRuns = false ∨ s.thm.capSrc = 1)) ∧
    (∃ (s : State), s.thm.mCap = 29 ∧ s.thm.duty = 1 ∧ s.thm.capW < s.thm.pkgW) ∧
    (∃ (s : State), (s.thm.mCap ≠ 29 ∨ s.thm.duty ≠ 1 ∨ s.thm.pkgW ≤ s.thm.capW)) ∧
    (∃ (s : State), ∃ (c : Nat), c < 11 ∧ s.fwRuns = true ∧ s.warnCondition c = true) ∧
    (∃ (s : State), ∃ (c : Nat), c < 11 ∧ (s.fwRuns = false ∨ s.warnCondition c = false)) ∧
    (∃ (s : State) (c : Nat), c < 11 ∧ s.fwRuns = true ∧ s.warnCondition c = false ∧ (c = 5 → s.pho.fixedFlow = false ∨ 100 <
      s.headroomMin) ∧ (c = 9 → s.thm.pkgW < s.thm.capW)) ∧
    (∃ (s : State) (c : Nat), c < 11 ∧ (s.fwRuns = false ∨ s.warnCondition c = true ∨ (c = 9 ∧ s.thm.capW ≤ s.thm.pkgW))) ∧
    (∃ (s : State), ∃ (a : Int) (b : Int), s.thm.tIn = some a ∧ s.thm.tOut = some b ∧ s.fwRuns = true ∧ 400 ≤ s.thm.pkgW ∧ 200 ≤ b - a) ∧
    (∃ (s : State), (s.thm.tIn = none ∨ s.thm.tOut = none ∨ s.fwRuns = false ∨ s.thm.pkgW < 400)) ∧
    (∃ (_ : State) (c : Nat), c < 11) :=
  ⟨⟨up, 139, 2500, false, ((up.evSensorSample 139 2500).2), by decide +kernel, pair (by decide +kernel), by decide +kernel⟩,
   ⟨((({ up with thm := { up.thm with thr := Vector.replicate 5 0x00000100#32 } }).updSens 139 fun x =>
      { x with fresh := true, invalid := false, cross := Table.put x.cross 2 { above := 2 } })), 139, 10000, true,
      ((((({ up with thm := { up.thm with thr := Vector.replicate 5 0x00000100#32 } }).updSens 139 fun x =>
      { x with fresh := true, invalid := false, cross := Table.put x.cross 2 { above := 2 } }))).evSensorSample 139 10000).2,
      by decide +kernel, pair (by decide +kernel), by decide +kernel⟩,
   ⟨{ up with dev := { up.dev with state := .dormant } }, 139, 0, false, { up with dev := { up.dev with state := .dormant } },
      by decide +kernel, rfl, by decide +kernel⟩,
   ⟨up, 139, 2500, false, ((up.evSensorSample 139 2500).2), by decide +kernel, pair (by decide +kernel), by decide +kernel⟩,
   ⟨({ up with thm := { up.thm with thr := Vector.replicate 5 0x5A5F6444#32 } }).updSens 139 fun x => { x with temp := 9499 }, 139, 2,
      10000, by decide +kernel⟩,
   ⟨({ up with thm := { up.thm with thr := Vector.replicate 5 0x5A5F6444#32 } }).updSens 139 fun x =>
      { x with temp := 10000, cross := Table.put x.cross 2 { above := 1 } }, 139, 2, 10000, by decide +kernel⟩,
   ⟨({ up with thm := { up.thm with thr := Vector.replicate 5 0x5A5F6444#32 } }).updSens 139 fun x =>
      { x with temp := 10000, cross := Table.put x.cross 2 { above := 2 } }, 139, 2, 10000, by decide +kernel⟩,
   ⟨({ up with thm := { up.thm with thr := Vector.replicate 5 0x5A5F6444#32 } }).updSens 139 fun x =>
      { x with invalid := false, cross := Table.put x.cross 2 { inState := true, belowSince := some 0 } }, 139, 2, by decide +kernel⟩,
   ⟨up, 139, 2, by decide +kernel⟩,
   ⟨(({ up with thm := { up.thm with thr := Vector.replicate 5 0x5A5F6444#32 } }).updSens 79 fun x =>
      { x with invalid := false, temp := 9500, cross := Table.put x.cross 1 { inState := true } }).updMould 15 fun x =>
      { x with throttle := 1 }, 15, by decide +kernel⟩,
   ⟨up, 15, by decide +kernel⟩,
   ⟨up.updMould 15 fun x => { x with throttle := 2, releasing := true }, 15, by decide +kernel⟩,
   ⟨up.updMould 15 fun x => { x with throttle := 1, releasing := true }, 15, by decide +kernel⟩,
   ⟨up, 15, by decide +kernel⟩,
   ⟨({ up with thm := { up.thm with thr := Vector.replicate 5 0x5A5F6444#32 } }).updSens 135 fun x =>
      { x with invalid := false, temp := 9400, cross := Table.put x.cross 1 { inState := true } }, 7, by decide +kernel⟩,
   ⟨({ up with thm := { up.thm with thr := Vector.replicate 5 0x5A5F6444#32 } }).updSens 135 fun x =>
      { x with invalid := false, temp := 9399, cross := Table.put x.cross 1 { inState := true } }, 7, by decide +kernel⟩,
   ⟨up, 7, by decide +kernel⟩,
   ⟨{ up with thm := { up.thm with capSrc := 0, capAt := none } }, by decide +kernel⟩,
   ⟨{ up with thm := { up.thm with capSrc := 0, capAt := some 0 } }, by decide +kernel⟩,
   ⟨{ up with thm := { up.thm with capSrc := 1 } }, by decide +kernel⟩,
   ⟨{ up with thm := { up.thm with mCap := 29, duty := 1, capW := 499, pkgW := 500 } }, by decide +kernel⟩,
   ⟨up, by decide +kernel⟩,
   ⟨{ up with thm := { up.thm with blind := 0x8000 } }, 8, by decide +kernel⟩,
   ⟨up, 10, by decide +kernel⟩,
   ⟨{ up with thm := { up.thm with pkgW := 0, capW := 1 } }, 9, by decide +kernel⟩,
   ⟨{ up with thm := { up.thm with pkgW := 1, capW := 1 } }, 9, by decide +kernel⟩,
   ⟨{ up with thm := { up.thm with inletM := some 30000, outletM := some 32000, pkgW := 400 } }, 3000, 3200, by decide +kernel⟩,
   ⟨up, by decide +kernel⟩,
   ⟨up, 10, by decide +kernel⟩⟩

theorem witness_PowerAndPredictionAct :
    (∃ (s : State), s.thm.tIn = none) ∧
    (∃ (s : State) (t : Int), s.thm.tIn = some t) ∧
    (∃ (s : State), ∃ (t : Int), s.thm.tIn = some t ∧ s.ramps = false ∧ s.thm.rampAllow = 0xFFFF) ∧
    (∃ (s : State), ∃ (_ : Nat) (_ : Nat), s.thm.history = 600000) ∧
    (∃ (s : State), ∃ (_ : Nat) (_ : Nat), s.thm.history ≠ 600000) :=
  ⟨⟨up, by decide +kernel⟩,
   ⟨{ up with thm := { up.thm with inletM := some 30000 } }, 3000, by decide +kernel⟩,
   ⟨{ up with thm := { up.thm with inletM := some 30000, rampAllow := 0xFFFF }, hmk := { up.hmk with role := 0 } }, 3000,
      by decide +kernel⟩,
   ⟨{ up with thm := { up.thm with history := 600000 } }, 7, 0, by decide +kernel⟩,
   ⟨up, 7, 0, by decide +kernel⟩⟩

theorem witness_AnalogArrayConverts :
    (∃ (s : State) (n k : Nat), let d := Table.at s.aar.ds n {}; n < 4 ∧ k < 8 ∧ s.stew.scanSeen = none ∧ (∀ p, Table.at s.pln.dom 0 none
      = some p → p.qty ≠ 0x0010 ∨ p.index ≠ n) ∧ (s.arrayRuns = false ∨ d.en = false ∨ k ≠ d.next)) ∧
    (∃ (s : State) (n k : Nat), let d := Table.at s.aar.ds n {}; n < 4 ∧ k < 8 ∧ s.stew.scanSeen = none ∧ (∀ p, Table.at s.pln.dom 0 none
      = some p → p.qty ≠ 0x0010 ∨ p.index ≠ n) ∧ s.arrayRuns = true ∧ d.en = true ∧ k = d.next ∧ d.cal = true) ∧
    (∃ (s : State) (n k : Nat), let d := Table.at s.aar.ds n {}; n < 4 ∧ k < 8 ∧ s.stew.scanSeen = none ∧ (∀ p, Table.at s.pln.dom 0 none
      = some p → p.qty ≠ 0x0010 ∨ p.index ≠ n) ∧ s.arrayRuns = true ∧ d.en = true ∧ k = d.next ∧ d.cal = false ∧ (d.touch = false ∨ d.nbr
      ≠ 0)) ∧
    (∃ (s : State) (n k : Nat), let d := Table.at s.aar.ds n {}; n < 4 ∧ k < 8 ∧ s.stew.scanSeen = none ∧ (∀ p, Table.at s.pln.dom 0 none
      = some p → p.qty ≠ 0x0010 ∨ p.index ≠ n) ∧ s.arrayRuns = true ∧ d.en = true ∧ k = d.next ∧ d.cal = false) ∧
    (∃ (d : DsConv) (vt : Nat), let ref : Int := if d.touch = true then vt else 2500000000; ref ≠ 0) ∧
    (∃ (s : State) (n k : Nat), let d := Table.at s.aar.sar n {}; n < 2 ∧ k < 16 ∧ (∀ p, Table.at s.pln.dom 0 none = some p → p.qty ≠
      0x0011 ∨ p.index ≠ n) ∧ (s.arrayRuns = false ∨ d.nscan = 0 ∨ k ≠ d.next ∨ (d.trigger ≠ none ∧ d.armed = false))) ∧
    (∃ (s : State) (n k : Nat), let d := Table.at s.aar.sar n {}; n < 2 ∧ k < 16 ∧ (∀ p, Table.at s.pln.dom 0 none = some p → p.qty ≠
      0x0011 ∨ p.index ≠ n) ∧ s.arrayRuns = true ∧ d.nscan ≠ 0 ∧ k = d.next ∧ (d.trigger = none ∨ d.armed = true) ∧ d.cal = true) ∧
    (∃ (s : State) (n k : Nat), let d := Table.at s.aar.sar n {}; n < 2 ∧ k < 16 ∧ (∀ p, Table.at s.pln.dom 0 none = some p → p.qty ≠
      0x0011 ∨ p.index ≠ n) ∧ s.arrayRuns = true ∧ d.nscan ≠ 0 ∧ k = d.next ∧ (d.trigger = none ∨ d.armed = true) ∧ d.cal = false) ∧
    (∃ (s : State) (n : Nat), ∃ (sp : Nat), n < 8 ∧ sp < 4 ∧ s.fwRuns = true) ∧
    (∃ (s : State) (n : Nat), ∃ (sp : Nat), n < 8 ∧ (4 ≤ sp ∨ s.fwRuns = false)) ∧
    (∃ (s : State) (n : Nat), let o := s.aoutAt n; n < 8 ∧ o.hold = none) ∧
    (∃ (s : State) (n : Nat), let o := s.aoutAt n; ∃ (sp : Nat), n < 8 ∧ o.hold = some (sp, none)) ∧
    (∃ (s : State) (n : Nat), let o := s.aoutAt n; ∃ (sp : Nat) (c : Nat), n < 8 ∧ o.hold = some (sp, some c)) ∧
    (∃ (n : Nat) (v : Nat), n < 8 ∧ v < 65536) ∧
    (∃ (s : State) (n : Nat), let o := s.aoutAt n; ∃ (lim : Bool) (v : Nat), let lost := o.differs v lim && s.compliedTo n; n < 8 ∧ v <
      65536 ∧ lost = o.complLost) ∧
    (∃ (s : State) (n : Nat), let o := s.aoutAt n; ∃ (lim : Bool) (v : Nat), let lost := o.differs v lim && s.compliedTo n; n < 8 ∧ v <
      65536 ∧ n ≠ 0 ∧ lost ≠ o.complLost) ∧
    (∃ (s : State) (n : Nat), let o := s.aoutAt n; ∃ (lim : Bool) (v : Nat), let lost := o.differs v lim && s.compliedTo n; n < 8 ∧ v <
      65536 ∧ n = 0 ∧ lost = true ∧ o.complLost = false) ∧
    (∃ (s : State) (n : Nat), let o := s.aoutAt n; ∃ (lim : Bool) (v : Nat), let lost := o.differs v lim && s.compliedTo n; n < 8 ∧ v <
      65536 ∧ n = 0 ∧ lost = false ∧ o.complLost = true) ∧
    (∃ (s : State), s.aar.excEn = true ∧ s.aar.stringOk = true) ∧
    (∃ (s : State), (s.aar.excEn = false ∨ s.aar.stringOk = false)) ∧
    (∃ (s : State), s.aar.excEn = true) ∧
    (∃ (s : State), s.aar.excEn = false) ∧
    (∃ (s : State), s.aar.vloopOk = true) ∧
    (∃ (s : State), s.aar.vloopOk = false) ∧
    (∃ (s : State), s.aar.vloopUse = false) ∧
    (∃ (s : State), s.aar.vloopUse = true) ∧
    (∃ (s : State) (n : Nat) (am : Nat), n < 2 ∧ s.sineRuns = true ∧ am ≤ 50000) ∧
    (∃ (s : State) (n : Nat) (am : Nat), n < 2 ∧ (s.sineRuns = false ∨ 50000 < am)) ∧
    (∃ (s : State), s.sineRuns = true ∧ (Table.at s.aar.sine 0 {}).en = true ∧ (Table.at s.aar.sine 1 {}).en = true) ∧
    (∃ (s : State), (s.sineRuns = false ∨ (Table.at s.aar.sine 0 {}).en = false ∨ (Table.at s.aar.sine 1 {}).en = false)) :=
  ⟨⟨{ up with aar := { up.aar with ds := Table.put up.aar.ds 3 { en := true, nscan := 7, next := 6 } } }, 3, 7, by decide +kernel⟩,
   ⟨{ up with aar := { up.aar with ds := Table.put up.aar.ds 3 { en := true, nscan := 7, next := 7, cal := true } } }, 3, 7,
      by decide +kernel⟩,
   ⟨{ up with aar := { up.aar with ds := Table.put up.aar.ds 3 { en := true, nscan := 7, next := 7, touch := true, nbr := 1 } } }, 3,
      7, by decide +kernel⟩,
   ⟨{ up with aar := { up.aar with ds := Table.put up.aar.ds 3 { en := true, nscan := 7, next := 7 } } }, 3, 7, by decide +kernel⟩,
   ⟨{ touch := true }, 1, by decide +kernel⟩,
   ⟨{ up with aar := { up.aar with sar := Table.put up.aar.sar 1 { nscan := 16, next := 15, trigger := some 63 } } }, 1, 15,
      by decide +kernel⟩,
   ⟨{ up with aar := { up.aar with sar := Table.put up.aar.sar 1 { nscan := 16, next := 15, trigger := some 63, armed := true, cal := true } } },
      1, 15, by decide +kernel⟩,
   ⟨{ up with aar := { up.aar with sar := Table.put up.aar.sar 1 { nscan := 16, next := 15, trigger := some 63, armed := true } } }, 1,
      15, by decide +kernel⟩,
   ⟨up, 7, 3, by decide +kernel⟩,
   ⟨up, 7, 4, by decide +kernel⟩,
   ⟨up, 7, by decide +kernel⟩,
   ⟨up.updAout 7 fun x => { x with hold := some (3, none) }, 7, 3, by decide +kernel⟩,
   ⟨up.updAout 7 fun x => { x with hold := some (3, some 65535) }, 7, 3, 65535, by decide +kernel⟩,
   ⟨7, 65535, by decide +kernel⟩,
   ⟨up.updAout 7 fun x => { x with span := 2, complLost := true }, 7, true, 65535, by decide +kernel⟩,
   ⟨up.updAout 7 fun x => { x with span := 2 }, 7, true, 65535, by decide +kernel⟩,
   ⟨up.updAout 0 fun x => { x with span := 2 }, 0, true, 65535, by decide +kernel⟩,
   ⟨up.updAout 0 fun x => { x with span := 2, complLost := true }, 0, false, 0, by decide +kernel⟩,
   ⟨{ up with aar := { up.aar with excEn := true, stringOk := true } }, by decide +kernel⟩,
   ⟨{ up with aar := { up.aar with excEn := false } }, by decide +kernel⟩,
   ⟨{ up with aar := { up.aar with excEn := true } }, by decide +kernel⟩,
   ⟨{ up with aar := { up.aar with excEn := false } }, by decide +kernel⟩,
   ⟨{ up with aar := { up.aar with vloopOk := true } }, by decide +kernel⟩,
   ⟨{ up with aar := { up.aar with vloopOk := false } }, by decide +kernel⟩,
   ⟨{ up with aar := { up.aar with vloopUse := false } }, by decide +kernel⟩,
   ⟨{ up with aar := { up.aar with vloopUse := true } }, by decide +kernel⟩,
   ⟨up, 1, 50000, by decide +kernel⟩,
   ⟨up, 1, 50001, by decide +kernel⟩,
   ⟨{ up with aar := { up.aar with sine := Vector.replicate 2 { en := true } } }, by decide +kernel⟩,
   ⟨up, by decide +kernel⟩⟩

theorem witness_LoopSlotsRun :
    (∃ (s : State) (n : Nat), let x := s.slotAt n; n < 64 ∧ (s.engineRuns = false ∨ x.en = false ∨ x.cfg.law = 0)) ∧
    (∃ (s : State) (n : Nat), let x := s.slotAt n; n < 64 ∧ s.engineRuns = true ∧ x.en = true ∧ x.cfg.law ≠ 0) ∧
    (∃ (s : State) (n : Nat), let x := s.slotAt n; n < 64 ∧ (s.engineRuns = false ∨ x.cfg.law = 0 ∨ (x.disabling = false ∧ (x.en = false
      ∨ x.lastStart = none)))) ∧
    (∃ (n : Nat), n < 64 ∧ n ≠ 1) ∧
    (∃ (s : State) (n : Nat), let x := s.slotAt n; n < 64 ∧ s.engineRuns = true ∧ x.cfg.law ≠ 0 ∧ (x.disabling = true ∨ (x.en = true ∧
      x.lastStart.isSome = true))) ∧
    (∃ (s : State) (n : Nat), let x := s.slotAt n; ∃ (v : Reg32), n < 64 ∧ s.fwRuns = true ∧ x.cfg.law ≠ 0 ∧ lwGood v = true ∧
      s.judgeSetpoint n v = .accepted) ∧
    (∃ (s : State) (n : Nat), let x := s.slotAt n; ∃ (v : Reg32), n < 64 ∧ s.fwRuns = true ∧ x.cfg.law ≠ 0 ∧ lwGood v = true ∧
      s.judgeSetpoint n v = .guard) ∧
    (∃ (s : State) (n : Nat), let x := s.slotAt n; ∃ (v : Reg32), n < 64 ∧ s.fwRuns = true ∧ x.cfg.law ≠ 0 ∧ lwGood v = true ∧
      (s.judgeSetpoint n v = .parent ∨ s.judgeSetpoint n v = .envelope)) ∧
    (∃ (s : State) (n : Nat), ∃ (v : Reg32), n < 64 ∧ (s.fwRuns = false ∨ lwGood v = false)) ∧
    (∃ (s : State) (n : Nat), let x := s.slotAt n; n < 64 ∧ s.fwRuns = true ∧ x.cfg.law ≠ 0 ∧ x.en = false) ∧
    (∃ (s : State) (n : Nat), let x := s.slotAt n; n < 64 ∧ (x.cfg.law = 0 ∨ x.en = true ∨ s.fwRuns = false)) ∧
    (∃ (s : State) (n : Nat), let x := s.slotAt n; n < 64 ∧ s.fwRuns = true ∧ x.en = true) ∧
    (∃ (s : State) (n : Nat), let x := s.slotAt n; n < 64 ∧ (x.en = false ∨ s.fwRuns = false)) :=
  ⟨⟨up, 63, by decide +kernel⟩,
   ⟨({ up with lpe := { up.lpe with running := true } }).updSlot 63 fun x => { x with en := true, cfg := { law := 1 } }, 63,
      by decide +kernel⟩,
   ⟨up, 63, by decide +kernel⟩,
   ⟨63, by decide +kernel⟩,
   ⟨({ up with lpe := { up.lpe with running := true } }).updSlot 63 fun x => { x with disabling := true, cfg := { law := 1 } }, 63,
      by decide +kernel⟩,
   ⟨({ up with lpe := { up.lpe with running := true } }).updSlot 63 fun x => { x with cfg := { law := 1 } }, 63, 0, by decide +kernel⟩,
   ⟨({ up with lpe := { up.lpe with running := true } }).updSlot 63 fun x =>
      { x with cfg := { law := 1, guard := true, guardMax := 0 } }, 63, 0x00000104, by decide +kernel⟩,
   ⟨({ up with lpe := { up.lpe with running := true } }).updSlot 63 fun x => { x with cfg := { law := 1, parent := some 0 } }, 63, 0,
      by decide +kernel⟩,
   ⟨({ up with lpe := { up.lpe with running := true } }).updSlot 63 fun x => { x with cfg := { law := 1 } }, 63, 1, by decide +kernel⟩,
   ⟨({ up with lpe := { up.lpe with running := true } }).updSlot 63 fun x => { x with cfg := { law := 1 } }, 63, by decide +kernel⟩,
   ⟨up, 63, by decide +kernel⟩,
   ⟨({ up with lpe := { up.lpe with running := true } }).updSlot 63 fun x => { x with en := true, cfg := { law := 1 } }, 63,
      by decide +kernel⟩,
   ⟨({ up with lpe := { up.lpe with running := true } }).updSlot 63 fun x => { x with cfg := { law := 1 } }, 63, by decide +kernel⟩⟩

theorem witness_CalibrationStepsEnd :
    (∃ (s : State) (q : Nat) (i : Nat) (_ : PMeas), s.stepMayRun q i = false) ∧
    (∃ (_ : State) (q : Nat) (_ : Nat) (_ : PMeas), q ≠ 0x0040 ∧ q ≠ 0x0050) ∧
    (∃ (s : State) (q i : Nat), i < planishCount q ∧ s.fwRuns = true ∧ s.boot.complete = true ∧ s.itemUsed q i = true ∧ Table.at
      s.pln.dom (planishDomain q) none = none ∧ (∀ f ∈ s.damem.inflight, ∀ q' i', f.wait = .planish q' i' → planishDomain q' ≠
      planishDomain q)) ∧
    (∃ (s : State) (q i : Nat), (s.fwRuns = false ∨ s.boot.complete = false ∨ s.itemUsed q i = false ∨ planishCount q ≤ i ∨ Table.at
      s.pln.dom (planishDomain q) none ≠ none)) ∧
    (∃ (s : State) (q i : Nat), let ask := s.damem.inflight.any fun f => f.wait == .planish q i; s.stepMayRun q i = true ∧ (ask = true ∨
      q ≠ 0x0050 ∨ s.wmk.flight = [])) ∧
    (∃ (s : State) (q i : Nat), let ask := s.damem.inflight.any fun f => f.wait == .planish q i; s.stepMayRun q i = true ∧ ask = false ∧
      q = 0x0050 ∧ s.wmk.flight ≠ []) ∧
    (∃ (s : State) (q : Nat) (i : Nat) (_ : PMeas), s.stepMayRun q i = true ∧ (q = 0x0040 ∨ q = 0x0050)) ∧
    (∃ (s : State) (q : Nat) (_ : Nat) (m : PMeas), ∃ (_ : Bool),
      let t := if q = 0x0001 ∨ planishDepends q = true then s.touchCheck m.touchOhm else s; (q = 0x0001 ∨ planishDepends q = true) ∧
      t.supply.touchFault = true) ∧
    (∃ (s : State) (q : Nat) (_ : Nat) (m : PMeas), ∃ (_ : Bool),
      let t := if q = 0x0001 ∨ planishDepends q = true then s.touchCheck m.touchOhm else s; q = 0x0001 ∧ t.supply.touchFault = false) ∧
    (∃ (s : State) (q : Nat) (i : Nat) (m : PMeas), ∃ (_ : Bool),
      let t := if q = 0x0001 ∨ planishDepends q = true then s.touchCheck m.touchOhm else s; q ≠ 0x0001 ∧ (planishDepends q = false ∨
      t.supply.touchFault = false) ∧ (t.itemUsed q i = false ∨ t.itemPre q i = false ∨ m.pre = false)) ∧
    (∃ (s : State) (q i : Nat) (m : PMeas), let t := if q = 0x0001 ∨ planishDepends q = true then s.touchCheck m.touchOhm else s;
      let prev := if (t.itemAt q i).doneOnce then some (t.itemAt q i).coef else none; q ≠ 0x0001 ∧ (planishDepends q = false ∨
      t.supply.touchFault = false) ∧ t.itemUsed q i = true ∧ t.itemPre q i = true ∧ m.pre = true ∧ plausible q prev (t.ringCoefs i)
      (t.stepResult q i m.result) = false) ∧
    (∃ (s : State) (q i : Nat) (m : PMeas), let t := if q = 0x0001 ∨ planishDepends q = true then s.touchCheck m.touchOhm else s;
      let prev := if (t.itemAt q i).doneOnce then some (t.itemAt q i).coef else none; (q = 0x0020 ∨ q = 0x0002) ∧ t.supply.touchFault =
      false ∧ t.itemUsed q i = true ∧ t.itemPre q i = true ∧ m.pre = true ∧ plausible q prev (t.ringCoefs i) m.result = true) ∧
    (∃ (s : State) (d : Nat), d < 5 ∧ Table.at s.pln.dom d none = none) ∧
    (∃ (s : State) (d : Nat), ∃ (p : PStep), d < 5 ∧ Table.at s.pln.dom d none = some p ∧ (p.qty = 0x0010 ∨ p.qty = 0x0011)) ∧
    (∃ (s : State) (d : Nat) (p : PStep), let t := (s.planishCommit p.qty p.index).tapOnce p; d < 5 ∧ Table.at s.pln.dom d none = some p
      ∧ p.qty ≠ 0x0010 ∧ p.qty ≠ 0x0011 ∧ (t.2.taps.all fun x => x.2 == 0) = false) ∧
    (∃ (s : State) (d : Nat) (p : PStep), let t := (s.planishCommit p.qty p.index).tapOnce p; d < 5 ∧ Table.at s.pln.dom d none = some p
      ∧ p.qty ≠ 0x0010 ∧ p.qty ≠ 0x0011 ∧ (t.2.taps.all fun x => x.2 == 0) = true) ∧
    (∃ (s : State) (d : Nat) (p : PStep), d < 5 ∧ Table.at s.pln.dom d none = some p) ∧
    (∃ (s : State) (q i : Nat), q ≠ 0x0001 ∧ i < planishCount q ∧ (s.itemAt q i).overdue = false ∧ q ≠ 0x0002 ∧ q ≠ 0x0010 ∧ q ≠ 0x0011) ∧
    (∃ (s : State) (q i : Nat), q ≠ 0x0001 ∧ i < planishCount q ∧ (s.itemAt q i).overdue = false ∧ (q = 0x0002 ∨ q = 0x0010 ∨ q = 0x0011)) ∧
    (∃ (s : State) (q : Nat) (i : Nat), (q = 0x0001 ∨ planishCount q ≤ i ∨ (s.itemAt q i).overdue = true)) ∧
    (∃ (_ : State) (q : Nat) (_ : Nat) (_ : Nat) (_ : POut) (_ : Int), q ≠ 0x0020 ∧ q ≠ 0x0050) :=
  ⟨⟨up, 0x0001, 1, {}, by decide +kernel⟩,
   ⟨up, 0x0010, 0, {}, by decide +kernel⟩,
   ⟨{ up with wmk := { up.wmk with state := .on } }, 0x0050, 63, by decide +kernel, by decide +kernel, by decide +kernel,
      by decide +kernel, by decide +kernel, fun f h => absurd h (List.not_mem_nil)⟩,
   ⟨up, 0x0050, 63, by decide +kernel⟩,
   ⟨{ up with wmk := { up.wmk with state := .on } }, 0x0050, 63, by decide +kernel⟩,
   ⟨{ up with wmk := { up.wmk with state := .on, flight := [bS] } }, 0x0050, 63, by decide +kernel⟩,
   ⟨{ up with wmk := { up.wmk with state := .on } }, 0x0050, 63, {}, by decide +kernel⟩,
   ⟨up, 0x0001, 0, { touchOhm := 0 }, false, by decide +kernel⟩,
   ⟨up, 0x0001, 0, {}, false, by decide +kernel⟩,
   ⟨up, 0x0010, 3, {}, false, by decide +kernel⟩,
   ⟨{ up with thm := { up.thm with inletM := some 30000, outletM := some 30190 } }, 0x0020, 139, { result := [501] },
      by decide +kernel⟩,
   ⟨{ up with aar := { up.aar with excEn := true, stringOk := true } }, 0x0002, 0, { result := [] }, by decide +kernel⟩,
   ⟨up, 4, by decide +kernel⟩,
   ⟨{ up with pln := { up.pln with dom := Table.put up.pln.dom 4 (some { qty := 0x0010, index := 0 }) } }, 4,
      { qty := 0x0010, index := 0 }, by decide +kernel⟩,
   ⟨{ up with pln := { up.pln with dom := Table.put up.pln.dom 4 (some { qty := 0x0012, index := 0, taps := [(2, 2)] }) } }, 4,
      { qty := 0x0012, index := 0, taps := [(2, 2)] }, by decide +kernel⟩,
   ⟨{ up with pln := { up.pln with dom := Table.put up.pln.dom 4 (some { qty := 0x0012, index := 0, taps := [(2, 1)] }) } }, 4,
      { qty := 0x0012, index := 0, taps := [(2, 1)] }, by decide +kernel⟩,
   ⟨{ up with pln := { up.pln with dom := Table.put up.pln.dom 4 (some { qty := 0x0012, index := 0, taps := [(2, 2)] }) } }, 4,
      { qty := 0x0012, index := 0, taps := [(2, 2)] }, by decide +kernel⟩,
   ⟨up, 0x0020, 139, by decide +kernel⟩,
   ⟨up, 0x0002, 0, by decide +kernel⟩,
   ⟨up, 0x0001, 0, by decide +kernel⟩,
   ⟨up, 0x0040, 255, 5, .done, 0, by decide +kernel⟩⟩

theorem witness_FabricEventsAct :
    (∃ (s : State) (n : Nat) (_ : SwapEvents) (im : SecImage), n < 16 ∧ s.swapReady n = true ∧ (s.sectorAt n).shadow = some im) ∧
    (∃ (s : State) (n : Nat) (_ : SwapEvents), n < 16 ∧ s.swapReady n = false) ∧
    (∃ (s : State) (n : Nat), s.fil.busy = some n) ∧
    (∃ (s : State), s.fil.busy = none) ∧
    (∃ (n : Nat), n < 16) ∧
    (∃ (s : State) (n : Nat), let x := s.sectorAt n; n < 16 ∧ (x.image = none ∨ x.state = .fault)) ∧
    (∃ (s : State) (n : Nat), let x := s.sectorAt n; n < 16 ∧ x.image ≠ none ∧ x.state ≠ .fault) ∧
    (∃ (s : State) (p : Nat), let q := Table.at s.fil.port p {}; p < 8 ∧ q.mode ≠ 2) ∧
    (∃ (s : State) (p : Nat), let q := Table.at s.fil.port p {}; p < 8 ∧ q.mode = 2 ∧ q.frame = []) ∧
    (∃ (s : State) (p : Nat), let q := Table.at s.fil.port p {}; p < 8 ∧ q.mode = 2 ∧ q.frame ≠ []) ∧
    (∃ (s : State) (p : Nat), let q := Table.at s.fil.port p {}; let x := s.sectorAt q.sector; p < 8 ∧ (q.mode = 0 ∨ s.inService = false
      ∨ x.release = 0)) ∧
    (∃ (s : State) (p : Nat), let q := Table.at s.fil.port p {}; let x := s.sectorAt q.sector; p < 8 ∧ q.mode ≠ 0 ∧ s.inService = true ∧
      x.release ≠ 0 ∧ (q.mode ≠ 2 ∨ q.de = false)) ∧
    (∃ (s : State) (p : Nat), let q := Table.at s.fil.port p {}; p < 8 ∧ q.mode = 2 ∧ q.de = true) ∧
    (∃ (s : State) (p : Nat), let q := Table.at s.fil.port p {}; let x := s.sectorAt q.sector; p < 8 ∧ x.release < 2) ∧
    (∃ (s : State) (p : Nat), let q := Table.at s.fil.port p {}; let x := s.sectorAt q.sector; p < 8 ∧ q.mode ≠ 0 ∧ s.inService = true ∧
      2 ≤ x.release) ∧
    (∃ (s : State) (n : Nat) (w : Nat) (_ : Reg64), n < 16 ∧ Table.at s.fil.region (w / 8192) none = some n ∧ 2 ≤ (s.sectorAt n).release
      ∧ s.inService = true ∧ w ∉ s.fil.programmed) ∧
    (∃ (s : State) (n : Nat) (w : Nat) (_ : Reg64), n < 16 ∧ (Table.at s.fil.region (w / 8192) none ≠ some n ∨ (s.sectorAt n).release < 2
      ∨ s.inService = false ∨ w ∈ s.fil.programmed)) ∧
    (∃ (s : State) (n : Nat) (w : Nat) (_ : Reg64), n < 16 ∧ Table.at s.fil.region (w / 16) none = some n ∧ 2 ≤ (s.sectorAt n).release ∧
      s.inService = true) ∧
    (∃ (s : State) (n : Nat) (w : Nat) (_ : Reg64), n < 16 ∧ (Table.at s.fil.region (w / 16) none ≠ some n ∨ (s.sectorAt n).release < 2 ∨
      s.inService = false)) ∧
    (∃ (s : State) (r : Nat) (_ : Reg32), r < 32 ∧ (s.fil.regWrite.getLsbD r = false ∨ s.inService = false)) ∧
    (∃ (s : State) (r : Nat), r < 32 ∧ (∀ n im, n < 16 → (s.sectorAt n).image = some im → im.writesReg r = true → (s.sectorAt n).release
      < 2)) ∧
    (payloadSays 16 31 [] = true → ∃ (s : State) (r : Nat) (n : Nat) (im : SecImage), r < 32 ∧ n < 16 ∧ s.fil.regWrite.getLsbD r = true ∧
      s.inService = true ∧ (s.sectorAt n).image = some im ∧ im.writesReg r = true ∧ 2 ≤ (s.sectorAt n).release) ∧
    (∃ (s : State) (_ : Nat) (_ : Nat), (s.clocks.xtalFault = true ∨ s.dev.state = .off ∨ s.dev.state = .dormant)) ∧
    (∃ (s : State) (_ : Nat) (_ : Nat), s.clocks.xtalFault = false ∧ s.dev.state ≠ .off ∧ s.dev.state ≠ .dormant) :=
  ⟨⟨({ up with fil := { up.fil with busy := none } }).updSector 15 fun x =>
      { x with shadow := some { sector := 15, carry := false, capCount := 0, globalId := 0, carryId := 0, crc := 0, payload := [] }, state := .fault },
      15, {}, { sector := 15, carry := false, capCount := 0, globalId := 0, carryId := 0, crc := 0, payload := [] }, by decide +kernel⟩,
   ⟨up, 15, {}, by decide +kernel⟩,
   ⟨{ up with fil := { up.fil with busy := some 15 } }, 15, by decide +kernel⟩,
   ⟨up, by decide +kernel⟩,
   ⟨15, by decide +kernel⟩,
   ⟨up, 15, by decide +kernel⟩,
   ⟨({ up with fil := { up.fil with busy := none } }).updSector 15 fun x =>
      { x with image := some { sector := 15, carry := false, capCount := 0, globalId := 0, carryId := 0, crc := 0, payload := [] }, state := .running },
      15, by decide +kernel⟩,
   ⟨up, 7, by decide +kernel⟩,
   ⟨({ up with fil := { up.fil with port := Table.put up.fil.port 7 { sector := 15, mode := 2 } } }).updSector 15 fun x =>
      { x with image := some { sector := 15, carry := false, capCount := 0, globalId := 0, carryId := 0, crc := 0, payload := [] } }, 7,
      by decide +kernel⟩,
   ⟨({ up with fil := { up.fil with port := Table.put up.fil.port 7 { sector := 15, mode := 2, frame := [1] } } }).updSector 15 fun x
      => { x with image := some { sector := 15, carry := false, capCount := 0, globalId := 0, carryId := 0, crc := 0, payload := [] } },
      7, by decide +kernel⟩,
   ⟨({ up with fil := { up.fil with port := Table.put up.fil.port 7 { sector := 15, mode := 1 } } }).updSector 15 fun x =>
      { x with release := 0 }, 7, by decide +kernel⟩,
   ⟨({ up with fil := { up.fil with port := Table.put up.fil.port 7 { sector := 15, mode := 2 } } }).updSector 15 fun x =>
      { x with release := 1 }, 7, by decide +kernel⟩,
   ⟨({ up with fil := { up.fil with port := Table.put up.fil.port 7 { sector := 15, mode := 2, de := true } } }).updSector 15 fun x =>
      { x with release := 3 }, 7, by decide +kernel⟩,
   ⟨({ up with fil := { up.fil with port := Table.put up.fil.port 7 { sector := 15, mode := 2 } } }).updSector 15 fun x =>
      { x with release := 1 }, 7, by decide +kernel⟩,
   ⟨({ up with fil := { up.fil with port := Table.put up.fil.port 7 { sector := 15, mode := 1 } } }).updSector 15 fun x =>
      { x with release := 2 }, 7, by decide +kernel⟩,
   ⟨({ up with fil := { up.fil with region := Vector.replicate 8 (some 15) } }).updSector 15 fun x => { x with release := 2 }, 15,
      65535, 0, by decide +kernel⟩,
   ⟨({ up with fil := { up.fil with region := Vector.replicate 8 (some 15) } }).updSector 15 fun x => { x with release := 2 }, 15,
      65536, 0, by decide +kernel⟩,
   ⟨({ up with fil := { up.fil with region := Vector.replicate 8 (some 15) } }).updSector 15 fun x => { x with release := 2 }, 15, 127,
      0, by decide +kernel⟩,
   ⟨({ up with fil := { up.fil with region := Vector.replicate 8 (some 15) } }).updSector 15 fun x => { x with release := 2 }, 15, 128,
      0, by decide +kernel⟩,
   ⟨up, 31, 0, by decide +kernel⟩,
   ⟨up, 31, by decide +kernel, fun n im h e => absurd (e.symm.trans (show (up.sectorAt n).image = none from up_sectors n h)) nofun⟩,
   fun h => ⟨({ up with fil := { up.fil with regWrite := 0x80000000 } }).updSector 15 fun x =>
      { x with image := some { sector := 15, carry := false, capCount := 0, globalId := 0, carryId := 0, crc := 0, payload := [] }, release := 2 },
      31, 15, { sector := 15, carry := false, capCount := 0, globalId := 0, carryId := 0, crc := 0, payload := [] }, by decide +kernel,
      by decide +kernel, by decide +kernel, by decide +kernel, by decide +kernel, h, by decide +kernel⟩,
   ⟨{ up with clocks := { up.clocks with xtalFault := true } }, 0, 0, by decide +kernel⟩,
   ⟨up, 0, 0, by decide +kernel⟩⟩

end Sys2Proof.Tests
end

section
/-! SUPPORT. The notice mask of a mailbox page (05 R220): what it is at reset, and what a host's write to the page leaves in it. -/
namespace Sys2Proof.Machine

/-! ### The page that a register access reaches (05 R193) -/

theorem pageOf_pf0 {off : Nat} (h1 : 0x110000 ≤ off) (h2 : off < 0x111000) : pageOf 0 off = some 16 := by
  simp [pageOf, h1, h2]

theorem pageOf_vf (m : Nat) {off : Nat} (h1 : 0x100000 ≤ off) (h2 : off < 0x101000) : pageOf (m + 1) off = some m := by
  simp [pageOf, h1, h2]

variable {s : State}

theorem State.mbxUp_pf0 (h : s.supply.endpoint = .ready) : s.mbxUp 16 = true := by
  simp [State.mbxUp, h]

theorem State.mbxUp_of_vfUp {m : Nat} (h : s.supply.endpoint = .ready) (hv : s.vfUp (m + 1) = true) : s.mbxUp m = true := by
  simp [State.mbxUp, h, hv]

/-- A write to an aligned word of a page that its function reaches is a write to the page. -/
theorem State.evRegWrite_page {fn off m : Nat} (hp : pageOf fn off = some m) (ha : off % 4 = 0) (hr : s.supply.endpoint = .ready)
    (hm : s.mbxUp m = true) (v : Reg32) (be : Nat) : s.evRegWrite fn (.bar0 off) v be = s.pageWrite m (off % 0x1000) v be := by
  simp [State.evRegWrite, hr, ha, hp, hm]

/-- The effect of such a write is the write to the page. -/
theorem effect_regWrite_page {fn off m : Nat} {v : Reg32} {be : Nat} (hp : pageOf fn off = some m) (ha : off % 4 = 0)
    (hr : s.supply.endpoint = .ready) (hm : s.mbxUp m = true) :
    Effect (.regWrite fn (.bar0 off) v be) s (s.pageWrite m (off % 0x1000) v be) :=
  effect_of rfl (State.evRegWrite_page hp ha hr hm v be)

/-! ### The notice mask -/

/-- MBX_NOTICE_MASK takes the written classes that the mailbox permits, whether or not a POST waits. -/
theorem State.pageWrite_noticeMask (s : State) (m : Nat) (v : Reg32) :
    s.pageWrite m 0x10 v 15 = s.updPage m fun pg => { pg with mask := v.setWidth 9 &&& permittedMask m } := by
  simp [State.pageWrite]

theorem State.pageWord_noticeMask (s : State) (m : Nat) : s.pageWord m 0x10 = (s.pageAt m).mask.toNat := rfl

theorem State.reset_noticeMask {m : Nat} (h : m < 17) : (State.reset.pageAt m).mask = permittedMask m := by
  by_cases hm : m = 16
  · subst hm; rfl
  · have page : State.reset.pageAt m = {} := by
      simp [State.pageAt, State.reset, Table.at, h, Ne.symm hm]
    rw [page, permittedMask, if_neg hm]

/-- Settles O18: a host's write to MBX_NOTICE_MASK reaches the mailbox page of its function, which keeps the permitted classes of it. -/
theorem noticeMasksStayPermitted : Obligations.NoticeMasksStayPermitted := by
  unfold Obligations.NoticeMasksStayPermitted
  refine ⟨fun _ _ => rfl, fun _ h => State.reset_noticeMask h, ?pf0, ?vf, fun s m _ => s.pageWord_noticeMask m⟩
  case pf0 =>
    intro s v hr
    rw [← State.pageWrite_noticeMask]
    exact effect_regWrite_page (pageOf_pf0 (by decide) (by decide)) rfl hr (State.mbxUp_pf0 hr)
  case vf =>
    intro s m v _ hr hv
    rw [← State.pageWrite_noticeMask]
    exact effect_regWrite_page (pageOf_vf m (by decide) (by decide)) rfl hr (State.mbxUp_of_vfUp hr hv)

end Sys2Proof.Machine
end

section
/-! SUPPORT. Doorbell writes (06 R259, 21 R819): a doorbell that acts takes a write within its bounds and counts any other; one that does
not act leaves the state as it is. -/
namespace Sys2Proof.Machine

/-! ### What a doorbell write comes to -/

section
variable {s : State} {vf r : Nat}

theorem State.doorbellOf_eq_true (ho : s.ringOfVf vf r = true) (hs : (s.ringAt r).setup = true) : s.doorbellOf vf r = true := by
  simp [State.doorbellOf, ho, hs]

theorem State.doorbellOf_eq_false (h : s.ringOfVf vf r = false ∨ (s.ringAt r).setup = false) : s.doorbellOf vf r = false :=
  Bool.and_eq_false_iff.2 h

theorem State.evSubPi_of_doorbell (h : s.doorbellOf vf r = true) (v : Nat) :
    s.evSubPi vf r v =
      if idxSub v (s.ringAt r).subCi ≤ (s.ringAt r).size ∧ idxSub v (s.ringAt r).subPi ≤ (s.ringAt r).size then
        (s.updRing r fun x => { x with subPi := v }).ringRefresh r
      else s.badDoorbell r := by
  simp [State.evSubPi, h]

theorem State.evCplCi_of_doorbell (h : s.doorbellOf vf r = true) (v : Nat) :
    s.evCplCi vf r v =
      if idxSub v (s.ringAt r).cplCi ≤ idxSub (s.ringAt r).cplPi (s.ringAt r).cplCi then
        (s.updRing r fun x => { x with cplCi := v }).ringMoved r
      else s.badDoorbell r := by
  simp [State.evCplCi, ciOk, h]

theorem State.evSpillCi_of_doorbell (h : s.doorbellOf vf r = true) (v : Nat) :
    s.evSpillCi vf r v =
      if idxSub v (s.ringAt r).spillCi ≤ idxSub (s.ringAt r).spillPi (s.ringAt r).spillCi then
        (s.updRing r fun x => { x with spillCi := v }).ringMoved r
      else s.badDoorbell r := by
  simp [State.evSpillCi, ciOk, h]

theorem State.evSubPi_of_no_doorbell (h : s.doorbellOf vf r = false) (v : Nat) : s.evSubPi vf r v = s := by
  simp [State.evSubPi, h]
theorem State.evCplCi_of_no_doorbell (h : s.doorbellOf vf r = false) (v : Nat) : s.evCplCi vf r v = s := by
  simp [State.evCplCi, h]
theorem State.evSpillCi_of_no_doorbell (h : s.doorbellOf vf r = false) (v : Nat) : s.evSpillCi vf r v = s := by
  simp [State.evSpillCi, h]

/-! ### The commands, for a VF and a ring that exist -/

variable {v : Reg32} {t : State}

theorem effect_rngSubPiWrite (hu : vf < 17 ∧ r < 64) (e : s.evSubPi vf r v.toNat = t) : Effect (.rngSubPiWrite vf r v) s t :=
  effect_of (if_pos hu) e
theorem effect_rngCplCiWrite (hu : vf < 17 ∧ r < 64) (e : s.evCplCi vf r v.toNat = t) : Effect (.rngCplCiWrite vf r v) s t :=
  effect_of (if_pos hu) e
theorem effect_rngSpillCiWrite (hu : vf < 17 ∧ r < 64) (e : s.evSpillCi vf r v.toNat = t) : Effect (.rngSpillCiWrite vf r v) s t :=
  effect_of (if_pos hu) e

end

/-- Settles O42: each write is decided by whether the doorbell acts, and then by the bounds of its index. -/
theorem doorbellsAreTakenOrCounted : Obligations.DoorbellsAreTakenOrCounted := by
  unfold Obligations.DoorbellsAreTakenOrCounted
  intro s vf r hvf hr x counted
  have hu : vf < 17 ∧ r < 64 := ⟨hvf, hr⟩
  refine ⟨fun ho hs v => ?acts, fun hn v => ?ignored⟩
  case acts =>
    have hd : s.doorbellOf vf r = true := State.doorbellOf_eq_true ho hs
    refine ⟨fun hc hp => effect_rngSubPiWrite hu ?_, fun hb => effect_rngSubPiWrite hu ?_, fun hi => effect_rngCplCiWrite hu ?_,
      fun hb => effect_rngCplCiWrite hu ?_, fun hi => effect_rngSpillCiWrite hu ?_, fun hb => effect_rngSpillCiWrite hu ?_⟩
    · exact (State.evSubPi_of_doorbell hd _).trans (if_pos ⟨hc, hp⟩)
    · exact (State.evSubPi_of_doorbell hd _).trans (if_neg fun ⟨hc, hp⟩ => hb.elim hc.not_gt hp.not_gt)
    · exact (State.evCplCi_of_doorbell hd _).trans (if_pos hi)
    · exact (State.evCplCi_of_doorbell hd _).trans (if_neg hb.not_ge)
    · exact (State.evSpillCi_of_doorbell hd _).trans (if_pos hi)
    · exact (State.evSpillCi_of_doorbell hd _).trans (if_neg hb.not_ge)
  case ignored =>
    have hd : s.doorbellOf vf r = false := State.doorbellOf_eq_false hn
    exact ⟨effect_rngSubPiWrite hu (State.evSubPi_of_no_doorbell hd _), effect_rngCplCiWrite hu (State.evCplCi_of_no_doorbell hd _),
      effect_rngSpillCiWrite hu (State.evSpillCi_of_no_doorbell hd _)⟩

end Sys2Proof.Machine
end

section
/-! SUPPORT. Latched words (21 R807): what taking and putting a latch leaves, and what a read of a register in BAR0 or of a word of the
control region in BAR2 does with them. -/
namespace Sys2Proof.Machine

/-! ### Taking and putting a latch -/

section
variable {s : State} {fn off : Nat}

/-- A latched word is read in place of the present one, and its latch is spent. -/
theorem State.takeLatch_of_latched {v : Nat}
    (h : s.sriov.latches.find? (fun x => x.1 == fn && x.2.1 == off) = some (fn, off, v)) (present : Nat) :
    s.takeLatch fn off present = (v, { s with
      sriov := { s.sriov with latches := s.sriov.latches.filter fun y => !(y.1 == fn && y.2.1 == off) } }) := by
  simp only [State.takeLatch, h]

theorem State.takeLatch_of_none (h : s.sriov.latches.find? (fun x => x.1 == fn && x.2.1 == off) = none) (present : Nat) :
    s.takeLatch fn off present = (present, s) := by
  simp only [State.takeLatch, h]

/-- Taking a latch changes nothing but the latches, which stand with the state of the functions. -/
theorem State.takeLatch_frame (s : State) (fn off present : Nat) :
    (s.takeLatch fn off present).2 = { s with sriov := (s.takeLatch fn off present).2.sriov } := by
  unfold State.takeLatch
  split <;> rfl

theorem State.find?_putLatch (s : State) (fn off v : Nat) :
    (s.putLatch fn off v).sriov.latches.find? (fun x => x.1 == fn && x.2.1 == off) = some (fn, off, v) := by
  simp [State.putLatch]

end

/-! ### A read of a register in BAR0 (21 R806, R807) -/

theorem latchPairs_aligned : ∀ x ∈ latchPairs, x.1 % 4 = 0 := by decide

theorem latchPairs_find? : ∀ x ∈ latchPairs, (latchPairs.find? fun y => y.1 == x.1) = some x := by decide

section
variable {s t : State} {fn off : Nat}

theorem effect_regLoRead (e : s.evRegRead fn off = t) : Effect (.regLoRead fn ⟨false, off⟩) s t := effect_of rfl e

theorem State.evRegRead_of_not_ready (h : s.supply.endpoint ≠ .ready) (fn off : Nat) : s.evRegRead fn off = s := if_pos (.inl h)

/-- A read of a _LO register takes the latch of its own word, if there is one, and latches the _HI word. -/
theorem State.evRegRead_lo {lo hi : Nat} (hr : s.supply.endpoint = .ready) (h : (lo, hi) ∈ latchPairs) :
    s.evRegRead 0 lo = ((s.takeLatch 0 lo (s.bar0Word 0 lo)).2.putLatch 0 hi (s.bar0Word 0 hi)).emit
      (.readData 0 lo (s.takeLatch 0 lo (s.bar0Word 0 lo)).1) := by
  have word : lo / 4 * 4 = lo := Nat.div_mul_cancel (Nat.dvd_of_mod_eq_zero (latchPairs_aligned _ h))
  simp [State.evRegRead, hr, word, latchPairs_find? _ h]

/-- A read of any other register only takes the latch of its word. -/
theorem State.evRegRead_other (hr : s.supply.endpoint = .ready) (hf : fn = 0 ∨ s.vfUp fn = true) (ha : off % 4 = 0)
    (hn : fn = 0 → ∀ x ∈ latchPairs, x.1 ≠ off) :
    s.evRegRead fn off = (s.takeLatch fn off (s.bar0Word fn off)).2.emit
      (.readData fn off (s.takeLatch fn off (s.bar0Word fn off)).1) := by
  have word : off / 4 * 4 = off := Nat.div_mul_cancel (Nat.dvd_of_mod_eq_zero ha)
  have reach : ¬ (s.supply.endpoint ≠ .ready ∨ (fn ≠ 0 ∧ ¬ s.vfUp fn)) := by
    rintro (h | ⟨h0, hv⟩)
    · exact h hr
    · exact hf.elim h0 hv
  have high : (if fn = 0 then (latchPairs.find? fun x => x.1 == off).map (·.2) else none) = none := by
    split
    next h0 => rw [List.find?_eq_none.2 fun x hx => by simpa using hn h0 x hx]; rfl
    next => rfl
  simp only [State.evRegRead, word, if_neg reach, high]

end

/-! ### A read of a word of the control region in BAR2 (09 R377, 21 R807) -/

section
variable {s t : State} {vf off : Nat}

theorem effect_bar2Access {addr len : Nat} {wr : Option (List Byte)} (hu : vf < 17) (e : s.evBar2Access vf addr wr len = t) :
    Effect (.bar2Access vf addr wr len) s t :=
  effect_of (State.onUnit_of_lt hu) e

/-- A 32-bit read of an aligned word of the control region, by a VF whose partition is there. -/
theorem State.evBar2Access_ctrlRead (h1 : 1 ≤ vf) (hv : s.vfUp vf = true) (hp : (s.partAt (vf - 1)).state ≠ .none) (ha : off % 4 = 0) :
    s.evBar2Access vf (ctrlBase + off) none 4 =
      (s.ctrlReadLatched (vf - 1) off).2.emit (.readData vf (ctrlBase + off) (s.ctrlReadLatched (vf - 1) off).1) := by
  have word : off / 4 * 4 = off := Nat.div_mul_cancel (Nat.dvd_of_mod_eq_zero ha)
  simp [State.evBar2Access, State.ctrlReads, word, Nat.ne_of_gt h1, hv, hp]

theorem State.ctrlReadLatched_lo (s : State) (h1 : 1 ≤ vf) (h : off = 0 ∨ off = 8) :
    (s.ctrlReadLatched (vf - 1) off).2 =
      (s.takeLatch vf (ctrlBase + off) (s.ctrlRead (vf - 1) off)).2.putLatch vf (ctrlBase + off + 4) (s.ctrlRead (vf - 1) (off + 4)) := by
  rw [State.ctrlReadLatched, Nat.sub_add_cancel h1, if_pos h]

theorem State.ctrlReadLatched_hi (s : State) (h1 : 1 ≤ vf) (h : off = 4 ∨ off = 12) :
    s.ctrlReadLatched (vf - 1) off = s.takeLatch vf (ctrlBase + off) (s.ctrlRead (vf - 1) off) := by
  rw [State.ctrlReadLatched, Nat.sub_add_cancel h1, if_neg (by omega)]

end

/-- Settles O17: a read takes the latch of its own word, and a read of a _LO word puts that of its _HI word. -/
theorem loReadsLatchTheHighWord : Obligations.LoReadsLatchTheHighWord := by
  unfold Obligations.LoReadsLatchTheHighWord
  refine ⟨?pf0Lo, ?latched, ?present, ?ctrlLo, ?ctrlLatched, ?ctrlPresent, fun s fn off hr =>
    effect_regLoRead (State.evRegRead_of_not_ready hr fn off)⟩
  case pf0Lo =>
    intro s lo hi hr h
    refine ⟨_, effect_regLoRead (State.evRegRead_lo hr h), ?_, State.find?_putLatch ..⟩
    rw [State.takeLatch_frame]; rfl
  case latched =>
    intro s fn off v hr hf ha h hn
    refine effect_regLoRead ((State.evRegRead_other hr hf ha fun _ => hn).trans ?_)
    rw [State.takeLatch_of_latched h]; rfl
  case present =>
    intro s fn off hr hf ha h
    by_cases hlo : fn = 0 ∧ ∃ x ∈ latchPairs, x.1 = off
    · obtain ⟨rfl, ⟨_, hi⟩, hx, rfl⟩ := hlo
      refine ⟨_, effect_regLoRead (State.evRegRead_lo hr hx), ?_⟩
      rw [State.takeLatch_of_none h]
      exact ⟨rfl, rfl⟩
    · have hn : fn = 0 → ∀ x ∈ latchPairs, x.1 ≠ off := fun h0 x hx e => hlo ⟨h0, x, hx, e⟩
      refine ⟨_, effect_regLoRead (State.evRegRead_other hr hf ha hn), ?_⟩
      rw [State.takeLatch_of_none h]
      exact ⟨rfl, rfl⟩
  case ctrlLo =>
    intro s vf lo h1 hu hv hp hlo
    have ha : lo % 4 = 0 := by omega
    refine ⟨_, effect_bar2Access hu (State.evBar2Access_ctrlRead h1 hv hp ha), ?_⟩
    rw [State.ctrlReadLatched_lo s h1 hlo]
    refine ⟨?_, State.find?_putLatch ..⟩
    rw [State.takeLatch_frame]; rfl
  case ctrlLatched =>
    intro s vf hi v h1 hu hv hp hhi h
    have ha : hi % 4 = 0 := by omega
    refine effect_bar2Access hu ((State.evBar2Access_ctrlRead h1 hv hp ha).trans ?_)
    rw [State.ctrlReadLatched_hi s h1 hhi, State.takeLatch_of_latched h]; rfl
  case ctrlPresent =>
    intro s vf hi h1 hu hv hp hhi h
    have ha : hi % 4 = 0 := by omega
    refine effect_bar2Access hu ((State.evBar2Access_ctrlRead h1 hv hp ha).trans ?_)
    rw [State.ctrlReadLatched_hi s h1 hhi, State.takeLatch_of_none h]; rfl

end Sys2Proof.Machine
end

section
/-! SUPPORT. One step of the device: the command at its front or a tick of its clock, the promise that it leaves true (20 R778), and what
reset leaves (02 R70). -/
namespace Sys2Proof.Machine

/-! ### The promise -/

/-- The conditions of the promise rest neither on the mailboxes nor on what has been sent. -/
theorem State.followPromise_promiseTrue (s : State) : PromiseTrue s.followPromise := by
  unfold State.followPromise
  dsimp only
  split
  · exact ⟨rfl, rfl⟩
  · split
    · obtain ⟨p, o, h⟩ := State.deliverNotice_form _ 16 _
      rw [h]
      exact ⟨rfl, rfl⟩
    · exact ⟨rfl, rfl⟩

/-- Nothing follows where CHL_PROMISE already says what the conditions are. -/
theorem State.followPromise_of_promiseTrue {s : State} (h : PromiseTrue s) : s.followPromise = s := by
  obtain ⟨causes, held⟩ := h
  unfold State.followPromise
  dsimp only
  have breaches : (if s.mesh.promHeld && !s.mesh.promHeld then satInc 16 s.mesh.breaches else s.mesh.breaches) = s.mesh.breaches := by
    simp
  rw [if_pos held.symm, ← held, ← causes, breaches]

/-- Whatever a command's own effect, the promise is true where the command ends. -/
theorem State.finish_promiseTrue {s t u : State} (h : s.finish t = .next u) : PromiseTrue u := by
  cases h
  exact State.followPromise_promiseTrue t.settleUnits

/-- Settles O3: every step ends by following the promise, and taking the queue back leaves it true. -/
theorem everyStepKeepsThePromiseTrue : Obligations.EveryStepKeepsThePromiseTrue := by
  unfold Obligations.EveryStepKeepsThePromiseTrue
  intro s t _ h
  unfold step at h
  split at h
  · exact State.finish_promiseTrue h
  · obtain ⟨u, hu⟩ := exec_finish h
    exact State.finish_promiseTrue hu

/-! ### Commands and their units -/

/-- A command that names units ends with its effect where they exist, and is a fault where they do not. -/
theorem guarded_ends_or_faults {P : Prop} [Decidable P] (s t : State) :
    (decide P = true ∧ ∃ u, (if P then s.finish t else .fault .noSuchUnit) = s.finish u) ∨
      (decide P = false ∧ (if P then s.finish t else .fault .noSuchUnit) = (.fault .noSuchUnit : Res)) := by
  by_cases h : P
  · exact .inl ⟨decide_eq_true h, t, if_pos h⟩
  · exact .inr ⟨decide_eq_false h, if_neg h⟩

set_option maxRecDepth 4000 in
/-- A command ends with its effect exactly where the units it names exist. -/
theorem exec_ends_or_faults (i : Instr) (s : State) :
    (WellFormed i = true ∧ ∃ t, exec i s = s.finish t) ∨ (WellFormed i = false ∧ exec i s = .fault .noSuchUnit) := by
  cases i <;> first
    | exact .inl ⟨rfl, _, rfl⟩
    | exact guarded_ends_or_faults s _

/-- Settles O2: a command either ends with its effect, and then keeps the queue, or names a unit that does not exist. -/
theorem commandsCompleteWhereTheirUnitsExist : Obligations.CommandsCompleteWhereTheirUnitsExist := by
  unfold Obligations.CommandsCompleteWhereTheirUnitsExist
  refine ⟨fun i s t h => ?queue, fun i s h => ?completes, fun i s h => ?faults⟩
  case queue =>
    obtain ⟨u, hu⟩ := exec_finish h
    exact State.finish_pending hu
  case completes =>
    obtain ⟨_, t, ht⟩ | ⟨hf, _⟩ := exec_ends_or_faults i s
    · exact ⟨_, ht⟩
    · exact absurd (h.symm.trans hf) nofun
  case faults =>
    obtain ⟨hw, _⟩ | ⟨_, hf⟩ := exec_ends_or_faults i s
    · exact absurd (hw.symm.trans h) nofun
    · exact hf

/-! ### A tick of the clock -/

/-- A fold of an operation that leaves the state as it is leaves the state as it is. -/
theorem foldl_of_fixed {σ α : Type} {f : σ → α → σ} {s : σ} : ∀ {l : List α}, (∀ a ∈ l, f s a = s) → l.foldl f s = s
  | [], _ => rfl
  | a :: l, h => by
    rw [List.foldl_cons, h a List.mem_cons_self]
    exact foldl_of_fixed fun b hb => h b (List.mem_cons_of_mem _ hb)

theorem State.ackAll_of_free {s : State} (h : ∀ m, m < 17 → (s.pageAt m).reqBusy = false) : s.ackAll = s :=
  foldl_of_fixed fun m _ => by simp [State.ackPosted, h m m.isLt]

section
variable {s : State}

theorem State.alarmDue_of_not_reached (h : s.alarmReached = false) : s.alarmDue = s := by simp [State.alarmDue, h]
theorem State.beatFollow_of_no_beat (h : s.stew.beat = false) : s.beatFollow = s := by simp [State.beatFollow, h]
theorem State.handoverDone_of_no_offer (h : s.stew.offerAt = none) : s.handoverDone = s := by simp [State.handoverDone, h]
theorem State.fabricReads_of_no_words (h : s.fil.badWords = []) : s.fabricReads = s := by simp [State.fabricReads, h]
theorem State.quiesceDue_of_no_handover (h : s.update.handover = none) : s.quiesceDue = s := by simp [State.quiesceDue, h]
theorem State.boundsPassed_of_no_request (h : s.damem.inflight = []) : s.boundsPassed = s := by simp [State.boundsPassed, h]

/-- Where nothing is due, nothing follows from the clock's counts. -/
theorem State.after_tick_of_nothing_due (ha : s.alarmReached = false) (hb : s.stew.beat = false) (ho : s.stew.offerAt = none)
    (hw : s.fil.badWords = []) (hh : s.update.handover = none) (hi : s.damem.inflight = []) :
    s.alarmDue.beatFollow.handoverDone.fabricReads.quiesceDue.boundsPassed = s := by
  rw [State.alarmDue_of_not_reached ha, State.beatFollow_of_no_beat hb, State.handoverDone_of_no_offer ho,
    State.fabricReads_of_no_words hw, State.quiesceDue_of_no_handover hh, State.boundsPassed_of_no_request hi]

/-- A tick at which nothing is due only counts. -/
theorem State.idle_of_nothing_due (hv : s.supply.vdeck = true) (hp : ∀ m, m < 17 → (s.pageAt m).reqBusy = false)
    (ha : s.clockTick.alarmReached = false) (hb : s.stew.beat = false) (ho : s.stew.offerAt = none) (hw : s.fil.badWords = [])
    (hh : s.update.handover = none) (hi : s.damem.inflight = []) : s.idle = s.clockTick.mouldTick.throttleTime := by
  rw [State.idle, if_pos hv, State.ackAll_of_free hp]
  exact State.after_tick_of_nothing_due (s := s.clockTick.mouldTick.throttleTime) ha hb ho hw hh hi

end

/-- Settles O1: the front of the queue decides the step, and an empty queue is a tick. -/
theorem stepRunsTheFrontCommand : Obligations.StepRunsTheFrontCommand := by
  unfold Obligations.StepRunsTheFrontCommand
  refine ⟨fun s c rest h => by simp only [step, h], fun s h => ?tick, fun s h => by simp [State.idle, h], ?due⟩
  case tick => simp only [step, h, State.finish]
  case due =>
    intro s hv hp ha hb ho hw hh hi
    have e := State.idle_of_nothing_due hv hp ha hb ho hw hh hi
    exact ⟨e, by rw [e]; rfl⟩

/-! ### Reset (02 R70, R79) -/

set_option maxRecDepth 4000 in
theorem State.reset_promiseTrue : PromiseTrue State.reset := by
  unfold PromiseTrue; decide +kernel

/-- Settles O4: reset is a fixed state, whose fields are evaluated. -/
theorem resetIsColdReset : Obligations.ResetIsColdReset := by
  unfold Obligations.ResetIsColdReset
  refine ⟨rfl, rfl, rfl, rfl, ?rails, ?strands, ?lasers, ?parts, ?tallies, rfl, rfl, rfl, rfl, State.reset_promiseTrue, ?quiet⟩
  case rails => decide +kernel
  case strands => decide +kernel
  case lasers => decide +kernel
  case parts => decide +kernel
  case tallies => decide +kernel
  case quiet =>
    refine ⟨rfl, fun r h hh => ?_, rfl, rfl, rfl, rfl⟩
    have ring : State.reset.ringAt r = {} := Table.at_replicate r _
    rw [ring] at hh
    cases hh

/-- A cold reset leaves the promise as reset does: true. -/
theorem State.coldReset_promiseTrue (s : State) (lost : Bool) : PromiseTrue (s.coldReset lost) := by
  cases lost <;> exact State.reset_promiseTrue

/-- Nothing follows from a cold reset: the device is held in it. -/
theorem State.settle_coldReset (s : State) (lost : Bool) (f : Supply → Supply) (h : (f (s.coldReset lost).supply).porst = true) :
    ((s.coldReset lost).updSupply f).settle = (s.coldReset lost).updSupply f := by
  rw [State.settle_reset (.inl h)]
  exact State.followPromise_of_promiseTrue (s.coldReset_promiseTrue lost)

section
variable {s : State}

theorem State.evPorstAssert_short {us : Nat} (h : us < 10) : s.evPorstAssert us = s := if_pos h
theorem State.evPorstAssert_no_vdeck {us : Nat} (h : 10 ≤ us) (hv : s.supply.vdeck = false) :
    s.evPorstAssert us = s.updSupply fun u => { u with porstLow := true } := by
  simp [State.evPorstAssert, Nat.not_lt.2 h, hv]
theorem State.evPorstAssert_long {us : Nat} (h : 10 ≤ us) (hv : s.supply.vdeck = true) :
    s.evPorstAssert us = (s.coldReset false).updSupply fun u => { u with porstLow := true } := by
  simp [State.evPorstAssert, Nat.not_lt.2 h, hv]

/-- A low of 10 us on PORST# ends as the cold reset itself. -/
theorem exec_porstAssert_long {us : Nat} (h : 10 ≤ us) (hv : s.supply.vdeck = true) :
    exec (.porstAssert us) s = .next ((s.coldReset false).updSupply fun u => { u with porstLow := true }) := by
  have own : exec (.porstAssert us) s = s.finish (s.evPorstAssert us) := rfl
  rw [own, State.evPorstAssert_long h hv, State.finish, State.settle_coldReset s false _ rfl]
  rfl

/-- The loss of VDECK ends as the cold reset that loses the calendar. -/
theorem exec_vdeckLoss (s : State) : exec .vdeckLoss s = .next (s.coldReset true) := by
  have own : exec .vdeckLoss s = s.finish ((s.coldReset true).updSupply id) := rfl
  rw [own, State.finish, State.settle_coldReset s true _ rfl]
  rfl

end

/-- Settles O6: a low that counts ends as the cold reset, whose fields are those of reset. -/
theorem porstLowMakesColdReset : Obligations.PorstLowMakesColdReset := by
  unfold Obligations.PorstLowMakesColdReset
  refine fun s us => ⟨fun h => effect_of rfl (State.evPorstAssert_short h),
    fun h hv => effect_of rfl (State.evPorstAssert_no_vdeck h hv), fun h hv => ⟨_, exec_porstAssert_long h hv, ?_⟩⟩
  repeat' apply And.intro
  all_goals rfl

/-- Settles O7: what the detector and VDECK's loss do, by the levels of VDECK and PORST#. -/
theorem supplyResetsAndReleases : Obligations.SupplyResetsAndReleases := by
  unfold Obligations.SupplyResetsAndReleases
  refine ⟨?loss, ?detected, fun s hv => ?gone, fun s hv hp => ?back, fun s hv hp => ?backLow, fun s hv => ?there, fun s hp hv => ?release,
    fun s h => ?still⟩
  case loss =>
    intro s
    have rails : ∀ r, (s.coldReset true).enAt r = false := fun r => Table.at_replicate r false
    exact ⟨_, exec_vdeckLoss s, rfl, rfl, rfl, rails, rfl, rfl, rfl, rfl, rfl, rfl⟩
  case detected =>
    intro s hv
    have own : s.evPowerOnDetect false = s.evVdeckLoss := by simp [State.evPowerOnDetect, State.evVdeckLoss, hv]
    exact congrArg s.finish own
  case gone => exact effect_of rfl (by simp [State.evPowerOnDetect, hv])
  case back => exact effect_of rfl (by simp [State.evPowerOnDetect, hv, hp, State.vdeckBack, State.resetEnds])
  case backLow => exact effect_of rfl (by simp [State.evPowerOnDetect, hv, hp, State.vdeckBack])
  case there => exact effect_of rfl (by simp [State.evPowerOnDetect, hv])
  case release => exact effect_of rfl (by simp [State.evPorstRelease, hp, hv, State.updSupply, State.resetEnds])
  case still =>
    have held : ¬ (s.supply.porst = true ∧ s.supply.vdeck = true) := fun ⟨hp, hv⟩ => by simp [hp, hv] at h
    exact effect_of rfl (if_neg held)

end Sys2Proof.Machine
end

section
/-! SUPPORT. The rail sequence (02 R56, R75-R77): what each event of a rail comes to, by the sequence in progress. -/
namespace Sys2Proof.Machine

variable {s : State} {r q last : Nat} {w : Bool}

/-! ### Power-good rises -/

/-- The device in which an awaited PG_ has risen, before the sequence goes on. -/
def State.pgRisen (s : State) (r : Nat) : State :=
  let s1 := s.updSupply fun u => { u with pg := Table.put u.pg r true, vphoOk := u.vphoOk || decide (r = 4) }
  if (r = 5 ∨ r = 6) ∧ s.dev.target ≠ .dormant then s1.heatersFollow else s1

theorem State.evPgRise_awaited (h : s.supply.seq = .up r false last) :
    s.evPgRise r = (s.pgRisen r).seqTo (.up r true last) s.supply.goal := by
  simp [State.evPgRise, h, State.pgRisen]

theorem State.evPgRise_not_awaited (h : s.supply.seq = .up q false last) (hq : r ≠ q) : s.evPgRise r = s := by
  simp [State.evPgRise, h, Ne.symm hq]

theorem State.evPgRise_idle (h : s.supply.seq = .idle) (hn : s.enAt r = false ∨ s.pgAt r = true) : s.evPgRise r = s := by
  have : ¬ (s.enAt r = true ∧ ¬ s.pgAt r = true) := fun ⟨he, hp⟩ => hn.elim (fun e => by simp [e] at he) hp
  simp only [State.evPgRise, h, if_neg this]

theorem State.pgRisen_without_heaters (h : (r ≠ 5 ∧ r ≠ 6) ∨ s.dev.target = .dormant) :
    s.pgRisen r = s.updSupply fun u => { u with pg := Table.put u.pg r true, vphoOk := u.vphoOk || decide (r = 4) } :=
  if_neg fun ⟨hr, ht⟩ => h.elim (fun ⟨h5, h6⟩ => hr.elim h5 h6) ht

theorem State.pgRisen_with_heaters (h : r = 5 ∨ r = 6) (ht : s.dev.target ≠ .dormant) :
    s.pgRisen r = (s.updSupply fun u => { u with pg := Table.put u.pg r true }).heatersFollow := by
  have h4 : r ≠ 4 := by omega
  simp [State.pgRisen, h, ht, h4]

/-! ### The end of a wait -/

/-- The next rail of a power-up, where the one after `r` is off. -/
theorem State.railNext_of_off (hr : r < last) (h : s.enAt (r + 1) = false) : s.railNext (r + 1) last = some (r + 1) := by
  have off : s.railOn (r + 1) = false := by simp [State.railOn, h]
  unfold State.railNext
  rw [List.find?_range_eq_some]
  refine ⟨by simp [off], List.mem_range.2 (by omega), fun j hj => ?_⟩
  simp; omega

theorem State.railNext_past_last (s : State) (last : Nat) : s.railNext (last + 1) last = none := by
  unfold State.railNext
  rw [List.find?_eq_none]
  intro x hx
  have := List.mem_range.1 hx
  simp; omega

theorem State.evRailSettle_next (h : s.supply.seq = .up r true last) (hr : r < last) (he : s.enAt (r + 1) = false) :
    s.evRailSettle = s.railRaise (r + 1) last := by
  simp [State.evRailSettle, h, State.railNext_of_off hr he]

theorem State.evRailSettle_last (h : s.supply.seq = .up last true last) : s.evRailSettle = s.seqDone := by
  simp [State.evRailSettle, h, State.railNext_past_last]

theorem State.evRailOff_next {rest : List Nat} (h : s.supply.seq = .down (r :: q :: rest)) :
    s.evRailOff = ((s.updSupply fun u => { u with pg := Table.put u.pg r false }).railCut q).seqTo (.down (q :: rest)) s.supply.goal := by
  simp [State.evRailOff, h]

theorem State.evRailOff_last (h : s.supply.seq = .down [r]) (hg : s.supply.goal = .none) :
    s.evRailOff = s.updSupply fun u => { u with pg := Table.put u.pg r false, seq := .idle, goal := .none } := by
  simp [State.evRailOff, h, State.seqDone, State.updSupply, State.seqTo, hg]

/-- Settles O8: the sequence in progress decides what a PG_ and the end of a wait do. -/
theorem railsFollowTheSequence : Obligations.RailsFollowTheSequence := by
  unfold Obligations.RailsFollowTheSequence
  refine ⟨?rise, ?heat, ?other, ?idle, ?next, ?last, ?nothing, ?down, ?downLast⟩
  case rise =>
    intro s r last hr hs hh
    exact effect_of (State.onUnit_of_lt hr) ((State.evPgRise_awaited hs).trans (by rw [State.pgRisen_without_heaters hh]; rfl))
  case heat =>
    intro s r last hr hs ht
    exact effect_of (State.onUnit_of_lt (by omega)) ((State.evPgRise_awaited hs).trans (by rw [State.pgRisen_with_heaters hr ht]; rfl))
  case other =>
    rintro s r q last w hr hs hq rfl
    exact effect_of (State.onUnit_of_lt hr) (State.evPgRise_not_awaited hs hq)
  case idle =>
    intro s r hr hs hn
    exact effect_of (State.onUnit_of_lt hr) (State.evPgRise_idle hs hn)
  case next =>
    intro s r last hr _ hs he
    exact effect_of rfl (State.evRailSettle_next hs hr he)
  case last => exact fun s last _ hs => effect_of rfl (State.evRailSettle_last hs)
  case nothing =>
    intro s hs
    exact ⟨effect_of rfl (by simp [State.evRailSettle, hs]), effect_of rfl (by simp [State.evRailOff, hs])⟩
  case down => exact fun s r q rest hs => effect_of rfl (State.evRailOff_next hs)
  case downLast => exact fun s r hs hg => effect_of rfl (State.evRailOff_last hs hg)

/-! ### Rails that fail or are lost -/

/-- A PG_ line falls outside a power-up: the link goes down, and the rail's record is written. -/
def State.pgLost (s : State) (r : Nat) : State :=
  (s.updSupply fun u => { u with pg := Table.put u.pg r false, endpoint := .off }).log 0x1007 (param [(1, r)])

theorem State.evPgFallAfter_idle (hs : s.supply.seq = .idle) :
    s.evPgFallAfter r = if s.railOn r ∧ r ≠ 0 then ((s.pgLost r).enterSafe 2).railLost r else s := by
  simp only [State.evPgFallAfter, hs]; rfl

theorem State.evPgVanFall_idle (hs : s.supply.seq = .idle) :
    s.evPgVanFall = if s.railOn 0 then
      (if s.dev.state = .dormant then (((List.range 8).foldl State.cmpForced (s.pgLost 0)).warnSet 7).enterSafe 3
        else (s.pgLost 0).enterSafe 3)
      else s := by
  simp only [State.evPgVanFall, hs]; rfl

/-- Settles O9: outside a power-up the rail and the state decide, in one the rail that failed. -/
theorem lostRailsEnterSafe : Obligations.LostRailsEnterSafe := by
  unfold Obligations.LostRailsEnterSafe
  refine ⟨?timeout, ?noTimeout, ?inSeq, ?after, ?van, ?vanDormant, ?off⟩
  case timeout => exact fun s r last hs => effect_of rfl (by simp only [State.evPgTimeout, hs]; rfl)
  case noTimeout => exact fun s hs => effect_of rfl (by simp only [State.evPgTimeout, hs])
  case inSeq =>
    intro s r q last w hr hs ho
    exact effect_of (State.onUnit_of_lt hr) (by simp only [State.evPgFallIn, hs, ho, if_true]; rfl)
  case after =>
    intro s r h1 hr hs ho
    exact effect_of (State.onUnit_of_lt hr) ((State.evPgFallAfter_idle hs).trans (if_pos ⟨ho, by omega⟩))
  case van =>
    intro s hs ho hd
    exact effect_of rfl ((State.evPgVanFall_idle hs).trans ((if_pos ho).trans (if_neg hd)))
  case vanDormant =>
    intro s hs ho hd
    exact effect_of rfl ((State.evPgVanFall_idle hs).trans ((if_pos ho).trans (if_pos hd)))
  case off =>
    intro s r hr hs ho
    have off : ¬ s.railOn r = true := by simp [ho]
    refine ⟨effect_of (State.onUnit_of_lt hr) (by simp only [State.evPgFallIn, hs]),
      effect_of (State.onUnit_of_lt hr) ((State.evPgFallAfter_idle hs).trans (if_neg fun h => off h.1)), ?_⟩
    rintro rfl
    exact effect_of rfl ((State.evPgVanFall_idle hs).trans (if_neg off))

end Sys2Proof.Machine
end

section
/-! SUPPORT. The chassis: the supplies, clocks, device state, comparators, fuses, envelope, boot, configuration, rings of light and pins of
the device, with every part blank that the work of partitions, the mesh, the scorer, the sensors and the records may write. What these do
keeps the chassis: one lemma per operation. -/
namespace Sys2Proof.Machine

/-- The device with its working parts blank. -/
def State.chassis (s : State) : State :=
  { s with damem := {}, cal := {}, part := Vector.replicate 16 {}, ring := Vector.replicate 64 {}, mould := Vector.replicate 16 {},
           tally := {}, wmk := {}, mesh := {}, thm := {}, pln := {}, aar := {}, stew := {}, fil := {}, out := [], freeCtr := 0 }

/-- Devices of one chassis agree in each of its parts. -/
theorem State.dev_of_chassis {s t : State} (h : s.chassis = t.chassis) : s.dev = t.dev :=
  show s.chassis.dev = t.chassis.dev from congrArg State.dev h
theorem State.supply_of_chassis {s t : State} (h : s.chassis = t.chassis) : s.supply = t.supply :=
  show s.chassis.supply = t.chassis.supply from congrArg State.supply h
theorem State.sriov_of_chassis {s t : State} (h : s.chassis = t.chassis) : s.sriov = t.sriov :=
  show s.chassis.sriov = t.chassis.sriov from congrArg State.sriov h

/-- A fold of an operation that keeps a view of the state keeps it. -/
theorem State.foldl_keeps {α β : Type} (view : State → β) {f : State → α → State} (h : ∀ s a, view (f s a) = view s) :
    ∀ (l : List α) (s : State), view (l.foldl f s) = view s
  | [], _ => rfl
  | a :: l, s => by rw [List.foldl_cons, State.foldl_keeps view h l, h]

/-- Of two ways to go on that keep a view, either keeps it. -/
theorem State.ite_keeps {β : Type} (view : State → β) {c : Prop} [Decidable c] {a b s : State} (ha : view a = view s)
    (hb : view b = view s) : view (if c then a else b) = view s := by
  split
  · exact ha
  · exact hb

variable (s : State)

/-! ### Records, notices and answers -/

@[simp] theorem State.log_chassis (code : Nat) (prm : List Byte) (part : Option Nat) (raise hw notice : Bool) :
    (s.log code prm part raise hw notice).chassis = s.chassis := by
  obtain ⟨_, _, _, h⟩ := State.log_form s code prm part raise hw notice; rw [h]; rfl
@[simp] theorem State.answer_chassis (f : InFlight) (st : Status) (detail : Nat) (payload : List Byte) (bulk : Option (List Byte))
    (hint : Nat) : (s.answer f st detail payload bulk hint).chassis = s.chassis := by
  obtain ⟨_, _, h⟩ := State.answer_form s f st detail payload bulk hint; rw [h]; rfl
@[simp] theorem State.answerWaiting_chassis (w : Wait) (st : Status) (detail : Nat) (payload : InFlight → List Byte) :
    (s.answerWaiting w st detail payload).chassis = s.chassis := by
  obtain ⟨_, _, h⟩ := State.answerWaiting_form s w st detail payload; rw [h]; rfl
@[simp] theorem State.raiseMsix_chassis (fn vec : Nat) : (s.raiseMsix fn vec).chassis = s.chassis := by
  obtain ⟨_, h⟩ := State.raiseMsix_form s fn vec; rw [h]; rfl

/-! ### The mesh -/

@[simp] theorem State.sendMgmt_chassis (dst mtype o0 o1 : Nat) (data : List Byte) :
    (s.sendMgmt dst mtype o0 o1 data).chassis = s.chassis := by
  unfold State.sendMgmt
  dsimp only
  split
  · rfl
  · split
    · split <;> rfl
    · rfl

@[simp] theorem State.strandTo_chassis (k : Nat) (st : SState) (record : Bool) : (s.strandTo k st record).chassis = s.chassis := by
  let s1 := s.updStrand k fun t => { t with state := st, downs := if (s.strandAt k).state = .up then satInc 16 t.downs else t.downs }
  let s2 := if record then s1.log 0x3001 (s1.strandParam k (s.strandAt k).state.code st.code) else s1
  have recorded : s2.chassis = s.chassis := State.ite_keeps _ (State.log_chassis ..) rfl
  have counted : (if st = .up ∧ s2.stew.firstUp = none then { s2 with stew := { s2.stew with firstUp := some s2.now } } else s2).chassis
      = s.chassis := State.ite_keeps _ recorded recorded
  exact State.ite_keeps _ rfl (State.ite_keeps _ counted counted)

@[simp] theorem State.beginRecon_chassis (k : Nat) (keep : Bool) : (s.beginRecon k keep).chassis = s.chassis :=
  State.sendMgmt_chassis ..

@[simp] theorem State.strandDown_chassis (k : Nat) (st : SState) (ld : Nat) (tx : Tx) (record : Bool) :
    (s.strandDown k st ld tx record).chassis = s.chassis :=
  State.ite_keeps _ ((State.beginRecon_chassis ..).trans (State.strandTo_chassis ..)) (State.strandTo_chassis ..)

@[simp] theorem State.darkenMesh_chassis (depart : Bool) : (s.darkenMesh depart).chassis = s.chassis := by
  have departs : (if depart then (List.range 64).foldl (fun (s : State) k => if (s.strandAt k).state = .up then s.sendDepart k else s) s
      else s).chassis = s.chassis := by
    refine State.ite_keeps _ (State.foldl_keeps State.chassis (fun s k => ?_) _ _) rfl
    split <;> rfl
  refine (State.foldl_keeps State.chassis (fun s k => ?_) _ _).trans departs
  dsimp only
  split
  · rfl
  · exact State.strandDown_chassis ..

@[simp] theorem State.sendPacket_chassis (src : Nat) (p : Packet) : (s.sendPacket src p).2.chassis = s.chassis := by
  unfold State.sendPacket
  split
  · rfl
  · split
    · unfold State.sendDetour
      dsimp only
      split <;> rfl
    · rfl

@[simp] theorem State.sendAnswer_chassis (k src : Nat) (p : Packet) : (s.sendAnswer k src p).chassis = s.chassis :=
  State.ite_keeps _ rfl (State.sendPacket_chassis ..)

/-! ### Partitions, rings and sheets -/

@[simp] theorem State.ringRefresh_chassis (r : Nat) : (s.ringRefresh r).chassis = s.chassis := by
  unfold State.ringRefresh; split <;> rfl
@[simp] theorem State.ringsRefresh_chassis (p : Nat) : (s.ringsRefresh p).chassis = s.chassis :=
  State.foldl_keeps State.chassis State.ringRefresh_chassis _ _
@[simp] theorem State.partTo_chassis (p : Nat) (st : PState) (detail : Nat) : (s.partTo p st detail).chassis = s.chassis :=
  (State.log_chassis ..).trans (State.ringsRefresh_chassis ..)
@[simp] theorem State.drainCheck_chassis (p : Nat) : (s.drainCheck p).chassis = s.chassis :=
  State.ite_keeps _ ((State.answerWaiting_chassis ..).trans (State.partTo_chassis ..)) rfl
@[simp] theorem State.freeGroup_chassis (m q k : Nat) (kill : Bool) : (s.freeGroup m q k kill).chassis = s.chassis := by
  cases kill <;> rfl

@[simp] theorem State.tallyWake_chassis (t : Nat) : (s.tallyWake t).chassis = s.chassis := by
  unfold State.tallyWake
  dsimp only
  refine (State.foldl_keeps State.chassis (fun s w => ?_) _ _).trans ?_
  · exact State.sendAnswer_chassis ..
  · have sheets : ∀ (x : State) (g : Vector Ring 64), State.chassis { x with ring := g } = x.chassis := fun _ _ => rfl
    refine (sheets _ _).trans (State.foldl_keeps State.chassis (fun s m => ?_) _ _)
    refine State.foldl_keeps State.chassis (fun s x => ?_) _ _
    split
    · split
      · split <;> rfl
      · rfl
    · rfl
@[simp] theorem State.tallyPut_chassis (t v : Nat) : (s.tallyPut t v).chassis = s.chassis := State.tallyWake_chassis ..
@[simp] theorem State.tallyAdd_chassis (t x : Nat) : (s.tallyAdd t x).chassis = s.chassis := State.tallyPut_chassis ..

@[simp] theorem State.cplIrq_chassis (r p : Nat) (c : Completion) : (s.cplIrq r p c).chassis = s.chassis :=
  State.ite_keeps _ (State.raiseMsix_chassis ..) rfl
@[simp] theorem State.dmaError_chassis (r p : Nat) : (s.dmaError r p).chassis = s.chassis :=
  (State.log_chassis ..).trans (State.ringRefresh_chassis ..)
@[simp] theorem State.cplFails_chassis (r : Nat) (c : Completion) : (s.cplFails r c).chassis = s.chassis := by
  unfold State.cplFails
  split
  · exact State.dmaError_chassis ..
  · rfl
theorem State.cplWrite_chassis {r : Nat} {c : Completion} {t : State} (h : s.cplWrite r c = some t) : t.chassis = s.chassis := by
  revert h
  unfold State.cplWrite
  dsimp only
  split
  · exact nofun
  · split
    · rintro ⟨⟩; exact State.cplIrq_chassis ..
    · split
      · rintro ⟨⟩; exact State.cplIrq_chassis ..
      · exact nofun
@[simp] theorem State.cplPlace_chassis (r : Nat) (c : Completion) : (s.cplPlace r c).chassis = s.chassis := by
  refine State.ite_keeps _ rfl (State.ite_keeps _ (State.cplFails_chassis ..) ?_)
  cases h : s.cplWrite r c with
  | none => rfl
  | some t => exact State.cplWrite_chassis s h

@[simp] theorem State.complete_chassis (r : Nat) (h : Sheet) (v : Status × Nat × Bool) : (s.complete r h v).chassis = s.chassis := by
  unfold State.complete
  split
  · rfl
  · refine (State.drainCheck_chassis ..).trans (State.ite_keeps _ ((State.tallyAdd_chassis ..).trans ?_) ?_)
    all_goals exact (State.ringRefresh_chassis ..).trans (State.cplPlace_chassis ..)

@[simp] theorem State.killGroups_chassis (r sub : Nat) : (s.killGroups r sub).chassis = s.chassis := by
  refine State.foldl_keeps State.chassis (fun s m => State.foldl_keeps State.chassis (fun s x => ?_) _ _) _ _
  dsimp only
  split
  · exact State.ite_keeps _ (State.freeGroup_chassis ..) rfl
  · rfl

@[simp] theorem State.endSheet_chassis (r sub : Nat) : (s.endSheet r sub).chassis = s.chassis := by
  unfold State.endSheet
  split
  · rfl
  · exact (State.complete_chassis ..).trans (State.killGroups_chassis ..)

@[simp] theorem State.abortPart_chassis (p : Nat) (cause : StopCause) (detail : Nat) :
    (s.abortPart p cause detail).chassis = s.chassis := by
  refine (State.partTo_chassis ..).trans ?_
  refine (State.foldl_keeps State.chassis (fun s r => ?_) _ _).trans (State.ringsRefresh_chassis ..)
  refine State.foldl_keeps State.chassis (fun s h => ?_) _ _
  exact (State.endSheet_chassis ..).trans rfl

@[simp] theorem State.answerStop_chassis (p : Nat) (st : Status) : (s.answerStop p st).chassis = s.chassis :=
  (State.answerWaiting_chassis ..).trans (State.answerWaiting_chassis ..)

/-- A stop from outside keeps the chassis, whether or not it disables the rings. -/
@[simp] theorem State.outsideStop_chassis (p : Nat) (cause : StopCause) (disable : Bool) :
    (s.outsideStop p cause disable).chassis = s.chassis := by
  have stop : (if (s.partAt p).live then (s.abortPart p cause cause.detail).answerStop p .aborted
      else if (s.partAt p).state = .stopped then s.log 0x2001 (param [(1, 1), (1, (s.partAt p).cause), (2, cause.detail)]) (some p)
      else s).chassis = s.chassis :=
    State.ite_keeps _ ((State.answerStop_chassis ..).trans (State.abortPart_chassis ..)) (State.ite_keeps _ (State.log_chassis ..) rfl)
  unfold State.outsideStop
  refine State.ite_keeps _ ((State.foldl_keeps State.chassis (fun s r => ?_) _ _).trans stop) stop
  exact (State.ringRefresh_chassis ..).trans rfl

/-! ### Sensors and steps of calibration -/

@[simp] theorem State.sensValidity_chassis (n cond : Nat) : (s.sensValidity n cond).chassis = s.chassis :=
  State.ite_keeps _ rfl (State.log_chassis ..)
@[simp] theorem State.blindFollow_chassis (m : Nat) : (s.blindFollow m).chassis = s.chassis :=
  State.ite_keeps _ rfl (State.ite_keeps _ rfl rfl)
@[simp] theorem State.judgeGroup_chassis (g : Nat) : (s.judgeGroup g).2.chassis = s.chassis :=
  (State.foldl_keeps State.chassis State.blindFollow_chassis _ _).trans
    (State.foldl_keeps State.chassis (fun s n => State.sensValidity_chassis s n _) _ _)
@[simp] theorem State.throttleFollow_chassis (m : Nat) : (s.throttleFollow m).chassis = s.chassis :=
  State.ite_keeps _ rfl (State.ite_keeps _ (State.ite_keeps _ rfl rfl) (State.ite_keeps _ rfl rfl))
@[simp] theorem State.throttleFollowAll_chassis : s.throttleFollowAll.chassis = s.chassis :=
  State.foldl_keeps State.chassis State.throttleFollow_chassis _ _

@[simp] theorem State.scorerTo_chassis (w : WState) : (s.scorerTo w).chassis = s.chassis := by
  obtain ⟨_, _, _, _, h⟩ := State.scorerTo_form s w; rw [h]; rfl
@[simp] theorem State.scorerJudge_chassis : s.scorerJudge.chassis = s.chassis := by
  unfold State.scorerJudge
  split
  · rfl
  · exact State.ite_keeps _ (State.scorerTo_chassis ..) (State.ite_keeps _ (State.scorerTo_chassis ..) rfl)
  all_goals exact State.scorerTo_chassis ..

@[simp] theorem State.unwithdraw_chassis (q i : Nat) : (s.unwithdraw q i).chassis = s.chassis := by
  unfold State.unwithdraw
  split
  iterate 3 rfl
  · exact State.ite_keeps _ rfl rfl
  · rfl

@[simp] theorem State.itemConsequence_chassis (q i : Nat) (out : POut) (failed : Bool) :
    (s.itemConsequence q i out failed).2.chassis = s.chassis := by
  unfold State.itemConsequence
  dsimp only
  split
  · exact State.ite_keeps _ (State.scorerJudge_chassis ..) rfl
  · split
    · generalize (if out = .done then false else (failed || out == .reject || (s.sensAt i).flagged)) = flag
      split
      · rfl
      · exact (State.throttleFollowAll_chassis ..).trans (State.judgeGroup_chassis ..)
    · rfl

@[simp] theorem State.firstPassCheck_chassis : s.firstPassCheck.chassis = s.chassis :=
  State.ite_keeps _ rfl (State.ite_keeps _ (State.log_chassis ..) rfl)

@[simp] theorem State.endStep_chassis (q i phase : Nat) (out : POut) (ppm : Int) :
    (s.endStep q i phase out ppm).2.chassis = s.chassis := by
  refine (State.firstPassCheck_chassis ..).trans ((State.answerWaiting_chassis ..).trans ?_)
  refine State.ite_keeps _ ?_ ?_
  all_goals exact (State.itemConsequence_chassis ..).trans ((State.log_chassis ..).trans (State.unwithdraw_chassis ..))

@[simp] theorem State.planishLeave_chassis : s.planishLeave.chassis = s.chassis := by
  refine (State.foldl_keeps State.chassis (fun s f => ?_) _ _).trans (State.foldl_keeps State.chassis (fun s d => ?_) _ _)
  · split
    · exact State.ite_keeps _ rfl (State.answer_chassis ..)
    · rfl
  · split
    · exact State.ite_keeps _ rfl (State.endStep_chassis ..)
    · rfl

/-! ### The steward and the fabric -/

@[simp] theorem State.roleSet_chassis (role : Role) (primary standby : Option Nat) (epoch : Nat) :
    (s.roleSet role primary standby epoch).chassis = s.chassis :=
  State.ite_keeps _ rfl (State.log_chassis ..)

@[simp] theorem State.roleEnd_chassis (planned : Bool) : (s.roleEnd planned).chassis = s.chassis := by
  have told : (if planned then
      match s.stew.standby with
      | some d => s.sendMgmt d 0x13 (4 + (s.stew.epoch + 1) % 65536 * 2 ^ 8) 0
      | none => s
    else s).chassis = s.chassis := by
    refine State.ite_keeps _ ?_ rfl
    split
    · exact State.sendMgmt_chassis ..
    · rfl
  unfold State.roleEnd
  dsimp only
  refine State.ite_keeps _ ?_ ((State.answerWaiting_chassis ..).trans ?_)
  all_goals
    refine State.ite_keeps (s := s) State.chassis ?_ ?_
    · exact (State.roleSet_chassis ..).trans told
    · exact told

@[simp] theorem State.stewardDrop_chassis : s.stewardDrop.chassis = s.chassis :=
  State.ite_keeps _ (State.roleEnd_chassis ..) (State.ite_keeps _ (State.roleSet_chassis ..) rfl)

@[simp] theorem State.filPark_chassis : s.filPark.chassis = s.chassis := rfl

end Sys2Proof.Machine
end

section
/-! SUPPORT. What an entry into SAFE leaves of the device state (03 R100, R118, R855). -/
namespace Sys2Proof.Machine

section
variable (s : State)

/-! ### Operations that leave the device state alone -/

@[simp] theorem State.clocksOff_dev : s.clocksOff.dev = s.dev := by obtain ⟨_, h⟩ := s.clocksOff_form; rw [h]
@[simp] theorem State.lasersDark_dev : s.lasersDark.dev = s.dev := by obtain ⟨_, h⟩ := s.lasersDark_form; rw [h]
@[simp] theorem State.heatersStop_dev : s.heatersStop.dev = s.dev := by obtain ⟨_, h⟩ := s.heatersStop_form; rw [h]
@[simp] theorem State.parkRings_dev : s.parkRings.dev = s.dev := by obtain ⟨_, _, h⟩ := s.parkRings_form; rw [h]
@[simp] theorem State.scorerDark_dev : s.scorerDark.dev = s.dev := by obtain ⟨_, _, _, _, _, h⟩ := s.scorerDark_form; rw [h]
@[simp] theorem State.engineRestart_dev : s.engineRestart.dev = s.dev := by obtain ⟨_, h⟩ := s.engineRestart_form; rw [h]
@[simp] theorem State.darkenMesh_dev (depart : Bool) : (s.darkenMesh depart).dev = s.dev := State.dev_of_chassis (s.darkenMesh_chassis _)
@[simp] theorem State.outsideStop_dev (p : Nat) (cause : StopCause) (disable : Bool) : (s.outsideStop p cause disable).dev = s.dev :=
  State.dev_of_chassis (s.outsideStop_chassis ..)
@[simp] theorem State.stewardDrop_dev : s.stewardDrop.dev = s.dev := State.dev_of_chassis s.stewardDrop_chassis
@[simp] theorem State.planishLeave_dev : s.planishLeave.dev = s.dev := State.dev_of_chassis s.planishLeave_chassis
@[simp] theorem State.filPark_dev : s.filPark.dev = s.dev := rfl
@[simp] theorem State.seqTo_dev (q : RailSeq) (g : SeqGoal) : (s.seqTo q g).dev = s.dev := rfl
@[simp] theorem State.transTo_dev (st : DevState) : (s.transTo st).dev = { s.dev with trans := true, target := st } := rfl
@[simp] theorem State.warmStop_dev : s.warmStop.dev = { s.dev with warmBand := false } := rfl

@[simp] theorem State.flashErase_dev (a n : Nat) : (s.flashErase a n).dev = s.dev := rfl
@[simp] theorem State.flashProgram_dev (a : Nat) (b : List Byte) : (s.flashProgram a b).dev = s.dev := rfl
@[simp] theorem State.calOpen_dev (k sseq first : Nat) : (s.calOpen k sseq first).dev = s.dev := by
  simp only [State.calOpen, State.flashProgram_dev]
@[simp] theorem State.engineStop_dev : s.engineStop.dev = s.dev := rfl
@[simp] theorem State.memoryLost_dev : s.memoryLost.dev = s.dev := rfl

@[simp] theorem State.dirWrite_dev (f : Directory → Directory) : (s.dirWrite f).dev = s.dev := by
  simp only [State.dirWrite]
  split <;> simp

@[simp] theorem State.dirGood_dev : s.dirGood.dev = s.dev := by
  simp only [State.dirGood]
  split
  · rfl
  · exact State.dirWrite_dev ..

@[simp] theorem State.calMount_dev : s.calMount.dev = s.dev := by
  unfold State.calMount
  split
  · rfl
  · split
    · exact State.calOpen_dev ..
    · simp [State.calFormat]

@[simp] theorem State.railLost_dev (r : Nat) : (s.railLost r).dev = s.dev := by
  unfold State.railLost
  repeat' split
  all_goals simp

@[simp] theorem State.railCut_dev (r : Nat) : (s.railCut r).dev = s.dev := State.railLost_dev ..

theorem State.causeArises_dev (cause : Nat) : (s.causeArises cause).dev = { s.dev with safeCause := cause } := State.log_dev ..

/-! ### The steps of an entry -/

theorem State.safeStops_dev : s.safeStops.dev = { s.dev with warmBand := false } := by
  have stopped : ∀ t : State, ((List.range 16).foldl (fun (s : State) p => s.outsideStop p .safe false) t).dev = t.dev :=
    State.foldl_keeps State.dev (fun s p => s.outsideStop_dev p .safe false) _
  simp [State.safeStops, stopped]

theorem State.safeAnswers_dev : s.safeAnswers.dev = { s.dev with startsWaiting := [] } := by
  refine State.foldl_keeps State.dev (fun s f => ?_) _ _
  split
  · split
    · rfl
    · exact State.answer_dev ..
  · exact State.answer_dev ..
  · rfl

/-- SAFE is reached: STATE, TARGET, TRANS and WARM_BAND change, and nothing else of the device state. -/
theorem State.safeReached_dev : ∃ x, s.safeReached.dev = { s.dev with state := .safe, trans := false, target := .safe, warmBand := x } := by
  obtain ⟨w, x, p, c, d, o, h⟩ := State.stateTo_form (s.seqTo .idle .none) .safe .safe
  refine ⟨x, ?_⟩
  unfold State.safeReached
  dsimp only
  have answered : (((s.seqTo .idle .none).stateTo .safe .safe).answerWaiting .recover .aborted 0 fun _ => []).dev =
      { s.dev with state := .safe, trans := false, target := .safe, warmBand := x } := by
    rw [State.answerWaiting_dev, h]; rfl
  split
  · rw [State.engineRestart_dev, answered]
  · exact answered

/-- Powering down leaves the device state alone until what follows at its end. -/
theorem State.downTo_dev {β : Type} (view : Dev → β) {keep : List Nat} {g : SeqGoal} {done : State → State}
    (h : ∀ t : State, t.dev = s.dev → view (done t).dev = view s.dev) : view (s.downTo keep g done).dev = view s.dev := by
  unfold State.downTo
  split
  · rfl
  · split
    · exact h _ rfl
    · simp

end

/-- What a rail switch on the way into SAFE may change of the device state: the state itself, and the rest of PWR_STATE. -/
def Dev.rest (d : Dev) : Dev := { d with state := .off, trans := false, target := .off, warmBand := false }

section
variable (s : State)

theorem State.safeRails_rest (keep : List Nat) : (s.safeRails keep).dev.rest = s.dev.rest := by
  have down : (s.downTo keep .toSafe State.safeReached).dev.rest = s.dev.rest :=
    State.downTo_dev s Dev.rest fun t h => by
      obtain ⟨x, e⟩ := t.safeReached_dev
      rw [e, h]; rfl
  unfold State.safeRails
  split
  · split
    · rfl
    · exact down
  · exact down

theorem State.safeRails_target (keep : List Nat) (h : s.dev.target = .safe) : (s.safeRails keep).dev.target = .safe := by
  have down : (s.downTo keep .toSafe State.safeReached).dev.target = s.dev.target :=
    State.downTo_dev s Dev.target fun t _ => by
      obtain ⟨x, e⟩ := t.safeReached_dev
      rw [e, h]
  unfold State.safeRails
  split
  · split
    · exact h
    · exact down.trans h
  · exact down.trans h

end

theorem Dev.safeCause_of_rest {d e : Dev} (h : d.rest = e.rest) : d.safeCause = e.safeCause :=
  show d.rest.safeCause = e.rest.safeCause from congrArg Dev.safeCause h
theorem Dev.episode_of_rest {d e : Dev} (h : d.rest = e.rest) : d.episode = e.episode :=
  show d.rest.episode = e.rest.episode from congrArg Dev.episode h
theorem Dev.startsWaiting_of_rest {d e : Dev} (h : d.rest = e.rest) : d.startsWaiting = e.startsWaiting :=
  show d.rest.startsWaiting = e.rest.startsWaiting from congrArg Dev.startsWaiting h

/-- The device as the first cause of an episode leaves it, before its rails go. -/
theorem State.enterSafe_first {s : State} (c : Nat) (van : Bool) (h : s.dev.episode = none) :
    ∃ t : State, s.enterSafe c van = t.safeRails (safeKeep c van) ∧
      t.dev = { s.dev with safeCause := c, target := .safe, trans := true, warmBand := false, startsWaiting := [], latchedWake := [],
                           episode := some { causes := [c], fromHeld := s.noImage } } := by
  unfold State.enterSafe
  rw [h]
  refine ⟨_, rfl, ?_⟩
  have logged : (if c = 4 then s.log 0x1009 [] else s).dev = s.dev := State.ite_keeps State.dev (State.log_dev ..) rfl
  refine (State.ite_keeps State.dev ((State.calMount_dev _).trans (State.dirGood_dev _)) rfl).trans ?_
  rw [State.safeAnswers_dev, State.safeStops_dev, State.causeArises_dev, State.transTo_dev]
  simp only [State.updDev, logged]

/-- A further cause joins the episode in progress; one that meets a way out of SAFE turns the device back. -/
theorem State.enterSafe_further {s : State} {e : SafeEpisode} (c : Nat) (van : Bool) (h : s.dev.episode = some e) :
    ∃ d : Dev, (s.enterSafe c van).dev.rest = d.rest ∧ d.safeCause = c ∧ d.episode = some { e with causes := c :: e.causes } ∧
      (s.leavingSafe = true → (s.enterSafe c van).dev.target = .safe ∧ d.startsWaiting = []) := by
  have joined : ∀ t : State, t = (s.updDev fun d => { d with episode := some { e with causes := c :: e.causes } }).causeArises c →
      t.dev = { s.dev with episode := some { e with causes := c :: e.causes }, safeCause := c } := fun t ht => by
    rw [ht, State.causeArises_dev]; rfl
  unfold State.enterSafe
  rw [h]
  dsimp only
  generalize (s.updDev fun d => { d with episode := some { e with causes := c :: e.causes } }).causeArises c = s1 at joined ⊢
  have hj := joined s1 rfl
  split
  next hl =>
    have turned : (s1.transTo .safe).safeStops.safeAnswers.dev =
        { s.dev with episode := some { e with causes := c :: e.causes }, safeCause := c, trans := true, target := .safe, warmBand := false,
                     startsWaiting := [] } := by
      rw [State.safeAnswers_dev, State.safeStops_dev, State.transTo_dev, hj]
    generalize (s1.transTo .safe).safeStops.safeAnswers = s2 at turned
    refine ⟨s2.dev, State.safeRails_rest .., by rw [turned], by rw [turned], fun _ => ⟨?_, by rw [turned]⟩⟩
    exact State.safeRails_target _ _ (by rw [turned])
  next hl =>
    refine ⟨s1.dev, ?_, by rw [hj], by rw [hj], fun hl' => absurd hl' hl⟩
    split
    · exact State.downTo_dev s1 Dev.rest fun t ht => congrArg Dev.rest ht
    · exact State.safeRails_rest ..

/-- Settles O10: the first cause begins an episode, a further one joins it. -/
theorem safeTakesItsCause : Obligations.SafeTakesItsCause := by
  unfold Obligations.SafeTakesItsCause
  refine ⟨?first, ?further, ?turned⟩
  case first =>
    intro s c van h
    obtain ⟨t, e, hd⟩ := State.enterSafe_first c van h
    have hr : (s.enterSafe c van).dev.rest = t.dev.rest := by rw [e]; exact State.safeRails_rest ..
    refine ⟨(Dev.safeCause_of_rest hr).trans (by rw [hd]), ?_, (Dev.episode_of_rest hr).trans (by rw [hd]),
      (Dev.startsWaiting_of_rest hr).trans (by rw [hd])⟩
    rw [e]
    exact State.safeRails_target _ _ (by rw [hd])
  case further =>
    intro s e c van h
    obtain ⟨d, hr, hc, he, _⟩ := State.enterSafe_further c van h
    exact ⟨(Dev.safeCause_of_rest hr).trans hc, (Dev.episode_of_rest hr).trans he⟩
  case turned =>
    intro s e c van h hl
    obtain ⟨d, hr, _, _, ht⟩ := State.enterSafe_further c van h
    exact ⟨(ht hl).1, (Dev.startsWaiting_of_rest hr).trans (ht hl).2⟩

end Sys2Proof.Machine
end

section
/-! SUPPORT. The comparators (03 R106-R111): what a change of level leaves, the pulses that sample the leak comparators, the bits that a
write clears, and the ACTION that a trip leads to. -/
namespace Sys2Proof.Machine

/-! ### Bits and folds over a table -/

theorem bitOf_toNat {w : Nat} (v : BitVec w) (i : Nat) : bitOf v.toNat i = v.getLsbD i := by
  rw [bitOf, BitVec.getLsbD, Nat.testBit_eq_decide_div_mod_eq]
  rfl

/-- A fold over the first places of a table, each step of which changes its own place, changes each of these places once. -/
theorem foldl_range_at {σ β : Type} (view : σ → Nat → β) (f : σ → Nat → σ) (g : Nat → β → β) (N : Nat)
    (same : ∀ s k, k < N → view (f s k) k = g k (view s k)) (other : ∀ s k i, i ≠ k → view (f s k) i = view s i) (s : σ) (i : Nat) :
    view ((List.range N).foldl f s) i = if i < N then g i (view s i) else view s i := by
  induction N with
  | zero => simp
  | succ n ih =>
    have ih := ih fun s k hk => same s k (Nat.lt_succ_of_lt hk)
    rw [List.range_succ, List.foldl_concat]
    rcases Nat.lt_trichotomy i n with h | rfl | h
    · rw [other _ _ _ (Nat.ne_of_lt h), ih, if_pos h, if_pos (Nat.lt_succ_of_lt h)]
    · rw [same _ _ (Nat.lt_succ_self i), ih, if_neg (Nat.lt_irrefl i), if_pos (Nat.lt_succ_self i)]
    · rw [other _ _ _ (Nat.ne_of_gt h), ih, if_neg (Nat.lt_asymm h), if_neg (by omega)]

/-! ### TRIP bits that a write clears (03 R108) -/

section
variable (s : State)

theorem State.cmpAt_updCmp (n m : Nat) (f : Cmp → Cmp) (h : n < 8) :
    (s.updCmp n f).cmpAt m = if m = n then f (s.cmpAt n) else s.cmpAt m := by
  split
  next e => rw [e, State.cmpAt_updCmp_same s h]
  next e => exact State.cmpAt_updCmp_other s (Ne.symm e) f

theorem State.evCmpClear_at (v : Reg32) {n : Nat} (h : n < 8) : (s.evCmpClear v.toNat).cmpAt n =
    { s.cmpAt n with trip := if v.getLsbD (8 + n) then (s.cmpAt n).level else (s.cmpAt n).trip } := by
  have step := foldl_range_at State.cmpAt
    (fun (s : State) n => if bitOf v.toNat (8 + n) then s.updCmp n fun c => { c with trip := c.level } else s)
    (fun n c => { c with trip := if v.getLsbD (8 + n) then c.level else c.trip }) 8
    (fun s k hk => by
      rw [bitOf_toNat]
      cases v.getLsbD (8 + k)
      · rfl
      · exact State.cmpAt_updCmp_same s hk _)
    (fun s k i hi => by
      split
      · exact State.cmpAt_updCmp_other s (Ne.symm hi) _
      · rfl) s n
  rw [State.evCmpClear, step, if_pos h]

theorem State.evCmpClear_frame (v : Nat) : s.evCmpClear v = { s with cmp := (s.evCmpClear v).cmp } := by
  obtain ⟨p, h⟩ := State.foldl_cmp (fun (s : State) n => if bitOf v (8 + n) then s.updCmp n fun c => { c with trip := c.level } else s)
    (fun s n => by
      split
      · exact ⟨_, rfl⟩
      · exact ⟨s.cmp, rfl⟩) (List.range 8) s
  have e : s.evCmpClear v = { s with cmp := p } := h
  rw [e]

theorem State.pf0Write_of_ready {s : State} (h : s.supply.endpoint = .ready) (f : State → State) : s.pf0Write f = f s := if_pos h
theorem State.pf0Write_of_not_ready {s : State} (h : s.supply.endpoint ≠ .ready) (f : State → State) : s.pf0Write f = s := if_neg h

end

/-- Settles O11: each of the eight bits is cleared, or left, on its own. -/
theorem tripBitsClearByWriteOfOne : Obligations.TripBitsClearByWriteOfOne := by
  unfold Obligations.TripBitsClearByWriteOfOne
  exact ⟨fun s v h => ⟨_, effect_of rfl (State.pf0Write_of_ready h _), State.evCmpClear_frame s _, fun n hn => State.evCmpClear_at s v hn⟩,
    fun s v h => effect_of rfl (State.pf0Write_of_not_ready h _)⟩

/-! ### A change of level (03 R108, R109) -/

section
variable (s : State) {n : Nat}

/-- A change of level writes its record and sets LEVEL, and TRIP with a trip; the settings and the other comparators stay. -/
theorem State.cmpLevel_form (n : Nat) (trip : Bool) : ∃ c p o, ∃ g : Cmp → Cmp,
    s.cmpLevel n trip = ({ s with cal := c, damem := { s.damem with page := p }, out := o }).updCmp n g ∧
      ∀ x, (g x).cfg = x.cfg ∧ (g x).level = trip ∧ (g x).trip = (x.trip || trip) := by
  unfold State.cmpLevel
  dsimp only
  split
  · obtain ⟨c, p, o, h⟩ := State.logRepeat_form s _ 0x1005 (param [(1, n), (1, fieldOf (s.cmpAt n).cfg 29 28)]) none trip true
    rw [h]
    exact ⟨c, p, o, _, rfl, fun x => ⟨rfl, rfl, rfl⟩⟩
  · obtain ⟨c, p, o, h⟩ := State.log_form s 0x1005 (param [(1, n), (1, fieldOf (s.cmpAt n).cfg 29 28)]) none trip true true
    rw [h, State.updCmp_updCmp]
    exact ⟨c, p, o, _, rfl, fun x => by cases trip <;> exact ⟨rfl, rfl, rfl⟩⟩

theorem State.cmpLevel_spec (hn : n < 8) (trip : Bool) :
    let v := s.cmpLevel n trip
    (v.cmpAt n).trip = ((s.cmpAt n).trip || trip) ∧ (v.cmpAt n).level = trip ∧ (v.cmpAt n).cfg = (s.cmpAt n).cfg ∧
      (∀ m, m ≠ n → v.cmpAt m = s.cmpAt m) ∧ v = { s with cmp := v.cmp, cal := v.cal, damem := v.damem, out := v.out } := by
  obtain ⟨c, p, o, g, e, hg⟩ := s.cmpLevel_form n trip
  dsimp only
  rw [e, State.cmpAt_updCmp_same _ hn]
  obtain ⟨hc, hl, ht⟩ := hg (s.cmpAt n)
  exact ⟨ht, hl, hc, fun m hm => State.cmpAt_updCmp_other _ (Ne.symm hm) g, rfl⟩

variable {s}

theorem State.not_pulsed_of (h : 4 ≤ n ∨ s.aar.ropeRect = true) : ¬ (n < 4 ∧ s.pulsed = true) := fun ⟨hn, hp⟩ =>
  h.elim (fun h4 => absurd hn (Nat.not_lt.2 h4)) fun hr => by simp [State.pulsed, hr] at hp

theorem State.cmpTripped_of_armed (ha : s.cmpArmed n = true) (hl : (s.cmpAt n).level = false) :
    s.cmpTripped n = (s.cmpLevel n true).cmpActs n := if_pos ⟨ha, by simp [hl]⟩
theorem State.cmpTripped_of_level (hl : (s.cmpAt n).level = true) : s.cmpTripped n = s := if_neg fun h => h.2 hl
theorem State.cmpReleased_of_level (ha : s.cmpArmed n = true) (hl : (s.cmpAt n).level = true) :
    s.cmpReleased n = (s.cmpLevel n false).ropeWet n false := if_pos ⟨ha, hl⟩
theorem State.cmpReleased_of_no_level (hl : (s.cmpAt n).level = false) : s.cmpReleased n = s := if_neg fun h => by simp [hl] at h
theorem State.cmpTripped_of_not_armed (ha : s.cmpArmed n = false) : s.cmpTripped n = s := if_neg fun h => by simp [ha] at h
theorem State.cmpReleased_of_not_armed (ha : s.cmpArmed n = false) : s.cmpReleased n = s := if_neg fun h => by simp [ha] at h

/-- A comparator that neither trips nor releases by itself leaves the device as it is, pulsed or not. -/
theorem State.evCmpTrip_of_still (h : s.cmpTripped n = s) : s.evCmpTrip n = s := by simp [State.evCmpTrip, h]
theorem State.evCmpRelease_of_still (h : s.cmpReleased n = s) : s.evCmpRelease n = s := by simp [State.evCmpRelease, h]

end

/-! ### The pulses (03 R106) -/

/-- What one pulse without a trip leaves of a comparator: its counts. -/
def Cmp.pulsed (b p : Bool) (c : Cmp) : Cmp := { c with beyond := if b then 1 else 0, past := if p then 1 else 0 }

/-- Only the present value of an entry decides what a change of it comes to. -/
theorem Table.upd_congr {α : Type} {n : Nat} (t : Vector α n) (i : Nat) (d : α) {f g : α → α} (h : f (Table.at t i d) = g (Table.at t i d)) :
    Table.upd t i f = Table.upd t i g := by
  rcases Nat.lt_or_ge i n with hi | hi
  · simp only [Table.at, hi, Vector.getElem?_eq_getElem, Option.getD_some] at h
    simp [Table.upd, hi, h]
  · rw [Table.upd_beyond t hi, Table.upd_beyond t hi]

section
variable (b p : Vector Bool 4)

/-- The samples of one comparator at the end of a pulse, and what follows from them. -/
def State.pulseSample (s : State) (n : Nat) : State :=
  let bn := Table.at b n false
  let pn := Table.at p n false
  let s1 := s.updCmp n fun c => { c with beyond := if bn then min 2 (c.beyond + 1) else 0, past := if pn then min 2 (c.past + 1) else 0 }
  let c := s1.cmpAt n
  if c.beyond = 2 ∧ ¬ c.level then s1.cmpTripped n
  else if c.past = 2 ∧ c.level then s1.cmpReleased n
  else s1

/-- A first sample beyond the threshold, or past the release point, only counts. -/
theorem State.pulseSample_first {s : State} {n : Nat} (hn : n < 4) (hb : Table.at b n false = true → (s.cmpAt n).beyond = 0)
    (hp : Table.at p n false = true → (s.cmpAt n).past = 0) :
    s.pulseSample b p n = s.updCmp n (Cmp.pulsed (Table.at b n false) (Table.at p n false)) := by
  have counts : (s.updCmp n fun c => { c with
        beyond := if Table.at b n false then min 2 (c.beyond + 1) else 0
        past := if Table.at p n false then min 2 (c.past + 1) else 0 }) =
      s.updCmp n (Cmp.pulsed (Table.at b n false) (Table.at p n false)) := by
    refine congrArg (fun t => { s with cmp := t }) (Table.upd_congr s.cmp n {} ?_)
    have hb' : (if Table.at b n false then min 2 ((s.cmpAt n).beyond + 1) else 0) = if Table.at b n false then 1 else 0 := by
      split
      next h => rw [hb h]; rfl
      next => rfl
    have hp' : (if Table.at p n false then min 2 ((s.cmpAt n).past + 1) else 0) = if Table.at p n false then 1 else 0 := by
      split
      next h => rw [hp h]; rfl
      next => rfl
    exact congrArg₂ (fun x y => { s.cmpAt n with beyond := x, past := y }) hb' hp'
  have beyond : ((s.updCmp n (Cmp.pulsed (Table.at b n false) (Table.at p n false))).cmpAt n).beyond ≠ 2 := by
    rw [State.cmpAt_updCmp_same s (by omega)]
    simp only [Cmp.pulsed]
    split <;> decide
  have past : ((s.updCmp n (Cmp.pulsed (Table.at b n false) (Table.at p n false))).cmpAt n).past ≠ 2 := by
    rw [State.cmpAt_updCmp_same s (by omega)]
    simp only [Cmp.pulsed]
    split <;> decide
  unfold State.pulseSample
  dsimp only
  rw [counts, if_neg fun h => beyond h.1, if_neg fun h => past h.1]

/-- The comparators of the first `k` ropes have been sampled once, and nothing else has changed. -/
theorem State.pulseSamples_first {s : State}
    (h : ∀ n, n < 4 → (Table.at b n false = true → (s.cmpAt n).beyond = 0) ∧ (Table.at p n false = true → (s.cmpAt n).past = 0))
    {k : Nat} (hk : k ≤ 4) : ∃ u : State, (List.range k).foldl (State.pulseSample b p) s = u ∧ u = { s with cmp := u.cmp } ∧
      ∀ n, u.cmpAt n = if n < k then (s.cmpAt n).pulsed (Table.at b n false) (Table.at p n false) else s.cmpAt n := by
  induction k with
  | zero => exact ⟨s, rfl, rfl, fun n => by simp⟩
  | succ k ih =>
    obtain ⟨u, hu, frame, each⟩ := ih (by omega)
    have now : u.cmpAt k = s.cmpAt k := by rw [each, if_neg (Nat.lt_irrefl k)]
    have hkk := h k (by omega)
    rw [List.range_succ, List.foldl_concat, hu, State.pulseSample_first b p (by omega) (by rw [now]; exact hkk.1) (by rw [now]; exact hkk.2)]
    refine ⟨_, rfl, by rw [frame]; rfl, fun n => ?_⟩
    rw [State.cmpAt_updCmp _ _ _ _ (by omega : k < 8)]
    rcases Nat.lt_trichotomy n k with hn | rfl | hn
    · rw [if_neg (Nat.ne_of_lt hn), each, if_pos hn, if_pos (Nat.lt_succ_of_lt hn)]
    · rw [if_pos rfl, now, if_pos (Nat.lt_succ_self n)]
    · rw [if_neg (Nat.ne_of_gt hn), each, if_neg (Nat.lt_asymm hn), if_neg (by omega)]

theorem State.evLeakPulse_of_pulsed {s : State} (hr : s.aar.ropeRect = false) (hp : s.supply.porst = false) (hv : s.supply.vdeck = true) :
    s.evLeakPulse b p = (List.range 4).foldl (State.pulseSample b p) s.pulseOut := by
  have go : ¬ (¬ s.pulsed = true ∨ s.supply.porst = true ∨ ¬ s.supply.vdeck = true) := by simp [State.pulsed, hr, hp, hv]
  exact if_neg go

theorem State.evLeakPulse_of_not_pulsed {s : State} (h : s.aar.ropeRect = true ∨ s.supply.porst = true ∨ s.supply.vdeck = false) :
    s.evLeakPulse b p = s := by
  refine if_pos (h.imp (fun hr => ?_) (Or.imp_right fun hv => ?_))
  · simp [State.pulsed, hr]
  · simp [hv]

end

/-- Settles O12: an armed comparator is judged by its LEVEL, a pulsed one at the pulses. -/
theorem comparatorsAndLeaksAreJudged : Obligations.ComparatorsAndLeaksAreJudged := by
  unfold Obligations.ComparatorsAndLeaksAreJudged
  refine ⟨⟨?trips, ?tripped, ?released, ?unarmed, ?pulsed⟩, ?pulse, ?noPulse⟩
  case trips =>
    intro s n hn hr ha hl
    obtain ⟨trip, level, cfg, others, frame⟩ := s.cmpLevel_spec hn true
    have own : s.evCmpTrip n = (s.cmpLevel n true).cmpActs n := (if_neg (State.not_pulsed_of hr)).trans (State.cmpTripped_of_armed ha hl)
    exact ⟨_, effect_of (State.onUnit_of_lt hn) own, by rw [trip, Bool.or_true], level, cfg, others, frame⟩
  case tripped =>
    intro s n hn hr ha hl
    obtain ⟨trip, level, cfg, others, frame⟩ := s.cmpLevel_spec hn false
    have own : s.evCmpRelease n = (s.cmpLevel n false).ropeWet n false :=
      (if_neg (State.not_pulsed_of hr)).trans (State.cmpReleased_of_level ha hl)
    exact ⟨effect_of (State.onUnit_of_lt hn) (State.evCmpTrip_of_still (State.cmpTripped_of_level hl)), _,
      effect_of (State.onUnit_of_lt hn) own, by rw [trip, Bool.or_false], level, cfg, others, frame⟩
  case released =>
    exact fun s n hn _ hl => effect_of (State.onUnit_of_lt hn) (State.evCmpRelease_of_still (State.cmpReleased_of_no_level hl))
  case unarmed =>
    exact fun s n hn ha => ⟨effect_of (State.onUnit_of_lt hn) (State.evCmpTrip_of_still (State.cmpTripped_of_not_armed ha)),
      effect_of (State.onUnit_of_lt hn) (State.evCmpRelease_of_still (State.cmpReleased_of_not_armed ha))⟩
  case pulsed =>
    intro s n hn hr
    have pulsed : n < 4 ∧ s.pulsed = true := ⟨hn, by simp [State.pulsed, hr]⟩
    have unit : n < 8 := by omega
    exact ⟨effect_of (State.onUnit_of_lt unit) (if_pos pulsed), effect_of (State.onUnit_of_lt unit) (if_pos pulsed)⟩
  case pulse =>
    intro s b p hr hp hv h
    obtain ⟨u, hu, frame, each⟩ := State.pulseSamples_first b p (s := s.pulseOut) h (Nat.le_refl 4)
    refine ⟨u, effect_of rfl ((State.evLeakPulse_of_pulsed b p hr hp hv).trans hu), frame, fun n hn => ?_, fun n hn => ?_⟩
    · rw [each, if_neg (by omega)]; rfl
    · rw [each, if_pos hn]; rfl
  case noPulse => exact fun s b p h => effect_of rfl (State.evLeakPulse_of_not_pulsed b p h)

/-! ### The ACTION of a trip (03 Table 03-7, R111, R119) -/

section
variable {s : State} {n : Nat}

/-- A rope's sign of water matters to the primary steward alone. -/
theorem State.ropeWet_of_no_role (h : 4 ≤ n ∨ s.stew.role ≠ Role.primary) (wet : Bool) : s.ropeWet n wet = s :=
  if_neg fun ⟨hr, hn, _⟩ => h.elim (fun h4 => absurd hn (Nat.not_lt.2 h4)) fun hp => hp hr

theorem State.asleep_eq_true : s.asleep = true ↔ s.dev.state = .dormant ∧ s.dev.trans = false := by simp [State.asleep]

theorem State.warnSet_form (s : State) (c : Nat) : ∃ h k p o,
    s.warnSet c = { s with thm := h, cal := k, damem := { s.damem with page := p }, out := o } := by
  unfold State.warnSet
  dsimp only
  generalize (!(s.thm.warn != 0 && Option.elim s.thm.coolNoticeAt false fun t => decide (s.now < t + 32768))) = quiet
  split
  · exact ⟨s.thm, s.cal, s.damem.page, s.out, rfl⟩
  · obtain ⟨k, p, o, h⟩ := State.log_form ({ s with thm := { s.thm with warn := s.thm.warn ||| BitVec.ofNat 11 (2 ^ c) } }) 0x6003
      (State.warnParam { s with thm := { s.thm with warn := s.thm.warn ||| BitVec.ofNat 11 (2 ^ c) } }) none true false quiet
    rw [h]
    split
    · exact ⟨_, k, p, o, rfl⟩
    · exact ⟨_, k, p, o, rfl⟩

end

/-- Settles O13: ACTION and WAKE of the comparator, and whether the device sleeps, decide what a trip leads to. -/
theorem tripsTakeTheirAction : Obligations.TripsTakeTheirAction := by
  unfold Obligations.TripsTakeTheirAction
  intro s n hr act wake
  have acts : s.cmpActs n =
      if act = 2 then (if wake = true ∧ s.asleep = true then s.wakeHandler (n + 1) else s).enterSafe 5
      else
        let s2 := if act = 1 then s.warnSet 7 else s
        if wake = true then
          (if s2.dev.trans = true ∧ s2.dev.target = .dormant ∧ s2.boot.complete = true then
             s2.updDev fun d => { d with latchedWake := d.latchedWake.filter (· != n) ++ [n] }
           else if s2.asleep = true then s2.wakeBy (n + 1) (s2.wakeGoes n)
           else s2)
        else s2 := by
    simp only [State.cmpActs, State.ropeWet_of_no_role hr true, act, wake]
  rw [acts]
  refine ⟨?safe, ?safeAsleep, ?warn, ?record, ?wakes, ?warnWakes, ?latched, ?awake⟩
  case safe =>
    intro ha hw
    have : ¬ (wake = true ∧ s.asleep = true) := by
      rw [State.asleep_eq_true]
      rintro ⟨h1, h2, h3⟩
      simp [h1, h2, h3] at hw
    rw [if_pos ha, if_neg this]
  case safeAsleep =>
    intro ha hw hd ht
    rw [if_pos ha, if_pos ⟨hw, State.asleep_eq_true.2 ⟨hd, ht⟩⟩]
  case warn => intro ha hw; simp [ha, hw]
  case record => intro ha hw; simp [ha, hw]
  case wakes =>
    intro ha hw hd ht
    have goes : s.wakeGoes n = false := by simp only [State.wakeGoes]; rw [show fieldOf (s.cmpAt n).cfg 29 28 = 0 from ha]; rfl
    simp [ha, hw, ht, State.asleep_eq_true.2 ⟨hd, ht⟩, goes]
  case warnWakes =>
    intro ha hw hd ht
    obtain ⟨h, k, p, o, e⟩ := s.warnSet_form 7
    have goes : (s.warnSet 7).wakeGoes n = s.row.wakeWarn := by
      have same : (s.warnSet 7).wakeGoes n = s.wakeGoes n := by rw [e]; rfl
      rw [same, State.wakeGoes, show fieldOf (s.cmpAt n).cfg 29 28 = 1 from ha]
      rfl
    have asleep : (s.warnSet 7).asleep = true := by rw [e]; exact State.asleep_eq_true.2 ⟨hd, ht⟩
    have trans : (s.warnSet 7).dev.trans = false := by rw [e]; exact ht
    simp [ha, hw, trans, asleep, goes]
  case latched => intro ha hw ht hd hb; simp [ha, hw, ht, hd, hb, State.updDev]
  case awake =>
    intro ha hw ht hd
    have asleep : s.asleep = false := by simp [State.asleep, hd]
    simp [ha, hw, ht, asleep]

end Sys2Proof.Machine
end

section
/-! SUPPORT. What device memory holds after a write (O5): one byte, then a list of bytes, then the state's own memory. -/
namespace Sys2Proof.Machine

/-- One written byte reads back, and no other byte changes. -/
theorem Mem.get_set {d : Byte} {m : Mem} (h : Mem.wf d m = true) (a x : Nat) (b : Byte) :
    Mem.get d (Mem.set d m a b) x = if x = a then b else Mem.get d m x := by
  induction m with
  | nil => grind [Mem.get, Mem.set]
  | cons c r ih =>
    obtain ⟨-, above, tail⟩ := (Mem.wf_cons d c r).1 h
    have below : x ≤ c.1 → Mem.get d r x = d := fun hx => Mem.get_below fun e he => Nat.lt_of_le_of_lt hx (above e he)
    grind [Mem.get, Mem.set]

/-- Bytes that are written read back, and those outside read as before. -/
theorem Mem.get_write {d : Byte} {m : Mem} (h : Mem.wf d m = true) (a x : Nat) (l : List Byte) :
    Mem.get d (Mem.write d m a l) x = if a ≤ x ∧ x < a + l.length then (l[x - a]?).getD 0 else Mem.get d m x := by
  induction l generalizing m a with
  | nil => grind [Mem.write]
  | cons b r ih =>
    rw [Mem.write, ih (Mem.wf_set a b h), Mem.get_set h]
    grind

/-- Reading is byte by byte. -/
theorem Mem.read_getElem? (d : Byte) (m : Mem) (a n i : Nat) :
    (Mem.read d m a n)[i]? = if i < n then some (Mem.get d m (a + i)) else none := by
  induction n generalizing a i with
  | zero => simp [Mem.read]
  | succ n ih => cases i <;> grind [Mem.read]

/-- Settles O5: the listing is canonical, so one byte's write is seen at its own address alone, and a write of bytes is one after
another. -/
theorem memoryHoldsWhatIsWritten : Obligations.MemoryHoldsWhatIsWritten := by
  intro s d b wf
  have get (x : Nat) := Mem.get_write wf d x b
  refine ⟨Mem.wf_write d b wf, fun i hi => ?_, fun a ha => ?_, fun x => ?_, rfl, List.ext_getElem? fun i => ?_⟩
  · change [Mem.get 0 (Mem.write 0 s.mem.bytes d b) (d + i)] = _
    rw [get, if_pos (by omega), Nat.add_sub_cancel_left]
  · change [Mem.get 0 (Mem.write 0 s.mem.bytes d b) a] = [Mem.get 0 s.mem.bytes a]
    rw [get, if_neg (by omega)]
  · change (s.mem.poisoned.filter fun x => x < d / 64 || (d + b.length - 1) / 64 < x).contains x = _
    rw [Bool.eq_iff_iff]
    simp [State.isPoisoned]
  · change (Mem.read 0 (Mem.write 0 s.mem.bytes d b) d b.length)[i]? = _
    rw [Mem.read_getElem?, get]
    grind

end Sys2Proof.Machine
end

section
/-! SUPPORT. The crystal, REFCLK and the regulators (O15). -/
namespace Sys2Proof.Machine

/-- What a change of the crystal does to the clocks: the free-running figure anew, and a disciplined figure is not held during a fault. -/
theorem State.crystalFigure_form (s : State) : ∃ c p o, s.crystalFigure = { s with
    clocks := { s.clocks with freeHeld := s.freeNow, discHeld := s.clocks.discHeld && !s.clocks.xtalFault }
    cal := c, damem := { s.damem with page := p }, out := o } := by
  obtain ⟨c, p, o, h⟩ := State.log_form { s with clocks := { s.clocks with freeHeld := s.freeNow } } 0x0007 (param [(1, 1)]) none
    s.clocks.xtalFault false true
  simp only [State.crystalFigure, h]
  split
  · case isTrue hd =>
    obtain ⟨c', p', o', h'⟩ := State.log_form { s with
      clocks := { s.clocks with freeHeld := s.freeNow, discHeld := false }, cal := c, damem := { s.damem with page := p }, out := o }
      0x0006 [] none true false true
    exact ⟨c', p', o', h'.trans (by simp [hd.2])⟩
  · case isFalse hd =>
    refine ⟨c, p, o, ?_⟩
    have same : (s.clocks.discHeld && !s.clocks.xtalFault) = s.clocks.discHeld := by grind
    rw [same]

/-- The supply, the Calender, the mailbox pages and what goes out: what a poll of the regulators may change. -/
def State.polled (s : State) : State := { s with supply := {}, cal := {}, damem := {}, out := [] }

@[simp] theorem State.log_polled (s : State) (c : Nat) (prm : List Byte) (p : Option Nat) (r h n : Bool) :
    (s.log c prm p r h n).polled = s.polled := by
  obtain ⟨_, _, _, e⟩ := State.log_form s c prm p r h n
  rw [e]; rfl

@[simp] theorem State.updTele_polled (s : State) (e : Nat) (f : RailTelemetry → RailTelemetry) : (s.updTele e f).polled = s.polled := rfl

@[simp] theorem State.pmbusOk_polled (s : State) (e : Nat) : (s.pmbusOk e).polled = s.polled := by
  simp only [State.pmbusOk]; split <;> simp

@[simp] theorem State.pmbusFail_polled (s : State) (e : Nat) : (s.pmbusFail e).polled = s.polled := by
  simp only [State.pmbusFail]; split <;> simp

@[simp] theorem State.pmbusRead_polled {α : Type} (s : State) (e : Nat) (v : Option α) (f : α → RailTelemetry → RailTelemetry) :
    (s.pmbusRead e v f).polled = s.polled := by
  cases v <;> simp [State.pmbusRead]

@[simp] theorem State.railPolled_polled (s : State) (e : Nat) (a : PmbusReading) : (s.railPolled e a).polled = s.polled := by
  simp [State.railPolled]

/-- A state that agrees beyond the polled fields is the other one with those fields. -/
theorem State.eq_of_polled {s t : State} (h : t.polled = s.polled) :
    t = { s with supply := t.supply, cal := t.cal, damem := t.damem, out := t.out } := by
  cases s; cases t; cases h; rfl

/-- An entry changed by a function is put. -/
theorem Table.upd_eq_put {α : Type} {n : Nat} (t : Vector α n) {i : Nat} (hi : i < n) (f : α → α) (d : α) :
    Table.upd t i f = Table.put t i (f (Table.at t i d)) := by
  simp [Table.upd, Table.put, Table.at, hi]

theorem teleRail_lt (e : Nat) : teleRail e < 9 := by
  unfold teleRail; split <;> omega

/-- A change of a regulator's own entry puts the changed entry. -/
theorem State.updTele_teleRail (s : State) (e : Nat) (f : RailTelemetry → RailTelemetry) :
    s.updTele (teleRail e) f = { s with supply := { s.supply with
      tele := Table.put s.supply.tele (teleRail e) (f (Table.at s.supply.tele (teleRail e) {})) } } := by
  rw [← Table.upd_eq_put _ (teleRail_lt e)]
  rfl

/-- Settles O15: crystal, reference and regulators each follow the branches of their own event. -/
theorem clocksAndRegulatorsAreWatched : Obligations.ClocksAndRegulatorsAreWatched := by
  refine ⟨⟨fun s hf hv hp => ?fault, fun s hf hv hp => ?recover, fun s h => ?noFault, fun s h => ?noRecover, fun s hl h => ?lossService,
    fun s hl hs ht h => ?lossHeld, fun s hl hs ht h1 h2 h3 => ?lossElse, fun s hl => ?noLoss, fun s hv hp => ?locked,
    fun s h => ?noLocked, fun s temp h => ?noCorr, fun s temp hr he h1 h2 h3 => ?zeroCorr, fun s temp hr he h => ?corr⟩,
    fun s l h1 h2 h3 h4 h5 h6 hl => ?poll, fun s e he => ?rail, fun s l h => ?noPoll⟩
  case fault =>
    obtain ⟨c, p, o, h⟩ := State.crystalFigure_form { s with clocks := { s.clocks with xtalFault := true, xtalOk := false } }
    refine ⟨_, effect_of rfl ((if_neg (by simp [*])).trans h), ?_, rfl⟩
    simp [State.freeNow]
  case recover =>
    obtain ⟨c, p, o, h⟩ := State.crystalFigure_form { s with clocks := { s.clocks with xtalFault := false, xtalOk := true } }
    refine ⟨_, effect_of rfl ((if_pos (by simp [*])).trans h), ?_, rfl⟩
    simp [State.freeNow]
  case noFault => exact effect_of rfl (if_pos (by simpa using h))
  case noRecover => exact effect_of rfl (if_neg (by grind))
  case lossService =>
    exact effect_of rfl ((if_neg (by simp [hl])).trans (if_pos h))
  case lossHeld =>
    have hn : ¬ (s.inService = true ∨ s.towardService = true) := by simp [hs, ht]
    exact effect_of rfl ((if_neg (by simp [hl])).trans ((if_neg hn).trans (if_pos h)))
  case lossElse =>
    have hn : ¬ (s.inService = true ∨ s.towardService = true) := by simp [hs, ht]
    have hn' : ¬ (s.dev.state = .held ∨ s.dev.state = .safe ∨ s.dev.episode.isSome = true) := by simp [h1, h2, h3]
    exact effect_of rfl ((if_neg (by simp [hl])).trans ((if_neg hn).trans (if_neg hn')))
  case noLoss => exact effect_of rfl (if_pos (by simp [hl]))
  case locked => exact effect_of rfl (if_pos (by simp [hv, hp]))
  case noLocked => exact effect_of rfl (if_neg (by grind))
  case noCorr => exact effect_of rfl (if_pos (by simpa using h))
  case zeroCorr => exact effect_of rfl ((if_neg (by simp [hr, he])).trans (if_pos ⟨h1, h2, h3⟩))
  case corr =>
    refine ⟨s.row.crystalErr temp, ?_, ?_, effect_of rfl ((if_neg (by simp [hr, he])).trans (if_neg (by grind)))⟩ <;>
      (unfold RowCfg.crystalErr; omega)
  case poll =>
    have h : ¬ (s.supply.porst ∨ ¬ s.supply.vdeck ∨ s.dev.state = .dormant ∨ s.fwAbsent ∨ s.boot.phase = .strapWait ∨
      s.boot.phase = .boardTest) := by simp [*]
    exact effect_of rfl ((if_neg h).trans (by rw [List.take_of_length_le hl]))
  case rail =>
    refine ⟨fun v => ⟨?_, rfl⟩, fun hf => ?_, fun hf hs => ?_, fun a => State.eq_of_polled (by simp)⟩
    · simp only [State.pmbusOk, State.updTele_teleRail]
      split <;> simp
    · have hn : min 3 ((Table.at s.supply.tele (teleRail e) {}).fails + 1) = (Table.at s.supply.tele (teleRail e) {}).fails + 1 := by omega
      simp only [State.pmbusFail, hn, State.updTele_teleRail]
      rw [if_neg (by omega)]
    · simp [State.pmbusFail, State.updTele_teleRail, hf, hs]
  case noPoll => exact effect_of rfl (if_pos (by grind))

end Sys2Proof.Machine
end

section
/-! SUPPORT. What ends of sheets and stops of partitions leave of the partitions and rings: their holdings, the rings' set-up, a partition
that is not live and a ring that is disabled (06 R273-R278). One lemma per operation. -/
namespace Sys2Proof.Machine

/-- A partition without what a stop writes. -/
def Part.holding (x : Part) : Part := { x with state := .none, epoch := 0, intakeOff := false, stopCause := none, done := 0, aborted := 0 }

/-- Partitions and rings come to a stop, or stay as they are. -/
structure State.Stops (s t : State) : Prop where
  holding : ∀ p, (t.partAt p).holding = (s.partAt p).holding
  live : ∀ p, (s.partAt p).live = false → (t.partAt p).live = false
  setup : ∀ r, (t.ringAt r).setup = (s.ringAt r).setup
  disabled : ∀ r, (s.ringAt r).disabled = true → (t.ringAt r).disabled = true

namespace State.Stops

theorem refl (s : State) : s.Stops s := ⟨fun _ => rfl, fun _ h => h, fun _ => rfl, fun _ h => h⟩

theorem trans {s t u : State} (h : s.Stops t) (k : t.Stops u) : s.Stops u where
  holding p := (k.holding p).trans (h.holding p)
  live p hp := k.live p (h.live p hp)
  setup r := (k.setup r).trans (h.setup r)
  disabled r hr := k.disabled r (h.disabled r hr)

/-- What goes on from a stop, the last operation named first. -/
theorem after {s t u : State} (k : t.Stops u) (h : s.Stops t) : s.Stops u := h.trans k

theorem rings {s t : State} (h : s.Stops t) (p : Nat) : (t.partAt p).rings = (s.partAt p).rings :=
  show (t.partAt p).holding.rings = (s.partAt p).holding.rings from congrArg Part.rings (h.holding p)

/-- What writes neither table stops nothing. -/
theorem of_eq {s t : State} (hp : t.part = s.part) (hr : t.ring = s.ring) : s.Stops t := by
  have part (p : Nat) : t.partAt p = s.partAt p := by simp only [State.partAt, hp]
  have ring (r : Nat) : t.ringAt r = s.ringAt r := by simp only [State.ringAt, hr]
  refine ⟨fun p => ?_, fun p => ?_, fun r => ?_, fun r => ?_⟩ <;> simp only [part, ring, imp_self]

theorem updPart (s : State) (p : Nat) (f : Part → Part) (h : (f (s.partAt p)).holding = (s.partAt p).holding)
    (l : (s.partAt p).live = false → (f (s.partAt p)).live = false) : s.Stops (s.updPart p f) := by
  have at_ (q : Nat) : (s.updPart p f).partAt q = if p = q ∧ p < 16 then f (s.partAt q) else s.partAt q := by
    split
    · case isTrue hq => obtain ⟨rfl, hp⟩ := hq; exact State.partAt_updPart_same s hp f
    · case isFalse hq =>
      by_cases e : p = q
      · have beyond : Table.upd s.part p f = s.part := Table.upd_beyond _ (by omega) f
        simp only [State.partAt, State.updPart, beyond]
      · exact State.partAt_updPart_other s e f
  refine ⟨fun q => ?_, fun q => ?_, fun _ => rfl, fun _ h => h⟩ <;> rw [at_ q] <;> split
  · case refine_1.isTrue e => exact e.1 ▸ h
  · rfl
  · case refine_2.isTrue e => exact e.1 ▸ l
  · exact id

theorem updRing (s : State) (r : Nat) (f : Ring → Ring) (h : ∀ x, (f x).setup = x.setup)
    (d : ∀ x, x.disabled = true → (f x).disabled = true) : s.Stops (s.updRing r f) := by
  have at_ (q : Nat) : (s.updRing r f).ringAt q = s.ringAt q ∨ (s.updRing r f).ringAt q = f (s.ringAt q) := by
    rcases Nat.lt_or_ge r 64 with hr | hr
    · by_cases e : r = q
      · exact .inr (e ▸ State.ringAt_updRing_same s hr f)
      · exact .inl (State.ringAt_updRing_other s e f)
    · have beyond : Table.upd s.ring r f = s.ring := Table.upd_beyond _ hr f
      exact .inl (by simp only [State.ringAt, State.updRing, beyond])
  refine ⟨fun _ => rfl, fun _ h => h, fun q => ?_, fun q hq => ?_⟩
  · rcases at_ q with e | e <;> rw [e]
    exact h _
  · rcases at_ q with e | e <;> rw [e]
    · exact hq
    · exact d _ hq

theorem foldl {α : Type} {f : State → α → State} (h : ∀ (s : State) a, s.Stops (f s a)) : ∀ (l : List α) (s : State), s.Stops (l.foldl f s)
  | [], s => refl s
  | a :: l, s => (h s a).trans (foldl h l _)

theorem ite {c : Prop} [Decidable c] {s a b : State} (ha : s.Stops a) (hb : s.Stops b) : s.Stops (if c then a else b) := by
  split
  · exact ha
  · exact hb

theorem log (s : State) (code : Nat) (prm : List Byte) (part : Option Nat) (raise hw notice : Bool) :
    s.Stops (s.log code prm part raise hw notice) := of_eq (State.log_part ..) (State.log_ring ..)
theorem answer (s : State) (f : InFlight) (st : Status) (detail : Nat) (payload : List Byte) (bulk : Option (List Byte)) (hint : Nat) :
    s.Stops (s.answer f st detail payload bulk hint) := of_eq (State.answer_part ..) (State.answer_ring ..)
theorem answerWaiting (s : State) (w : Wait) (st : Status) (detail : Nat) (payload : InFlight → List Byte) :
    s.Stops (s.answerWaiting w st detail payload) := of_eq (State.answerWaiting_part ..) (State.answerWaiting_ring ..)
theorem raiseMsix (s : State) (fn vec : Nat) : s.Stops (s.raiseMsix fn vec) := by
  obtain ⟨_, h⟩ := State.raiseMsix_form s fn vec; rw [h]; exact of_eq rfl rfl

theorem sendPacket (s : State) (src : Nat) (p : Packet) : s.Stops (s.sendPacket src p).2 := by
  unfold State.sendPacket
  split
  · exact of_eq rfl rfl
  · split
    · unfold State.sendDetour
      dsimp only
      split <;> exact of_eq rfl rfl
    · exact refl s
theorem sendAnswer (s : State) (k src : Nat) (p : Packet) : s.Stops (s.sendAnswer k src p) := ite (of_eq rfl rfl) (sendPacket ..)

theorem ringRefresh (s : State) (r : Nat) : s.Stops (s.ringRefresh r) := by
  unfold State.ringRefresh
  split
  · exact updRing s r _ (fun _ => rfl) fun _ h => h
  · exact updRing s r _ (fun _ => rfl) fun _ h => h
theorem ringsRefresh (s : State) (p : Nat) : s.Stops (s.ringsRefresh p) := foldl ringRefresh _ s

/-- A partition whose new state is not a live one comes to a stop. -/
theorem partTo (s : State) (p : Nat) (st : PState) (detail : Nat) (h : st = .none ∨ st = .aborting ∨ st = .stopped) :
    s.Stops (s.partTo p st detail) := by
  refine (log ..).after ((ringsRefresh ..).after (updPart s p (fun x => { x with state := st }) rfl fun _ => ?_))
  rcases h with rfl | rfl | rfl <;> rfl
theorem drainCheck (s : State) (p : Nat) : s.Stops (s.drainCheck p) :=
  ite ((answerWaiting ..).after ((partTo _ p .stopped 0 (.inr (.inr rfl))).after (updPart s p _ rfl fun h => h))) (refl s)

theorem freeGroup (s : State) (m q k : Nat) (kill : Bool) : s.Stops (s.freeGroup m q k kill) := by
  cases kill <;> exact of_eq rfl rfl

theorem mapRings (s : State) (f : Ring → Ring) (h : ∀ x, (f x).setup = x.setup) (d : ∀ x, (f x).disabled = x.disabled) :
    s.Stops { s with ring := s.ring.map f } := by
  have at_ (r : Nat) : ({ s with ring := s.ring.map f } : State).ringAt r = s.ringAt r ∨
      ({ s with ring := s.ring.map f } : State).ringAt r = f (s.ringAt r) := by
    rcases Nat.lt_or_ge r 64 with hr | hr
    · exact .inr (Table.at_map s.ring hr f {} {})
    · exact .inl (by simp [State.ringAt, Table.at, hr])
  refine ⟨fun _ => rfl, fun _ h => h, fun r => ?_, fun r hr => ?_⟩
  · rcases at_ r with e | e <;> rw [e]
    exact h _
  · rcases at_ r with e | e <;> rw [e]
    · exact hr
    · exact (d _).trans hr

theorem tallyWake (s : State) (t : Nat) : s.Stops (s.tallyWake t) := by
  unfold State.tallyWake
  dsimp only
  refine (foldl (fun s w => ?_) _ _).after ?_
  · exact (sendAnswer ..).after (of_eq rfl rfl)
  · refine State.Stops.trans (foldl (fun s m => foldl (fun s x => ?_) _ s) _ s) (mapRings _ _ (fun _ => rfl) fun _ => rfl)
    split
    · split
      · exact ite (of_eq rfl rfl) (refl s)
      · exact refl s
    · exact refl s
theorem tallyPut (s : State) (t v : Nat) : s.Stops (s.tallyPut t v) := (tallyWake ..).after (of_eq rfl rfl)
theorem tallyAdd (s : State) (t x : Nat) : s.Stops (s.tallyAdd t x) := tallyPut ..

theorem cplIrq (s : State) (r p : Nat) (c : Completion) : s.Stops (s.cplIrq r p c) := ite (raiseMsix ..) (refl s)
theorem cplHold (s : State) (r : Nat) (c : Completion) : s.Stops (s.cplHold r c) :=
  updRing s r _ (fun x => by split <;> rfl) fun x h => by split <;> exact h
theorem dmaError (s : State) (r p : Nat) : s.Stops (s.dmaError r p) :=
  (log ..).after ((ringRefresh ..).after (updRing s r _ (fun _ => rfl) fun _ _ => rfl))
theorem cplFails (s : State) (r : Nat) (c : Completion) : s.Stops (s.cplFails r c) := by
  unfold State.cplFails
  split
  · exact (dmaError ..).after (cplHold ..)
  · exact refl s
theorem cplWrite {s t : State} {r : Nat} {c : Completion} (h : s.cplWrite r c = some t) : s.Stops t := by
  have written (o : Out) (f : Ring → Ring) (p : Nat) (hs : ∀ x, (f x).setup = x.setup) (hd : ∀ x, (f x).disabled = x.disabled) :
      s.Stops ((s.emit o).updRing r f |>.cplIrq r p c) :=
    (cplIrq ..).after ((updRing (s.emit o) r f hs fun x h => (hd x).trans h).after (of_eq rfl rfl))
  revert h
  unfold State.cplWrite
  dsimp only
  split
  · exact nofun
  · split
    · rintro ⟨⟩; exact written _ _ _ (fun _ => rfl) fun _ => rfl
    · split
      · rintro ⟨⟩; exact written _ _ _ (fun _ => rfl) fun _ => rfl
      · exact nofun
theorem cplPlace (s : State) (r : Nat) (c : Completion) : s.Stops (s.cplPlace r c) := by
  refine ite (cplHold ..) (ite (cplFails ..) ?_)
  cases h : s.cplWrite r c with
  | none => exact cplHold ..
  | some t => exact cplWrite h

theorem complete (s : State) (r : Nat) (h : Sheet) (v : Status × Nat × Bool) : s.Stops (s.complete r h v) := by
  unfold State.complete
  split
  · exact refl s
  · have placed (u : State) (c : Completion) (p : Nat) : u.Stops ((((u.updRing r fun x => { x with
        sheets := x.sheets.filter fun k => k.subIndex != h.subIndex }).updPart p fun x =>
        if v.1 = .aborted then { x with aborted := satInc 32 x.aborted } else { x with done := satInc 32 x.done }).cplPlace r c).ringRefresh r) :=
      (ringRefresh ..).after ((cplPlace ..).after ((updPart _ p _ (by split <;> rfl) fun h => by split <;> exact h).after
        (updRing u r _ (fun _ => rfl) fun _ h => h)))
    exact (drainCheck ..).after ((ite ((tallyAdd ..).after (placed ..)) (placed ..)).after (of_eq rfl rfl))

theorem killGroups (s : State) (r sub : Nat) : s.Stops (s.killGroups r sub) := by
  refine foldl (fun s m => foldl (fun s x => ?_) _ s) _ s
  dsimp only
  split
  · exact ite (freeGroup ..) (refl s)
  · exact refl s
theorem endSheet (s : State) (r sub : Nat) : s.Stops (s.endSheet r sub) := by
  unfold State.endSheet
  split
  · exact refl s
  · exact (complete ..).after (killGroups ..)

theorem cancelRequests (s : State) (p : Nat) : s.Stops (s.cancelRequests p) := of_eq rfl rfl
theorem cancelBatches (s : State) (p : Nat) : s.Stops (s.cancelBatches p) := of_eq rfl rfl
theorem abortPart (s : State) (p : Nat) (cause : StopCause) (detail : Nat) : s.Stops (s.abortPart p cause detail) := by
  refine (partTo _ p .stopped detail (.inr (.inr rfl))).after ((updPart _ p _ rfl fun h => h).after ((foldl (fun s r =>
    foldl (fun s h => ?_) _ s) _ _).after ((cancelBatches ..).after ((cancelRequests ..).after
      ((ringsRefresh ..).after (updPart s p _ rfl fun _ => rfl))))))
  exact (endSheet ..).after (updRing s r _ (fun _ => rfl) fun _ h => h)
theorem answerStop (s : State) (p : Nat) (st : Status) : s.Stops (s.answerStop p st) := (answerWaiting ..).after (answerWaiting ..)

/-- A ring that is set up is disabled by a stop from outside. -/
theorem disableRing (s : State) (r : Nat) :
    s.Stops ((s.updRing r fun x => if x.setup then { x with disabled := true } else x).ringRefresh r) := by
  refine (ringRefresh ..).after (updRing s r _ (fun x => ?_) fun x h => ?_)
  · split <;> rfl
  · split
    · rfl
    · exact h

/-- What a stop from outside does before it disables rings. -/
theorem outsideAbort (s : State) (p : Nat) (cause : StopCause) :
    s.Stops (if (s.partAt p).live then (s.abortPart p cause cause.detail).answerStop p .aborted
      else if (s.partAt p).state = .stopped then s.log 0x2001 (param [(1, 1), (1, (s.partAt p).cause), (2, cause.detail)]) (some p)
      else s) := ite ((answerStop ..).after (abortPart ..)) (ite (log ..) (refl s))

theorem outsideStop (s : State) (p : Nat) (cause : StopCause) (disable : Bool) : s.Stops (s.outsideStop p cause disable) :=
  ite ((foldl disableRing _ _).after (outsideAbort ..)) (outsideAbort ..)

end State.Stops

/-! ### A stop from outside (06 R277, R278) -/

/-- A fold that is to make something of one of its elements makes it, where no step undoes it and no step takes away what it rests on. -/
theorem foldl_makes {σ α : Type} {f : σ → α → σ} {Q P : σ → Prop} {a : α} (keepQ : ∀ s b, Q s → Q (f s b)) (make : ∀ s, Q s → P (f s a))
    (keepP : ∀ s b, P s → P (f s b)) : ∀ (l : List α) (s : σ), a ∈ l → Q s → P (l.foldl f s)
  | b :: l, s, h, q => by
    rw [List.foldl_cons]
    rcases List.mem_cons.1 h with rfl | h
    · exact l.foldlRecOn f (make s q) fun t k c _ => keepP t c k
    · exact foldl_makes keepQ make keepP l _ h (keepQ s b q)

@[simp] theorem State.ringRefresh_part (s : State) (r : Nat) : (s.ringRefresh r).part = s.part := by
  unfold State.ringRefresh; split <;> rfl
@[simp] theorem State.ringsRefresh_part (s : State) (p : Nat) : (s.ringsRefresh p).part = s.part :=
  State.foldl_keeps State.part State.ringRefresh_part _ _
theorem State.partTo_partAt (s : State) {p : Nat} (hp : p < 16) (st : PState) (detail : Nat) :
    (s.partTo p st detail).partAt p = { s.partAt p with state := st } := by
  rw [State.partAt, State.partTo, State.log_part, State.ringsRefresh_part]
  exact State.partAt_updPart_same s hp _

/-- A stop from outside leaves its partition not live. -/
theorem State.outsideStop_not_live (s : State) {p : Nat} (hp : p < 16) (cause : StopCause) (disable : Bool) :
    ((s.outsideStop p cause disable).partAt p).live = false := by
  have stop : ((if (s.partAt p).live then (s.abortPart p cause cause.detail).answerStop p .aborted
      else if (s.partAt p).state = .stopped then s.log 0x2001 (param [(1, 1), (1, (s.partAt p).cause), (2, cause.detail)]) (some p)
      else s).partAt p).live = false := by
    split
    · refine (State.Stops.answerStop _ p _).live p ?_
      rw [State.abortPart, State.partTo_partAt _ hp]
      rfl
    · case isFalse h => exact (State.Stops.ite (State.Stops.log ..) (State.Stops.refl s)).live p (by simpa using h)
  exact (State.Stops.ite (State.Stops.foldl State.Stops.disableRing _ _) (State.Stops.refl _)).live p stop

/-- A stop that disables the rings disables each ring of its partition that is set up. -/
theorem State.outsideStop_disabled (s : State) {p r : Nat} (cause : StopCause) (hr : r < 64) (mem : r ∈ (s.partAt p).rings)
    (hs : (s.ringAt r).setup = true) : ((s.outsideStop p cause true).ringAt r).disabled = true := by
  refine foldl_makes (Q := fun t : State => (t.ringAt r).setup = true) (P := fun t : State => (t.ringAt r).disabled = true)
    (fun t b h => ((State.Stops.disableRing t b).setup r).trans h) (fun t h => ?_)
    (fun t b => (State.Stops.disableRing t b).disabled r) _ _ mem (((State.Stops.outsideAbort s p cause).setup r).trans hs)
  refine (State.Stops.ringRefresh _ r).disabled r ?_
  rw [State.ringAt_updRing_same t hr, if_pos h]

end Sys2Proof.Machine
end

section
/-! SUPPORT. Straps, light, PERST# and the endpoint (O14). -/
namespace Sys2Proof.Machine

variable (s : State)

/-! ### The entry into HELD before stage 1 has an envelope (04 R156) -/

/-- What the entry into HELD from boot code settles: the sampled straps, the sealed envelope, the reason and the way out, and where the
device is going. -/
def State.heldEntry (s : State) : Option Straps × Hmk × Nat × Bool × DevState :=
  (s.supply.straps, s.hmk, s.boot.reason, s.boot.coldNeeded, s.dev.target)

@[simp] theorem State.log_heldEntry (code : Nat) (prm : List Byte) (part : Option Nat) (raise hw notice : Bool) :
    (s.log code prm part raise hw notice).heldEntry = s.heldEntry := by
  obtain ⟨_, _, _, h⟩ := State.log_form s code prm part raise hw notice; rw [h]; rfl

@[simp] theorem State.lasersDark_heldEntry : s.lasersDark.heldEntry = s.heldEntry := by
  obtain ⟨_, h⟩ := s.lasersDark_form; rw [h]; rfl

@[simp] theorem State.railCut_heldEntry (r : Nat) : (s.railCut r).heldEntry = s.heldEntry := by
  have cut : (s.updSupply fun u => { u with en := Table.put u.en r false }).heldEntry = s.heldEntry := rfl
  refine Eq.trans ?_ cut
  refine State.ite_keeps _ rfl (State.ite_keeps _ rfl (State.ite_keeps _ rfl (State.ite_keeps _ ?_ (State.ite_keeps _ ?_
    (State.ite_keeps _ ?_ rfl)))))
  · exact (State.lasersDark_heldEntry _).trans rfl
  · exact State.lasersDark_heldEntry _
  · obtain ⟨p, h⟩ := State.heatersStop_form (s.updSupply fun u => { u with en := Table.put u.en r false })
    obtain ⟨q, k, h'⟩ := State.parkRings_form (s.updSupply fun u => { u with en := Table.put u.en r false }).heatersStop
    rw [h', h]; rfl

@[simp] theorem State.answerWaiting_heldEntry (w : Wait) (st : Status) (detail : Nat) (payload : InFlight → List Byte) :
    (s.answerWaiting w st detail payload).heldEntry = s.heldEntry := by
  obtain ⟨_, _, h⟩ := State.answerWaiting_form s w st detail payload; rw [h]; rfl

@[simp] theorem State.endpointStart_heldEntry : s.endpointStart.heldEntry = s.heldEntry := State.ite_keeps _ rfl rfl

/-- HELD is reached with the entry as it stood. -/
theorem State.heldReached_heldEntry (h : s.dev.target = .held) : s.heldReached.heldEntry = s.heldEntry := by
  have entered : (((s.seqTo .idle .none).stateTo .held .held).eventDue 1).heldEntry = s.heldEntry := by
    obtain ⟨w, x, p, c, d, o, e⟩ := State.stateTo_form (s.seqTo .idle .none) .held .held
    rw [e]
    simp only [State.heldEntry, State.eventDue, h]
    rfl
  exact (State.answerWaiting_heldEntry ..).trans ((State.log_heldEntry ..).trans ((State.endpointStart_heldEntry _).trans entered))

theorem State.upTo'_heldEntry {last : Nat} {g : SeqGoal} {done : State → State}
    (h : ∀ t : State, t.heldEntry = s.heldEntry → (done t).heldEntry = s.heldEntry) : (s.upTo' last g done).heldEntry = s.heldEntry := by
  unfold State.upTo'
  split
  · rfl
  · exact h _ rfl

theorem State.downTo_heldEntry {keep : List Nat} {g : SeqGoal} {done : State → State}
    (h : ∀ t : State, t.heldEntry = s.heldEntry → (done t).heldEntry = s.heldEntry) : (s.downTo keep g done).heldEntry = s.heldEntry := by
  unfold State.downTo
  split
  · rfl
  · split
    · exact h _ rfl
    · exact State.railCut_heldEntry ..

/-- An entry into HELD writes the reason, and that only a cold reset leads back where that is so. -/
theorem State.enterHeld_heldEntry (r : HeldReason) (detail : Nat) (copy cold : Bool) : (s.enterHeld r detail copy cold).heldEntry =
    (s.supply.straps, s.hmk, r.code, s.boot.coldNeeded || cold, .held) := by
  have reached (t u : State) (ht : t.dev.target = .held) (h : u.heldEntry = t.heldEntry) : u.heldReached.heldEntry = t.heldEntry := by
    have target : u.dev.target = t.dev.target := congrArg (·.2.2.2.2) h
    exact (u.heldReached_heldEntry (target.trans ht)).trans h
  let s1 : State := { s with boot := { s.boot with
    reason := r.code, detail := detail, copy := copy, coldNeeded := s.boot.coldNeeded || cold, watchdog := false } }
  have off : ((s1.transTo .held).clocksOff.lasersDark).heldEntry = (s.supply.straps, s.hmk, r.code, s.boot.coldNeeded || cold, .held) := by
    obtain ⟨m, h⟩ := State.clocksOff_form (s1.transTo .held)
    rw [State.lasersDark_heldEntry, h]
    rfl
  have target := congrArg (·.2.2.2.2) off
  refine Eq.trans ?_ off
  exact State.ite_keeps _ (State.upTo'_heldEntry _ fun u => reached _ u target) (State.downTo_heldEntry _ fun u => reached _ u target)

/-- Sealing writes the held envelope where none is sealed, and leaves the straps. -/
theorem State.sealHeld_hmk (h : s.hmk.sealed = false) : s.sealHeld.hmk = heldHmk s.otp.orderCode ∧ s.sealHeld.supply = s.supply := by
  have unarmed (t : State) : (t.reportUnarmed.hmk, t.reportUnarmed.supply) = (t.hmk, t.supply) := by
    refine State.foldl_keeps (fun t : State => (t.hmk, t.supply)) (fun t n => ?_) _ _
    split
    · rfl
    · simp
  rw [State.sealHeld, if_neg (by simp [h])]
  exact ⟨congrArg Prod.fst (unarmed _), congrArg Prod.snd (unarmed _)⟩

/-- With a flash that does not answer and no test strap, boot code seals the held envelope and enters HELD, reason 0x02. -/
theorem State.bootRom_no_flash (stage1 : State → State) (ht : (s.supply.straps.getD {}).test = false) (hs : s.hmk.sealed = false) :
    (s.bootRom false false stage1).heldEntry = (s.supply.straps, heldHmk s.otp.orderCode, 2, true, .held) := by
  let s1 : State := { s with
    boot := { s.boot.start false with flashUsable := false }
    dev := { s.dev with trans := true, target := .standby, episode := none } }
  have checked : ∀ t : State, t.boot.flashUsable = false →
      (t.ringCheck.supply, t.ringCheck.hmk, t.ringCheck.otp) = (t.supply, t.hmk, t.otp) := fun t h => by
    unfold State.ringCheck
    rw [if_neg (by simp [h])]
    split
    · simp
    · rfl
  obtain ⟨supply, hmk, otp⟩ : s1.ringCheck.supply = s.supply ∧ s1.ringCheck.hmk = s.hmk ∧ s1.ringCheck.otp = s.otp := by
    have e := checked s1 rfl
    exact ⟨congrArg Prod.fst e, congrArg (·.2.1) e, congrArg (·.2.2) e⟩
  obtain ⟨sealed, straps⟩ := State.sealHeld_hmk s1.ringCheck (by rw [hmk, hs])
  have early : (s1.ringCheck.earlyHeld .flash 0 false).heldEntry = (s.supply.straps, heldHmk s.otp.orderCode, 2, true, .held) := by
    rw [State.earlyHeld, State.enterHeld_heldEntry, sealed, straps, supply, otp, Bool.or_true]
    rfl
  refine Eq.trans ?_ early
  unfold State.bootRom
  dsimp only
  rw [if_neg (fun h => ?_), if_pos (by decide)]
  have test : (s1.ringCheck.supply.straps.getD {}).test = false := supply.symm ▸ ht
  exact absurd (test.symm.trans h.1) Bool.false_ne_true

/-- Supply, envelope and fuses. -/
def State.core (s : State) : Supply × Hmk × Otp := (s.supply, s.hmk, s.otp)

theorem State.evCrystalFault_core : s.evCrystalFault.core = s.core := by
  refine State.ite_keeps State.core rfl ?_
  obtain ⟨c, p, o, e⟩ := State.crystalFigure_form { s with clocks := { s.clocks with xtalFault := true, xtalOk := false } }
  rw [e]
  rfl

/-- The clocks as the boot finds them touch neither supply, envelope nor fuses. -/
theorem State.clocksFound_core (env : BootEnv) : (s.clocksFound env).core = s.core :=
  State.ite_keeps State.core rfl ((State.evCrystalFault_core _).trans rfl)

/-- Boot code runs on the straps as they are sampled. -/
theorem State.evStrapSample_rom (env : BootEnv) (hb : s.boot.phase = .strapWait) (ht : s.supply.strapPins.tap = false)
    (hc : env.cut = .none) : s.evStrapSample env =
      (let t := ({ s with supply := { s.supply with straps := some s.supply.strapPins } }).clocksFound env
       t.bootRom false (t.flashFits env.flashReadable) fun x => x.stage1Cold env.touchOhm .none) := by
  refine (if_neg (by simp [hb])).trans ((if_neg (by simp [State.updSupply, ht])).trans ?_)
  rw [hc]
  rfl

/-! ### Light -/

theorem State.lasersDark_lit {a : Nat} (h : a < 24) : (s.lasersDark.laserAt a).lit = false := by
  have dark := foldl_range_at (fun s : State => s.laserAt) State.laserDark (fun _ (l : Laser) =>
    { l with lit := false, state := if l.state = .retired then .retired else if l.atTemp then .warm else .off }) 24
    (fun s k hk => State.laserAt_updLaser_same s hk _) (fun s k i hi => State.laserAt_updLaser_other s (Ne.symm hi) _) s a
  rw [if_pos h] at dark
  exact congrArg Laser.lit dark

/-- Relighting changes lasers only. -/
theorem State.evVphoReturn_form (h : s.railOn 4 = true) (hv : s.supply.vphoOk = false) :
    ∃ p, s.evVphoReturn = { s with supply := { s.supply with vphoOk := true }, pho := p } := by
  have lit (t : State) (a : Nat) : ∃ p, t.laserLight a = { t with pho := p } := by
    unfold State.laserLight
    split
    · exact ⟨_, rfl⟩
    · exact ⟨t.pho, rfl⟩
  rw [State.evVphoReturn, if_pos ⟨h, by simp [hv]⟩]
  dsimp only
  split
  · refine State.foldl_pho _ (fun t pos => ?_) _ _
    split
    · exact lit t _
    · exact ⟨t.pho, rfl⟩
  · exact ⟨s.pho, rfl⟩

/-! ### PERST# (02 R71, 06 Table 06-12) -/

/-- The partitions as PERST# stops them. -/
def State.perstStops (s : State) : State := (List.range 16).foldl (fun s p => s.outsideStop p .perst true)
  (s.updSupply fun u => { u with perst := true, endpoint := .off })

theorem State.evPerstAssert_awake (hp : s.supply.perst = false) (hd : s.dev.state ≠ .dormant) :
    s.evPerstAssert = { s.perstStops with
      part := s.perstStops.part.map fun (p : Part) => { p with busMaster := false }
      sriov := { s.perstStops.sriov with vfEnable := false, numVfs := 0, latches := [], msix := [] } } := by
  unfold State.evPerstAssert State.perstStops
  rw [if_neg (by simp [hp]), if_neg hd]

theorem State.perstStops_chassis : s.perstStops.chassis = (s.updSupply fun u => { u with perst := true, endpoint := .off }).chassis :=
  State.foldl_keeps State.chassis (f := fun s p => s.outsideStop p .perst true) (fun t p => t.outsideStop_chassis p .perst true) _ _

theorem State.perstStops_not_live {p : Nat} (hp : p < 16) : (s.perstStops.partAt p).live = false :=
  foldl_makes (f := fun s p => State.outsideStop s p .perst true) (Q := fun _ => True) (P := fun t => (t.partAt p).live = false)
    (fun _ _ h => h) (fun t _ => t.outsideStop_not_live hp .perst true)
    (fun t b => (State.Stops.outsideStop t b .perst true).live p) _ _ (List.mem_range.2 hp) trivial

theorem State.perstStops_disabled {p r : Nat} (hp : p < 16) (hr : r < 64) (mem : r ∈ (s.partAt p).rings)
    (hs : (s.ringAt r).setup = true) : (s.perstStops.ringAt r).disabled = true :=
  foldl_makes (f := fun s p => State.outsideStop s p .perst true)
    (Q := fun t => (t.partAt p).rings = (s.partAt p).rings ∧ (t.ringAt r).setup = true) (P := fun t => (t.ringAt r).disabled = true)
    (fun t b h => have k := State.Stops.outsideStop t b .perst true
      ⟨(k.rings p).trans h.1, (k.setup r).trans h.2⟩)
    (fun t h => t.outsideStop_disabled .perst hr (h.1 ▸ mem) h.2)
    (fun t b => (State.Stops.outsideStop t b .perst true).disabled r) _ _ (List.mem_range.2 hp) ⟨rfl, hs⟩

/-! ### A wake powers up -/

/-- The next rail to raise is a matter of the supply. -/
theorem State.railNext_of_supply {s t : State} (h : t.supply = s.supply) (i last : Nat) : t.railNext i last = s.railNext i last := by
  simp only [State.railNext, State.railOn, State.enAt, State.pgAt, h]

/-- Powering up raises the next rail where one is off. -/
theorem State.upTo'_next {last r : Nat} (h : s.railNext 0 last = some r) (g : SeqGoal) (done : State → State) :
    s.upTo' last g done = (s.seqTo .idle g).railRaise r last := by
  unfold State.upTo'
  rw [h]

theorem State.wakeBy_raises (src : Nat) {r : Nat} (h : s.railNext 0 6 = some r) : s.wakeBy src true =
    ((({ s.wakeHandler src with clocks := { (s.wakeHandler src).clocks with osc192 := true, oscFil := true } }).transTo
      .standby).seqTo .idle .toStandby).railRaise r 6 := by
  let t : State := ({ s.wakeHandler src with
    clocks := { (s.wakeHandler src).clocks with osc192 := true, oscFil := true } }).transTo .standby
  have supply : t.supply = s.supply := State.log_supply ..
  have next : t.railNext 0 6 = some r := (State.railNext_of_supply supply 0 6).trans h
  rw [State.wakeBy, if_pos rfl]
  exact State.upTo'_next t next _ _

/-! ### The endpoint comes ready -/

/-- The pages that a step over all of them leaves, where the step writes its own page only. -/
theorem State.foldl_pages {f : State → Nat → State} (hf : ∀ s m, ∃ p, f s m = { s with damem := { s.damem with page := p } })
    (l : List Nat) (s : State) : ∃ p, l.foldl f s = { s with damem := { s.damem with page := p } } :=
  State.foldl_form (fun s p => { s with damem := { s.damem with page := p } }) (fun s => s.damem.page) (fun _ => rfl)
    (fun _ _ _ => rfl) f hf l s

theorem State.pageAt_updPage (m n : Nat) (f : MbxPage → MbxPage) (h : m < 17) :
    (s.updPage m f).pageAt n = if n = m then f (s.pageAt n) else s.pageAt n := by
  split
  · case isTrue e => exact e ▸ State.pageAt_updPage_same s h f
  · case isFalse e => exact State.pageAt_updPage_other s (Ne.symm e) f

/-- A change of an entry that leaves it as it is leaves the table as it is. -/
theorem Table.upd_of_same {α : Type} {n : Nat} (t : Vector α n) (i : Nat) (d : α) {f : α → α} (h : f (Table.at t i d) = Table.at t i d) :
    Table.upd t i f = t := by
  rw [Table.upd_congr t i d (g := id) h]
  rcases Nat.lt_or_ge i n with hi | hi
  · simp only [Table.upd, hi, Vector.getElem?_eq_getElem, id]
    exact Vector.ext fun k hk => by grind
  · exact Table.upd_beyond t hi id

/-- A page that goes back to its reset contents with nothing queued is the reset page. -/
theorem freshPage_of_nothing_queued (m : Nat) {pg : MbxPage} (h : pg.queued = []) : freshPage m pg = { mask := permittedMask m } := by
  simp [freshPage, h]

/-- Where nothing is queued, delivering changes nothing. -/
theorem State.deliverQueued_of_nothing {m : Nat} (h : (s.pageAt m).queued = []) : s.deliverQueued m = s := by
  have still : (s.updPage m fun pg => { pg with queued := [] }) = s := by
    have same : Table.upd s.damem.page m (fun pg => { pg with queued := [] }) = s.damem.page :=
      Table.upd_of_same _ m {} (congrArg (fun q => { s.pageAt m with queued := q }) h.symm)
    rw [State.updPage, same]
  rw [State.deliverQueued, h]
  exact still

/-- With nothing queued each page of a ready endpoint is at its reset value. -/
theorem State.evEndpointReady_quiet (he : s.supply.endpoint = .retry) (hg : s.supply.goal = .none)
    (hq : ∀ m, m < 17 → (s.pageAt m).queued = []) : ∃ p, s.evEndpointReady = { s with
      supply := { s.supply with endpoint := .ready }, damem := { s.damem with page := p } } ∧
      ∀ m, m < 17 → Table.at p m {} = { mask := permittedMask m } := by
  obtain ⟨p, h⟩ := State.foldl_pages (f := fun s m => s.updPage m (freshPage m)) (fun s m => ⟨_, rfl⟩) (List.range 17)
    (s.updSupply fun u => { u with endpoint := .ready })
  have fresh (m : Nat) (hm : m < 17) : Table.at p m {} = { mask := permittedMask m } := by
    have at_ := foldl_range_at (fun s : State => s.pageAt) (fun s m => s.updPage m (freshPage m)) freshPage 17
      (fun s k hk => by rw [State.pageAt_updPage s k k _ hk, if_pos rfl])
      (fun s k i hi => State.pageAt_updPage_other s (Ne.symm hi) _)
      (s.updSupply fun u => { u with endpoint := .ready }) m
    rw [if_pos hm, h] at at_
    exact at_.trans (freshPage_of_nothing_queued m (hq m hm))
  refine ⟨p, ?_, fresh⟩
  have delivered : (List.range 17).foldl State.deliverQueued ((List.range 17).foldl (fun (s : State) m => s.updPage m (freshPage m))
      (s.updSupply fun u => { u with endpoint := .ready })) = { s with
      supply := { s.supply with endpoint := .ready }, damem := { s.damem with page := p } } := by
    rw [h]
    exact foldl_of_fixed fun m hm => State.deliverQueued_of_nothing _
      (congrArg MbxPage.queued (fresh m (List.mem_range.1 hm)))
  simp only [State.evEndpointReady, if_pos he, delivered]
  exact if_neg fun g => by simp [hg] at g

/-- Settles O14: the straps and boot code's way without a flash, then light, PERST# and the endpoint, each by its own event's branches. -/
theorem pinsAndStrapsAct : Obligations.PinsAndStrapsAct := by
  refine ⟨⟨fun s env hb ht => ?tap, fun s env hb ht hc => ?boot, fun s env hb ht hc hs hf hh => ?noFlash, fun s env hb => ?noWait,
      fun s n high hn => ?strap⟩,
    fun s => ?dark, fun s h4 hv => ?light, fun s h => ?noLight, fun s h => ?perstOn, fun s h hd => ?perstDormant,
    fun s h hd => ?perst, fun s h => ?noRelease, fun s h hv => ?releaseReset, fun s h hv hp hd hs he => ?release,
    fun s h hv hp hd ht => ?releaseWake, fun s src r hr => ?wake, fun s h => ?notRetry, fun s he hg hq => ?ready, fun s => effect_of rfl rfl⟩
  case tap => exact effect_of rfl ((if_neg (by simp [hb])).trans (if_pos ht))
  case boot => exact effect_of rfl (s.evStrapSample_rom env hb ht hc)
  case noFlash =>
    let s1 : State := { s with supply := { s.supply with straps := some s.supply.strapPins } }
    have found := s1.clocksFound_core env
    have supply : (s1.clocksFound env).supply = s1.supply := congrArg Prod.fst found
    have hmk : (s1.clocksFound env).hmk = s.hmk := congrArg (·.2.1) found
    have otp : (s1.clocksFound env).otp = s.otp := congrArg (·.2.2) found
    have held := State.bootRom_no_flash (s1.clocksFound env) (fun x => x.stage1Cold env.touchOhm .none) (by rw [supply]; exact hs)
      (by rw [hmk]; exact hh)
    have unfit : (s1.clocksFound env).flashFits env.flashReadable = false := by simp [State.flashFits, hf]
    exact ⟨(s1.clocksFound env).bootRom false false fun x => x.stage1Cold env.touchOhm .none,
      effect_of rfl ((s.evStrapSample_rom env hb ht hc).trans 
        (congrArg (fun b => (s1.clocksFound env).bootRom false b fun x => x.stage1Cold env.touchOhm .none) unfit)),
      (congrArg (·.1) held).trans (by rw [supply]), (congrArg (·.2.1) held).trans (by rw [otp]),
      congrArg (·.2.2.1) held, congrArg (·.2.2.2.1) held, congrArg (·.2.2.2.2) held⟩
  case noWait => exact effect_of rfl (if_pos hb)
  case strap =>
    refine ⟨fun h => effect_of (if_pos hn) (if_neg ?_), fun h1 h2 h3 => effect_of (if_pos hn) (if_pos ⟨h1, by simp [h2], h3⟩)⟩
    rintro ⟨h1, h2, h3⟩
    rcases h with h | h | h
    · simp [h] at h1
    · simp [h] at h2
    · exact h3 h
  case dark =>
    obtain ⟨p, h⟩ := State.lasersDark_form (s.updSupply fun u => { u with vphoOk := false })
    exact ⟨_, effect_of rfl h, rfl, fun a ha => h ▸ State.lasersDark_lit _ ha, rfl⟩
  case light =>
    obtain ⟨p, h⟩ := s.evVphoReturn_form h4 hv
    exact ⟨_, effect_of rfl h, rfl, rfl⟩
  case noLight => exact effect_of rfl (if_neg (by grind))
  case perstOn => exact effect_of rfl (if_pos h)
  case perstDormant => exact effect_of rfl ((if_neg (by simp [h])).trans (if_pos hd))
  case perst =>
    have run := s.evPerstAssert_awake h hd
    have supply := State.supply_of_chassis s.perstStops_chassis
    have sriov := State.sriov_of_chassis s.perstStops_chassis
    have off (p : Nat) (hp : p < 16) := s.perstStops_not_live hp
    have disabled (p : Nat) (hp : p < 16) (r : Nat) (mem : r ∈ (s.partAt p).rings) (hr : r < 64) := s.perstStops_disabled hp hr mem
    generalize s.perstStops = t at *
    refine ⟨_, effect_of rfl run, supply, ?_, fun p hp => ?_, disabled⟩
    · rw [sriov]
      rfl
    · have at_ := Table.at_map t.part hp (fun x : Part => { x with busMaster := false }) {} {}
      exact ⟨(congrArg Part.busMaster at_).trans rfl, (congrArg Part.live at_).trans (off p hp)⟩
  case noRelease => exact effect_of rfl (if_pos (by simp [h]))
  case releaseReset =>
    exact effect_of rfl ((if_neg (by simp [h])).trans (if_neg (by simp [State.updSupply]; grind)))
  case release =>
    refine effect_of rfl ((if_neg (by simp [h])).trans ((if_pos (by simp [State.updSupply, hv, hp])).trans
      ((if_neg ?awake).trans ((if_pos hs).trans ?_))))
    case awake =>
      rw [State.asleep_eq_true]
      rintro ⟨h1, h2⟩
      rcases hd with hd | hd
      · exact hd h1
      · exact Bool.false_ne_true (h2.symm.trans hd)
    by_cases h2 : s.railOn 2 = true
    · rw [if_pos h2]
      exact if_pos ⟨Bool.false_ne_true, h2, he⟩
    · rw [if_neg h2, ← he]
      exact if_neg fun k => h2 k.2.1
  case releaseWake =>
    exact effect_of rfl ((if_neg (by simp [h])).trans ((if_pos (by simp [State.updSupply, hv, hp])).trans
      (if_pos (State.asleep_eq_true.2 ⟨hd, ht⟩))))
  case wake =>
    have lt : r < 7 := by simpa using List.mem_of_find?_eq_some hr
    rw [s.wakeBy_raises src hr]
    refine ⟨?_, rfl, Table.at_put_same _ lt _ _⟩
    simp [State.railRaise, State.seqTo, State.transTo, State.wakeHandler, State.updDev]
  case notRetry => exact effect_of rfl (if_neg h)
  case ready =>
    obtain ⟨p, h, pages⟩ := s.evEndpointReady_quiet he hg hq
    exact ⟨_, effect_of rfl h, rfl, pages, rfl⟩

end Sys2Proof.Machine
end

section
/-! SUPPORT. What the device has sent is never taken back: each operation keeps it at the end of the list. -/
namespace Sys2Proof.Machine

namespace State

variable (s : State)

theorem raiseMsix_sent (fn vec : Nat) : s.out <:+ (s.raiseMsix fn vec).out := by
  unfold State.raiseMsix
  generalize (if fn = 0 then 128 else 120) = n
  split
  · exact List.suffix_cons ..
  · exact List.suffix_refl _

theorem putNotice_sent (m : Nat) (n : Notice) : s.out <:+ (s.putNotice m n).out := by
  unfold State.putNotice
  dsimp only
  split
  · exact raiseMsix_sent (s.updPage m _) ..
  · exact List.suffix_refl _

theorem flushLost_sent (m : Nat) : s.out <:+ (s.flushLost m).out := by
  unfold State.flushLost
  dsimp only
  split
  · exact putNotice_sent (s.updPage m _) ..
  · exact List.suffix_refl _

theorem noticeTo_sent (m : Nat) (n : Notice) : s.out <:+ (s.noticeTo m n).out := by
  unfold State.noticeTo
  dsimp only
  split
  · exact (s.flushLost_sent m).trans (putNotice_sent ..)
  · exact s.flushLost_sent m

theorem deliverNotice_sent (m : Nat) (n : Notice) : s.out <:+ (s.deliverNotice m n).out := by
  unfold State.deliverNotice
  split
  · exact noticeTo_sent ..
  · exact List.suffix_refl _

theorem foldl_sent {α : Type} {f : State → α → State} (h : ∀ s a, s.out <:+ (f s a).out) : ∀ (l : List α) (s : State), s.out <:+ (l.foldl f s).out
  | [], _ => List.suffix_refl _
  | a :: l, s => (h s a).trans (foldl_sent h l _)

theorem postNotice_sent (c : Nat) (part : Option Nat) (n : Notice) : s.out <:+ (s.postNotice c part n).out := by
  refine foldl_sent (fun s m => ?_) _ s
  split
  · exact deliverNotice_sent ..
  · exact List.suffix_refl _

theorem writeRec_sent (r : Rec) (n : Bool) : s.out <:+ (s.writeRec r n).out := by
  unfold State.writeRec
  dsimp only
  split
  · split
    · exact postNotice_sent { s with cal := s.cal.push r } ..
    · exact List.suffix_refl _
  · exact List.suffix_refl _

theorem check90_sent : s.out <:+ s.check90.out := by
  unfold State.check90
  split
  · exact writeRec_sent { s with cal := { s.cal with warned90 := true } } ..
  · exact List.suffix_refl _

theorem logNew_sent (r : Rec) (n : Bool) : s.out <:+ (s.logNew r n).out := by
  have written (t : State) : t.out <:+ ((t.writeRec r n).check90).out := (writeRec_sent ..).trans (check90_sent _)
  unfold State.logNew
  split
  · exact written s
  · case h_2 l _ =>
    dsimp only
    split
    · exact written { s with cal := { s.cal with buckets := (takeToken l.1 r.code s.cal.buckets).2 } }
    · exact List.suffix_refl _

theorem log_sent (code : Nat) (prm : List Byte) (part : Option Nat) (raise hw notice : Bool) :
    s.out <:+ (s.log code prm part raise hw notice).out := by
  unfold State.log State.logNow
  dsimp only
  split
  · exact List.suffix_refl _
  · split
    · split
      · exact List.suffix_refl _
      · exact logNew_sent ..
    · exact logNew_sent ..

end State

end Sys2Proof.Machine
end

section
/-! SUPPORT. State timers and wake sources (O16). -/
namespace Sys2Proof.Machine

variable (s : State)

/-- What leaving ANNEAL changes: the state, the warming load, the scorer's light, HBM's refresh and what a change of state answers. -/
theorem State.leaveAnneal_form (t : Trigger) : ∃ w x p q k c d o, s.leaveAnneal t = { s with
    dev := { s.dev with state := .standby, trans := false, target := .standby, warmBand := x }
    thm := { s.thm with warming := 0, warmFloor := 350 }
    mem := { s.mem with selfRefresh := true }
    stew := w, lpe := p, pho := q, wmk := k, cal := c, damem := d, out := o } := by
  obtain ⟨k, q, c, d, o, h⟩ := State.scorerDark_form s.warmStop
  obtain ⟨w, x, p, c', d', o', h'⟩ := State.stateTo_form (s.warmStop.scorerDark.updMem fun m => { m with selfRefresh := true }) .standby t
  rw [h] at h'
  exact ⟨w, x, p, q, k, c', d', o', (congrArg (fun u => (State.updMem u fun m => { m with selfRefresh := true }).stateTo .standby t) h).trans h'⟩

theorem State.clocksOff_mult {m : Nat} (h : m < 16) : (s.clocksOff.mouldAt m).mult = 0 := by
  have off := foldl_range_at (fun s : State => s.mouldAt)
    (fun (s : State) m => (s.clockOff m).updMould m fun x => { x with state := if x.state = .running then .stopped else x.state })
    (fun _ (x : Mould) => { x with mult := 0, state := if x.state = .running then .stopped else x.state }) 16
    (fun s k hk => by simp [State.clockOff, State.mouldAt_updMould_same _ hk])
    (fun s k i hi => by simp [State.clockOff, State.mouldAt_updMould_other _ (Ne.symm hi)]) s m
  rw [if_pos h] at off
  exact congrArg Mould.mult off

/-- The wake handler names its source and records it. -/
theorem State.wakeHandler_form (src : Nat) : ∃ c p o, s.wakeHandler src = { s with
    dev := { s.dev with wakeSrc := src }, cal := c, damem := { s.damem with page := p }, out := o } :=
  State.log_form ..

theorem State.wakeHandler_sent (src : Nat) : s.out <:+ (s.wakeHandler src).out := by
  unfold State.wakeHandler
  exact State.log_sent (s.updDev _) ..

theorem State.wakeBy_stay (src : Nat) : s.wakeBy src false = s.wakeHandler src := by
  rw [State.wakeBy, if_neg Bool.false_ne_true]

/-- The warming load of ANNEAL, by either mode. -/
theorem State.warmLoad_form (b : BitVec 16) :
    ∃ y, (if s.rampMode then { s with thm := { s.thm with warming := b } } else s.warmStart) = { s with thm := y } := by
  unfold State.warmStart
  split
  · exact ⟨_, rfl⟩
  · exact ⟨_, rfl⟩

/-- Settles O16: each timer and wake source acts where its own conditions hold, and only there. -/
theorem stateTimersAndWakes : Obligations.StateTimersAndWakes := by
  refine ⟨fun s hs ht hi hw => ?idle, fun s h => ?noIdle, fun s hs ht hw hp => ?last, fun s p hp hl => ?live, fun s h => ?noLast,
    fun s hs ht hn => ?nack, fun s h => ?hears, fun s h => ?awake, fun s ha h => ?alarm, fun s ha hw hs ht => ?alarmWakes, fun s h => ?noAlarm⟩
  case idle =>
    obtain ⟨w, x, p, q, k, c, d, o, h⟩ := s.leaveAnneal_form .idle
    exact ⟨_, effect_of rfl ((if_pos ⟨hs, by simp [ht], hi, hw⟩).trans h), rfl, rfl, rfl, rfl, rfl, rfl⟩
  case noIdle =>
    refine effect_of rfl (if_neg ?_)
    grind
  case last =>
    have none (p : Part) (hm : p ∈ s.part.toList) : (p.live || p.state == .aborting) = false := by
      obtain ⟨h1, h2⟩ := hp p hm
      simp [h1, h2]
    have idle : ¬ (s.part.toList.any fun p => p.live || p.state == .aborting) = true := by
      rw [List.any_eq_true]
      rintro ⟨p, hm, h⟩
      exact Bool.false_ne_true ((none p hm).symm.trans h)
    obtain ⟨m, hm⟩ := s.clocksOff_form
    obtain ⟨w, x, p, c, d, o, h⟩ := State.stateTo_form s.clocksOff .anneal .lastStopped
    obtain ⟨y, warm⟩ := State.warmLoad_form (s.clocksOff.stateTo .anneal .lastStopped)
      (BitVec.ofNat 16 (maskOf (s.clocksOff.stateTo .anneal .lastStopped).warmable))
    have run : s.evLastStopped = { s.clocksOff.stateTo .anneal .lastStopped with thm := y } := by
      rw [State.evLastStopped, if_pos ⟨hs, by simp [ht], by simp [hw], idle⟩]
      exact warm
    have mult (i : Nat) (hi : i < 16) := s.clocksOff_mult hi
    rw [h] at run
    rw [hm] at run mult
    exact ⟨_, effect_of rfl run, rfl, rfl, rfl, rfl, mult⟩
  case live =>
    refine effect_of rfl (if_neg ?_)
    rintro ⟨-, -, -, h⟩
    exact h (List.any_eq_true.2 ⟨p, hp, by simp [hl]⟩)
  case noLast =>
    refine effect_of rfl (if_neg ?_)
    grind
  case nack =>
    have since : s.sinceNack = none := by simp [State.sinceNack, hn]
    have deaf : s.mgmtHears = false := by simp [State.mgmtHears, since]
    obtain ⟨c, p, o, h⟩ := (s.emit (.bus "MGMT address NACK" [])).wakeHandler_form 0x0A
    have sent : (s.emit (.bus "MGMT address NACK" [])).out <:+ ((s.emit (.bus "MGMT address NACK" [])).wakeHandler 0x0A).out :=
      State.wakeHandler_sent ..
    rw [h] at sent
    have run : s.evMgmtMatch = { s with
        dev := { s.dev with wakeSrc := 0x0A }, cal := c, damem := { s.damem with page := p, nackAt := some s.now }, out := o } := by
      rw [State.evMgmtMatch, if_pos ⟨State.asleep_eq_true.2 ⟨hs, ht⟩, by simp [deaf]⟩, State.mgmtNack]
      rw [if_neg (by simp [since]), State.wakeBy_stay, h]
      rfl
    exact ⟨_, effect_of rfl run, rfl, rfl, sent.subset List.mem_cons_self, rfl⟩
  case hears =>
    exact effect_of rfl (if_neg fun k => k.2 h)
  case awake =>
    refine effect_of rfl (if_neg ?_)
    rw [State.asleep_eq_true]
    grind
  case alarm =>
    refine effect_of rfl ((if_pos ha).trans (if_neg ?_))
    rw [State.asleep_eq_true]
    rintro ⟨h1, h2, h3⟩
    rcases h with h | h | h
    · exact Bool.false_ne_true (h.symm.trans h1)
    · exact h h2
    · exact Bool.false_ne_true (h3.symm.trans h)
  case alarmWakes =>
    obtain ⟨c, p, o, h⟩ := s.alarmFired.wakeHandler_form 0x09
    have run : s.alarmDue = s.alarmFired.wakeHandler 0x09 :=
      (if_pos ha).trans ((if_pos ⟨hw, State.asleep_eq_true.2 ⟨hs, ht⟩⟩).trans (State.wakeBy_stay _ _))
    exact ⟨_, effect_of rfl (run.trans h), rfl, rfl⟩
  case noAlarm => exact effect_of rfl (State.alarmDue_of_not_reached h)

end Sys2Proof.Machine
end

section
/-! SUPPORT. Writes to registers of the mailbox pages, the seal, the alarm and the MSI-X tables (O19). -/
namespace Sys2Proof.Machine

variable (s : State)

/-! ### The mailbox page's own writes (05 R196, R219) -/

section
variable {s}

theorem State.onPage_of_up {m : Nat} (h : s.mbxUp m = true) (f : MbxPage → MbxPage) : s.onPage m f = s.updPage m f := if_pos h
theorem State.onPage_of_down {m : Nat} (h : s.mbxUp m = false) (f : MbxPage → MbxPage) : s.onPage m f = s := if_neg (by simp [h])

/-- While a POST waits, the window and POST take no write. -/
theorem State.pageWrite_busy {m off : Nat} (h : (s.pageAt m).reqBusy = true) (ho : off = 0 ∨ (0x100 ≤ off ∧ off < 0x500)) (v : Reg32)
    (be : Nat) : s.pageWrite m off v be = s := if_pos ⟨h, ho⟩

/-- A write of POST raises REQ_BUSY. -/
theorem State.pageWrite_post {m : Nat} (h : (s.pageAt m).reqBusy = false) {v : Reg32} (hv : v.getLsbD 0 = true) :
    s.pageWrite m 0 v 15 = s.updPage m fun pg => { pg with reqBusy := true } := by
  simp [State.pageWrite, h, bitOf_toNat, hv]

/-- The window takes the bytes that are enabled. -/
theorem State.pageWrite_window {m off : Nat} (h : (s.pageAt m).reqBusy = false) (h1 : 0x100 ≤ off) (h2 : off < 0x500) (v : Reg32) (be : Nat) :
    s.pageWrite m off v be = s.updPage m fun pg => { pg with window := putBytes pg.window (off - 0x100) v.toNat be } := by
  have h0 : off ≠ 0 := by omega
  have h3 : off ≠ 0x10 := by omega
  simp [State.pageWrite, h, h0, h1, h2, h3]

end

/-! ### The MSI-X tables (21 R803) -/

theorem State.bar4Write_form (fn : Nat) {off : Nat} (v : Nat) (ha : off % 4 = 0) (hs : off < 16 * msixSize fn) :
    ∃ l, s.bar4Write fn off v = { s with sriov := { s.sriov with msix := l } } ∧
      ∀ g o, o % 4 = 0 → ((l.find? fun x => x.1 == g && x.2.1 == o / 4).map (·.2.2)).getD 0 =
        if g = fn ∧ o = off then v else s.bar4Word g o := by
  let others := s.sriov.msix.filter fun x => !(x.1 == fn && x.2.1 == off / 4)
  refine ⟨if v = 0 then others else (fn, off / 4, v) :: others, if_pos ⟨ha, hs⟩, fun g o ho => ?_⟩
  by_cases same : g = fn ∧ o = off
  · obtain ⟨rfl, rfl⟩ := same
    have gone : (others.find? fun x => x.1 == g && x.2.1 == o / 4) = none := by
      rw [List.find?_eq_none]
      intro x hx
      have other := (List.mem_filter.1 hx).2
      grind
    rw [if_pos (c := g = g ∧ o = o) ⟨rfl, rfl⟩]
    by_cases h : v = 0
    · rw [if_pos h, gone, h]; rfl
    · rw [if_neg h]; simp
  · have differ : ¬ (fn = g ∧ off / 4 = o / 4) := by omega
    have kept : (others.find? fun x => x.1 == g && x.2.1 == o / 4) = s.sriov.msix.find? fun x => x.1 == g && x.2.1 == o / 4 := by
      rw [List.find?_filter]
      congr 1
      funext x
      grind
    rw [if_neg same, State.bar4Word, ← kept]
    by_cases h : v = 0
    · rw [if_pos h]
    · rw [if_neg h, List.find?_cons_of_neg (by simpa using differ)]

/-- A place of a table whose entries are each mapped with their index. -/
theorem Table.at_mapIdx {α β : Type} {n : Nat} (t : Vector α n) {i : Nat} (h : i < n) (f : Nat → α → β) (d : α) (e : β) :
    Table.at (t.mapIdx f) i e = f i (Table.at t i d) := by
  simp [Table.at, h]

/-- Settles O19: each register's write is its own event's branch; the window, POST and MSI-X words by the lemmas above. -/
theorem registersTakeTheirWrites : Obligations.RegistersTakeTheirWrites := by
  refine ⟨⟨fun s v hr hv hb => ?post, fun s m off v be hm hr hu ha h1 h2 hb => ?window, fun s off v be hb ho => ?busy,
      fun s fn sel v be hr => ?notReady, fun s fn off v hr hu ha hs => ?msix⟩,
    ⟨fun s m v hm hu => ?resp, fun s m hm hu => ?ack, fun s m ci hm hu hl => ?ci, fun s m v hm hu => ?intCfg, fun s m v ci hm hu => ?down⟩,
    fun s v hr hs => ?sealWrite, fun s v hr hs => ?pwr, fun s off v hr hs ho => ?sealed, fun s fn off v hf => ?notPf0, fun s v hr => ?alarmS,
    fun s v hr => ?alarmCtl, fun s hr => ?fired⟩
  case post =>
    rw [← State.pageWrite_post hb hv]
    exact effect_regWrite_page (pageOf_pf0 (by decide) (by decide)) rfl hr (State.mbxUp_pf0 hr)
  case window =>
    have at_ : (0x100000 + off) % 0x1000 = off := by omega
    have written := effect_regWrite_page (v := v) (be := be) (pageOf_vf m (Nat.le_add_right 0x100000 off) (by omega)) (by omega) hr
      (State.mbxUp_of_vfUp hr hu)
    rwa [at_, State.pageWrite_window hb h1 h2] at written
  case busy =>
    refine effect_of rfl ?_
    by_cases hr : s.supply.endpoint = .ready
    · by_cases ha : (0x110000 + off) % 4 = 0
      · rw [State.evRegWrite_page (pageOf_pf0 (by omega) (by omega)) ha hr (State.mbxUp_pf0 hr), show (0x110000 + off) % 0x1000 = off by omega,
          State.pageWrite_busy hb ho]
      · exact (if_neg (by simp [hr])).trans (if_pos ha)
    · exact if_pos hr
  case notReady => exact effect_of rfl (if_pos hr)
  case msix =>
    obtain ⟨l, h, word⟩ := s.bar4Write_form fn v.toNat ha hs
    have run : s.evRegWrite fn (.bar4 off) v 15 = s.bar4Write fn off v.toNat := (if_neg (by simp [hr])).trans (if_pos ⟨rfl, hu⟩)
    refine ⟨_, effect_of rfl (run.trans h), rfl, (word fn off ha).trans (if_pos ⟨rfl, rfl⟩), fun g o ho hn => (word g o ho).trans (if_neg ?_),
      effect_of rfl ?_⟩
    · rintro ⟨rfl, rfl⟩
      simp at hn
    · have readable : ¬ (s.supply.endpoint ≠ .ready ∨ (fn ≠ 0 ∧ ¬ s.vfUp fn = true)) := by grind
      refine (if_neg readable).trans ?_
      rw [Nat.div_mul_cancel (Nat.dvd_of_mod_eq_zero ha)]
      exact congrArg (fun w => State.emit _ (.readBar4 fn off w)) ((word fn off ha).trans (if_pos ⟨rfl, rfl⟩))
  case resp =>
    let f (pg : MbxPage) : MbxPage := { pg with
      respValid := pg.respValid.mapIdx fun n b => b && !(bitOf v.toNat (8 + n) && Table.at pg.respValid n false)
      outstanding := pg.outstanding.mapIdx fun n b => b && !(bitOf v.toNat (8 + n) && Table.at pg.respValid n false)
      ack := pg.ack && !bitOf v.toNat 0 }
    have page : (s.updPage m f).pageAt m = f (s.pageAt m) := State.pageAt_updPage_same s hm f
    refine ⟨_, effect_of (State.onUnit_of_lt hm) (State.onPage_of_up hu f), rfl,
      fun k hk => State.pageAt_updPage_other s (Ne.symm hk) f, ?_, fun n hn => ⟨?_, ?_⟩⟩
    · rw [page, ← bitOf_toNat]
    · rw [page, Table.at_mapIdx _ hn _ false, bitOf_toNat]
      cases Table.at (s.pageAt m).respValid n false <;> simp
    · rw [page, Table.at_mapIdx _ hn _ false, bitOf_toNat, Bool.and_comm (v.getLsbD _)]
  case ack => exact effect_of (State.onUnit_of_lt hm) (State.onPage_of_up hu _)
  case ci =>
    refine effect_of (State.onUnit_of_lt hm) ((if_pos hu).trans (if_neg ?_))
    rw [State.pageAt_updPage_same s hm]
    simp [hl]
  case intCfg =>
    have size : msixSize (mbxFn m) = if m = 16 then 128 else 120 := by
      unfold msixSize mbxFn
      split <;> simp
    have vec : bitsOf v.toNat 10 0 = v.toNat % 2048 := by simp [bitsOf]
    have set : s.evIntCfg m v = (let w := s.updPage m fun pg =>
        { pg with ackIe := v.getLsbD 31, respIe := v.getLsbD 30, noticeIe := v.getLsbD 29, vec := v.toNat % 2048 }
        if s.mbxUp m ∧ (if m = 16 then 128 else 120) ≤ v.toNat % 2048 then w.log 0x2009 (param [(2, v.toNat % 2048)]) else w) := by
      simp only [State.evIntCfg, State.onPage_of_up hu, size, vec, bitOf_toNat]
    exact ⟨fun h => effect_of (State.onUnit_of_lt hm) (set.trans (if_neg fun k => Nat.not_le.2 h k.2)),
      fun h => effect_of (State.onUnit_of_lt hm) (set.trans (if_pos ⟨hu, h⟩))⟩
  case down =>
    have cfg : s.evIntCfg m v = s := (if_neg fun k => by simp [hu] at k).trans (State.onPage_of_down hu _)
    exact ⟨effect_of (State.onUnit_of_lt hm) (State.onPage_of_down hu _), effect_of (State.onUnit_of_lt hm) (State.onPage_of_down hu _),
      effect_of (State.onUnit_of_lt hm) (if_neg (by simp [hu])), effect_of (State.onUnit_of_lt hm) cfg⟩
  case sealWrite => exact effect_of rfl ((State.pf0Write_of_ready hr _).trans (if_pos hs))
  case pwr => exact effect_of rfl ((State.pf0Write_of_ready hr _).trans (if_pos ⟨rfl, rfl, hs⟩))
  case sealed =>
    have offset : sealedOffset (0x1000000 + off) = some off ∧ (0x1000000 + off) % 4 = 0 := by
      simp only [List.mem_cons, List.not_mem_nil, or_false] at ho
      rcases ho with rfl | rfl | rfl | rfl | rfl | rfl | rfl | rfl <;> exact ⟨rfl, rfl⟩
    refine effect_of rfl ((State.pf0Write_of_ready hr _).trans ?_)
    rw [offset.1]
    exact if_pos ⟨rfl, offset.2, hs⟩
  case notPf0 =>
    refine effect_of rfl (State.ite_keeps id ?_ rfl)
    dsimp only [id]
    split
    · exact if_neg fun h => hf h.1
    · rfl
  case alarmS =>
    refine effect_of rfl ((State.pf0Write_of_ready hr _).trans ?_)
    rw [State.evAlarmS, Nat.mod_eq_of_lt v.isLt]
  case alarmCtl =>
    refine effect_of rfl ((State.pf0Write_of_ready hr _).trans ?_)
    have frac : bitsOf v.toNat 31 16 = v.toNat / 65536 := by
      have := v.isLt
      unfold bitsOf
      omega
    simp only [State.evAlarmCtl, bitOf_toNat, frac]
  case fired => exact effect_of rfl (State.pf0Write_of_ready hr _)

end Sys2Proof.Machine
end

section
/-! SUPPORT. Function level resets, SR-IOV control and Bus Master Enable (O20). -/
namespace Sys2Proof.Machine

variable (s : State)

/-- The state as VF Enable and NumVFs are written, before the partitions that lose their function stop. -/
def State.vfsSet (s : State) (en : Bool) (n : Nat) : State :=
  { s with sriov := { s.sriov with vfEnable := en, numVfs := n, msix := s.sriov.msix.filter fun x => x.1 == 0 || (en && x.1 ≤ n) } }

/-- A change of VF Enable and NumVFs under which no function leaves stops no partition. -/
theorem State.vfsTo_of_none_leaves {en : Bool} {n : Nat}
    (h : ∀ p, s.sriov.vfEnable = true → p + 1 ≤ s.sriov.numVfs → en = true ∧ p + 1 ≤ n) : s.vfsTo en n = s.vfsSet en n := by
  have none : ((List.range 16).filter fun p => (s.sriov.vfEnable && decide (p + 1 ≤ s.sriov.numVfs)) && !(en && decide (p + 1 ≤ n))) = [] := by
    rw [List.filter_eq_nil_iff]
    intro p _
    have := h p
    grind
  unfold State.vfsTo
  dsimp only
  rw [none]
  rfl

/-- Partitions stop with the functions gone; what they are is no matter of the functions. -/
theorem State.vfsTo_sriov (en : Bool) (n : Nat) : (s.vfsTo en n).sriov = (s.vfsSet en n).sriov :=
  State.foldl_keeps State.sriov (fun (t : State) p => State.sriov_of_chassis (t.outsideStop_chassis p .flr true)) _ _

/-- With one function the one partition that loses it stops. -/
theorem State.vfsTo_of_first_leaves (he : s.sriov.vfEnable = true) (hn : s.sriov.numVfs = 1) :
    s.vfsTo false s.sriov.numVfs = (s.vfsSet false s.sriov.numVfs).outsideStop 0 .flr true := by
  have first : ((List.range 16).filter fun p => (s.sriov.vfEnable && decide (p + 1 ≤ s.sriov.numVfs)) &&
      !(false && decide (p + 1 ≤ s.sriov.numVfs))) = [0] := by
    rw [he, hn]
    decide
  unfold State.vfsTo
  dsimp only
  rw [first]
  rfl

/-- Entries of tables whose functions all stay are all kept. -/
theorem State.vfsSet_same (h : ∀ x ∈ s.sriov.msix, x.1 = 0 ∨ (s.sriov.vfEnable = true ∧ x.1 ≤ s.sriov.numVfs)) :
    s.vfsSet s.sriov.vfEnable s.sriov.numVfs = s := by
  have all : (s.sriov.msix.filter fun x => x.1 == 0 || (s.sriov.vfEnable && x.1 ≤ s.sriov.numVfs)) = s.sriov.msix := by
    rw [List.filter_eq_self]
    intro x hx
    have := h x hx
    grind
  rw [State.vfsSet, all]

/-- With VF Enable clear only PF0's table stays. -/
theorem State.vfsSet_clear : s.vfsSet false s.sriov.numVfs = { s with
    sriov := { s.sriov with vfEnable := false, msix := s.sriov.msix.filter fun x => x.1 == 0 } } := by
  simp [State.vfsSet]

theorem State.evBmDisable_unpartitioned {vf : Nat} (hu : s.vfUp vf = true) (hb : (s.partAt (vf - 1)).busMaster = true)
    (h16 : vf - 1 < 16) (hs : (s.partAt (vf - 1)).state = .none) :
    s.evBmDisable vf = (s.updPart (vf - 1) fun x => { x with busMaster := false }).ringsRefresh (vf - 1) := by
  have state : (((s.updPart (vf - 1) fun x => { x with busMaster := false }).ringsRefresh (vf - 1)).partAt (vf - 1)).state = .none := by
    rw [State.partAt, State.ringsRefresh_part]
    exact (congrArg Part.state (State.partAt_updPart_same s h16 _)).trans hs
  exact (if_neg (by simp [hu, hb])).trans (if_pos state)

/-- A function whose table is cleared reads 0 there, and every other reads as before. -/
theorem State.bar4Word_bar4Clear (fn g off : Nat) : (s.bar4Clear fn).bar4Word g off = if g = fn then 0 else s.bar4Word g off := by
  by_cases e : g = fn
  · have none : ((s.bar4Clear fn).sriov.msix.find? fun x => x.1 == g && x.2.1 == off / 4) = none := by
      rw [List.find?_eq_none]
      intro x hx
      have other := (List.mem_filter.1 hx).2
      grind
    rw [State.bar4Word, none, if_pos e]
    rfl
  · have kept : ((s.bar4Clear fn).sriov.msix.find? fun x => x.1 == g && x.2.1 == off / 4) =
        s.sriov.msix.find? fun x => x.1 == g && x.2.1 == off / 4 := by
      rw [State.bar4Clear, List.find?_filter]
      congr 1
      funext x
      grind
    rw [State.bar4Word, kept, if_neg e]
    rfl

/-- Settles O20: a reset of PF0 writes page 16, the journal and its table alone; SR-IOV control stops whom it takes the function from. -/
theorem functionsResetAndLeave : Obligations.FunctionsResetAndLeave := by
  refine ⟨fun s hr => ?flrPf0, fun s vf h1 h2 hu => ?flrVf, fun s vf h1 h2 hu => ?noVf, fun s hr he => ?cleared, fun s hr he hn => ?clear,
    fun s n hr h0 hn hx => ?lowered, fun s n hr => ?notReady, fun s fn be v hr => ?write, fun s en n => s.vfsTo_sriov en n,
    fun s fn vf be v hr h1 h2 => ?bmWrite, fun s vf h1 h2 hu hb hs => ?bmOff, fun s vf h1 h2 hu hx => ?bmOn⟩
  case flrPf0 =>
    have run : s.evFlrPf0 = (s.flrPage 16).bar4Clear 0 := if_pos hr
    refine ⟨_, effect_of rfl run, rfl, ?_, fun m hm => ?_, fun f hf hp => ?_, fun off => ?_, fun fn off hf => ?_⟩
    · exact State.pageAt_updPage_same _ (by decide) _
    · exact State.pageAt_updPage_other _ (Ne.symm hm) _
    · obtain ⟨g, -, rfl⟩ := List.mem_map.1 hf
      cases hq : g.req.path with
      | mctp => simp [hq] at hp
      | mbx k =>
        simp only [hq] at hp ⊢
        split
        · rfl
        · case isFalse h => simp_all
    · exact (State.bar4Word_bar4Clear _ 0 0 off).trans (if_pos rfl)
    · exact (State.bar4Word_bar4Clear _ 0 fn off).trans (if_neg hf)
  case flrVf => exact effect_of (State.onVf_of_le h1 h2) (if_neg (by simp [hu]))
  case noVf =>
    exact ⟨effect_of (State.onVf_of_le h1 h2) (if_pos (by simp [hu])), effect_of (State.onVf_of_le h1 h2) (if_pos (.inl (by simp [hu]))),
      effect_of (State.onVf_of_le h1 h2) (if_pos (by simp [hu]))⟩
  case cleared =>
    refine effect_of rfl ((if_neg (by simp [hr])).trans ((if_pos rfl).trans ?_))
    rw [State.vfsTo_of_none_leaves s (by simp [he]), State.vfsSet_clear]
  case clear =>
    refine effect_of rfl ((if_neg (by simp [hr])).trans ((if_pos rfl).trans ?_))
    rw [s.vfsTo_of_first_leaves he hn, State.vfsSet_clear]
  case lowered =>
    refine effect_of rfl ((if_neg (by simp [hr])).trans ((if_neg (Nat.ne_of_gt h0)).trans ?_))
    rw [Nat.min_eq_right hn, State.vfsTo_of_none_leaves s (fun p he hp => ⟨he, hp⟩), s.vfsSet_same hx]
  case notReady => exact ⟨effect_of rfl (if_pos hr), effect_of rfl (if_neg hr)⟩
  case write =>
    rw [← bitOf_toNat]
    exact ⟨effect_of rfl (if_neg (by simp [hr])), effect_of rfl (if_neg (by simp [hr]))⟩
  case bmWrite =>
    have run : s.evRegWrite fn (.busMaster vf) v be = if v.getLsbD 0 then s.evBmEnable vf else s.evBmDisable vf := by
      rw [← bitOf_toNat]
      exact if_neg (by simp [hr])
    refine (congrArg s.finish run).trans ?_
    split
    · exact (State.onVf_of_le h1 h2).symm
    · exact (State.onVf_of_le h1 h2).symm
  case bmOff => exact effect_of (State.onVf_of_le h1 h2) (s.evBmDisable_unpartitioned hu hb (by omega) hs)
  case bmOn =>
    refine effect_of (State.onVf_of_le h1 h2) ((if_neg (by simp [hu])).trans ?_)
    rw [hx]
    rfl

end Sys2Proof.Machine
end

section
/-! SUPPORT. Damem requests on their way through 05 Table 05-6 (O21-O23): acknowledged or turned away, examined, contended for, and
answered. -/
namespace Sys2Proof.Machine

/-! ### Arrival (05 R193, R196, R197, R230) -/

section
variable {s : State} {c : Nat} {r : Req}

theorem State.evDamem_mbx {m : Fin 17} (h : r.path = .mbx m) : s.evDamem c r = s.post m.val c r := by
  rw [State.evDamem, h]

theorem State.evDamem_mctp (h : r.path = .mctp) : s.evDamem c r = s.mctpRequest c r := by
  rw [State.evDamem, h]

/-- A POST that its mailbox takes is processed in the state that has received it. -/
theorem State.post_of_free {m : Fin 17} (hp : r.path = .mbx m) (hu : s.mbxUp m.val = true) (hb : (s.pageAt m.val).reqBusy = false) :
    s.post m.val c r = (s.received c r).process m.val c r := by
  rw [State.post, if_neg (by simp [hu, hb]), State.received, hp]

/-- A header is judged on what the window's arrival leaves alone. -/
theorem State.headOk_received : (s.received c r).headOk r = s.headOk r := by
  cases hp : r.path with
  | mctp => simp only [State.received, hp]
  | mbx m =>
    have out : ((s.updPage m.val fun pg => { pg with window := r.windowBytes c }).pageAt m.val).outstanding = (s.pageAt m.val).outstanding := by
      rw [State.pageAt_updPage_same s m.isLt]
    simp only [State.received, State.headOk, hp, out]

/-- A rejected request is acknowledged so, and enters no journal. -/
theorem State.process_rejected {m : Nat} (h : (s.ackStatus c r).1 ≠ .ok) : s.process m c r =
    (s.ackStatus c r).2.2.acknowledge m r.tag (s.ackStatus c r).1 (s.ackStatus c r).2.1 := if_neg h

theorem State.ackStatus_badHead (h : s.headOk r = false) : s.ackStatus c r = (.badArg, 0, s) := if_pos (by simp [h])

theorem State.ackStatus_booting (h : s.headOk r = true) (hb : s.boot.complete = false) (hm : s.heldMode = false)
    (hr : s.recovering = false) : s.ackStatus c r = (.busyBooting, 1 + Config.free 40 s.freeCtr % 100, { s with freeCtr := s.freeCtr + 1 }) :=
  (if_neg (by simp [h])).trans (if_pos (by simp [hb, hm, hr]))

theorem State.ackStatus_restarting (h : s.headOk r = true) (hb : s.boot.complete = true) (hf : s.fwAbsent = true) :
    s.ackStatus c r = (.fwRestarting, s.resumeHint, s) :=
  (if_neg (by simp [h])).trans ((if_neg (by simp [hb])).trans (if_pos hf))

end

/-! ### Examination (05 R200) -/

section
variable {a : State} {f : InFlight}

theorem State.examine_unknown (h : opcodeRow f.opcode = none) : a.examine f = a.answer f .badOpcode 0 := if_pos (by simp [h])

theorem State.examine_held (hk : (opcodeRow f.opcode).isSome = true) (h : a.heldMode = true) (hr : recoverySet f.opcode = false) :
    a.examine f = a.answer f .held 0 :=
  (if_neg (by simp [Option.isSome_iff_ne_none.1 hk])).trans (if_pos ⟨h, by simp [hr]⟩)

/-- A known opcode that the mode serves and whose path owns what it names is judged by its fields, then by the envelope, and then contended
for, STATE_SET in its own order. -/
theorem State.examine_owned (hk : (opcodeRow f.opcode).isSome = true) (h : a.heldMode = true → recoverySet f.opcode = true)
    (ho : a.owns f.opcode f.req = true) : a.examine f = (match a.argFault f with
      | some d => a.answer f .badArg d
      | none => match a.beyondEnvelope f with
        | some d => (a.denied f).answer f .deniedEnvelope d
        | none => if f.opcode = 0x0101 then (a.stateJudge f).getD (a.contend f) else a.contend f) := by
  have served : ¬ (a.heldMode = true ∧ ¬ recoverySet f.opcode = true) := fun k => k.2 (h k.1)
  rw [State.examine, if_neg (by simp [Option.isSome_iff_ne_none.1 hk]), if_neg served, if_neg (by simp [ho])] <;> rfl

theorem State.examine_notOwner (hk : (opcodeRow f.opcode).isSome = true) (h : a.heldMode = false) (ho : a.owns f.opcode f.req = false) :
    a.examine f = a.answer f .notOwner 0 := by
  rw [State.examine, if_neg (by simp [Option.isSome_iff_ne_none.1 hk]), if_neg (by simp [h]), if_pos (by simp [ho])]

theorem State.contend_refused (h : a.partRefuses f.opcode f.req = true) : a.contend f = a.answer f .precond 0xFFFF := if_pos h

/-- What is not refused, and is no PART_START with nothing to do, is answered BUSY for another path's holder, waits for one on its own path,
or acts. -/
theorem State.contend_of_allowed (h : a.partRefuses f.opcode f.req = false)
    (hs : f.opcode = 0x0204 → (a.partAt (f.req.f 0 1)).state ≠ .starting ∧ (a.partAt (f.req.f 0 1)).state ≠ .started) : a.contend f =
      (match (if flashOpcode f.opcode f.req then a.dirWriter else none).or ((a.blockers f).find? fun g => g.req.path != f.req.path) with
        | some g => a.answer f .busy 0 [] none (a.busyHint g)
        | none => if (a.blockers f).isEmpty then a.perform f else a) := by
  have nothing : ¬ (f.opcode = 0x0204 ∧ ((a.partAt (f.req.f 0 1)).state = .starting ∨ (a.partAt (f.req.f 0 1)).state = .started)) := by
    rintro ⟨h1, h2⟩
    have := hs h1
    exact h2.elim this.1 this.2
  rw [State.contend, if_neg (by simp [h]), if_neg nothing] <;> rfl

/-- No writer of the directory stands in a request's way. -/
theorem dirWriter_if_none {b : Bool} {o : Option InFlight} (h : b = true → o = none) : (if b then o else none) = none := by
  split
  · case isTrue k => exact h k
  · rfl

/-- Nothing in its way, a request performs. -/
theorem State.contend_free (h : a.partRefuses f.opcode f.req = false)
    (hs : f.opcode = 0x0204 → (a.partAt (f.req.f 0 1)).state ≠ .starting ∧ (a.partAt (f.req.f 0 1)).state ≠ .started)
    (hd : flashOpcode f.opcode f.req = true → a.dirWriter = none) (hb : a.blockers f = []) : a.contend f = a.perform f := by
  rw [State.contend_of_allowed h hs, dirWriter_if_none hd, hb]
  rfl

end

/-! ### Accepted, judged and served requests -/

section
variable {s : State} {c : Nat} {r : Req}

theorem State.accepted_partAt (p : Nat) : (s.accepted c r).partAt p = s.partAt p := by
  obtain ⟨_, _, e⟩ := s.accepted_form c r
  rw [e]; rfl

/-- What is made of neither the mailboxes and the journal nor what is sent, an accepted request leaves alone. -/
theorem State.of_accepted {β : Type} (view : State → β) (keep : ∀ d o, view { s with damem := d, out := o } = view s) (c : Nat) :
    view (s.accepted c r) = view s := by
  obtain ⟨_, _, e⟩ := s.accepted_form c r
  rw [e]
  exact keep _ _

/-- A judged request is contended for, STATE_SET after its own order. -/
theorem Judged.evDamem (h : Judged s c r) : s.evDamem c r =
    if c = 0x0101 then ((s.accepted c r).stateJudge (s.entryOf c r false)).getD ((s.accepted c r).contend (s.entryOf c r false))
    else (s.accepted c r).contend (s.entryOf c r false) := by
  obtain ⟨acc, known, held, owns, arg, env⟩ := h
  rw [State.evDamem_of_accepted acc, State.examine_owned known held owns, arg]
  dsimp only
  rw [env]
  rfl

/-- A served request performs. -/
theorem Served.evDamem (h : Served s c r) : s.evDamem c r = (s.accepted c r).perform (s.entryOf c r false) := by
  obtain ⟨judged, allowed, starts, dir, free, state⟩ := h
  have acts : (s.accepted c r).contend (s.entryOf c r false) = (s.accepted c r).perform (s.entryOf c r false) :=
    State.contend_free allowed (fun h => by rw [State.accepted_partAt]; exact starts h) dir free
  rw [judged.evDamem]
  split
  · case isTrue h => rw [state h, acts]; rfl
  · exact acts

/-- The effect of a row whose request is served. -/
theorem effect_of_served {p : Nat × (Req → Instr)} (hp : p ∈ damemRows) (h : Served s p.1 r) {u : State}
    (e : (s.accepted p.1 r).perform (s.entryOf p.1 r false) = u) : Effect (p.2 r) s u :=
  effect_of (exec_damemRow s r p hp).1 (h.evDamem.trans e)

end

/-- Settles O21: a request that passes every step performs, in the state that has accepted it. -/
theorem requestsThatPassEveryStepAct : Obligations.RequestsThatPassEveryStepAct := fun _ hp _ _ h => effect_of_served hp h rfl

/-- Settles O22: each clause is one way out of the checks, in their order. -/
theorem requestsStopAtTheFirstFailure : Obligations.RequestsStopAtTheFirstFailure := by
  have run (p : Nat × (Req → Instr)) (hp : p ∈ damemRows) (s : State) (r : Req) {u : State} (e : s.evDamem p.1 r = u) : Effect (p.2 r) s u :=
    effect_of (exec_damemRow s r p hp).1 e
  have rejected (p : Nat × (Req → Instr)) (hp : p ∈ damemRows) (s : State) (r : Req) (m : Fin 17) (h : r.path = .mbx m)
      (hu : s.mbxUp m.val = true) (hb : (s.pageAt m.val).reqBusy = false) {st : Status} {hint : Nat} {t : State}
      (ha : (s.received p.1 r).ackStatus p.1 r = (st, hint, t)) (hn : st ≠ .ok) : Effect (p.2 r) s (t.acknowledge m.val r.tag st hint) := by
    refine run p hp s r ((State.evDamem_mbx h).trans ((State.post_of_free h hu hb).trans ?_))
    rw [State.process_rejected (by rw [ha]; exact hn), ha]
  refine ⟨fun p hp s r m h hd => ?ignored, fun p hp s r h hd => ?unreached, fun p hp s r h hu hv hm => ?noService,
    fun p hp s r h hu hv hm ha hh => ?asleep, fun p hp s r m h hu hb hh => ?badHead, fun p hp s r m h hu hb hh h1 h2 h3 => ?booting,
    fun p hp s r m h hu hb hh h1 h2 => ?restarting, fun s r c ha hn => ?unknown, fun p hp s r ha => ?examined, fun s f => ?denied⟩
  case ignored => exact run p hp s r ((State.evDamem_mbx h).trans (if_pos (by simpa using hd)))
  case unreached => exact run p hp s r ((State.evDamem_mctp h).trans (if_pos (by simpa using hd)))
  case noService => exact run p hp s r ((State.evDamem_mctp h).trans ((if_neg (by simp [hu, hv])).trans (if_pos (by simp [hm]))))
  case asleep =>
    exact run p hp s r ((State.evDamem_mctp h).trans ((if_neg (by simp [hu, hv])).trans ((if_neg (by simp [hm])).trans
      ((if_neg (by simp [ha])).trans (if_pos (by simp [hh]))))))
  case badHead => exact rejected p hp s r m h hu hb (State.ackStatus_badHead (State.headOk_received.trans hh)) nofun
  case booting =>
    have same : ∀ t : State, t = s.received p.1 r → t.boot = s.boot ∧ t.heldMode = s.heldMode ∧ t.recovering = s.recovering ∧
        t.freeCtr = s.freeCtr := by
      rintro t rfl
      rw [State.received, h]
      exact ⟨rfl, rfl, rfl, rfl⟩
    obtain ⟨boot, held, rec_, ctr⟩ := same _ rfl
    have ack := State.ackStatus_booting (s := s.received p.1 r) (c := p.1) (State.headOk_received.trans hh) (by rw [boot, h1]) (held.trans h2)
      (rec_.trans h3)
    rw [ctr] at ack
    exact ⟨_, Nat.le_add_right 1 _, by omega, rejected p hp s r m h hu hb ack nofun⟩
  case restarting =>
    have same : (s.received p.1 r).boot = s.boot ∧ (s.received p.1 r).fwAbsent = s.fwAbsent ∧ (s.received p.1 r).resumeHint = s.resumeHint := by
      rw [State.received, h]
      exact ⟨rfl, rfl, rfl⟩
    obtain ⟨boot, absent, hint⟩ := same
    rw [← hint]
    exact rejected p hp s r m h hu hb (State.ackStatus_restarting (State.headOk_received.trans hh) (by rw [boot, h1]) (absent.trans h2)) nofun
  case unknown => exact effect_of rfl ((State.evDamem_of_accepted ha).trans (State.examine_unknown hn))
  case examined =>
    have known := (exec_damemRow s r p hp).2
    have exam {u : State} (e : (s.accepted p.1 r).examine (s.entryOf p.1 r false) = u) : Effect (p.2 r) s u :=
      run p hp s r ((State.evDamem_of_accepted ha).trans e)
    have owned (hm : (s.accepted p.1 r).heldMode = false) (ho : (s.accepted p.1 r).owns p.1 r = true) :=
      State.examine_owned (a := s.accepted p.1 r) (f := s.entryOf p.1 r false) known (fun k => by simp [hm] at k) ho
    refine ⟨fun hm hr => exam (State.examine_held known hm hr), fun hm ho => exam (State.examine_notOwner known hm ho),
      fun d hm ho hd => exam ((owned hm ho).trans ?_), fun d hm ho hd he => exam ((owned hm ho).trans ?_),
      fun hm ho hd he hp => exam ((owned hm ho).trans ?_)⟩
    · rw [hd]
    · rw [hd]
      dsimp only
      rw [he]
    · rw [hd]
      dsimp only
      rw [he]
      have refused := State.contend_refused (a := s.accepted p.1 r) (f := s.entryOf p.1 r false) hp
      dsimp only
      split
      · case isTrue h =>
        have no : (s.accepted p.1 r).partRefuses p.1 r = false := by rw [show p.1 = 0x0101 from h]; rfl
        exact absurd (no.symm.trans hp) Bool.false_ne_true
      · exact refused
  case denied =>
    exact ⟨fun h => if_neg h, fun h he => (if_pos h).trans (if_neg (by simp [he])), fun h hg => (if_pos h).trans (if_pos hg)⟩

end Sys2Proof.Machine
end

section
/-! SUPPORT. Answers in the slots of their tags, and held resources (O23). -/
namespace Sys2Proof.Machine

section
variable {s : State} {f : InFlight} {m : Fin 17}

/-- An answer to a mailbox over a ready endpoint is put into its slot, and the journal lets go of the request. -/
theorem State.answer_slot (hf : s.fwAbsent = false) (he : s.supply.endpoint = .ready) (hp : f.req.path = .mbx m) (hd : f.drop = false)
    (st : Status) (d hint : Nat) (pl : List Byte) : ∃ o, s.answer f st d pl none hint =
      { (({ s with damem := { s.damem with inflight := s.damem.inflight.erase f } } : State).updPage m.val fun pg =>
          { pg with slots := Table.put pg.slots f.req.tag (some (f.resp st d pl none hint))
                    respValid := Table.put pg.respValid f.req.tag true }) with out := o } := by
  let t : State := { s with damem := { s.damem with inflight := s.damem.inflight.erase f } }
  let u := t.updPage m.val fun pg =>
    { pg with slots := Table.put pg.slots f.req.tag (some (f.resp st d pl none hint)), respValid := Table.put pg.respValid f.req.tag true }
  obtain ⟨o, h⟩ := State.raiseMsix_form u (mbxFn m) (u.pageAt m.val).vec
  have put : s.answer f st d pl none hint = if (u.pageAt m.val).respIe then u.raiseMsix (mbxFn m) (u.pageAt m.val).vec else u := by
    rw [State.answer, if_neg (by simp [hf]), State.sendResp, if_neg (by simp [hd]), State.putResp, hp]
    exact if_neg (by simp [he])
  by_cases hi : (u.pageAt m.val).respIe
  · exact ⟨o, (put.trans (if_pos hi)).trans h⟩
  · exact ⟨s.out, put.trans (if_neg hi)⟩

/-- Without the endpoint the response is discarded. -/
theorem State.answer_discarded (hf : s.fwAbsent = false) (he : s.supply.endpoint ≠ .ready) (hp : f.req.path = .mbx m)
    (hd : f.drop = false) (st : Status) (d hint : Nat) (pl : List Byte) (b : Option (List Byte)) :
    s.answer f st d pl b hint = { s with damem := { s.damem with inflight := s.damem.inflight.erase f } } := by
  rw [State.answer, if_neg (by simp [hf]), State.sendResp, if_neg (by simp [hd]), State.putResp, hp]
  exact if_pos he

end

section
variable {a : State} {f : InFlight} (allowed : a.partRefuses f.opcode f.req = false)
  (starts : f.opcode = 0x0204 → (a.partAt (f.req.f 0 1)).state ≠ .starting ∧ (a.partAt (f.req.f 0 1)).state ≠ .started)
include allowed starts

/-- While the directory is written a flash opcode is answered BUSY. -/
theorem State.contend_dirWriter {g : InFlight} (hf : flashOpcode f.opcode f.req = true) (hw : a.dirWriter = some g) :
    a.contend f = a.answer f .busy 0 [] none (a.busyHint g) := by
  rw [State.contend_of_allowed allowed starts, if_pos hf, hw]
  rfl

/-- A resource that another path holds is answered BUSY. -/
theorem State.contend_otherPath {g : InFlight} (hw : flashOpcode f.opcode f.req = true → a.dirWriter = none)
    (hg : ((a.blockers f).find? fun g => g.req.path != f.req.path) = some g) : a.contend f = a.answer f .busy 0 [] none (a.busyHint g) := by
  rw [State.contend_of_allowed allowed starts, dirWriter_if_none hw, hg]
  rfl

/-- A resource held on the same path is waited for. -/
theorem State.contend_samePath (hw : flashOpcode f.opcode f.req = true → a.dirWriter = none) (hb : a.blockers f ≠ [])
    (hg : ∀ g ∈ a.blockers f, g.req.path = f.req.path) : a.contend f = a := by
  have none : ((a.blockers f).find? fun g => g.req.path != f.req.path) = none := by
    rw [List.find?_eq_none]
    intro g h
    simp [hg g h]
  rw [State.contend_of_allowed allowed starts, dirWriter_if_none hw, none]
  exact if_neg (by simp [hb])

end

/-- Settles O23: an answer writes its slot alone; a held resource is answered by whoever holds it. -/
theorem responsesLandInTheirSlot : Obligations.ResponsesLandInTheirSlot := by
  refine ⟨fun s f m st d hint pl hf he hp ht hd => ?slot, fun s f m st d hint pl b hf he hp hd => State.answer_discarded hf he hp hd ..,
    fun s g => ?hint, fun p hp s r ha hc => ?held⟩
  case slot =>
    obtain ⟨o, h⟩ := State.answer_slot hf he hp hd st d hint pl
    have page (k : Nat) := State.pageAt_updPage { s with damem := { s.damem with inflight := s.damem.inflight.erase f } } m.val k
      (fun pg => { pg with
        slots := Table.put pg.slots f.req.tag (some (f.resp st d pl none hint)), respValid := Table.put pg.respValid f.req.tag true }) m.isLt
    have own := (page m.val).trans (if_pos rfl)
    dsimp only
    rw [h]
    refine ⟨?_, ?_, fun t htag => ⟨?_, ?_⟩, fun k hk => (page k).trans (if_neg hk), rfl, rfl⟩
    · exact (congrArg (fun pg : MbxPage => Table.at pg.slots f.req.tag none) own).trans (Table.at_put_same _ ht _ _)
    · exact (congrArg (fun pg : MbxPage => Table.at pg.respValid f.req.tag false) own).trans (Table.at_put_same _ ht _ _)
    · exact (congrArg (fun pg : MbxPage => Table.at pg.slots t none) own).trans (Table.at_put_other _ (Ne.symm htag) _ _)
    · exact (congrArg (fun pg : MbxPage => Table.at pg.respValid t false) own).trans (Table.at_put_other _ (Ne.symm htag) _ _)
  case hint =>
    unfold State.busyHint
    omega
  case held =>
    intro a f hm ho hd he hr hs
    have contended {u : State} (e : a.contend f = u) : Effect (p.2 r) s u := by
      have known := (exec_damemRow s r p hp).2
      have exam : a.examine f = a.contend f := by
        rw [State.examine_owned (a := a) (f := f) known (fun k => by simp [hm] at k) ho, hd]
        dsimp only
        rw [he]
        exact if_neg hc
      exact effect_of (exec_damemRow s r p hp).1 ((State.evDamem_of_accepted ha).trans (exam.trans e))
    have starts : f.opcode = 0x0204 → (a.partAt (f.req.f 0 1)).state ≠ .starting ∧ (a.partAt (f.req.f 0 1)).state ≠ .started := fun h => by
      rw [show a.partAt _ = s.partAt _ from State.accepted_partAt _]
      exact hs h
    exact ⟨fun g hf hw => contended (State.contend_dirWriter hr starts hf hw), fun g hw hg => contended (State.contend_otherPath hr starts hw hg),
      fun hw hb hg => contended (State.contend_samePath hr starts hw hb hg)⟩

end Sys2Proof.Machine
end

section
/-! SUPPORT. Queries (O24): what a payload is made of, accepting the request leaves alone. -/
namespace Sys2Proof.Machine

section
variable {s : State} {r : Req}

/-- The effect of a served row that answers at once: what it answers rests on neither the mailboxes and the journal nor what is sent. -/
theorem effect_of_answer {p : Nat × (Req → Instr)} (hp : p ∈ damemRows) (h : Served s p.1 r) {st : Status} {d : Nat} {payload : List Byte}
    {bulk : Option (List Byte)}
    (run : ∀ q o, State.perform { s with damem := q, out := o } (s.entryOf p.1 r false) =
      State.answer { s with damem := q, out := o } (s.entryOf p.1 r false) st d payload bulk) :
    Effect (p.2 r) s ((s.accepted p.1 r).answer (s.entryOf p.1 r false) st d payload bulk) := by
  obtain ⟨q, o, e⟩ := s.accepted_form p.1 r
  refine effect_of_served hp h ?_
  rw [e]
  exact run _ _

end

/-- What PHOTONIC_QUERY answers rests on rings and lasers, which mailboxes and what is sent leave alone. -/
theorem State.doPhotonicQuery_of_mailbox (s : State) (q : DamemSt) (o : List Out) (f : InFlight) :
    State.doPhotonicQuery { s with damem := q, out := o } f = State.answer { s with damem := q, out := o } f .ok 0
      (leBytes 88 (maskOf ((List.range 704).filter fun n => (s.ring704At n).state != .parked && (s.ring704At n).state != .locked)) ++
        leBytes 4 (maskOf ((List.range 24).filter fun a => (s.laserAt a).failed != 0 || (s.laserAt a).state == .retired)) ++
        (s.spareMap.flatMap (leBytes 1)) ++ leBytes 2 s.headroomMin ++ [0, 0]) := by
  generalize h : ({ s with damem := q, out := o } : State) = t
  have ring (n : Nat) : t.ring704At n = s.ring704At n := by subst h; rfl
  have laser (n : Nat) : t.laserAt n = s.laserAt n := by subst h; rfl
  have spare : t.spareMap = s.spareMap := by subst h; rfl
  have bank (b : Nat) : t.bankInUse b = s.bankInUse b := by subst h; rfl
  have codes : t.lockedCodes = s.lockedCodes := congrArg (fun g => (List.range 704).filterMap g) (funext fun n => by rw [ring, bank])
  have room : t.headroomMin = s.headroomMin := by
    unfold State.headroomMin
    rw [codes]
  simp only [State.doPhotonicQuery, State.done', ring, laser, spare, room]

/-- Settles O24: each query is its opcode's one answer. -/
theorem queriesAnswerTheirPayload : Obligations.QueriesAnswerTheirPayload := by
  refine ⟨fun s r => ⟨fun h => ?nop, fun h => ?info, fun h => ?stateGet, fun h => ?hallmark, fun h hx => ?part, fun h hx => ?noPart,
    fun h => ?thermal, fun h => ?steward, fun h => ?link, fun h => ?photonic, fun h => ?planish, fun h => ?loop⟩, fun s r =>
    ⟨fun h => ?cal, fun h => ?hold, fun h hu hd => ?flash, fun h hu hd => ?flashBulk, fun h hu hd => ?flashFree, fun h hu => ?checkFree,
      fun h hu => ?check⟩⟩
  case nop => exact effect_of_answer (p := (0x0001, .nop)) (by simp [damemRows]) h fun _ _ => rfl
  case info => exact effect_of_answer (p := (0x0002, .info)) (by simp [damemRows]) h fun _ _ => rfl
  case stateGet => exact effect_of_answer (p := (0x0102, .stateGet)) (by simp [damemRows]) h fun _ _ => rfl
  case hallmark => exact effect_of_answer (p := (0x0103, .hallmarkQuery)) (by simp [damemRows]) h fun _ _ => rfl
  case part =>
    have lt : r.f 0 1 < 16 := by
      by_contra hn
      exact hx (by simp [State.partAt, Table.at, hn])
    exact effect_of_answer (p := (0x0207, .partQuery)) (by simp [damemRows]) h fun _ _ => by
      change State.doPartQuery _ _ = _
      exact if_neg (not_or.2 ⟨Nat.not_le.2 lt, hx⟩)
  case noPart =>
    exact effect_of_answer (p := (0x0207, .partQuery)) (by simp [damemRows]) h fun _ _ => by
      change State.doPartQuery _ _ = _
      exact if_pos (Or.inr hx)
  case thermal => exact effect_of_answer (p := (0x0301, .thermalQuery)) (by simp [damemRows]) h fun _ _ => rfl
  case steward => exact effect_of_answer (p := (0x0302, .stewardQuery)) (by simp [damemRows]) h fun _ _ => rfl
  case link => exact effect_of_answer (p := (0x0403, .linkQuery)) (by simp [damemRows]) h fun _ _ => rfl
  case photonic =>
    exact effect_of_answer (p := (0x0404, .photonicQuery)) (by simp [damemRows]) h fun q o => s.doPhotonicQuery_of_mailbox q o _
  case planish => exact effect_of_answer (p := (0x0502, .planishQuery)) (by simp [damemRows]) h fun _ _ => rfl
  case loop => exact effect_of_answer (p := (0x0602, .loopQuery)) (by simp [damemRows]) h fun _ _ => rfl
  case cal =>
    have run := fun {u} => effect_of_served (u := u) (p := (0x0801, .calRead)) (by simp [damemRows]) h
    refine ⟨fun hd => run ?_, fun hd => run ?_⟩
    · change State.doCalRead _ _ = _
      exact if_neg (by simp [State.entryOf, hd])
    · change State.doCalRead _ _ = _
      exact if_pos hd
  case hold => exact effect_of_answer (p := (0x0901, .holdQuery)) (by simp [damemRows]) h fun _ _ => rfl
  case flash =>
    refine effect_of_answer (p := (0x0902, .flashRead)) (by simp [damemRows]) h fun q o => ?_
    change State.doFlashRead _ _ = _
    refine (if_neg (by simp [State.entryOf, hd])).trans ?_
    rw [if_pos hu]
    rfl
  case flashBulk =>
    refine effect_of_answer (p := (0x0902, .flashRead)) (by simp [damemRows]) h fun q o => ?_
    change State.doFlashRead _ _ = _
    refine (if_pos hd).trans ?_
    rw [if_pos hu]
    rfl
  case flashFree =>
    refine ⟨(List.range (r.f 4 4)).map fun i => s.spoiled (r.f 0 4 + i), by simp,
      effect_of_answer (p := (0x0902, .flashRead)) (by simp [damemRows]) h fun q o => ?_⟩
    change State.doFlashRead _ _ = _
    refine (if_neg (by simp [State.entryOf, hd])).trans ?_
    rw [if_neg (by simp [hu])]
    rfl
  case checkFree =>
    obtain ⟨q, o, e⟩ := s.accepted_form 0x0905 r
    refine ⟨1 + Config.free 43 s.freeCtr % 10, by omega, by omega, effect_of_served (p := (0x0905, .imageCheck)) (by simp [damemRows]) h ?_⟩
    rw [e]
    change State.doImageCheck _ _ = _
    exact if_pos (by simp [hu])
  case check =>
    refine ⟨fun he hn => effect_of_answer (p := (0x0905, .imageCheck)) (by simp [damemRows]) h fun q o => ?_,
      fun hn => effect_of_answer (p := (0x0905, .imageCheck)) (by simp [damemRows]) h fun q o => ?_⟩
    · change State.doImageCheck _ _ = _
      exact (if_neg (by simp [hu])).trans (if_pos ⟨he, hn⟩)
    · change State.doImageCheck _ _ = _
      exact (if_neg (by simp [hu])).trans (if_neg (by rintro ⟨h0, h1⟩; exact hn.elim (· h0) h1))

end Sys2Proof.Machine
end

section
/-! SUPPORT. STATE_SET (O25): its own order of checks, and the transitions it begins. -/
namespace Sys2Proof.Machine

section
variable {s : State} {r : Req} {f : InFlight} {a : State}

/-- No supply set-point and no ceiling is in a STATE_SET. -/
theorem State.beyondEnvelope_stateSet (h : f.opcode = 0x0101) : a.beyondEnvelope f = none := by
  simp [State.beyondEnvelope, h]

/-- A STATE_SET whose fields are in order is judged by its target, then contended for. -/
theorem State.examine_stateSet (hm : a.heldMode = false) (hc : f.opcode = 0x0101) (ho : a.owns 0x0101 f.req = true)
    (hd : a.argFault f = none) : a.examine f = (a.stateJudge f).getD (a.contend f) := by
  have known : (opcodeRow f.opcode).isSome = true := by rw [hc]; rfl
  rw [State.examine_owned known (fun k => by simp [hm] at k) (hc ▸ ho), hd]
  dsimp only
  rw [State.beyondEnvelope_stateSet hc]
  exact if_pos hc

/-- A target that may be entered from the present state is left to contention. -/
theorem State.stateJudge_none (ht : a.dev.trans = false) (hn : stateOfTarget (f.req.f 0 1) ≠ a.dev.state)
    (hl : stateListed a.dev.state (stateOfTarget (f.req.f 0 1)) = true) : a.stateJudge f = none := by
  rw [State.stateJudge, if_neg (by simp [ht]), if_neg hn, if_neg (by simp [hl])]

/-- The journal's entry of a request that a transition serves. -/
def State.transitionOf (s : State) : Option InFlight := s.damem.inflight.find? fun g => match g.wait with | .state _ => true | _ => false

/-- During a transition a STATE_SET is answered BUSY, with the bound of the request that the transition serves. -/
theorem State.stateJudge_busy {g : InFlight} (ht : a.dev.trans = true) (hg : a.transitionOf = some g) :
    a.stateJudge f = some (a.answer f .busy 0 [] none (a.busyHint g)) := by
  rw [State.stateJudge, if_pos ht]
  split
  · case h_1 k hk => obtain rfl : g = k := Option.some.inj (hg.symm.trans hk); rfl
  · case h_2 hk => exact absurd (hg.symm.trans hk) nofun

/-- A transition that no request asked for has a free bound. -/
theorem State.stateJudge_busy_free (ht : a.dev.trans = true) (hg : a.transitionOf = none) : a.stateJudge f =
    some (({ a with freeCtr := a.freeCtr + 1 } : State).answer f .busy 0 [] none (1 + Config.free 40 a.freeCtr % 1000)) := by
  rw [State.stateJudge, if_pos ht]
  split
  · case h_1 k hk => exact absurd (hg.symm.trans hk) nofun
  · rfl

/-- A STATE_SET that its own order lets through meets no transition. -/
theorem State.trans_of_stateJudge_none (h : a.stateJudge f = none) : a.dev.trans = false := by
  by_contra ht
  have ht : a.dev.trans = true := by simpa using ht
  cases hg : a.transitionOf with
  | none => exact absurd (h.symm.trans (State.stateJudge_busy_free ht hg)) nofun
  | some g => exact absurd (h.symm.trans (State.stateJudge_busy ht hg)) nofun

/-- With nothing in its way a STATE_SET performs. -/
theorem State.contend_stateSet (hc : f.opcode = 0x0101) (hb : a.blockers f = []) : a.contend f = a.doStateSet f := by
  have performs : a.perform f = a.doStateSet f := by
    rw [State.perform, if_pos (by omega), State.performGeneral, hc]
    rfl
  rw [← performs]
  exact State.contend_free (by rw [hc]; rfl) (fun k => by omega) (fun k => by rw [hc] at k; exact absurd k (by simp [flashOpcode, locksOf])) hb

/-- A STATE_SET that goes on is held, and its transition begins. -/
theorem State.doStateSet_goes {t : DevState} (h : stateOfTarget (f.req.f 0 1) = t) (hr : t = .dormant → a.stew.role = Role.none)
    (hs : a.dev.state = .safe → t = .standby → a.causeHolds = false) : a.doStateSet f =
      (let s1 := a.hold f (.state t)
       if t = .safe then (if s1.asleep then s1.wakeHandler 0x0C else s1).enterSafe 7
       else if a.dev.state = .dormant then s1.wakeBy 0x0C true
       else if t = .dormant then s1.enterDormant .request
       else if t = .anneal then s1.enterAnneal .request
       else if a.dev.state = .anneal then s1.leaveAnneal .request
       else (s1.transTo .standby).upTo' 6 .toStandby fun x => x.standbyReady x.standbyTrigger) := by
  have open_ : ¬ (stateOfTarget (f.req.f 0 1) = .dormant ∧ a.stew.role ≠ Role.none) := fun k => k.2 (hr (h.symm.trans k.1))
  have clear : ¬ (a.dev.state = .safe ∧ stateOfTarget (f.req.f 0 1) = .standby ∧ a.causeHolds = true) := fun k => by
    simp [hs k.1 (h.symm.trans k.2.1)] at k
  rw [State.doStateSet, if_neg open_, if_neg clear, h]
  dsimp only
  split <;> simp_all

end

/-- Settles O25: the checks in STATE_SET's own order; then each transition from the states that it is listed from. -/
theorem stateSetIsJudgedAndStarts : Obligations.StateSetIsJudgedAndStarts := by
  refine ⟨fun p hp hc s r ha => ?judged, fun s r h => ?starts⟩
  case judged =>
    intro a f t hm ho hd
    have exam {u : State} (e : (a.stateJudge f).getD (a.contend f) = u) : Effect (p.2 r) s u := by
      refine effect_of ((exec_damemRow s r p hp).1.trans (by rw [hc])) ?_
      exact (State.evDamem_of_accepted ha).trans ((State.examine_stateSet hm rfl ho hd).trans e)
    have dev : a.dev = s.dev := State.of_accepted State.dev (fun _ _ => rfl) _
    have judge (ht : s.dev.trans = false) (hn : t ≠ s.dev.state) (hl : stateListed s.dev.state t = true) (hb : a.blockers f = []) {u : State}
        (e : a.doStateSet f = u) : Effect (p.2 r) s u := by
      refine exam ?_
      rw [State.stateJudge_none (dev ▸ ht) (dev ▸ hn) (dev ▸ hl), State.contend_stateSet rfl hb]
      exact e
    refine ⟨fun g ht hg => exam ?_, fun ht hg => ⟨1 + Config.free 40 a.freeCtr % 1000, by omega, by omega, exam ?_⟩, fun ht he => exam ?_,
      fun ht he hl => exam ?_, fun ht hb hs he hr => judge ht (by rw [he, hs]; decide) (by rw [he, hs]; rfl) hb (if_pos ⟨he, ?_⟩),
      fun ht hb hs he hr => judge ht (by rw [he, hs]; decide) (by rw [he, hs]; rfl) hb ?_⟩
    · rw [State.stateJudge_busy (dev ▸ ht) hg]; rfl
    · rw [State.stateJudge_busy_free (dev ▸ ht) hg]; rfl
    · rw [State.stateJudge, if_neg (by rw [dev]; simp [ht]), if_pos (by rw [dev]; exact he)]; rfl
    · have unlisted : ¬ stateListed a.dev.state (stateOfTarget (f.req.f 0 1)) = true := by rw [dev]; exact Bool.eq_false_iff.1 hl
      rw [State.stateJudge, if_neg (by rw [dev]; simp [ht]), if_neg (by rw [dev]; exact he), if_pos unlisted]; rfl
    · have holds : a.causeHolds = true := (State.of_accepted State.causeHolds (fun _ _ => rfl) _).trans hr
      exact (if_neg (by rintro ⟨h, -⟩; exact absurd (he.symm.trans h) nofun)).trans (if_pos ⟨dev ▸ hs, he, holds⟩)
    · rw [show a.stew = s.stew from State.of_accepted State.stew (fun _ _ => rfl) _]
      exact hr
  case starts =>
    intro a f
    have goes {p : Nat × (Req → Instr)} (hp : p ∈ damemRows) (hc : p.1 = 0x0101) {u : State} (e : a.doStateSet f = u) : Effect (p.2 r) s u := by
      refine effect_of ((exec_damemRow s r p hp).1.trans (by rw [hc])) (h.evDamem.trans (Eq.trans ?_ e))
      rfl
    have dev : a.dev = s.dev := State.of_accepted State.dev (fun _ _ => rfl) _
    have stew : a.stew = s.stew := State.of_accepted State.stew (fun _ _ => rfl) _
    have holds : a.causeHolds = s.causeHolds := State.of_accepted State.causeHolds (fun _ _ => rfl) _
    have awake : a.dev.trans = false := State.trans_of_stateJudge_none (h.2.2.2.2.2 rfl)
    have target {n : Nat} (ht : r.f 0 1 = n) : stateOfTarget (f.req.f 0 1) = stateOfTarget n := congrArg stateOfTarget ht
    refine ⟨fun ht hs => goes (p := (0x0101, .stateSetSafe)) (by simp [damemRows]) rfl ?_,
      fun ht hs => goes (p := (0x0101, .stateSetSafe)) (by simp [damemRows]) rfl ?_,
      fun ht hr hs => goes (p := (0x0101, .stateSetDormant)) (by simp [damemRows]) rfl ?_,
      fun ht hs => goes (p := (0x0101, .stateSetStandby)) (by simp [damemRows]) rfl ?_,
      fun ht hs => goes (p := (0x0101, .stateSetStandby)) (by simp [damemRows]) rfl ?_,
      fun ht hs hh => goes (p := (0x0101, .stateSetStandby)) (by simp [damemRows]) rfl ?_,
      fun ht hs => goes (p := (0x0101, .stateSetAnneal)) (by simp [damemRows]) rfl ?_⟩
    · have asleep : (a.hold f (.state .safe)).asleep = false := by
        change (decide (a.dev.state = .dormant) && !a.dev.trans) = false
        simp [dev, hs]
      rw [State.doStateSet_goes (target ht) nofun fun _ => nofun]
      dsimp only
      rw [if_pos (by decide)]
      exact congrArg (fun x => State.enterSafe x 7) (if_neg fun k => Bool.false_ne_true (asleep.symm.trans k))
    · have asleep : (a.hold f (.state .safe)).asleep = true := State.asleep_eq_true.2 ⟨dev ▸ hs, awake⟩
      rw [State.doStateSet_goes (target ht) nofun fun _ => nofun]
      dsimp only
      rw [if_pos (by decide)]
      exact congrArg (fun x => State.enterSafe x 7) (if_pos asleep)
    · rw [State.doStateSet_goes (target ht) (fun _ => by rw [stew]; exact hr) fun _ => nofun]
      have waking : a.dev.state ≠ .dormant := by rcases hs with hs | hs <;> rw [dev, hs] <;> decide
      exact (if_neg (by decide)).trans ((if_neg waking).trans (if_pos rfl))
    · rw [State.doStateSet_goes (target ht) nofun fun k => absurd ((dev ▸ hs : a.dev.state = .dormant).symm.trans k) nofun]
      exact (if_neg (by decide)).trans (if_pos (dev ▸ hs))
    · have state : a.dev.state = .anneal := dev ▸ hs
      rw [State.doStateSet_goes (target ht) nofun fun k => absurd (state.symm.trans k) nofun]
      exact (if_neg (by decide)).trans ((if_neg (by rw [state]; decide)).trans ((if_neg (by decide)).trans ((if_neg (by decide)).trans
        (if_pos state))))
    · have state : a.dev.state = .safe := dev ▸ hs
      rw [State.doStateSet_goes (target ht) nofun fun _ _ => holds.trans hh]
      exact (if_neg (by decide)).trans ((if_neg (by rw [state]; decide)).trans ((if_neg (by decide)).trans ((if_neg (by decide)).trans
        (if_neg (by rw [state]; decide)))))
    · have state : a.dev.state = .standby := dev ▸ hs
      rw [State.doStateSet_goes (target ht) nofun fun _ => nofun]
      exact (if_neg (by decide)).trans ((if_neg (by rw [state]; decide)).trans ((if_neg (by decide)).trans (if_pos (by decide))))

end Sys2Proof.Machine
end

section
/-! SUPPORT. Owner, steward, scorer and strand requests (O26). -/
namespace Sys2Proof.Machine

section
variable {s : State} {c : Nat} {r : Req} {f : InFlight} {w : Wait}

/-- The device that has accepted a request differs in mailboxes, journal and what is sent, and its journal holds the request. -/
theorem State.accepted_mailbox (s : State) (c : Nat) (r : Req) :
    ∃ q o, s.entryOf c r false ∈ q.inflight ∧ s.accepted c r = { s with damem := q, out := o } := by
  obtain ⟨p, o, e⟩ := s.accepted_form c r
  exact ⟨_, o, List.mem_append_right _ (List.mem_singleton_self _), e⟩

/-- A served request does what its opcode does on the device that has accepted it. -/
theorem effect_of_request {i : Instr} (row : exec i s = s.finish (s.evDamem c r)) (h : Served s c r) {u : State}
    (run : (s.accepted c r).perform (s.entryOf c r false) = u) : Effect i s u := effect_of row (h.evDamem.trans run)

/-- A served request that is answered at once, where what is answered rests on neither the mailboxes and the journal nor what is sent. -/
theorem effect_of_reply {i : Instr} (row : exec i s = s.finish (s.evDamem c r)) (h : Served s c r) {st : Status} {d : Nat} {payload : List Byte}
    (run : ∀ q o, State.perform { s with damem := q, out := o } (s.entryOf c r false) =
      State.answer { s with damem := q, out := o } (s.entryOf c r false) st d payload) :
    Effect i s ((s.accepted c r).answer (s.entryOf c r false) st d payload) := by
  obtain ⟨q, o, e⟩ := s.accepted_form c r
  exact effect_of_request row h ((congrArg (State.perform · _) e).trans ((run _ _).trans (congrArg (State.answer · _ _ _ _) e.symm)))

/-- A request of the journal that is held stays in it, waiting. -/
theorem State.mem_hold (h : f ∈ s.damem.inflight) : ∃ g ∈ (s.hold f w).damem.inflight, g.req = f.req ∧ g.wait = w :=
  ⟨{ f with wait := w, committed := true }, List.mem_map.2 ⟨f, h, if_pos rfl⟩, rfl, rfl⟩

/-! ### The calendar time -/

/-- A hint in milliseconds covers the time that is left, rounded up. -/
theorem hint_bounds {n : Nat} (h : 0 < n) :
    1 ≤ (n + 32767) / 32768 ∧ ((n + 32767) / 32768 - 1) * 32768 < n ∧ n ≤ (n + 32767) / 32768 * 32768 := by omega

/-- How long a TIME_SET has still to wait. -/
theorem State.doTimeSet_eq (a : State) (f : InFlight) (n : Nat) (h : (match a.clocks.lastSet.map fun t => (a.now - t) * 1000 with
    | some t => 100 * 32768 - t
    | none => 0) = n) : a.doTimeSet f = if 0 < n then a.answer f .busy 0 [] none ((n + 32767) / 32768)
      else ((a.timeAccept (f.req.f 0 4 * 1000000000 + f.req.f 4 4) (f.req.f 8 4)).alarmDue).done' f := by
  subst h
  rfl

/-! ### The steward's role -/

/-- Queueing a packet reaches the mesh alone. -/
theorem State.queueOn_form (k src : Nat) (p : Packet) : ∃ m, s.queueOn k src p = { s with mesh := m } := ⟨_, rfl⟩

/-- A management message reaches the mesh alone. -/
theorem State.sendMgmt_form (s : State) (dst mtype o0 o1 : Nat) (data : List Byte) :
    ∃ m, s.sendMgmt dst mtype o0 o1 data = { s with mesh := m } := by
  unfold State.sendMgmt
  dsimp only
  split
  · exact State.queueOn_form _ _ _
  · split
    · split
      · exact State.queueOn_form _ _ _
      · exact ⟨s.mesh, rfl⟩
    · exact ⟨s.mesh, rfl⟩

/-- Messages to many devices reach the mesh alone. -/
theorem State.sendMgmt_foldl (l : List Nat) (s : State) (mtype o0 o1 : Nat) (data : List Byte) :
    ∃ m, l.foldl (fun s d => s.sendMgmt d mtype o0 o1 data) s = { s with mesh := m } :=
  State.foldl_form (fun s m => { s with mesh := m }) State.mesh (fun _ => rfl) (fun _ _ _ => rfl)
    (fun s d => s.sendMgmt d mtype o0 o1 data) (fun s d => s.sendMgmt_form d mtype o0 o1 data) l s

/-- A STEWBEAT reaches the mesh, and the steward's own account of it. -/
theorem State.sendBeat_form (s : State) :
    ∃ m b, s.sendBeat = { s with mesh := m, stew := { s.stew with beatSeq := (s.stew.beatSeq + 1) % 2 ^ 32, lastBeat := b } } := by
  unfold State.sendBeat
  dsimp only
  obtain ⟨m, e⟩ := State.sendMgmt_foldl _ _ _ _ _ _
  exact ⟨m, _, e⟩

/-- A standby that withdraws gives up the role, and its other facts of the role stay. -/
theorem State.roleSet_none_stew {a : State} (h : a.stew.role = Role.standby) : (a.roleSet .none a.stew.primary none a.stew.epoch).stew =
    { a.stew with role := Role.none, standby := none, maxEpoch := max a.stew.maxEpoch a.stew.epoch } := by
  unfold State.roleSet
  dsimp only
  rw [if_neg (by rw [h]; rintro ⟨k, -⟩; exact absurd k nofun), State.log_stew]

/-- A device without a role has none to release. -/
theorem State.doStewardRelease_none (h : s.stew.role = Role.none) : s.doStewardRelease f = s.answer f .precond 0xFFFF := by
  rw [State.doStewardRelease, h]

/-- A standby steward withdraws at once: answered, with the role gone and its other facts as they were. -/
theorem State.doStewardRelease_standby (h : s.stew.role = Role.standby) : ∃ u : State, s.doStewardRelease f = u.answer f .ok ∧
    u.stew = { s.stew with role := Role.none, standby := none, withdrawn := true, maxEpoch := max s.stew.maxEpoch s.stew.epoch } := by
  refine ⟨({ s with stew := { s.stew with withdrawn := true } } : State).roleSet .none s.stew.primary none s.stew.epoch, ?_, ?_⟩
  · rw [State.doStewardRelease, h]
    rfl
  · exact State.roleSet_none_stew (a := { s with stew := { s.stew with withdrawn := true } }) h

/-- A primary that gives the role up already only waits. -/
theorem State.doStewardRelease_givingUp (h : s.stew.role = Role.primary) (hg : s.givingUp = true) : s.doStewardRelease f =
    { s.hold f .steward with stew := { s.stew with withdrawn := true } } := by
  rw [State.doStewardRelease, h]
  exact if_pos hg

/-- A primary without a standby gives the role up. -/
theorem State.doStewardRelease_alone (h : s.stew.role = Role.primary) (hg : s.givingUp = false) (hn : s.stew.standby = none) :
    s.doStewardRelease f = ({ s.hold f .steward with stew := { s.stew with withdrawn := true } } : State).giveUp false := by
  rw [State.doStewardRelease, h]
  refine (if_neg (Bool.eq_false_iff.1 hg)).trans ?_
  simp only [State.hold, State.updReq, hn]

/-- A primary with a standby offers it the role, and the request waits. -/
theorem State.doStewardRelease_offers {d : Nat} (h : s.stew.role = Role.primary) (hg : s.givingUp = false) (hd : s.stew.standby = some d) :
    (s.doStewardRelease f).stew.seq = .offered ∧ (s.doStewardRelease f).stew.withdrawn = true ∧
      (s.doStewardRelease f).stew.role = Role.primary ∧ (s.doStewardRelease f).damem = (s.hold f .steward).damem := by
  let a : State := { s.hold f .steward with stew := { s.stew with withdrawn := true } }
  obtain ⟨m, b, e⟩ := State.sendBeat_form a
  obtain ⟨m', e'⟩ := State.sendMgmt_form a.sendBeat d 0x13 (1 + a.stew.epoch * 2 ^ 8) 0 []
  have run : s.doStewardRelease f = { a.sendBeat.sendMgmt d 0x13 (1 + a.stew.epoch * 2 ^ 8) 0 with
      stew := { (a.sendBeat.sendMgmt d 0x13 (1 + a.stew.epoch * 2 ^ 8) 0).stew with
        seq := .offered, offerAt := some (a.sendBeat.sendMgmt d 0x13 (1 + a.stew.epoch * 2 ^ 8) 0).now } } := by
    rw [State.doStewardRelease, h]
    refine (if_neg (Bool.eq_false_iff.1 hg)).trans ?_
    simp only [State.hold, State.updReq, hd, a]
  rw [run, e', e]
  exact ⟨rfl, rfl, h, rfl⟩

/-! ### The scorer -/

/-- The scorer's queues that hold nothing are the queues of a withdrawal. -/
theorem queue_empty {q : Vector (List Batch) 16} (h : ∀ p, p < 16 → Table.at q p [] = []) : q = Vector.replicate 16 [] := by
  refine Vector.ext fun i hi => ?_
  have := h i hi
  rw [Table.at, Vector.getElem?_eq_getElem hi] at this
  rw [Vector.getElem_replicate]
  exact this

/-- With nothing queued a withdrawal withdraws nothing. -/
theorem State.withdrawQueued_empty (h : s.wmk.queue = Vector.replicate 16 []) : s.withdrawQueued = (0, s) := by
  have none : s.wmk.queue.toList.flatten = [] := by rw [h]; rfl
  have same : ({ s with wmk := { s.wmk with queue := Vector.replicate 16 [] } } : State) = s := by rw [← h]
  rw [State.withdrawQueued]
  dsimp only
  rw [none, same]
  rfl

/-- A dark scorer that is switched on warms up: its state, records and what they send, and nothing else. -/
theorem State.scorerWarm_form (ho : s.wmk.state = .off) (he : s.wmk.en = true) (hd : s.dev.state = .anneal ∨ s.dev.state = .serving) :
    ∃ c q o, s.scorerWarm =
      { s with wmk := { s.wmk with tried := 0, state := .warming }, cal := c, damem := { s.damem with page := q }, out := o } := by
  rw [State.scorerWarm, if_pos ⟨he, ho, hd⟩, State.scorerTo]
  dsimp only
  rw [if_neg (by rw [ho]; exact nofun), if_neg (by rw [ho]; exact nofun)]
  obtain ⟨c, q, o, e⟩ := State.log_form { s with wmk := { s.wmk with tried := 0, state := .warming } } 0x4007
    (param [(1, s.wmk.state.code), (1, WState.warming.code),
      (1, State.insvcCount { s with wmk := { s.wmk with tried := 0, state := .warming } })]) none true false true
  exact ⟨c, q, o, e⟩

/-- WMK_SET on: the scorer warms up, and the request waits for it. -/
theorem State.doWmkSet_on (hf : f.req.f 0 1 = 1) (he : s.wmk.en = false) (hd : s.dev.state = .anneal ∨ s.dev.state = .serving)
    (ho : s.wmk.state = .off) : ∃ c q o, s.doWmkSet f =
      { s with
        wmk := { s.wmk with en := true, stopping := false, returned := 0, tried := 0, state := .warming }
        cal := c
        damem := { (s.hold f .scorer).damem with page := q }
        out := o } := by
  let a : State := { s.hold f .scorer with wmk := { s.wmk with en := true, stopping := false, returned := 0 } }
  obtain ⟨c, q, o, e⟩ := State.scorerWarm_form (s := a) ho rfl hd
  have run : s.doWmkSet f = if a.scorerWarm.wmk.state = .warming then a.scorerWarm else a.scorerWarm.answerWarm :=
    (if_neg (by simp [hf, he])).trans (if_pos hf)
  rw [run, e]
  exact ⟨c, q, o, if_pos rfl⟩

/-- WMK_SET off with batches in flight and none queued: the request waits for those in flight. -/
theorem State.doWmkSet_off (hf : f.req.f 0 1 = 0) (he : s.wmk.en = true) (hq : s.wmk.queue = Vector.replicate 16 [])
    (hl : s.wmk.flight ≠ []) :
    s.doWmkSet f = { s.hold f .scorer with wmk := { s.wmk with en := false, stopping := true, returned := 0 } } := by
  have run : s.doWmkSet f =
      (let w := ({ s.hold f .scorer with wmk := { s.wmk with en := false, stopping := true } } : State).withdrawQueued
       ({ w.2 with wmk := { w.2.wmk with returned := w.1 } } : State).followStopping) :=
    (if_neg (by simp [hf, he])).trans (if_neg (by simp [hf]))
  rw [run, State.withdrawQueued_empty (s := { s.hold f .scorer with wmk := { s.wmk with en := false, stopping := true } }) hq]
  exact if_neg fun k => hl k.2

/-! ### Strands -/

/-- A strand that is neither up before nor after a change of state changes its state and leaves a record. -/
theorem State.strandTo_form {k : Nat} {st : SState} (hn : (s.strandAt k).state ≠ st) (hf : (s.strandAt k).state ≠ .up) (ht : st ≠ .up) :
    ∃ c d o, s.strandTo k st = { s.updStrand k fun t => { t with state := st } with cal := c, damem := d, out := o } ∧
      d.inflight = s.damem.inflight := by
  unfold State.strandTo
  dsimp only
  have same : (s.updStrand k fun t => { t with state := st, downs := if (s.strandAt k).state = .up then satInc 16 t.downs else t.downs }) =
      s.updStrand k fun t => { t with state := st } := by simp [hf]
  rw [same]
  obtain ⟨c, p, o, e⟩ := State.log_form (s.updStrand k fun t => { t with state := st }) 0x3001
    (State.strandParam (s.updStrand k fun t => { t with state := st }) k (s.strandAt k).state.code st.code) none true false true
  refine ⟨c, { s.damem with page := p }, o, ?_, rfl⟩
  refine (if_neg hn).trans ((if_neg ?_).trans ((if_neg fun x => ht x.1).trans ?_))
  · rintro (x | x)
    · exact hf x
    · exact ht x
  · rw [if_pos rfl]
    exact e

/-- A strand that carried no traffic goes down with its record, its lanes, its exchanges and its queues gone. -/
theorem State.strandDown_quiet {k : Nat} {st : SState} {ld : Nat} {tx : Tx} (hk : k < 64) (hn : (s.strandAt k).state ≠ st)
    (hu : (s.strandAt k).state ≠ .up) (hp : (s.strandAt k).state ≠ .paused) (hr : (s.strandAt k).trip = none) (ht : st ≠ .up) :
    ∃ c d o, s.strandDown k st ld tx = { s.updStrand k fun t => { t with
      lastDown := ld, tx := tx, lanes := 0, stage := 0, laneArg := none, trip := none, state := st, retry := [], replayFrom := none,
      txq := Vector.replicate 5 [], txNow := Vector.replicate 5 none, rxPart := Vector.replicate 5 none } with
        cal := c, damem := d, out := o } := by
  let u := s.updStrand k fun t => { t with lastDown := ld, tx := tx, lanes := 0, stage := 0, laneArg := none, trip := none }
  have state : (u.strandAt k).state = (s.strandAt k).state := by rw [State.strandAt_updStrand_same s hk _]
  obtain ⟨c, d, o, e, -⟩ := State.strandTo_form (s := u) (k := k) (st := st) (by rwa [state]) (by rwa [state]) ht
  refine ⟨c, d, o, ?_⟩
  unfold State.strandDown
  dsimp only
  rw [if_neg (by simp [hr, hu, hp])]
  change State.updStrand (u.strandTo k st) k _ = _
  rw [e]
  simp only [State.updStrand, u, Table.upd_upd]

/-- A strand that STRAND_SET sends dark: nothing of an exchange is left of it. -/
def Strand.disabledDark (t : Strand) : Strand :=
  { t with
    en := false, lastDown := 5, tx := .off, lanes := 0, stage := 0, laneArg := none, trip := none, state := .disabled, retry := [],
    replayFrom := none, txq := Vector.replicate 5 [], txNow := Vector.replicate 5 none, rxPart := Vector.replicate 5 none,
    presence := false, probing := false }

/-- What STRAND_SET with DISABLE does to a strand that is off. -/
theorem State.doStrandSet_off {k : Nat} (hf : f.req.f 1 1 = 0) (hk : f.req.f 0 1 = k) (h64 : k < 64) (ho : (s.strandAt k).state = .off)
    (hr : (s.strandAt k).recon = none) (ht : (s.strandAt k).trip = none) :
    ∃ c d o, s.doStrandSet f = { s.updStrand k Strand.disabledDark with cal := c, damem := d, out := o } := by
  let a := (s.hold f (.strand k)).updStrand k fun t => { t with en := false }
  have at_ : a.strandAt k = { s.strandAt k with en := false } := State.strandAt_updStrand_same _ h64 _
  obtain ⟨c, d, o, e⟩ := State.strandDown_quiet (s := a) (k := k) (st := .disabled) (ld := 5) (tx := .off) h64 (by rw [at_]; simp [ho])
    (by rw [at_]; simp [ho]) (by rw [at_]; simp [ho]) (by rw [at_]; exact ht) nofun
  let b := (a.strandDown k .disabled 5 .off).updStrand k fun t => { t with presence := false, probing := false }
  have form : b = { s.updStrand k Strand.disabledDark with cal := c, damem := d, out := o } := by
    change State.updStrand (a.strandDown k .disabled 5 .off) k _ = _
    rw [e]
    simp only [State.updStrand, a, Table.upd_upd]
    rfl
  have quiet : (b.strandAt k).recon = none := by
    rw [form]
    exact (congrArg Strand.recon (State.strandAt_updStrand_same _ h64 _)).trans hr
  have run : s.doStrandSet f = if (b.strandAt k).recon.isSome then b else b.answerWaiting (.strand k) .ok 0 fun _ => leBytes 4 0 := by
    subst hk
    simp only [State.doStrandSet, hf, ho, reduceCtorEq, false_and, if_false, if_true]
    rfl
  obtain ⟨d', o', e'⟩ := State.answerWaiting_form b (.strand k) .ok 0 fun _ => leBytes 4 0
  rw [run, if_neg (by simp [quiet]), e', form]
  exact ⟨c, d', o', rfl⟩

/-- What STRAND_SET with ENABLE does to a disabled strand that may train. -/
theorem State.doStrandSet_probes {k : Nat} (hf : f.req.f 1 1 = 1) (hk : f.req.f 0 1 = k) (h64 : k < 64)
    (hd : (s.strandAt k).state = .disabled) (hm : s.meshLit = true) (hs : s.pho.swept.getLsbD (k / 4) = true) :
    ∃ c d o, s.doStrandSet f = { s.updStrand k fun t => { t with en := true, probing := true, tx := .probe, state := .dark } with
      cal := c, damem := d, out := o } ∧ d.inflight = (s.hold f (.strand k)).damem.inflight := by
  let a := (s.hold f (.strand k)).updStrand k fun t => { t with en := true }
  let b := a.updStrand k fun t => { t with probing := true, tx := .probe }
  have at_ : a.strandAt k = { s.strandAt k with en := true } := State.strandAt_updStrand_same _ h64 _
  have state : (b.strandAt k).state = .disabled := by rw [State.strandAt_updStrand_same a h64 _, at_]; exact hd
  obtain ⟨c, d, o, e, ed⟩ := State.strandTo_form (s := b) (k := k) (st := .dark) (by simp [state]) (by simp [state]) nofun
  have lit : a.meshLit = true := hm
  have swept : a.pho.swept.getLsbD (k / 4) = true := hs
  have run : s.doStrandSet f = b.strandTo k .dark := by
    subst hk
    rw [State.doStrandSet]
    dsimp only
    rw [if_neg (by simp [hf]), if_neg (by simp [hd]), if_neg (by simp [hd])]
    exact if_pos (by change State.strandMayTrain a _ = true; simp [State.strandMayTrain, at_, lit, swept])
  rw [run, e]
  refine ⟨c, d, o, ?_, ed⟩
  simp only [State.updStrand, a, b, Table.upd_upd]
  rfl

end

/-- Settles O26: each request is its opcode's one act. -/
theorem ownerScorerAndStrandRequests : Obligations.OwnerScorerAndStrandRequests := by
  refine ⟨fun s r => ⟨fun h hd => ?foreign, fun h ht hr hp => ?token, fun h ht hr => ?shut, fun t h hl hw => ?soon, fun h hl => ?timeSet,
    fun h hr => ?noRole, fun h hr => ?withdraws, fun d h hr hg hd => ?offers, fun h hr => ?notPrimary, fun h hr hg hn => ?givesUp,
    fun h hr hg => ?waits, fun h hr hg => ?leaving, ?supply⟩, fun s r => ⟨fun h hf he => ?isOn, fun h hf he => ?isOff,
    fun h hf he hd ho => ?warms, fun h hf he hq hl => ?stops, fun h hf hu hd hv => ?cut, fun h hf hk ho hr ht => ?sentDark,
    fun h hf hu => ?isUp, fun h hf hk hd hm hs => ?probes⟩⟩
  case foreign =>
    refine effect_of_reply rfl h fun q o => ?_
    change State.doDebugToken _ _ = _
    have fault : State.tokenFault { s with damem := q, out := o } r = some 0 := if_pos hd
    simp only [State.doDebugToken, State.entryOf, fault]
  case token =>
    obtain ⟨q, o, e⟩ := s.accepted_form 0x0104 r
    refine effect_of_request rfl h ?_
    rw [e]
    change State.doDebugToken _ _ = _
    have fault : ∀ d x, State.tokenFault { s with damem := d, out := x } r = none := fun _ _ => ht
    simp only [State.doDebugToken, State.entryOf, fault]
    exact if_pos ⟨hr, by simp [hp]⟩
  case shut =>
    refine effect_of_reply rfl h fun q o => ?_
    change State.doDebugToken _ _ = _
    have fault : State.tokenFault { s with damem := q, out := o } r = none := ht
    simp only [State.doDebugToken, State.entryOf, fault]
    exact if_neg fun k => hr.elim (· k.1) k.2
  case soon =>
    obtain ⟨q, o, -, e⟩ := s.accepted_mailbox 0x0105 r
    have pos : 0 < 100 * 32768 - (s.now - t) * 1000 := by omega
    have wait : (match s.clocks.lastSet.map fun t => (s.now - t) * 1000 with
        | some t => 100 * 32768 - t
        | none => 0) = 100 * 32768 - (s.now - t) * 1000 := by rw [hl, Option.map_some]
    revert pos wait
    generalize 100 * 32768 - (s.now - t) * 1000 = n
    intro pos wait
    obtain ⟨one, low, high⟩ := hint_bounds pos
    refine ⟨_, one, low, high, effect_of_request rfl h ?_⟩
    rw [e]
    exact (State.doTimeSet_eq { s with damem := q, out := o } _ n wait).trans (if_pos pos)
  case timeSet =>
    obtain ⟨q, o, -, e⟩ := s.accepted_mailbox 0x0105 r
    refine effect_of_request rfl h ?_
    rw [e]
    refine (State.doTimeSet_eq _ _ 0 ?_).trans (if_neg (Nat.lt_irrefl 0))
    change (match s.clocks.lastSet.map fun t => (s.now - t) * 1000 with
        | some t => 100 * 32768 - t
        | none => 0) = 0
    cases hs : s.clocks.lastSet with
    | none => rfl
    | some t => exact Nat.sub_eq_zero_of_le (hl t hs)
  case noRole =>
    exact effect_of_reply rfl h fun _ _ => State.doStewardRelease_none hr
  case withdraws =>
    obtain ⟨q, o, -, e⟩ := s.accepted_mailbox 0x0303 r
    obtain ⟨u, run, stew⟩ := State.doStewardRelease_standby (s := { s with damem := q, out := o }) (f := s.entryOf 0x0303 r false) hr
    exact ⟨u, effect_of_request rfl h ((congrArg (State.perform · _) e).trans run), stew⟩
  case offers =>
    obtain ⟨q, o, mem, e⟩ := s.accepted_mailbox 0x0303 r
    obtain ⟨seq, out, role, damem⟩ := State.doStewardRelease_offers (s := { s with damem := q, out := o }) (f := s.entryOf 0x0303 r false)
      hr hg hd
    refine ⟨_, effect_of_request rfl h (congrArg (State.perform · _) e), seq, out, role, ?_⟩
    change ∃ g ∈ (State.doStewardRelease { s with damem := q, out := o } (s.entryOf 0x0303 r false)).damem.inflight, _
    rw [damem]
    exact State.mem_hold mem
  case givesUp =>
    obtain ⟨q, o, -, e⟩ := s.accepted_mailbox 0x0303 r
    refine effect_of_request rfl h ?_
    rw [e]
    exact State.doStewardRelease_alone hr hg hn
  case waits =>
    obtain ⟨q, o, -, e⟩ := s.accepted_mailbox 0x0303 r
    refine effect_of_request rfl h ?_
    rw [e]
    exact State.doStewardRelease_givingUp hr hg
  case notPrimary =>
    refine effect_of_reply rfl h fun q o => ?_
    have takes : ¬ State.takesSupply { s with damem := q, out := o } = true := by simp [State.takesSupply, hr]
    change State.doCduSetpoint _ _ = _
    rw [State.doCduSetpoint, State.supplySet, if_pos takes]
  case leaving =>
    refine effect_of_reply rfl h fun q o => ?_
    have giving : State.givingUp { s with damem := q, out := o } = true := hg
    have takes : ¬ State.takesSupply { s with damem := q, out := o } = true := by simp [State.takesSupply, giving]
    change State.doCduSetpoint _ _ = _
    rw [State.doCduSetpoint, State.supplySet, if_pos takes]
  case supply =>
    refine ⟨fun h ht hj => ?_, fun h ht hj => ?_⟩
    · obtain ⟨q, o, -, e⟩ := s.accepted_mailbox 0x0304 r
      refine effect_of_request rfl h ?_
      rw [e]
      have takes : ¬ ¬ State.takesSupply { s with damem := q, out := o } = true := not_not.2 ht
      have judge : State.supplyJudge { s with damem := q, out := o } (sfld r.body 0 4) = .accepted := hj
      change State.doCduSetpoint _ _ = _
      simp only [State.doCduSetpoint, State.supplySet, State.entryOf, if_neg takes, judge]
      rfl
    · refine effect_of_reply rfl h fun q o => ?_
      have takes : ¬ ¬ State.takesSupply { s with damem := q, out := o } = true := not_not.2 ht
      have judge : State.supplyJudge { s with damem := q, out := o } (sfld r.body 0 4) = .parent := hj
      change State.doCduSetpoint _ _ = _
      simp only [State.doCduSetpoint, State.supplySet, State.entryOf, if_neg takes, judge]
  case isOn =>
    refine effect_of_reply rfl h fun q o => ?_
    change State.doWmkSet _ _ = _
    exact if_pos (by simp [State.entryOf, hf, he])
  case isOff =>
    refine effect_of_reply rfl h fun q o => ?_
    change State.doWmkSet _ _ = _
    exact if_pos (by simp [State.entryOf, hf, he])
  case warms =>
    obtain ⟨q, o, mem, e⟩ := s.accepted_mailbox 0x0401 r
    obtain ⟨c, p, o', run⟩ := State.doWmkSet_on (s := { s with damem := q, out := o }) (f := s.entryOf 0x0401 r false) hf he hd ho
    refine ⟨_, effect_of_request rfl h ((congrArg (State.perform · _) e).trans run), rfl, rfl, rfl,
      rfl, ?_, rfl⟩
    exact State.mem_hold (s := { s with damem := q, out := o }) mem
  case stops =>
    obtain ⟨q, o, mem, e⟩ := s.accepted_mailbox 0x0401 r
    have run := State.doWmkSet_off (s := { s with damem := q, out := o }) (f := s.entryOf 0x0401 r false) hf he (queue_empty hq) hl
    refine ⟨_, effect_of_request rfl h ((congrArg (State.perform · _) e).trans run), rfl, ?_, rfl⟩
    exact State.mem_hold (s := { s with damem := q, out := o }) mem
  case cut =>
    refine effect_of_reply rfl h fun q o => ?_
    change State.doStrandSet _ _ = _
    exact (if_pos hf).trans (if_pos ⟨hu, hd, Option.isNone_iff_eq_none.2 hv⟩)
  case sentDark =>
    obtain ⟨q, o, -, e⟩ := s.accepted_mailbox 0x0402 r
    obtain ⟨c, d, o', run⟩ := State.doStrandSet_off (s := { s with damem := q, out := o }) (f := s.entryOf 0x0402 r false) hf rfl hk ho hr ht
    have there := Table.at_upd_same s.mesh.strand hk Strand.disabledDark {}
    refine ⟨_, effect_of_request rfl h ((congrArg (State.perform · _) e).trans run),
      congrArg Strand.en there, congrArg Strand.state there, congrArg Strand.lastDown there, congrArg Strand.presence there,
      fun k hn => Table.at_upd_other _ (Ne.symm hn) _ _⟩
  case isUp =>
    refine effect_of_reply rfl h fun q o => ?_
    change State.doStrandSet _ _ = _
    exact (if_neg (by simp [State.entryOf, hf])).trans (if_pos hu)
  case probes =>
    obtain ⟨q, o, mem, e⟩ := s.accepted_mailbox 0x0402 r
    obtain ⟨c, d, o', run, held⟩ := State.doStrandSet_probes (s := { s with damem := q, out := o }) (f := s.entryOf 0x0402 r false)
      hf rfl hk hd hm hs
    have there := Table.at_upd_same s.mesh.strand hk (fun t => { t with en := true, probing := true, tx := .probe, state := .dark }) {}
    refine ⟨_, effect_of_request rfl h ((congrArg (State.perform · _) e).trans run),
      congrArg Strand.en there, congrArg Strand.state there, congrArg Strand.probing there, congrArg Strand.tx there,
      fun k hn => Table.at_upd_other _ (Ne.symm hn) _ _, ?_⟩
    change ∃ g ∈ d.inflight, _
    rw [held]
    exact State.mem_hold (s := { s with damem := q, out := o }) mem

end Sys2Proof.Machine
end

section
/-! SUPPORT. LOOP_COEF, PLANISH_RUN and FIL_SECTOR (O27). -/
namespace Sys2Proof.Machine

section
variable {s a : State} {r : Req} {f : InFlight} {n : Nat}

/-! ### LOOP_COEF -/

/-- An empty slot takes no coefficients. -/
theorem State.doLoopCoef_empty (h : (a.slotAt (f.req.f 0 1)).cfg.law = 0) : a.doLoopCoef f = a.answer f .precond 0 := if_pos h

/-- While a swap waits, only words of the active bank are written. -/
theorem State.doLoopCoef_waits (hl : (a.slotAt (f.req.f 0 1)).cfg.law ≠ 0) (hm : f.req.f 1 1 ≠ 2)
    (hp : (a.slotAt (f.req.f 0 1)).swapPend = true) : a.doLoopCoef f = a.answer f .precond 0xFFFF := (if_neg hl).trans (if_pos ⟨hm, hp⟩)

/-- The inactive bank is whole and keeps the slot's shape. -/
abbrev Slot.swapGood (x : Slot) : Prop := bankGood x.inactive ∧ hdrIn x.inactive = x.cfg.nin ∧ hdrOut x.inactive = x.cfg.nout

/-- A swap needs an inactive bank that is whole and keeps the slot's shape. -/
theorem State.doLoopCoef_swap (hl : (a.slotAt (f.req.f 0 1)).cfg.law ≠ 0) (hp : (a.slotAt (f.req.f 0 1)).swapPend = false)
    (hm : f.req.f 1 1 = 1) : a.doLoopCoef f =
      if (a.slotAt (f.req.f 0 1)).swapGood then (a.updSlot (f.req.f 0 1) fun x => { x with swapPend := true }).answer f .ok
      else a.answer f .precond 0xFFFF :=
  (if_neg hl).trans ((if_neg (by simp [hp])).trans (if_pos hm))

/-- The words of the request go into bank B, where that is the bank which is written. -/
def Slot.writesB (x : Slot) (mode : Nat) : Bool := if mode = 0 then !x.bank else x.bank

/-- The values that a LOOP_COEF brings. -/
def Req.coefs (r : Req) : List (BitVec 32) := (List.range (r.f 4 2)).map fun i => BitVec.ofNat 32 (r.f (8 + 4 * i) 4)

/-- A write of coefficients reaches the one bank. -/
theorem State.doLoopCoef_writes (hl : (a.slotAt (f.req.f 0 1)).cfg.law ≠ 0)
    (hp : f.req.f 1 1 = 2 ∨ (a.slotAt (f.req.f 0 1)).swapPend = false) (hm : f.req.f 1 1 ≠ 1) : a.doLoopCoef f =
      (a.updSlot (f.req.f 0 1) fun x =>
        if (a.slotAt (f.req.f 0 1)).writesB (f.req.f 1 1) then { x with bankB := writeBank x.bankB (f.req.f 2 2) f.req.coefs }
        else { x with bankA := writeBank x.bankA (f.req.f 2 2) f.req.coefs }).answer f .ok :=
  (if_neg hl).trans ((if_neg fun k => hp.elim (fun h => k.1 h) fun h => by simp [h] at k).trans (if_neg hm))

/-- Where bank B is the one to write, it takes the words. -/
theorem State.doLoopCoef_writesB (hl : (a.slotAt (f.req.f 0 1)).cfg.law ≠ 0)
    (hp : f.req.f 1 1 = 2 ∨ (a.slotAt (f.req.f 0 1)).swapPend = false) (hm : f.req.f 1 1 ≠ 1)
    (hb : (a.slotAt (f.req.f 0 1)).writesB (f.req.f 1 1) = true) : a.doLoopCoef f =
      (a.updSlot (f.req.f 0 1) fun x => { x with bankB := writeBank x.bankB (f.req.f 2 2) f.req.coefs }).answer f .ok := by
  rw [State.doLoopCoef_writes hl hp hm, hb]
  rfl

/-- Where bank A is the one to write, it takes the words. -/
theorem State.doLoopCoef_writesA (hl : (a.slotAt (f.req.f 0 1)).cfg.law ≠ 0)
    (hp : f.req.f 1 1 = 2 ∨ (a.slotAt (f.req.f 0 1)).swapPend = false) (hm : f.req.f 1 1 ≠ 1)
    (hb : (a.slotAt (f.req.f 0 1)).writesB (f.req.f 1 1) = false) : a.doLoopCoef f =
      (a.updSlot (f.req.f 0 1) fun x => { x with bankA := writeBank x.bankA (f.req.f 2 2) f.req.coefs }).answer f .ok := by
  rw [State.doLoopCoef_writes hl hp hm, hb]
  rfl

/-! ### FIL_SECTOR -/

/-- The device is in a state in which no sector is loaded. -/
abbrev State.filOff (s : State) : Prop := s.dev.state = .dormant ∨ s.dev.state = .safe ∨ s.dev.state = .held

/-- The image that a LOAD brings. -/
def Req.image (r : Req) : Image := imageOf (bytesAt r.bulkIn 0 r.dataLen)

/-- What a check of an image finds rests on OTP alone, but for the body, which a sector's image carries itself. -/
theorem State.imageDetail_of_otp {s t : State} (h : s.otp = t.otp) (i : Image) : s.imageDetail .sector i = t.imageDetail .sector i := by
  have key (b : Bool) (n : Nat) : s.keyHash b n = t.keyHash b n := by simp only [State.keyHash, h]
  have body : s.bodyGood .sector i = t.bodyGood .sector i := rfl
  simp only [State.imageDetail, key, body, h]

/-- Accepting a request leaves what a check of an image finds. -/
theorem State.imageDetail_accepted (s : State) (c : Nat) (r : Req) (i : Image) :
    (s.accepted c r).imageDetail .sector i = s.imageDetail .sector i :=
  State.imageDetail_of_otp (State.of_accepted State.otp (fun _ _ => rfl) c) i

/-- A LOAD without a sector in its image is recorded and refused. -/
theorem State.doFilSector_noSector (hm : f.req.f 1 1 = 0) (hi : secEntryAt f.req.image.body 0 = none) : a.doFilSector f =
    (a.log 0xA005 (param [(1, 4), (1, if a.imageDetail .sector f.req.image = 0 then 10 else a.imageDetail .sector f.req.image)])).answer f
      .precond 0xFFFF := by
  unfold State.doFilSector
  dsimp only
  rw [hm]
  change secEntryAt (imageOf (bytesAt f.req.bulkIn 0 f.req.dataLen)).body 0 = _ at hi
  rw [hi]
  rfl

/-- A LOAD with a sector is judged step by step. -/
theorem State.doFilSector_load {i : SecImage} (hm : f.req.f 1 1 = 0) (hi : secEntryAt f.req.image.body 0 = some i) : a.doFilSector f =
    (let d := a.imageDetail .sector f.req.image
     if d ≠ 0 then (a.log 0xA005 (param [(1, 4), (1, d)])).answer f .precond 0xFFFF
     else if ¬ a.imageInEnvelope i then a.answer f .deniedEnvelope 0xFFFF
     else if ¬ a.secImageFits (f.req.f 0 1) i then a.answer f .precond (f.req.at' 0)
     else if a.filOff then a.answer f .precond 0xFFFF
     else ((a.updSector (f.req.f 0 1) fun x => { x with shadow := some i }).hold f (.swap (f.req.f 0 1))).filNext) := by
  unfold State.doFilSector
  dsimp only
  rw [hm]
  change secEntryAt (imageOf (bytesAt f.req.bulkIn 0 f.req.dataLen)).body 0 = _ at hi
  rw [hi]
  rfl

/-- DISABLE of a sector. -/
theorem State.doFilSector_disable (hm : f.req.f 1 1 = 1) : a.doFilSector f =
    if a.filOff then a.answer f .precond 0xFFFF
    else (if (a.sectorAt (f.req.f 0 1)).state = .disabled ∨ (a.sectorAt (f.req.f 0 1)).state = .empty then a
      else a.secDisable (f.req.f 0 1)).done' f (leBytes 4 0) := by
  unfold State.doFilSector
  dsimp only
  rw [hm]
  rfl

/-- ENABLE of a sector. -/
theorem State.doFilSector_enable (hm : f.req.f 1 1 = 2) : a.doFilSector f =
    if (a.sectorAt (f.req.f 0 1)).state = .empty ∨ a.filOff then
      a.answer f .precond (f.req.at' 0)
    else if (a.sectorAt (f.req.f 0 1)).state = .running then a.done' f (leBytes 4 0)
    else ((a.updSector (f.req.f 0 1) fun x => { x with shadow := x.image }).hold f (.swap (f.req.f 0 1))).filNext := by
  unfold State.doFilSector
  dsimp only
  rw [hm]
  rfl

/-- A running sector that is disabled keeps its image. -/
theorem State.secDisable_running (hn : n < 16) (h : (a.sectorAt n).state = .running) :
    ((a.secDisable n).sectorAt n).state = .disabled ∧ ((a.secDisable n).sectorAt n).image = (a.sectorAt n).image := by
  have at_ := State.sectorAt_updSector_same a hn fun x => { x with release := 0, releasing := false }
  unfold State.secDisable State.sectorTo
  dsimp only
  rw [if_neg (by rw [at_, h]; exact nofun)]
  simp only [State.sectorAt, State.log_fil]
  simp only [State.updSector, Table.upd_upd, Table.at_upd_same _ hn, and_self]

end

/-- Settles O27: each form of the three requests is one branch of its opcode. -/
theorem loopPlanishAndFabricRequests : Obligations.LoopPlanishAndFabricRequests := by
  refine ⟨fun s r => ?coefs, fun s r => ?sectors⟩
  case coefs =>
    intro n x vals a f
    have slot : a.slotAt n = x := State.of_accepted (fun s => s.slotAt n) (fun _ _ => rfl) _
    have row {p : Nat × (Req → Instr)} (hp : p ∈ damemRows) (hc : p.1 = 0x0601) (h : Served s 0x0601 r) {u : State}
        (run : a.doLoopCoef f = u) : Effect (p.2 r) s u := effect_of_request ((exec_damemRow s r p hp).1.trans (by rw [hc])) h run
    refine ⟨fun p hp hc h hl => row hp hc h (State.doLoopCoef_empty (slot ▸ hl)),
      fun p hp hc h hl hm hw => row hp hc h (State.doLoopCoef_waits (slot ▸ hl) hm (slot ▸ hw)),
      fun h hl hw hm hb => effect_of_request rfl h (State.doLoopCoef_writesB (slot ▸ hl) (.inr (slot ▸ hw)) ?_ ?_),
      fun h hl hw hm hb => effect_of_request rfl h (State.doLoopCoef_writesA (slot ▸ hl) (.inr (slot ▸ hw)) ?_ ?_),
      fun h hl hw hm hg hi ho => effect_of_request rfl h ((State.doLoopCoef_swap (slot ▸ hl) (slot ▸ hw) hm).trans ?_),
      fun h hl hw hm hg => effect_of_request rfl h ((State.doLoopCoef_swap (slot ▸ hl) (slot ▸ hw) hm).trans ?_),
      fun h hl hm hb => effect_of_request rfl h (State.doLoopCoef_writesA (slot ▸ hl) (.inl hm) ?_ ?_),
      fun h hl hm hb => effect_of_request rfl h (State.doLoopCoef_writesB (slot ▸ hl) (.inl hm) ?_ ?_),
      fun h hu => effect_of_request rfl h ?_, fun h hu => effect_of_request rfl h ?_⟩
    · exact fun k => absurd (hm.symm.trans k) (by decide)
    · change Slot.writesB (a.slotAt n) (r.f 1 1) = true
      rw [slot, Slot.writesB, hm, hb]; rfl
    · exact fun k => absurd (hm.symm.trans k) (by decide)
    · change Slot.writesB (a.slotAt n) (r.f 1 1) = false
      rw [slot, Slot.writesB, hm, hb]; rfl
    · exact if_pos (show (a.slotAt n).swapGood from slot ▸ ⟨hg, hi, ho⟩)
    · exact if_neg (show ¬ (a.slotAt n).swapGood from slot ▸ fun k => Bool.false_ne_true (hg.symm.trans k.1))
    · exact fun k => absurd (hm.symm.trans k) (by decide)
    · change Slot.writesB (a.slotAt n) (r.f 1 1) = false
      rw [slot, Slot.writesB, hm]; exact hb
    · exact fun k => absurd (hm.symm.trans k) (by decide)
    · change Slot.writesB (a.slotAt n) (r.f 1 1) = true
      rw [slot, Slot.writesB, hm]; exact hb
    · have used : (s.accepted 0x0501 r).itemUsed (r.f 0 2) (r.f 2 2) = true :=
        (State.of_accepted (fun s => s.itemUsed (r.f 0 2) (r.f 2 2)) (fun _ _ => rfl) _).trans hu
      exact if_pos used
    · have used : (s.accepted 0x0501 r).itemUsed (r.f 0 2) (r.f 2 2) = false :=
        (State.of_accepted (fun s => s.itemUsed (r.f 0 2) (r.f 2 2)) (fun _ _ => rfl) _).trans hu
      exact if_neg (Bool.eq_false_iff.1 used)
  case sectors =>
    intro n x a f im off
    have sector : a.sectorAt n = x := State.of_accepted (fun s => s.sectorAt n) (fun _ _ => rfl) _
    have dev : a.dev = s.dev := State.of_accepted State.dev (fun _ _ => rfl) _
    have detail : a.imageDetail .sector im = s.imageDetail .sector im := s.imageDetail_accepted _ r im
    have inside (i) : a.imageInEnvelope i = s.imageInEnvelope i := State.of_accepted (fun s => s.imageInEnvelope i) (fun _ _ => rfl) _
    have fits (i) : a.secImageFits n i = s.secImageFits n i := State.of_accepted (fun s => s.secImageFits n i) (fun _ _ => rfl) _
    have closed : a.filOff ↔ off := by simp only [State.filOff, dev, off]
    have run : a.perform f = a.doFilSector f := rfl
    have act {i : Instr} (row : exec i s = s.finish (s.evDamem 0x0701 r)) (h : Served s 0x0701 r) {u : State} (e : a.doFilSector f = u) :
        Effect i s u := effect_of_request row h (run.trans e)
    refine ⟨fun i h hm hi hd he hf ho => ?_, fun i d h hm hi hd hn => ?_, fun h hm hi => ?_, fun i h hm hi hd he hf => ?_,
      fun i h hm hi hd he hf ho => ?_, fun i h hm hi hd he => ?_, fun h hm ho hr hn => ?_, fun h hm ho hr => ?_, fun h hm ho hr => ?_,
      fun h hm ho hr => ?_, fun h hm hr => ?_, fun h hm ho => ?_⟩
    · have good : ¬ a.imageDetail .sector im ≠ 0 := not_not.2 (detail.trans hd)
      refine act rfl h ((State.doFilSector_load (a := a) (f := f) hm hi).trans ((if_neg good).trans ?_))
      exact (if_neg (not_not.2 ((inside i).trans he))).trans ((if_neg (not_not.2 ((fits i).trans hf))).trans (if_neg (mt closed.1 ho)))
    · obtain rfl : a.imageDetail .sector im = d := detail.trans hd
      exact act rfl h ((State.doFilSector_load (a := a) (f := f) hm hi).trans (if_pos hn))
    · dsimp only
      rw [← detail]
      exact act rfl h (State.doFilSector_noSector (a := a) (f := f) hm hi)
    · have good : ¬ a.imageDetail .sector im ≠ 0 := not_not.2 (detail.trans hd)
      refine act rfl h ((State.doFilSector_load (a := a) (f := f) hm hi).trans ((if_neg good).trans ?_))
      exact (if_neg (not_not.2 ((inside i).trans he))).trans (if_pos (Bool.eq_false_iff.1 ((fits i).trans hf)))
    · have good : ¬ a.imageDetail .sector im ≠ 0 := not_not.2 (detail.trans hd)
      refine act rfl h ((State.doFilSector_load (a := a) (f := f) hm hi).trans ((if_neg good).trans ?_))
      exact (if_neg (not_not.2 ((inside i).trans he))).trans ((if_neg (not_not.2 ((fits i).trans hf))).trans (if_pos (closed.2 ho)))
    · have good : ¬ a.imageDetail .sector im ≠ 0 := not_not.2 (detail.trans hd)
      refine act rfl h ((State.doFilSector_load (a := a) (f := f) hm hi).trans ((if_neg good).trans ?_))
      exact if_pos (Bool.eq_false_iff.1 ((inside i).trans he))
    · obtain ⟨state, image⟩ := State.secDisable_running (a := a) hn (sector ▸ hr)
      refine ⟨a.secDisable n, act rfl h ((State.doFilSector_disable (a := a) (f := f) hm).trans ?_), state, sector ▸ image⟩
      refine (if_neg (mt closed.1 ho)).trans (congrArg (State.done' · f (leBytes 4 0)) (if_neg ?_))
      change ¬ ((a.sectorAt n).state = _ ∨ (a.sectorAt n).state = _)
      rw [sector, hr]
      exact fun k => k.elim nofun nofun
    · refine act rfl h ((State.doFilSector_disable (a := a) (f := f) hm).trans ?_)
      exact (if_neg (mt closed.1 ho)).trans (congrArg (State.done' · f (leBytes 4 0)) (if_pos (sector ▸ hr)))
    · refine act rfl h ((State.doFilSector_enable (a := a) (f := f) hm).trans ?_)
      have state : (a.sectorAt n).state = .disabled := sector ▸ hr
      exact (if_neg fun k => k.elim (fun k => absurd (state.symm.trans k) nofun) (mt closed.1 ho)).trans
        (if_neg fun k => absurd (state.symm.trans k : SecState.disabled = .running) nofun)
    · refine act rfl h ((State.doFilSector_enable (a := a) (f := f) hm).trans ?_)
      have state : (a.sectorAt n).state = .running := sector ▸ hr
      exact (if_neg fun k => k.elim (fun k => absurd (state.symm.trans k) nofun) (mt closed.1 ho)).trans (if_pos state)
    · refine act rfl h ((State.doFilSector_enable (a := a) (f := f) hm).trans (if_pos ?_))
      exact hr.imp (fun k => (congrArg Sector.state sector).trans k) closed.2
    · exact act rfl h ((State.doFilSector_disable (a := a) (f := f) hm).trans (if_pos (closed.2 ho)))

end Sys2Proof.Machine
end

section
/-! SUPPORT. Images, rings, flash and updates: their requests (O29). -/
namespace Sys2Proof.Machine

section
variable {s a : State} {c p n : Nat} {r : Req} {f : InFlight}

/-- A partition whose state is against a judged request has it refused. -/
theorem Judged.refused {i : Instr} (row : exec i s = s.finish (s.evDamem c r)) (h : Judged s c r) (hc : c ≠ 0x0101)
    (hr : s.partRefuses c r = true) : Effect i s (s.answersWith c r .precond 0xFFFF) := by
  have refuses : (s.accepted c r).partRefuses c r = true := (State.of_accepted (fun s => s.partRefuses c r) (fun _ _ => rfl) c).trans hr
  exact effect_of row (h.evDamem.trans ((if_neg hc).trans (State.contend_refused refuses)))

/-- A served request is not one that its partition's state is against, once it is accepted. -/
theorem Served.allowed_accepted (h : Served s c r) : (s.accepted c r).partRefuses c r = false := by
  obtain ⟨-, allowed, -⟩ := h
  exact allowed

/-- Nor is it before. -/
theorem Served.allowed (h : Served s c r) : s.partRefuses c r = false :=
  (State.of_accepted (fun s => s.partRefuses c r) (fun _ _ => rfl) c).symm.trans h.allowed_accepted

/-! ### PART_IMAGE, RING_SETUP and RING_TEARDOWN -/

/-- The partition opcodes are acts of their own. -/
theorem State.perform_of_general (h : f.opcode < 0x0300) : a.perform f = a.performGeneral f := if_pos h

/-- The Calender's, the flash's and the update's opcodes are acts of their own. -/
theorem State.perform_of_flash (h : 0x0800 ≤ f.opcode) : a.perform f = a.performFlash f := by
  rw [State.perform, if_neg (by omega), if_neg (by omega)]

theorem State.perform_partImage (h : f.opcode = 0x0208) : a.perform f = a.doPartImage f := by
  rw [State.perform_of_general (by omega)]
  simp only [State.performGeneral, h]

theorem State.perform_ringSetup (h : f.opcode = 0x0209) : a.perform f = a.doRingSetup f := by
  rw [State.perform_of_general (by omega)]
  simp only [State.performGeneral, h]

theorem State.perform_ringTeardown (h : f.opcode = 0x020A) : a.perform f = a.doRingTeardown f := by
  rw [State.perform_of_general (by omega)]
  simp only [State.performGeneral, h]

/-- The image that a PART_IMAGE brings, in its partition's highest granule. -/
def Req.kimage (r : Req) (g : Nat) : KImage :=
  let b := bytesAt r.bulkIn 0 r.dataLen
  { granule := g, entries := (List.range (fld b 6 2)).map fun i => fld b (0x40 + 4 * i) 4, code := bytesAt b (codeAt b) (fld b 8 4),
    total := r.dataLen }

/-- An image that is malformed is refused with where. -/
theorem State.doPartImage_bad {d : Nat} (h : imageFault (bytesAt f.req.bulkIn 0 f.req.dataLen) f.req.dataLen = some d) :
    a.doPartImage f = a.answer f .badArg d := by
  unfold State.doPartImage
  dsimp only
  rw [h]

/-- A partition without granules has no place for an image. -/
theorem State.doPartImage_noGranule (h : imageFault (bytesAt f.req.bulkIn 0 f.req.dataLen) f.req.dataLen = none)
    (hg : (a.partAt (f.req.f 0 1)).granules.max? = none) : a.doPartImage f = a.answer f .precond 0xFFFF := by
  unfold State.doPartImage
  dsimp only
  rw [h]
  dsimp only
  rw [hg]

/-- The device with the image in the last 16 MiB of the granule, and its partition told. -/
def State.imagePut (a : State) (p g : Nat) (r : Req) : State :=
  (((a.markBlocks (((g + 1) * granuleSize - 2 ^ 24) / 65536, 256)).memWrite ((g + 1) * granuleSize - 2 ^ 24)
    (bytesAt r.bulkIn 0 r.dataLen)).updPart p fun x => { x with image := some (r.kimage g) }).dropCaches p

/-- An image that is in order goes into a stopped partition's highest granule. -/
theorem State.doPartImage_puts {g : Nat} (h : imageFault (bytesAt f.req.bulkIn 0 f.req.dataLen) f.req.dataLen = none)
    (hg : (a.partAt (f.req.f 0 1)).granules.max? = some g) (hs : (a.partAt (f.req.f 0 1)).state = .stopped) :
    a.doPartImage f = (a.imagePut (f.req.f 0 1) g f.req).answer f .ok := by
  unfold State.doPartImage
  dsimp only
  rw [h]
  dsimp only
  rw [hg]
  exact if_neg (not_not.2 hs)

/-- Putting an image tells its partition alone. -/
theorem State.imagePut_partAt {g : Nat} (hp : p < 16) : (a.imagePut p g r).partAt p = { a.partAt p with image := some (r.kimage g) } :=
  State.partAt_updPart_same _ hp _

/-- Every other partition stays as it was. -/
theorem State.imagePut_partAt_other {q g : Nat} (hq : q ≠ p) : (a.imagePut p g r).partAt q = a.partAt q :=
  State.partAt_updPart_other _ (Ne.symm hq) _

/-- A ring that is set up, or whose partition is against it, is not set up. -/
theorem State.doRingSetup_refused (h : (a.ringAt (f.req.f 1 1)).setup = true) : a.doRingSetup f = a.answer f .precond 0xFFFF :=
  if_pos (.inr (.inr h))

/-- A ring that is not set up takes what the request says. -/
theorem State.doRingSetup_sets (ha : a.partRefuses 0x0209 f.req = false) (h : (a.ringAt (f.req.f 1 1)).setup = false) :
    a.doRingSetup f = (((a.updRing (f.req.f 1 1) fun _ =>
      { setup := true, log2 := f.req.f 2 1, spillEn := bitOf (f.req.f 3 1) 0, spillLog2 := f.req.f 0x20 1, msix := f.req.f 4 2,
        subBase := f.req.f 8 8, cplBase := f.req.f 0x10 8, spillBase := f.req.f 0x18 8, drainBound := f.req.f 0x24 4 }).ringRefresh
          (f.req.f 1 1)).answer f .ok) := by
  have allowed : ¬ ((a.partAt (f.req.f 0 1)).state = .none ∨ a.partBusy (f.req.f 0 1) = true) := by simpa [State.partRefuses] using ha
  refine if_neg ?_
  rintro (k | k | k)
  · exact allowed (.inl k)
  · exact allowed (.inr k)
  · exact Bool.false_ne_true (h.symm.trans k)

/-- A ring that still holds sheets of a partition that runs is not torn down. -/
theorem State.doRingTeardown_refused (h : ¬ ((a.partAt (f.req.f 0 1)).state = .stopped ∨ (a.ringAt (f.req.f 1 1)).disabled = true ∨
    (a.ringAt (f.req.f 1 1)).sheets = [])) : a.doRingTeardown f = a.answer f .precond 0xFFFF := if_pos (.inr (.inr h))

/-- Any other ring is torn down, where it is set up. -/
theorem State.doRingTeardown_tears (hn : (a.partAt (f.req.f 0 1)).state ≠ .none) (hb : a.partBusy (f.req.f 0 1) = false)
    (h : (a.partAt (f.req.f 0 1)).state = .stopped ∨ (a.ringAt (f.req.f 1 1)).disabled = true ∨ (a.ringAt (f.req.f 1 1)).sheets = []) :
    a.doRingTeardown f =
      (if (a.ringAt (f.req.f 1 1)).setup then (a.ringTear (f.req.f 1 1)).ringRefresh (f.req.f 1 1) else a).answer f .ok := by
  refine if_neg ?_
  rintro (k | k | k)
  · exact hn k
  · exact Bool.false_ne_true (hb.symm.trans k)
  · exact k h

theorem State.perform_calClear (h : f.opcode = 0x0802) : a.perform f = a.doCalClear f := by
  rw [State.perform_of_flash (by omega)]
  simp only [State.performFlash, h]

theorem State.perform_flashErase (h : f.opcode = 0x0903) : a.perform f = a.doFlashErase f := by
  rw [State.perform_of_flash (by omega)]
  simp only [State.performFlash, h]

theorem State.perform_flashWrite (h : f.opcode = 0x0904) : a.perform f = a.doFlashWrite f := by
  rw [State.perform_of_flash (by omega)]
  simp only [State.performFlash, h]

theorem State.perform_dirSet (h : f.opcode = 0x0906) : a.perform f = a.doDirSet f := by
  rw [State.perform_of_flash (by omega)]
  simp only [State.performFlash, h]

theorem State.perform_provision (h : f.opcode = 0x0907) : a.perform f = a.doProvision f := by
  rw [State.perform_of_flash (by omega)]
  simp only [State.performFlash, h]

theorem State.perform_recover (h : f.opcode = 0x0908) : a.perform f = a.doRecover f := by
  rw [State.perform_of_flash (by omega)]
  simp only [State.performFlash, h]

theorem State.perform_fwActivate (h : f.opcode = 0x0909) : a.perform f = a.doFwActivate f := by
  rw [State.perform_of_flash (by omega)]
  simp only [State.performFlash, h]

theorem State.perform_fwCommit (h : f.opcode = 0x090A) : a.perform f = a.doFwCommit f := by
  rw [State.perform_of_flash (by omega)]
  simp only [State.performFlash, h]

/-- A table of OTP without an owner's hash. -/
theorem ownHash_none {t : Vector (Option (List Byte)) 4} : t.any (·.isSome) = false ↔ ∀ k, k < 4 → Table.at t k none = none := by
  simp only [Vector.any_eq_false, Table.at]
  refine forall_congr' fun k => forall_congr' fun hk => ?_
  rw [Vector.getElem?_eq_getElem hk, Option.getD_some]
  exact Option.not_isSome_iff_eq_none

/-- The action of a flash opcode is recorded, its operation begun, and its request held. -/
def State.flashStarts (a : State) (f : InFlight) (op : FlashOp) : State := (a.logAction f).startFlash f op

/-- A CAL_CLEAR frees records. -/
theorem State.doCalClear_frees (h : f.req.f 4 1 = 0) : a.doCalClear f = (a.calClear (f.req.f 0 4)).answer f .ok :=
  if_neg (by simp [h])

/-- A CAL_CLEAR that formats starts an operation. -/
theorem State.doCalClear_formats (h : f.req.f 4 1 = 1) : a.doCalClear f = a.startFlash f (.calFormat (f.req.f 0 4)) := if_pos h

/-- How much a FLASH_ERASE takes at a time. -/
def Req.eraseSize (r : Req) : Nat := if r.f 4 1 = 1 then 0x10000 else 0x1000

/-- Bytes of an active image are not erased, but in HELD. -/
theorem State.doFlashErase_refused (hm : a.heldMode = false) (h : a.touchesActive (f.req.f 0 4) (f.req.eraseSize * f.req.f 6 2) = true) :
    a.doFlashErase f = a.answer f .precond 0 := if_pos ⟨by simp [hm], h⟩

/-- Any others are. -/
theorem State.doFlashErase_starts (h : a.heldMode = true ∨ a.touchesActive (f.req.f 0 4) (f.req.eraseSize * f.req.f 6 2) = false) :
    a.doFlashErase f = a.flashStarts f (.erase (f.req.f 0 4) f.req.eraseSize (f.req.f 6 2)) :=
  if_neg fun k => h.elim k.1 fun h => Bool.false_ne_true (h.symm.trans k.2)

/-- Bytes that are not erased are not written. -/
theorem State.doFlashWrite_refused (h : ∃ b ∈ a.flashRead (f.req.f 0 4) f.req.writeData.length, b ≠ 0xFF) :
    a.doFlashWrite f = a.answer f .precond 0 := by
  have dirty : ¬ (a.flashRead (f.req.f 0 4) f.req.writeData.length).all (· == 0xFF) = true := by simpa using h
  by_cases k : ¬ a.heldMode = true ∧ a.touchesActive (f.req.f 0 4) f.req.writeData.length = true
  · exact if_pos k
  · exact (if_neg k).trans (if_pos dirty)

/-- Erased bytes are, outside an active image or in HELD. -/
theorem State.doFlashWrite_starts (h : a.heldMode = true ∨ a.touchesActive (f.req.f 0 4) f.req.writeData.length = false)
    (hb : ∀ b ∈ a.flashRead (f.req.f 0 4) f.req.writeData.length, b = 0xFF) :
    a.doFlashWrite f = a.flashStarts f (.write (f.req.f 0 4) f.req.writeData) := by
  have clean : (a.flashRead (f.req.f 0 4) f.req.writeData.length).all (· == 0xFF) = true := by simpa using hb
  exact (if_neg fun k => h.elim k.1 fun h => Bool.false_ne_true (h.symm.trans k.2)).trans (if_neg (not_not.2 clean))

/-- An owner's hash that stands is not replaced. -/
theorem State.doProvision_refused (h : ∃ k, k < 4 ∧ Table.at a.otp.ownHash k none ≠ none) : a.doProvision f = a.answer f .precond 0xFFFF := by
  refine if_pos ?_
  by_contra hn
  obtain ⟨k, hk, hs⟩ := h
  exact hs (ownHash_none.1 (Bool.eq_false_iff.2 hn) k hk)

/-- Where none stands it is written. -/
theorem State.doProvision_starts (h : ∀ k, k < 4 → Table.at a.otp.ownHash k none = none) :
    a.doProvision f = a.flashStarts f (.provision (bytesAt f.req.body 0 48)) := if_neg (Bool.eq_false_iff.1 (ownHash_none.2 h))

/-! ### Recovery and updates -/

/-- Where nothing can be recovered from. -/
theorem State.doRecover_refused (h : a.heldMode = false ∨ a.dev.trans = true ∨ a.boot.coldNeeded = true ∨
    (a.dev.state = .safe ∧ a.causeHolds = true)) : a.doRecover f = a.answer f .precond 0xFFFF :=
  if_pos (h.imp_left fun h => by simp [h])

/-- HELD, or a SAFE whose causes have gone, with no transition and no cold boot awaited, may be recovered from. -/
def State.mayRecover (a : State) : Prop :=
  a.heldMode = true ∧ a.dev.trans = false ∧ a.boot.coldNeeded = false ∧ (a.dev.state ≠ .safe ∨ a.causeHolds = false)

/-- A retry boots again. -/
theorem State.doRecover_retry (h : a.mayRecover) (hf : f.req.f 0 1 = 0) :
    a.doRecover f = ((a.logAction f).hold f .recover).recoveryBoot := by
  obtain ⟨held, trans, cold, cause⟩ := h
  refine (if_neg ?_).trans (if_pos hf)
  rintro (k | k | k | ⟨k, l⟩)
  · exact k held
  · exact Bool.false_ne_true (trans.symm.trans k)
  · exact Bool.false_ne_true (cold.symm.trans k)
  · exact cause.elim (· k) fun c => Bool.false_ne_true (c.symm.trans l)

/-- The entry that a fallback turns back: the one at fault, where its last good copy is known. -/
def State.fallbackEntry (a : State) : Option Nat :=
  (reasonEntry a.boot.reason).filter fun i => a.boot.dirInUse.isSome && (a.boot.dir.entry i).lgValid

/-- A fallback that has nothing to turn back is refused, whatever the state. -/
theorem State.doRecover_noFallback (hf : f.req.f 0 1 = 1) (he : a.fallbackEntry = none) : a.doRecover f = a.answer f .precond 0xFFFF := by
  unfold State.doRecover
  dsimp only
  split
  · rfl
  · rw [if_neg (by simp [hf])]
    change (match a.fallbackEntry with | none => _ | some _ => _) = _
    rw [he]

/-- A fallback turns its entry back to the last good copy, and boots again. -/
theorem State.doRecover_fallback {i : Nat} (h : a.mayRecover) (hf : f.req.f 0 1 = 1) (he : a.fallbackEntry = some i) :
    a.doRecover f = (((a.logAction f).hold f .recover).dirWrite fun d =>
      d.updEnt i fun x => { x with active := x.lastGood, trial := false }).recoveryBoot := by
  obtain ⟨held, trans, cold, cause⟩ := h
  have may : ¬ (¬ a.heldMode = true ∨ a.dev.trans = true ∨ a.boot.coldNeeded = true ∨ a.dev.state = .safe ∧ a.causeHolds = true) := by
    rintro (k | k | k | ⟨k, l⟩)
    · exact k held
    · exact Bool.false_ne_true (trans.symm.trans k)
    · exact Bool.false_ne_true (cold.symm.trans k)
    · exact cause.elim (· k) fun c => Bool.false_ne_true (c.symm.trans l)
  unfold State.doRecover
  dsimp only
  rw [if_neg may, if_neg (by simp [hf])]
  change (match a.fallbackEntry with | none => _ | some _ => _) = _
  rw [he]

/-- What a check of a stage-1 or a firmware image finds rests on OTP, and on the bytes of the flash that it reads. -/
theorem State.slotDetail_of_otp {s t : State} (ho : s.otp = t.otp) (hf : s.flash = t.flash) (b : Bool) : s.slotDetail b = t.slotDetail b := by
  have key (b : Bool) (n : Nat) : s.keyHash b n = t.keyHash b n := by simp only [State.keyHash, ho]
  have read (x n : Nat) : s.flashRead x n = t.flashRead x n := by simp only [State.flashRead, hf]
  have image (k : ImageKind) : s.imageAt k b = t.imageAt k b := by simp only [State.imageAt, read]
  have detail (k : ImageKind) (hk : ∀ i, s.bodyGood k i = t.bodyGood k i) (i : Image) : s.imageDetail k i = t.imageDetail k i := by
    simp only [State.imageDetail, key, hk, ho]
  have stage1 := detail .stage1 fun _ => rfl
  have firmware := detail .firmware fun _ => rfl
  have one : s.copyDetail .stage1 b = t.copyDetail .stage1 b := by rw [State.copyDetail, State.copyDetail, image, stage1]
  have two : s.copyDetail .firmware b = t.copyDetail .firmware b := by rw [State.copyDetail, State.copyDetail, image, firmware]
  rw [State.slotDetail, State.slotDetail, one, two]

/-- The hand-over that begins now. -/
def State.handoverTo (a : State) (slot : Bool) (trialS : Nat) : Handover :=
  { slot := slot, old := a.boot.fwSlot, trialS := trialS, rollback := false, began := a.now, quiesceAt := none }

/-- The steps of FW_ACTIVATE, in order. -/
theorem State.doFwActivate_eq {slot : Bool} (h : decide (f.req.f 0 1 = 1) = slot) : a.doFwActivate f =
    (if slot = a.boot.fwSlot then a.answer f .precond 0
     else if a.slotDetail slot ≠ 0 then (a.log 0xA005 (param [(1, 0), (1, a.slotDetail slot)])).answer f .precond 0
     else if decide (f.req.f 1 1 = 0) = true ∧ (a.imageAt .firmware slot).compat ≠ a.boot.compat then a.answer f .precond 0
     else if a.update.trial = true ∨ a.dev.trans = true then a.answer f .precond 0xFFFF
     else if ¬ decide (f.req.f 1 1 = 0) = true then
       (a.dirWrite fun d => d.updEnt 0 fun x => { x with active := slot, trial := true }).answer f .ok
     else { a.holdEarly f .handover with update := { a.update with handover := some (a.handoverTo slot (f.req.f 2 2)) } }) := by
  subst h
  rfl

end

/-- Settles O29: each request is one branch of its opcode. -/
theorem imagesRingsAndFlashRequests : Obligations.ImagesRingsAndFlashRequests := by
  refine ⟨fun s r => ?parts, fun s r => ?flash⟩
  case parts =>
    intro p n x f b
    refine ⟨fun d h hb => ?_, fun h hs => ?_, fun h hb hg => ?_, fun g h hb hg hp => ?_, fun h hs => ?_, fun h hs => ?_, fun h hs => ?_,
      fun h hs => ?_, fun h hn hb hs hu => ?_, fun h hn hb hs hu => ?_, fun h hs hd he => ?_⟩
    · exact effect_of_reply rfl h fun q o => (State.perform_partImage rfl).trans <|
        State.doPartImage_bad (a := { s with damem := q, out := o }) (f := s.entryOf 0x0208 r false) hb
    · exact Judged.refused rfl h (by decide) (by simpa [State.partRefuses] using hs)
    · exact effect_of_reply rfl h fun q o => (State.perform_partImage rfl).trans <|
        State.doPartImage_noGranule (a := { s with damem := q, out := o }) (f := s.entryOf 0x0208 r false) hb (by
          change x.granules.max? = none
          rw [hg]
          rfl)
    · obtain ⟨q, o, -, e⟩ := s.accepted_mailbox 0x0208 r
      have stopped : x.state = .stopped := by simpa [State.partRefuses] using h.allowed
      have run := State.doPartImage_puts (a := { s with damem := q, out := o }) (f := s.entryOf 0x0208 r false) hb hg stopped
      refine ⟨_, effect_of_request rfl h ((State.perform_partImage rfl).trans ((congrArg (State.doPartImage · _) e).trans run)), rfl, State.imagePut_partAt hp,
        fun q hq => State.imagePut_partAt_other hq, rfl⟩
    · exact Judged.refused rfl h (by decide) (by simpa [State.partRefuses] using hs)
    · exact Judged.refused rfl h (by decide) (by simpa [State.partRefuses] using hs)
    · exact effect_of_reply rfl h fun q o => (State.perform_ringSetup rfl).trans (State.doRingSetup_refused hs)
    · have ring : (s.accepted 0x0209 r).ringAt n = s.ringAt n := State.of_accepted (fun s => s.ringAt n) (fun _ _ => rfl) _
      exact effect_of_request rfl h ((State.perform_ringSetup rfl).trans (State.doRingSetup_sets h.allowed_accepted (ring ▸ hs)))
    · obtain ⟨q, o, -, e⟩ := s.accepted_mailbox 0x020A r
      refine effect_of_request rfl h ((State.perform_ringTeardown rfl).trans ?_)
      rw [e]
      exact (State.doRingTeardown_tears (a := { s with damem := q, out := o }) (f := f 0x020A) hn hb hs).trans
        (congrArg (State.answer · (f 0x020A) .ok) (if_pos hu))
    · refine effect_of_reply rfl h fun q o => (State.perform_ringTeardown rfl).trans ?_
      exact (State.doRingTeardown_tears (a := { s with damem := q, out := o }) (f := f 0x020A) hn hb hs).trans
        (congrArg (State.answer · (f 0x020A) .ok) (if_neg (Bool.eq_false_iff.1 hu)))
    · refine effect_of_reply rfl h fun q o => (State.perform_ringTeardown rfl).trans
        (State.doRingTeardown_refused (a := { s with damem := q, out := o }) (f := f 0x020A) ?_)
      rintro (k | k | k)
      · exact absurd (hs.symm.trans k) nofun
      · exact Bool.false_ne_true (hd.symm.trans k)
      · exact he k
  case flash =>
    intro a f started size
    have held (c : Nat) : (a c).heldMode = s.heldMode := State.of_accepted State.heldMode (fun _ _ => rfl) c
    have touches (c x n : Nat) : (a c).touchesActive x n = s.touchesActive x n :=
      State.of_accepted (fun s => s.touchesActive x n) (fun _ _ => rfl) c
    have read (c x n : Nat) : (a c).flashRead x n = s.flashRead x n := State.of_accepted (fun s => s.flashRead x n) (fun _ _ => rfl) c
    have otp (c : Nat) : (a c).otp = s.otp := State.of_accepted State.otp (fun _ _ => rfl) c
    have dev (c : Nat) : (a c).dev = s.dev := State.of_accepted State.dev (fun _ _ => rfl) c
    have boot (c : Nat) : (a c).boot = s.boot := State.of_accepted State.boot (fun _ _ => rfl) c
    have update (c : Nat) : (a c).update = s.update := State.of_accepted State.update (fun _ _ => rfl) c
    have now (c : Nat) : (a c).now = s.now := State.of_accepted State.now (fun _ _ => rfl) c
    have causes (c : Nat) : (a c).causeHolds = s.causeHolds := State.of_accepted State.causeHolds (fun _ _ => rfl) c
    have flash (c : Nat) : (a c).flash = s.flash := State.of_accepted State.flash (fun _ _ => rfl) c
    have detail (c : Nat) (b : Bool) : (a c).slotDetail b = s.slotDetail b := State.slotDetail_of_otp (otp c) (flash c) b
    have image (c : Nat) (b : Bool) : (a c).imageAt .firmware b = s.imageAt .firmware b :=
      State.of_accepted (fun s => s.imageAt .firmware b) (fun _ _ => rfl) c
    have recover (c : Nat) (hm : s.heldMode = true) (ht : s.dev.trans = false) (hc : s.boot.coldNeeded = false)
        (hs : s.dev.state ≠ .safe ∨ s.causeHolds = false) : (a c).mayRecover := by
      rw [State.mayRecover, held, dev, boot, causes]
      exact ⟨hm, ht, hc, hs⟩
    refine ⟨fun h hf => effect_of_request rfl h ((State.perform_calClear rfl).trans (State.doCalClear_frees hf)),
      fun h hf => effect_of_request rfl h ((State.perform_calClear rfl).trans (State.doCalClear_formats hf)),
      fun h hm => effect_of_request rfl h ((State.perform_flashErase rfl).trans (State.doFlashErase_starts ?eraseStarts)),
      fun h hm ht => effect_of_request rfl h ((State.perform_flashErase rfl).trans (State.doFlashErase_refused ?eraseHeld ?eraseActive)),
      fun h hm hb => effect_of_request rfl h ((State.perform_flashWrite rfl).trans (State.doFlashWrite_starts ?writeStarts ?writeClean)),
      fun h hb => effect_of_request rfl h ((State.perform_flashWrite rfl).trans (State.doFlashWrite_refused ?writeDirty)),
      fun h => effect_of_request rfl h (State.perform_dirSet rfl),
      fun h hk => effect_of_request rfl h ((State.perform_provision rfl).trans (State.doProvision_starts ?hashNone)),
      fun h hk => effect_of_request rfl h ((State.perform_provision rfl).trans (State.doProvision_refused ?hashSome)),
      fun k hk h hr => ?recoverRefused, fun h hf he => ?noFallback, fun h hf hm ht hc hs => ?retry,
      fun i h hf hm ht hc hs hi hd hg => ?fallback, ?activate, fun h ht => ?commit, fun h ht => ?noTrial⟩
    case eraseStarts => rw [held, touches]; exact hm
    case eraseHeld => exact (held _).trans hm
    case eraseActive => exact (touches _ _ _).trans ht
    case writeStarts => rw [held, touches]; exact hm
    case writeClean => rw [read]; exact hb
    case writeDirty => rw [read]; exact hb
    case hashNone => rw [otp]; exact hk
    case hashSome => rw [otp]; exact hk
    case recoverRefused =>
      have refused : (a 0x0908).doRecover (f 0x0908) = (a 0x0908).answer (f 0x0908) .precond 0xFFFF := by
        refine State.doRecover_refused ?_
        rw [held, dev, boot, causes]
        exact hr
      have act {i : Instr} (row : exec i s = s.finish (s.evDamem 0x0908 r)) := effect_of_request row h ((State.perform_recover rfl).trans refused)
      simp only [List.mem_cons, List.not_mem_nil, or_false] at hk
      rcases hk with rfl | rfl
      · exact act rfl
      · exact act rfl
    case noFallback =>
      refine effect_of_request rfl h ((State.perform_recover rfl).trans (State.doRecover_noFallback hf ?_))
      rw [State.fallbackEntry, boot]
      rcases he with he | he | ⟨i, hi, hv⟩
      · rw [he]; rfl
      · simp [he]
      · simp [hi, hv]
    case retry => exact effect_of_request rfl h ((State.perform_recover rfl).trans (State.doRecover_retry (recover _ hm ht hc hs) hf))
    case fallback =>
      refine effect_of_request rfl h ((State.perform_recover rfl).trans (State.doRecover_fallback (recover _ hm ht hc hs) hf ?_))
      rw [State.fallbackEntry, boot, hi]
      simp [Option.isSome_iff_ne_none, hd, hg]
    case commit =>
      refine effect_of_request rfl h ((State.perform_fwCommit rfl).trans (if_pos ?_))
      rw [update]; exact ht
    case noTrial =>
      refine effect_of_request rfl h ((State.perform_fwCommit rfl).trans (if_neg ?_))
      rw [update]; exact Bool.eq_false_iff.1 ht
    case activate =>
      intro slot put
      have run : (a 0x0909).perform (f 0x0909) = _ := (State.perform_fwActivate rfl).trans (State.doFwActivate_eq (slot := slot) rfl)
      rw [boot, detail, image, update, dev] at run
      have both {k : Instr} (hk : k ∈ [.fwActivateLive r, .fwActivateNextCold r]) : exec k s = s.finish (s.evDamem 0x0909 r) := by
        simp only [List.mem_cons, List.not_mem_nil, or_false] at hk
        rcases hk with rfl | rfl <;> rfl
      refine ⟨fun k hk h he => effect_of_request (both hk) h (run.trans (if_pos he)), fun k hk d h he hd hn => ?_, fun h hf he hd ht hr => ?_,
        fun h hf he hd ht hr hc => ?_, fun k hk h he hd hc hr => ?_, fun h hf he hd hc => ?_⟩
      · subst hd
        exact effect_of_request (both hk) h (run.trans ((if_neg he).trans (if_pos hn)))
      · have cold : ¬ decide (r.f 1 1 = 0) = true := by simp [hf]
        exact effect_of_request rfl h (run.trans ((if_neg he).trans ((if_neg (not_not.2 hd)).trans ((if_neg fun k => cold k.1).trans
          ((if_neg (by simp [ht, hr])).trans (if_pos cold))))))
      · have live : decide (r.f 1 1 = 0) = true := by simp [hf]
        refine effect_of_request rfl h (run.trans ((if_neg he).trans ((if_neg (not_not.2 hd)).trans ((if_neg fun k => k.2 hc).trans
          ((if_neg (by simp [ht, hr])).trans ((if_neg (not_not.2 live)).trans ?_))))))
        rw [State.handoverTo, boot, now]
        rfl
      · exact effect_of_request (both hk) h (run.trans ((if_neg he).trans ((if_neg (not_not.2 hd)).trans
          ((if_neg fun k => k.2 (hc (of_decide_eq_true k.1))).trans (if_pos hr)))))
      · have live : decide (r.f 1 1 = 0) = true := by simp [hf]
        exact effect_of_request rfl h (run.trans ((if_neg he).trans ((if_neg (not_not.2 hd)).trans (if_pos ⟨live, hc⟩))))

end Sys2Proof.Machine
end

section
/-! SUPPORT. Registers of a thread group: what is read after a write (O35). -/
namespace Sys2Proof.Machine

section
variable {g : Group}

/-- A lane reads what was last written to it. -/
theorem Group.v_putV_same {r t : Nat} (hr : r < g.vreg.length) (ht : t < 32) (x : Nat) : (g.putV r t x).v r t = x % 2 ^ 32 := by
  simp only [Group.v, Group.putV, List.getElem?_modify, List.getElem?_eq_getElem hr, if_pos, Option.map_some, Option.getD_some,
    Table.at_put_same _ ht, BitVec.toNat_ofNat, Option.map_eq_map]

/-- Every other lane reads as before. -/
theorem Group.v_putV_other {r t r' t' : Nat} (h : r' ≠ r ∨ t' ≠ t) (x : Nat) : (g.putV r t x).v r' t' = g.v r' t' := by
  simp only [Group.v, Group.putV, List.getElem?_modify]
  by_cases hr : r = r'
  · have ht : t ≠ t' := fun k => h.elim (fun h => h hr.symm) fun h => h k.symm
    subst hr
    cases g.vreg[r]? with
    | none => rfl
    | some row => simp only [if_true, Option.map_eq_map, Option.map_some, Table.at_put_other _ ht]
  · cases g.vreg[r']? with
    | none => rfl
    | some row => simp [hr]

/-- A write leaves the number of vector registers. -/
@[simp] theorem Group.putV_length (r t x : Nat) : (g.putV r t x).vreg.length = g.vreg.length := List.length_modify ..

/-- A scalar register reads what was last written to it. -/
theorem Group.s_putS_same {r : Nat} (hr : r < 64) (x : Nat) : (g.putS r x).s r = x % 2 ^ 32 := by
  simp only [Group.s, Group.putS, Table.at_put_same _ hr, BitVec.toNat_ofNat]

/-- Every other scalar register reads as before. -/
theorem Group.s_putS_other {r r' : Nat} (h : r' ≠ r) (x : Nat) : (g.putS r x).s r' = g.s r' := by
  simp only [Group.s, Group.putS, Table.at_put_other _ h.symm]

/-- The program counters of a mask's threads move, and no other. -/
theorem Group.pcOf_setPc (m : BitVec 32) (f : Nat → Nat) {t : Nat} (ht : t < 32) :
    (g.setPc m f).pcOf t = if m.getLsbD t = true then f (g.pcOf t) else g.pcOf t := by
  simp [Group.pcOf, Group.setPc, Table.at, ht]

/-- A wide write leaves the lanes of the registers below it. -/
theorem Group.v_putWide_below {r t r' t' x n : Nat} (h : r' < r) : (g.putWide r t x n).v r' t' = g.v r' t' := by
  induction n generalizing g r x with
  | zero => rfl
  | succ n ih => exact (ih (Nat.lt_succ_of_lt h)).trans (Group.v_putV_other (.inl (Nat.ne_of_lt h)) _)

/-- A wide register reads the low part of what was last written to it: register by register, the lowest first. -/
theorem Group.vWide_putWide {r t x n : Nat} (hr : r + n ≤ g.vreg.length) (ht : t < 32) : (g.putWide r t x n).vWide r t n = x % 2 ^ (32 * n) := by
  induction n generalizing g r x with
  | zero => simp [Group.vWide, Nat.mod_one]
  | succ n ih =>
    have low : ((g.putV r t (x % 2 ^ 32)).putWide (r + 1) t (x / 2 ^ 32) n).v r t = x % 2 ^ 32 := by
      rw [Group.v_putWide_below (Nat.lt_succ_self r), Group.v_putV_same (by omega) ht, Nat.mod_mod]
    have high := ih (g := g.putV r t (x % 2 ^ 32)) (r := r + 1) (x := x / 2 ^ 32) (by rw [Group.putV_length]; omega)
    change Group.v _ r t + 2 ^ 32 * Group.vWide _ (r + 1) t n = _
    rw [Group.putWide, low, high, Nat.mul_succ, Nat.add_comm (32 * n), pow_add, Nat.mod_mul]

end

/-- Settles O35: a register read after a write, place by place. -/
theorem registersReadBack : Obligations.RegistersReadBack :=
  ⟨fun _ _ _ x hr ht => ⟨Group.v_putV_same hr ht x, fun _ _ h => Group.v_putV_other h x, Group.putV_length _ _ x, rfl⟩,
    fun _ _ x hr => ⟨Group.s_putS_same hr x, fun _ h => Group.s_putS_other h x, rfl⟩,
    fun _ m f _ ht => ⟨Group.pcOf_setPc m f ht, rfl⟩, fun _ _ _ _ _ hr ht => Group.vWide_putWide hr ht⟩

end Sys2Proof.Machine
end

section
/-! SUPPORT. The ends of operations that wait (O31). -/
namespace Sys2Proof.Machine

section
variable {s : State} {w : Wait}

/-- While firmware runs, an answer takes its request out of the journal. -/
theorem State.answer_inflight (h : s.fwAbsent = false) (f : InFlight) (st : Status) (d : Nat) (payload : List Byte) (bulk : Option (List Byte))
    (hint : Nat) : (s.answer f st d payload bulk hint).damem.inflight = s.damem.inflight.erase f := by
  rw [State.answer, if_neg (by simp [h]), State.sendResp]
  dsimp only
  split
  · rfl
  · obtain ⟨p, o, e⟩ := State.putResp_form { s with damem := { s.damem with inflight := s.damem.inflight.erase f } } f
      (f.resp st d payload bulk hint)
    rw [e]

/-- An answer leaves whether firmware runs. -/
theorem State.answer_fwAbsent (f : InFlight) (st : Status) (d : Nat) (payload : List Byte) (bulk : Option (List Byte)) (hint : Nat) :
    (s.answer f st d payload bulk hint).fwAbsent = s.fwAbsent := by
  obtain ⟨q, o, e⟩ := s.answer_form f st d payload bulk hint
  rw [e]
  rfl

/-- Answering those of a list that wait for something leaves none of them in a journal without repeats. -/
theorem State.answerAll_inflight (st : Status) (d : Nat) (payload : InFlight → List Byte) (l : List InFlight) (s : State)
    (hf : s.fwAbsent = false) (hn : s.damem.inflight.Nodup) :
    ∀ f ∈ (l.foldl (fun s f => if f.wait = w then s.answer f st d (payload f) else s) s).damem.inflight,
      f ∈ s.damem.inflight ∧ (f ∈ l → f.wait ≠ w) := by
  induction l generalizing s with
  | nil => exact fun f h => ⟨h, nofun⟩
  | cons x l ih =>
    intro f h
    rw [List.foldl_cons] at h
    by_cases hw : x.wait = w
    · rw [if_pos hw] at h
      have left := State.answer_inflight hf x st d (payload x) none 0
      obtain ⟨mem, rest⟩ := ih _ ((State.answer_fwAbsent x st d (payload x) none 0).trans hf) (left ▸ hn.erase x) f h
      rw [left] at mem
      obtain ⟨ne, there⟩ := (List.Nodup.mem_erase_iff hn).1 mem
      exact ⟨there, fun k => (List.mem_cons.1 k).elim (fun k => absurd k ne) rest⟩
    · rw [if_neg hw] at h
      obtain ⟨mem, rest⟩ := ih s hf hn f h
      exact ⟨mem, fun k => (List.mem_cons.1 k).elim (fun k => k ▸ hw) rest⟩

/-- Nobody that waited for it is left in the journal. -/
theorem State.answerWaiting_inflight (hf : s.fwAbsent = false) (hn : s.damem.inflight.Nodup) (st : Status) (d : Nat)
    (payload : InFlight → List Byte) : ∀ f ∈ (s.answerWaiting w st d payload).damem.inflight, f.wait ≠ w := fun f h =>
  have ⟨mem, rest⟩ := State.answerAll_inflight st d payload _ s hf hn f h
  rest mem

/-- Those that wait are answered: the journal, its mailboxes and what is sent, and nothing else. -/
theorem State.answerWaiting_ends (s : State) (w : Wait) (payload : InFlight → List Byte) : ∃ u : State, s.answerWaiting w .ok 0 payload = u ∧
    u = { s with damem := u.damem, out := u.out } ∧
    (s.fwAbsent = false → s.damem.inflight.Nodup → ∀ f ∈ u.damem.inflight, f.wait ≠ w) := by
  obtain ⟨d, o, e⟩ := State.answerWaiting_form s w .ok 0 payload
  refine ⟨_, rfl, ?_, fun hf hn => State.answerWaiting_inflight hf hn .ok 0 payload⟩
  rw [e]

/-! ### The Calender's mirror -/

/-- What the mirroring of records leaves: the records, and everything but the mirror's own place and the flash. -/
theorem State.mirrorOne_form {r : Rec} {rest : List Rec} (hq : s.cal.pqueue = r :: rest) (hs : s.cal.slot < 2048) :
    ∃ x, s.mirrorOne = { s with cal := { s.cal with pqueue := rest, slot := s.cal.slot + 1 }, flash := x } := by
  rw [State.mirrorOne, hq]
  dsimp only
  rw [if_pos hs]
  exact ⟨_, rfl⟩

/-- Where no record waits, none is mirrored. -/
theorem State.mirrored_of_empty (h : s.cal.pqueue = []) :
    { s with cal := { s.cal with pqueue := [], slot := s.cal.slot + s.cal.pqueue.length } } = s := by
  have cal (c : Cal) (h : c.pqueue = []) : { c with pqueue := [], slot := c.slot + c.pqueue.length } = c := by
    cases c
    subst h
    rfl
  exact congrArg (fun c => { s with cal := c }) (cal _ h)

/-- With room in its sector every record that waits is mirrored. -/
theorem State.mirrorAll_form (n : Nat) (s : State) (hn : s.cal.pqueue.length ≤ n) (hs : s.cal.slot + s.cal.pqueue.length ≤ 2048) :
    ∃ x, s.mirrorAll n = { s with cal := { s.cal with pqueue := [], slot := s.cal.slot + s.cal.pqueue.length }, flash := x } := by
  induction n generalizing s with
  | zero => exact ⟨s.flash, (State.mirrored_of_empty (List.length_eq_zero_iff.1 (Nat.le_zero.1 hn))).symm⟩
  | succ n ih =>
    by_cases hq : s.cal.pqueue = []
    · rw [State.mirrorAll, if_pos (by simp [hq])]
      exact ⟨s.flash, (State.mirrored_of_empty hq).symm⟩
    · obtain ⟨r, rest, hq⟩ := List.exists_cons_of_ne_nil hq
      rw [hq, List.length_cons] at hn hs
      obtain ⟨x, one⟩ := State.mirrorOne_form hq (by omega)
      obtain ⟨y, all⟩ := ih s.mirrorOne (by rw [one]; exact Nat.le_of_succ_le_succ hn) (by rw [one]; change s.cal.slot + 1 + rest.length ≤ 2048; omega)
      refine ⟨y, ?_⟩
      rw [State.mirrorAll, if_neg (by simp [hq]), all, one]
      rw [hq, List.length_cons, show s.cal.slot + (rest.length + 1) = s.cal.slot + 1 + rest.length by omega]

end

/-- Settles O31: each operation ends as its event says, and whoever waited for it is answered. -/
theorem waitsAndTimersEnd : Obligations.WaitsAndTimersEnd := by
  refine ⟨fun s ok h => effect_of rfl (if_pos (Option.isNone_iff_eq_none.2 h)), fun s h hu => effect_of rfl ((if_neg ?_).trans ?_),
    fun s h => effect_of rfl ((if_neg ?_).trans ?_), fun s h => ?_, fun s h => effect_of rfl (if_neg h), fun s k hk he => ?_,
    fun s k hk he => effect_of (State.onUnit_of_lt hk) (if_neg (Bool.eq_false_iff.1 he)), fun s h => effect_of rfl ?_,
    fun s w h => effect_of rfl ?_, fun s h => effect_of rfl (if_neg (Bool.eq_false_iff.1 h)), fun s hr hl hu hs => ?_,
    fun s code l k hl hk hs => effect_of rfl ?_, fun s code l k hl hk hs => effect_of rfl ?_, fun s code h => effect_of rfl ?_⟩
  · simpa using h
  · simp only [hu, Bool.and_self, if_true]
  · simpa using h
  · simp only [Bool.false_and, Bool.false_eq_true, if_false]
  · obtain ⟨u, e, form, gone⟩ := s.answerWaiting_ends .scorer fun _ => leBytes 4 0
    exact ⟨u, effect_of rfl ((if_pos h).trans e), form, gone⟩
  · obtain ⟨u, e, form, gone⟩ := s.answerWaiting_ends (.strand k) fun _ => leBytes 4 0
    exact ⟨u, effect_of (State.onUnit_of_lt hk) ((if_pos he).trans e), form, gone⟩
  · rw [State.evSlewEnd, h]
  · simp only [State.evSlewEnd, State.slewStop, h, clampTrim]
  · obtain ⟨x, e⟩ := State.mirrorAll_form 64 s hl hs
    refine ⟨{ s with cal := { s.cal with pqueue := [], slot := s.cal.slot + s.cal.pqueue.length }, flash := x },
      effect_of rfl ((if_pos hr).trans ?_), rfl, rfl, rfl, rfl⟩
    rw [e]
    exact if_neg (by simp [hu])
  · simp only [State.evTokenRefill, hl, hk, hs, Nat.lt_irrefl, if_false]
  · simp only [State.evTokenRefill, hl, hk, hs, if_true]
  · simp only [State.evTokenRefill, h]

end Sys2Proof.Machine
end

section
/-! SUPPORT. Boots, restarts, hand-overs and trials (O30). -/
namespace Sys2Proof.Machine

section
variable {s : State}

/-! ### The directory -/

/-- The entry of a directory that is changed. -/
theorem Directory.entry_updEnt (d : Directory) (f : DirEntry → DirEntry) : (d.updEnt 0 f).entry 0 = f (d.entry 0) :=
  Table.at_upd_same d.ent (by decide) f {}

/-- Erasing and programming reach the flash alone. -/
theorem State.flashErased_form (s : State) (b : List Byte) (x y n : Nat) (c : Prop) [Decidable c] (z : Nat) :
    ∃ w, (if c then ((s.flashErase x n).flashProgram y b).flashErase z n else (s.flashErase x n).flashProgram y b) = { s with flash := w } := by
  obtain ⟨w, e⟩ : ∃ w, (s.flashErase x n).flashProgram y b = { s with flash := w } := ⟨_, rfl⟩
  rw [e]
  split
  · exact ⟨_, rfl⟩
  · exact ⟨w, rfl⟩

/-- A directory that is written is the one in use, but for its sequence number; the flash takes it, and nothing else changes. -/
theorem State.dirWrite_form (s : State) (f : Directory → Directory) : ∃ x b d, s.dirWrite f =
    { s with flash := x, boot := { s.boot with dirInUse := b, dir := d } } ∧ d.ent = (f s.dirFrom.1).ent := by
  unfold State.dirWrite
  dsimp only
  generalize s.dirFrom = t
  generalize hd : { f t.1 with seq := if t.1.seq + 1 = 0xFFFFFFFF then 1 else t.1.seq + 1 } = d
  obtain ⟨w, e⟩ := s.flashErased_form d.bytes (dirBase t.2) (dirBase t.2) 0x10000 (t.1.seq + 1 = 0xFFFFFFFF) (dirBase !t.2)
  rw [e]
  exact ⟨w, some t.2, d, rfl, by rw [← hd]⟩

/-- The first entry of a directory that is written. -/
theorem State.dirWrite_entry (s : State) (f : DirEntry → DirEntry) :
    (s.dirWrite fun d => d.updEnt 0 f).boot.dir.entry 0 = f (s.dirFrom.1.entry 0) := by
  obtain ⟨x, b, d, e, h⟩ := s.dirWrite_form fun d => d.updEnt 0 f
  rw [e]
  change Table.at d.ent 0 {} = _
  rw [h]
  exact Directory.entry_updEnt _ f

/-! ### The entry into HELD -/

/-- What the entry into HELD leaves to be read: the state, and why. -/
def State.heldWhy (s : State) : DevState × Nat × Nat × Bool × Bool :=
  (s.dev.state, s.boot.reason, s.boot.detail, s.boot.copy, s.boot.coldNeeded)

/-- HELD is reached in state HELD, and with its reason as it stood. -/
theorem State.heldReached_heldWhy (s : State) :
    s.heldReached.heldWhy = (.held, s.boot.reason, s.boot.detail, s.boot.copy, s.boot.coldNeeded) := by
  have waiting (t : State) (w : Wait) (st : Status) : (t.answerWaiting w st).heldWhy = t.heldWhy := by
    obtain ⟨_, _, h⟩ := State.answerWaiting_form t w st 0 fun _ => []
    rw [h]; rfl
  have record (t : State) (code : Nat) (prm : List Byte) : (t.log code prm).heldWhy = t.heldWhy := by
    obtain ⟨_, _, _, h⟩ := State.log_form t code prm none true false true
    rw [h]; rfl
  have endpoint (t : State) : t.endpointStart.heldWhy = t.heldWhy := State.ite_keeps _ rfl rfl
  have entered : (((s.seqTo .idle .none).stateTo .held .held).eventDue 1).heldWhy =
      (.held, s.boot.reason, s.boot.detail, s.boot.copy, s.boot.coldNeeded) := by
    obtain ⟨w, x, p, c, d, o, e⟩ := State.stateTo_form (s.seqTo .idle .none) .held .held
    rw [e]
    simp only [State.heldWhy, State.eventDue]
    rfl
  exact (waiting ..).trans ((record ..).trans ((endpoint _).trans entered))

/-- With every rail of HELD on, and no other, the entry into HELD reaches it at once. -/
theorem State.enterHeld_heldWhy (r : HeldReason) (d : Nat) (c k : Bool) (hc : s.cutList [0, 1, 2] = []) (hr : ∀ i, i < 3 → s.railOn i = true) :
    (s.enterHeld r d c k).heldWhy = (.held, r.code, d, c, s.boot.coldNeeded || k) := by
  let s1 : State := { s with boot := { s.boot with
    reason := r.code, detail := d, copy := c, coldNeeded := s.boot.coldNeeded || k, watchdog := false } }
  let s2 := (s1.transTo .held).clocksOff.lasersDark
  obtain ⟨p, off⟩ : ∃ p m, s2 = { s1.transTo .held with pho := p, mould := m } := by
    obtain ⟨m, h⟩ := State.clocksOff_form (s1.transTo .held)
    obtain ⟨p, h'⟩ := (s1.transTo .held).clocksOff.lasersDark_form
    refine ⟨p, m, ?_⟩
    change (s1.transTo .held).clocksOff.lasersDark = _
    rw [h', h]
  obtain ⟨m, off⟩ := off
  have cut : s2.cutList [0, 1, 2] = [] := by rw [off]; exact hc
  have next : s2.railNext 0 2 = none := by
    rw [off]
    refine List.find?_eq_none.2 fun i hi => ?_
    have on : State.railOn { s1.transTo .held with pho := p, mould := m } i = true := hr i (List.mem_range.1 hi)
    rw [on]
    simp
  have run : s.enterHeld r d c k = (s2.seqTo .idle .heldEntry).heldReached := by
    refine (if_pos cut).trans ?_
    change s2.upTo' 2 .heldEntry State.heldReached = _
    rw [State.upTo', next]
  rw [run, State.heldReached_heldWhy, off]
  rfl

/-! ### Hand-over and roll-back -/

/-- A hand-over that has quiesced goes on from where it is. -/
theorem State.quiesce_of_quiesced {h : Handover} (hh : s.update.handover = some h) (hq : h.quiesceAt ≠ none) : s.quiesce = s := by
  rw [State.quiesce, hh]
  exact if_pos (Option.isSome_iff_ne_none.2 hq)

/-- Without a hand-over nothing quiesces. -/
theorem State.quiesce_of_none (hh : s.update.handover = none) : s.quiesce = s := by
  rw [State.quiesce, hh]

/-- A hand-over quiesces once: its slot is active, on trial, and the time is noted. -/
theorem State.quiesce_form {h : Handover} (hh : s.update.handover = some h) (hq : h.quiesceAt = none) : ∃ u : State, s.quiesce = u ∧
    u.update.handover = some { h with quiesceAt := some s.now } ∧ (u.boot.dir.entry 0).active = h.slot ∧
    (u.boot.dir.entry 0).trial = true ∧ u.pending = s.pending := by
  have entry := s.dirWrite_entry fun x => { x with active := h.slot, trial := true }
  obtain ⟨x, b, d, e, -⟩ := s.dirWrite_form fun d => d.updEnt 0 fun x => { x with active := h.slot, trial := true }
  obtain ⟨q, o, e'⟩ := State.answerWaiting_form (s.dirWrite fun d => d.updEnt 0 fun x => { x with active := h.slot, trial := true })
    .scorer .ok 0 fun _ => leBytes 4 0
  refine ⟨_, rfl, ?_⟩
  rw [State.quiesce, hh]
  dsimp only
  rw [if_neg (by simp [hq]), State.logUpdate, State.log_boot, State.log_pending, e']
  dsimp only
  rw [entry]
  exact ⟨rfl, rfl, rfl, by rw [e]⟩

/-- The hand-over of a roll-back. -/
def State.rollBackFrom (s : State) (n : Nat) : Handover :=
  { slot := s.boot.fwSlot, old := (s.boot.dir.entry 0).lastGood, trialS := n, rollback := true, began := s.now,
    quiesceAt := some (s.update.handover.elim s.now fun h => h.quiesceAt.getD s.now) }

/-- A roll-back turns the first entry of the directory back, and begins a hand-over to the firmware before. -/
theorem State.rollBack_form (s : State) (n : Nat) : ∃ u : State, s.rollBack n = u ∧ (u.boot.dir.entry 0).trial = false ∧
    u.update = { s.update with trial := false, handover := some (s.rollBackFrom n) } ∧
    u = { s with update := u.update, boot := u.boot, flash := u.flash } := by
  have entry := s.dirWrite_entry fun x => { x with active := x.lastGood, trial := false }
  obtain ⟨x, b, d, e, -⟩ := s.dirWrite_form fun d => d.updEnt 0 fun x => { x with active := x.lastGood, trial := false }
  refine ⟨_, rfl, congrArg DirEntry.trial entry, ?_, ?_⟩
  · rw [State.rollBack, e]
    rfl
  · rw [State.rollBack, e]

/-! ### The double fault -/

/-- A double fault of a device whose Assay core runs: what of a hand-over or a trial is turned back, then the restart and its record. -/
theorem State.evDoubleFault_form {t : State} (cause : Nat) (ok : Bool) (ha : s.assayRuns = true)
    (ht : (match s.update.handover with
      | some h =>
        if h.rollback then s
        else if h.quiesceAt.isNone then { s with update := { s.update with handover := none } }
        else s.rollBack h.trialS
      | none => if s.update.trial then s.rollBack s.update.trialS else s) = t) : ∃ c q o, s.evDoubleFault cause ok =
      { t with update := { t.update with restarting := true, restartAt := s.now, reload := t.update.reload || !ok }, cal := c,
               damem := { t.damem with page := q }, out := o } := by
  subst ht
  unfold State.evDoubleFault
  rw [if_neg (by simp [ha])]
  exact State.log_form _ _ _ none true false true

end

/-- Settles O30: each event is the branch of its meaning that the state picks. -/
theorem bootsAndFirmwareAct : Obligations.BootsAndFirmwareAct := by
  refine ⟨⟨fun s p hp hf he hr hi => ?complete, fun s p r d c hp hf he hr hi => ?spoiled, fun s p h => ?notBooting, fun s p he hr => ?notReady,
    fun s p hp hf he hs hq => ?inSafe, fun s p he h => ?notSafe, fun s hw hp he => ?watchdog, fun s h => ?noWatchdog,
    fun s r d c k hc hr => ?held⟩, ⟨fun s cause ok ha hh ht => ?fault, fun s cause ok ha hh ht => ?faultOnTrial, fun s cause ok ha => ?noFault,
    fun s hh hr => ?restarted, fun s trial n hr => ?windowEnds, fun s trial n hr => ?windowEndsRestarted, fun s h hh hq => ?quiesces,
    fun s hh hr => ?nothingRestarts, fun s h hh hq hr h1 h2 => ?handedOver, fun s h hh hq hr => ?rolledBack, fun s h hh hq hr h1 => ?spoiledSlot,
    fun s h hh hr => ?rollsBackAlready, fun s h q hh hq hr => ?timedOut, fun s hh => ?noHandover, fun s ht hn hf => ?committed,
    fun s h => ?noTrial⟩⟩
  case complete =>
    intro l
    have boots : ¬ (s.boot.phase ≠ .firmware ∨ ¬ s.fwRuns = true) := by simp [hp, hf]
    refine effect_of rfl ((if_neg boots).trans ((if_neg (by simp [he])).trans ((if_neg (by simp [hr])).trans ?_)))
    rw [hi]
    rfl
  case spoiled =>
    have boots : ¬ (s.boot.phase ≠ .firmware ∨ ¬ s.fwRuns = true) := by simp [hp, hf]
    refine effect_of rfl ((if_neg boots).trans ((if_neg (by simp [he])).trans ((if_neg (by simp [hr])).trans ?_)))
    rw [hi]
  case notBooting => exact effect_of rfl (if_pos (h.imp_right fun h => by simp [h]))
  case notReady =>
    by_cases boots : s.boot.phase ≠ .firmware ∨ ¬ s.fwRuns = true
    · exact effect_of rfl (if_pos boots)
    · exact effect_of rfl ((if_neg boots).trans ((if_neg (by simp [he])).trans (if_pos (by simp [hr]))))
  case inSafe =>
    have boots : ¬ (s.boot.phase ≠ .firmware ∨ ¬ s.fwRuns = true) := by simp [hp, hf]
    exact effect_of rfl ((if_neg boots).trans ((if_pos (Option.isSome_iff_ne_none.2 he)).trans (if_pos ⟨hs, hq⟩)))
  case notSafe =>
    by_cases boots : s.boot.phase ≠ .firmware ∨ ¬ s.fwRuns = true
    · exact effect_of rfl (if_pos boots)
    · exact effect_of rfl ((if_neg boots).trans ((if_pos (Option.isSome_iff_ne_none.2 he)).trans (if_neg fun k => h.elim (· k.1) (· k.2))))
  case watchdog => exact effect_of rfl (if_pos ⟨hw, hp, Option.isNone_iff_eq_none.2 he⟩)
  case noWatchdog =>
    refine effect_of rfl (if_neg ?_)
    rintro ⟨hw, hp, he⟩
    rcases h with h | h | h
    · exact Bool.false_ne_true (h.symm.trans hw)
    · exact h hp
    · exact h (Option.isNone_iff_eq_none.1 he)
  case held =>
    have why := State.enterHeld_heldWhy (s := s) r d c k hc hr
    simp only [State.heldWhy, Prod.mk.injEq] at why
    exact why
  case fault =>
    obtain ⟨x, q, o, e⟩ := State.evDoubleFault_form (t := s) cause ok ha (by rw [hh]; simp [ht])
    exact ⟨_, effect_of rfl e, rfl, rfl⟩
  case faultOnTrial =>
    obtain ⟨t, e, entry, update, -⟩ := s.rollBack_form s.update.trialS
    obtain ⟨x, q, o, e'⟩ := State.evDoubleFault_form (t := t) cause ok ha (by rw [hh]; simpa [ht] using e)
    refine ⟨_, effect_of rfl e', rfl, ?_, entry, ?_⟩
    · exact congrArg Update.trial update
    · refine (congrArg Update.handover update).trans ?_
      rw [State.rollBackFrom, hh]
      rfl
  case noFault => exact effect_of rfl (if_pos (by simp [ha]))
  case restarted =>
    refine effect_of rfl ?_
    rw [State.evRestartComplete, State.quiesce_of_none hh]
    simp only [hh, hr, if_true]
  case windowEnds => rw [State.windowEnds, hr]; rfl
  case windowEndsRestarted => rw [State.windowEnds, hr]; rfl
  case quiesces =>
    obtain ⟨u, e, handover, active, trial, pending⟩ := State.quiesce_form hh hq
    have again : u.quiesce = u := State.quiesce_of_quiesced handover nofun
    rw [e]
    have finish (t : State) : s.finish t = u.finish t := by rw [State.finish, State.finish, pending]
    refine ⟨?_, fun hr => ?_, handover, active, trial⟩
    · change s.finish s.evRestartComplete = u.finish u.evRestartComplete
      rw [finish, State.evRestartComplete, State.evRestartComplete, e, again]
    · change s.finish s.evHandoverTimeout = u.finish u.evHandoverTimeout
      rw [finish, State.evHandoverTimeout, State.evHandoverTimeout, hh, handover]
      dsimp only
      rw [if_neg (by simp [hr]), if_neg (by simp [hr]), e, again]
  case nothingRestarts =>
    refine effect_of rfl ?_
    rw [State.evRestartComplete, State.quiesce_of_none hh]
    simp only [hh, hr, Bool.false_eq_true, if_false]
  case handedOver =>
    refine effect_of rfl ?_
    rw [State.evRestartComplete, State.quiesce_of_quiesced hh hq]
    simp only [hh, hr, h1, h2, Bool.false_eq_true, if_false, ne_eq, not_true_eq_false, or_self]
  case rolledBack =>
    refine effect_of rfl ?_
    rw [State.evRestartComplete, State.quiesce_of_quiesced hh hq]
    simp only [hh, hr, if_true]
  case spoiledSlot =>
    refine effect_of rfl ?_
    rw [State.evRestartComplete, State.quiesce_of_quiesced hh hq]
    simp only [hh, hr, Bool.false_eq_true, if_false]
    exact if_pos h1
  case rollsBackAlready =>
    refine effect_of rfl ?_
    rw [State.evHandoverTimeout, hh]
    exact if_pos hr
  case timedOut =>
    obtain ⟨u, e, entry, update, form⟩ := s.rollBack_form h.trialS
    refine ⟨u, effect_of rfl ?_, entry, congrArg Update.trial update, ?_, form⟩
    · rw [State.evHandoverTimeout, hh]
      dsimp only
      rw [if_neg (by simp [hr]), State.quiesce_of_quiesced hh (by simp [hq]), e]
    · refine (congrArg Update.handover update).trans ?_
      rw [State.rollBackFrom, hh]
      simp only [Option.elim_some, hq, Option.getD_some]
  case noHandover =>
    refine effect_of rfl ?_
    rw [State.evHandoverTimeout, hh]
  case committed =>
    obtain ⟨x, b, d, e, -⟩ := s.dirWrite_form fun d => d.updEnt 0 fun x => { x with lastGood := x.active, lgValid := true, trial := false }
    have run : s.evTrialTimeout = s.commitTrial := if_pos ⟨ht, hn, hf⟩
    rw [State.commitTrial, e, State.logUpdate] at run
    let t : State := { s with
      flash := x
      boot := { s.boot with dirInUse := b, dir := d }
      update := { s.update with trial := false, trialS := 0 } }
    obtain ⟨c, q, o, e'⟩ := State.log_form t 0xA002 (param [(1, Config.codeOf 12 3), (1, b2n s.boot.fwSlot)]) none true false true
    exact ⟨_, effect_of rfl (run.trans e'), rfl, rfl⟩
  case noTrial =>
    refine effect_of rfl (if_neg ?_)
    rintro ⟨ht, hn, -⟩
    exact h.elim (fun h => Bool.false_ne_true (h.symm.trans ht)) hn

end Sys2Proof.Machine
end

section
/-! SUPPORT. MCTP control and PLDM over the management port (O32). -/
namespace Sys2Proof.Machine

section
variable {s : State} {b : Binding}

/-- A binding that is up, with the service running on a device that firmware runs and that is awake. -/
structure State.Hears (s : State) (b : Binding) : Prop where
  bound : s.bindingUp b = true
  up : s.damem.mctpUp = true
  present : s.fwAbsent = false
  awake : s.asleep = false

/-- A command that a device hears awake is served. -/
theorem State.Hears.service (h : s.Hears b) (nr : Out) (f : State → State) : s.mctpService b nr f = f s :=
  (if_neg (by simp [h.bound])).trans ((if_neg (by simp [h.up, h.present])).trans (if_pos (by simp [h.awake])))

/-- A control command that is heard is answered by its meaning. -/
theorem State.Hears.control (h : s.Hears b) {cmd cc : Nat} {d : List Nat} {t : State} {f : State → Nat × List Nat × State}
    (hf : f s = (cc, d, t)) : s.control b cmd f = t.emit (.mctpControl cmd cc d) := by
  rw [State.control, h.service, hf]

/-- A PLDM command that is heard is answered by its meaning. -/
theorem State.Hears.pldm (h : s.Hears b) {ptype cmd cc : Nat} {d : List Int} {t : State} {f : State → Nat × List Int × State}
    (hf : f s = (cc, d, t)) : s.pldm b ptype cmd f = t.emit (.pldm ptype cmd cc d) := by
  rw [State.pldm, h.service, hf]

/-- An effecter that is heard on a booted device makes its request. -/
theorem State.Hears.effecter (h : s.Hears b) (hc : s.boot.complete = true) (cmd opcode : Nat) (payload : List Byte) :
    s.effecter b cmd opcode payload =
      s.letIn opcode { path := .mctp, binding := b, tag := 0, len := payload.length, payload := payload } true := by
  rw [State.effecter, h.service, if_neg (by simp [hc])]

/-- Before the service runs, and while firmware is absent, a command is answered ERROR_NOT_READY. -/
theorem State.mctpService_notReady (hb : s.bindingUp b = true) (h : s.damem.mctpUp = false ∨ s.fwAbsent = true) (nr : Out)
    (f : State → State) : s.mctpService b nr f = s.emit nr :=
  (if_neg (by simp [hb])).trans (if_pos (h.imp_left fun h => by simp [h]))

/-- A binding that is not up carries nothing. -/
theorem State.mctpService_down (hb : s.bindingUp b = false) (nr : Out) (f : State → State) : s.mctpService b nr f = s :=
  if_pos (by simp [hb])

/-- In DORMANT the first transaction is not acknowledged. -/
theorem State.mctpService_first (hb : s.bindingUp b = true) (hu : s.damem.mctpUp = true) (hf : s.fwAbsent = false) (ha : s.asleep = true)
    (hh : s.mgmtHears = false) (nr : Out) (f : State → State) : s.mctpService b nr f = s.mgmtNack :=
  (if_neg (by simp [hb])).trans ((if_neg (by simp [hu, hf])).trans ((if_neg (by simp [ha])).trans (if_pos (by simp [hh]))))

/-- A retried one is served, or answered ERROR_NOT_READY; which of the two is free. -/
theorem State.mctpService_retried (hb : s.bindingUp b = true) (hu : s.damem.mctpUp = true) (hf : s.fwAbsent = false) (ha : s.asleep = true)
    (hh : s.mgmtHears = true) (nr : Out) (f : State → State) :
    s.mctpService b nr f = f (s.free 54).2 ∨ s.mctpService b nr f = (s.free 54).2.emit nr := by
  have run : s.mctpService b nr f = if (s.free 54).1 % 2 = 0 then f (s.free 54).2 else (s.free 54).2.emit nr :=
    (if_neg (by simp [hb])).trans ((if_neg (by simp [hu, hf])).trans ((if_neg (by simp [ha])).trans (if_neg (by simp [hh]))))
  rw [run]
  split
  · exact .inl rfl
  · exact .inr rfl

/-- The answer to GETPDR: the next handle, the entry's ID and its record. -/
theorem State.evGetPdr_of_some (h : s.Hears b) {handle id : Nat} (hi : pdrIds[handle - 1]? = some id) :
    s.evGetPdr b handle = s.emit (.pldm 2 0x51 0
      (asInt (if handle - 1 + 1 < 49 then handle - 1 + 2 else 0) :: asInt id :: pdrBody id)) := by
  refine h.pldm ?_
  dsimp only
  rw [hi]
  rfl

/-- A number's reading. -/
theorem State.evSensorReading_of (h : s.Hears b) {n : Nat} {x : Option Int} (hn : s.numericSensor n = some x)
    (hc : cduEntry n = false ∨ s.stew.role = Role.primary) :
    s.evSensorReading b n = s.emit (.pldm 2 0x11 0 (x.elim [2] fun x => [0, x])) := by
  refine h.pldm ?_
  have own : ¬ (cduEntry n = true ∧ s.stew.role ≠ Role.primary) := fun k =>
    hc.elim (fun h => Bool.false_ne_true (h.symm.trans k.1)) k.2
  simp only [hn, if_neg own]
  cases x <;> rfl

/-- The events of a sensor that wait. -/
theorem State.evEventResend_of {n off : Nat} {e : PldmEvent} (h : s.waitingEvent n off = some e) : s.evEventResend n off =
    if e.tries < 3 then
      ({ s with damem := { s.damem with
        events := s.damem.events.map fun x => if x = e then { x with tries := x.tries + 1 } else x } } : State).emit
          (.pldmEvent (s.damem.receiver.getD 0) n off e.value)
    else ({ s with damem := { s.damem with events := s.damem.events.erase e } } : State).log 0xA004 (param [(2, n)]) := by
  rw [State.evEventResend, h]

end

/-- Settles O32: each command's answer is its meaning, where the management port lets it through. -/
theorem managementPortAnswers : Obligations.ManagementPortAnswers := by
  refine ⟨⟨fun s b hb hu hf ha => ?control, fun s b hb hn => ?notReady, fun s b hb => ?down, fun s b hb hu hf ha => ?dormant,
    fun s b mtype => effect_of rfl rfl, fun s addr x hx hm ha => ?address, fun s addr x hx hm => ?noAddress⟩,
    ⟨fun s b hb hu hf ha => ?pldm, fun s n off e h ht => ?resent, fun s n off e h ht => ?dropped, fun s n off e h => ?acknowledged,
      fun s n off h => ?noEvent⟩⟩
  case control =>
    have hears : s.Hears b := ⟨hb, hu, hf, ha⟩
    refine ⟨fun op eid ho h1 h2 => effect_of rfl (hears.control (if_pos ⟨ho, h1, h2⟩)), fun op eid h => effect_of rfl (hears.control (if_neg h)),
      effect_of rfl (hears.control rfl), ⟨_, ?_, effect_of rfl (hears.control rfl)⟩, fun mtype h => ⟨_, effect_of rfl (hears.control (if_pos ?_))⟩,
      fun mtype h => effect_of rfl (hears.control (if_neg ?_)), effect_of rfl (hears.control rfl), effect_of rfl (hears.control rfl),
      fun sel h => effect_of rfl (hears.control (if_neg h)), fun cmd h => effect_of rfl ((if_neg ?_).trans (hears.control rfl))⟩
    · simp
    · simpa [mctpTypes] using h
    · simpa [mctpTypes] using h
    · omega
  case notReady =>
    exact ⟨effect_of rfl (State.mctpService_notReady hb hn _ _), effect_of rfl (State.mctpService_notReady hb hn _ _),
      effect_of rfl (State.mctpService_notReady hb hn _ _)⟩
  case down =>
    intro i hi
    simp only [List.mem_cons, List.not_mem_nil, or_false] at hi
    rcases hi with rfl | rfl | rfl | rfl | rfl | rfl | rfl
    all_goals exact effect_of rfl (State.mctpService_down hb _ _)
  case dormant =>
    refine ⟨fun hh => ⟨effect_of rfl (State.mctpService_first hb hu hf ha hh _ _), effect_of rfl (State.mctpService_first hb hu hf ha hh _ _)⟩,
      fun hh => ⟨(s.free 54).2, rfl, ?_⟩⟩
    exact (State.mctpService_retried hb hu hf ha hh _ _).imp (effect_of rfl) (effect_of rfl)
  case address =>
    refine effect_of rfl (if_neg ?_)
    rw [hx]
    simp only [Option.elim_some, hm, Bool.false_eq_true, false_or]
    omega
  case noAddress =>
    refine effect_of rfl (if_pos (.inl ?_))
    rw [hx]
    exact hm
  case pldm =>
    have hears : s.Hears b := ⟨hb, hu, hf, ha⟩
    refine ⟨effect_of rfl (hears.pldm rfl), fun tid h1 h2 => effect_of rfl (hears.pldm (if_pos ⟨h1, h2⟩)),
      fun tid h => effect_of rfl (hears.pldm (if_neg ?settid)), fun ptype h => ⟨_, effect_of rfl (hears.pldm (if_pos h))⟩,
      effect_of rfl (hears.pldm rfl), effect_of rfl (hears.pldm rfl), effect_of rfl (hears.pldm rfl),
      fun ptype h0 h2 => effect_of rfl (hears.pldm (if_neg fun k => k.elim h0 h2)), effect_of rfl (hears.pldm rfl),
      effect_of rfl (State.evGetPdr_of_some hears (handle := 0) rfl), fun h id h1 h2 hi => effect_of rfl ?record,
      effect_of rfl (State.evGetPdr_of_some hears (handle := 49) rfl), fun h hh => effect_of rfl (hears.pldm ?noRecord),
      fun n x hn hc => effect_of rfl (State.evSensorReading_of hears hn hc),
      fun n hn hc => effect_of rfl (State.evSensorReading_of hears hn hc), fun n hn hc hr => effect_of rfl (hears.pldm ?foreign),
      fun n hn => effect_of rfl (hears.pldm ?noNumber), fun n l hn hc => effect_of rfl (hears.pldm ?states),
      fun n hn => effect_of rfl (hears.pldm ?noStates), fun st hs hc => effect_of rfl ?setState,
      fun n st hn => effect_of rfl ((if_pos hn).trans (hears.pldm rfl)), effect_of rfl (hears.pldm rfl), fun v h1 h2 hc => effect_of rfl ?setNumber,
      fun n v hn => effect_of rfl ((if_pos hn).trans (hears.pldm rfl)), fun hr => effect_of rfl (hears.pldm (if_neg (not_not.2 hr))),
      fun addr => effect_of rfl (hears.pldm rfl), effect_of rfl (hears.pldm rfl),
      fun ptype cmd h => effect_of rfl ((if_neg (Bool.eq_false_iff.1 h)).trans (hears.pldm rfl))⟩
    case settid => omega
    case record =>
      rw [State.evGetPdr_of_some hears hi, if_pos (by omega), show h - 1 + 2 = h + 1 by omega]
      rfl
    case noRecord =>
      have none : pdrIds[h - 1]? = none := List.getElem?_eq_none (by change 49 ≤ h - 1; omega)
      dsimp only
      rw [none]
    case foreign =>
      obtain ⟨x, hx⟩ := Option.ne_none_iff_exists'.1 hn
      rw [hx]
      exact if_pos ⟨hc, hr⟩
    case noNumber => rw [hn]
    case states =>
      rw [hn]
      exact if_neg fun k => hc.elim (fun h => Bool.false_ne_true (h.symm.trans k.1)) k.2
    case noStates => rw [hn]
    case setState => exact (if_neg (not_not.2 rfl)).trans ((if_neg (by omega)).trans (hears.effecter hc _ _ _))
    case setNumber => exact (if_neg (not_not.2 rfl)).trans ((if_neg (by omega)).trans (hears.effecter hc _ _ _))
  case resent =>
    exact ⟨_, effect_of rfl ((State.evEventResend_of h).trans (if_pos ht)), rfl⟩
  case dropped => exact effect_of rfl ((State.evEventResend_of h).trans (if_neg (by omega)))
  case acknowledged =>
    refine effect_of rfl ?_
    rw [State.evEventAck, h]
  case noEvent =>
    refine ⟨effect_of rfl ?_, effect_of rfl ?_⟩
    · rw [State.evEventResend, h]
    · rw [State.evEventAck, h]

end Sys2Proof.Machine
end

section
/-! SUPPORT. What comes of an instruction that issues, by what its body says. -/
namespace Sys2Proof.Machine

section
variable {s t : State} {i : GIns} {g : Group} {c : Instr} {need : Need} {body : Group → BitVec 32 → BitVec 32 → State → Eff}

/-- What an instruction's body says of the group that issues. -/
def GIns.says (i : GIns) (s : State) (g : Group) (body : Group → BitVec 32 → BitVec 32 → State → Eff) : Eff :=
  body g g.active (i.acts g) (s.issuing i g)

/-- An instruction that waits for a result does nothing yet. -/
theorem effect_blocked (h : Issues s i g) (hc : exec c s = s.onIns i (s.issue i need body)) (hn : g.blocks need = true) : Effect c s s := by
  obtain ⟨hm, hq, hs, -⟩ := id h
  exact effect_of (hc.trans (State.onIns_of_lt hm hq hs)) (State.issue_blocked h hn body)

/-- An instruction that is done goes on behind itself. -/
theorem effect_done (h : Issues s i g) (hc : exec c s = s.onIns i (s.issue i need body)) (hn : g.blocks need = false)
    (hb : i.says s g body = .done t) : Effect c s (t.advanced i g) := effect_issue h hn hc (congrArg (Eff.after · s (s.issuing i g) i g) hb)

/-- An instruction that moves its threads itself has issued. -/
theorem effect_jump (h : Issues s i g) (hc : exec c s = s.onIns i (s.issue i need body)) (hn : g.blocks need = false)
    (hb : i.says s g body = .jump t) : Effect c s (t.issuedBy i g) := effect_issue h hn hc (congrArg (Eff.after · s (s.issuing i g) i g) hb)

/-- An instruction that yields is its quarter's last. -/
theorem effect_yield (h : Issues s i g) (hc : exec c s = s.onIns i (s.issue i need body)) (hn : g.blocks need = false)
    (hb : i.says s g body = .yield t) : Effect c s (t.slotIssued i) := effect_issue h hn hc (congrArg (Eff.after · s (s.issuing i g) i g) hb)

/-- An instruction that must wait leaves everything as it was. -/
theorem effect_stall (h : Issues s i g) (hc : exec c s = s.onIns i (s.issue i need body)) (hn : g.blocks need = false)
    (hb : i.says s g body = .stall) : Effect c s s := effect_issue h hn hc (congrArg (Eff.after · s (s.issuing i g) i g) hb)

/-- An instruction at fault traps. -/
theorem effect_trap (h : Issues s i g) (hc : exec c s = s.onIns i (s.issue i need body)) (hn : g.blocks need = false) {k a : Nat}
    {m : BitVec 32} {r : Bool} (hb : i.says s g body = .trap k m a r) : Effect c s (s.faults i g k m a r) :=
  effect_issue h hn hc (congrArg (Eff.after · s (s.issuing i g) i g) hb)

end

end Sys2Proof.Machine
end

section
/-! SUPPORT. The arithmetic instructions (O33). -/
namespace Sys2Proof.Machine

/-- A comparison's bit is its result as a number. -/
theorem b2n_beq_one (x : Bool) : (b2n x == 1) = x := by cases x <;> rfl

section
variable {s : State} {i : GIns} {g : Group}

/-- Two scalar registers are no uniform operand. -/
theorem Group.vecLegal_two_scalars {op : VOp} {rd r r' : Nat} {c : VSrc} (h : r ≠ r') : g.vecLegal op rd (.s r) (.s r') c = false := by
  have two : ¬ (([VSrc.s r, VSrc.s r', c].filterMap VSrc.sreg).dedup.length ≤ 1) := by
    intro k
    have sub : [r, r'] ⊆ ([VSrc.s r, VSrc.s r', c].filterMap VSrc.sreg).dedup := by
      intro x hx
      rw [List.mem_dedup, List.mem_filterMap]
      rcases List.mem_cons.1 hx with rfl | hx
      · exact ⟨.s _, by simp, rfl⟩
      · obtain rfl := List.mem_singleton.1 hx
        exact ⟨.s _, by simp, rfl⟩
    have := ((List.nodup_cons.2 ⟨by simpa using h, List.nodup_singleton r'⟩).subperm sub).length_le
    simp only [List.length_cons, List.length_nil] at this
    omega
  simp only [Group.vecLegal, two, decide_false, Bool.and_false, Bool.false_and]

end

/-- Settles O33: for each instruction, the branch of its body that its operands pick. -/
theorem arithmeticActsForItsThreads : Obligations.ArithmeticActsForItsThreads := by
  intro s i g h w each
  have done {c : Instr} {need : Need} {body} {F : Group → Nat → Group} (hc : exec c s = s.onIns i (s.issue i need body))
      (hn : g.blocks need = false)
      (hb : i.says s g body = .done (w.onGroup i fun h => (bitsSet 32 (i.acts g).toNat).foldl F h)) : Effect c s (each F) :=
    effect_done h hc hn hb
  have write {F G : Group → Nat → Group} (e : ∀ x t, F x t = G x t) :
      Eff.done (w.onGroup i fun h => (bitsSet 32 (i.acts g).toNat).foldl F h) =
        Eff.done (w.onGroup i fun h => (bitsSet 32 (i.acts g).toNat).foldl G h) := by
    rw [funext fun x => funext fun t => e x t]
  refine ⟨fun op rd a b c hn => effect_blocked h rfl hn, fun op rd a b c hn hl h1 h2 h3 => done rfl hn ((if_neg (not_not.2 hl)).trans ?write),
    fun p rd a b c hn hl => done rfl hn ((if_neg (not_not.2 hl)).trans ?select), fun rd a b c hn hl => done rfl hn (if_neg (not_not.2 hl)),
    fun k rd a b c hn hl => done rfl hn ((if_neg (not_not.2 hl)).trans ?compare), fun op rd a b c hn hl => effect_trap h rfl hn ?illegal,
    fun op rd r r' c hr hn => effect_trap h rfl hn ?twoScalars, fun op rd a b hn ha hb hr => effect_done h rfl hn (if_neg ?scalar),
    fun op rd a b hn hx => effect_trap h rfl hn ?badScalar, fun sr rd hn hr => ?movsScalar, fun sr rd hn => ?movsVector,
    fun f rd ra hn h1 h2 hf => ?convert, fun f rd ra hn h1 h2 h3 hf => done rfl hn (if_neg ?block)⟩
  case write =>
    refine write fun x t => ?_
    split
    · exact absurd rfl (h1 _)
    · exact absurd rfl h2
    · exact absurd rfl (h3 _)
    · rfl
  case select => exact write fun x t => rfl
  case compare =>
    refine write fun x t => ?_
    simp only [vecResult, b2n_beq_one]
  case illegal => exact if_pos (Bool.eq_false_iff.1 hl)
  case twoScalars => exact if_pos (Bool.eq_false_iff.1 (Group.vecLegal_two_scalars hr))
  case scalar => simp [ha, hb, hr]
  case badScalar =>
    refine if_pos ?_
    rcases hx with hx | hx | hx
    · simp [hx]
    · simp [hx]
    · simp [Nat.not_lt.2 hx]
  case movsScalar =>
    intro v
    refine ⟨fun hw => effect_done h rfl hn ?_, fun hw he => effect_done h rfl hn ?_⟩
    · have narrow : ((s.issuing i g).sregVal i g g.active 0 sr).2 = false := hw
      have fits : ¬ (64 < rd + regsOf 4 ∨ rd % regsOf 4 ≠ 0) := by simp [regsOf]; omega
      simp only [GIns.says, narrow, if_true, Bool.false_eq_true, if_false, if_neg fits]
      rfl
    · have wide : ((s.issuing i g).sregVal i g g.active 0 sr).2 = true := hw
      have fits : ¬ (64 < rd + regsOf 8 ∨ rd % regsOf 8 ≠ 0) := by simp [regsOf]; omega
      simp only [GIns.says, wide, if_true, if_neg fits]
      rfl
  case movsVector =>
    refine ⟨fun hw hr => done rfl hn ?_, fun hw hr => done rfl hn ?_⟩
    · have narrow : ((s.issuing i g).sregVal i g g.active 0 sr).2 = false := hw
      simp only [GIns.says, narrow, Bool.false_eq_true, if_false, if_neg (not_not.2 hr)]
      rfl
    · have wide : ((s.issuing i g).sregVal i g g.active 0 sr).2 = true := hw
      simp only [GIns.says, wide, Bool.false_eq_true, if_true, if_false, if_neg (not_not.2 hr)]
      rfl
  case convert =>
    have legal : ¬ ¬ (g.regOk rd 4 && g.regOk ra 4 && (f == .bf16 || f == .e4m3 || f == .e5m2)) = true := by
      rcases hf with rfl | rfl | rfl <;> simp [h1, h2]
    exact ⟨done rfl hn (if_neg legal), done rfl hn (if_neg legal)⟩
  case block => rcases hf with rfl | rfl <;> simp [h1, h2, h3]

end Sys2Proof.Machine
end

section
/-! SUPPORT. The control instructions (O34): branches, YIELD, BAR.G, EXIT, and whose turn it is. -/
namespace Sys2Proof.Machine

section
variable {s : State} {i : GIns} {g : Group}

/-- Nothing comes of an instruction whose group may not issue. -/
theorem effect_notReady {c : Instr} {need : Need} {body : Group → BitVec 32 → BitVec 32 → State → Eff} (hm : i.mould < 16)
    (hq : i.quarter < 4) (hs : i.slot < 16) (hr : s.ready i = none) (hc : exec c s = s.onIns i (s.issue i need body)) : Effect c s s :=
  effect_of (hc.trans (State.onIns_of_lt hm hq hs)) (State.issue_none hr need body)

/-- A malformed encoding of a group that issues is ILLEGAL. -/
theorem effect_malformed {c : Instr} {body : Group → BitVec 32 → BitVec 32 → State → Eff} (hm : i.mould < 16) (hq : i.quarter < 4)
    (hs : i.slot < 16) (he : i.errors = []) (hr : s.ready i = some g) (hx : i.malformed = true)
    (hc : exec c s = s.onIns i (s.issue i {} body)) : Effect c s (s.illegal i g.escaping) := by
  refine effect_of (hc.trans (State.onIns_of_lt hm hq hs)) ?_
  have seen : s.seen i = s := by rw [State.seen, he]; rfl
  rw [State.issue, hr, he]
  simp only [List.foldl_nil, hr, Option.isNone_some, Bool.false_eq_true, if_false, Group.blocks_none, hx, if_true]
  rw [State.illegal, State.faults, State.issuing, seen]
  rfl

/-- It is not the turn of a slot behind another that is ready. -/
theorem State.ready_of_behind {k : Nat} (hk : k < 16) (hl : (s.quarterAt i.mould i.quarter).lastSlot < 16)
    (hc : (s.canIssue i.mould i.quarter k).isSome = true) (hh : i.held.getLsbD k = false)
    (behind : (k + 16 - (s.quarterAt i.mould i.quarter).lastSlot - 1) % 16 < (i.slot + 16 - (s.quarterAt i.mould i.quarter).lastSlot - 1) % 16) :
    s.ready i = none := by
  have turn : s.inTurn i = false := by
    rw [State.inTurn, beq_eq_false_iff_ne]
    intro found
    obtain ⟨-, n, hn, at_, before⟩ := List.find?_eq_some_iff_getElem.1 found
    simp only [List.length_map, List.length_range] at hn
    simp only [List.getElem_map, List.getElem_range] at at_ before
    have first := before ((k + 16 - (s.quarterAt i.mould i.quarter).lastSlot - 1) % 16) (by omega)
    have there : ((s.quarterAt i.mould i.quarter).lastSlot + 1 + (k + 16 - (s.quarterAt i.mould i.quarter).lastSlot - 1) % 16) % 16 = k := by
      omega
    rw [there] at first
    simp [hh, hc] at first
  exact if_neg (Bool.eq_false_iff.1 turn)

end

/-- Settles O34: a control instruction's body, branch by branch; and who may issue. -/
theorem controlMovesThreads : Obligations.ControlMovesThreads := by
  refine ⟨fun s i g h => ?moves, fun s m q k g hm hq hk hg h1 h2 => effect_of (State.onPlace_of_lt hm hq hk) ?escape,
    fun s m q k hm hq hk hg => effect_of (State.onPlace_of_lt hm hq hk) ?noGroup, fun s i hm hq hs hr c hc => ?notReady,
    fun s i k hm hq hs hc hk hh hn hb hl c hi => ?notTurn, fun s i g0 hm hq hs he hr hx c hc => ?malformed⟩
  case moves =>
    intro w pc inCode goes
    have jumps {t : Int} (ht : inCode t) : t % 8 = 0 ∧ ¬ (pc : Int) + t < 0 ∧ ¬ ((s.issuing i g).codeLen g.part : Int) ≤ (pc : Int) + t :=
      ⟨ht.1, by have := ht.2.1; omega, by have := ht.2.2; exact Int.not_le.2 this⟩
    have strays {t : Int} (ht : ¬ inCode t) : t % 8 ≠ 0 ∨ (pc : Int) + t < 0 ∨ ((s.issuing i g).codeLen g.part : Int) ≤ (pc : Int) + t := by
      by_contra hn
      simp only [not_or, not_not, Int.not_lt, Int.not_le] at hn
      exact ht hn
    have lands {t : Int} {ok : Bool} (ht : inCode t) (hk : ok = true) : ¬ (¬ ok = true ∨ t % 8 ≠ 0 ∨ (pc : Int) + t < 0 ∨
        ((s.issuing i g).codeLen g.part : Int) ≤ (pc : Int) + t) := by
      obtain ⟨grain, low, high⟩ := jumps ht
      rintro (k | k | k | k)
      · exact k hk
      · exact k grain
      · exact low k
      · exact high k
    refine ⟨fun t ht => effect_jump h rfl g.blocks_none (if_neg (lands ht rfl)),
      fun p t hp ht => ⟨effect_jump h rfl g.blocks_none (if_neg (lands ht ?pred)), effect_jump h rfl g.blocks_none (if_neg (lands ht ?pred'))⟩,
      fun r t hn hr ht => effect_jump h rfl hn (if_neg (lands ht ?scalar)), fun c t hn ht => effect_trap h rfl hn ?strays,
      effect_yield h rfl g.blocks_none rfl, effect_jump h rfl g.blocks_none rfl,
      fun hl => effect_jump h rfl g.blocks_none ((if_neg fun k => hl k.1).trans (if_neg hl)),
      fun hl hs => effect_jump h rfl g.blocks_none ((if_neg fun k => k.2 hs).trans (if_pos hl)),
      fun hl hs => effect_stall h rfl g.blocks_none (if_pos ⟨hl, Bool.eq_false_iff.1 hs⟩)⟩
    case strays => exact if_pos (.inr (strays ht))
    case pred => exact decide_eq_true hp
    case pred' => exact decide_eq_true hp
    case scalar => exact decide_eq_true hr
  case escape =>
    rw [State.evStarvationEscape, hg]
    exact if_pos ⟨h1, h2⟩
  case noGroup => rw [State.evStarvationEscape, hg]
  case notReady =>
    simp only [List.mem_cons, List.not_mem_nil, or_false] at hc
    rcases hc with rfl | rfl | rfl | rfl | rfl | rfl
    all_goals exact effect_notReady hm hq hs hr rfl
  case notTurn =>
    have hr := State.ready_of_behind hk hl hc hh hb
    simp only [List.mem_cons, List.not_mem_nil, or_false] at hi
    rcases hi with rfl | rfl | rfl | rfl | rfl
    all_goals exact effect_notReady hm hq hs hr rfl
  case malformed =>
    simp only [List.mem_cons, List.not_mem_nil, or_false] at hc
    rcases hc with rfl | rfl | rfl | rfl
    all_goals exact effect_malformed hm hq hs he hr hx rfl

end Sys2Proof.Machine
end

section
/-! SUPPORT. The wide accumulators (O36). -/
namespace Sys2Proof.Machine

section
variable {s t : State} {i : GIns} {g : Group} {c : Instr} {h n : Nat} {need : Need}
  {body : Nat → Group → BitVec 32 → BitVec 32 → State → Eff}

/-- What an instruction on a handle that the group holds says is done. -/
theorem effect_wide_done (hi : Issues s i g) (hc : exec c s = s.onIns i (s.wideIssue i h need body)) (hn : g.blocks need = false)
    (hw : g.wideOf h = some n) (hb : body n g g.active (i.acts g) (s.issuing i g) = .done t) : Effect c s (t.advanced i g) := by
  refine effect_done hi hc hn ?_
  rw [GIns.says, hw]
  exact hb

/-- And so is its trap taken. -/
theorem effect_wide_trap (hi : Issues s i g) (hc : exec c s = s.onIns i (s.wideIssue i h need body)) (hn : g.blocks need = false)
    (hw : g.wideOf h = some n) {k a : Nat} {m : BitVec 32} {r : Bool}
    (hb : body n g g.active (i.acts g) (s.issuing i g) = .trap k m a r) : Effect c s (s.faults i g k m a r) := by
  refine effect_trap hi hc hn ?_
  rw [GIns.says, hw]
  exact hb

/-- An instruction on a handle that the group does not hold is ILLEGAL. -/
theorem effect_wide_illegal (hi : Issues s i g) (hc : exec c s = s.onIns i (s.wideIssue i h need body)) (hn : g.blocks need = false)
    (hw : g.wideOf h = none) : Effect c s (s.illegal i g) := by
  refine effect_trap hi hc hn ?_
  rw [GIns.says, hw]

/-- An aligned block that lies in the window is not at fault. -/
theorem Group.blockFault_none {act : BitVec 32} {off : Nat} (ha : off % 64 = 0) (hw : off + n ≤ g.window) : g.blockFault act off n = none :=
  (if_neg (not_not.2 ha)).trans (if_neg (Nat.not_lt.2 hw))

/-- A block off 64 bytes is misaligned. -/
theorem Group.blockFault_misaligned {act : BitVec 32} {off : Nat} (ha : off % 64 ≠ 0) :
    g.blockFault act off n = some (.trap 2 act off false) := if_pos ha

/-- A block beyond the window is out of range. -/
theorem Group.blockFault_beyond {act : BitVec 32} {off : Nat} (ha : off % 64 = 0) (hw : g.window < off + n) :
    g.blockFault act off n = some (.trap 3 act off false) := (if_neg (not_not.2 ha)).trans (if_pos hw)

end

/-- Settles O36: for each instruction, what its body says of the handle. -/
theorem wideAccumulatorsAct : Obligations.WideAccumulatorsAct := by
  intro s i g hi w each act
  refine ⟨fun h hh hn => effect_done hi rfl g.blocks_none (if_neg ?free), fun h hh => effect_trap hi rfl g.blocks_none ?taken,
    fun h a h2 h1 hn c hc => ?illegal, fun h a hb c hc => ?blocked, fun h n hw => ?held⟩
  case free =>
    rintro (k | k)
    · omega
    · rw [hn] at k
      exact Bool.false_ne_true k
  case taken => exact if_pos hh
  case illegal =>
    simp only [List.mem_cons, List.not_mem_nil, or_false] at hc
    rcases hc with rfl | rfl | rfl | rfl | rfl | rfl | rfl | rfl | rfl | rfl | rfl
    · exact effect_wide_illegal hi rfl g.blocks_none hn
    · exact effect_wide_illegal hi rfl h1 hn
    · exact effect_wide_illegal hi rfl h1 hn
    · exact effect_wide_illegal hi rfl g.blocks_none hn
    · exact effect_wide_illegal hi rfl h1 hn
    · exact effect_wide_illegal hi rfl h2 hn
    · exact effect_wide_illegal hi rfl h1 hn
    · exact effect_wide_illegal hi rfl g.blocks_none hn
    · exact effect_wide_illegal hi rfl g.blocks_none hn
    · exact effect_wide_illegal hi rfl g.blocks_none hn
    · exact effect_wide_illegal hi rfl g.blocks_none hn
  case blocked =>
    simp only [List.mem_cons, List.not_mem_nil, or_false] at hc
    rcases hc with rfl | rfl | rfl | rfl
    all_goals exact effect_blocked hi rfl hb
  case held =>
    intro lane
    have block {off : Nat} (ha : off % 64 = 0) (hx : off + 1792 ≤ g.window) : g.blockFault g.active off 1792 = none :=
      Group.blockFault_none ha hx
    refine ⟨effect_wide_done hi rfl g.blocks_none hw rfl,
      fun ra hn hr => ⟨effect_wide_done hi rfl hn hw (if_neg (not_not.2 hr)), effect_wide_done hi rfl hn hw (if_neg (not_not.2 hr))⟩,
      effect_wide_done hi rfl g.blocks_none hw rfl,
      fun rd hn hr => ⟨effect_wide_done hi rfl hn hw (if_neg (not_not.2 hr)), effect_wide_done hi rfl hn hw (if_neg (not_not.2 hr))⟩,
      fun rd rd2 hn h1 h2 => effect_wide_done hi rfl hn hw (if_neg ?pair),
      fun off ha hx => ⟨effect_wide_done hi rfl g.blocks_none hw ?store, fun l hl => ⟨effect_wide_done hi rfl g.blocks_none hw ?load,
        effect_wide_done hi rfl g.blocks_none hw ?add⟩, fun hl => ⟨effect_wide_trap hi rfl g.blocks_none hw ?badLoad,
        effect_wide_trap hi rfl g.blocks_none hw ?badAdd⟩⟩, fun off ha => effect_wide_trap hi rfl g.blocks_none hw ?misaligned,
      fun off ha hx => effect_wide_trap hi rfl g.blocks_none hw ?beyond, effect_wide_done hi rfl g.blocks_none hw rfl⟩
    case pair => simp [h1, h2]
    case store => rw [block ha hx]
    case load => rw [block ha hx, hl]
    case add => rw [block ha hx, hl]
    case badLoad => rw [block ha hx, hl]
    case badAdd => rw [block ha hx, hl]
    case misaligned => rw [Group.blockFault_misaligned ha]
    case beyond => rw [Group.blockFault_beyond ha hx]

end Sys2Proof.Machine
end

section
/-! SUPPORT. Tiles, the matrix unit and bulk copies (O37). -/
namespace Sys2Proof.Machine

section
variable {s t : State} {i : GIns} {g : Group} {c : Instr} {h n : Nat}

/-! ### Instructions of the matrix unit -/

/-- An instruction of the unit finds it full. -/
theorem effect_unit_full {body : Group → BitVec 32 → State → Eff} (hi : Issues s i g) (hc : exec c s = s.onIns i (s.unitIssue i body))
    (hr : (s.issuing i g).matRoom i = false) : Effect c s s := effect_stall hi hc g.blocks_none (if_pos (Bool.eq_false_iff.1 hr))

/-- A group without the matrix entry may not use the unit. -/
theorem effect_unit_denied {body : Group → BitVec 32 → State → Eff} (hi : Issues s i g) (hc : exec c s = s.onIns i (s.unitIssue i body))
    (hr : (s.issuing i g).matRoom i = true) (hm : g.matrix = false) : Effect c s (s.illegal i g) := by
  refine effect_trap hi hc g.blocks_none ?_
  exact (if_neg (not_not.2 hr)).trans (if_pos (Bool.eq_false_iff.1 hm))

/-- What an instruction of the unit says with room, of a group that may use it, is done. -/
theorem effect_unit_done {body : Group → BitVec 32 → State → Eff} (hi : Issues s i g) (hc : exec c s = s.onIns i (s.unitIssue i body))
    (hr : (s.issuing i g).matRoom i = true) (hm : g.matrix = true) (hb : body g g.active (s.issuing i g) = .done t) :
    Effect c s (t.advanced i g) :=
  effect_done hi hc g.blocks_none ((if_neg (not_not.2 hr)).trans ((if_neg (not_not.2 hm)).trans hb))

/-- And so is its trap taken. -/
theorem effect_unit_trap {body : Group → BitVec 32 → State → Eff} (hi : Issues s i g) (hc : exec c s = s.onIns i (s.unitIssue i body))
    (hr : (s.issuing i g).matRoom i = true) (hm : g.matrix = true) {k a : Nat} {m : BitVec 32} {r : Bool}
    (hb : body g g.active (s.issuing i g) = .trap k m a r) : Effect c s (s.faults i g k m a r) := by
  refine effect_trap hi hc g.blocks_none ?_
  exact (if_neg (not_not.2 hr)).trans ((if_neg (not_not.2 hm)).trans hb)

/-- An instruction on a tile that the group holds is done as its body says. -/
theorem effect_mat_done {body : Nat → Group → BitVec 32 → State → Eff} (hi : Issues s i g) (hc : exec c s = s.onIns i (s.matIssue i h body))
    (hr : (s.issuing i g).matRoom i = true) (hm : g.matrix = true) (ht : Table.at g.tiles h none = some n)
    (hb : body n g g.active (s.issuing i g) = .done t) : Effect c s (t.advanced i g) := by
  refine effect_unit_done hi hc hr hm ?_
  rw [ht]
  exact hb

/-- And so is its trap taken. -/
theorem effect_mat_trap {body : Nat → Group → BitVec 32 → State → Eff} (hi : Issues s i g) (hc : exec c s = s.onIns i (s.matIssue i h body))
    (hr : (s.issuing i g).matRoom i = true) (hm : g.matrix = true) (ht : Table.at g.tiles h none = some n)
    {k a : Nat} {m : BitVec 32} {r : Bool} (hb : body n g g.active (s.issuing i g) = .trap k m a r) :
    Effect c s (s.faults i g k m a r) := by
  refine effect_unit_trap hi hc hr hm ?_
  rw [ht]
  exact hb

/-- An instruction on a tile that the group does not hold, or of a group without the matrix entry, is ILLEGAL. -/
theorem effect_mat_illegal {body : Nat → Group → BitVec 32 → State → Eff} (hi : Issues s i g) (hc : exec c s = s.onIns i (s.matIssue i h body))
    (hr : (s.issuing i g).matRoom i = true) (hm : g.matrix = false ∨ Table.at g.tiles h none = none) : Effect c s (s.illegal i g) := by
  cases hg : g.matrix with
  | false => exact effect_unit_denied hi hc hr hg
  | true =>
    have ht : Table.at g.tiles h none = none := hm.resolve_left (by simp [hg])
    refine effect_unit_trap hi hc hr hg ?_
    rw [ht]

/-- So is an operation of the queue. -/
theorem effect_queue_illegal {op : Nat → Group → BitVec 32 → Eff ⊕ MatOp} (hi : Issues s i g)
    (hc : exec c s = s.onIns i (s.matQueue i h op)) (hr : (s.issuing i g).matRoom i = true)
    (hm : g.matrix = false ∨ Table.at g.tiles h none = none) : Effect c s (s.illegal i g) := effect_mat_illegal hi hc hr hm

/-- A full unit issues no instruction on a tile. -/
theorem effect_mat_full {body : Nat → Group → BitVec 32 → State → Eff} (hi : Issues s i g) (hc : exec c s = s.onIns i (s.matIssue i h body))
    (hr : (s.issuing i g).matRoom i = false) : Effect c s s := effect_unit_full hi hc hr

/-- Nor an operation of the queue. -/
theorem effect_queue_full {op : Nat → Group → BitVec 32 → Eff ⊕ MatOp} (hi : Issues s i g)
    (hc : exec c s = s.onIns i (s.matQueue i h op)) (hr : (s.issuing i g).matRoom i = false) : Effect c s s := effect_mat_full hi hc hr

/-- An operation that its operands allow joins the unit's queue. -/
theorem effect_mat_queued {op : Nat → Group → BitVec 32 → Eff ⊕ MatOp} (hi : Issues s i g) (hc : exec c s = s.onIns i (s.matQueue i h op))
    (hr : (s.issuing i g).matRoom i = true) (hm : g.matrix = true) (ht : Table.at g.tiles h none = some n) {o : MatOp}
    (ho : op n g g.active = .inr o) : Effect c s (((s.issuing i g).matPush i h n o).advanced i g) := by
  refine effect_mat_done hi hc hr hm ht ?_
  rw [ho]

/-- One that they do not is ILLEGAL. -/
theorem effect_mat_refused {op : Nat → Group → BitVec 32 → Eff ⊕ MatOp} (hi : Issues s i g) (hc : exec c s = s.onIns i (s.matQueue i h op))
    (hr : (s.issuing i g).matRoom i = true) (hm : g.matrix = true) (ht : Table.at g.tiles h none = some n)
    (ho : op n g g.active = .inl (.trap 1 g.active 0 false)) : Effect c s (s.illegal i g) := by
  refine effect_mat_trap hi hc hr hm ht ?_
  rw [ho]

/-! ### The end of a matrix instruction -/

/-- Handing tiles on leaves the unit's queue. -/
theorem Quarter.serveTiles_matrix (n : Nat) (x : Quarter) : (x.serveTiles n).matrix = x.matrix := by
  induction n generalizing x with
  | zero => rfl
  | succ n ih =>
    unfold Quarter.serveTiles
    split
    · rw [ih]
    · rfl

/-- Handing tiles on leaves a tile that is held. -/
theorem Quarter.serveTiles_held (n : Nat) (x : Quarter) {k : Nat} (hk : (Table.at x.tiles k {}).holder ≠ none) :
    Table.at (x.serveTiles n).tiles k {} = Table.at x.tiles k {} := by
  induction n generalizing x with
  | zero => rfl
  | succ n ih =>
    unfold Quarter.serveTiles
    split
    · case h_1 slot handle rest j _ free =>
      have free : (Table.at x.tiles j {}).holder = none := by simpa using List.find?_some free
      have other : j ≠ k := by rintro rfl; exact hk free
      have same (y : Tile) : Table.at (Table.put x.tiles j y) k {} = Table.at x.tiles k {} := Table.at_put_other _ other _ _
      rw [ih]
      · exact same _
      · rwa [same]
    · rfl

/-- With nobody waiting no tile is handed on. -/
theorem Quarter.serveTiles_nobody (n : Nat) {x : Quarter} (h : x.tileQ = []) : x.serveTiles n = x := by
  cases n with
  | zero => rfl
  | succ n =>
    unfold Quarter.serveTiles
    rw [h]

/-- Only a release takes a tile's holder. -/
theorem matEffect_holder {op : MatOp} (ph : Nat → Nat) (t : Tile) (m : Mem) (h : op ≠ .rel) : (matEffect op ph t m).1.holder = t.holder := by
  cases op with
  | rel => exact absurd rfl h
  | _ => simp only [matEffect]

/-- The quarter after its executing instruction has ended: the tile as the instruction leaves it, and its waiter ready. -/
def Quarter.matEnded (x : Quarter) (e : MatEntry) (rest : List MatEntry) (r : Tile) : Quarter :=
  let y : Quarter := { x with matrix := rest, tiles := Table.put x.tiles e.tile r }
  if y.matPending e.slot e.handle then y else
    { y with slots := Table.upd y.slots e.slot fun g => g.map fun (g : Group) =>
        if g.wait = .matrix e.handle then { g with wait := .none } else g }

theorem Quarter.matEnded_matrix (x : Quarter) (e : MatEntry) (rest : List MatEntry) (r : Tile) : (x.matEnded e rest r).matrix = rest := by
  unfold Quarter.matEnded
  dsimp only
  split <;> rfl

theorem Quarter.matEnded_tiles (x : Quarter) (e : MatEntry) (rest : List MatEntry) (r : Tile) :
    (x.matEnded e rest r).tiles = Table.put x.tiles e.tile r := by
  unfold Quarter.matEnded
  dsimp only
  split <;> rfl

theorem Quarter.matEnded_tileQ (x : Quarter) (e : MatEntry) (rest : List MatEntry) (r : Tile) : (x.matEnded e rest r).tileQ = x.tileQ := by
  unfold Quarter.matEnded
  dsimp only
  split <;> rfl

/-- What the executing instruction does to its tile and to scratch. -/
def State.matResult (s : State) (m q : Nat) (e : MatEntry) : Tile × Mem :=
  matEffect e.op (fun off => ((s.groupAt m q e.slot).map (·.phys off)).getD off) (Table.at (s.quarterAt m q).tiles e.tile {})
    (s.mouldAt m).scratch

/-- The end of the executing instruction. -/
theorem State.evMatrixOpDone_of {m q : Nat} {e : MatEntry} {rest : List MatEntry} (hx : (s.quarterAt m q).matrix = e :: rest) :
    s.evMatrixOpDone m q = (s.updMould m fun x => { x with scratch := (s.matResult m q e).2 }).updQuarter m q fun x =>
      (x.matEnded e rest (s.matResult m q e).1).serveTiles 4 := by
  unfold State.evMatrixOpDone
  rw [hx]
  rfl

/-- A quarter that is changed, with scratch changed before. -/
theorem State.quarterAt_ended {m q : Nat} (hm : m < 16) (hq : q < 4) (x : Mem) (f : Quarter → Quarter) :
    ((s.updMould m fun y => { y with scratch := x }).updQuarter m q f).quarterAt m q = f (s.quarterAt m q) ∧
      (((s.updMould m fun y => { y with scratch := x }).updQuarter m q f).mouldAt m).scratch = x ∧
      (∀ n, n ≠ m → ((s.updMould m fun y => { y with scratch := x }).updQuarter m q f).mouldAt n = s.mouldAt n) := by
  have there : ((s.updMould m fun y => { y with scratch := x }).updQuarter m q f).mouldAt m =
      { s.mouldAt m with scratch := x, q := Table.upd (s.mouldAt m).q q f } := by
    rw [State.updQuarter, State.mouldAt_updMould_same _ hm, State.mouldAt_updMould_same _ hm]
  refine ⟨?_, ?_, fun n hn => ?_⟩
  · rw [State.quarterAt, there]
    exact Table.at_upd_same _ hq f {}
  · rw [there]
  · rw [State.updQuarter, State.mouldAt_updMould_other _ (Ne.symm hn), State.mouldAt_updMould_other _ (Ne.symm hn)]

/-! ### Copies -/

/-- The end of a group's oldest copy that may end. -/
theorem State.evCopyDone_of {m q k : Nat} {x : Copy} {rest : List Copy} (hg : s.groupAt m q k = some g) (hx : g.copies = x :: rest)
    (hf : x.fault = none) (hp : x.pending = 0) : s.evCopyDone m q k =
      (let r := match s.placeOf x.va with
          | .remote _ _ => (none, s)
          | .local_ _ => s.copyMove m g x 0 18
          | .bad => (some (5, x.va, false), s)
       (r.2.updGroup m q k fun y => { y with copies := match r.1 with
          | some f => { x with fault := some f } :: rest
          | none => rest }).copyWake m q k) := by
  unfold State.evCopyDone
  rw [hg]
  dsimp only
  rw [hx]
  exact if_neg (by simp [hf, hp])

end

/-- Settles O37: for each instruction what its body says of tile, unit and copies; for each end what it leaves. -/
theorem matrixAndCopiesAct : Obligations.MatrixAndCopiesAct := by
  refine ⟨fun s i g hi => ?matrix, fun s i g hi => ?wait, fun s m q hm hq hx => effect_of (if_pos ⟨hm, hq⟩) ?idle,
    fun s m q e rest hm hq hx ht ho hh => ?ends, fun s m q e rest hm hq hx ht ho hn => ?released,
    fun s m q k g hm hq hk hg hx => effect_of (State.onPlace_of_lt hm hq hk) ?noCopy,
    fun s m q k g x rest va hm hq hk hg hx hf hp hl hc => effect_of (State.onPlace_of_lt hm hq hk) ?local_,
    fun s m q k g x rest pos va hm hq hk hg hx hf hp hr => effect_of (State.onPlace_of_lt hm hq hk) ?remote⟩
  case matrix =>
    intro w illegal queued
    refine ⟨fun h hh hr hm ht => effect_unit_done hi rfl hr hm ?acquire, fun h hh hr hm => effect_unit_trap hi rfl hr hm ?noHandle,
      fun h hr hm => ?denied, fun h t hm ht hr => ?held, fun h hm hr c hc => ?notHeld, fun h hr c hc => ?full,
      fun h t hr hm ht hp => effect_mat_done hi rfl hr hm ht (if_pos hp),
      fun h t hr hm ht hp => effect_mat_done hi rfl hr hm ht (if_neg (Bool.eq_false_iff.1 hp)), ?copies⟩
    case acquire => exact (if_neg (Nat.not_le.2 hh)).trans (if_neg (by simp [ht]))
    case noHandle => exact if_pos hh
    case denied =>
      cases hg : g.matrix with
      | false => exact effect_unit_denied hi rfl hr hg
      | true =>
        obtain ⟨hh, ht⟩ := hm.resolve_left (by simp [hg])
        exact effect_unit_trap hi rfl hr hg ((if_neg (Nat.not_le.2 hh)).trans (if_pos ht))
    case held =>
      refine ⟨effect_mat_queued hi rfl hr hm ht rfl, fun off ho => effect_mat_queued hi rfl hr hm ht (if_pos ho),
        fun off ho => effect_mat_refused hi rfl hr hm ht (if_neg (Bool.eq_false_iff.1 ho)),
        fun fa fb a b k e hf h1 h2 h3 ha hb he => effect_mat_queued hi rfl hr hm ht (if_pos ?mma),
        fun fa fb a b k e hx => effect_mat_refused hi rfl hr hm ht (if_neg ?badMma),
        fun f off hf ho => effect_mat_queued hi rfl hr hm ht (if_pos ⟨by simp [hf], ho⟩), effect_mat_done hi rfl hr hm ht rfl⟩
      case mma =>
        have third : (if fb.block = true then g.tileOk e (128 * (k / 32)) else e == 0) = true := by
          split at he
          · next hb => rw [if_pos hb]; exact he
          · next hb => rw [if_neg hb]; simpa using he
        rw [hf, ha, hb, third, h3, decide_eq_true h1, decide_eq_true h2]
        rfl
      case badMma =>
        rcases hx with hx | hx | hx | hx
        · simp [hx]
        · simp [Nat.not_le.2 hx]
        · simp [Nat.not_le.2 hx]
        · simp [hx]
    case notHeld =>
      simp only [List.mem_cons, List.not_mem_nil, or_false] at hc
      rcases hc with rfl | rfl | rfl | rfl
      · exact effect_queue_illegal hi rfl hr hm
      · exact effect_mat_illegal hi rfl hr hm
      · exact effect_mat_illegal hi rfl hr hm
      · exact effect_queue_illegal hi rfl hr hm
    case full =>
      simp only [List.mem_cons, List.not_mem_nil, or_false] at hc
      rcases hc with rfl | rfl | rfl | rfl | rfl
      · exact effect_unit_full hi rfl hr
      · exact effect_queue_full hi rfl hr
      · exact effect_mat_full hi rfl hr
      · exact effect_mat_full hi rfl hr
      · exact effect_queue_full hi rfl hr
    case copies =>
      intro copy
      have free (ha : g.acq = false) : g.blocks { mem := true } = false := by simp [Group.blocks, ha]
      have fits {len : Nat} (h0 : len ≠ 0) (h1 : len ≤ 2 ^ 20) (h2 : len % 64 = 0) : ¬ (len = 0 ∨ 2 ^ 20 < len ∨ len % 64 ≠ 0) := by omega
      refine ⟨fun sc off va len ha h0 h1 h2 hl => effect_done hi rfl (free ha) ((if_neg (fits h0 h1 h2)).trans (if_neg (Nat.not_le.2 hl))),
        fun sc off va len ha h0 h1 h2 hl => effect_done hi rfl (free ha) ((if_neg (fits h0 h1 h2)).trans (if_pos hl)),
        fun sc off va len ha hx => effect_trap hi rfl (free ha) ?bad, fun sc off va len ha => effect_blocked hi rfl ?outstanding⟩
      case bad => exact if_pos hx
      case outstanding => simp [Group.blocks, ha]
  case wait =>
    refine ⟨fun n hn hl => effect_done hi rfl g.blocks_none ?_, fun n hn hl => effect_jump hi rfl g.blocks_none ?_,
      fun n c hn hl ha => effect_issue hi g.blocks_none rfl ?_⟩
    · rw [GIns.says, hn]
      exact if_pos hl
    · rw [GIns.says, hn]
      exact if_neg (Nat.not_le.2 hl)
    · rw [hn]
      exact (if_neg ha).trans (if_pos hl)
  case idle => rw [State.evMatrixOpDone, hx]
  case ends =>
    refine ⟨_, effect_of (if_pos ⟨hm, hq⟩) (State.evMatrixOpDone_of hx), ?_⟩
    obtain ⟨quarter, scratch, others⟩ := State.quarterAt_ended (s := s) hm hq (s.matResult m q e).2
      fun x => (x.matEnded e rest (s.matResult m q e).1).serveTiles 4
    have tile : Table.at ((s.quarterAt m q).matEnded e rest (s.matResult m q e).1).tiles e.tile {} = (s.matResult m q e).1 := by
      rw [Quarter.matEnded_tiles]
      exact Table.at_put_same _ ht _ _
    have held : (Table.at ((s.quarterAt m q).matEnded e rest (s.matResult m q e).1).tiles e.tile {}).holder ≠ none := by
      rw [tile, State.matResult, matEffect_holder _ _ _ ho]
      exact hh
    refine ⟨?_, ⟨?_, scratch⟩, others, rfl⟩
    · rw [quarter, Quarter.serveTiles_matrix, Quarter.matEnded_matrix]
    · rw [quarter, Quarter.serveTiles_held _ _ held, tile]
      rfl
  case released =>
    refine ⟨_, effect_of (if_pos ⟨hm, hq⟩) (State.evMatrixOpDone_of hx), ?_⟩
    obtain ⟨quarter, -, -⟩ := State.quarterAt_ended (s := s) hm hq (s.matResult m q e).2
      fun x => (x.matEnded e rest (s.matResult m q e).1).serveTiles 4
    have nobody : ((s.quarterAt m q).matEnded e rest (s.matResult m q e).1).tileQ = [] := by rw [Quarter.matEnded_tileQ, hn]
    refine ⟨?_, ?_, rfl⟩
    · rw [quarter, Quarter.serveTiles_matrix, Quarter.matEnded_matrix]
    · rw [quarter, Quarter.serveTiles_nobody _ nobody, Quarter.matEnded_tiles, Table.at_put_same _ ht, State.matResult, ho]
      rfl
  case noCopy => simp only [State.evCopyDone, hg, hx]
  case local_ =>
    rw [State.evCopyDone_of hg hx hf hp, hl]
    simp only [hc]
  case remote => rw [State.evCopyDone_of hg hx hf hp, hr]

end Sys2Proof.Machine
end

section
/-! SUPPORT. Loads, stores and atomics (O38). -/
namespace Sys2Proof.Machine

section
variable {s t : State} {i : GIns} {g : Group} {c : Instr} {need : Need} {op : MemOp} {reads write : Bool}
  {r : List (Nat × Nat × Target) × State} {b : List (Nat × Nat × Target) → State → State}

/-- A register that awaits a result holds an instruction that also waits for every answer. -/
theorem Group.blocks_all (h : g.blocks need = true) : g.blocks { need with all := true } = true := by
  simp only [Group.blocks, Bool.or_eq_true, Bool.and_eq_true] at h ⊢
  rcases h with (h | ⟨-, h⟩) | h
  · exact .inl (.inl h)
  · exact .inl (.inr ⟨trivial, h⟩)
  · exact .inr h

/-- With no answer outstanding such an instruction waits for its registers alone. -/
theorem Group.blocks_all_none (h : g.blocks need = false) (hp : g.pending = []) : g.blocks { need with all := true } = false := by
  simp only [Group.blocks, hp, Bool.or_eq_false_iff] at h ⊢
  exact ⟨⟨rfl, rfl⟩, h.2⟩

/-- With an answer outstanding it waits. -/
theorem Group.blocks_all_pending (hp : g.pending ≠ []) : g.blocks { need with all := true } = true := by
  have : g.pending.isEmpty = false := by simpa using hp
  simp [Group.blocks, this]

/-- An access whose registers do not exist says ILLEGAL. -/
theorem State.checked_illegal {ex : BitVec 32} (hl : g.memLegal op = false) :
    s.checked i g reads write op ex b = .trap 1 g.active 0 false := if_pos (by simp [hl])

/-- An access whose targets are in order does what it is for. -/
theorem State.checked_done {ex : BitVec 32} (hl : g.memLegal op = true) (hr : s.targets i g write op ex = r)
    (ht : r.1.any (fun e => e.2.2 == .table) = false) (hf : firstFault (r.1.filterMap (r.2.elemFault reads)) = none) :
    s.checked i g reads write op ex b = .done (b r.1 r.2) := by
  unfold State.checked
  rw [if_neg (not_not.2 hl), hr, if_neg (by rw [ht]; exact Bool.false_ne_true), hf]

/-- Uncorrectable data in a table faults the partition. -/
theorem State.checked_table {ex : BitVec 32} (hl : g.memLegal op = true) (hr : s.targets i g write op ex = r)
    (ht : r.1.any (fun e => e.2.2 == .table) = true) : s.checked i g reads write op ex b = .jump (r.2.partFault g.part 1) := by
  unfold State.checked
  rw [if_neg (not_not.2 hl), hr]
  exact if_pos ht

/-- The fault of the lowest kind traps. -/
theorem State.checked_trap {ex : BitVec 32} (hl : g.memLegal op = true) (hr : s.targets i g write op ex = r)
    (ht : r.1.any (fun e => e.2.2 == .table) = false) {k a : Nat} {m : BitVec 32} {p : Bool}
    (hf : firstFault (r.1.filterMap (r.2.elemFault reads)) = some (.trap k m a p)) :
    s.checked i g reads write op ex b = .trapIn r.2 k m a p (r.1.map fun e => e.2.1) := by
  unfold State.checked
  rw [if_neg (not_not.2 hl), hr, if_neg (by rw [ht]; exact Bool.false_ne_true), hf]

/-- A trap after walks is taken on what the walks left, where threads execute and earlier results have landed. -/
theorem effect_trapIn {body : Group → BitVec 32 → BitVec 32 → State → Eff} (h : Issues s i g)
    (hc : exec c s = s.onIns i (s.issue i need body)) (hn : g.blocks need = false) {k a : Nat} {m : BitVec 32} {p : Bool} {l : List Nat}
    (hb : i.says s g body = .trapIn t k m a p l) (hl : g.landed = true) (ha : i.acts g ≠ 0) :
    Effect c s ((t.slotIssued i).trapTake i g k (m &&& i.acts g) a p l) :=
  effect_issue h hn hc ((congrArg (Eff.after · s (s.issuing i g) i g) hb).trans ((if_neg ha).trans (if_pos hl)))

end

section
variable {s t : State} {i : GIns} {g : Group} {c : Instr} {need : Need} {op : MemOp} {reads write : Bool}
  {r : List (Nat × Nat × Target) × State} {b : Group → List (Nat × Nat × Target) → State → State}

/-- The form of a load or a store: what it is for, once its targets are in order. -/
def Accesses (c : Instr) (s : State) (i : GIns) (need : Need) (reads write : Bool) (op : MemOp)
    (b : Group → List (Nat × Nat × Target) → State → State) : Prop :=
  exec c s = s.onIns i (s.issue i need fun g _ ex s => s.checked i g reads write op ex (b g))

/-- A load or a store whose registers do not exist is ILLEGAL. -/
theorem effect_access_illegal (h : Issues s i g) (hc : Accesses c s i need reads write op b) (hn : g.blocks need = false)
    (hl : g.memLegal op = false) : Effect c s (s.illegal i g) := effect_trap h hc hn (State.checked_illegal hl)

/-- One whose targets are in order does what it is for. -/
theorem effect_access_done (h : Issues s i g) (hc : Accesses c s i need reads write op b) (hn : g.blocks need = false)
    (hl : g.memLegal op = true) (hr : (s.issuing i g).targets i g write op (i.acts g) = r)
    (ht : r.1.any (fun e => e.2.2 == .table) = false) (hf : firstFault (r.1.filterMap (r.2.elemFault reads)) = none)
    (hb : b g r.1 r.2 = t) : Effect c s (t.advanced i g) :=
  effect_done h hc hn ((State.checked_done hl hr ht hf).trans (congrArg Eff.done hb))

/-- Uncorrectable data in a table faults its partition. -/
theorem effect_access_table (h : Issues s i g) (hc : Accesses c s i need reads write op b) (hn : g.blocks need = false)
    (hl : g.memLegal op = true) (hr : (s.issuing i g).targets i g write op (i.acts g) = r)
    (ht : r.1.any (fun e => e.2.2 == .table) = true) : Effect c s ((r.2.partFault g.part 1).issuedBy i g) :=
  effect_jump h hc hn (State.checked_table hl hr ht)

/-- The fault of the lowest kind traps. -/
theorem effect_access_trap (h : Issues s i g) (hc : Accesses c s i need reads write op b) (hn : g.blocks need = false)
    (hl : g.memLegal op = true) (hr : (s.issuing i g).targets i g write op (i.acts g) = r)
    (ht : r.1.any (fun e => e.2.2 == .table) = false) {k a : Nat} {m : BitVec 32} {p : Bool}
    (hf : firstFault (r.1.filterMap (r.2.elemFault reads)) = some (.trap k m a p)) (hl : g.landed = true) (ha : i.acts g ≠ 0) :
    Effect c s ((r.2.slotIssued i).trapTake i g k (m &&& i.acts g) a p (r.1.map fun e => e.2.1)) :=
  effect_trapIn h hc hn (State.checked_trap ‹_› hr ht hf) hl ha

end

section
variable (s : State) (i : GIns) (op : MemOp)

theorem load_accesses : Accesses (.load i op) s i (memNeed op) true false op fun g l s => s.loadBody i g op false l := rfl
theorem ldAcq_accesses : Accesses (.ldAcq i op) s i (memNeed op) true false op fun g l s =>
  if farSectors l = [] ∨ (s.partAt g.part).tag = 0 then (s.loadBody i g op true l).acquire i.mould else s.loadBody i g op true l := rfl
theorem store_accesses : Accesses (.store i op) s i (memNeed op) false true op fun g l s => s.storeBody i g op l := rfl
theorem stRel_accesses : Accesses (.stRel i op) s i { memNeed op with all := true } false true op fun g l s => s.storeBody i g op l := rfl

end

/-- One thread's access has one target. -/
theorem State.targets_one {s : State} {i : GIns} {g : Group} {write : Bool} {op : MemOp} {ex : BitVec 32} {t : Nat}
    (ht : bitsSet 32 ex.toNat = [t]) : s.targets i g write op ex =
      ([(t, g.memAddr op t, (s.targetOf i g op.scratch write op.size (g.memAddr op t)).1)],
        (s.targetOf i g op.scratch write op.size (g.memAddr op t)).2) := by
  unfold State.targets
  rw [ht]
  rfl

section
variable {s : State} {i : GIns} {g : Group} {scratch write : Bool} {size a : Nat}

/-- An address off its size is misaligned. -/
theorem State.targetOf_misaligned (h : a % size ≠ 0) : s.targetOf i g scratch write size a = (.fault 2 false, s) := if_pos h

/-- A scratch address beyond the window is out of range. -/
theorem State.targetOf_beyond (hs : scratch = true) (h : a % size = 0) (hw : g.window < a + size) :
    s.targetOf i g scratch write size a = (.fault 3 false, s) := (if_neg (not_not.2 h)).trans ((if_pos hs).trans (if_pos hw))

/-- A scratch address in the window is scratch. -/
theorem State.targetOf_scratch (hs : scratch = true) (h : a % size = 0) (hw : a + size ≤ g.window) :
    s.targetOf i g scratch write size a = (.scratch a, s) :=
  (if_neg (not_not.2 h)).trans ((if_pos hs).trans (if_neg (Nat.not_lt.2 hw)))

/-- A translation that finds a page changes no partition. -/
theorem State.walkCached_leaf_part {t : State} {m p va level table ppa : Nat} {wr ok : Bool}
    (h : s.walkCached m p va level table = (.leaf ppa wr ok, t)) : t.part = s.part := by
  have cached (l : List (Nat × Nat)) : ∀ u : State, (l.foldl (fun (s : State) t =>
      s.xltCache m { part := p, table := some t.1, vpn := va / 2 ^ tableBits t.1, ppa := t.2, w := false }) u).part = u.part :=
    State.foldl_keeps (f := fun (s : State) t =>
        s.xltCache m { part := p, table := some t.1, vpn := va / 2 ^ tableBits t.1, ppa := t.2, w := false }) State.part (fun _ _ => rfl) l
  unfold State.walkCached at h
  dsimp only at h
  split at h
  · obtain ⟨-, rfl⟩ := Prod.mk.inj h
    exact cached _ _
  · next hw => exact absurd (congrArg Prod.fst h) (hw _ _ _)

theorem State.xlate_leaf_part {t : State} {m p va ppa : Nat} {wr ok : Bool} (h : s.xlate m p va = (.leaf ppa wr ok, t)) :
    t.part = s.part := by
  have root (u : State) (hu : u.part = s.part) (k : (if (u.partAt p).xltEn then u.walkCached m p va 0 ((u.partAt p).xltRoot * 4096)
      else (.absent false, u)) = (Walk.leaf ppa wr ok, t)) : t.part = s.part := by
    split at k
    · exact (State.walkCached_leaf_part k).trans hu
    · exact absurd (congrArg Prod.fst k) nofun
  unfold State.xlate at h
  dsimp only at h
  split at h
  · split at h
    · obtain ⟨-, rfl⟩ := Prod.mk.inj h
      rfl
    · split at h
      · exact root (s.free 21).2 rfl h
      · split at h
        · exact State.walkCached_leaf_part (s := ((s.free 21).2.free 21).2) h
        · exact root ((s.free 21).2.free 21).2 rfl h
  · split at h
    · exact root s rfl h
    · split at h
      · exact State.walkCached_leaf_part (s := (s.free 21).2) h
      · exact root (s.free 21).2 rfl h

/-- A translated address whose granule the partition holds is device memory; a write needs its permission, and stays off the image. -/
theorem State.targetOf_local {t : State} {va ppa d : Nat} {wr ok : Bool} (h : a % size = 0) (hp : s.placeOf a = .local_ va)
    (hx : s.xlate i.mould g.part va = (.leaf ppa wr ok, t)) (hd : (t.partAt g.part).dpa (ppa + va % 65536) = some d) :
    s.targetOf i g false write size a =
      if write && (!wr || (t.partAt g.part).inImage d) then (.fault 4 false, t) else (.mem d, t) := by
  have part : s.partAt g.part = t.partAt g.part := congrArg (Table.at · g.part ({} : Part)) (State.xlate_leaf_part hx).symm
  unfold State.targetOf
  rw [if_neg (not_not.2 h), if_neg Bool.false_ne_true, hp, part]
  dsimp only
  rw [hx]
  dsimp only
  rw [hd]

end

/-- The fault of one thread is the trap. -/
theorem firstFault_one {k t a : Nat} {p : Bool} (hk : k ∈ [1, 2, 3, 5, 4, 6]) :
    firstFault [(k, t, a, p)] = some (.trap k (BitVec.ofNat 32 (maskOf [t])) a p) := by
  simp only [List.mem_cons, List.not_mem_nil, or_false] at hk
  rcases hk with rfl | rfl | rfl | rfl | rfl | rfl
  all_goals simp [firstFault]

section
variable {s u : State} {i : GIns} {g : Group} {op : MemOp} {t a k d : Nat} {x : Target}

/-- The single target of one thread, where it is known. -/
theorem State.targets_of_one {write : Bool} {ex : BitVec 32} (ht : bitsSet 32 ex.toNat = [t])
    (hx : s.targetOf i g op.scratch write op.size (g.memAddr op t) = (x, u)) :
    s.targets i g write op ex = ([(t, g.memAddr op t, x)], u) := by
  rw [State.targets_one ht, hx]

/-- Where one thread executes, some does. -/
theorem ne_zero_of_bitsSet {ex : BitVec 32} (ht : bitsSet 32 ex.toNat = [t]) : ex ≠ 0 := by
  rintro rfl
  exact absurd ht (by simp [bitsSet, bitOf])

/-- A load or a store of one thread at fault traps for that thread. -/
theorem effect_one_trap {c : Instr} {need : Need} {reads write : Bool} {b : Group → List (Nat × Nat × Target) → State → State}
    (h : Issues s i g) (hc : Accesses c s i need reads write op b) (hn : g.blocks need = false) (hl : g.memLegal op = true)
    (ht : bitsSet 32 (i.acts g).toNat = [t])
    (hx : (s.issuing i g).targetOf i g op.scratch write op.size (g.memAddr op t) = (.fault k false, u)) (hk : k ∈ [1, 2, 3, 5, 4, 6])
    (hd : g.landed = true) : Effect c s ((u.slotIssued i).trapTake i g k (BitVec.ofNat 32 (maskOf [t]) &&& i.acts g)
      (g.memAddr op t) false [g.memAddr op t]) :=
  effect_access_trap h hc hn hl (State.targets_of_one ht hx) rfl (firstFault_one hk) hd (ne_zero_of_bitsSet ht)

/-- One at scratch does what it is for. -/
theorem effect_one_scratch {c : Instr} {need : Need} {reads write : Bool} {b : Group → List (Nat × Nat × Target) → State → State}
    {v : State} (h : Issues s i g) (hc : Accesses c s i need reads write op b) (hn : g.blocks need = false) (hl : g.memLegal op = true)
    (ht : bitsSet 32 (i.acts g).toNat = [t])
    (hx : (s.issuing i g).targetOf i g op.scratch write op.size (g.memAddr op t) = (.scratch a, u))
    (hb : b g [(t, g.memAddr op t, .scratch a)] u = v) : Effect c s (v.advanced i g) :=
  effect_access_done h hc hn hl (State.targets_of_one ht hx) rfl rfl hb

/-- And so does one at memory that it may reach. -/
theorem effect_one_mem {c : Instr} {need : Need} {reads write : Bool} {b : Group → List (Nat × Nat × Target) → State → State}
    {v : State} (h : Issues s i g) (hc : Accesses c s i need reads write op b) (hn : g.blocks need = false) (hl : g.memLegal op = true)
    (ht : bitsSet 32 (i.acts g).toNat = [t])
    (hx : (s.issuing i g).targetOf i g op.scratch write op.size (g.memAddr op t) = (.mem d, u))
    (hp : reads = false ∨ u.isPoisoned (d / 64) = false)
    (hb : b g [(t, g.memAddr op t, .mem d)] u = v) : Effect c s (v.advanced i g) := by
  refine effect_access_done h hc hn hl (State.targets_of_one ht hx) rfl ?_ hb
  have none : u.elemFault reads (t, g.memAddr op t, .mem d) = none := if_neg (by rcases hp with e | e <;> simp [e])
  rw [List.filterMap_cons_none none]
  rfl

/-- What a load of one thread puts into its lane, of memory through the Mould's cache. -/
theorem State.loadBody_mem (hc : (s.mouldAt i.mould).lcache.find? (fun l => l.1 == d / 64) = none) :
    s.loadBody i g op false [(t, a, .mem d)] = (s.updMould i.mould fun m =>
      { m with lcache := (d / 64, s.memRead (64 * (d / 64)) 64) :: m.lcache.filter fun l => l.1 != d / 64 }).onGroup i fun h =>
        h.putWide op.rd t (extendTo op.size op.signed (fld (s.memRead (64 * (d / 64)) 64) (d % 64) op.size)) (regsOf op.size) := by
  have sector : s.loadSector i.mould (d / 64) = (s.memRead (64 * (d / 64)) 64, s.updMould i.mould fun m =>
      { m with lcache := (d / 64, s.memRead (64 * (d / 64)) 64) :: m.lcache.filter fun l => l.1 != d / 64 }) := by
    unfold State.loadSector
    dsimp only
    rw [hc]
  have own : distinct [(d / 64, 0)] = [(d / 64, 0)] := rfl
  unfold State.loadBody
  simp only [List.filterMap_cons, List.filterMap_nil, own, List.foldl_cons, List.foldl_nil, sector, List.nil_append, List.find?_cons,
    BEq.rfl]
  rfl

end

/-- Settles O38: what the targets of each form are, and what its body does with them. -/
theorem loadsAndStoresAct : Obligations.LoadsAndStoresAct := by
  intro s i g hi w act bits
  have load (op) := load_accesses s i op
  have ldAcq (op) := ldAcq_accesses s i op
  have store (op) := store_accesses s i op
  have stRel (op) := stRel_accesses s i op
  refine ⟨fun op hn hl => ⟨fun ht hf => ⟨effect_access_done hi (load op) hn hl rfl ht hf rfl, fun hs => ?ldAcq⟩,
      fun ht => effect_access_table hi (load op) hn hl rfl ht,
      fun k m a p ht hf hd ha => effect_access_trap hi (load op) hn hl rfl ht hf hd ha⟩,
    fun op hb c hc => ?blocked,
    fun op hn hl ht hf => ⟨effect_access_done hi (store op) hn hl rfl ht hf rfl,
      fun hp => effect_access_done hi (stRel op) (Group.blocks_all_none hn hp) hl rfl ht hf rfl⟩,
    fun op hn hl => ⟨effect_access_illegal hi (load op) hn hl, effect_access_illegal hi (store op) hn hl⟩,
    fun op hn hl => effect_trap hi rfl hn ?atomIllegal, fun op hn hl hm ht hf => effect_done hi rfl hn ?atom,
    effect_done hi rfl g.blocks_none rfl, fun hp => effect_done hi rfl (Group.blocks_all_none g.blocks_none hp) rfl,
    fun hp => ⟨effect_blocked hi rfl (Group.blocks_all_pending (need := {}) hp),
      fun op => effect_blocked hi (stRel op) (Group.blocks_all_pending hp)⟩,
    fun op t hn hl ht => ?one⟩
  case ldAcq =>
    exact effect_access_done hi (ldAcq op) hn hl rfl ht hf (if_pos (.inl hs))
  case blocked =>
    simp only [List.mem_cons, List.not_mem_nil, or_false] at hc
    rcases hc with rfl | rfl | rfl | rfl
    · exact effect_blocked hi (load op) hb
    · exact effect_blocked hi (ldAcq op) hb
    · exact effect_blocked hi (store op) hb
    · exact effect_blocked hi (stRel op) (Group.blocks_all hb)
  case atomIllegal => exact if_pos (by simp [hl])
  case atom => exact (if_neg (not_not.2 hl)).trans (State.checked_done hm rfl ht hf)
  case one =>
    intro a x
    have misaligned {write : Bool} (ha : a % op.size ≠ 0) : w.targetOf i g op.scratch write op.size a = (.fault 2 false, w) :=
      State.targetOf_misaligned ha
    have beyond {write : Bool} (hs : op.scratch = true) (ha : a % op.size = 0) (hw : g.window < a + op.size) :
        w.targetOf i g op.scratch write op.size a = (.fault 3 false, w) := State.targetOf_beyond hs ha hw
    have scratch {write : Bool} (hs : op.scratch = true) (ha : a % op.size = 0) (hw : a + op.size ≤ g.window) :
        w.targetOf i g op.scratch write op.size a = (.scratch a, w) := State.targetOf_scratch hs ha hw
    refine ⟨fun ha hd => ⟨effect_one_trap hi (load op) hn hl ht (misaligned ha) (by decide) hd,
        effect_one_trap hi (store op) hn hl ht (misaligned ha) (by decide) hd⟩,
      fun hs ha hw hd => ⟨effect_one_trap hi (load op) hn hl ht (beyond hs ha hw) (by decide) hd,
        effect_one_trap hi (store op) hn hl ht (beyond hs ha hw) (by decide) hd⟩,
      fun hs ha hw => ⟨effect_one_scratch hi (load op) hn hl ht (scratch hs ha hw) rfl,
        effect_one_scratch hi (store op) hn hl ht (scratch hs ha hw) rfl⟩,
      fun va ppa wr ok w1 d hs ha hp hx hd => ?_⟩
    have target (write : Bool) : w.targetOf i g op.scratch write op.size a =
        if write && (!wr || (w1.partAt g.part).inImage d) then (.fault 4 false, w1) else (.mem d, w1) := by
      rw [hs]
      exact State.targetOf_local ha hp hx hd
    refine ⟨fun hu hc => ?_, fun hw him => ?_, fun hw hd => ?_⟩
    · exact effect_one_mem hi (load op) hn hl ht (target false) (.inr hu) (State.loadBody_mem hc)
    · exact effect_one_mem hi (store op) hn hl ht ((target true).trans (if_neg (by simp [hw, him]))) (.inl rfl) rfl
    · exact effect_one_trap hi (store op) hn hl ht ((target true).trans (if_pos (by rcases hw with e | e <;> simp [e]))) (by decide) hd

end Sys2Proof.Machine
end

section
/-! SUPPORT. What a host does in BAR2 (O39). -/
namespace Sys2Proof.Machine

section
variable {s t : State} {vf p : Nat}

/-- A VF whose partition is there reaches it. -/
theorem State.viaBar2_of_present {f : Nat → State} (hv : s.vfUp vf = true) (hp : (s.partAt (vf - 1)).state ≠ .none) :
    s.viaBar2 vf f = f (vf - 1) := (if_neg (not_not.2 hv)).trans (if_neg hp)

/-- One whose partition is not there is counted. -/
theorem State.viaBar2_of_absent {f : Nat → State} (hv : s.vfUp vf = true) (hp : (s.partAt (vf - 1)).state = .none) :
    s.viaBar2 vf f = s.barMiss vf := (if_neg (not_not.2 hv)).trans (if_pos hp)

/-- And a function that is no VF reaches nothing. -/
theorem State.viaBar2_of_down {f : Nat → State} (hv : s.vfUp vf = false) : s.viaBar2 vf f = s :=
  if_pos (by rw [hv]; exact Bool.false_ne_true)

theorem effect_xltRootWrite {hi : Bool} {v : Reg32} (hu : vf < 17) (e : s.evXltRootWrite vf hi v = t) : Effect (.xltRootWrite vf hi v) s t :=
  effect_of (State.onUnit_of_lt hu) e
theorem effect_xltInvAll {v : Reg32} (hu : vf < 17) (e : s.evXltInvAll vf v = t) : Effect (.xltInvAll vf v) s t :=
  effect_of (State.onUnit_of_lt hu) e
theorem effect_xltInvRange {v : Reg32} (hu : vf < 17) (e : s.evXltInvRange vf v = t) : Effect (.xltInvRange vf v) s t :=
  effect_of (State.onUnit_of_lt hu) e
theorem effect_tlySigWrite {n : Nat} {v : Reg32} (hu : vf < 17) (e : s.evTlySigWrite vf n v = t) : Effect (.tlySigWrite vf n v) s t :=
  effect_of (State.onUnit_of_lt hu) e

/-- A command that names all pages, or some, is queued. -/
theorem State.xltInvCmd_all {v : Nat} (hv : bitOf v 31 = true) :
    s.xltInvCmd p v = s.invalidate p { all := true, vpn := (s.partAt p).invVa, count := v % 65536 } := by
  unfold State.xltInvCmd
  rw [hv]
  exact if_neg fun h => h.1 rfl

theorem State.xltInvCmd_range {v : Nat} (hv : bitOf v 31 = false) (hn : v % 65536 ≠ 0) :
    s.xltInvCmd p v = s.invalidate p { all := false, vpn := (s.partAt p).invVa, count := v % 65536 } := by
  unfold State.xltInvCmd
  rw [hv]
  exact if_neg fun h => hn h.2

/-- One that names nothing is only counted. -/
theorem State.xltInvCmd_nothing {v : Nat} (hv : bitOf v 31 = false) (hn : v % 65536 = 0) :
    s.xltInvCmd p v = s.updPart p fun x => { x with invLost := satInc 32 x.invLost } := by
  unfold State.xltInvCmd
  rw [hv]
  exact if_pos ⟨Bool.false_ne_true, hn⟩

/-- A write to TLY_SIGn adds to the tally, where the partition holds it. -/
theorem State.ctrlWrite_sig {n v : Nat} (hn : n < 512) :
    s.ctrlWrite p (0x1800 + 4 * n) v = if s.holdsTally p n then s.tallyAdd n v else s := by
  have number : (0x1800 + 4 * n - 0x1800) / 4 = n := by omega
  unfold State.ctrlWrite
  rw [if_neg (by omega), if_neg (by omega), if_neg (by omega), if_neg (by omega), if_pos (by omega), number]

/-- A write below the control region reaches memory that the partition holds, off its image. -/
theorem State.evBar2Access_write {a d len : Nat} {b : List Byte} (h1 : 1 ≤ vf) (hv : s.vfUp vf = true)
    (hp : (s.partAt (vf - 1)).state ≠ .none) (ha : a < 0x3FFFFF0000) (hd : (s.partAt (vf - 1)).dpa a = some d) :
    s.evBar2Access vf a (some b) len = if (s.partAt (vf - 1)).inImage d then s.barMiss vf else s.memWrite d b := by
  unfold State.evBar2Access
  dsimp only
  rw [if_neg (by omega), if_neg (not_not.2 hv), if_neg hp, if_neg (by rw [ctrlBase]; omega), hd]

/-- A read there gives what memory holds, where that is not poisoned. -/
theorem State.evBar2Access_read {a d len : Nat} (h1 : 1 ≤ vf) (hv : s.vfUp vf = true)
    (hp : (s.partAt (vf - 1)).state ≠ .none) (ha : a < 0x3FFFFF0000) (hd : (s.partAt (vf - 1)).dpa a = some d)
    (hm : s.mem.poisoned = []) : s.evBar2Access vf a none len = s.emit (.readData vf a (leNat (s.memRead d len))) := by
  have clean : ((List.range (len + 63)).any fun k => k % 64 == 0 && s.isPoisoned ((d + k) / 64)) = false := by
    simp [State.isPoisoned, hm]
  unfold State.evBar2Access
  dsimp only
  rw [if_neg (by omega), if_neg (not_not.2 hv), if_neg hp, if_neg (by rw [ctrlBase]; omega), hd]
  dsimp only
  rw [if_neg (by rw [clean]; exact Bool.false_ne_true)]

/-- And one that the partition holds no memory for is counted, and reads 0. -/
theorem State.evBar2Access_nothing {a len : Nat} (h1 : 1 ≤ vf) (hv : s.vfUp vf = true)
    (hp : (s.partAt (vf - 1)).state ≠ .none) (ha : a < 0x3FFFFF0000) (hd : (s.partAt (vf - 1)).dpa a = none) :
    s.evBar2Access vf a none len = (s.barMiss vf).emit (.readData vf a 0) := by
  unfold State.evBar2Access
  dsimp only
  rw [if_neg (by omega), if_neg (not_not.2 hv), if_neg hp, if_neg (by rw [ctrlBase]; omega), hd]

/-- With no resident groups no parked group translates again. -/
theorem State.unparkCovered_of_empty {v : Inval} (h : ∀ m, m < 16 → s.residents m = []) : s.unparkCovered p v = s := by
  refine foldl_of_fixed fun m hm => ?_
  rw [h m (List.mem_range.1 hm)]
  rfl

/-- The end of an invalidation takes it off the queue, and every translation that it covers off the Moulds. -/
theorem State.invalDone_of_cons {v : Inval} {rest : List Inval} (h : (s.partAt p).invQ = v :: rest) :
    s.invalDone p = { s with mould := s.mould.map fun (x : Mould) => { x with xlt := x.xlt.filter fun e => !(e.part == p && v.coversEntry e) } }.updPart p
      fun x => { x with invQ := rest, invDone := (x.invDone + 1) % 65536 } := by
  unfold State.invalDone
  rw [h]

/-- Which groups are resident rests on what the Moulds' quarters hold. -/
theorem State.residents_congr {m : Nat} (h : (t.mouldAt m).q = (s.mouldAt m).q) : t.residents m = s.residents m := by
  unfold State.residents State.groupAt State.quarterAt
  rw [h]

end

/-- Settles O39: each access goes to the partition of its VF, and each form has its own meaning there. -/
theorem hostReachesItsPartition : Obligations.HostReachesItsPartition := by
  refine ⟨fun s vf h1 h16 hv hp => ?accesses, fun s p q => ⟨fun hq => if_pos hq, fun hq h => ?full⟩,
    fun s vf h1 h16 hv hp v => effect_xltInvAll (by omega) (State.viaBar2_of_absent hv hp),
    fun s vf hu hv v => ⟨effect_xltRootWrite hu (State.viaBar2_of_down hv), effect_xltInvAll hu (State.viaBar2_of_down hv),
      effect_tlySigWrite hu (State.viaBar2_of_down hv)⟩,
    fun s p hp hq => effect_of (State.onUnit_of_lt hp) ?idle, fun s p v rest hp hq hr => ?done⟩
  case accesses =>
    intro p x all
    have hu : vf < 17 := by omega
    have reach (f : Nat → State) : s.viaBar2 vf f = f p := State.viaBar2_of_present hv hp
    refine ⟨fun v => effect_xltRootWrite hu ((reach _).trans rfl), fun v => effect_xltRootWrite hu ((reach _).trans rfl),
      fun v hb => effect_xltInvAll hu ((reach _).trans (State.xltInvCmd_all hb)),
      fun v hb hn => effect_xltInvRange hu ((reach _).trans (State.xltInvCmd_range hb hn)),
      fun v hb hn => effect_xltInvRange hu ((reach _).trans (State.xltInvCmd_nothing hb hn)),
      fun t v ht hh => effect_tlySigWrite hu ((reach _).trans ((if_pos ht).trans ((State.ctrlWrite_sig ht).trans (if_pos hh)))),
      fun t v ht hh => effect_tlySigWrite hu ((reach _).trans ((if_pos ht).trans ((State.ctrlWrite_sig ht).trans (if_neg ?_)))),
      fun a d b len ha hd him => effect_bar2Access hu ((State.evBar2Access_write h1 hv hp ha hd).trans (if_neg ?_)),
      fun a d len ha hd hm => effect_bar2Access hu (State.evBar2Access_read h1 hv hp ha hd hm),
      fun a len ha hd => effect_bar2Access hu (State.evBar2Access_nothing h1 hv hp ha hd)⟩
    · rw [hh]; exact Bool.false_ne_true
    · rw [him]; exact Bool.false_ne_true
  case full =>
    have counted : s.invalidate p q = s.queueInval p q := if_neg (Nat.not_lt.2 hq)
    rw [counted]
    exact ⟨(State.partAt_updPart_same _ h _).trans (if_neg (Nat.not_lt.2 hq)), rfl⟩
  case idle =>
    unfold State.evInvalidationDone
    rw [hq]
  case done =>
    let u := s.invalDone p
    have hu : u = _ := State.invalDone_of_cons hq
    have moulds (m : Nat) (hm : m < 16) : u.mouldAt m =
        { s.mouldAt m with xlt := (s.mouldAt m).xlt.filter fun e => !(e.part == p && v.coversEntry e) } := by
      rw [hu]
      exact Table.at_map _ hm _ _ _
    have empty (m : Nat) (hm : m < 16) : u.residents m = [] := by
      refine (State.residents_congr (s := s) ?_).trans (hr m hm)
      rw [moulds m hm]
    have hd : s.evInvalidationDone p = u := by
      unfold State.evInvalidationDone
      rw [hq]
      exact State.unparkCovered_of_empty empty
    refine ⟨u, effect_of (State.onUnit_of_lt hp) hd, ?_, moulds, fun q hne => ?_, ?_⟩
    · rw [hu]
      exact State.partAt_updPart_same _ hp _
    · rw [hu]
      exact State.partAt_updPart_other _ (Ne.symm hne) _
    · rw [hu]
      rfl

end Sys2Proof.Machine
end

section
/-! SUPPORT. Traps and their handlers (O40). -/
namespace Sys2Proof.Machine

section
variable {s t : State} {i : GIns} {g : Group} {m q k kind addr : Nat} {c : Culprit} {mask : BitVec 32} {replay : Bool} {vas : List Nat}

/-- What a trap writes into the save slot. -/
def Group.slotFor (g : Group) (c : Culprit) (kind addr : Nat) (mask : BitVec 32) : SaveSlot :=
  { g.save with
    kind := kind, copyFault := c.copy, parked := false, faultPc := c.pc, faultAddr := addr, faultMask := mask,
    active := g.active, live := g.live, barrier := g.barrier, instr := c.raw, sp := g.s 63, pred := g.pred, pc := g.pc, sreg := g.sreg }

/-- The device with the slot of a trap written. -/
def State.slotted (s : State) (m q k : Nat) (g : Group) (c : Culprit) (kind addr : Nat) (mask : BitVec 32) : State :=
  s.updGroup m q k fun x => { x with save := g.slotFor c kind addr mask }

/-- A trap inside a handler is a double fault. -/
theorem State.trapAt_double (h : g.save.inHandler = true) :
    s.trapAt m q k g c kind mask addr replay vas = (s.slotted m q k g c kind addr mask).trapKill m q k 9 := if_pos h

/-- A page that may come parks the group. -/
theorem State.trapAt_park (h : g.save.inHandler = false) (hk : kind = 5) (hr : replay = true) :
    s.trapAt m q k g c kind mask addr replay vas = (s.slotted m q k g c kind addr mask).park m q k g addr vas :=
  (if_neg (by simp [h])).trans (if_pos ⟨hk, hr⟩)

/-- Without a handler for it the trap kills. -/
theorem State.trapAt_kill (h : g.save.inHandler = false) (hk : kind ≠ 5 ∨ replay = false)
    (hh : g.save.handler = 0 ∨ handlerMay kind = false) :
    s.trapAt m q k g c kind mask addr replay vas = (s.slotted m q k g c kind addr mask).trapKill m q k kind :=
  (if_neg (by simp [h])).trans ((if_neg (by rintro ⟨a, b⟩; simp [a, b] at hk)).trans (if_pos (hh.imp_right (by simp [·]))))

/-- With a handler and a good stack every thread goes on there. -/
theorem State.trapAt_handler (h : g.save.inHandler = false) (hk : kind ≠ 5 ∨ replay = false) (hh : g.save.handler ≠ 0)
    (hm : handlerMay kind = true) (hs : g.s 63 % 16 = 0 ∧ g.scratchBytes < g.s 63 ∧ g.s 63 ≤ g.scratchBytes + g.stackBytes) :
    s.trapAt m q k g c kind mask addr replay vas = (s.slotted m q k g c kind addr mask).updGroup m q k fun g =>
      { (g.setPc g.live fun _ => g.save.handler) with
        barrier := 0, escape := none, starve := 0, save := { g.save with inHandler := true } } :=
  (if_neg (by simp [h])).trans ((if_neg (by rintro ⟨a, b⟩; simp [a, b] at hk)).trans ((if_neg (by simp [hh, hm])).trans (if_pos hs)))

/-- A parked group whose pages are there goes on. -/
theorem State.unpark_of_parked (hg : s.groupAt m q k = some g) (hp : g.save.parked = true) :
    s.unpark m q k = if s.parkedTranslates g then
      s.updGroup m q k fun g => { g with parkVas := [], save := { g.save with parked := false } } else s := by
  unfold State.unpark
  rw [hg]
  dsimp only
  simp only [hp, true_and]

theorem State.unpark_of_none (hg : s.groupAt m q k = none) : s.unpark m q k = s := by
  unfold State.unpark
  rw [hg]

/-- One whose park has lasted too long is killed. -/
theorem State.evParkExpired_of_parked (hg : s.groupAt m q k = some g) (hp : g.save.parked = true) :
    s.evParkExpired m q k = (s.updGroup m q k fun g => { g with save := { g.save with kind := 0xA } }).trapKill m q k 0xA := by
  unfold State.evParkExpired
  rw [hg]
  exact if_pos hp

theorem State.evParkExpired_of_none (hg : s.groupAt m q k = none) : s.evParkExpired m q k = s := by
  unfold State.evParkExpired
  rw [hg]

end

/-- Settles O40: for each instruction what its body says, for each trap the branch of the policy that takes it. -/
theorem trapsAreTakenAndReturned : Obligations.TrapsAreTakenAndReturned := by
  refine ⟨fun s i g hi => ?instructions, fun s i g kind addr mask replay => ?policy,
    fun s m q k g hm hq hk hg hp => ?parked, fun s m q k hm hq hk hg => ?none⟩
  case instructions =>
    intro w illegal
    refine ⟨effect_trap hi rfl g.blocks_none rfl, fun off rd hn h4 h1 hr => effect_done hi rfl hn ?load,
      fun off rd hn h => effect_trap hi rfl hn ?noLoad, fun off rs v hn hh hr hv => effect_done hi rfl hn ?store,
      fun off rs hn h => effect_trap hi rfl hn ?noStore, fun rs hn hr hh => effect_done hi rfl hn ?set,
      fun rs hn h0 h8 => effect_trap hi rfl hn ?noSet, fun hn hh => effect_jump hi rfl hn ?ret,
      fun code hh => effect_jump hi rfl g.blocks_none ?kill, fun hn hh skip => effect_trap hi rfl hn ?noRet,
      fun hh code => effect_trap hi rfl g.blocks_none ?noKill⟩
    case load => exact if_neg (by omega)
    case noLoad => exact if_pos h
    case store =>
      dsimp only [GIns.says]
      rw [hv]
      exact if_pos ⟨hh, hr⟩
    case noStore =>
      dsimp only [GIns.says]
      rcases h with h | h
      · split
        · exact if_neg (by simp [h])
        · rfl
      · rw [h]
    case set => exact if_pos ⟨hr, hh⟩
    case noSet => exact if_neg (by omega)
    case ret => exact if_neg (not_not.2 hh)
    case kill => exact if_neg (not_not.2 hh)
    case noRet => exact if_pos (by simp [hh])
    case noKill => exact if_pos (by simp [hh])
  case policy =>
    intro slot s1
    exact ⟨fun h => State.trapAt_double h, fun h hk hr => State.trapAt_park h hk hr, fun h hk hh => State.trapAt_kill h hk hh,
      fun h hk hh hm h16 hlo hhi => State.trapAt_handler h hk hh hm ⟨h16, hlo, hhi⟩⟩
  case parked =>
    exact ⟨fun ht => effect_of (State.onPlace_of_lt hm hq hk) ((State.unpark_of_parked hg hp).trans (if_pos ht)),
      fun ht => effect_of (State.onPlace_of_lt hm hq hk) ((State.unpark_of_parked hg hp).trans (if_neg (by simp [ht]))),
      effect_of (State.onPlace_of_lt hm hq hk) (State.evParkExpired_of_parked hg hp)⟩
  case none =>
    exact ⟨effect_of (State.onPlace_of_lt hm hq hk) (State.unpark_of_none hg),
      effect_of (State.onPlace_of_lt hm hq hk) (State.evParkExpired_of_none hg)⟩

end Sys2Proof.Machine
end

section
/-! SUPPORT. Tallies (O41). -/
namespace Sys2Proof.Machine

section
variable {s : State} {i : GIns} {g : Group} {c : Instr} {t : TallyOp} {op n pos : Nat} {ret acq eq : Bool}
  {new : Nat → Nat → Option Nat} {rel : Bool}

/-- The form of a tally instruction but for the waits. -/
def TallyForm (c : Instr) (s : State) (i : GIns) (t : TallyOp) (op : Nat) (ret acq : Bool) (new : Nat → Nat → Option Nat) : Prop :=
  exec c s = s.onIns i (s.tallyIns i t op ret acq new)

theorem tld_tallies : TallyForm (.tld i t) s i t 0 true true fun _ _ => none := rfl
theorem tadd_tallies : TallyForm (.tadd i t) s i t 1 false false fun v x => some ((v + x) % 2 ^ 32) := rfl
theorem taddr_tallies : TallyForm (.taddr i t) s i t 2 true false fun v x => some ((v + x) % 2 ^ 32) := rfl
theorem tset_tallies : TallyForm (.tset i t) s i t 3 false false fun _ x => some x := rfl

/-- A tally instruction on registers that do not exist is ILLEGAL. -/
theorem effect_tally_illegal (hi : Issues s i g) (hc : TallyForm c s i t op ret acq new) (ho : (op != 0) = rel)
    (hn : g.blocks (tallyNeed t ret rel) = false)
    (ht : t.ok = false) : Effect c s (s.illegal i g) := by
  subst ho
  refine effect_trap hi hc hn ?_
  exact if_pos (by simp [ht])

/-- One whose registers await a result waits. -/
theorem effect_tally_blocked (hi : Issues s i g) (hc : TallyForm c s i t op ret acq new) (ho : (op != 0) = rel)
    (hn : g.blocks (tallyNeed t ret rel) = true) : Effect c s s := effect_blocked hi hc (ho ▸ hn)

/-- What one does to a tally of its own. -/
def State.tallyActs (s : State) (i : GIns) (t : TallyOp) (ret acq : Bool) (n : Nat) (x : Option Nat) : State :=
  let s1 := if ret then s.onGroup i fun h => h.putS t.sd (s.tallyVal n) else s
  let s2 := match x with
    | some x => s1.tallyPut n x
    | none => s1
  if acq then s2.acquire i.mould else s2

/-- A load gives the value, with an acquire. -/
theorem State.tallyActs_load : s.tallyActs i t true true n none = (s.onGroup i fun h => h.putS t.sd (s.tallyVal n)).acquire i.mould := by
  simp [State.tallyActs]

/-- A write puts the new value. -/
theorem State.tallyActs_put (x : Nat) : s.tallyActs i t false false n (some x) = s.tallyPut n x := by
  simp [State.tallyActs]

/-- And one that returns the old value gives that too. -/
theorem State.tallyActs_swap (x : Nat) :
    s.tallyActs i t true false n (some x) = (s.onGroup i fun h => h.putS t.sd (s.tallyVal n)).tallyPut n x := by
  simp [State.tallyActs]

/-- On a tally of its own it acts. -/
theorem effect_tally_own (hi : Issues s i g) (hc : TallyForm c s i t op ret acq new) (ho : (op != 0) = rel)
    (hn : g.blocks (tallyNeed t ret rel) = false)
    (ht : t.ok = true) (hr : (s.issuing i g).tallyRef g.part (g.s t.st) = .own n) {u : State}
    (hu : (s.issuing i g).tallyActs i t ret acq n (new ((s.issuing i g).tallyVal n) (g.s t.ss)) = u) :
    Effect c s (u.advanced i g) := by
  subst ho
  refine effect_done hi hc hn ?_
  dsimp only [GIns.says]
  rw [if_neg (not_not.2 ht), hr, ← hu]
  rfl

/-- On one of another device it asks. -/
theorem effect_tally_far (hi : Issues s i g) (hc : TallyForm c s i t op ret acq new) (ho : (op != 0) = rel)
    (hn : g.blocks (tallyNeed t ret rel) = false) (ht : t.ok = true) (hr : (s.issuing i g).tallyRef g.part (g.s t.st) = .far pos n)
    {x : Nat} {d : Option Nat} (hx : (if op = 0 then 0 else g.s t.ss) = x) (hd : (if ret then some t.sd else none) = d) :
    Effect c s (((s.issuing i g).tallyReq i g pos n op x d acq).advanced i g) := by
  subst ho hx hd
  refine effect_done hi hc hn ?_
  dsimp only [GIns.says]
  rw [if_neg (not_not.2 ht), hr]

/-- On one that it may not reach it is denied. -/
theorem effect_tally_none (hi : Issues s i g) (hc : TallyForm c s i t op ret acq new) (ho : (op != 0) = rel)
    (hn : g.blocks (tallyNeed t ret rel) = false) (ht : t.ok = true) (hr : (s.issuing i g).tallyRef g.part (g.s t.st) = .none)
    {u : State} (hu : (if ret then (s.issuing i g).onGroup i fun h => h.putS t.sd 0 else s.issuing i g) = u) :
    Effect c s ((u.tallyDenied g).advanced i g) := by
  subst ho hu
  refine effect_done hi hc hn ?_
  dsimp only [GIns.says]
  rw [if_neg (not_not.2 ht), hr]

/-- The form of a wait. -/
def WaitForm (c : Instr) (s : State) (i : GIns) (t : TallyOp) (eq : Bool) : Prop := exec c s = s.onIns i (s.twait i t eq)

theorem twaitGe_waits : WaitForm (.twaitGe i t) s i t false := rfl
theorem twaitEq_waits : WaitForm (.twaitEq i t) s i t true := rfl

theorem effect_wait_illegal (hi : Issues s i g) (hc : WaitForm c s i t eq) (hn : g.blocks (tallyNeed t false false) = false)
    (ht : t.ok = false) : Effect c s (s.illegal i g) := by
  refine effect_trap hi hc hn ?_
  exact if_pos (by simp [ht])

/-- A wait whose condition holds goes on with an acquire. -/
theorem effect_wait_holds (hi : Issues s i g) (hc : WaitForm c s i t eq) (hn : g.blocks (tallyNeed t false false) = false) (ht : t.ok = true)
    (hr : (s.issuing i g).tallyRef g.part (g.s t.st) = .own n) (hw : waitHolds eq ((s.issuing i g).tallyVal n) (g.s t.ss) = true) :
    Effect c s (((s.issuing i g).acquire i.mould).advanced i g) := by
  refine effect_done hi hc hn ?_
  dsimp only [GIns.says]
  rw [if_neg (not_not.2 ht), hr]
  exact if_pos hw

/-- One whose condition does not hold waits. -/
theorem effect_wait_waits (hi : Issues s i g) (hc : WaitForm c s i t eq) (hn : g.blocks (tallyNeed t false false) = false) (ht : t.ok = true)
    (hr : (s.issuing i g).tallyRef g.part (g.s t.st) = .own n) (hw : waitHolds eq ((s.issuing i g).tallyVal n) (g.s t.ss) = false) :
    Effect c s (((s.issuing i g).onGroup i fun h =>
      { h with wait := .tally { tally := n, row := none, eq := eq, operand := g.s t.ss, polling := false } }).advanced i g) := by
  refine effect_done hi hc hn ?_
  dsimp only [GIns.says]
  rw [if_neg (not_not.2 ht), hr]
  exact if_neg (by rw [hw]; exact Bool.false_ne_true)

/-- One on another device's tally watches it. -/
theorem effect_wait_far (hi : Issues s i g) (hc : WaitForm c s i t eq) (hn : g.blocks (tallyNeed t false false) = false) (ht : t.ok = true)
    (hr : (s.issuing i g).tallyRef g.part (g.s t.st) = .far pos n) :
    Effect c s ((((s.issuing i g).request i g.part { (s.issuing i g).reqPacket g.part pos 5 n with op := b2n eq, opnd0 := g.s t.ss } .watch).onGroup
      i fun h => { h with wait := .tally { tally := n, row := some pos, eq := eq, operand := g.s t.ss, polling := false } }).advanced i g) := by
  refine effect_done hi hc hn ?_
  dsimp only [GIns.says]
  rw [if_neg (not_not.2 ht), hr]

/-- And one on a tally that it may not reach is denied. -/
theorem effect_wait_none (hi : Issues s i g) (hc : WaitForm c s i t eq) (hn : g.blocks (tallyNeed t false false) = false) (ht : t.ok = true)
    (hr : (s.issuing i g).tallyRef g.part (g.s t.st) = .none) : Effect c s (((s.issuing i g).tallyDenied g).advanced i g) := by
  refine effect_done hi hc hn ?_
  dsimp only [GIns.says]
  rw [if_neg (not_not.2 ht), hr]

/-- With no answer outstanding a tally instruction waits for nothing. -/
theorem Group.blocks_tally_none (hp : g.pending = []) (rel : Bool) : g.blocks (tallyNeed t ret rel) = false := by
  simp [Group.blocks, tallyNeed, sNeed, hp]

end

section
variable {s : State} {m q k n v : Nat} {g : Group} {x : TallyWait}

/-- A group's wait that has lasted too long ends its sheet. -/
theorem State.evTallyWaitTimeout_group (hg : s.groupAt m q k = some g) (hw : g.wait = .tally x) :
    s.evTallyWaitTimeout (.group m q k) = (((s.tallyTimedOut g.part x.tally (if x.row.isNone then s.tallyVal x.tally else 0) x.operand
      g.subIndex).cancelWatch m q k x).updSheet g.ring g.subIndex fun h => { h with timeout := some 2 }).endSheet g.ring g.subIndex := by
  unfold State.evTallyWaitTimeout
  dsimp only
  rw [hg]
  dsimp only
  rw [hw]

/-- And so does a sheet's own wait. -/
theorem State.evTallyWaitTimeout_sheet {r sub p : Nat} {h : Sheet} (hh : s.sheetAt r sub = some h) (hp : s.ringOwner r = some p)
    (ho : h.waitOk = false) (hs : h.started = false) (ht : h.waitTally ≠ 0xFFFF) :
    s.evTallyWaitTimeout (.sheet r sub) = ((s.tallyTimedOut p h.waitTally (s.tallyVal h.waitTally) h.waitValue sub).updSheet r sub fun h =>
      { h with timeout := some 2 }).endSheet r sub := by
  unfold State.evTallyWaitTimeout
  dsimp only
  rw [hh, hp]
  exact if_pos ⟨by simp [ho], by simp [hs], ht⟩

/-- A waiter that was answered FULL asks for the value. -/
theorem State.evWatchFullPoll_of {pos : Nat} (hg : s.groupAt m q k = some g) (hw : g.wait = .tally x) (hp : x.polling = true)
    (hr : x.row = some pos) : s.evWatchFullPoll m q k =
      s.request { mould := m, quarter := q, slot := k } g.part (s.reqPacket g.part pos 4 x.tally) (.tally none) := by
  unfold State.evWatchFullPoll
  rw [hg]
  dsimp only
  rw [hw]
  dsimp only
  rw [hp, hr]

theorem State.evWatchFullPoll_of_none (hg : s.groupAt m q k = none) : s.evWatchFullPoll m q k = s := by
  unfold State.evWatchFullPoll
  rw [hg]

/-- Where nothing waits for a tally, a change of its value wakes nobody. -/
theorem State.tallyWake_tally (hr : ∀ m, m < 16 → s.residents m = []) (hw : s.tally.watches = []) : (s.tallyWake n).tally = s.tally := by
  unfold State.tallyWake
  dsimp only
  rw [foldl_of_fixed (s := s) fun m hm => by rw [hr m (List.mem_range.1 hm)]; rfl, hw]
  rfl

/-- Then a tally holds what was last put into it, and no other changes. -/
theorem State.tallyVal_tallyPut (hr : ∀ m, m < 16 → s.residents m = []) (hw : s.tally.watches = []) (hn : n < 512) :
    (s.tallyPut n v).tallyVal n = v % 2 ^ 32 ∧ ∀ k, k ≠ n → (s.tallyPut n v).tallyVal k = s.tallyVal k := by
  let u : State := { s with tally := { s.tally with val := Table.put s.tally.val n (BitVec.ofNat 32 v) } }
  have same (k : Nat) : (s.tallyPut n v).tallyVal k = (Table.at u.tally.val k 0).toNat :=
    congrArg (fun t : Tallies => (Table.at t.val k 0).toNat) (State.tallyWake_tally (s := u) hr hw)
  refine ⟨(same n).trans ?_, fun k hk => (same k).trans ?_⟩
  · rw [Table.at_put_same _ hn]
    rfl
  · rw [Table.at_put_other _ (Ne.symm hk)]
    rfl

/-- A wait under GE looks at the distance modulo 2^32, one under EQ at the value. -/
theorem waitHolds_ge {v x : Nat} (hv : v < 2 ^ 32) (hx : x < 2 ^ 32) :
    waitHolds false v x = decide ((v - x : Int) % 2 ^ 32 < 2 ^ 31) := by
  have ge : waitHolds false v x = decide (idxSub v x < 2 ^ 31) := if_neg Bool.false_ne_true
  rw [ge, decide_eq_decide]
  unfold idxSub
  omega

theorem waitHolds_eq (v x : Nat) : waitHolds true v x = decide (v = x) := rfl

end

/-- Settles O41: for each instruction by where its tally is, for each event by who waits. -/
theorem talliesAct : Obligations.TalliesAct := by
  refine ⟨⟨fun s i g hi t ht => ?instructions, fun s i g hi hp t ht c hc => ?illegal,
      fun s m q k g x hg hw => effect_of rfl (State.evTallyWaitTimeout_group hg hw),
      fun s r sub p h hh hp ho hs ht => effect_of rfl (State.evTallyWaitTimeout_sheet hh hp ho hs ht),
      fun s m q k g x pos hm hq hk hg hw hp hr => effect_of (State.onPlace_of_lt hm hq hk) (State.evWatchFullPoll_of hg hw hp hr),
      fun s m q k hm hq hk hg => effect_of (State.onPlace_of_lt hm hq hk) (State.evWatchFullPoll_of_none hg)⟩,
    fun s n x hn hr hw => State.tallyVal_tallyPut hr hw hn, fun v x hv hx => waitHolds_ge hv hx, waitHolds_eq⟩
  case instructions =>
    intro w x waits
    refine ⟨fun n hr => ?own, fun pos n hr => ?far, fun hr => ?denied, fun hb => effect_tally_blocked hi taddr_tallies rfl hb,
      fun hb => ⟨effect_tally_blocked hi tadd_tallies rfl hb, effect_tally_blocked hi tset_tallies rfl hb⟩⟩
    case own =>
      exact ⟨fun hn => effect_tally_own hi tld_tallies rfl hn ht hr State.tallyActs_load,
        fun hn => ⟨effect_tally_own hi tadd_tallies rfl hn ht hr (State.tallyActs_put _),
          effect_tally_own hi tset_tallies rfl hn ht hr (State.tallyActs_put _)⟩,
        fun hn => effect_tally_own hi taddr_tallies rfl hn ht hr (State.tallyActs_swap _),
        fun hn hw => effect_wait_holds hi twaitGe_waits hn ht hr hw, fun hn hw => effect_wait_holds hi twaitEq_waits hn ht hr hw,
        fun hn hw => effect_wait_waits hi twaitGe_waits hn ht hr hw, fun hn hw => effect_wait_waits hi twaitEq_waits hn ht hr hw⟩
    case far =>
      have none {α : Type} {a b : α} : (if false = true then a else b) = b := if_neg Bool.false_ne_true
      exact ⟨fun hn => effect_tally_far hi tld_tallies rfl hn ht hr (if_pos rfl) (if_pos rfl),
        fun hn => ⟨effect_tally_far hi tadd_tallies rfl hn ht hr (if_neg (by decide)) none,
          effect_tally_far hi tset_tallies rfl hn ht hr (if_neg (by decide)) none⟩,
        fun hn => effect_tally_far hi taddr_tallies rfl hn ht hr (if_neg (by decide)) (if_pos rfl),
        fun hn => ⟨effect_wait_far hi twaitGe_waits hn ht hr, effect_wait_far hi twaitEq_waits hn ht hr⟩⟩
    case denied =>
      have none {α : Type} {a b : α} : (if false = true then a else b) = b := if_neg Bool.false_ne_true
      exact ⟨fun hn => effect_tally_none hi tld_tallies rfl hn ht hr (if_pos rfl),
        fun hn => ⟨effect_tally_none hi tadd_tallies rfl hn ht hr none, effect_tally_none hi tset_tallies rfl hn ht hr none⟩,
        fun hn => effect_tally_none hi taddr_tallies rfl hn ht hr (if_pos rfl),
        fun hn => ⟨effect_wait_none hi twaitGe_waits hn ht hr, effect_wait_none hi twaitEq_waits hn ht hr⟩⟩
  case illegal =>
    have free {ret : Bool} (rel : Bool) : g.blocks (tallyNeed t ret rel) = false := Group.blocks_tally_none hp rel
    simp only [List.mem_cons, List.not_mem_nil, or_false] at hc
    rcases hc with rfl | rfl | rfl | rfl | rfl | rfl
    · exact effect_tally_illegal hi tld_tallies rfl (free _) ht
    · exact effect_tally_illegal hi tadd_tallies rfl (free _) ht
    · exact effect_tally_illegal hi taddr_tallies rfl (free _) ht
    · exact effect_tally_illegal hi tset_tallies rfl (free _) ht
    · exact effect_wait_illegal hi twaitGe_waits (free _) ht
    · exact effect_wait_illegal hi twaitEq_waits (free _) ht

end Sys2Proof.Machine
end

section
/-! SUPPORT. The acceptance of sheets (O43). -/
namespace Sys2Proof.Machine

section
variable {s : State} {r p : Nat} {b : List Byte} {dma : DmaCase}

/-- The device with the turn of sheet fetch at a partition. -/
def State.fetching (s : State) (p : Nat) : State := { s with sriov := { s.sriov with lastFetch := p } }

/-- What a sheet may be fetched for, said of the ring and its partition. -/
theorem State.fetchable_iff : s.fetchable r p = true ↔ (s.ringAt r).intake = true ∧ (s.partAt p).state = .started ∧
    s.supply.endpoint = .ready ∧ (s.ringAt r).subPi ≠ (s.ringAt r).subCi ∧ (s.ringAt r).outCount < (s.ringAt r).outLimit := by
  simp [State.fetchable, and_assoc]

/-- A sheet that may be fetched, in its partition's turn, is. -/
theorem State.evSheetAccept_fetches (hp : s.ringOwner r = some p) (hf : s.fetchable r p = true) (ht : s.fetchTurn = some p)
    (hd : dma ≠ .fetchError) : s.evSheetAccept r b dma = (s.fetching p).acceptSheet r p b dma := by
  unfold State.evSheetAccept
  rw [hp]
  exact (if_pos ⟨hf, ht⟩).trans (if_neg hd)

/-- A fetch that ends in a DMA error disables the ring. -/
theorem State.evSheetAccept_error (hp : s.ringOwner r = some p) (hf : s.fetchable r p = true) (ht : s.fetchTurn = some p) :
    s.evSheetAccept r b .fetchError = (s.fetching p).dmaError r p := by
  unfold State.evSheetAccept
  rw [hp]
  exact (if_pos ⟨hf, ht⟩).trans (if_pos rfl)

/-- Else nothing is fetched. -/
theorem State.evSheetAccept_idle (hp : s.ringOwner r = some p) (h : ¬ (s.fetchable r p = true ∧ s.fetchTurn = some p)) :
    s.evSheetAccept r b dma = s := by
  unfold State.evSheetAccept
  rw [hp]
  exact if_neg h

theorem State.evSheetAccept_nobody (hp : s.ringOwner r = none) : s.evSheetAccept r b dma = s := by
  unfold State.evSheetAccept
  rw [hp]

/-- A DMA error of a started partition's ring disables it, with a record. -/
theorem State.dmaError_of_started (h : (s.partAt p).state = .started) :
    s.dmaError r p = ((s.updRing r fun x => { x with disabled := true, dmaErr := true }).ringRefresh r).log 0x2001
      (param [(1, 3), (1, (s.partAt p).cause), (2, 0)]) (some p) := by
  have part : ((s.updRing r fun x => { x with disabled := true, dmaErr := true }).ringRefresh r).partAt p = s.partAt p :=
    congrArg (Table.at · p ({} : Part)) (State.ringRefresh_part _ r)
  unfold State.dmaError
  dsimp only
  rw [part, h]
  rfl

/-- A sheet of a kind that is not known completes so. -/
theorem State.acceptSheet_unknown (hk : sheetKind b = none) : s.acceptSheet r p b dma =
    (s.sheetAdd r ((parseSheet b .nop (s.ringAt r).subCi s.now).inert.withDma dma)).complete r
      ((parseSheet b .nop (s.ringAt r).subCi s.now).inert.withDma dma) (.badOpcode, 0, false) := by
  unfold State.acceptSheet
  rw [hk]

section
variable {k : SheetKind} {h : Sheet} (hk : sheetKind b = some k) (hh : (parseSheet b k (s.ringAt r).subCi s.now).withDma dma = h)
include hk hh

/-- A malformed one with the offset. -/
theorem State.acceptSheet_malformed {off : Nat} (hf : sheetFault b k = some off) :
    s.acceptSheet r p b dma = (s.sheetAdd r h.inert).complete r h.inert (.badArg, off, false) := by
  unfold State.acceptSheet
  dsimp only
  rw [hk]
  dsimp only
  rw [hf, hh]

/-- One that the partition cannot run with its refusal. -/
theorem State.acceptSheet_refused {v : Status × Nat} (hf : sheetFault b k = none) (hr : s.sheetRefusal p h = some v) :
    s.acceptSheet r p b dma = (s.sheetAdd r h).complete r h (v.1, v.2, false) := by
  unfold State.acceptSheet
  dsimp only
  rw [hk]
  dsimp only
  rw [hf, hh]
  dsimp only
  rw [hr]

/-- And any other joins its ring. -/
theorem State.acceptSheet_joins (hf : sheetFault b k = none) (hr : s.sheetRefusal p h = none) :
    s.acceptSheet r p b dma = s.sheetAdd r { h with
      waitOk := h.waitTally == 0xFFFF || waitHolds false (s.tallyVal h.waitTally) h.waitValue } := by
  unfold State.acceptSheet
  dsimp only
  rw [hk]
  dsimp only
  rw [hf, hh]
  dsimp only
  rw [hr]

end

/-- The turn comes to the first partition behind the last one that has a sheet to fetch. -/
theorem State.fetchTurn_next (hp : p < 16) (hr : ∃ r ∈ (s.partAt p).rings, s.fetchable r p = true)
    (hq : ∀ q, q < p → s.sriov.lastFetch < q → ∀ r ∈ (s.partAt q).rings, s.fetchable r q = false) (hl : s.sriov.lastFetch < p) :
    s.fetchTurn = some p := by
  have next : ((List.range 16).filter fun p => (s.partAt p).rings.any fun r => s.fetchable r p).find? (fun p => s.sriov.lastFetch < p) =
      some p := by
    rw [List.find?_filter, List.find?_range_eq_some]
    refine ⟨by simpa [hl] using hr, List.mem_range.2 hp, fun q hlt => ?_⟩
    by_cases hb : s.sriov.lastFetch < q
    · simpa [hb] using hq q hlt hb
    · simp [hb]
  unfold State.fetchTurn
  dsimp only
  rw [next]

end

/-- Settles O43: the cases of the acceptance, where the sheet may be fetched and where not. -/
theorem sheetsAreAccepted : Obligations.SheetsAreAccepted := by
  refine ⟨fun s r p hr hp => ?ring, fun s p hp hr hq hl => State.fetchTurn_next hp hr hq hl,
    fun s r b dma hr hp => effect_of (State.onUnit_of_lt hr) (State.evSheetAccept_nobody hp)⟩
  case ring =>
    intro x s1 joined
    refine ⟨fun ht hi hs he hn hc b => ?accepted, fun h b dma => effect_of (State.onUnit_of_lt hr) (State.evSheetAccept_idle hp ?idle)⟩
    case accepted =>
      have hf : s.fetchable r p = true := State.fetchable_iff.2 ⟨hi, hs, he, hn, hc⟩
      refine ⟨fun dma hd => ?_, effect_of (State.onUnit_of_lt hr) ((State.evSheetAccept_error hp hf ht).trans ?_)⟩
      · have fetches {t : State} (h : (s.fetching p).acceptSheet r p b dma = t) : Effect (.sheetAccept r b dma) s t :=
          effect_of (State.onUnit_of_lt hr) ((State.evSheetAccept_fetches hp hf ht hd).trans h)
        exact ⟨fun hk => fetches (State.acceptSheet_unknown hk), fun k hk => ⟨fun off hf => fetches (State.acceptSheet_malformed hk rfl hf),
          fun v hf hv => fetches (State.acceptSheet_refused hk rfl hf hv), fun hf hv => fetches (State.acceptSheet_joins hk rfl hf hv)⟩⟩
      · rw [State.dmaError_of_started (s := s.fetching p) hs]
        rfl
    case idle =>
      rintro ⟨hf, ht⟩
      obtain ⟨hi, hs, he, hn, hc⟩ := State.fetchable_iff.1 hf
      rcases h with h | h | h | h | h | h
      · exact h ht
      · exact absurd (hi.symm.trans h) nofun
      · exact h hs
      · exact h he
      · exact hn h
      · exact absurd hc (Nat.not_lt.2 h)

end Sys2Proof.Machine
end

section
/-! SUPPORT. Sheets that start, dispatch their groups and end (O44). -/
namespace Sys2Proof.Machine

section
variable {s : State} {r sub p m q k : Nat} {h : Sheet} {gran : List Nat}

/-- A FENCE behind nothing completes. -/
theorem State.evSheetFence_of (hh : s.sheetAt r sub = some h) : s.evSheetFence r sub =
    if h.kind = .fence ∧ h.waitOk ∧ ((s.ringAt r).earlier sub).isEmpty then s.complete r h h.verdict else s := by
  unfold State.evSheetFence
  rw [hh]

theorem State.evSheetFence_of_none (hh : s.sheetAt r sub = none) : s.evSheetFence r sub = s := by
  unfold State.evSheetFence
  rw [hh]

/-- A sheet past its deadline ends. -/
theorem State.evSheetDeadline_of (hh : s.sheetAt r sub = some h) : s.evSheetDeadline r sub =
    if h.deadlineUs = 0 then s else (s.updSheet r sub fun h => { h with timeout := some 1 }).endSheet r sub := by
  unfold State.evSheetDeadline
  rw [hh]

theorem State.evSheetDeadline_of_none (hh : s.sheetAt r sub = none) : s.evSheetDeadline r sub = s := by
  unfold State.evSheetDeadline
  rw [hh]

/-- A KERNEL sheet that may starts in its turn. -/
theorem State.evSheetKernelDispatch_of (hp : s.ringOwner r = some p) (hh : (s.ringAt r).startable = some h) :
    s.evSheetKernelDispatch r sub = if h.subIndex = sub ∧ s.turnOf p = some r ∧ s.dev.state = .serving then
      (s.updSheet r sub fun h => { h with started := true, order := (s.partAt p).starts }).updPart p fun x =>
        { x with lastRing := r, starts := x.starts + 1 } else s := by
  unfold State.evSheetKernelDispatch
  rw [hp, hh]

/-- The device after a group of the sheet has become resident at a place. -/
def State.hosted (s : State) (r p m q k : Nat) (h : Sheet) (gran : List Nat) : State :=
  let d := s.descriptor p h
  let s1 := s.updQuarter m q fun x => { x with slots := Table.put x.slots k (some (newGroup p r h d.1 d.2.1 d.2.2.2 gran)) }
  let s2 := s1.updSheet r h.subIndex fun h => { h with dispatched := h.dispatched + 1 }
  { s2 with thm := { s2.thm with warming := if s2.rampMode then s2.thm.warming &&& ~~~ BitVec.ofNat 16 (2 ^ m) else 0 } }

/-- A group that is not the next one of a serving device is not dispatched. -/
theorem State.evGroupDispatch_idle {r1 : Nat} (hp : s.ringOwner r = some p) (hd : s.dispatching p = some (r1, h))
    (hn : r1 ≠ r ∨ h.subIndex ≠ sub ∨ s.dev.state ≠ .serving) : s.evGroupDispatch r sub = s := by
  unfold State.evGroupDispatch
  rw [hp]
  dsimp only
  rw [hd]
  exact if_pos hn

section
variable (hp : s.ringOwner r = some p) (hd : s.dispatching p = some (r, h)) (hs : s.dev.state = .serving)
include hp hd hs

/-- One whose descriptor is not valid ends its sheet. -/
theorem State.evGroupDispatch_bad (hv : (s.descriptor p h).2.2.1 = false) :
    s.evGroupDispatch r h.subIndex = s.badDescriptor r p h := by
  unfold State.evGroupDispatch
  rw [hp]
  dsimp only
  rw [hd]
  dsimp only
  rw [if_neg (by simp [hs]), if_pos (by simp [hv])]

/-- One that no quarter can host waits. -/
theorem State.evGroupDispatch_full (hv : (s.descriptor p h).2.2.1 = true)
    (hb : s.bestHost (s.hosts p h (s.descriptor p h).1) = none) : s.evGroupDispatch r h.subIndex = s := by
  unfold State.evGroupDispatch
  rw [hp]
  dsimp only
  rw [hd]
  dsimp only
  rw [if_neg (by simp [hs]), if_neg (by simp [hv]), hb]

/-- And any other becomes resident there, its Mould's clock running. -/
theorem State.evGroupDispatch_hosted (hv : (s.descriptor p h).2.2.1 = true)
    (hb : s.bestHost (s.hosts p h (s.descriptor p h).1) = some (m, q, k, gran)) :
    s.evGroupDispatch r h.subIndex = (if ((s.hosted r p m q k h gran).mouldAt m).state = .running then s.hosted r p m q k h gran
      else ((s.hosted r p m q k h gran).updMould m fun x => { x with state := .running }).clockOn m).acquire m := by
  unfold State.evGroupDispatch
  rw [hp]
  dsimp only
  rw [hd]
  dsimp only
  rw [if_neg (by simp [hs]), if_neg (by simp [hv]), hb]
  rfl

end

/-- OVERDUE follows what is. -/
theorem State.evOverdueChange_of {now : Bool} (hn : s.overdueNow r = now) : s.evOverdueChange r =
    if now = (s.ringAt r).overdue then s
    else (s.updRing r fun x => { x with overdue := now }).log 0x2002 (param [(1, r)]) (s.ringOwner r) now true := by
  unfold State.evOverdueChange
  rw [hn]

/-- With no overflow entry nothing is overdue. -/
theorem State.overdueNow_empty (ho : (s.ringAt r).overflow = []) : s.overdueNow r = false := by
  unfold State.overdueNow
  dsimp only
  rw [ho]

/-- The oldest entry is overdue when it has waited beyond the ring's bound. -/
theorem State.overdueNow_late {c : Completion} {rest : List Completion} (ho : (s.ringAt r).overflow = c :: rest)
    (hs : (s.ringAt r).setup = true)
    (ht : (if (s.ringAt r).drainBound = 0 then 10000 else (s.ringAt r).drainBound) * 32768 < (s.now - c.since) * 1000000) :
    s.overdueNow r = true := by
  unfold State.overdueNow
  dsimp only
  rw [ho]
  simp only [hs, Bool.true_and]
  exact decide_eq_true ht

end

/-- The time between two moments whose places in their ticks are free, in parts of a second, saturating. -/
theorem State.elapsed_bounds (s : State) (since w : Nat) {parts : Nat} (hp : 0 < parts) :
    (s.elapsed since w parts).1 ≤ 2 ^ w - 1 ∧ (s.elapsed since w parts).1 * 32768 ≤ (s.now - since + 1) * parts ∧
      ((s.elapsed since w parts).1 < 2 ^ w - 1 → (s.now - since - 1) * parts < ((s.elapsed since w parts).1 + 1) * 32768) := by
  unfold State.elapsed
  dsimp only
  generalize (s.free 31).1 = f, s.now - since = d, 2 ^ w - 1 = top
  split
  next h0 =>
    subst h0
    have := Nat.mod_lt f hp
    omega
  next h0 =>
    obtain ⟨e, rfl⟩ := Nat.exists_eq_succ_of_ne_zero h0
    have place := Nat.mod_lt f (Nat.mul_pos Nat.two_pos hp)
    have more : (e.succ + 1) * parts = e * parts + 2 * parts := by rw [← Nat.add_mul]
    rw [more, Nat.succ_sub_one]
    generalize e * parts = a at *
    omega

/-- Settles O44: each event by the case of its sheet, its ring or its partition. -/
theorem sheetsStartAndEnd : Obligations.SheetsStartAndEnd := by
  refine ⟨fun s r sub h hr hh => ?sheet, fun s r sub hr hh => ⟨effect_of (State.onUnit_of_lt hr) (State.evSheetFence_of_none hh),
      effect_of (State.onUnit_of_lt hr) (State.evSheetDeadline_of_none hh)⟩, fun s r sub p h hr hp hh => ?kernel,
    fun s r p h hr hp hd hs => ?group, fun s r p h sub r1 hr hp hd hn => effect_of (State.onUnit_of_lt hr) (State.evGroupDispatch_idle hp hd hn),
    fun s r hr => ?overdue, fun s p hp => ⟨fun hd => effect_of (State.onUnit_of_lt hp) (if_pos hd),
      fun hd => effect_of (State.onUnit_of_lt hp) (if_neg hd)⟩, fun s since w parts hp => State.elapsed_bounds s since w hp⟩
  case sheet =>
    have fence := State.evSheetFence_of hh
    have deadline := State.evSheetDeadline_of hh
    refine ⟨fun hk hw he => effect_of (State.onUnit_of_lt hr) (fence.trans (if_pos ⟨hk, hw, by rw [he]; rfl⟩)),
      fun hn => effect_of (State.onUnit_of_lt hr) (fence.trans (if_neg ?_)),
      fun h0 => effect_of (State.onUnit_of_lt hr) (deadline.trans (if_pos h0)),
      fun h0 => effect_of (State.onUnit_of_lt hr) (deadline.trans (if_neg h0))⟩
    rintro ⟨hk, hw, he⟩
    rcases hn with hn | hn | hn
    · exact hn hk
    · exact absurd (hw.symm.trans hn) nofun
    · exact hn (List.isEmpty_iff.1 he)
  case kernel =>
    have start := State.evSheetKernelDispatch_of (sub := sub) hp hh
    refine ⟨fun hs ht hd => effect_of (State.onUnit_of_lt hr) (start.trans (if_pos ⟨hs, ht, hd⟩)),
      fun hn => effect_of (State.onUnit_of_lt hr) (start.trans (if_neg ?_))⟩
    rintro ⟨hs, ht, hd⟩
    rcases hn with hn | hn | hn
    · exact hn hs
    · exact hn ht
    · exact hn hd
  case group =>
    intro d counted
    refine ⟨fun hv => effect_of (State.onUnit_of_lt hr) (State.evGroupDispatch_bad hp hd hs hv),
      fun hv hb => effect_of (State.onUnit_of_lt hr) (State.evGroupDispatch_full hp hd hs hv hb), fun m q k gran hv hb => ?_⟩
    have hosted := State.evGroupDispatch_hosted hp hd hs hv hb
    intro s2 s3
    exact ⟨fun hm => effect_of (State.onUnit_of_lt hr) (hosted.trans (congrArg (State.acquire · m) (if_pos hm))),
      fun hm => effect_of (State.onUnit_of_lt hr) (hosted.trans (congrArg (State.acquire · m) (if_neg hm)))⟩
  case overdue =>
    intro x bound
    refine ⟨fun c rest ho hs ht hx => effect_of (State.onUnit_of_lt hr) ((State.evOverdueChange_of (State.overdueNow_late ho hs ht)).trans (if_neg ?_)),
      fun ho hx => effect_of (State.onUnit_of_lt hr) ((State.evOverdueChange_of (State.overdueNow_empty ho)).trans (if_neg ?_)),
      fun ho hx => effect_of (State.onUnit_of_lt hr) ((State.evOverdueChange_of (State.overdueNow_empty ho)).trans (if_pos hx.symm))⟩
    · exact fun e => absurd (e.trans hx) nofun
    · exact fun e => absurd (e.trans hx) nofun

end Sys2Proof.Machine
end

section
/-! SUPPORT. Moulds that leave and return (O45). -/
namespace Sys2Proof.Machine

section
variable {s : State} {m p q : Nat}

/-- The list in the order of grants is its list, sorted. -/
theorem State.byGrant_eq_insertionSort (l : List Nat) :
    s.byGrant l = l.insertionSort fun a b => (s.mouldAt a).rank ≤ (s.mouldAt b).rank := by
  have insert (m : Nat) (l : List Nat) :
      s.grantAfter m l = l.orderedInsert (fun a b => (s.mouldAt a).rank ≤ (s.mouldAt b).rank) m := by
    induction l with
    | nil => rfl
    | cons k l ih =>
      rw [State.grantAfter, List.orderedInsert_cons, ih]
  induction l with
  | nil => rfl
  | cons m l ih => exact (congrArg (s.grantAfter m) ih).trans (insert m _)

/-- The greatest of a list is not less than any of it. -/
theorem le_foldl_max {l : List Nat} : ∀ a, a ≤ l.foldl max a ∧ ∀ x ∈ l, x ≤ l.foldl max a := by
  induction l with
  | nil => exact fun a => ⟨le_rfl, nofun⟩
  | cons b l ih =>
    intro a
    obtain ⟨from_, all⟩ := ih (max a b)
    refine ⟨(le_max_left a b).trans from_, fun x hx => ?_⟩
    rcases List.mem_cons.1 hx with rfl | hx
    · exact (le_max_right a x).trans from_
    · exact all x hx

/-- No Mould's place is behind the next one. -/
theorem State.rank_lt_nextRank (hm : m < 16) : (s.mouldAt m).rank < s.nextRank := by
  refine Nat.lt_succ_of_le ((le_foldl_max 0).2 _ (List.mem_map.2 ⟨s.mouldAt m, ?_, rfl⟩))
  have : s.mouldAt m = s.mould[m] := by simp [State.mouldAt, Table.at, hm]
  rw [this]
  simp

/-- A Mould that is out already is not removed. -/
theorem State.mouldRemove_out (h : (s.mouldAt m).state = .selfTest ∨ (s.mouldAt m).state = .retired) : s.mouldRemove m = s := if_pos h

/-- The sheets with a group on a Mould, stopped. -/
def State.sheetsStopped (s : State) (m : Nat) : State :=
  (distinct ((s.residents m).filterMap fun (q, k) => (s.groupAt m q k).map fun g => (g.ring, g.subIndex))).foldl
    (fun (s : State) (y : Nat × Nat) =>
      (s.updSheet y.1 y.2 fun h => { h with stop := some (h.stop.getD .mouldFailure) }).endSheet y.1 y.2) s

/-- Any other stops the sheets with a group there, and leaves its partition. -/
theorem State.mouldRemove_of_part (h1 : (s.mouldAt m).state ≠ .selfTest) (h2 : (s.mouldAt m).state ≠ .retired)
    (hp : (s.mouldAt m).part = some p) : s.mouldRemove m =
      ((((s.sheetsStopped m).updMould m fun x => { x with state := .selfTest, part := none, removedFrom := x.part, mult := 0 }).updPart p
        fun y => { y with moulds := y.moulds.filter (· != m) }).mouldRecord m 0 (some p)) := by
  have out : ¬ ((s.mouldAt m).state = .selfTest ∨ (s.mouldAt m).state = .retired) := fun h => h.elim h1 h2
  unfold State.mouldRemove
  dsimp only
  rw [if_neg out, hp]
  rfl

/-- A watchdog fires for a quarter with a group that may issue, and for no other. -/
theorem State.evMouldWatchdog_ready {k : Nat} (hk : k < 16) (h : (s.canIssue m q k).isSome = true) :
    s.evMouldWatchdog m q = s.mouldRemove m := if_pos (List.any_eq_true.2 ⟨k, List.mem_range.2 hk, h⟩)

theorem State.evMouldWatchdog_idle (h : ∀ k, k < 16 → s.canIssue m q k = none) : s.evMouldWatchdog m q = s := by
  refine if_neg ?_
  rw [List.any_eq_true]
  rintro ⟨k, hk, hs⟩
  rw [h k (List.mem_range.1 hk)] at hs
  exact absurd hs nofun

theorem effect_mouldWatchdog {t : State} (hm : m < 16) (hq : q < 4) (e : s.evMouldWatchdog m q = t) : Effect (.mouldWatchdog m q) s t :=
  effect_of (if_pos ⟨hm, hq⟩) e

section
variable (hs : (s.mouldAt m).state = .selfTest) (hr : (s.mouldAt m).removedFrom = some p) (hp : (s.partAt p).state ≠ .none)
include hs hr hp

/-- A pass returns a Mould to the partition that it was taken from. -/
theorem State.evMouldSelftestDone_pass : s.evMouldSelftestDone m true =
    (((s.updMould m fun x => { x with removedFrom := none }).mouldJoin m p false).mouldRecord m 1 (some p)) := by
  have home : ((s.mouldAt m).removedFrom.filter fun p => (s.partAt p).state != .none) = some p := by
    rw [hr, Option.filter_some, if_pos (bne_iff_ne.2 hp)]
  unfold State.evMouldSelftestDone
  dsimp only
  rw [if_neg (not_not.2 hs), home]
  rfl

/-- The device with a Mould retired. -/
def State.mouldRetired (s : State) (m : Nat) (p : Option Nat) : State :=
  ((s.updMould m fun x => { x with removedFrom := none }).updMould m fun x => { x with state := .retired, part := none }).mouldRecord m 2 p

/-- A fail retires it; a free Mould is granted in its place, and a partition left without one is at fault. -/
theorem State.evMouldSelftestDone_fail : s.evMouldSelftestDone m false =
    match (List.range 16).find? fun n => ((s.mouldRetired m (some p)).mouldAt n).state == .free with
    | some n => ((s.mouldRetired m (some p)).mouldJoin n p true).mouldRecord n 3 (some p)
    | none => if ((s.mouldRetired m (some p)).partAt p).moulds = [] then (s.mouldRetired m (some p)).partFault p 3
      else s.mouldRetired m (some p) := by
  have home : ((s.mouldAt m).removedFrom.filter fun p => (s.partAt p).state != .none) = some p := by
    rw [hr, Option.filter_some, if_pos (bne_iff_ne.2 hp)]
  unfold State.evMouldSelftestDone
  dsimp only
  rw [if_neg (not_not.2 hs), home]
  rfl

end

end

/-- Settles O45: each event by the case of its Mould. -/
theorem mouldsLeaveAndReturn : Obligations.MouldsLeaveAndReturn := by
  refine ⟨fun s m hm => ?mould, fun s m p hm hs hr hp => ?selftest, fun s l => ?order, fun s m hm => State.rank_lt_nextRank hm,
    fun s a n => ⟨s.updMem fun m => { m with marked := unmark a n m.marked }, effect_of rfl rfl, rfl, rfl⟩⟩
  case mould =>
    refine ⟨fun hs hr hw => effect_of (State.onUnit_of_lt hm) (if_pos ⟨hs, hr, by simp [hw]⟩),
      fun hn => effect_of (State.onUnit_of_lt hm) (if_neg ?_),
      fun c ho => effect_of (State.onUnit_of_lt hm) (State.mouldRemove_out ho), fun c p h1 h2 hp => ?_,
      fun q hq hn => effect_mouldWatchdog hm hq (State.evMouldWatchdog_idle hn), fun ok hn => effect_of (State.onUnit_of_lt hm) (if_pos hn)⟩
    · rintro ⟨hs, hr, hw⟩
      rcases hn with h | h | h
      · exact h hs
      · exact h hr
      · exact hw h
    · have gone := State.mouldRemove_of_part h1 h2 hp
      exact ⟨effect_of (State.onUnit_of_lt hm) gone, fun q hq ⟨k, hk, hi⟩ =>
        effect_mouldWatchdog hm hq ((State.evMouldWatchdog_ready hk hi).trans gone)⟩
  case selftest =>
    intro s0 back
    have fail := State.evMouldSelftestDone_fail hs hr hp
    have none (hn : ∀ k, k < 16 → ((s.mouldRetired m (some p)).mouldAt k).state ≠ .free) :
        (List.range 16).find? (fun n => ((s.mouldRetired m (some p)).mouldAt n).state == .free) = none :=
      List.find?_eq_none.2 fun k hk e => hn k (List.mem_range.1 hk) (beq_iff_eq.1 e)
    refine ⟨effect_of (State.onUnit_of_lt hm) (State.evMouldSelftestDone_pass hs hr hp), fun n hb hn hf => ?_, fun hn he => ?_, fun hn he => ?_⟩
    · have free : (List.range 16).find? (fun n => ((s.mouldRetired m (some p)).mouldAt n).state == .free) = some n := by
        rw [List.find?_range_eq_some]
        exact ⟨beq_iff_eq.2 hf, List.mem_range.2 hn, fun k hk => bne_iff_ne.2 (hb k hk)⟩
      rw [free] at fail
      exact effect_of (State.onUnit_of_lt hm) fail
    · rw [none hn] at fail
      exact effect_of (State.onUnit_of_lt hm) (fail.trans (if_pos he))
    · rw [none hn] at fail
      exact effect_of (State.onUnit_of_lt hm) (fail.trans (if_neg he))
  case order =>
    have total : Std.Total fun a b => (s.mouldAt a).rank ≤ (s.mouldAt b).rank := ⟨fun _ _ => Nat.le_total _ _⟩
    have trans : IsTrans Nat fun a b => (s.mouldAt a).rank ≤ (s.mouldAt b).rank := ⟨fun _ _ _ => Nat.le_trans⟩
    rw [State.byGrant_eq_insertionSort]
    exact ⟨List.perm_insertionSort _ l, List.pairwise_insertionSort _ l⟩

end Sys2Proof.Machine
end

section
/-! SUPPORT. Batches of the scorer (O46). -/
namespace Sys2Proof.Machine

/-- An element of a vector of bytes is its byte, signed. -/
theorem sfld_one (l : List Byte) (j : Nat) : sfld l j 1 = ((l[j]?).getD 0).toInt := by
  have bytes : bytesAt l j 1 = [(l[j]?).getD 0] := by
    rcases Nat.lt_or_ge j l.length with hj | hj
    · rw [bytesAt, List.drop_eq_getElem_cons hj, List.getElem?_eq_getElem hj]
      rfl
    · rw [bytesAt, List.drop_eq_nil_of_le hj, List.getElem?_eq_none hj]
      rfl
  have byte : fld l j 1 = ((l[j]?).getD 0).toNat := by rw [fld, bytes, leNat, leNat]; omega
  have sign := BitVec.toInt_eq_toNat_cond ((l[j]?).getD 0)
  have := ((l[j]?).getD 0).isLt
  rw [sfld, byte, sgn]
  split at sign
  · rw [if_pos (by omega), sign]
  · rw [if_neg (by omega), sign]
    rfl

/-- The offset code of an element is the element and 128. -/
theorem offsetCode_eq (b : Byte) : (offsetCode b : Int) = b.toInt + 128 := by
  have := BitVec.le_toInt b
  unfold offsetCode
  omega

/-- With the offset terms removed a window's result is the sum of the products. -/
theorem corrected_eq_dot (q k : List Byte) : corrected q k = dot q k := by
  have sums (l : List Nat) : (((l.map fun j => offsetCode ((q[j]?).getD 0) * offsetCode ((k[j]?).getD 0)).sum : Nat) : Int) =
      (l.map fun j => sfld q j 1 * sfld k j 1).sum + 128 * (l.map fun j => sfld k j 1).sum +
        128 * (l.map fun j => sfld q j 1).sum + l.length * 128 ^ 2 := by
    induction l with
    | nil => rfl
    | cons j l ih =>
      simp only [List.map_cons, List.sum_cons, Nat.cast_add, Nat.cast_mul, offsetCode_eq, ih, sfld_one, List.length_cons]
      push_cast
      ring
  unfold corrected windowSum elemSum dot
  rw [sums, List.length_range, ← List.sum_eq_foldl, ← List.sum_eq_foldl, ← List.sum_eq_foldl]
  push_cast
  ring

section
variable {s t u : State} {i : GIns} {g : Group} {rs d res : Nat} {desc : List Byte}

/-- The batch that a SCORE submits. -/
def Group.batch (g : Group) (i : GIns) (res : Nat) (desc : List Byte) (at_ : Nat) : Batch :=
  { part := g.part, mould := i.mould, quarter := i.quarter, slot := i.slot, ring := g.ring, subIndex := g.subIndex,
    number := g.number, res := res, desc := desc, issuedAt := at_ }

/-- Where a SCORE has to wait for a place: four of its group's batches are outstanding, or the optical queue is full. -/
def State.scoreFull (s : State) (i : GIns) (g : Group) (desc : List Byte) : Prop :=
  4 ≤ s.outstandingOf i.mould i.quarter i.slot ∨
    (s.pathOf g.part (parseDesc desc).forceDigital = .optical ∧ 64 ≤ (Table.at s.wmk.queue g.part []).length)

section
variable (hi : Issues s i g) (hn : g.blocks (sNeed [rs, rs + 1]) = false) (hr : rs < 63)
  (ht : (s.issuing i g).scoreTarget i g false (g.s rs + 2 ^ 32 * g.s (rs + 1)) = (.mem d, t)) (h0 : t.isPoisoned (d / 64) = false)
  (h1 : t.isPoisoned (d / 64 + 1) = false) (hd : t.memRead d 128 = desc)
  (hu : t.scoreTarget i g true (parseDesc desc).res = (.mem res, u))
include hi hn hr ht h0 h1 hd hu

/-- A SCORE without a place waits. -/
theorem effect_score_full (hf : u.scoreFull i g desc) :
    Effect (.score i rs) s ((u.onGroup i fun h => { h with wait := .scoreRoom }).issuedBy i g) := by
  refine effect_jump hi rfl hn ?_
  dsimp only [GIns.says]
  rw [if_neg (Nat.not_le.2 hr), ht]
  dsimp only
  rw [hd, hu]
  dsimp only
  rw [if_neg (by simp [h0, h1])]
  exact if_pos (by simpa [State.scoreFull] using hf)

/-- And one with a place submits its batch, as an acquire. -/
theorem effect_score_submits (hf : ¬ u.scoreFull i g desc) :
    Effect (.score i rs) s (((u.acquire i.mould).submit (g.batch i res desc (s.issuing i g).now)).advanced i g) := by
  refine effect_done hi rfl hn ?_
  dsimp only [GIns.says]
  rw [if_neg (Nat.not_le.2 hr), ht]
  dsimp only
  rw [hd, hu]
  dsimp only
  rw [if_neg (by simp [h0, h1])]
  exact if_neg (by simpa [State.scoreFull] using hf)

end

/-- A batch goes where its path leads. -/
theorem State.submit_digital {b : Batch} (h : s.pathOf b.part (parseDesc b.desc).forceDigital = .digital) :
    s.submit b = { s with wmk := { s.wmk with digitals := s.wmk.digitals ++ [{ b with digital := true }] } } := by
  unfold State.submit
  rw [h]

theorem State.submit_optical {b : Batch} (h : s.pathOf b.part (parseDesc b.desc).forceDigital = .optical) :
    s.submit b = { s with wmk := { s.wmk with queue := Table.upd s.wmk.queue b.part (· ++ [b]) } } := by
  unfold State.submit
  rw [h]

theorem State.submit_none {b : Batch} (h : s.pathOf b.part (parseDesc b.desc).forceDigital = .none) :
    s.submit b = s.batchEnds b { status := .scorerOff } := by
  unfold State.submit
  rw [h]
  rfl

end

section
variable {s : State} {p : Nat} {b : Batch} {rest : List Batch}

/-- The first of a list after the one served last is one of the list. -/
theorem Scorer.turn_mem {w : Scorer} {l : List Nat} (h : w.turn l = some p) : p ∈ l := by
  rcases Option.or_eq_some_iff.1 h with h | ⟨-, h⟩
  · exact List.mem_of_find?_eq_some h
  · exact List.mem_of_mem_head? h

/-- The partition whose batch starts next waits; before those with shares come none without, and, where none has been passed over 16 times,
none that is owed less. -/
theorem State.nextBatchOf_first (h : s.nextBatchOf = some p) : p ∈ s.batchReady ∧ ∀ q ∈ s.batchReady, 0 < (s.partAt q).wmk →
    0 < (s.partAt p).wmk ∧ (Table.at s.wmk.passed p 0 < 16 →
      Table.at s.wmk.passed q 0 < 16 ∧ Table.at s.wmk.owed q (0 : Int) ≤ Table.at s.wmk.owed p 0) := by
  unfold State.nextBatchOf at h
  dsimp only at h
  split at h
  next old =>
    obtain ⟨shared, passed⟩ := List.mem_filter.1 (Scorer.turn_mem h)
    obtain ⟨ready, wmk⟩ := List.mem_filter.1 shared
    refine ⟨ready, fun q hq hw => ⟨of_decide_eq_true wmk, fun young => ?_⟩⟩
    rw [← beq_iff_eq.1 passed] at old
    omega
  next old =>
    have young {q : Nat} (hq : q ∈ s.batchReady) (hw : 0 < (s.partAt q).wmk) : Table.at s.wmk.passed q 0 < 16 :=
      ((le_foldl_max 0).2 _ (List.mem_map_of_mem (List.mem_filter.2 ⟨hq, decide_eq_true hw⟩))).trans_lt (Nat.not_le.1 old)
    split at h
    next most hm =>
      obtain ⟨shared, owed⟩ := List.mem_filter.1 (Scorer.turn_mem h)
      obtain ⟨ready, wmk⟩ := List.mem_filter.1 shared
      refine ⟨ready, fun q hq hw => ⟨of_decide_eq_true wmk, fun _ => ⟨young hq hw, ?_⟩⟩⟩
      rw [beq_iff_eq.1 owed]
      exact (List.max?_eq_some_iff.1 hm).2 _ (List.mem_map_of_mem (List.mem_filter.2 ⟨hq, decide_eq_true hw⟩))
    next none =>
      refine ⟨Scorer.turn_mem h, fun q hq hw => ?_⟩
      have empty := List.map_eq_nil_iff.1 (List.max?_eq_none_iff.1 none)
      exact absurd (List.mem_filter.2 ⟨hq, decide_eq_true hw⟩) (empty ▸ List.not_mem_nil)

/-- A batch of the partition whose turn it is starts, and is charged to it. -/
theorem State.evBatchStart_of (ho : s.wmk.state ≠ .off) (hc : s.insvcCount ≠ 0) (hp : s.nextBatchOf = some p)
    (hb : Table.at s.wmk.queue p [] = b :: rest) :
    s.evBatchStart = ({ s.chargeBatch p (b.ns s.insvcCount) with wmk := { (s.chargeBatch p (b.ns s.insvcCount)).wmk with
      queue := Table.put s.wmk.queue p rest
      flight := s.wmk.flight ++ [{ b with channels := s.insvcCount }]
      lastPart := p } } : State).scoreWake := by
  unfold State.evBatchStart
  rw [if_neg (by simp [ho, hc]), hp]
  dsimp only
  rw [hb]
  rfl

/-- With the scorer off, or no channel or no batch to serve, none starts. -/
theorem State.evBatchStart_idle (h : s.wmk.state = .off ∨ s.insvcCount = 0 ∨ s.nextBatchOf = none) : s.evBatchStart = s := by
  unfold State.evBatchStart
  split
  · rfl
  next hn =>
    rw [h.resolve_left (fun e => hn (.inl e)) |>.resolve_left fun e => hn (.inr e)]

end

section
variable {s : State} {b : Batch}

/-- The end of a batch in flight: it leaves its codes on the DACs, and nothing more where it is discarded. -/
theorem State.evBatchEnd_optical {p : Nat} (h : s.wmk.flight.find? (fun b => b.part == p) = some b) :
    s.evBatchEnd (.optical p) =
      (let s2 := ({ (s.free 30).2 with wmk := { (s.free 30).2.wmk with flight := (s.free 30).2.wmk.flight.erase b } } : State).dacsAfter b (s.free 30).1
      if b.discard then s2 else s2.batchEnds b (s2.runBatch b (s.free 30).1)) := by
  unfold State.evBatchEnd
  dsimp only
  rw [h]

theorem State.evBatchEnd_optical_none {p : Nat} (h : s.wmk.flight = []) : s.evBatchEnd (.optical p) = s := by
  unfold State.evBatchEnd
  dsimp only
  rw [h]
  rfl

/-- And of a digital one. -/
theorem State.evBatchEnd_digital {n : Nat} (h : s.wmk.digitals[n]? = some b) : s.evBatchEnd (.digital n) =
    (let s1 : State := { s with wmk := { s.wmk with digitals := s.wmk.digitals.eraseIdx n } }
    s1.batchEnds b (s1.runBatch b 0)) := by
  unfold State.evBatchEnd
  dsimp only
  rw [h]

theorem State.evBatchEnd_digital_none {n : Nat} (h : s.wmk.digitals.length ≤ n) : s.evBatchEnd (.digital n) = s := by
  unfold State.evBatchEnd
  dsimp only
  rw [List.getElem?_eq_none h]

/-- A batch that ends OK without a signal writes its selection and its header, marks its sheet and is counted. -/
theorem State.batchEnds_ok {v : Verdict} (hv : v.status = .ok) (ht : (parseDesc b.desc).sigTally = 0xFFFF) :
    s.batchEnds b v = (let f := s.elapsed b.issuedAt 32 1000000000
      let t := ((f.2.writeSelection b v).memWrite b.res (headerBytes b v f.1)).updSheet b.ring b.subIndex fun h =>
        { h with digital := h.digital || (b.digital || decide (0 < v.fromKeys)) }
      ({ t with wmk := if b.digital then { t.wmk with digCnt := satInc 32 t.wmk.digCnt }
        else { t.wmk with optCnt := satInc 32 t.wmk.optCnt } } : State).scoreWake) := by
  have off : (v.status == Status.scorerOff) = false := by rw [hv]; rfl
  have ok : (v.status == Status.ok) = true := by rw [hv]; rfl
  have ne : v.status ≠ .scorerOff := by rw [hv]; nofun
  unfold State.batchEnds
  simp only [ht, if_pos hv, if_neg ne, off, ok, Bool.or_false, Bool.true_and, ne_eq, not_true_eq_false, false_and, if_false]

end

/-- Settles O46: each form of SCORE and SWAIT, the start of a batch and its end. -/
theorem scorerRunsBatches : Obligations.ScorerRunsBatches := by
  refine ⟨fun s i g hi => ?instructions, fun s p force h => if_pos (by simpa using h), fun s p ho => ?path,
    fun s p b rest ho hc hp hb => effect_of rfl (State.evBatchStart_of ho hc hp hb), fun s p h => State.nextBatchOf_first h,
    corrected_eq_dot, fun s h => effect_of rfl (State.evBatchStart_idle h), fun s p b h => ?optical,
    fun s n b h => effect_of rfl (State.evBatchEnd_digital h), fun s p h => effect_of rfl (State.evBatchEnd_optical_none h),
    fun s n h => effect_of rfl (State.evBatchEnd_digital_none h), fun s b v hv ht => State.batchEnds_ok hv ht⟩
  case instructions =>
    intro w illegal
    refine ⟨fun rs hn hr => effect_trap hi rfl hn ?beyond, fun rs hn => effect_blocked hi rfl hn,
      fun rs d res t u hn hr ht h0 h1 => ?_, fun n h3 hn => effect_done hi rfl g.blocks_none ?goes,
      fun n h3 hn => effect_done hi rfl g.blocks_none ?waits, fun n h3 => effect_trap hi rfl g.blocks_none ?many⟩
    case goes => exact (if_neg (by omega)).trans (if_pos hn)
    case waits => exact (if_neg (by omega)).trans (if_neg (Nat.not_le.2 hn))
    case beyond => exact if_pos hr
    case many => exact if_pos h3
    intro desc x hu b v path
    have full := effect_score_full hi hn hr ht h0 h1 rfl hu
    have room (ho : u.outstandingOf i.mould i.quarter i.slot < 4)
        (hp : path = .optical → (Table.at u.wmk.queue g.part []).length < 64) : ¬ u.scoreFull i g desc := by
      rintro (h | ⟨h, hq⟩)
      · omega
      · exact absurd (hp h) (by omega)
    have submits (hf : ¬ u.scoreFull i g desc) {z : State} (hz : v.submit b = z) : Effect (.score i rs) s (z.advanced i g) :=
      hz ▸ effect_score_submits hi hn hr ht h0 h1 rfl hu hf
    refine ⟨fun h => full (.inl h), fun hp hq => full (.inr ⟨hp, hq⟩), fun ho => ⟨fun hp => ?_, fun hp hq => ?_, fun hp => ?_⟩⟩
    · exact submits (room ho fun e => absurd (hp.symm.trans e) nofun) (State.submit_digital (s := v) hp)
    · exact submits (room ho fun _ => hq) (State.submit_optical (s := v) hp)
    · exact submits (room ho fun e => absurd (hp.symm.trans e) nofun) (State.submit_none (s := v) hp)
  case path =>
    have first : ¬ (¬ (s.partAt p).optical = true ∨ false = true) := by simp [ho]
    exact ⟨fun hs hn => (if_neg first).trans (if_pos ⟨hs, by simp [hn]⟩), fun h => (if_neg first).trans (if_neg (by simpa [imp_iff_not_or] using h))⟩
  case optical =>
    have ends := State.evBatchEnd_optical h
    exact ⟨fun hd => effect_of rfl (ends.trans (if_pos hd)), fun hd => effect_of rfl (ends.trans (if_neg (by simp [hd])))⟩

end Sys2Proof.Machine
end

section
/-! SUPPORT. The light and the training of strands (O47). -/
namespace Sys2Proof.Machine

section
variable {s : State} {k q : Nat}

/-- Presence on the fibre changes nothing of what a strand may do. -/
theorem State.strandProbes_presence (hk : k < 64) :
    (s.updStrand k fun t => { t with presence := true }).strandProbes k = s.strandProbes k := by
  unfold State.strandProbes State.strandMayTrain
  rw [State.strandAt_updStrand_same s hk]
  rfl

/-- A strand that may answer is lit at probe level. -/
theorem State.evPresenceDetect_lit (hk : k < 64)
    (h : s.strandProbes k = true ∨ ((s.strandAt k).state = .paused ∧ s.strandMayTrain k = true)) :
    s.evPresenceDetect k = s.updStrand k fun t => { t with presence := true, tx := .probe } := by
  have on_ : (s.strandAt k).state ≠ .off := by
    rcases h with h | ⟨h, -⟩
    · intro e
      simp [State.strandProbes, e] at h
    · rw [h]; nofun
  refine (if_neg fun x => on_ x.1).trans ((if_pos ?_).trans (State.updStrand_updStrand ..))
  rwa [State.strandProbes_presence hk]

/-- One that may not only knows of the light. -/
theorem State.evPresenceDetect_dark (hk : k < 64) (hp : s.strandProbes k = false) (hn : (s.strandAt k).state ≠ .paused)
    (ho : (s.strandAt k).state ≠ .off ∨ s.strandMayTrain k = false) :
    s.evPresenceDetect k = s.updStrand k fun t => { t with presence := true } := by
  refine (if_neg ?_).trans (if_neg ?_)
  · rintro ⟨h1, h2⟩
    exact ho.elim (· h1) fun h => absurd (h2.symm.trans h) nofun
  · rw [State.strandProbes_presence hk, hp]
    rintro (h | ⟨h, -⟩)
    · exact Bool.false_ne_true h
    · exact hn h

/-- One that is off leaves OFF by it. -/
theorem State.evPresenceDetect_off (ho : (s.strandAt k).state = .off) (hm : s.strandMayTrain k = true) :
    s.evPresenceDetect k = (s.updStrand k fun t => { t with presence := true, tx := .probe }).strandTo k .dark :=
  (if_pos ⟨ho, hm⟩).trans (congrArg (State.strandTo · k .dark) (State.updStrand_updStrand ..))

/-- The start of one strand of a position. -/
def State.startStrand (s : State) (k : Nat) : State :=
  if (s.strandAt k).state = .off ∧ s.strandMayTrain k then
    (s.updStrand k fun t => { t with probing := true, tx := .probe }).strandTo k .dark
  else if (s.strandAt k).state = .dark ∧ s.strandMayTrain k then s.updStrand k fun t => { t with probing := true }
  else s

/-- A strand of a position that is off or dark starts probing: what it is then. -/
def State.startsAs (s : State) (k : Nat) : Strand :=
  if (s.strandAt k).state = .off ∧ s.strandMayTrain k then { s.strandAt k with probing := true, tx := .probe, state := .dark }
  else if (s.strandAt k).state = .dark ∧ s.strandMayTrain k then { s.strandAt k with probing := true }
  else s.strandAt k

/-- The start of a strand leaves the service, the banks and every other strand as they were. -/
theorem State.startStrand_view (hk : k < 64) : (s.startStrand k).meshLit = s.meshLit ∧ (s.startStrand k).pho = s.pho ∧
    (s.startStrand k).strandAt k = s.startsAs k ∧ ∀ q, q ≠ k → (s.startStrand k).strandAt q = s.strandAt q := by
  unfold State.startStrand State.startsAs
  split
  next h =>
    let u := s.updStrand k fun t => { t with probing := true, tx := .probe }
    have off : (u.strandAt k).state = .off := by rw [State.strandAt_updStrand_same s hk]; exact h.1
    obtain ⟨c, d, o, e, -⟩ := State.strandTo_form (s := u) (k := k) (st := .dark) (by rw [off]; nofun) (by rw [off]; nofun) nofun
    rw [e]
    refine ⟨rfl, rfl, ?_, fun q hq => ?_⟩
    · exact (State.strandAt_updStrand_same u hk _).trans (by rw [State.strandAt_updStrand_same s hk])
    · exact (State.strandAt_updStrand_other u (Ne.symm hq) _).trans (State.strandAt_updStrand_other s (Ne.symm hq) _)
  next =>
    split
    · exact ⟨rfl, rfl, State.strandAt_updStrand_same s hk _, fun q hq => State.strandAt_updStrand_other s (Ne.symm hq) _⟩
    · exact ⟨rfl, rfl, rfl, fun _ _ => rfl⟩

/-- Strands that start one after another are each what they start as. -/
theorem State.startStrands (l : List Nat) (hl : l.Nodup) : ∀ s : State, (∀ k ∈ l, k < 64) →
    (∀ k ∈ l, (l.foldl State.startStrand s).strandAt k = s.startsAs k) ∧
    ∀ q, q ∉ l → (l.foldl State.startStrand s).strandAt q = s.strandAt q := by
  induction l with
  | nil => exact fun s _ => ⟨nofun, fun _ _ => rfl⟩
  | cons a l ih =>
    intro s h
    obtain ⟨ha, hn⟩ := List.nodup_cons.1 hl
    obtain ⟨lit, pho, own, other⟩ := State.startStrand_view (s := s) (h a List.mem_cons_self)
    obtain ⟨rest, out⟩ := ih hn (s.startStrand a) fun k hk => h k (List.mem_cons_of_mem _ hk)
    have same {k : Nat} (hk : k ≠ a) : (s.startStrand a).startsAs k = s.startsAs k := by
      have may : (s.startStrand a).strandMayTrain k = s.strandMayTrain k := by
        unfold State.strandMayTrain
        rw [other k hk, lit, pho]
      unfold State.startsAs
      rw [other k hk, may]
    refine ⟨fun k hk => ?_, fun q hq => ?_⟩
    · rcases List.mem_cons.1 hk with rfl | hk
      · exact (out k ha).trans own
      · exact (rest k hk).trans (same (ne_of_mem_of_not_mem hk ha))
    · obtain ⟨h1, h2⟩ := not_or.1 (mt List.mem_cons.2 hq)
      exact (out q h2).trans (other q h1)

/-- The strands of a port. -/
def portStrands (p : Nat) : List Nat := (List.range 4).map (4 * p + ·)

theorem State.evStrandStartTime_eq (p : Nat) : s.evStrandStartTime p = (portStrands p).foldl State.startStrand s := by
  rw [portStrands, List.foldl_map]
  rfl

end

section
variable {s : State} {k : Nat} {l : BitVec 4} {b : TsBlock}

/-- A stage of a strand that trains, by its number. -/
theorem State.evTrainingStageDone_of (h : (s.strandAt k).state = .training) : s.evTrainingStageDone k l b =
    if (s.strandAt k).stage = 0 then s.updStrand k fun t => { t with stage := 1 }
    else if (s.strandAt k).stage = 1 then
      if l = 0 then s.failTraining k else s.updStrand k fun t => { t with stage := 2, lanesOk := l }
    else if ¬ b.good then s
    else if (s.strandAt k).stage = 2 then s.stageIdentity k b
    else if (s.strandAt k).stage = 3 then
      s.updStrand k fun t => { t.txReq b.txReq with stage := 4, lanesOk := if l = 0 then t.lanesOk else t.lanesOk &&& l }
    else s.strandOpen k b := if_neg (not_not.2 h)

/-- A wrong peer is MISWIRED with its cause. -/
theorem State.stageIdentity_wrong (h : s.tsCause k b ≠ 0) : s.stageIdentity k b = (s.updStrand k fun t =>
    { t with peerPos := b.position % 64, peerStrand := b.strand % 64, misw := s.tsCause k b, tx := .probe, stage := 2 }).strandTo k .miswired :=
  (if_pos (c := (s.updStrand k fun t => { t with peerPos := b.position % 64, peerStrand := b.strand % 64 }).tsCause k b ≠ 0) h).trans
    (congrArg (State.strandTo · k .miswired) (State.updStrand_updStrand ..))

/-- The right one passes. -/
theorem State.stageIdentity_right (h : s.tsCause k b = 0) (hc : b.creditsOk = true) (hl : s.loopback k = false)
    (ht : (s.strandAt k).trip = none) : s.stageIdentity k b = s.updStrand k fun t =>
      { t with peerPos := b.position % 64, peerStrand := b.strand % 64, misw := 0, stage := 3 } := by
  have cause : (s.updStrand k fun t => { t with peerPos := b.position % 64, peerStrand := b.strand % 64 }).tsCause k b = 0 := h
  unfold State.stageIdentity
  dsimp only
  rw [cause, if_neg (not_not.2 rfl), if_neg (by simp [hc]), if_neg (by simp [hl]), ht]
  exact State.updStrand_updStrand ..

/-- A tap of the peer's choice moves by one, within its range. -/
theorem Strand.txReq_in_range {t : Strand} {r : Nat} {x : Int}
    (hx : x = Table.at t.taps (r % 4) 0 + (if r / 4 = 1 then 1 else if r / 4 = 2 then -1 else 0))
    (hr : r % 4 = 0 ∧ -8 ≤ x ∨ r % 4 = 2 ∧ -12 ≤ x) (h0 : x ≤ 0) : t.txReq r = { t with taps := Table.put t.taps (r % 4) x } := by
  unfold Strand.txReq
  dsimp only
  rw [← hx]
  refine if_pos ⟨hr.imp And.left And.left, ?_, h0⟩
  rcases hr with ⟨h, hl⟩ | ⟨h, hl⟩
  · rwa [if_pos h]
  · rwa [if_neg (by omega)]

/-- The main tap, and a tap that is none, does not move. -/
theorem Strand.txReq_none {t : Strand} {r : Nat} (h : r % 4 = 1 ∨ r % 4 = 3) : t.txReq r = t := if_neg (by omega)

/-- Loss of the light of a strand above probe level trips it; from UP its traffic is reconciled. -/
theorem State.evLossOfLight_up (ht : (s.strandAt k).tx = .full) (hs : (s.strandAt k).state = .up) :
    s.evLossOfLight k = ((s.updStrand k fun t =>
      { t with tx := .probe, presence := false, lastDown := 1, stage := 0, trip := some (s.now, true) }).strandTo k .safety).beginRecon k true := by
  unfold State.evLossOfLight
  dsimp only
  rw [if_neg (by simp [ht, hs]), hs]
  rfl

theorem State.evLossOfLight_other (ht : (s.strandAt k).tx = .full)
    (hs : (s.strandAt k).state = .training ∨ (s.strandAt k).state = .mgmtOnly ∨ (s.strandAt k).state = .loopTest) :
    s.evLossOfLight k = (s.updStrand k fun t =>
      { t with tx := .probe, presence := false, lastDown := 1, stage := 0 }).strandTo k .safety := by
  unfold State.evLossOfLight
  dsimp only
  rcases hs with hs | hs | hs
  all_goals
    rw [if_neg (by simp [ht, hs]), hs]
    rfl

theorem State.evReconTimeout_none (h : (s.strandAt k).recon = none) : s.evReconTimeout k = s := by
  unfold State.evReconTimeout State.reconFail
  rw [h]

/-- A reconciliation that nobody answers ends what it held. -/
theorem State.evReconTimeout_some {r : Nat × List Sent × List (Nat × Packet)} (h : (s.strandAt k).recon = some r) : s.evReconTimeout k =
    (let x := (reconPackets none r).foldl (fun (a : Nat × State) y => ((a.1 + b2n (a.2.lostPacket y).1, (a.2.lostPacket y).2) : Nat × State)) (0, s)
    x.2.reconEnd k 0 x.1) := by
  unfold State.evReconTimeout State.reconFail
  rw [h]

end

/-- Settles O47: the training of a strand stage by stage, and the loss of its light. -/
theorem strandsTrainAndLoseLight : Obligations.StrandsTrainAndLoseLight := by
  refine ⟨fun s k hk => ?training, fun s k hk => ?light⟩
  case training =>
    have on {t u : State} (h : t = u) : s.onUnit k 64 t = s.finish u := h ▸ State.onUnit_of_lt hk
    intro t failed
    refine ⟨fun hp hb => effect_of (on (if_pos ⟨hp, hb⟩)) rfl, fun hn => effect_of (on (if_neg ?_)) rfl,
      fun h => effect_of (on (State.evPresenceDetect_lit hk h)) rfl, fun hp hn ho => effect_of (on (State.evPresenceDetect_dark hk hp hn ho)) rfl,
      fun ho hm => effect_of (on (State.evPresenceDetect_off ho hm)) rfl, fun hs hm hx hp => effect_of (on (if_pos ⟨hs, hm, hx, hp⟩)) rfl,
      fun hp => effect_of (on (if_neg ?_)) rfl, fun ht => effect_of (on (if_pos ht)) rfl,
      fun ht => ⟨effect_of (on (if_neg ht)) rfl, fun l b => effect_of (on (if_pos ht)) rfl⟩, fun ht l b => ?stages,
      fun r x hx hr h0 => Strand.txReq_in_range hx hr h0, fun r hr => Strand.txReq_none hr,
      fun b hm hb hc => effect_of (on ((if_neg ?wrong).trans (if_neg hc))) rfl,
      fun b hm hb hc => effect_of (on ((if_neg ?right).trans (if_pos hc))) rfl,
      fun b hn => effect_of (on (if_pos (hn.imp_right fun h => by simp [h]))) rfl, fun hl => effect_of (on (if_pos hl)) rfl,
      fun hl => effect_of (on (if_neg hl)) rfl, fun p hp hn => ?nobody, fun p hp => ?start⟩
    · rintro ⟨h1, h2⟩
      exact hn.elim (fun h => absurd (h1.symm.trans h) nofun) fun h => absurd (h2.symm.trans h) nofun
    · exact fun x => absurd (x.2.2.2.symm.trans hp) nofun
    case wrong => simp [t, hm, hb]
    case right => simp [t, hm, hb]
    case stages =>
      have stage {u : State} (h : _ = u) : Effect (.trainingStageDone k l b) s u :=
        effect_of (on ((State.evTrainingStageDone_of ht).trans h)) rfl
      have same : (s.strandAt k).stage = t.stage := rfl
      have late (hs : 2 ≤ t.stage) (hb : b.good = true) {u : State} (h : _ = u) : Effect (.trainingStageDone k l b) s u :=
        stage ((if_neg (by omega)).trans ((if_neg (by omega)).trans ((if_neg (not_not.2 hb)).trans h)))
      exact ⟨fun hs => stage (if_pos hs), fun hs hl => stage ((if_neg (by omega)).trans ((if_pos hs).trans (if_neg hl))),
        fun hs hl => stage ((if_neg (by omega)).trans ((if_pos hs).trans (if_pos hl))),
        fun hs hb => stage ((if_neg (by omega)).trans ((if_neg (by omega)).trans (if_pos (by simp [hb])))),
        fun hs hb hc => late (by omega) hb ((if_pos hs).trans (State.stageIdentity_wrong hc)),
        fun hs hb hc hr hl hp => late (by omega) hb ((if_pos hs).trans (State.stageIdentity_right hc hr hl hp)),
        fun hs hb => late (by omega) hb ((if_neg (by omega)).trans (if_pos hs)),
        fun hs hb => late (by omega) hb ((if_neg (by omega)).trans (if_neg (by omega)))⟩
    case nobody =>
      refine effect_of (State.onUnit_of_lt hp) (foldl_of_fixed fun j hj => ?_)
      obtain ⟨h1, h2⟩ := hn j (List.mem_range.1 hj)
      exact (if_neg fun x => h1 x.1).trans (if_neg fun x => h2 x.1)
    case start =>
      refine ⟨_, effect_of (State.onUnit_of_lt hp) (State.evStrandStartTime_eq p), fun j hj hm => ?_⟩
      have nodup : (portStrands p).Nodup := List.nodup_range.map fun a b h => Nat.add_left_cancel h
      have lt (k : Nat) (hk : k ∈ portStrands p) : k < 64 := by
        obtain ⟨j, hj, rfl⟩ := List.mem_map.1 hk
        have := List.mem_range.1 hj
        omega
      have mem : 4 * p + j ∈ portStrands p := List.mem_map.2 ⟨j, List.mem_range.2 hj, rfl⟩
      rw [(State.startStrands _ nodup s lt).1 _ mem, State.startsAs]
      refine ⟨fun ho => ?_, fun hd => ?_⟩
      · rw [if_pos ⟨ho, hm⟩]
        exact ⟨rfl, rfl, rfl⟩
      · rw [if_neg (by simp [hd]), if_pos ⟨hd, hm⟩]
  case light =>
    have on {t u : State} (h : t = u) : s.onUnit k 64 t = s.finish u := h ▸ State.onUnit_of_lt hk
    intro t
    refine ⟨fun ht hs => effect_of (on (State.evLossOfLight_up ht hs)) rfl, fun ht hs => effect_of (on (State.evLossOfLight_other ht hs)) rfl,
      fun hn => effect_of (on (if_pos ?_)) rfl, fun hs hp => effect_of (on (if_pos ⟨hs, hp⟩)) rfl, fun hp => effect_of (on (if_neg ?_)) rfl,
      fun hr => effect_of (on (State.evReconTimeout_none hr)) rfl, fun r hr => effect_of (on (State.evReconTimeout_some hr)) rfl⟩
    · rcases hn with h | h | h
      · exact .inl h
      · exact .inr (by simp [t, h])
      · exact .inr (by simp [t, h])
    · simp [t, hp]

end Sys2Proof.Machine
end

section
/-! SUPPORT. The frames of strands (O48). -/
namespace Sys2Proof.Machine

section
variable {s : State} {k l q : Nat} {b : Bool} {f : Frame} {ts : TsBlock}

/-! ### Who sends next -/

/-- The source after the last one is one of those that wait. -/
theorem nextAfter_mem {last x : Nat} {l : List Nat} (h : nextAfter last l = some x) : x ∈ l := by
  obtain ⟨m, hm, hx⟩ := List.mem_filterMap.1 (List.mem_of_mem_head? h)
  have mem := List.min?_mem hx
  simp only [List.mem_cons, List.not_mem_nil, or_false] at hm
  rcases hm with rfl | rfl
  · exact (List.mem_filter.1 mem).1
  · exact mem

/-- Where no class may send nobody is chosen. -/
theorem Strand.choose_none {t : Strand} {chl : Nat → Nat} {f : Fill} (h : t.classesFor f = []) : t.choose chl f = none := by
  unfold Strand.choose
  rw [h]
  rfl

/-- Those that may send in a class other than MGMT, as (class, source). -/
def Strand.candidates (t : Strand) (f : Fill) : List (Nat × Nat) := (t.classesFor f).flatMap fun c => (t.sources c).map fun x => (c, x)

theorem Strand.mem_candidates {t : Strand} {f : Fill} {e : Nat × Nat} :
    e ∈ t.candidates f ↔ e.1 ∈ t.classesFor f ∧ e.2 ∈ t.sources e.1 := by
  simp only [Strand.candidates, List.mem_flatMap, List.mem_map]
  constructor
  · rintro ⟨c, hc, x, hx, rfl⟩
    exact ⟨hc, hx⟩
  · rintro ⟨hc, hx⟩
    exact ⟨e.1, hc, e.2, hx, rfl⟩

/-- Where no requester has waited, the one chosen is one with shares, if there is one, and none with shares is owed more. -/
theorem Strand.choose_first {t : Strand} {chl : Nat → Nat} {f : Fill} {e : Nat × Nat} (h0 : (t.classesFor f).contains 0 = false)
    (he : t.choose chl f = some e) : e ∈ t.candidates f ∧
      (t.ages = [] → 0 < chl e.2 ∨ ∀ x ∈ t.candidates f, chl x.2 = 0) ∧
      (t.ages = [] → ∀ x ∈ t.candidates f, 0 < chl x.2 → Table.at t.owed x.2 (0 : Int) ≤ Table.at t.owed e.2 0) := by
  unfold Strand.choose at he
  dsimp only at he
  rw [if_neg (by rw [h0]; exact Bool.false_ne_true)] at he
  have own : ((t.classesFor f).flatMap fun c => (t.sources c).map fun x => (c, x)) = t.candidates f := rfl
  rw [own] at he
  split at he
  next old =>
    have aged : t.ages ≠ [] := by
      intro no
      rw [no, foldl_of_fixed fun x hx => by obtain ⟨_, _, rfl⟩ := List.mem_map.1 hx; rfl] at old
      omega
    exact ⟨List.mem_of_find?_eq_some he, fun no => absurd no aged, fun no => absurd no aged⟩
  next =>
    have shared {x : Nat × Nat} (hx : x ∈ t.candidates f) (hc : 0 < chl x.2) :
        x ∈ (t.candidates f).filter fun e => 0 < chl e.2 := List.mem_filter.2 ⟨hx, decide_eq_true hc⟩
    split at he
    next most hm =>
      have mem := List.mem_filter.1 (List.mem_of_find?_eq_some he)
      refine ⟨mem.1, fun _ => .inl (of_decide_eq_true mem.2), fun _ x hx hc => ?_⟩
      have own := List.find?_some he
      rw [beq_iff_eq.1 own]
      exact (List.max?_eq_some_iff.1 hm).2 _ (List.mem_map_of_mem (shared hx hc))
    next hm =>
      have empty := List.map_eq_nil_iff.1 (List.max?_eq_none_iff.1 hm)
      have none {x : Nat × Nat} (hx : x ∈ t.candidates f) (hc : 0 < chl x.2) : False := by
        have := shared hx hc
        rw [empty] at this
        exact absurd this List.not_mem_nil
      refine ⟨?_, fun _ => .inr fun x hx => Nat.eq_zero_of_not_pos (none hx), fun _ x hx hc => (none hx hc).elim⟩
      split at he
      next c rest hc =>
        obtain ⟨x, hx, rfl⟩ := Option.map_eq_some_iff.1 he
        exact Strand.mem_candidates.2 ⟨hc ▸ List.mem_cons_self, nextAfter_mem hx⟩
      next => exact absurd he nofun

/-! ### Sending -/

/-- A strand that carries no frames sends none. -/
theorem State.evFrameTransmit_idle (hc : (s.strandAt k).carries = false) : s.evFrameTransmit k = s := if_pos (by simp [hc])

section
variable (hc : (s.strandAt k).carries = true)
include hc

theorem State.evFrameTransmit_no_lane (hl : (s.strandAt k).laneAfter (s.strandAt k).lastLane = none) : s.evFrameTransmit k = s := by
  unfold State.evFrameTransmit
  dsimp only
  rw [if_neg (not_not.2 hc), hl]

variable (hl : (s.strandAt k).laneAfter (s.strandAt k).lastLane = some l)
include hl

/-- A lane that has carried its frames carries a marker. -/
theorem State.evFrameTransmit_marker (hm : 16383 ≤ Table.at (s.strandAt k).mcount l 0) :
    s.evFrameTransmit k = (s.updStrand k fun t => { t with lastLane := l, mcount := Table.put t.mcount l 0 }).emit
      (.marker k l (s.tsBlock k l 6)) := by
  unfold State.evFrameTransmit
  dsimp only
  rw [if_neg (not_not.2 hc), hl]
  exact if_pos hm

variable (hm : Table.at (s.strandAt k).mcount l 0 < 16383)
include hm

/-- Another carries the frame of the replay. -/
theorem State.evFrameTransmit_replay {f : Sent} (hr : (s.strandAt k).replayFrom = some q)
    (hf : (s.strandAt k).retry.find? (fun x => x.frame.seq == q) = some f) :
    s.evFrameTransmit k = (s.updStrand k fun t => { t.sentOn l with
      retry := t.retry.map fun x => if x.frame.seq = f.frame.seq then { x with lane := l, replays := x.replays + 1 } else x
      replays := satInc 32 t.replays
      replayFrom := if t.retry.any (fun x => x.frame.seq == (f.frame.seq + 1) % 65536) then some ((f.frame.seq + 1) % 65536) else none }).emit
        (.frame k l { (s.strandAt k).frameOf f.frame.seq f.frame.slots with credits := (s.strandAt k).freed }) := by
  unfold State.evFrameTransmit
  dsimp only
  rw [if_neg (not_not.2 hc), hl]
  dsimp only
  rw [if_neg (Nat.not_le.2 hm), hr, Option.bind_some, hf]

/-- Or a new frame, where there is room for its copy. -/
theorem State.evFrameTransmit_new (hr : (s.strandAt k).replayFrom = none) : s.evFrameTransmit k =
    if 256 ≤ (s.strandAt k).retry.length then s
    else
      let x := (s.strandAt k).fill (fun p => (s.partAt p).chl) {} 9
      let fr := x.1.frameOf (s.strandAt k).txSeq x.2.slots
      (s.updStrand k fun _ => { x.1.grow.sentOn l with
        txSeq := ((s.strandAt k).txSeq + 1) % 65536, replayFrom := none,
        retry := (s.strandAt k).retry ++ [{ frame := fr, lane := l, ends := x.2.ends }] }).emit (.frame k l fr) := by
  unfold State.evFrameTransmit
  dsimp only
  rw [if_neg (not_not.2 hc), hl]
  dsimp only
  rw [if_neg (Nat.not_le.2 hm), hr]
  rfl

end

/-- Without progress the oldest frame that waits is replayed, or after eight replays the strand goes down. -/
theorem State.evReplayTimeout_empty (hr : (s.strandAt k).retry = []) : s.evReplayTimeout k = s := by
  unfold State.evReplayTimeout
  dsimp only
  rw [hr]
  exact ite_self _

theorem State.evReplayTimeout_oldest {f : Sent} {rest : List Sent} (hc : (s.strandAt k).carries = true) (hr : (s.strandAt k).retry = f :: rest) :
    s.evReplayTimeout k = if 8 ≤ f.replays then s.strandDown k .dark 2 .probe
      else s.updStrand k fun t => { t with replayFrom := some f.frame.seq, lastLane := f.lane } := by
  have oldest : (f :: rest).find? (fun x => x.frame.seq == f.frame.seq) = some f := List.find?_cons_of_pos (beq_self_eq_true _)
  unfold State.evReplayTimeout
  dsimp only
  rw [if_neg (not_not.2 hc), hr]
  dsimp only
  unfold State.replay
  rw [hr, oldest]

/-! ### Receiving -/

/-- A bad frame, or one on a lane out of service, is counted, and the eighth drops its lane. -/
theorem State.evFrameReceive_bad (hc : (s.strandAt k).carries = true) (hb : b = true ∨ (s.strandAt k).lanes.getLsbD l = false) :
    s.evFrameReceive k l b f =
      (let s1 := s.updStrand k fun t => { t with nak := true, laneBad := Table.put t.laneBad l (Table.at t.laneBad l 0 + 1) }
      if 7 ≤ Table.at (s.strandAt k).laneBad l 0 then s1.dropLane k l 1 else s1) := by
  have counted : (s.updStrand k fun t => { t with nak := true, laneBad := Table.put t.laneBad l (Table.at (s.strandAt k).laneBad l 0 + 1) }) =
      s.updStrand k fun t => { t with nak := true, laneBad := Table.put t.laneBad l (Table.at t.laneBad l 0 + 1) } :=
    congrArg (fun x : Vector Strand 64 => ({ s with mesh := { s.mesh with strand := x } } : State)) (Table.upd_congr s.mesh.strand k {} rfl)
  unfold State.evFrameReceive
  dsimp only
  rw [if_neg (not_not.2 hc), if_pos (hb.imp_right fun h => by simp [h]), counted]
  simp only [Nat.succ_le_succ_iff]

/-- A good one without flags of a lane gives ACK and credits, and its flits where it is next. -/
theorem State.evFrameReceive_good (hk : k < 64) (hc : (s.strandAt k).carries = true) (hl : (s.strandAt k).lanes.getLsbD l = true)
    (hd : f.laneDrop = none) (ha : f.laneAdd = none) (hn : f.nak = none) : s.evFrameReceive k l false f =
      (let got := s.updStrand k fun t => { t with
        laneBad := Table.put t.laneBad l 0, returned := f.credits,
        retry := t.retry.filter (fun x => !seqLe x.frame.seq f.ack), peerCal := f.laneCal }
      if f.seq = (s.strandAt k).rxSeq then
        f.slots.foldl (fun s x => s.flitIn k x) (got.updStrand k fun t => { t with rxSeq := (t.rxSeq + 1) % 65536, nak := false })
      else got) := by
  have flags (u : State) : u.laneFlags k f = u.updStrand k fun t => { t with peerCal := f.laneCal } := by
    unfold State.laneFlags
    rw [hd, ha]
  have carries : ((s.updStrand k fun t => { t with
      laneBad := Table.put t.laneBad l 0, returned := f.credits,
      retry := t.retry.filter (fun x => !seqLe x.frame.seq f.ack), peerCal := f.laneCal }).strandAt k).carries = true := by
    rw [State.strandAt_updStrand_same s hk]
    exact hc
  unfold State.evFrameReceive
  dsimp only
  rw [if_neg (not_not.2 hc), if_neg (by rw [hl]; simp), hn]
  dsimp only
  rw [flags, State.updStrand_updStrand, carries]
  simp only [true_and]

/-- A marker that fails its tests is ignored. -/
theorem State.evMarkerReceive_bad (h : b = true ∨ ts.good = false ∨ ts.lane ≠ l) : s.evMarkerReceive k l b ts = s :=
  if_pos (h.imp_right fun h => h.imp_left fun h => by simp [h])

/-- A good one on a strand that carries frames keeps the peer's epoch, and in T4 it moves a tap. -/
theorem State.evMarkerReceive_good (hg : ts.good = true) (hl : ts.lane = l) : s.evMarkerReceive k l false ts =
    if (s.strandAt k).state = .training ∧ (s.strandAt k).stage = 3 then s.updStrand k fun t => t.txReq ts.txReq
    else if ¬ (s.strandAt k).carries then s
    else s.updStrand k fun t => { t with peerEpoch := ts.linkEpoch } := if_neg (by simp [hg, hl])

/-- A strand that carries frames is not in training. -/
theorem Strand.carries_not_training {t : Strand} (hc : t.carries = true) : t.state ≠ .training := by
  intro h
  simp [Strand.carries, h] at hc

end

theorem effect_frameReceive {s u : State} {k l : Nat} {b : Bool} {f : Frame} (hk : k < 64) (hl : l < 4) (e : s.evFrameReceive k l b f = u) :
    Effect (.frameReceive k l b f) s u := effect_of (if_pos ⟨hk, hl⟩) e
theorem effect_markerReceive {s u : State} {k l : Nat} {b : Bool} {ts : TsBlock} (hk : k < 64) (hl : l < 4)
    (e : s.evMarkerReceive k l b ts = u) : Effect (.markerReceive k l b ts) s u := effect_of (if_pos ⟨hk, hl⟩) e
theorem effect_laneRetest {s u : State} {k l : Nat} {b : Bool} (hk : k < 64) (hl : l < 4) (e : s.evLaneRetest k l b = u) :
    Effect (.laneRetest k l b) s u := effect_of (if_pos ⟨hk, hl⟩) e
theorem effect_laneReadmit {s u : State} {k l : Nat} (hk : k < 64) (hl : l < 4) (e : s.evLaneReadmit k l = u) :
    Effect (.laneReadmit k l) s u := effect_of (if_pos ⟨hk, hl⟩) e

/-- Settles O48: what is sent, what is received, and who sends next. -/
theorem strandsCarryFrames : Obligations.StrandsCarryFrames := by
  intro s k hk t
  have on {t u : State} (h : t = u) : s.onUnit k 64 t = s.finish u := h ▸ State.onUnit_of_lt hk
  refine ⟨fun hc => ?silent, fun hs h3 l ts hl hg he => effect_markerReceive hk hl ((State.evMarkerReceive_good hg he).trans (if_pos ⟨hs, h3⟩)),
    fun hc => ?carrying⟩
  case silent =>
    have no : ¬ t.carries = true := by rw [hc]; exact Bool.false_ne_true
    refine ⟨effect_of (on (State.evFrameTransmit_idle hc)) rfl, effect_of (on (if_pos no)) rfl,
      fun l b f hl => effect_frameReceive hk hl (if_pos no), fun l b ts hl hn => effect_markerReceive hk hl ?_,
      fun l p hl => effect_laneRetest hk hl (if_neg fun x => no x.1), fun l hl => effect_laneReadmit hk hl (if_neg fun x => no x.1)⟩
    by_cases bad : b = true ∨ ts.good = false ∨ ts.lane ≠ l
    · exact State.evMarkerReceive_bad bad
    · obtain ⟨hb, hg, he⟩ := not_or.1 bad |>.imp_right not_or.1
      rw [Bool.eq_false_of_not_eq_true hb]
      refine (State.evMarkerReceive_good (by simpa using hg) (not_not.1 he)).trans ((if_neg ?_).trans (if_pos no))
      exact fun x => hn.elim (· x.1) (· x.2)
  case carrying =>
    have idle : ¬ (t.state = .training ∧ t.stage = 3) := fun x => Strand.carries_not_training hc x.1
    have bad {l : Nat} {b : Bool} {f : Frame} (hl : l < 4) (hb : b = true ∨ t.lanes.getLsbD l = false) {u : State} (h : _ = u) :
        Effect (.frameReceive k l b f) s u := effect_frameReceive hk hl ((State.evFrameReceive_bad hc hb).trans h)
    refine ⟨fun l hl => ⟨fun hm => effect_of (on (State.evFrameTransmit_marker hc hl hm)) rfl,
        fun hm hr hn => effect_of (on ((State.evFrameTransmit_new hc hl hm hr).trans (if_neg (Nat.not_le.2 hn)))) rfl,
        fun hm hr hn => effect_of (on ((State.evFrameTransmit_new hc hl hm hr).trans (if_pos hn))) rfl,
        fun q f hm hr hf => effect_of (on (State.evFrameTransmit_replay hc hl hm hr hf)) rfl⟩,
      fun hl => effect_of (on (State.evFrameTransmit_no_lane hc hl)) rfl,
      fun l f hl hn => bad hl (.inl rfl) ?few, fun l f hl hn => bad hl (.inl rfl) ?many,
      fun l b f hl ho hn => bad hl (.inr ho) ?out, fun l f hl ho hd ha hn => ?good,
      fun l ts hl hg he => effect_markerReceive hk hl ((State.evMarkerReceive_good hg he).trans ((if_neg idle).trans (if_neg (not_not.2 hc)))),
      fun l ts hl hb => effect_markerReceive hk hl (State.evMarkerReceive_bad (.inr hb)),
      fun chl f hs he => ?somebody, fun chl f e h0 he => ?chosen, fun hr => effect_of (on (State.evReplayTimeout_empty hr)) rfl,
      fun f rest hr hn => effect_of (on ((State.evReplayTimeout_oldest hc hr).trans (if_neg (Nat.not_le.2 hn)))) rfl,
      fun f rest hr hn => effect_of (on ((State.evReplayTimeout_oldest hc hr).trans (if_pos hn))) rfl,
      fun l hl hd => ⟨effect_laneRetest hk hl (if_pos ⟨hc, hd⟩), effect_laneRetest hk hl (if_pos ⟨hc, hd⟩)⟩,
      fun l hl hr ho ha hn => effect_laneReadmit hk hl (if_pos ⟨hc, hr, ?lost, ha, ?rested⟩),
      fun l hl hn => effect_laneReadmit hk hl (if_neg ?stays)⟩
    case few => exact if_neg (Nat.not_le.2 hn)
    case many => exact if_pos hn
    case out => exact if_neg (Nat.not_le.2 hn)
    case good =>
      have good := State.evFrameReceive_good hk hc ho hd ha hn
      exact ⟨fun hq => effect_frameReceive hk hl (good.trans (if_neg hq)), fun hq => effect_frameReceive hk hl (good.trans (if_pos hq))⟩
    case somebody =>
      rw [Strand.choose_none he] at hs
      exact Bool.false_ne_true hs
    case chosen =>
      obtain ⟨mem, shares, owed⟩ := Strand.choose_first h0 he
      obtain ⟨cls, src⟩ := Strand.mem_candidates.1 mem
      exact ⟨cls, src, fun ha => (shares ha).imp_right fun h c hc x hx => h (c, x) (Strand.mem_candidates.2 ⟨hc, hx⟩),
        fun ha c hc x hx => owed ha (c, x) (Strand.mem_candidates.2 ⟨hc, hx⟩)⟩
    case lost =>
      rw [show (s.strandAt k).lanes.getLsbD l = false from ho]
      exact Bool.false_ne_true
    case rested => rw [show Table.at (s.strandAt k).readmitAt l none = none from hn]
    case stays =>
      rintro ⟨-, hr, -, ha, -⟩
      exact hn.elim (fun h => absurd (hr.symm.trans h) nofun) fun h => h ha

end Sys2Proof.Machine
end

section
/-! SUPPORT. Requests of other devices (O49). -/
namespace Sys2Proof.Machine

/-- A record's parameters are 16 bytes. -/
theorem param_length (l : List (Nat × Nat)) : (param l).length = 16 := by
  simp only [param, List.length_take, List.length_append, List.length_replicate]
  omega

section
variable {s t : State} {k q : Nat} {p : Packet} {d : Nat}

/-- A request that is not admitted leaves a record, and is answered so. -/
theorem State.refuse_form (s : State) (k q : Nat) (p : Packet) : ∃ (code : Nat) (b : List Byte), 0x3001 ≤ code ∧ code ≤ 0x3004 ∧ b.length = 16 ∧
    s.refuse k q p = (s.log code b).reply k q p .notOwner := by
  refine ⟨_, _, ?_, ?_, param_length _, rfl⟩
  all_goals omega

/-- The commands that bring a request. -/
theorem effect_request (hk : k < 64) {c : Instr}
    (hc : c ∈ ([.read k p, .write k p, .atomic k p, .tally k p, .watch k p, .watchCancel k p] : List Instr))
    (h : s.serveRequest k p = t) : Effect c s t := by
  simp only [List.mem_cons, List.not_mem_nil, or_false] at hc
  rcases hc with rfl | rfl | rfl | rfl | rfl | rfl
  · exact effect_of (State.onUnit_of_lt hk) h
  · exact effect_of (State.onUnit_of_lt hk) h
  · exact effect_of (State.onUnit_of_lt hk) h
  · exact effect_of (State.onUnit_of_lt hk) h
  · exact effect_of (State.onUnit_of_lt hk) h
  · exact effect_of (State.onUnit_of_lt hk) h

/-! ### Which requests are served -/

theorem State.serveRequest_unknown (h : p.ptype = 0 ∨ 6 < p.ptype) : s.serveRequest k p = (s.takePacket k p).reply k 16 p .badOpcode := if_pos h

section
variable (h1 : 1 ≤ p.ptype) (h6 : p.ptype ≤ 6)
include h1 h6

theorem State.serveRequest_malformed (h : p.requestOk = false) : s.serveRequest k p = (s.takePacket k p).reply k 16 p .badArg :=
  (if_neg (by omega)).trans (if_pos (by simp [h]))

variable (ho : p.requestOk = true)
include ho

theorem State.serveRequest_nobody (h : (s.takePacket k p).partOfTag p.tag = none) :
    s.serveRequest k p = (s.takePacket k p).refuse k 16 p := by
  unfold State.serveRequest
  dsimp only
  rw [if_neg (by omega), if_neg (not_not.2 ho), h]

variable (hq : (s.takePacket k p).partOfTag p.tag = some q)
include hq

theorem State.serveRequest_stopped (h : ((s.takePacket k p).partAt q).intakeOff = true) :
    s.serveRequest k p = (s.takePacket k p).reply k q p .aborted := by
  unfold State.serveRequest
  dsimp only
  rw [if_neg (by omega), if_neg (not_not.2 ho), hq]
  exact if_pos h

/-- One of a partition that takes requests is served by its type. -/
theorem State.serveRequest_admitted (h : ((s.takePacket k p).partAt q).intakeOff = false) : s.serveRequest k p =
    if p.ptype ≤ 3 then (s.takePacket k p).serveMem k q p
    else if p.addr < 256 ∨ ¬ (s.takePacket k p).holdsTally q p.addr then (s.takePacket k p).refuse k q p
    else if p.ptype = 4 then (s.takePacket k p).serveTally k q p
    else if p.ptype = 5 then (s.takePacket k p).serveWatch k q p
    else (s.takePacket k p).serveCancel k q p := by
  unfold State.serveRequest
  dsimp only
  rw [if_neg (by omega), if_neg (not_not.2 ho), hq]
  exact if_neg (by simp [h])

end

/-! ### Memory -/

/-- An access to an address that the partition does not admit is refused. -/
theorem State.serveMem_refused (ha : s.admitSectors q (p.ptype != 1) p.addr (if p.ptype = 3 then 1 else p.len / 64) = (none, t)) :
    s.serveMem k q p = t.refuse k q p := by
  unfold State.serveMem
  dsimp only
  rw [ha]

/-- Where nothing is poisoned no sector is. -/
theorem State.no_poison (h : t.mem.poisoned = []) (l : List Nat) : (l.any fun d => t.isPoisoned (d / 64)) = false := by
  simp [State.isPoisoned, h]

/-- READ answers its sectors. -/
theorem State.serveMem_read {ds : List Nat} (h1 : p.ptype = 1) (ha : s.admitSectors q false p.addr (p.len / 64) = (some ds, t))
    (hp : t.mem.poisoned = []) : s.serveMem k q p = t.reply k q p .ok fun a => { a with
      len := p.len, dflits := p.len / 64, hflags := 0, data := ds.flatMap fun d => t.memRead d 64 } := by
  have type : (p.ptype != 1) = false := by rw [h1]; rfl
  unfold State.serveMem
  dsimp only
  rw [type, if_neg (by omega), ha]
  dsimp only
  rw [State.no_poison hp, Bool.and_false, if_neg Bool.false_ne_true, if_pos h1]
  rfl

/-- WRITE of a sector writes the bytes of its mask. -/
theorem State.serveMem_write (h2 : p.ptype = 2) (hl : p.len = 64) (ha : s.admitSectors q true p.addr 1 = (some [d], t)) :
    s.serveMem k q p = (t.memWrite d (maskBytes (t.memRead d 64) (bytesAt p.data 0 64) p.bmask)).reply k q p .ok := by
  have type : (p.ptype != 1) = true := by rw [h2]; rfl
  have mem : (p.ptype != 2) = false := by rw [h2]; rfl
  have one : p.len / 64 = 1 := by rw [hl]
  unfold State.serveMem
  dsimp only
  rw [type, mem, if_neg (by omega), one, ha]
  dsimp only
  rw [Bool.false_and, if_neg Bool.false_ne_true, if_neg (by omega), if_pos h2, if_pos hl]
  rfl

/-- ATOMIC performs its operation, and answers the old value. -/
theorem State.serveMem_atomic {f : AtomKind} (h3 : p.ptype = 3) (ha : s.admitSectors q true p.addr 1 = (some [d], t))
    (hp : t.mem.poisoned = []) (hf : AtomKind.ofCode p.op = some f) : s.serveMem k q p =
      (t.memWrite d (leBytes p.size (f.apply p.size (leNat (t.memRead d p.size)) (p.opnd0 % 2 ^ (8 * p.size)) (p.opnd1 % 2 ^ (8 * p.size))))).reply
        k q p .ok fun a => { a with opnd0 := leNat (t.memRead d p.size) } := by
  have type : (p.ptype != 1) = true := by rw [h3]; rfl
  unfold State.serveMem
  dsimp only
  rw [type, if_pos h3, ha]
  dsimp only
  rw [State.no_poison hp, Bool.and_false, if_neg Bool.false_ne_true, if_neg (by omega), if_neg (by omega), if_neg Bool.false_ne_true, hf]
  rfl

/-! ### Tallies -/

theorem State.serveTally_load (h : p.op = 0) :
    s.serveTally k q p = s.reply k q p .ok fun a => { a with op := 0, opnd0 := s.tallyVal p.addr } := by
  unfold State.serveTally
  dsimp only
  rw [h]
  rfl

theorem State.serveTally_add (h : p.op = 1) : s.serveTally k q p =
    (s.tallyPut p.addr ((s.tallyVal p.addr + p.opnd0 % 2 ^ 32) % 2 ^ 32)).reply k q p .ok fun a => { a with op := 1, opnd0 := 0 } := by
  unfold State.serveTally
  dsimp only
  rw [h]
  rfl

theorem State.serveTally_swap (h : p.op = 2) : s.serveTally k q p =
    (s.tallyPut p.addr ((s.tallyVal p.addr + p.opnd0 % 2 ^ 32) % 2 ^ 32)).reply k q p .ok fun a =>
      { a with op := 2, opnd0 := s.tallyVal p.addr } := by
  unfold State.serveTally
  dsimp only
  rw [h]
  rfl

theorem State.serveTally_set (h : p.op = 3) : s.serveTally k q p =
    (s.tallyPut p.addr (p.opnd0 % 2 ^ 32)).reply k q p .ok fun a => { a with op := 3, opnd0 := 0 } := by
  unfold State.serveTally
  dsimp only
  rw [h]
  rfl

end

/-- Settles O49: a request is refused, or served by its type. -/
theorem meshRequestsAreServed : Obligations.MeshRequestsAreServed := by
  refine ⟨State.refuse_form, fun s k p hk => ?_⟩
  intro w c hc
  refine ⟨fun h => effect_request hk hc (State.serveRequest_unknown h),
    fun h1 h6 h => effect_request hk hc (State.serveRequest_malformed h1 h6 h),
    fun h1 h6 ho h => effect_request hk hc (State.serveRequest_nobody h1 h6 ho h),
    fun q h1 h6 ho hq h => effect_request hk hc (State.serveRequest_stopped h1 h6 ho hq h), fun q ho hq h => ?_⟩
  have admitted {t : State} (h1 : 1 ≤ p.ptype) (h6 : p.ptype ≤ 6) (e : _ = t) : Effect c s t :=
    effect_request hk hc ((State.serveRequest_admitted h1 h6 ho hq h).trans e)
  have memory {t : State} (h1 : 1 ≤ p.ptype) (h3 : p.ptype ≤ 3) (e : w.serveMem k q p = t) : Effect c s t :=
    admitted h1 (by omega) ((if_pos h3).trans e)
  refine ⟨fun t h1 h3 ha => memory h1 h3 (State.serveMem_refused ha),
    fun ds t h1 ha hp => memory (by omega) (by omega) (State.serveMem_read h1 ha hp),
    fun d t h2 hl ha => memory (by omega) (by omega) (State.serveMem_write h2 hl ha),
    fun d t f h3 ha hp hf => memory (by omega) (by omega) (State.serveMem_atomic h3 ha hp hf),
    fun h4 h6 hn => admitted (by omega) h6 ((if_neg (by omega)).trans (if_pos (hn.imp_right fun h => by simpa using h))), fun ha hh => ?_⟩
  intro v x
  have held : ¬ (p.addr < 256 ∨ ¬ w.holdsTally q p.addr = true) := by
    rintro (h | h)
    · omega
    · exact h hh
  have tally {t : State} (h4 : p.ptype = 4) (e : w.serveTally k q p = t) : Effect c s t :=
    admitted (by omega) (by omega) ((if_neg (by omega)).trans ((if_neg held).trans ((if_pos h4).trans e)))
  have watch {t : State} (h5 : p.ptype = 5) (e : w.serveWatch k q p = t) : Effect c s t :=
    admitted (by omega) (by omega) ((if_neg (by omega)).trans ((if_neg held).trans ((if_neg (by omega)).trans ((if_pos h5).trans e))))
  refine ⟨fun h4 ho => tally h4 (State.serveTally_load ho), fun h4 ho => tally h4 (State.serveTally_add ho),
    fun h4 ho => tally h4 (State.serveTally_swap ho), fun h4 ho => tally h4 (State.serveTally_set ho),
    fun h5 hw => watch h5 (if_pos hw), fun h5 hw hn => watch h5 ((if_neg ?_).trans (if_pos hn)),
    fun h5 hw hn => watch h5 ((if_neg ?_).trans (if_neg (Nat.not_le.2 hn))),
    fun h6 => admitted (by omega) (by omega) ((if_neg (by omega)).trans ((if_neg held).trans ((if_neg (by omega)).trans (if_neg (by omega)))))⟩
  · rw [show waitHolds (p.op == 1) (w.tallyVal p.addr) (p.opnd0 % 2 ^ 32) = false from hw]
    exact Bool.false_ne_true
  · rw [show waitHolds (p.op == 1) (w.tallyVal p.addr) (p.opnd0 % 2 ^ 32) = false from hw]
    exact Bool.false_ne_true

end Sys2Proof.Machine
end

section
/-! SUPPORT. Answers of other devices, and requests that wait to be sent (O50). -/
namespace Sys2Proof.Machine

section
variable {s t : State} {k : Nat} {p : Packet} {r : Resv}

/-- The commands that bring an answer. -/
theorem effect_response (hk : k < 64) {c : Instr}
    (hc : c ∈ ([.readRsp k p, .writeAck k p, .atomicRsp k p, .tallyRsp k p, .watchAns k p, .cancelAck k p] : List Instr))
    (h : s.landResponse k p = t) : Effect c s t := by
  simp only [List.mem_cons, List.not_mem_nil, or_false] at hc
  rcases hc with rfl | rfl | rfl | rfl | rfl | rfl
  · exact effect_of (State.onUnit_of_lt hk) h
  · exact effect_of (State.onUnit_of_lt hk) h
  · exact effect_of (State.onUnit_of_lt hk) h
  · exact effect_of (State.onUnit_of_lt hk) h
  · exact effect_of (State.onUnit_of_lt hk) h
  · exact effect_of (State.onUnit_of_lt hk) h

/-- An answer without a reservation is only counted. -/
theorem State.landResponse_late (h : (s.takePacket k p).resvOf p = none) : s.landResponse k p = (s.takePacket k p).lateAnswer p := by
  unfold State.landResponse
  dsimp only
  rw [h]

/-- And so is that of a watch whose cancel is out. -/
theorem State.landResponse_cancelled (h : (s.takePacket k p).resvOf p = some r) (hp : p.ptype = 0x85)
    (hc : ((s.takePacket k p).mesh.resv.any fun x => x.reqId == r.reqId && x.epoch == r.epoch && x.packet.ptype == 6) = true) :
    s.landResponse k p = (s.takePacket k p).lateAnswer p := by
  unfold State.landResponse
  dsimp only
  rw [h]
  exact if_pos ⟨hp, hc⟩

/-- Another lands with the group that waits for it, if one does, and frees its reservation. -/
theorem State.landResponse_waiter {x : Waiter} (h : (s.takePacket k p).resvOf p = some r) (hp : p.ptype ≠ 0x85) (hw : r.waiter = some x) :
    s.landResponse k p =
      (((s.takePacket k p).landAnswer x r.packet p).copyWake x.mould x.quarter x.slot).freeResv r.reqId r.epoch := by
  unfold State.landResponse
  dsimp only
  rw [h]
  dsimp only
  rw [if_neg fun e => hp e.1, hw]

theorem State.landResponse_nobody (h : (s.takePacket k p).resvOf p = some r) (hp : p.ptype ≠ 0x85) (hw : r.waiter = none) :
    s.landResponse k p = (s.takePacket k p).freeResv r.reqId r.epoch := by
  unfold State.landResponse
  dsimp only
  rw [h]
  dsimp only
  rw [if_neg fun e => hp e.1, hw]

/-- The oldest queued request that nothing holds back goes. -/
theorem State.evChlRequestIssue_of {i : Issue} {rest : List Issue} (h : s.mesh.issue = i :: rest) (hg : s.issueGate i ≠ .wait) :
    s.evChlRequestIssue = if s.issueGate i = .go then s.issueGo i else s.issueNoPath i := by
  unfold State.evChlRequestIssue
  rw [h, List.find?_cons_of_pos (p := fun i => s.issueGate i != .wait) (bne_iff_ne.2 hg)]

/-- A request without a path ends at once, off the queue. -/
theorem State.issueNoPath_head {i : Issue} {rest : List Issue} (h : s.mesh.issue = i :: rest) :
    s.issueNoPath i = { s with mesh := { s.mesh with
      issue := rest
      nopath := satInc 32 s.mesh.nopath
      ended := (match i.waiter with
        | some w => s.mesh.ended ++ [(w, i.packet)]
        | none => s.mesh.ended) } } := by
  unfold State.issueNoPath
  rw [h, List.erase_cons_head] <;> rfl

/-- Where every queued request waits none is sent. -/
theorem State.evChlRequestIssue_idle (h : ∀ i ∈ s.mesh.issue, s.issueGate i = .wait) : s.evChlRequestIssue = s := by
  unfold State.evChlRequestIssue
  rw [List.find?_eq_none.2 fun i hi e => bne_iff_ne.1 e (h i hi)]

end

/-- Settles O50: the cases of an answer that arrives, and of the request that is sent. -/
theorem answersLandOnce : Obligations.AnswersLandOnce := by
  refine ⟨fun s k p hk => ?answer, fun s reqId epoch r => ?freed, fun s i rest hi => ⟨fun hg => ?_, fun hg => ?_⟩,
    fun s h => effect_of rfl (State.evChlRequestIssue_idle h)⟩
  case answer =>
    intro w late c hc
    exact ⟨fun h => effect_response hk hc (State.landResponse_late h),
      fun r x h hp hw => effect_response hk hc (State.landResponse_waiter h hp hw),
      fun r h hp hw => effect_response hk hc (State.landResponse_nobody h hp hw),
      fun r h hp hx => effect_response hk hc (State.landResponse_cancelled h hp hx)⟩
  case freed =>
    simp [State.freeResv, List.mem_filter, imp_iff_not_or]
  · exact effect_of rfl ((State.evChlRequestIssue_of hi (by rw [hg]; nofun)).trans (if_pos hg))
  · refine effect_of rfl ((State.evChlRequestIssue_of hi (by rw [hg]; nofun)).trans ((if_neg (by rw [hg]; nofun)).trans ?_))
    exact State.issueNoPath_head hi

end Sys2Proof.Machine
end

section
/-! SUPPORT. Management messages of the mesh (O51). -/
namespace Sys2Proof.Machine

section
variable {s t : State} {k j e : Nat} {p : Packet}

/-- A message of the hardware's own acts as it arrives. -/
theorem State.mgmtRow_of_hardware (h : firmwareMtype p.op = false) : s.mgmtRow k p = (s.takePacket k p).mgmtGo k p :=
  if_neg fun x => absurd (x.2.symm.trans h) nofun

/-- What a message of a known type does is by its type. -/
theorem State.mgmtRow_known {m : Nat} (hm : p.op = m) (hf : firmwareMtype m = false) (h : (s.takePacket k p).mgmtGo k p = t) : s.mgmtRow k p = t :=
  (State.mgmtRow_of_hardware (hm ▸ hf)).trans h

theorem State.mgmtGo_linkmap (h : p.op = 1) : s.mgmtGo k p = s.evLinkmap p := by rw [State.mgmtGo, h]; rfl
theorem State.mgmtGo_depart (h : p.op = 2) : s.mgmtGo k p = s.evDepart k := by rw [State.mgmtGo, h]; rfl
theorem State.mgmtGo_reconReq (h : p.op = 3) : s.mgmtGo k p = s.evReconReq p := by rw [State.mgmtGo, h]; rfl
theorem State.mgmtGo_reconRsp (h : p.op = 4) : s.mgmtGo k p = s.evReconRsp p := by rw [State.mgmtGo, h]; rfl
theorem State.mgmtGo_dack (h : p.op = 5) : s.mgmtGo k p = s.evDack p := by rw [State.mgmtGo, h]; rfl
theorem State.mgmtGo_reject (h : p.op = 0x7F) : s.mgmtGo k p = s.evMgmtReject p := by rw [State.mgmtGo, h]; rfl

/-- A type that is not known is none of those that the device serves. -/
theorem State.mgmtGo_unknown (h : knownMtype p.op = false) : s.mgmtGo k p = s.evMgmtReject p := by
  unfold State.mgmtGo
  split
  iterate 9
    next e =>
      rw [e] at h
      exact absurd h (by decide)
  rfl

end

section
variable {s t : State} {k j e : Nat} {p : Packet}

/-- What changes nothing but the mesh, step by step, changes nothing but the mesh. -/
theorem State.foldl_mesh {α : Type} {f : State → α → State} (h : ∀ s a, ∃ m, f s a = { s with mesh := m }) (l : List α) (s : State) :
    l.foldl f s = { s with mesh := (l.foldl f s).mesh } := by
  have keep : ({ l.foldl f s with mesh := s.mesh } : State) = s :=
    State.foldl_keeps (fun u : State => ({ u with mesh := s.mesh } : State)) (fun u a => by obtain ⟨m, e⟩ := h u a; rw [e]) l s
  have back := congrArg (fun u : State => ({ u with mesh := (l.foldl f s).mesh } : State)) keep
  exact back

/-- LINKMAP is sent to every position of the row. -/
theorem State.evLinkmapSend_form (h : s.upPositions ≠ 0) :
    s.evLinkmapSend.mesh.linkDirty = false ∧ s.evLinkmapSend = { s with mesh := s.evLinkmapSend.mesh } := by
  have sent := State.foldl_mesh (f := fun u d => if d = u.pos then u else u.sendMgmt d 0x01 u.upPositions 0) (fun u d => by
    split
    · exact ⟨u.mesh, rfl⟩
    · exact u.sendMgmt_form d 0x01 u.upPositions 0 []) (List.range s.row.rowSize) s
  have clean := congrArg (fun u : State => ({ u with mesh := { u.mesh with linkDirty := false } } : State)) sent
  rw [State.evLinkmapSend, if_neg h]
  exact ⟨rfl, clean⟩

/-- The strand that a RECON_REQ names at this end, and the epoch that it asks about. -/
def Packet.reconStrand (p : Packet) : Nat := mateOf (p.opnd0 % 256)
def Packet.reconEpoch (p : Packet) : Nat := p.opnd0 / 256 % 65536

/-- A RECON_REQ about an epoch that has ended is answered with what was kept of it, or UNKNOWN. -/
theorem State.evReconReq_ended (he : (s.strandAt p.reconStrand).peerEpoch ≠ p.reconEpoch) {n : Nat}
    (hl : (s.strandAt p.reconStrand).lastEpochSeq = none ∧ n = 65536 ∨ (s.strandAt p.reconStrand).lastEpochSeq = some (p.reconEpoch, n)) :
    s.evReconReq p = s.sendMgmt p.src 0x04 p.opnd0 n := by
  have dead : ((s.strandAt p.reconStrand).peerEpoch == p.reconEpoch && ((s.strandAt p.reconStrand).state == .up ||
    (s.strandAt p.reconStrand).state == .mgmtOnly || (s.strandAt p.reconStrand).state == .safety ||
    (s.strandAt p.reconStrand).state == .paused)) = false := by rw [beq_false_of_ne he, Bool.false_and]
  unfold State.evReconReq
  dsimp only
  rw [← Packet.reconStrand, ← Packet.reconEpoch, dead, if_neg (by simp), if_neg Bool.false_ne_true, if_neg Bool.false_ne_true]
  rcases hl with ⟨hl, rfl⟩ | hl
  · rw [hl]
    rfl
  · rw [hl]
    exact congrArg (fun x : Option Nat => s.sendMgmt p.src 0x04 p.opnd0 (x.getD 65536)) (if_pos rfl)

/-- One about the epoch of a strand that has lost its light is answered with its last frame in order; what is not wholly received goes. -/
theorem State.evReconReq_tripped (he : (s.strandAt p.reconStrand).peerEpoch = p.reconEpoch)
    (hs : (s.strandAt p.reconStrand).state = .safety ∨ (s.strandAt p.reconStrand).state = .paused) :
    s.evReconReq p = (s.updStrand p.reconStrand fun t => { t with
      rxPart := Vector.replicate 5 none
      lastEpochSeq := some (p.reconEpoch, (t.rxSeq + 65535) % 65536)
      trip := t.trip.map fun x => (x.1, false) }).sendMgmt p.src 0x04 p.opnd0 (((s.strandAt p.reconStrand).rxSeq + 65535) % 65536) := by
  have live : ((s.strandAt p.reconStrand).peerEpoch == p.reconEpoch && ((s.strandAt p.reconStrand).state == .up ||
    (s.strandAt p.reconStrand).state == .mgmtOnly || (s.strandAt p.reconStrand).state == .safety ||
    (s.strandAt p.reconStrand).state == .paused)) = true := by rcases hs with h | h <;> simp [he, h]
  have down : ¬ (true = true ∧ ((s.strandAt p.reconStrand).state = .up ∨ (s.strandAt p.reconStrand).state = .mgmtOnly)) := by
    rcases hs with h | h <;> simp [h]
  unfold State.evReconReq
  dsimp only
  rw [← Packet.reconStrand, ← Packet.reconEpoch, live, if_neg down, if_pos rfl, if_pos rfl, Option.getD_some]

/-- A RECON_RSP without a reconciliation here does nothing. -/
theorem State.evReconRsp_none (h : (s.strandAt (p.opnd0 % 256)).recon = none) : s.evReconRsp p = s := by
  unfold State.evReconRsp
  dsimp only
  rw [h]

/-- One of the reconciliation that runs resends what LAST does not cover, or ends it all. -/
theorem State.evReconRsp_some {r : Nat × List Sent × List (Nat × Packet)} (h : (s.strandAt (p.opnd0 % 256)).recon = some r)
    (he : r.1 = p.opnd0 / 256 % 65536) (hp : p.src = s.peerOf (p.opnd0 % 256)) : s.evReconRsp p =
      if p.opnd1 < 65536 then s.reconResend (p.opnd0 % 256) p.opnd1 else s.reconFail (p.opnd0 % 256) := by
  unfold State.evReconRsp
  dsimp only
  rw [h]
  exact if_neg (by rintro (x | x); exacts [x he, x hp])

/-- What a reconciliation resends and ends. -/
theorem State.reconResend_some {r : Nat × List Sent × List (Nat × Packet)} {last : Nat} (h : (s.strandAt j).recon = some r) :
    s.reconResend j last = (let x := (reconPackets (some last) r).foldl (fun (a : (Nat × Nat) × State) y => let z := a.2.resendLost y
      (((a.1.1 + z.1.1, a.1.2 + z.1.2), z.2) : (Nat × Nat) × State)) ((0, 0), s)
    x.2.reconEnd j x.1.1 x.1.2) := by
  unfold State.reconResend
  rw [h]

/-- A type that is not known is rejected, by the strand to its sender. -/
theorem State.evMgmtReject_unknown {rest : List Nat} (hn : knownMtype p.op = false) (hj : s.mgmtTo p.src = j :: rest) :
    s.evMgmtReject p = s.queueOn j 16 { mgmtPacket s.pos p.src 0x7F p.op 0 with status := Status.badOpcode.code } := by
  have other : p.op ≠ 0x7F := by
    intro e
    rw [e] at hn
    exact absurd hn (by decide)
  unfold State.evMgmtReject State.rejectMgmt
  dsimp only
  rw [if_neg other, if_neg (by simp [hn]), hj]

end

/-- Settles O51: each message by its type, and what is sent as it is due. -/
theorem managementMessagesAct : Obligations.ManagementMessagesAct := by
  refine ⟨fun s k p hk => ?message, fun s h => effect_of rfl (if_pos h), fun s h => ?linkmap,
    fun s d h => effect_of rfl (if_pos h), fun s d h => effect_of rfl (if_neg (by simp [h]))⟩
  case message =>
    intro w
    have row {m : Nat} {t : State} (hm : p.op = m) (hf : firmwareMtype m = false) (h : w.mgmtGo k p = t) :
        s.onUnit k 64 (s.mgmtRow k p) = s.finish t := State.mgmtRow_known hm hf h ▸ State.onUnit_of_lt hk
    refine ⟨fun hm hs => effect_of (row hm rfl ((State.mgmtGo_linkmap hm).trans (if_pos hs))) rfl,
      fun hm hs => effect_of (row hm rfl ((State.mgmtGo_depart hm).trans (if_pos hs))) rfl,
      fun hm hs => effect_of (row hm rfl ((State.mgmtGo_depart hm).trans (if_neg ?_))) rfl, fun hm => ?reconReq, fun hm => ?reconRsp,
      fun hm hs => effect_of (row hm rfl ((State.mgmtGo_dack hm).trans (if_pos hs))) rfl,
      fun hm hs => effect_of (row hm rfl ((State.mgmtGo_dack hm).trans (if_neg hs))) rfl,
      fun hm => effect_of (row hm rfl ((State.mgmtGo_reject hm).trans (if_pos hm))) rfl, fun j rest hn hj => ?unknown⟩
    · simp [hs]
    case reconReq =>
      intro j e t
      have row {u : State} (h : w.evReconReq p = u) : Effect (.reconReq k p) s u :=
        effect_of (row hm rfl ((State.mgmtGo_reconReq hm).trans h)) rfl
      exact ⟨fun he hl => row (State.evReconReq_ended he (.inl ⟨hl, rfl⟩)), fun q he hl => row (State.evReconReq_ended he (.inr hl)),
        fun he hs => row (State.evReconReq_tripped he hs)⟩
    case reconRsp =>
      intro j
      have row {u : State} (h : w.evReconRsp p = u) : Effect (.reconRsp k p) s u :=
        effect_of (row hm rfl ((State.mgmtGo_reconRsp hm).trans h)) rfl
      exact ⟨fun h => row (State.evReconRsp_none h), fun r h he hp =>
        ⟨fun hl => row ((State.evReconRsp_some h he hp).trans ((if_pos hl).trans (State.reconResend_some h))),
          fun hl => row ((State.evReconRsp_some h he hp).trans (if_neg (Nat.not_lt.2 hl)))⟩⟩
    case unknown =>
      have hardware : firmwareMtype p.op = false := by
        by_contra h
        simp only [firmwareMtype, Bool.not_eq_false, Bool.or_eq_true, beq_iff_eq] at h
        rcases h with (h | h) | h
        all_goals
          rw [h] at hn
          exact absurd hn (by decide)
      exact effect_of (row rfl hardware ((State.mgmtGo_unknown hn).trans (State.evMgmtReject_unknown hn hj))) rfl
  case linkmap =>
    exact ⟨_, effect_of rfl rfl, State.evLinkmapSend_form h⟩

end Sys2Proof.Machine
end

section
/-! SUPPORT. Messages of the steward (O52). -/
namespace Sys2Proof.Machine

/-! ### Fields laid out in bytes -/

/-- A number laid out in bytes reads back modulo what they hold. -/
theorem leNat_leBytes (n x : Nat) : leNat (leBytes n x) = x % 256 ^ n := by
  induction n generalizing x with
  | zero => simp [leBytes, leNat, Nat.mod_one]
  | succ n ih =>
    rw [leBytes, leNat, ih, BitVec.toNat_ofNat, Nat.pow_succ 256 n, Nat.mul_comm _ 256, Nat.mod_mul]

@[simp] theorem leBytes_length (n x : Nat) : (leBytes n x).length = n := by
  induction n generalizing x with
  | zero => rfl
  | succ n ih => rw [leBytes, List.length_cons, ih]

/-- A field at the front of the bytes reads back. -/
theorem fld_leBytes (c : List Byte) (n x : Nat) : fld (leBytes n x ++ c) 0 n = x % 256 ^ n := by
  have bytes : bytesAt (leBytes n x ++ c) 0 n = leBytes n x := by
    rw [bytesAt, List.drop_zero, List.take_left' (leBytes_length n x), leBytes_length, Nat.sub_self]
    exact List.append_nil _
  rw [fld, bytes, leNat_leBytes]

/-- What stands before a field only moves its offset. -/
theorem fld_append (a c : List Byte) (n : Nat) {off : Nat} (h : a.length ≤ off) : fld (a ++ c) off n = fld c (off - a.length) n := by
  have rest : (a ++ c).drop off = c.drop (off - a.length) := by rw [List.drop_append, List.drop_of_length_le h, List.nil_append]
  rw [fld, fld, bytesAt, bytesAt, rest]

section
variable {s t : State} {k : Nat} {p : Packet}

/-! ### Which message is served -/

/-- Where firmware runs every message acts as it arrives. -/
theorem State.mgmtRow_of_firmware (h : s.fwAbsent = false) : s.mgmtRow k p = (s.takePacket k p).mgmtGo k p :=
  if_neg (by simp [h])

theorem State.mgmtGo_cap (h : p.op = 0x10) : s.mgmtGo k p = s.evCap p := by rw [State.mgmtGo, h]; rfl
theorem State.mgmtGo_stewbeat (h : p.op = 0x11) : s.mgmtGo k p = s.evStewbeat p := by rw [State.mgmtGo, h]; rfl
theorem State.mgmtGo_member (h : p.op = 0x12) : s.mgmtGo k p = s.evMember p := by rw [State.mgmtGo, h]; rfl

section
variable (h : p.op = 0x13)
include h

theorem State.mgmtGo_offer (hc : p.opnd0 % 256 = 1) : s.mgmtGo k p = s.evOffer p := by simp only [State.mgmtGo, h, hc]
theorem State.mgmtGo_ready (hc : p.opnd0 % 256 = 2) : s.mgmtGo k p = s.evReady p := by simp only [State.mgmtGo, h, hc]
theorem State.mgmtGo_refuse (hc : p.opnd0 % 256 = 3) : s.mgmtGo k p = s.evRefuse p := by simp only [State.mgmtGo, h, hc]
theorem State.mgmtGo_done (hc : p.opnd0 % 256 = 4) : s.mgmtGo k p = s.evDone p := by simp only [State.mgmtGo, h, hc]

/-- A code of a handover that is not listed is rejected. -/
theorem State.mgmtGo_unlisted (hc : p.opnd0 % 256 = 5 ∨ p.opnd0 % 256 = 0) (hg : handGood p = true) :
    s.mgmtGo k p = s.rejectMgmt p .badArg := by
  rcases hc with hc | hc
  · simp only [State.mgmtGo, h, hc, hg, if_true]
  · simp only [State.mgmtGo, h, hc, hg, if_true]

end

/-! ### STEWBEAT and MEMBER -/

/-- A STEWBEAT with reserved fields is ignored. -/
theorem State.evStewbeat_reserved (h : p.opnd0 ≠ 0 ∨ p.opnd1 ≠ 0 ∨ restZero p.data 0x3D = false) : s.evStewbeat p = s :=
  if_pos (h.imp_right fun h => h.imp_right fun h => by simp [h])

/-- One whose values are not listed is rejected. -/
theorem State.evStewbeat_unlisted (h0 : p.opnd0 = 0) (h1 : p.opnd1 = 0) (hz : restZero p.data 0x3D = true)
    (h : p.len ≠ 128 ∨ p.dflits ≠ 2 ∨ (readBeat p.data s.now).listed = false) : s.evStewbeat p = s.rejectMgmt p .badArg :=
  (if_neg (by simp [h0, h1, hz])).trans (if_pos (h.imp_right fun h => h.imp_right fun h => by simp [h]))

/-- The device that has seen an epoch. -/
def State.epochSeen (s : State) (e : Nat) : State := { s with stew := { s.stew with maxEpoch := max s.stew.maxEpoch e } }

/-- A STEWBEAT that outranks the primary that is recognised. -/
def State.beatBetter (s : State) (p : Packet) : Bool :=
  match s.stew.primary with
  | none => true
  | some q => s.stew.epoch < (readBeat p.data s.now).epoch || ((readBeat p.data s.now).epoch == s.stew.epoch && p.src ≤ q)

theorem State.beatBetter_of (h : s.stew.primary = none ∨ s.stew.epoch < (readBeat p.data s.now).epoch ∨
    ∃ q, s.stew.primary = some q ∧ (readBeat p.data s.now).epoch = s.stew.epoch ∧ p.src ≤ q) : s.beatBetter p = true := by
  unfold State.beatBetter
  split
  · rfl
  next q hq =>
    rcases h with h | h | ⟨r, hr, he, hp⟩
    · exact absurd (hq.symm.trans h) nofun
    · simp [h]
    · obtain rfl := Option.some.inj (hq.symm.trans hr)
      simp [he, hp]

/-- Of a good one the role of the sender decides. -/
theorem State.evStewbeat_listed (h0 : p.opnd0 = 0) (h1 : p.opnd1 = 0) (hz : restZero p.data 0x3D = true) (hl : p.len = 128) (hd : p.dflits = 2)
    (hb : (readBeat p.data s.now).listed = true) : s.evStewbeat p =
    if (readBeat p.data s.now).role ≠ 1 then s.epochSeen (readBeat p.data s.now).epoch
    else if s.stew.role = Role.primary then
      (if s.outranked p.src (readBeat p.data s.now).epoch ∧ ¬ s.givingUp then (s.epochSeen (readBeat p.data s.now).epoch).giveUp false
      else s.epochSeen (readBeat p.data s.now).epoch)
    else if s.beatBetter p then (s.epochSeen (readBeat p.data s.now).epoch).recognise p.src (readBeat p.data s.now)
    else s.epochSeen (readBeat p.data s.now).epoch :=
  (if_neg (by simp [h0, h1, hz])).trans (if_neg (by simp [hl, hd, hb]))

/-- A MEMBER whose values are not listed is rejected. -/
theorem State.evMember_unlisted (h0 : p.opnd0 = 0) (h1 : p.opnd1 = 0) (hz : restZero p.data 0x10 = true) (hf : fld p.data 2 1 < 8)
    (hs : fld p.data 1 1 < 2 ∨ 4 < fld p.data 1 1) : s.evMember p = s.rejectMgmt p .badArg :=
  (if_neg (by simp [h0, h1, hz, hf])).trans (if_pos (.inr (.inr (.inr (.inr (hs.imp_right .inl))))))

/-- Any other is current from now. -/
theorem State.evMember_current (h0 : p.opnd0 = 0) (h1 : p.opnd1 = 0) (hz : restZero p.data 0x10 = true) (hf : fld p.data 2 1 < 8)
    (hl : p.len = 64) (hd : p.dflits = 1) (hp : fld p.data 0 1 = p.src) (hr : p.src < s.row.rowSize) (hs2 : 2 ≤ fld p.data 1 1)
    (hs4 : fld p.data 1 1 ≤ 4) (hq : posOrNone (fld p.data 3 1) = true) : s.evMember p =
      { s with stew := { s.stew with
        member := Table.put s.stew.member p.src (some
          { state := fld p.data 1 1, elig := bitOf (fld p.data 2 1) 0, cand := bitOf (fld p.data 2 1) 1, capped := bitOf (fld p.data 2 1) 2,
            primary := fld p.data 3 1, compat := fld p.data 4 2, epoch := fld p.data 6 2, upMs := fld p.data 8 4, pkgW := fld p.data 12 2,
            capW := fld p.data 14 2, at_ := s.now })
        maxEpoch := max s.stew.maxEpoch (fld p.data 6 2)
        firstReport := if (s.current p.src).isNone then some s.now else s.stew.firstReport } } :=
  (if_neg (by simp [h0, h1, hz, hf])).trans (if_neg (by simp [hl, hd, hp, hr, Nat.not_lt.2 hs2, hs4, hq]))

/-! ### Handovers -/

/-- An OFFER of the primary is answered READY where this device can take the role, else REFUSE. -/
theorem State.evOffer_ready (hg : handGood p = true) (hp : s.stew.primary = some p.src) (hc : s.selfCand = true) (hr : s.stew.role = .standby)
    (h0 : s.stew.en0 = false) (h1 : s.stew.en1 = false) : s.evOffer p =
      ({ s with stew := { s.stew with seq := .ready } } : State).sendMgmt p.src 0x13 (2 + handEpoch p * 2 ^ 8) 0 := by
  have ok : (s.selfCand && s.stew.role == .standby && !s.stew.en0 && !s.stew.en1) = true := by simp [hc, hr, h0, h1]
  unfold State.evOffer
  dsimp only
  rw [if_pos ⟨hg, hp⟩, ok]
  rfl

theorem State.evOffer_refuse (hg : handGood p = true) (hp : s.stew.primary = some p.src)
    (h : s.selfCand = false ∨ s.stew.en0 = true ∨ s.stew.en1 = true) : s.evOffer p = s.sendMgmt p.src 0x13 (3 + handEpoch p * 2 ^ 8) 0 := by
  have ok : (s.selfCand && s.stew.role == .standby && !s.stew.en0 && !s.stew.en1) = false := by rcases h with h | h | h <;> simp [h]
  unfold State.evOffer
  dsimp only
  rw [if_pos ⟨hg, hp⟩, ok]
  rfl

/-! ### Caps -/

/-- A CAP that is newer than the last one of its epoch. -/
def State.capNewer (s : State) (epoch seq : Nat) : Bool :=
  match s.thm.capSeq with
  | none => true
  | some l => l.1 != epoch || (1 ≤ (seq + 2 ^ 32 - l.2) % 2 ^ 32 && (seq + 2 ^ 32 - l.2) % 2 ^ 32 ≤ 2 ^ 31)

theorem State.capNewer_first {e n : Nat} (h : s.thm.capSeq = none) : s.capNewer e n = true := by rw [State.capNewer, h]

theorem State.capNewer_next {e n l : Nat} (h : s.thm.capSeq = some (e, l)) :
    s.capNewer e n = (1 ≤ (n + 2 ^ 32 - l) % 2 ^ 32 && (n + 2 ^ 32 - l) % 2 ^ 32 ≤ 2 ^ 31) := by
  rw [State.capNewer, h]
  exact (congrArg (· || _) (bne_self_eq_false e)).trans (Bool.false_or _)

/-- A CAP that is well formed is judged by its sender, its epoch and its number. -/
theorem State.evCap_good (hf : s.fwRuns = true) (h0 : p.opnd0 / 2 ^ 48 = 0) (h1 : p.opnd1 = 0) (hd : p.dflits = 2) (hl : p.len = 128) :
    s.evCap p = if s.stew.primary ≠ some p.src ∨ p.opnd0 / 2 ^ 32 % 2 ^ 16 ≠ s.stew.epoch then s.discardCap p.src 1
      else if s.capNewer (p.opnd0 / 2 ^ 32 % 2 ^ 16) (p.opnd0 % 2 ^ 32) then
        s.takeCap p.src (fld p.data (2 * s.pos) 2) (p.opnd0 / 2 ^ 32 % 2 ^ 16) (p.opnd0 % 2 ^ 32)
      else s.discardCap p.src 2 :=
  (if_neg (by simp [hf])).trans (if_neg (by rw [h0]; simp [h1, hd, hl]))

/-! ### The state that a device reports -/

/-- The bytes of the MEMBER that a device sends. -/
def State.memberBytes (s : State) : List Byte :=
  leBytes 1 s.pos ++ leBytes 1 s.dev.state.code ++ leBytes 1 (b2n s.stewElig + 2 * b2n s.selfCand + 4 * b2n s.thm.capped) ++
    leBytes 1 (orFF s.stew.primary) ++ leBytes 2 s.boot.compat ++ leBytes 2 s.stew.epoch ++
    leBytes 4 (s.stew.firstUp.elim 0 fun t => min (2 ^ 32 - 1) (msOfTicks (s.now - t))) ++ leBytes 2 s.thm.pkgMean ++ leBytes 2 s.thm.capW ++
    List.replicate 48 0

theorem State.memberBytes_length : s.memberBytes.length = 64 := by simp [State.memberBytes]

/-- A device in service sends it to every other one. -/
theorem State.evMemberSend_form (hi : s.inService = true) (hf : s.fwRuns = true) :
    s.evMemberSend = s.others.foldl (fun t x => t.sendMgmt x 0x12 0 0 s.memberBytes) s := by
  refine (if_pos ⟨hi, hf⟩).trans ?_
  simp [State.memberBytes]

theorem DevState.code_lt (d : DevState) : d.code < 256 := by cases d <;> decide

end

/-- What a MEMBER says of the device that sends it. -/
theorem State.memberBytes_fields (s : State) : fld s.memberBytes 0 1 = s.pos % 256 ∧ fld s.memberBytes 1 1 = s.dev.state.code ∧
    fld s.memberBytes 4 2 = s.boot.compat % 2 ^ 16 ∧ fld s.memberBytes 6 2 = s.stew.epoch % 2 ^ 16 ∧
    fld s.memberBytes 12 2 = s.thm.pkgMean % 2 ^ 16 ∧ fld s.memberBytes 14 2 = s.thm.capW % 2 ^ 16 := by
  simp [State.memberBytes, List.append_assoc, fld_append, fld_leBytes, Nat.mod_eq_of_lt s.dev.state.code_lt]

/-- Settles O52: a message acts as its fields, its sender and the role of this device say, each branch of its judgement by a lemma of its
own; the bytes of a MEMBER read back field by field. -/
theorem stewardMessagesAct : Obligations.StewardMessagesAct := by
  refine ⟨?_, ?_, ?_⟩
  · intro s k p hk hf hr w hand
    have on {t : State} (h : (w.mgmtGo k p) = t) : s.onUnit k 64 (s.mgmtRow k p) = s.finish t :=
      (State.onUnit_of_lt hk).trans (congrArg s.finish ((State.mgmtRow_of_firmware hf).trans h))
    refine ⟨?_, ?_, ?_, ?_, ?_, ?_, ?_, ?_, ?_, ?_, ?_, ?_⟩
    · intro hop h0 h1 hz hl hd hb b s1
      have beat := (State.mgmtGo_stewbeat (k := k) hop).trans (State.evStewbeat_listed (s := w) h0 h1 hz hl hd hb)
      refine ⟨fun h => effect_of (on (beat.trans (if_pos h))) rfl, fun h hn hb => ?_, fun h hp ho hg => ?_⟩
      · exact effect_of (on (beat.trans ((if_neg (not_not.2 h)).trans ((if_neg hn).trans (if_pos (State.beatBetter_of hb)))))) rfl
      · exact effect_of (on (beat.trans ((if_neg (not_not.2 h)).trans ((if_pos hp).trans (if_pos ⟨ho, by simp [hg]⟩))))) rfl
    · exact fun hop h => effect_of (on ((State.mgmtGo_stewbeat hop).trans (State.evStewbeat_reserved h))) rfl
    · exact fun hop h0 h1 hz h => effect_of (on ((State.mgmtGo_stewbeat hop).trans (State.evStewbeat_unlisted h0 h1 hz h))) rfl
    · exact fun hop h0 h1 hz hf hs => effect_of (on ((State.mgmtGo_member hop).trans (State.evMember_unlisted h0 h1 hz hf hs))) rfl
    · rintro (⟨hop, hc⟩ | ⟨hop, hc⟩) hg
      · exact effect_of (on (State.mgmtGo_unlisted hop (.inl hc) hg)) rfl
      · exact effect_of (on (State.mgmtGo_unlisted hop (.inr hc) hg)) rfl
    · intro hop hl hd hs2 hs4 hq h0 h1 hz hf hp hrow m
      exact effect_of (on ((State.mgmtGo_member hop).trans (State.evMember_current h0 h1 hz hf hl hd hp hrow hs2 hs4 hq))) rfl
    · rintro ⟨hop, hc⟩ hg hp
      have go := State.mgmtGo_offer (s := w) (k := k) hop hc
      exact ⟨fun hs hr h0 h1 => effect_of (on (go.trans (State.evOffer_ready hg hp hs hr h0 h1))) rfl,
        fun h => effect_of (on (go.trans (State.evOffer_refuse hg hp h))) rfl⟩
    · exact fun ⟨hop, hc⟩ hg hs hb => effect_of (on ((State.mgmtGo_ready hop hc).trans (if_pos ⟨hg, hs, hb⟩))) rfl
    · exact fun ⟨hop, hc⟩ hg hs hb => effect_of (on ((State.mgmtGo_refuse hop hc).trans (if_pos ⟨hg, hs, hb⟩))) rfl
    · exact fun ⟨hop, hc⟩ hg hs hb => effect_of (on ((State.mgmtGo_done hop hc).trans (if_pos ⟨hg, hs, hb⟩))) rfl
    · intro hg
      have bad {q : Prop} : ¬ ((handGood p = true) ∧ q) := fun h => absurd (hg.symm.trans h.1) nofun
      exact ⟨fun ⟨hop, hc⟩ => effect_of (on ((State.mgmtGo_offer hop hc).trans (if_neg bad))) rfl,
        fun ⟨hop, hc⟩ => effect_of (on ((State.mgmtGo_ready hop hc).trans (if_neg bad))) rfl,
        fun ⟨hop, hc⟩ => effect_of (on ((State.mgmtGo_refuse hop hc).trans (if_neg bad))) rfl,
        fun ⟨hop, hc⟩ => effect_of (on ((State.mgmtGo_done hop hc).trans (if_neg bad))) rfl⟩
    · intro hop h0 h1 hd hl seq epoch
      have cap (hw : w.fwRuns = true) := (State.mgmtGo_cap (s := w) (k := k) hop).trans (State.evCap_good hw h0 h1 hd hl)
      have judged {t : State} (hw : w.fwRuns = true) (hp : w.stew.primary = some p.src) (he : epoch = w.stew.epoch)
          (h : (if w.capNewer epoch seq then w.takeCap p.src (fld p.data (2 * w.pos) 2) epoch seq else w.discardCap p.src 2) = t) :
          w.mgmtGo k p = t :=
        (cap hw).trans ((if_neg (fun h => h.elim (· hp) (· he))).trans h)
      refine ⟨fun hw h => effect_of (on ((cap hw).trans (if_pos h))) rfl, fun hw hp he hs => ?_, fun l hw hp he hs hlo hhi => ?_, fun hw hp he hs => ?_⟩
      · exact effect_of (on (judged hw hp he (if_pos (State.capNewer_first hs)))) rfl
      · exact effect_of (on (judged hw hp he (if_pos (by rw [State.capNewer_next hs]; simpa using ⟨hlo, hhi⟩)))) rfl
      · exact effect_of (on (judged hw hp he (if_neg (by rw [State.capNewer_next hs]; simp)))) rfl
  · exact fun s => ⟨fun h => effect_of rfl (if_pos h), fun h => effect_of rfl (if_neg h), fun h => effect_of rfl (if_pos h),
      fun h => effect_of rfl (if_neg h), fun h => effect_of rfl (if_neg fun hs => by rcases h with h | h <;> simp [h] at hs)⟩
  · intro s hi hr
    obtain ⟨pos, code, compat, epoch, pkg, cap⟩ := State.memberBytes_fields s
    exact ⟨s.memberBytes, _, effect_of rfl (State.evMemberSend_form hi hr), State.memberBytes_length, pos, code, compat, epoch, pkg, cap, rfl⟩

end Sys2Proof.Machine
end

section
/-! SUPPORT. The steward's role, tooth times and leak ropes (O53). -/
namespace Sys2Proof.Machine

section
variable {s : State}

/-! ### Roles -/

/-- A device may be a candidate by its role, its state and its own withdrawal: the records of the others are not asked. -/
theorem State.selfCand_beat (b : Bool) (code : Nat) : ((({ s with stew := { s.stew with beat := b } } : State).log code []).selfCand) = s.selfCand := by
  obtain ⟨_, _, _, h⟩ := State.log_form ({ s with stew := { s.stew with beat := b } } : State) code [] none true false true
  rw [h]
  rfl

/-- What a fallen BEAT leaves of the steward's own account. -/
theorem State.maxEpoch_beat (b : Bool) (code : Nat) :
    (({ s with stew := { s.stew with beat := b } } : State).log code []).stew.maxEpoch = s.stew.maxEpoch := by
  rw [State.log_stew]

theorem State.evElection_early (h : ∀ r, s.stew.firstReport = some r → s.now < r + 65536) : s.evElection = s :=
  if_neg fun ⟨_, _, _, _, due, _⟩ => by
    obtain ⟨r, hr, late⟩ := (Option.any_eq_true _ _).1 due
    exact absurd (h r hr) (Nat.not_lt.2 (of_decide_eq_true late))

theorem State.evElection_other (h : s.fwRuns = false ∨ s.stew.primary ≠ none ∨ s.selfCand = false ∨ s.lowestCand 64 ≠ some s.pos) :
    s.evElection = s :=
  if_neg fun ⟨hf, hp, hc, hl, _⟩ => h.elim (fun h => absurd (h.symm.trans hf) nofun) fun h => h.elim (· hp) fun h =>
    h.elim (fun h => absurd (h.symm.trans hc) nofun) (· hl)

/-- A standby that has lost its primary: what it does with the role, once the fall of BEAT is recorded. -/
theorem State.evPrimaryLost_gone (hf : s.fwRuns = true) (hr : s.stew.role = .standby) (hg : s.primaryGone = true) (hb : s.stew.beat = false) :
    s.evPrimaryLost = if s.selfCand then s.claim ((s.stew.maxEpoch + 1) % 65536) else s := by
  refine (if_pos ⟨hf, hr, hg⟩).trans ?_
  rw [hb]
  rfl

theorem State.evPrimaryLost_fallen (hf : s.fwRuns = true) (hr : s.stew.role = .standby) (hg : s.primaryGone = true) (hb : s.stew.beat = true) :
    s.evPrimaryLost = if s.selfCand then
      (({ s with stew := { s.stew with beat := false } } : State).log 0x8002 []).claim ((s.stew.maxEpoch + 1) % 65536)
    else ({ s with stew := { s.stew with beat := false } } : State).log 0x8002 [] := by
  refine (if_pos ⟨hf, hr, hg⟩).trans ?_
  dsimp only
  rw [hb, if_pos rfl, State.selfCand_beat, State.maxEpoch_beat]

/-- The primary is gone when neither a pulse nor a STEWBEAT has come for 150 ms, the STEWBEATs having stopped first or with the pulses. -/
theorem State.primaryGone_iff {t : Nat} {b : Snapshot} (ht : s.stew.lastPulse = some t) (hb : s.stew.snapshot = some b) :
    s.primaryGone = true ↔ t + 4915 ≤ s.now ∧ b.at_ + 4915 ≤ s.now ∧ b.at_ ≤ t + 4915 := by
  simp [State.primaryGone, ht, hb]

/-- A pulse of 0.5 to 2.0 ms is seen, and one that a standby had missed is recorded. -/
theorem State.evRowbeatSeen_pulse {us : Nat} (lo : 500 ≤ us) (hi : us ≤ 2000) : s.evRowbeatSeen us =
    if ¬ s.stew.beat ∧ s.stew.role = Role.standby then
      ({ s with stew := { s.stew with beat := true, lastPulse := some s.now } } : State).log 0x8002 [] none false
    else { s with stew := { s.stew with beat := true, lastPulse := some s.now } } := by
  rw [State.evRowbeatSeen, if_pos ⟨lo, hi⟩]

theorem State.evRowbeatSeen_other {us : Nat} (h : us < 500 ∨ 2000 < us) : s.evRowbeatSeen us = s := by
  rw [State.evRowbeatSeen, if_neg fun ⟨lo, hi⟩ => h.elim (Nat.not_lt.2 lo) (Nat.not_lt.2 hi)]

/-! ### The row's budget -/

/-- What the budget says of itself. -/
def Steward.account (w : Steward) : Nat × Nat × Nat := (w.avail, w.sent, w.capSeq)

theorem State.warmBandCap_stew (s : State) : s.warmBandCap.stew = s.stew :=
  State.ite_keeps State.stew (State.ite_keeps State.stew rfl (State.log_stew ..)) rfl

theorem State.takeCap_stew (s : State) (p w e n : Nat) : (s.takeCap p w e n).stew = s.stew := by
  unfold State.takeCap
  dsimp only
  refine State.ite_keeps State.stew rfl (State.ite_keeps State.stew (State.log_stew ..) ?_)
  rw [State.warmBandCap_stew]
  refine State.ite_keeps State.stew (by rw [State.log_stew]; exact State.ite_keeps State.stew (State.log_stew ..) rfl) (State.ite_keeps State.stew (State.log_stew ..) rfl)

theorem State.warnSet_stew (s : State) (c : Nat) : (s.warnSet c).stew = s.stew := by
  obtain ⟨_, _, _, _, h⟩ := State.warnSet_form s c
  rw [h]

/-- Judging the causes leaves the budget's account as it is. -/
theorem State.judgeCauses_account (s : State) : s.judgeCauses.stew.account = s.stew.account := by
  let view (u : State) : Nat × Nat × Nat := u.stew.account
  unfold State.judgeCauses
  dsimp only
  refine (State.ite_keeps view rfl (State.ite_keeps view rfl (State.ite_keeps view ?_ ?_))).trans (State.foldl_keeps view (fun s c => ?_) _ s)
  · exact congrArg Steward.account (State.log_stew ..)
  · exact congrArg Steward.account (State.warnSet_stew ..)
  · exact State.ite_keeps view rfl rfl

/-- The primary's budget is in its account, and its caps are numbered on. -/
theorem State.evBudget_account (hf : s.fwRuns = true) (hr : s.stew.role = .primary) :
    s.evBudget.stew.account = (s.rowHeat.floor.toNat, s.budget.2.1, (s.stew.capSeq + 1) % 2 ^ 32) := by
  rw [show s.evBudget = _ from if_pos ⟨hf, hr⟩, State.judgeCauses_account]
  refine (State.ite_keeps (fun u : State => u.stew.account) (congrArg Steward.account (State.warnSet_stew ..)) rfl).trans ?_
  rw [State.takeCap_stew]
  refine (State.foldl_keeps (fun u : State => u.stew.account) (fun u d => ?_) _ _).trans rfl
  obtain ⟨_, h⟩ := State.sendMgmt_form u d 0x10 _ 0 _
  rw [h]

/-! ### Set-point, pumps and relays -/

/-- A step of the ramp writes the next set-point and goes on until it is the goal. -/
theorem State.evRampStep_to (hf : s.fwRuns = true) (hr : s.stew.role = .primary) (hg : s.stew.ramping = true) {x : Rat}
    (h : (if (s.row.supplyDef : Rat) / 100 < lwRat (s.slotAt 8).setpoint - min ((s.stepMax : Rat) / 1000) ((s.row.supplySlew : Rat) / 60000) then
        lwRat (s.slotAt 8).setpoint - min ((s.stepMax : Rat) / 1000) ((s.row.supplySlew : Rat) / 60000)
      else if lwRat (s.slotAt 8).setpoint + min ((s.stepMax : Rat) / 1000) ((s.row.supplySlew : Rat) / 60000) < (s.row.supplyDef : Rat) / 100 then
        lwRat (s.slotAt 8).setpoint + min ((s.stepMax : Rat) / 1000) ((s.row.supplySlew : Rat) / 60000)
      else (s.row.supplyDef : Rat) / 100) = x) :
    s.evRampStep = { (s.writeSetpoint 8 (ratLw x)).2 with stew := { (s.writeSetpoint 8 (ratLw x)).2.stew with
      ramping := x != (s.row.supplyDef : Rat) / 100 } } := by
  subst h
  exact if_pos ⟨hf, hr, hg⟩

/-- The first pump that stalls swaps the flow's bank and stops its own loop. -/
theorem State.evPumpStall_first {n : Nat} (hf : s.fwRuns = true) (hr : s.stew.role = .primary) (hz : s.stew.stalled = 0) :
    s.evPumpStall n = ((({ s.swapFlow with stew := { s.swapFlow.stew with
      stalled := BitVec.ofNat 2 (2 ^ n), cause := s.swapFlow.stew.cause ||| 4#8 } } : State).slotDisable (9 + n)).log
        0x8004 (param [(1, n)])).warnSet 10 := by
  refine (if_pos ⟨hf, hr, by simp [hz]⟩).trans ?_
  dsimp only
  rw [if_pos hz, show s.swapFlow.stew.stalled = 0#2 from hz, BitVec.zero_or]

theorem State.evPumpRestore_first (hf : s.fwRuns = true) (hr : s.stew.role = .primary) (h1 : s.stew.stalled = 1) :
    s.evPumpRestore = ((((({ s with stew := { s.stew with stalled := 0 } } : State).swapFlow).slotEnable 9).slotEnable 10).log 0x8004
      (param [(1, 0)]) none false) := by
  refine (if_pos ⟨hf, hr, by rw [h1]; decide⟩).trans ?_
  dsimp only
  rw [h1]
  rfl

/-! ### Tooth times -/

section
variable {t : Nat}

theorem State.trkAt_updTrk_same (s : State) (h : t < 2) (f : Tracker → Tracker) : (s.updTrk t f).trkAt t = f (s.trkAt t) :=
  Table.at_upd_same _ h _ _

/-- What the events of a tooth leave of their tracker. -/
def Tracker.time (x : Tracker) : Tracker := { x with events := [], extrap := 0 }

theorem State.fireEvent_stew (e : TrkEvent) (flag : String) : (s.fireEvent e flag).stew = s.stew :=
  State.ite_keeps State.stew rfl rfl

/-- Events that fire mark themselves alone. -/
theorem State.fireTrk_time (ht : t < 2) (s : State) (e at_ : Nat) (ext : Bool) : ((s.fireTrk t e at_ ext).trkAt t).time = (s.trkAt t).time := by
  unfold State.fireTrk
  split
  next ev _ =>
    rw [State.trkAt, State.fireEvent_stew, ← State.trkAt, State.trkAt_updTrk_same s ht]
    rfl
  · rfl

theorem State.catchUp_time (ht : t < 2) (s : State) (at_ : Nat) (ext : Bool) : ((s.catchUp t at_ ext).trkAt t).time = (s.trkAt t).time := by
  refine State.ite_keeps (fun u : State => (u.trkAt t).time) (State.foldl_keeps (fun u : State => (u.trkAt t).time) (fun u e => ?_) _ s) rfl
  split
  · exact State.ite_keeps (fun u : State => (u.trkAt t).time) (State.fireTrk_time ht u _ _ _) rfl
  · rfl

/-- A tooth with no event left to it fires none. -/
theorem State.catchUp_none (h : ∀ ev ∈ (s.trkAt t).events, ev.fired = true ∨ ((s.trkAt t).tooth + 1) * 65536 < ev.angle * (s.trkAt t).tpr)
    (at_ : Nat) (ext : Bool) : s.catchUp t at_ ext = s := by
  unfold State.catchUp
  dsimp only
  split
  · refine foldl_of_fixed fun e _ => ?_
    split
    next ev he => exact if_neg fun ⟨hf, ha⟩ => (h ev (List.mem_of_getElem? he)).elim hf fun late => absurd ha (Nat.not_le.2 late)
    · rfl
  · rfl

theorem State.evTooth_first (h : (s.trkAt t).tLast = none) (at_ : Nat) : s.evTooth t at_ = s.updTrk t fun x => x.count at_ := by
  unfold State.evTooth
  dsimp only
  rw [h]

/-- A tooth in sync is noise or gives a sample. -/
theorem State.evTooth_sync {l : Nat} (hs : (s.trkAt t).sync = true) (h : (s.trkAt t).tLast = some l) (at_ : Nat) : s.evTooth t at_ =
    if 10 * (at_ - l) < 6 * (s.trkAt t).p then s.updTrk t fun x => { x with noise := satInc 8 x.noise }
    else ((s.catchUp t at_ false).updTrk t fun x => { x.count at_ with
      p := if x.missedRow = 0 then at_ - l else x.p, missedRow := 0 }).speedSample t (at_ - l) := by
  unfold State.evTooth
  dsimp only
  rw [h]
  dsimp only
  rw [if_pos hs]

/-- Of a tracker out of sync the third regular tooth gains it. -/
theorem State.evTooth_gain {l i : Nat} (hs : (s.trkAt t).sync = false) (h : (s.trkAt t).tLast = some l) (hi : (s.trkAt t).lastInterval = some i)
    {at_ : Nat} (lo : 6 * i ≤ 10 * (at_ - l)) (hi' : 10 * (at_ - l) ≤ 16 * i) {u : State}
    (hu : (s.updTrk t fun x => { x.count at_ with p := at_ - l, sync := true, timebase := false, missedRow := 0, lastInterval := none }) = u) :
    s.evTooth t at_ = (({ u with fil := { u.fil with trkTb := u.fil.trkTb &&& ~~~ BitVec.ofNat 2 (2 ^ t) } } : State).speedSample t
      (at_ - l)).log 0x8005 (param [(1, t)]) none false true := by
  subst hu
  unfold State.evTooth
  dsimp only
  rw [h]
  dsimp only
  rw [if_neg (by simp [hs]), hi]
  exact if_pos ⟨lo, hi'⟩

/-- The second missed tooth in a row drops sync, and the first missed one is counted with it. -/
theorem State.evToothMissed_drop (ht : t < 2) (hs : (s.trkAt t).sync = true) (h : (s.trkAt t).missedRow ≠ 0) :
    ((s.evToothMissed t).trkAt t).sync = false ∧ ((s.evToothMissed t).trkAt t).timebase = true ∧
      ((s.evToothMissed t).trkAt t).missed = satInc 8 (s.trkAt t).missed ∧ (s.evToothMissed t).fil.trkTb.getLsbD t = true := by
  have run : s.evToothMissed t = _ := (if_pos hs).trans (if_neg h)
  have missed := congrArg Tracker.missed (State.catchUp_time ht s ((s.trkAt t).tLast.getD 0 + (s.trkAt t).p) true)
  have bit (b : BitVec 2) : (b ||| BitVec.ofNat 2 (2 ^ t)).getLsbD t = true := by
    rcases Nat.lt_succ_iff_lt_or_eq.1 ht with h | rfl
    · obtain rfl := Nat.lt_one_iff.1 h
      simp
    · simp
  rw [run, State.trkAt, State.log_stew, State.log_fil]
  have own (v : State) (f g : Tracker → Tracker) : ((v.updTrk t g).updTrk t f).trkAt t = f (g (v.trkAt t)) := by
    rw [State.trkAt_updTrk_same _ ht, State.trkAt_updTrk_same _ ht]
  exact ⟨congrArg Tracker.sync (own _ _ _), congrArg Tracker.timebase (own _ _ _),
    (congrArg Tracker.missed (own _ _ _)).trans (congrArg (satInc 8) missed), bit _⟩

/-! ### Events of a tracker -/

variable {e at_ : Nat} {ev : TrkEvent}

theorem State.evTracker_at (he : (s.trkAt t).events[e]? = some ev) : s.evTracker t e at_ =
    if (s.trkAt t).sync ∧ ¬ ev.fired ∧ (s.trkAt t).reached ev at_ then
      s.fireTrk t e at_ ((s.trkAt t).missedRow != 0 || decide ((s.trkAt t).tLast.getD 0 + (s.trkAt t).p < at_))
    else s := by
  unfold State.evTracker
  dsimp only
  rw [he]

theorem State.fireTrk_at (he : (s.trkAt t).events[e]? = some ev) (ext : Bool) : s.fireTrk t e at_ ext =
    (s.updTrk t fun x => { x with
      events := x.events.set e { ev with fired := true, at_ := some at_ }, extrap := if ext then satInc 8 x.extrap else x.extrap }).fireEvent ev
      (if ext then " EXTRAPOLATED" else "") := by
  unfold State.fireTrk
  rw [he]

theorem State.evTimebase_at (he : (s.trkAt t).events[e]? = some ev) : s.evTimebase t e at_ =
    if ¬ (s.trkAt t).sync ∧ (s.trkAt t).timebase ∧
        ev.at_.all fun l => decide (l + (if ev.tbPeriod = 0 then (s.trkAt t).tpr * (s.trkAt t).p else ev.tbPeriod * 1000) ≤ at_) then
      (s.updTrk t fun x => { x with events := x.events.set e { ev with at_ := some at_ } }).fireEvent ev " TIMEBASE"
    else s := by
  unfold State.evTimebase
  dsimp only
  rw [he]

theorem Tracker.reached_iff {x : Tracker} {l : Nat} (h : x.tLast = some l) : x.reached ev at_ = true ↔
    l ≤ at_ ∧ ev.angle * x.tpr * x.p ≤ (x.tooth * x.p + (at_ - l)) * 65536 := by
  simp [Tracker.reached, h]

end

/-! ### Leak ropes -/

section
variable {n : Nat}

theorem State.evLeakTimer_dry (hf : s.fwRuns = true) (hr : s.stew.role = .primary) (hs : (s.ropeAt n).stage ≠ 0) (hc : (s.ropeAt n).cond = 0)
    (hd : (s.ropeAt n).condAt + (if (s.ropeAt n).stage = 3 then 600 else 60) * 32768 ≤ s.now) :
    s.evLeakTimer n = (if (s.ropeAt n).isolated then s.isolate n false else s).ropeTo n 0 0 :=
  (if_pos ⟨hf, hr, hs⟩).trans (if_pos ⟨hc, by simpa using hd⟩)

/-- What a rope that is not dry for its time does is by its stage. -/
theorem State.evLeakTimer_wet (hf : s.fwRuns = true) (hr : s.stew.role = .primary) (hs : (s.ropeAt n).stage ≠ 0)
    (h : ¬ ((s.ropeAt n).cond = 0 ∧ (s.ropeAt n).condAt + (if (s.ropeAt n).stage = 3 then 600 else 60) * 32768 ≤ s.now)) : s.evLeakTimer n =
    if (s.ropeAt n).stage = 1 ∧ (s.ropeAt n).cond = 1 ∧ (s.ropeAt n).condAt + 30 * 32768 ≤ s.now then s.ropeTo n 2 1
    else if (s.ropeAt n).stage = 2 ∧ (s.ropeAt n).stageAt + 60 * 32768 ≤ s.now ∧ Table.at s.row.ropeIsolate n false then
      (s.ropeTo n 3 (s.ropeAt n).cond).isolate n true
    else s := by
  refine (if_pos ⟨hf, hr, hs⟩).trans ((if_neg (by simpa using h)).trans ?_)
  simp only [decide_eq_true_eq]

theorem State.ropeAt_updRope_same (s : State) (h : n < 4) (f : Rope → Rope) : (s.updRope n f).ropeAt n = f (s.ropeAt n) :=
  Table.at_upd_same _ h _ _

theorem State.ropeAt_updRope_other {m : Nat} (s : State) (h : n ≠ m) (f : Rope → Rope) : (s.updRope n f).ropeAt m = s.ropeAt m :=
  Table.at_upd_other _ h _ _

/-- A rope's bit of LEAK follows its stage. -/
theorem leakBit (hn : n < 4) (b : BitVec 4) (stage : Nat) : (if stage = 0 then b &&& ~~~ BitVec.ofNat 4 (2 ^ n) else b ||| BitVec.ofNat 4 (2 ^ n)).getLsbD n =
    decide (stage ≠ 0) := by
  have own : (BitVec.ofNat 4 (2 ^ n)).getLsbD n = true := by rw [BitVec.getLsbD_ofNat, Nat.testBit_two_pow_self, decide_eq_true hn]; rfl
  split
  next h => rw [BitVec.getLsbD_and, BitVec.getLsbD_not, own, decide_eq_true hn, decide_eq_false (not_not.2 h)]; exact Bool.and_false _
  next h => rw [BitVec.getLsbD_or, own, decide_eq_true h]; exact Bool.or_true _

/-- A rope that changes takes its stage, its condition and its bit, and no other rope changes. -/
theorem State.ropeTo_takes (hn : n < 4) {stage cond : Nat} (h : (s.ropeAt n).stage ≠ stage ∨ (s.ropeAt n).cond ≠ cond) :
    ((s.ropeTo n stage cond).ropeAt n).stage = stage ∧ ((s.ropeTo n stage cond).ropeAt n).cond = cond ∧
      (s.ropeTo n stage cond).fil.leak.getLsbD n = decide (stage ≠ 0) ∧ ∀ m, m ≠ n → (s.ropeTo n stage cond).ropeAt m = s.ropeAt m := by
  have run : s.ropeTo n stage cond = _ := if_neg fun e => h.elim (· e.1) (· e.2)
  rw [run, State.ropeAt, State.log_stew, State.log_fil]
  refine ⟨congrArg Rope.stage (State.ropeAt_updRope_same s hn _), congrArg Rope.cond (State.ropeAt_updRope_same s hn _), leakBit hn _ _, fun m hm => ?_⟩
  rw [State.ropeAt, State.log_stew]
  exact State.ropeAt_updRope_other s (Ne.symm hm) _

end

end

/-- Settles O53: each event of the steward, of a tracker and of a rope acts by the branch that its condition leads to; what the events of a
tooth leave of their tracker and what the budget says of itself are lemmas of their own. -/
theorem stewardRowsAct : Obligations.StewardRowsAct := by
  refine ⟨?_, ?_, ?_, fun s n stage cond hn h => State.ropeTo_takes hn h⟩
  · intro s next
    have noPrimary {q : Prop} (h : s.fwRuns = false ∨ s.stew.role ≠ .primary) : ¬ (s.fwRuns = true ∧ s.stew.role = .primary ∧ q) :=
      fun ⟨hf, hr, _⟩ => h.elim (fun h => absurd (h.symm.trans hf) nofun) (· hr)
    refine ⟨?_, ?_, ?_, ?_, ?_, ?_, ?_, ?_, ?_, ?_, ?_, ?_, ?_, ?_, ?_, ?_, ?_, ?_, ?_, ?_, ?_, ?_, ?_, ?_, ?_, ?_, ?_⟩
    · intro r hf hp hc hr hdue hb hl
      exact effect_of rfl (if_pos ⟨hf, hp, hc, hl, by simp [hr, hdue], (Option.all_eq_true _ _).2 fun b h => decide_eq_true (hb b h)⟩)
    · exact fun h => effect_of rfl (State.evElection_early h)
    · exact fun h => effect_of rfl (State.evElection_other h)
    · exact fun hf hr hg hb hc => effect_of rfl ((State.evPrimaryLost_gone hf hr hg hb).trans (if_pos hc))
    · exact fun hf hr hg hb => ⟨fun hc => effect_of rfl ((State.evPrimaryLost_fallen hf hr hg hb).trans (if_pos hc)),
        fun hc => effect_of rfl ((State.evPrimaryLost_fallen hf hr hg hb).trans (if_neg (by simp [hc])))⟩
    · intro hf hr hb hc
      by_cases hg : s.primaryGone = true
      · exact effect_of rfl ((State.evPrimaryLost_gone hf hr hg hb).trans (if_neg (by simp [hc])))
      · exact effect_of rfl (if_neg fun h => hg h.2.2)
    · exact fun h => effect_of rfl (if_neg fun ⟨_, hr, hg⟩ => h.elim (· hr) fun h => absurd (h.symm.trans hg) nofun)
    · exact fun t b ht hb => State.primaryGone_iff ht hb
    · exact fun b hb h => effect_of rfl (if_pos (.inr (.inr (by simp [hb, h]))))
    · intro hb hr hp
      have stale : ¬ (s.stew.snapshot.any fun b => decide (s.now < b.at_ + 32768)) = true := fun h => by
        obtain ⟨b, e, fresh⟩ := (Option.any_eq_true _ _).1 h
        exact absurd (of_decide_eq_true fresh) (Nat.not_lt.2 (hb b e))
      exact effect_of rfl (if_neg fun h => h.elim hr fun h => h.elim hp stale)
    · exact fun h => effect_of rfl (if_pos (h.imp_right .inl))
    · exact fun hf hr => effect_of rfl (if_pos ⟨hf, hr⟩)
    · intro h
      have noPrimary' : ¬ (s.fwRuns = true ∧ s.stew.role = .primary) := fun h' => noPrimary h ⟨h'.1, h'.2, trivial⟩
      exact ⟨effect_of rfl (if_neg noPrimary'), effect_of rfl (if_neg noPrimary'), effect_of rfl (if_neg (noPrimary h)),
        effect_of rfl (if_neg (noPrimary h)), fun n hn => effect_of (State.onUnit_of_lt hn) (if_neg (noPrimary h))⟩
    · exact fun hr hk hg => effect_of rfl (if_pos ⟨hr, by simpa using hk, by simp [hg]⟩)
    · exact fun hr => effect_of rfl (if_neg fun h => hr h.1)
    · exact fun pl h => effect_of rfl (by simp only [State.evRelayStep, h])
    · exact fun pl h => effect_of rfl (by simp only [State.evRelayStep, h])
    · exact fun h => effect_of rfl (by simp only [State.evRelayStep, h])
    · exact fun h => effect_of rfl (by simp only [State.evRelayStep, h, List.foldl_cons, List.foldl_nil])
    · exact fun h => effect_of rfl (by simp only [State.evRelayStep, h])
    · exact effect_of rfl rfl
    · exact fun h => effect_of rfl (if_pos h)
    · exact fun h => effect_of rfl (if_neg (by simp [h]))
    · exact fun us lo hi h => effect_of rfl ((State.evRowbeatSeen_pulse lo hi).trans (if_neg fun ⟨hb, hr⟩ => h.elim hb (· hr)))
    · exact fun us lo hi hb hr => effect_of rfl ((State.evRowbeatSeen_pulse lo hi).trans (if_pos ⟨by simp [hb], hr⟩))
    · exact fun us h => effect_of rfl (State.evRowbeatSeen_other h)
    · intro hf hr
      refine ⟨fun h => effect_of rfl (if_neg fun e => Bool.false_ne_true (h.symm.trans e.2.2)), fun hg => ?_, fun hz => ⟨?_, fun n hn => ?_⟩,
        fun h1 => effect_of rfl (State.evPumpRestore_first hf hr h1), ?_⟩
      · intro now goal step go
        refine ⟨fun h => ?_, fun h h' => ?_, fun h h' => ?_⟩
        · exact effect_of rfl (State.evRampStep_to hf hr hg (if_pos h))
        · exact effect_of rfl (State.evRampStep_to hf hr hg ((if_neg h').trans (if_pos h)))
        · refine effect_of rfl ((State.evRampStep_to hf hr hg ((if_neg h).trans (if_neg h'))).trans ?_)
          rw [bne_self_eq_false]
      · exact effect_of rfl (if_neg fun e => e.2.2 hz)
      · exact effect_of (State.onUnit_of_lt hn) (State.evPumpStall_first hf hr hz)
      · have told := State.evBudget_account hf hr
        exact ⟨s.evBudget, effect_of rfl rfl, congrArg Prod.fst told, congrArg (·.2.1) told, congrArg (·.2.2) told⟩
  · intro s t ht x
    have on {u v : State} (h : u = v) : s.onUnit t 2 u = s.finish v := h ▸ State.onUnit_of_lt ht
    refine ⟨fun l at_ hs hl => ⟨fun h => ?_, fun h => ?_⟩, fun at_ h => ?_, fun l i1 at_ hs hl hi lo hi' => ?_, fun hs => ?_, fun hs hm => ?_,
      fun at_ ext h => State.catchUp_none h at_ ext, fun hs hm => ?_, fun e ev at_ he => ?_⟩
    · exact effect_of (on ((State.evTooth_sync hs hl at_).trans (if_pos h))) rfl
    · exact effect_of (on ((State.evTooth_sync hs hl at_).trans (if_neg (Nat.not_lt.2 h)))) rfl
    · exact effect_of (on (State.evTooth_first h at_)) rfl
    · exact effect_of (on (State.evTooth_gain hs hl hi lo hi' rfl)) rfl
    · exact effect_of (on (if_neg (by rw [hs]; nofun))) rfl
    · exact effect_of (on ((if_pos hs).trans (if_pos hm))) rfl
    · exact ⟨_, effect_of (on rfl) rfl, State.evToothMissed_drop ht hs hm⟩
    · intro ext fired
      refine ⟨fun l hl => Tracker.reached_iff hl, fun hs hf hr => ?_, fun h => ?_, fun hs hb hd => ?_, fun h => ?_⟩
      · exact effect_of (on ((State.evTracker_at he).trans ((if_pos ⟨hs, by simp [hf], hr⟩).trans (State.fireTrk_at he _)))) rfl
      · refine effect_of (on ((State.evTracker_at he).trans (if_neg fun ⟨hs, hf, hr⟩ => ?_))) rfl
        exact h.elim (fun h => absurd (h.symm.trans hs) nofun) fun h => h.elim hf fun h => absurd (h.symm.trans hr) nofun
      · exact effect_of (on ((State.evTimebase_at he).trans (if_pos ⟨by rw [hs]; nofun, hb, (Option.all_eq_true _ _).2 fun l h => decide_eq_true (hd l h)⟩))) rfl
      · refine effect_of (on ((State.evTimebase_at he).trans (if_neg fun ⟨hs, hb, hd⟩ => ?_))) rfl
        obtain h | h | ⟨l, hl, late⟩ := h
        · exact hs h
        · exact absurd (h.symm.trans hb) nofun
        · rw [hl] at hd
          exact absurd late (Nat.not_lt.2 (of_decide_eq_true hd))
  · intro s n hn
    dsimp only
    have on {u v : State} (h : u = v) : s.onUnit n 4 u = s.finish v := h ▸ State.onUnit_of_lt hn
    refine ⟨fun hf hr => ⟨⟨fun hs hc hd hi => ?_, fun hs hc hd => ?_, fun hs hc hd hi => ?_⟩, fun hs hc h => ?_, fun hs hc h => ?_,
      fun hs hc h hv => ?_, fun hs hc hv => ?_, fun hs => ?_, fun hc => ⟨?_, ?_⟩, fun hc a => ?_⟩, fun h => ⟨?_, fun a => ?_⟩⟩
    · exact effect_of (on ((State.evLeakTimer_dry hf hr hs hc hd).trans (by rw [if_neg (by rw [hi]; nofun)]))) rfl
    · refine effect_of (on ((State.evLeakTimer_wet hf hr (by omega) (fun e => hd e.2)).trans ?_)) rfl
      rw [if_neg (by omega), if_neg (by omega)]
    · exact effect_of (on ((State.evLeakTimer_dry hf hr hs hc hd).trans (by rw [if_pos hi]))) rfl
    · refine effect_of (on ((State.evLeakTimer_wet hf hr (by omega) (by omega)).trans ?_)) rfl
      rw [if_neg (by omega), if_neg (by omega)]
    · exact effect_of (on ((State.evLeakTimer_wet hf hr (by omega) (by omega)).trans (if_pos ⟨hs, hc, h⟩))) rfl
    · exact effect_of (on ((State.evLeakTimer_wet hf hr (by omega) (by omega)).trans ((if_neg (by omega)).trans (if_pos ⟨hs, h, hv⟩)))) rfl
    · refine effect_of (on ((State.evLeakTimer_wet hf hr (by omega) (by omega)).trans ((if_neg (by omega)).trans (if_neg ?_)))) rfl
      exact fun e => absurd (hv.symm.trans e.2.2) nofun
    · exact effect_of (on (if_neg fun e => e.2.2 hs)) rfl
    · exact effect_of (on (if_pos ⟨hf, hr, hc⟩)) rfl
    · exact effect_of (on (if_pos ⟨hf, hr, hc⟩)) rfl
    · exact effect_of (on (if_neg fun e => e.2.2 hc)) rfl
    · exact effect_of (on (if_neg fun e => h.elim (fun h => Bool.false_ne_true (h.symm.trans e.1)) (· e.2.1))) rfl
    · exact effect_of (on (if_neg fun e => h.elim (fun h => Bool.false_ne_true (h.symm.trans e.1)) (· e.2.1))) rfl

end Sys2Proof.Machine
end

section
/-! SUPPORT. Rings and lasers (O54). -/
namespace Sys2Proof.Machine

/-! ### The resonance that a sweep picks -/

/-- How far a resonance lies from the middle of the range, in half codes. -/
def Resonance.off (r : Resonance) : Nat := (2 * (r.code : Int) - 4095).natAbs

/-- Of the resonance picked so far and the next one, the nearer to the middle, the earlier one where they are as near. -/
def Resonance.nearer (b : Option Resonance) (r : Resonance) : Option Resonance :=
  match b with
  | some x => if r.off < x.off then some r else some x
  | none => some r

theorem sweepPick_nearer (l : List Resonance) :
    sweepPick l = ((l.filter fun r => leastDepth ≤ r.depth && r.code ≤ 4095).foldl Resonance.nearer none).map fun r => (r.code, r.slope) := rfl

/-- What stands of a sweep in progress is one of those met, none nearer than it. -/
theorem Resonance.nearer_foldl (l : List Resonance) (x : Resonance) : ∃ y, l.foldl Resonance.nearer (some x) = some y ∧ (y = x ∨ y ∈ l) ∧
    y.off ≤ x.off ∧ ∀ g ∈ l, y.off ≤ g.off := by
  induction l generalizing x with
  | nil => exact ⟨x, rfl, .inl rfl, Nat.le_refl _, nofun⟩
  | cons r l ih =>
    by_cases hr : r.off < x.off
    · obtain ⟨y, hy, from_, hx, all⟩ := ih r
      refine ⟨y, ?_, .inr (from_.elim (fun e => e ▸ List.mem_cons_self) (List.mem_cons_of_mem _)), hx.trans hr.le, fun g hg => ?_⟩
      · rw [List.foldl_cons, Resonance.nearer, if_pos hr]
        exact hy
      · exact (List.mem_cons.1 hg).elim (fun e => e ▸ hx) (all g)
    · obtain ⟨y, hy, from_, hx, all⟩ := ih x
      refine ⟨y, ?_, from_.imp_right (List.mem_cons_of_mem _), hx, fun g hg => ?_⟩
      · rw [List.foldl_cons, Resonance.nearer, if_neg hr]
        exact hy
      · exact (List.mem_cons.1 hg).elim (fun e => e ▸ hx.trans (Nat.not_lt.1 hr)) (all g)

/-- A resonance that a sweep may lock at. -/
theorem mem_lockable {l : List Resonance} {f : Resonance} :
    (f ∈ l.filter fun r => leastDepth ≤ r.depth && r.code ≤ 4095) ↔ f ∈ l ∧ 60 ≤ f.depth ∧ f.code ≤ 4095 := by
  rw [List.mem_filter, Bool.and_eq_true, decide_eq_true_eq, decide_eq_true_eq]
  rfl

theorem sweepPick_none {l : List Resonance} (h : ∀ f ∈ l, f.depth < 60 ∨ 4095 < f.code) : sweepPick l = none := by
  have none_ : (l.filter fun r => leastDepth ≤ r.depth && r.code ≤ 4095) = [] :=
    List.eq_nil_iff_forall_not_mem.2 fun f hf => by
      obtain ⟨hl, hd, hc⟩ := mem_lockable.1 hf
      exact (h f hl).elim (Nat.not_lt.2 hd) (Nat.not_lt.2 hc)
  rw [sweepPick_nearer, none_]
  rfl

/-- A sweep picks the resonance nearest to the middle of those it may lock at. -/
theorem sweepPick_nearest {l : List Resonance} (h : ∃ f ∈ l, 60 ≤ f.depth ∧ f.code ≤ 4095) : ∃ f ∈ l, 60 ≤ f.depth ∧ f.code ≤ 4095 ∧
    (∀ g ∈ l, 60 ≤ g.depth → g.code ≤ 4095 → f.off ≤ g.off) ∧ sweepPick l = some (f.code, f.slope) := by
  obtain ⟨f, hf⟩ := h
  have met := mem_lockable.2 hf
  rw [sweepPick_nearer]
  cases e : l.filter fun r => leastDepth ≤ r.depth && r.code ≤ 4095 with
  | nil => exact absurd (e ▸ met) List.not_mem_nil
  | cons r rest =>
    obtain ⟨y, hy, from_, hr, all⟩ := Resonance.nearer_foldl rest r
    have hmem : y ∈ r :: rest := from_.elim (fun e => e ▸ List.mem_cons_self) (List.mem_cons_of_mem _)
    obtain ⟨hl, hd, hc⟩ := mem_lockable.1 (e ▸ hmem)
    refine ⟨y, hl, hd, hc, fun g hg hgd hgc => ?_, ?_⟩
    · have hg' : g ∈ r :: rest := e ▸ mem_lockable.2 ⟨hg, hgd, hgc⟩
      exact (List.mem_cons.1 hg').elim (fun e => e ▸ hr) (all g)
    · rw [List.foldl_cons, show Resonance.nearer none r = some r from rfl, hy]
      rfl

section
variable {s : State} {n : Nat}

/-- A ring's first sweep fails or locks by what the sweep picks. -/
theorem State.sweepRing_pick (l : List Resonance) (h : (s.ring704At n).state ≠ .failed) :
    (sweepPick l = none → s.sweepRing n l false = s.sweepFail n) ∧
      ∀ c w, sweepPick l = some (c, w) → s.sweepRing n l false = s.ringLock n c w := by
  have pick : ¬ ((s.ring704At n).state = .failed ∨ (false = true ∧ (s.ring704At n).state ≠ .sweep)) :=
    fun e => e.elim h fun e => Bool.false_ne_true e.1
  refine ⟨fun e => (if_neg pick).trans ?_, fun c w e => (if_neg pick).trans ?_⟩
  · rw [e]
  · rw [e]

/-! ### A ring that locks -/

theorem State.pho_of_chassis {s t : State} (h : s.chassis = t.chassis) : s.pho = t.pho :=
  show s.chassis.pho = t.chassis.pho from congrArg State.pho h

/-- Locking a ring writes that ring and nothing else of the photonic die. -/
theorem State.ringLock_pho (s : State) (n code : Nat) (slope : Int) : (s.ringLock n code slope).pho = (s.updRing704 n fun r =>
    { r with state := .locked, word := 16 * min code 4095, map := some (min code 4095, s.zoneTemp), slope := slope,
             sweepFails := 0, rail := false, acc := 0 }).pho := by
  have recorded := State.ite_keeps State.pho (c := (s.ring704At n).state = RState.lost) (State.log_pho (s.updRing704 n fun r =>
    { r with state := .locked, word := 16 * min code 4095, map := some (min code 4095, s.zoneTemp), slope := slope,
             sweepFails := 0, rail := false, acc := 0 }) 0x4002 (param [(2, n)]) none false false true) rfl
  unfold State.ringLock
  dsimp only
  split
  · exact recorded
  · exact (State.pho_of_chassis (State.scorerJudge_chassis _)).trans recorded

/-- A narrow acquisition that finds its resonance near the seed. -/
theorem narrowPick_some {seed : Int} {f : Resonance} (hd : 60 ≤ f.depth) (hc : f.code ≤ 4095) (hs : ((f.code : Int) - seed).natAbs ≤ 128) :
    narrowPick seed (some f) = some (f.code, f.slope) := by
  simp [narrowPick, Option.filter, leastDepth, hd, hc, hs]

theorem narrowPick_none {seed : Int} {found : Option Resonance} (h : found = none ∨ ∃ f, found = some f ∧
    (f.depth < 60 ∨ 4095 < f.code ∨ 128 < ((f.code : Int) - seed).natAbs)) : narrowPick seed found = none := by
  obtain rfl | ⟨f, rfl, h⟩ := h
  · rfl
  · have bad : (leastDepth ≤ f.depth && f.code ≤ 4095 && decide (((f.code : Int) - seed).natAbs ≤ 128)) = false := by
      rcases h with h | h | h
      · simp [show ¬ leastDepth ≤ f.depth from Nat.not_le.2 h]
      · simp [Nat.not_le.2 h]
      · simp [Nat.not_le.2 h]
    rw [narrowPick, Option.filter_some, bad]
    rfl

section
variable {r : Ring704} (hn : n < 704)
include hn

/-- The ring that has locked, and the others as they were. -/
theorem State.ring704At_ringLock (s : State) (code : Nat) (slope : Int) : (s.ringLock n code slope).ring704At n =
    { s.ring704At n with state := .locked, word := 16 * min code 4095, map := some (min code 4095, s.zoneTemp), slope := slope,
                         sweepFails := 0, rail := false, acc := 0 } := by
  rw [State.ring704At, State.ringLock_pho]
  exact Table.at_upd_same _ hn _ _

omit hn in
theorem State.ring704At_ringLock_other (s : State) {m : Nat} (h : n ≠ m) (code : Nat) (slope : Int) :
    (s.ringLock n code slope).ring704At m = s.ring704At m := by
  rw [State.ring704At, State.ringLock_pho]
  exact Table.at_upd_other _ h _ _

end

/-- A narrow acquisition of a ring with a map entry: it locks or sweeps, and the takeover of its bank ends when no ring of it acquires. -/
def State.narrowTaken (s : State) (n : Nat) : State :=
  if (ringsOfBank (bankOf n)).any fun m => (s.ring704At m).state == .acquire then s
  else { s with pho := { s.pho with takeover := s.pho.takeover.filter fun t => t.2 != bankOf n } }

/-- A ring locks at the resonance that was picked, or falls back to a full sweep. -/
def State.narrowTry (s : State) (n : Nat) (pick : Option (Nat × Int)) : State :=
  match pick with
  | some f => s.ringLock n f.1 f.2
  | none => s.updRing704 n fun r => { r with state := .sweep }

theorem State.evNarrow_map {p : Nat × Int} (found : Option Resonance) (h : (s.ring704At n).state = .acquire ∨ (s.ring704At n).state = .lost)
    (hp : (s.ring704At n).map = some p) : s.evNarrow n found = (s.narrowTry n (narrowPick (narrowSeed p s.zoneTemp) found)).narrowTaken n := by
  have bound : ((s.ring704At n).map.bind fun m => narrowPick (narrowSeed m s.zoneTemp) found) = narrowPick (narrowSeed p s.zoneTemp) found := by
    rw [hp]
    rfl
  rw [← bound]
  exact if_pos ⟨h, by rw [hp]; rfl⟩

/-- Where another ring of the bank still acquires its takeover goes on. -/
theorem State.narrowTaken_acquiring {m : Nat} (hm : m ∈ ringsOfBank (bankOf n)) (h : (s.ring704At m).state = .acquire) : s.narrowTaken n = s :=
  if_pos (List.any_eq_true.2 ⟨m, hm, by rw [h]; rfl⟩)

/-- The rings stay as they are when a takeover ends. -/
theorem State.narrowTaken_ring (s : State) (n m : Nat) : (s.narrowTaken n).ring704At m = s.ring704At m :=
  State.ite_keeps (fun u : State => u.ring704At m) rfl rfl

/-! ### Laser arrays that have come to temperature -/

/-- What the first arrival at temperature writes of an array. -/
def Laser.started (l : Laser) : Bool × Int := (l.atTemp, l.submount)

section
variable {a : Nat}

theorem State.laserAt_of_chassis {s t : State} (h : s.chassis = t.chassis) (a : Nat) : s.laserAt a = t.laserAt a :=
  congrArg (fun p : Photonic => Table.at p.laser a {}) (State.pho_of_chassis h)

/-- A write to an array that keeps it started keeps every array so. -/
theorem State.updLaser_started (s : State) (a b : Nat) {f : Laser → Laser} (h : ∀ l, (f l).started = l.started) :
    ((s.updLaser b f).laserAt a).started = (s.laserAt a).started := by
  by_cases hb : b = a
  · subst hb
    by_cases ha : b < 24
    · rw [State.laserAt_updLaser_same _ ha, h]
    · exact congrArg (fun t => (Table.at t b ({} : Laser)).started) (Table.upd_beyond s.pho.laser (Nat.not_lt.1 ha) f)
  · rw [State.laserAt_updLaser_other _ hb]

theorem State.laserLight_started (s : State) (a b : Nat) : ((s.laserLight b).laserAt a).started = (s.laserAt a).started :=
  State.ite_keeps (fun u : State => (u.laserAt a).started) (State.updLaser_started s a b fun _ => rfl) rfl

/-- Lighting an array and setting its bank's rings on their way keeps every array started. -/
theorem State.bankWake_started (f : Ring704 → Ring704) (l : List Nat) (s : State) (a : Nat) :
    ((l.foldl (fun s n => s.updRing704 n f) s).laserAt a).started = (s.laserAt a).started :=
  State.foldl_keeps (f := fun s n => s.updRing704 n f) (fun u : State => (u.laserAt a).started) (fun _ _ => rfl) l s

/-- A spare that takes a place retires the array before it, and keeps every array started. -/
theorem State.takeSpare_started (s : State) (pos sp a : Nat) : ((s.takeSpare pos sp).laserAt a).started = (s.laserAt a).started := by
  let view (u : State) : Bool × Int := (u.laserAt a).started
  have chassis {u v : State} (h : u.chassis = v.chassis) : view u = view v := congrArg Laser.started (State.laserAt_of_chassis h a)
  have lit (u : State) (f : Ring704 → Ring704) : view ((ringsOfBank pos).foldl (fun s n => s.updRing704 n f) (u.laserLight sp)) = view u :=
    (State.bankWake_started f _ _ a).trans (State.laserLight_started u a sp)
  have retired (t : Vector (Option Nat) 4) (l : List (Nat × Nat)) (c d : Nat) (x y : List Byte) :
      view (((let u := s.updLaser (s.arrayAt pos) fun l => { l with state := .retired, lit := false, heater := false }
        ({ u with pho := { u.pho with spare := t, takeover := l } } : State)).log c x).log d y) = view s :=
    (chassis ((State.log_chassis ..).trans (State.log_chassis ..))).trans (State.updLaser_started s a _ fun _ => rfl)
  by_cases hp : pos < 16
  · simp only [State.takeSpare, if_pos hp]
    refine (lit _ _).trans ((State.foldl_keeps view (fun u j => ?_) _ _).trans (retired ..))
    exact State.ite_keeps view (chassis (State.strandTo_chassis ..)) rfl
  · simp only [State.takeSpare, if_neg hp]
    refine (chassis (State.scorerJudge_chassis _)).trans ((lit _ _).trans ((State.foldl_keeps view (fun u j => ?_) _ _).trans (retired ..)))
    rfl

/-- The array that has just come to temperature. -/
def State.started (s : State) (a : Nat) (temp : Int) : State :=
  s.updLaser a fun l => { l with atTemp := true, submount := temp, state := if l.state = .off then .warm else l.state }

/-- Whatever the arrival leads to, the array stays at its temperature. -/
theorem State.evSubmount_started (ha : a < 24) (h : (s.laserAt a).heater = true) (temp : Int) :
    ((s.evSubmount a temp).laserAt a).started = (true, temp) := by
  let view (u : State) : Bool × Int := (u.laserAt a).started
  have own : view (s.started a temp) = (true, temp) := congrArg Laser.started (State.laserAt_updLaser_same _ ha _)
  have run : view (s.evSubmount a temp) = view (s.started a temp) := by
    unfold State.evSubmount
    rw [if_pos h]
    dsimp only
    split
    · exact State.ite_keeps view ((State.bankWake_started _ _ _ a).trans (State.laserLight_started _ a a)) rfl
    · split
      · split
        · exact State.takeSpare_started _ _ _ a
        · rfl
      · rfl
  exact run.trans own

/-- Of an array in its place whose bank is not in use nothing else happens. -/
theorem State.evSubmount_unused (h : (s.laserAt a).heater = true) (temp : Int) (hs : (s.laserAt a).state = .off)
    (hp : s.posOfArray a = some a) (hb : s.bankInUse a = false) :
    s.evSubmount a temp = s.updLaser a fun l => { l with atTemp := true, submount := temp, state := .warm } := by
  have stays : s.evSubmount a temp = s.started a temp := by
    have hp' : (s.started a temp).posOfArray a = some a := hp
    have hb' : (s.started a temp).bankInUse a = false := hb
    unfold State.evSubmount
    rw [if_pos h]
    dsimp only
    rw [← State.started, hp']
    exact if_neg fun e => Bool.false_ne_true (hb'.symm.trans e.1)
  rw [stays]
  have same : Table.upd s.pho.laser a (fun l => { l with atTemp := true, submount := temp, state := if l.state = .off then .warm else l.state }) =
      Table.upd s.pho.laser a fun l => { l with atTemp := true, submount := temp, state := .warm } :=
    Table.upd_congr s.pho.laser a {} (by rw [if_pos (show (Table.at s.pho.laser a {}).state = .off from hs)])
  exact congrArg (fun t => ({ s with pho := { s.pho with laser := t } } : State)) same

end

/-! ### The bias of a lit array -/

/-- The biases that a power update leaves: those of the wavelengths that work move by what set and monitored power differ. -/
def Laser.powered (l : Laser) (m : List Nat) : Vector Nat 16 :=
  l.bias.mapIdx fun i (b : Nat) =>
    if l.failed.getLsbD i then b else (clampInt 0 65535 ((b : Int) + l.setPower - ((m[i]?).getD l.setPower : Nat))).toNat

theorem Laser.powered_at (l : Laser) (m : List Nat) {i : Nat} (hi : i < 16) : Table.at (l.powered m) i 0 =
    if l.failed.getLsbD i then Table.at l.bias i 0
    else (clampInt 0 65535 (((Table.at l.bias i 0 : Nat) : Int) + l.setPower - ((m[i]?).getD l.setPower : Nat))).toNat :=
  Table.at_mapIdx _ hi _ _ _

section
variable {a : Nat}

/-- A power update writes the array's biases and its ageing, and leaves records: what records leave alone is that of the write. -/
theorem State.evLaserPower_lit (h : (s.laserAt a).lit = true) (m : List Nat) : ∃ g : BitVec 16, ∀ {β : Type} (view : State → β),
    (∀ u i, view (u.log 0x4005 (param [(1, a), (1, i)])) = view u) →
    view (s.evLaserPower a m) = view (s.updLaser a fun l => { l with bias := (s.laserAt a).powered m, ageing := l.ageing ||| g }) := by
  unfold State.evLaserPower
  dsimp only
  rw [if_pos h]
  exact ⟨_, fun view hv => State.foldl_keeps view hv _ _⟩

end

/-! ### Banks -/

/-- A bank that may be swept lights its array and sweeps each of its rings. -/
def State.swept (s : State) (b : Nat) (found : List (List Resonance)) (again : Bool) : State :=
  ((ringsOfBank b).zip (found ++ List.replicate (48 - found.length) [])).foldl (fun (s : State) x => s.sweepRing x.1 x.2 again)
    (s.laserLight (s.arrayAt b))

theorem State.evBankSweep_port {b : Nat} {l : List (List Resonance)} (h : s.sweepReady b = true) (hb : b < 16)
    (hs : s.pho.swept.getLsbD b = false) : s.evBankSweep b l =
      { s.swept b l false with pho := { (s.swept b l false).pho with swept := (s.swept b l false).pho.swept ||| BitVec.ofNat 16 (2 ^ b) } } := by
  unfold State.evBankSweep
  rw [if_pos h]
  dsimp only
  rw [if_pos hb, if_pos hb, hs]
  rfl

theorem State.evBankSweep_scorer {b : Nat} {l : List (List Resonance)} (h : s.sweepReady b = true) (hb : 16 ≤ b)
    (ht : s.wmk.tried ≤ b - 16) : s.evBankSweep b l =
      ((({ s.swept b l false with wmk := { (s.swept b l false).wmk with tried := b - 16 + 1 } } : State).bankRefresh (b - 16)).scorerJudge) := by
  unfold State.evBankSweep
  rw [if_pos h]
  dsimp only
  rw [if_neg (Nat.not_lt.2 hb), if_neg (Nat.not_lt.2 hb), decide_eq_false (Nat.not_lt.2 ht)]
  rfl

end

/-- Settles O54: each event of a ring, a bank or an array acts by the branch that its condition leads to; the resonance that a sweep picks,
the ring that locks and the array that stays at its temperature are lemmas of their own. -/
theorem ringsAndLasersAct : Obligations.RingsAndLasersAct := by
  refine ⟨?_, ?_, ?_, ?_⟩
  · intro s n hn
    dsimp only
    have on {u v : State} (h : u = v) : s.onUnit n 704 u = s.finish v := h ▸ State.onUnit_of_lt hn
    refine ⟨fun ratio hl hw => ⟨fun h => ?_, fun h1 h2 hb => ?_, fun h1 h2 hb => ?_⟩, fun low hl hw => ⟨fun h => ?_, fun h he => ?_⟩,
      fun h => ⟨fun ratio => ?_, fun low => ?_⟩, fun held hl hc h => ?_, fun hl hc hr => ?_, fun hl h0 h1 => ⟨?_, ?_⟩, fun held hl => ?_,
      fun f h1 h2 => ?_, fun p found hs hp => ⟨fun m hf hm hmn hm7 hma => ?_, fun f hf hd hc hsd => ?_⟩⟩
    · exact effect_of (on ((if_pos ⟨hl, hw⟩).trans (if_neg fun e => h.elim (Nat.not_lt.2 e.1) (Nat.not_le.2 e.2)))) rfl
    · exact effect_of (on ((if_pos ⟨hl, hw⟩).trans ((if_pos ⟨h1, h2⟩).trans (if_neg fun e => Bool.false_ne_true (hb.symm.trans e))))) rfl
    · exact effect_of (on ((if_pos ⟨hl, hw⟩).trans ((if_pos ⟨h1, h2⟩).trans (if_pos hb)))) rfl
    · exact effect_of (on (if_pos ⟨hl, hw, h⟩)) rfl
    · exact effect_of (on (if_neg fun e => e.2.2.elim (fun e => Bool.false_ne_true (h.symm.trans e)) (Nat.not_lt.2 he))) rfl
    · exact effect_of (on (if_neg fun e => h.elim (· e.1) fun h => Bool.false_ne_true (h.symm.trans e.2))) rfl
    · exact effect_of (on (if_neg fun e => h.elim (· e.1) fun h => Bool.false_ne_true (h.symm.trans e.2.1))) rfl
    · refine effect_of (on ((if_pos hl).trans ((if_pos hc).trans (if_neg fun e => ?_)))) rfl
      exact h.elim (fun h => Bool.false_ne_true (h.symm.trans e.1)) fun h => Bool.false_ne_true (h.symm.trans e.2)
    · exact effect_of (on ((if_pos hl).trans ((if_pos hc).trans (if_pos ⟨rfl, hr⟩)))) rfl
    · exact effect_of (on ((if_pos hl).trans ((if_neg fun e => e.elim h0 h1).trans (if_pos rfl)))) rfl
    · exact effect_of (on ((if_pos hl).trans ((if_neg fun e => e.elim h0 h1).trans (if_neg nofun)))) rfl
    · exact effect_of (on (if_neg hl)) rfl
    · exact effect_of (on (if_neg fun e => e.1.elim h1 h2)) rfl
    · have sweep := State.evNarrow_map found hs hp
      rw [show narrowPick (narrowSeed p s.zoneTemp) found = none from narrowPick_none hf] at sweep
      refine effect_of (on (sweep.trans (State.narrowTaken_acquiring hm ?_))) rfl
      exact (congrArg Ring704.state (Table.at_upd_other _ (Ne.symm hmn) _ _)).trans hma
    · have lock := State.evNarrow_map found hs hp
      rw [hf, show narrowPick (narrowSeed p s.zoneTemp) (some f) = some (f.code, f.slope) from narrowPick_some hd hc hsd] at lock
      have ring (m : Nat) : (s.evNarrow n found).ring704At m = (s.ringLock n f.code f.slope).ring704At m := by
        rw [hf, lock]
        exact State.narrowTaken_ring _ n m
      have own := (ring n).trans (State.ring704At_ringLock hn s f.code f.slope)
      rw [Nat.min_eq_left hc] at own
      refine ⟨s.evNarrow n found, effect_of (on rfl) rfl, ?_, ?_, ?_, ?_, fun m hm _ => ?_⟩
      · rw [own]
      · rw [own]
      · rw [own]
      · rw [own]
      · exact (ring m).trans (State.ring704At_ringLock_other s (Ne.symm hm) _ _)
  · intro s b hb
    have on {u v : State} (h : u = v) : s.onUnit b 20 u = s.finish v := h ▸ State.onUnit_of_lt hb
    exact ⟨fun l h => effect_of (on (if_neg fun e => Bool.false_ne_true (h.symm.trans e))) rfl,
      fun l h hb hs => effect_of (on (State.evBankSweep_port h hb hs)) rfl,
      fun l h hb ht => effect_of (on (State.evBankSweep_scorer h hb ht)) rfl⟩
  · intro s n l hn
    refine ⟨fun h => (State.sweepRing_pick l hn).1 (sweepPick_none h), fun h => ?_⟩
    obtain ⟨f, hf, hd, hc, near, pick⟩ := sweepPick_nearest h
    exact ⟨f, hf, hd, hc, near, (State.sweepRing_pick l hn).2 _ _ pick⟩
  · intro s a ha
    dsimp only
    have on {u v : State} (h : u = v) : s.onUnit a 24 u = s.finish v := h ▸ State.onUnit_of_lt ha
    refine ⟨fun t h => ?_, fun t h => ⟨s.evSubmount a t, effect_of (on rfl) rfl, ?_, ?_, ?_⟩, fun m h => ?_, fun m h => ?_, fun m sub ht hr hl hs hm => ?_,
      fun m sub ht hr hs hm => ?_, fun m sub h => ?_⟩
    · exact effect_of (on (if_neg fun e => Bool.false_ne_true (h.symm.trans e))) rfl
    · exact congrArg Prod.fst (State.evSubmount_started ha h t)
    · exact congrArg Prod.snd (State.evSubmount_started ha h t)
    · exact fun hs _ hp hb => State.evSubmount_unused h t hs hp hb
    · exact effect_of (on (if_neg fun e => Bool.false_ne_true (h.symm.trans e))) rfl
    · obtain ⟨g, keeps⟩ := State.evLaserPower_lit h m
      have own : (s.evLaserPower a m).laserAt a = _ :=
        (keeps (fun u => u.laserAt a) fun u i => congrArg (fun p : Photonic => Table.at p.laser a {}) (State.log_pho ..)).trans
          (State.laserAt_updLaser_same s ha _)
      refine ⟨s.evLaserPower a m, effect_of (on rfl) rfl, fun i hi hf => ?_, fun i hi hf => ?_, fun b hb => ?_, ?_, ?_, ?_, ?_⟩
      · rw [own]
        exact ((s.laserAt a).powered_at m hi).trans (if_neg fun e => Bool.false_ne_true (hf.symm.trans e))
      · rw [own]
        exact ((s.laserAt a).powered_at m hi).trans (if_pos hf)
      · exact (keeps (fun u => u.laserAt b) fun u i => congrArg (fun p : Photonic => Table.at p.laser b {}) (State.log_pho ..)).trans
          (State.laserAt_updLaser_other s (Ne.symm hb) _)
      · exact keeps State.mesh fun _ _ => State.log_mesh ..
      · exact keeps State.wmk fun _ _ => State.log_wmk ..
      · exact keeps State.part fun _ _ => State.log_part ..
      · exact keeps State.mem fun _ _ => State.log_mem ..
    · subst hs
      exact effect_of (on (if_pos ⟨ht, hr, .inr hl, hm⟩)) rfl
    · subst hs
      exact effect_of (on (if_pos ⟨ht, hr, .inl rfl, hm⟩)) rfl
    · exact effect_of (on (if_neg fun e => h.elim (fun h => Bool.false_ne_true (h.symm.trans e.1)) (e.2.1 ·))) rfl

end Sys2Proof.Machine
end

section
/-! SUPPORT. Sensors, throttles, caps and warnings (O55). -/
namespace Sys2Proof.Machine

/-- A view of a table's entries that a write keeps is that of the table before it. -/
theorem Table.map_upd {α β : Type} {n : Nat} (t : Vector α n) (i : Nat) {f : α → α} {g : α → β} (h : ∀ x, g (f x) = g x) :
    (Table.upd t i f).map g = t.map g := by
  ext j hj
  by_cases e : i = j
  · subst e
    simp [Table.upd, hj, h]
  · rcases Nat.lt_or_ge i n with hi | hi
    · simp [Table.upd, hi, Vector.getElem_setIfInBounds_ne, e]
    · simp [Table.upd, hi]

/-! ### What a sample writes of its sensor, and nothing else does -/

/-- The reading of a sensor, whatever follows from it. -/
def Sensor.reading (x : Sensor) : Int × Bool × Nat := (x.temp, x.fresh, x.sampledAt)

/-- The readings of all sensors. -/
def State.readings (s : State) : Vector (Int × Bool × Nat) 140 := s.thm.sens.map Sensor.reading

section
variable {s : State} {n w m c : Nat}

theorem State.reading_at (hn : n < 140) : Table.at s.readings n (0, false, 0) = (s.sensAt n).reading := Table.at_map _ hn _ _ _

/-- What leaves the thermal state as it is keeps the readings. -/
theorem State.readings_of_thm {s t : State} (h : s.thm = t.thm) : s.readings = t.readings := congrArg (fun x : Thermal => x.sens.map Sensor.reading) h

theorem State.updSens_readings (s : State) (n : Nat) {f : Sensor → Sensor} (h : ∀ x, (f x).reading = x.reading) :
    (s.updSens n f).readings = s.readings := Table.map_upd _ n h

theorem State.throttleFollow_thm (s : State) (m : Nat) : (s.throttleFollow m).thm = s.thm :=
  State.ite_keeps State.thm rfl (State.ite_keeps State.thm (State.ite_keeps State.thm rfl rfl) (State.ite_keeps State.thm rfl rfl))

theorem State.throttleFollow_readings (s : State) (m : Nat) : (s.throttleFollow m).readings = s.readings :=
  State.readings_of_thm (State.throttleFollow_thm s m)

theorem State.throttleFollowAll_readings (s : State) : s.throttleFollowAll.readings = s.readings :=
  State.foldl_keeps State.readings State.throttleFollow_readings _ _

theorem State.warnSet_readings (s : State) (c : Nat) : (s.warnSet c).readings = s.readings := by
  unfold State.warnSet
  dsimp only
  refine State.ite_keeps State.readings rfl (State.ite_keeps State.readings ?_ ?_)
  all_goals simp only [State.readings, State.log_thm]

theorem State.crossingEntered_readings (s : State) (n w : Nat) : (s.crossingEntered n w).readings = s.readings := by
  unfold State.crossingEntered
  split
  · exact State.warnSet_readings s 2
  split
  · split
    · exact State.throttleFollow_readings s _
    split
    · split
      · exact (State.throttleFollow_readings _ _).trans rfl
      · rfl
    · simp only [State.readings]
  · rfl

theorem State.logCrossing_readings (s : State) (n w : Nat) (entry : Bool) : (s.logCrossing n w entry).readings = s.readings := by
  have logged (u : State) (f : Sensor → Sensor) (h : ∀ x, (f x).reading = x.reading) (hu : u.thm = s.thm) :
      (u.updSens n f).readings = s.readings := (State.updSens_readings u n h).trans (State.readings_of_thm hu)
  unfold State.logCrossing
  dsimp only
  split
  · exact State.ite_keeps State.readings (State.readings_of_thm (State.logRepeat_thm ..)) (logged _ _ (fun _ => rfl) (State.log_thm ..))
  · exact logged _ _ (fun _ => rfl) (State.log_thm ..)

theorem State.compareSample_readings (s : State) (n w : Nat) : (s.compareSample n w).readings = s.readings := by
  unfold State.compareSample
  dsimp only
  split
  · rfl
  · refine State.ite_keeps State.readings ((State.crossingEntered_readings _ n w).trans ((State.logCrossing_readings _ n w true).trans ?_)) ?_
    · exact State.updSens_readings s n fun _ => rfl
    · exact State.updSens_readings s n fun _ => rfl

theorem State.sensValidity_readings (s : State) (n cond : Nat) : (s.sensValidity n cond).readings = s.readings :=
  State.ite_keeps State.readings rfl ((State.readings_of_thm (State.log_thm ..)).trans (State.updSens_readings s n fun _ => rfl))

theorem State.blindFollow_readings (s : State) (m : Nat) : (s.blindFollow m).readings = s.readings :=
  State.ite_keeps State.readings rfl (State.ite_keeps State.readings rfl rfl)

theorem State.judgeGroup_readings (s : State) (g : Nat) : (s.judgeGroup g).2.readings = s.readings :=
  (State.foldl_keeps State.readings State.blindFollow_readings _ _).trans
    (State.foldl_keeps State.readings (fun u n => State.sensValidity_readings u n _) _ s)

/-- The reading that a sample writes. -/
def State.sampled (s : State) (n : Nat) (temp : Int) : State :=
  s.updSens n fun x =>
    { x with temp := temp + (s.sensAt n).offset, fresh := true, sampledAt := s.now,
             changedAt := if temp + (s.sensAt n).offset = x.temp ∧ x.fresh then x.changedAt else s.now,
             groupThen := if temp + (s.sensAt n).offset = x.temp ∧ x.fresh then x.groupThen
               else (sensorsOf (groupOf n)).map fun k => if k = n then temp + (s.sensAt n).offset else (s.sensAt k).temp }

/-- The device once a sample's group has been judged, and a stack's refresh set. -/
def State.sampleJudged (s : State) (n : Nat) (temp : Int) : State :=
  if groupOf n = 3 then
    { ((s.sampled n temp).judgeGroup (groupOf n)).2 with mem := { ((s.sampled n temp).judgeGroup (groupOf n)).2.mem with
      refresh2 := Table.put ((s.sampled n temp).judgeGroup (groupOf n)).2.mem.refresh2 (n - 128) (decide (8500 < temp + (s.sensAt n).offset)) } }
  else ((s.sampled n temp).judgeGroup (groupOf n)).2

theorem State.sampleJudged_readings (s : State) (n : Nat) (temp : Int) : (s.sampleJudged n temp).readings = (s.sampled n temp).readings := by
  have judged := State.judgeGroup_readings (s.sampled n temp) (groupOf n)
  exact State.ite_keeps State.readings judged judged

/-- A sample of a device that is awake is judged with its group, and compared with each threshold where the sensor is valid. -/
theorem State.evSensorSample_awake (hd : s.dev.state ≠ .dormant) (ho : s.dev.state ≠ .off) (temp : Int) :
    (s.evSensorSample n temp).2 = if ((s.sampleJudged n temp).sensAt n).invalid then (s.sampleJudged n temp).throttleFollowAll
      else ((List.range 3).foldl (fun s w => s.compareSample n w) (s.sampleJudged n temp)).throttleFollowAll :=
  (congrArg Prod.snd (if_neg fun e => e.elim hd ho)).trans (apply_ite Prod.snd _ _ _)

theorem State.evSensorSample_readings (hd : s.dev.state ≠ .dormant) (ho : s.dev.state ≠ .off) (temp : Int) :
    (s.evSensorSample n temp).2.readings = (s.sampled n temp).readings := by
  rw [State.evSensorSample_awake hd ho]
  refine (State.ite_keeps State.readings (State.throttleFollowAll_readings _) ?_).trans (s.sampleJudged_readings n temp)
  exact (State.throttleFollowAll_readings _).trans (State.foldl_keeps State.readings (fun u w => State.compareSample_readings u n w) _ _)

theorem State.reading_sampled (hn : n < 140) (temp : Int) :
    ((s.sampled n temp).sensAt n).reading = (temp + (s.sensAt n).offset, true, s.now) :=
  congrArg Sensor.reading (State.sensAt_updSens_same s hn _)

/-- A sample that judges no cause leads to none. -/
theorem State.safeCause_none (u : State) (c : Nat) : State.safeCause (false, u) c = u := by
  unfold State.safeCause
  exact if_neg fun e => Bool.false_ne_true e.1

/-! ### Thresholds -/

/-- A crossing once a sample at or above its threshold, or not, and at or above its lower edge, or not, has been counted. -/
def Cross.judged (c : Cross) (now : Nat) (hot edge : Bool) : Cross :=
  { c with above := if hot then min 3 (c.above + 1) else 0, belowSince := if edge then none else some (c.belowSince.getD now),
           inState := c.inState || (!c.inState && (if hot then min 3 (c.above + 1) else 0) == 3) }

/-- A change of one crossing of one sensor is what it makes of that crossing. -/
theorem State.updCross_congr {f g : Cross → Cross} (h : f (Table.at (s.sensAt n).cross w {}) = g (Table.at (s.sensAt n).cross w {})) :
    (s.updSens n fun x => { x with cross := Table.upd x.cross w f }) = s.updSens n fun x => { x with cross := Table.upd x.cross w g } := by
  have same : Table.upd s.thm.sens n (fun x => { x with cross := Table.upd x.cross w f }) =
      Table.upd s.thm.sens n fun x => { x with cross := Table.upd x.cross w g } :=
    Table.upd_congr s.thm.sens n {} (congrArg (fun t => ({ s.sensAt n with cross := t } : Sensor)) (Table.upd_congr (s.sensAt n).cross w {} h))
  exact congrArg (fun t => ({ s with thm := { s.thm with sens := t } } : State)) same

section
variable {th : Int} (ht : s.threshold (groupOf n) w = some th)
include ht

theorem State.aboveEdge_eq (t : Int) : s.aboveEdge (groupOf n) w t = decide (th - s.hysteresis (groupOf n) w ≤ t) := by
  rw [State.aboveEdge, ht]
  rfl

/-- A sample is counted in its crossing, which it enters or does not. -/
theorem State.compareSample_eq {g : Cross → Cross}
    (hg : (Table.at (s.sensAt n).cross w {}).judged s.now (th ≤ (s.sensAt n).temp) (s.aboveEdge (groupOf n) w (s.sensAt n).temp) =
      g (Table.at (s.sensAt n).cross w {})) :
    s.compareSample n w =
      if !(Table.at (s.sensAt n).cross w {}).inState &&
          (if th ≤ (s.sensAt n).temp then min 3 ((Table.at (s.sensAt n).cross w {}).above + 1) else 0) == 3 then
        (((s.updSens n fun x => { x with cross := Table.upd x.cross w g }).logCrossing n w true).crossingEntered n w)
      else s.updSens n fun x => { x with cross := Table.upd x.cross w g } := by
  rw [← State.updCross_congr (s := s) (g := g) (f := fun c => { c with
    above := if th ≤ (s.sensAt n).temp then min 3 ((Table.at (s.sensAt n).cross w {}).above + 1) else 0
    belowSince := if s.aboveEdge (groupOf n) w (s.sensAt n).temp then none else some ((Table.at (s.sensAt n).cross w {}).belowSince.getD s.now)
    inState := c.inState || (!(Table.at (s.sensAt n).cross w {}).inState &&
      (if th ≤ (s.sensAt n).temp then min 3 ((Table.at (s.sensAt n).cross w {}).above + 1) else 0) == 3) })
    (Eq.trans (by simp only [Cross.judged, decide_eq_true_eq]) hg)]
  unfold State.compareSample
  dsimp only
  rw [ht]

/-- A sample that does not enter the state is counted. -/
theorem State.compareSample_counts {g : Cross → Cross}
    (he : (Table.at (s.sensAt n).cross w {}).inState = true ∨ ¬ (th ≤ (s.sensAt n).temp ∧ 2 ≤ (Table.at (s.sensAt n).cross w {}).above))
    (hg : (Table.at (s.sensAt n).cross w {}).judged s.now (th ≤ (s.sensAt n).temp) (s.aboveEdge (groupOf n) w (s.sensAt n).temp) =
      g (Table.at (s.sensAt n).cross w {})) :
    s.compareSample n w = s.updSens n fun x => { x with cross := Table.upd x.cross w g } := by
  refine (State.compareSample_eq ht hg).trans (if_neg fun e => ?_)
  obtain ⟨hout, third⟩ := Bool.and_eq_true_iff.1 e
  refine he.elim (fun h => by rw [h] at hout; exact Bool.false_ne_true hout) fun h => h ?_
  have three := eq_of_beq third
  split at three
  next hh => exact ⟨hh, by omega⟩
  next => omega

/-- The third sample in a row at or above the threshold enters the state. -/
theorem State.compareSample_enters {g : Cross → Cross} (hc : (Table.at (s.sensAt n).cross w {}).inState = false)
    (hh : th ≤ (s.sensAt n).temp) (ha : 2 ≤ (Table.at (s.sensAt n).cross w {}).above)
    (hg : (Table.at (s.sensAt n).cross w {}).judged s.now (th ≤ (s.sensAt n).temp) (s.aboveEdge (groupOf n) w (s.sensAt n).temp) =
      g (Table.at (s.sensAt n).cross w {})) :
    s.compareSample n w = (((s.updSens n fun x => { x with cross := Table.upd x.cross w g }).logCrossing n w true).crossingEntered n w) := by
  refine (State.compareSample_eq ht hg).trans (if_pos ?_)
  rw [hc, if_pos hh, Nat.min_eq_left (by omega)]
  rfl

end

/-! ### Throttles and flow -/

/-- A release step of a Mould that sees its sensors. -/
theorem State.evThrottleRelease_to {f : Mould → Mould} (h0 : (s.mouldAt m).throttle ≠ 0) (hr : (s.mouldAt m).releasing = true)
    (hb : s.thm.blind.getLsbD m = false)
    (hf : ({ s.mouldAt m with throttle := (s.mouldAt m).throttle - 1, releasing := (s.mouldAt m).throttle - 1 ≠ 0,
                              mref := if (s.mouldAt m).throttle = 1 then 0 else (s.mouldAt m).mref } : Mould) = f (s.mouldAt m)) :
    s.evThrottleRelease m = (s.updMould m f).refreshMult m := by
  have same : (s.updMould m fun x => { x with throttle := x.throttle - 1, releasing := x.throttle - 1 ≠ 0,
                                              mref := if x.throttle = 1 then 0 else x.mref }) = s.updMould m f :=
    congrArg (fun t => ({ s with mould := t } : State)) (Table.upd_congr s.mould m {} hf)
  exact (if_pos ⟨h0, hr, by rw [hb]; nofun⟩).trans (congrArg (State.refreshMult · m) same)

theorem State.evFlow_measured {a b : Int} (ha : s.thm.tIn = some a) (hb : s.thm.tOut = some b) (hf : s.fwRuns = true)
    (hp : 400 ≤ s.thm.pkgW) (hd : 200 ≤ b - a) :
    s.evFlow = { s with thm := { s.thm with flow := some (60 * s.thm.pkgW * 10000 / (s.row.kC * (b - a).toNat)) } } := by
  unfold State.evFlow
  rw [ha, hb]
  exact if_pos ⟨hf, hp, hd⟩

theorem State.evFlow_none (h : s.thm.tIn = none ∨ s.thm.tOut = none ∨ s.fwRuns = false ∨ s.thm.pkgW < 400) : s.evFlow = s := by
  unfold State.evFlow
  split
  next a b ha hb =>
    refine if_neg fun ⟨hf, hp, _⟩ => ?_
    obtain h | h | h | h := h
    · exact absurd (h.symm.trans ha) nofun
    · exact absurd (h.symm.trans hb) nofun
    · exact Bool.false_ne_true (h.symm.trans hf)
    · exact absurd hp (Nat.not_le.2 h)
  next => rfl

/-! ### Warnings -/

/-- Setting a bit that stands, and clearing one that does not, changes nothing. -/
theorem setBit_of_set {b : BitVec 11} (h : b.getLsbD c = true) : b ||| BitVec.ofNat 11 (2 ^ c) = b := by
  refine BitVec.eq_of_getLsbD_eq fun i hi => ?_
  rw [BitVec.getLsbD_or, BitVec.getLsbD_ofNat, Nat.testBit_two_pow]
  by_cases e : c = i
  · subst e
    rw [h, Bool.true_or]
  · simp [e]

theorem clearBit_of_clear {b : BitVec 11} (h : b.getLsbD c = false) : b &&& ~~~ BitVec.ofNat 11 (2 ^ c) = b := by
  refine BitVec.eq_of_getLsbD_eq fun i hi => ?_
  rw [BitVec.getLsbD_and, BitVec.getLsbD_not, BitVec.getLsbD_ofNat, Nat.testBit_two_pow]
  by_cases e : c = i
  · subst e
    rw [h, Bool.false_and]
  · simp [e, hi]

theorem State.warnSet_warn (s : State) (c : Nat) : (s.warnSet c).thm.warn = s.thm.warn ||| BitVec.ofNat 11 (2 ^ c) := by
  unfold State.warnSet
  dsimp only
  split
  next h => exact (setBit_of_set h).symm
  next h =>
    split
    · simp only [State.log_thm]
    · simp only [State.log_thm]

theorem State.warnClear_warn (s : State) (c : Nat) : (s.warnClear c).thm.warn = s.thm.warn &&& ~~~ BitVec.ofNat 11 (2 ^ c) := by
  unfold State.warnClear
  dsimp only
  split
  next h =>
    split
    · simp only [State.log_thm]
    · simp only [State.log_thm]
  next h => exact (clearBit_of_clear (Bool.eq_false_of_not_eq_true h)).symm

end

/-- Settles O55: a sample's reading outlasts everything that follows it; each other event acts by the branch that its condition leads to. -/
theorem sensorsAndCapsAct : Obligations.SensorsAndCapsAct := by
  refine ⟨?_, ?_, ?_, ?_, ?_, ?_, fun s c _ => ⟨State.warnSet_warn s c, State.warnClear_warn s c⟩⟩
  · intro s n temp b u hn h
    have on {v : State} (e : State.safeCause (s.evSensorSample n temp) 6 = v) : s.onUnit n 140 (State.safeCause (s.evSensorSample n temp) 6) = s.finish v :=
      e ▸ State.onUnit_of_lt hn
    refine ⟨fun hb => ?_, fun hb hv hp hs ht => ?_, fun hd => ?_, fun hd ho => ?_⟩
    · refine effect_of (on ?_) rfl
      rw [h, hb]
      exact State.safeCause_none _ 6
    · refine effect_of (on ?_) rfl
      rw [h, hb]
      exact if_pos ⟨rfl, hv, by simp [hp], hs, ht⟩
    · refine effect_of (on ?_) rfl
      rw [show s.evSensorSample n temp = (false, s) from if_pos hd]
      exact State.safeCause_none _ 6
    · have told := State.evSensorSample_readings (n := n) hd ho temp
      rw [h] at told
      have own : (u.sensAt n).reading = (temp + (s.sensAt n).offset, true, s.now) := by
        rw [← State.reading_at hn, told, State.reading_at hn, State.reading_sampled hn]
      refine ⟨congrArg Prod.fst own, congrArg (·.2.1) own, congrArg (·.2.2) own, fun k hk hk' => ?_⟩
      have other : (u.sensAt k).reading = (s.sensAt k).reading := by
        rw [← State.reading_at hk', told, State.reading_at hk', State.sampled, State.sensAt_updSens_other s (Ne.symm hk)]
      exact congrArg Prod.fst other
  · intro s n w th hn hw ht
    dsimp only
    refine ⟨fun hb hh => State.compareSample_counts ht (.inr ?_) ?_, fun hb hh ha => State.compareSample_counts ht (.inr ?_) ?_,
      fun hb hh ha hc => State.compareSample_enters ht hc hb ha ?_⟩
    · exact fun e => absurd e.1 (by omega)
    · have below : ¬ th ≤ (s.sensAt n).temp := by omega
      have edge : ¬ th - s.hysteresis (groupOf n) w ≤ (s.sensAt n).temp := by omega
      simp [Cross.judged, State.aboveEdge_eq ht, below, edge]
    · exact fun e => absurd e.2 (by omega)
    · have edge : th - s.hysteresis (groupOf n) w ≤ (s.sensAt n).temp := by omega
      have few : min 3 ((Table.at (s.sensAt n).cross w {}).above + 1) = (Table.at (s.sensAt n).cross w {}).above + 1 := by omega
      have two : (Table.at (s.sensAt n).cross w {}).above ≠ 2 := by omega
      simp [Cross.judged, State.aboveEdge_eq ht, hb, edge, few, two]
    · have edge : th - s.hysteresis (groupOf n) w ≤ (s.sensAt n).temp := by omega
      have three : min 3 ((Table.at (s.sensAt n).cross w {}).above + 1) = 3 := by omega
      simp [Cross.judged, State.aboveEdge_eq ht, hb, edge, three]
  · intro s n w hn hw
    exact ⟨fun h hb => effect_of (if_pos ⟨hn, hw⟩) (if_pos ⟨h, hb⟩), fun h => effect_of (if_pos ⟨hn, hw⟩) (if_neg fun e =>
      h.elim (fun h => Bool.false_ne_true (h.symm.trans e.1)) fun h => by rw [h] at e; exact Bool.false_ne_true e.2)⟩
  · intro s m hm
    have on {u v : State} (h : u = v) : s.onUnit m 16 u = s.finish v := h ▸ State.onUnit_of_lt hm
    dsimp only
    refine ⟨fun h0 hr hb ha => ?_, fun h => ?_, fun h2 hr hb => ?_, fun h1 hr hb => ?_, fun h => ?_⟩
    · exact effect_of (on (if_pos ⟨h0, by simp [hr], by simp [hb], ha⟩)) rfl
    · refine effect_of (on (if_neg fun e => ?_)) rfl
      exact h.elim e.1 fun h => h.elim e.2.1 fun h => Bool.false_ne_true (h.symm.trans e.2.2.2)
    · exact effect_of (on (State.evThrottleRelease_to (by omega) hr hb (by simp [show (s.mouldAt m).throttle ≠ 1 by omega]; omega))) rfl
    · exact effect_of (on (State.evThrottleRelease_to (by omega) hr hb (by simp [h1]))) rfl
    · exact effect_of (on (if_neg fun e => h.elim e.1 fun h => Bool.false_ne_true (h.symm.trans e.2.1))) rfl
  · intro s k hk
    have on {u v : State} (h : u = v) : s.onUnit k 8 u = s.finish v := h ▸ State.onUnit_of_lt hk
    exact ⟨fun h ha => effect_of (on ((if_pos h).trans (if_pos ha))) rfl,
      fun h ha => effect_of (on ((if_pos h).trans (if_neg fun e => Bool.false_ne_true (ha.symm.trans e)))) rfl,
      fun h => effect_of (on (if_neg fun e => Bool.false_ne_true (h.symm.trans e))) rfl⟩
  · intro s back
    refine ⟨fun hf hs ha => ?_, fun hf hs ha => ?_, fun h => ?_, fun hm hd hp => effect_of rfl (if_pos ⟨hm, hd, hp⟩), fun h => ?_,
      fun c hc hf hw => effect_of (State.onUnit_of_lt hc) (if_pos ⟨hf, hw⟩), fun c hc h => ?_, fun c hc hf hw h5 h9 => ?_, fun c hc h => ?_,
      fun a b ha hb hf hp hd => ?_, fun h => ?_⟩
    · exact effect_of rfl ((if_neg (by simp [hf, hs])).trans (congrArg State.warmBandCap (if_neg (by rw [ha]; nofun))))
    · exact effect_of rfl ((if_neg (by simp [hf, hs])).trans (congrArg State.warmBandCap (if_pos ha)))
    · exact effect_of rfl (if_pos (h.imp_left fun h => by rw [h]; rfl))
    · exact effect_of rfl (if_neg fun e => h.elim (· e.1) fun h => h.elim (· e.2.1) fun h => absurd e.2.2 (Nat.not_lt.2 h))
    · refine effect_of (State.onUnit_of_lt hc) (if_neg fun e => ?_)
      exact h.elim (fun h => Bool.false_ne_true (h.symm.trans e.1)) fun h => Bool.false_ne_true (h.symm.trans e.2)
    · refine effect_of (State.onUnit_of_lt hc) (if_pos ⟨hf, by simp [hw], ?_, ?_⟩)
      · exact Decidable.or_iff_not_imp_left.2 fun e => (h5 (not_not.1 e)).imp_left fun h => by simp [h]
      · exact Decidable.or_iff_not_imp_left.2 fun e => h9 (not_not.1 e)
    · refine effect_of (State.onUnit_of_lt hc) (if_neg fun ⟨hf, hw, _, h9⟩ => ?_)
      obtain h | h | ⟨hc9, hp⟩ := h
      · exact Bool.false_ne_true (h.symm.trans hf)
      · exact hw h
      · exact h9.elim (· hc9) (Nat.not_lt.2 hp)
    · exact effect_of rfl (State.evFlow_measured ha hb hf hp hd)
    · exact effect_of rfl (State.evFlow_none h)

end Sys2Proof.Machine
end

section
/-! SUPPORT. Power ticks, scaling and prediction (O56). -/
namespace Sys2Proof.Machine

/-! ### AVSBus -/

/-- What a step of AVSBus may change: VCORE by 25 mV, and the cap limit down to what VCORE supports where nothing answers. -/
structure State.AvsStep (ack : Bool × Bool) (s t : State) : Prop where
  frame : t = { s with thm := { s.thm with mCap := t.thm.mCap }, mould := t.mould, supply := t.supply, out := t.out }
  le : t.thm.mCap ≤ s.thm.mCap
  least : 29 ≤ s.thm.mCap → 29 ≤ t.thm.mCap
  answered : ack.1 = true ∨ ack.2 = true → t.thm.mCap = s.thm.mCap
  silent : s.supply.avsOk = false → ack = (false, false) → t.supply.avsOk = false ∧ t.supply.avsReq = s.supply.avsReq ∧
    t.supply.avsAck = s.supply.avsAck ∧ t.thm.mCap ≤ s.supply.clockFor
  up : t.supply.avsReq ≤ s.supply.avsReq + 25
  down : s.supply.avsReq ≤ t.supply.avsReq + 25

section
variable {s t : State}

theorem Supply.clockFor_least (u : Supply) : 29 ≤ u.clockFor := Nat.le_add_right ..

/-- The Moulds' clocks follow the limit, and nothing else changes. -/
theorem State.refreshMults_form (s : State) : ∃ m, s.refreshMults = { s with mould := m } :=
  State.foldl_form (fun s m => { s with mould := m }) State.mould (fun _ => rfl) (fun _ _ _ => rfl) State.refreshMult (fun _ _ => ⟨_, rfl⟩) _ s

/-- A request that is answered, at once or when it is made again. -/
theorem State.avsAsk_answered (v : Nat) {ack : Bool × Bool} (h : ack.1 = true ∨ ack.2 = true) : ∃ o,
    s.avsAsk v ack = { s with supply := { s.supply with avsReq := v, avsOk := true, avsAck := v }, out := o } := by
  have ok : (ack.1 || ack.2) = true := Bool.or_eq_true_iff.2 h
  simp only [State.avsAsk, ok, if_true]
  split
  · exact ⟨_, rfl⟩
  · exact ⟨_, rfl⟩

/-- One that is not leaves the clock held to what the last answer supports. -/
theorem State.avsAsk_silent (v : Nat) : ∃ m o, s.avsAsk v (false, false) = { s with
    supply := { s.supply with avsReq := v, avsOk := false }, thm := { s.thm with mCap := min s.thm.mCap s.supply.clockFor }, mould := m, out := o } := by
  obtain ⟨m, h⟩ := State.refreshMults_form ({ s with
    supply := { s.supply with avsReq := v, avsOk := false }, thm := { s.thm with mCap := min s.thm.mCap s.supply.clockFor }
    out := .bus "AVSBus VCORE" [v] :: .bus "AVSBus VCORE" [v] :: s.out } : State)
  exact ⟨m, _, h⟩

/-- A request within a step of the last one, and for the last one itself where AVSBus is silent. -/
theorem State.avsAsk_step (v : Nat) (ack : Bool × Bool) (hu : v ≤ s.supply.avsReq + 25) (hd : s.supply.avsReq ≤ v + 25)
    (hs : s.supply.avsOk = false → v = s.supply.avsReq) : State.AvsStep ack s (s.avsAsk v ack) := by
  by_cases h : ack.1 = true ∨ ack.2 = true
  · obtain ⟨o, e⟩ := State.avsAsk_answered (s := s) v h
    rw [e]
    exact ⟨rfl, Nat.le_refl _, id, fun _ => rfl, fun _ ha => by rw [ha] at h; simp at h, hu, hd⟩
  · have ha : ack = (false, false) := Prod.ext (by simpa using fun e => h (.inl e)) (by simpa using fun e => h (.inr e))
    subst ha
    obtain ⟨m, o, e⟩ := State.avsAsk_silent (s := s) v
    rw [e]
    exact ⟨rfl, Nat.min_le_left .., fun h => Nat.le_min.2 ⟨h, s.supply.clockFor_least⟩, fun h => absurd h (by decide),
      fun hk _ => ⟨rfl, hs hk, rfl, Nat.min_le_right ..⟩, hu, hd⟩

/-- Nothing asked is a step too, where AVSBus answers. -/
theorem State.AvsStep.refl (ack : Bool × Bool) (h : s.supply.avsOk = true) : State.AvsStep ack s s :=
  ⟨rfl, Nat.le_refl _, id, fun _ => rfl, fun hs => absurd (h.symm.trans hs) (by decide), Nat.le_add_right .., Nat.le_add_right ..⟩

/-- A step towards a voltage moves VCORE by at most 25 mV. -/
theorem State.avsToward_step (s : State) (mv : Nat) (ack : Bool × Bool) : State.AvsStep ack s (s.avsToward mv ack) := by
  unfold State.avsToward
  dsimp only
  generalize max 650 (min 850 ((mv + 4) / 5 * 5)) = goal
  generalize hv : (if s.supply.avsReq < goal then min goal (s.supply.avsReq + 25) else max goal (s.supply.avsReq - 25)) = v
  have near : v ≤ s.supply.avsReq + 25 ∧ s.supply.avsReq ≤ v + 25 := by
    subst hv
    split
    · omega
    · omega
  by_cases ok : s.supply.avsOk = true
  · rw [if_neg (not_not.2 ok)]
    split
    · exact State.AvsStep.refl ack ok
    · exact State.avsAsk_step v ack near.1 near.2 fun h => absurd (ok.symm.trans h) (by decide)
  · rw [if_pos ok]
    exact State.avsAsk_step _ ack (Nat.le_add_right ..) (Nat.le_add_right ..) fun _ => rfl

/-! ### How the controller acts -/

/-- What a tick of the controller may change: down where the estimate is above the limit, up where it is not, and within what a silent AVSBus
leaves. -/
structure State.PowerStep (high : Prop) (ack : Bool × Bool) (s t : State) : Prop where
  frame : t = { s with thm := { s.thm with mCap := t.thm.mCap, duty := t.thm.duty }, mould := t.mould, supply := t.supply, out := t.out }
  falls : high → t.thm.mCap ≤ s.thm.mCap ∧ t.thm.duty ≤ s.thm.duty ∧ (29 < s.thm.mCap → t.thm.mCap < s.thm.mCap ∧ 29 ≤ t.thm.mCap) ∧
    (s.thm.mCap ≤ 29 → 1 < s.thm.duty → t.thm.duty < s.thm.duty ∧ 1 ≤ t.thm.duty)
  rises : ¬ high → ack.1 = true ∨ ack.2 = true → s.thm.mCap ≤ t.thm.mCap ∧ s.thm.duty ≤ t.thm.duty
  silent : s.supply.avsOk = false → ack = (false, false) → t.supply.avsOk = false ∧ t.supply.avsReq = s.supply.avsReq ∧
    t.supply.avsAck = s.supply.avsAck ∧ t.thm.mCap ≤ s.supply.clockFor
  up : t.supply.avsReq ≤ s.supply.avsReq + 25
  down : s.supply.avsReq ≤ t.supply.avsReq + 25

/-- The estimate is above the limit, or the ramp limiter's allowance below the core's power. -/
def State.powerHigh (s : State) (est coreW : Nat) : Prop :=
  min s.thm.capW 1600 < est + s.estError est ∨ (s.thm.rampAllow ≠ 0xFFFF ∧ s.thm.rampAllow < coreW)

/-- Above the limit the cap limit falls first, then the duty cycle, and AVSBus takes its step. -/
theorem State.powerAct_high {est coreW : Nat} (h : s.powerHigh est coreW) (mv : Nat) (ack : Bool × Bool) : ∃ m d c,
    s.powerAct est coreW mv ack = ({ s with thm := { s.thm with mCap := c, duty := d }, mould := m } : State).avsToward mv ack ∧
      c ≤ s.thm.mCap ∧ d ≤ s.thm.duty ∧ (29 < s.thm.mCap → c < s.thm.mCap ∧ 29 ≤ c) ∧
      (s.thm.mCap ≤ 29 → 1 < s.thm.duty → d < s.thm.duty ∧ 1 ≤ d) := by
  have high : (decide (s.powerLimit < est + s.estError est) || (s.thm.rampAllow != 0xFFFF && decide (s.thm.rampAllow < coreW))) = true := by
    simpa [State.powerHigh, State.powerLimit] using h
  unfold State.powerAct
  dsimp only
  rw [if_pos high]
  generalize Config.freeOf 10 [s.thm.mCap, s.thm.duty, est, s.powerLimit, coreW] = f
  split
  next hc =>
    obtain ⟨m, e⟩ := State.refreshMults_form ({ s with thm := { s.thm with mCap := 29 + f % (s.thm.mCap - 29) } } : State)
    have room := Nat.mod_lt f (Nat.sub_pos_of_lt hc)
    exact ⟨m, s.thm.duty, _, by rw [e], by omega, Nat.le_refl _, fun _ => by omega, fun h => absurd hc (Nat.not_lt.2 h)⟩
  next hc =>
    split
    next hd =>
      have room := Nat.mod_lt f (Nat.sub_pos_of_lt hd)
      exact ⟨s.mould, _, s.thm.mCap, rfl, Nat.le_refl _, by omega, fun h => absurd h hc, fun _ _ => by omega⟩
    next hd => exact ⟨s.mould, s.thm.duty, s.thm.mCap, rfl, Nat.le_refl _, Nat.le_refl _, fun h => absurd h hc, fun _ h => absurd h hd⟩

/-- Below it VCORE rises first; then the duty cycle and the cap limit, within what a silent AVSBus leaves. -/
theorem State.powerAct_low {est coreW : Nat} (h : ¬ s.powerHigh est coreW) (mv : Nat) (ack : Bool × Bool) : ∃ (v : State) (m : Vector Mould 16) (d c : Nat),
    s.powerAct est coreW mv ack = { v with thm := { v.thm with mCap := c, duty := d }, mould := m } ∧ State.AvsStep ack s v ∧
      v.thm.mCap ≤ c ∧ v.thm.duty ≤ d ∧ (v.supply.avsOk = false → s.supply.avsOk = false → v.thm.mCap ≤ v.supply.clockFor → c ≤ v.supply.clockFor) := by
  have low : ¬ (decide (s.powerLimit < est + s.estError est) || (s.thm.rampAllow != 0xFFFF && decide (s.thm.rampAllow < coreW))) = true := by
    simpa [State.powerHigh, State.powerLimit] using h
  unfold State.powerAct
  dsimp only
  rw [if_neg low]
  generalize Config.freeOf 10 [s.thm.mCap, s.thm.duty, est, s.powerLimit, coreW] = f
  split
  next hv =>
    exact ⟨_, _, _, _, rfl, State.avsToward_step s mv ack, Nat.le_refl _, Nat.le_refl _, fun _ hs => absurd (hs.symm.trans hv.1) (by decide)⟩
  next =>
    have step : State.AvsStep ack s (if s.supply.avsOk then s else s.avsToward mv ack) := by
      split
      next ok => exact State.AvsStep.refl ack ok
      next => exact State.avsToward_step s mv ack
    generalize (if s.supply.avsOk then s else s.avsToward mv ack) = v at step ⊢
    generalize htop : (if v.supply.avsOk then 156 else v.supply.clockFor) = top
    split
    next => exact ⟨v, v.mould, _, v.thm.mCap, rfl, step, Nat.le_refl _, by omega, fun _ _ h => h⟩
    next =>
      split
      next hc =>
        obtain ⟨m, e⟩ := State.refreshMults_form ({ v with thm := { v.thm with
          mCap := v.thm.mCap + 1 + f % (top - v.thm.mCap) } } : State)
        refine ⟨v, m, v.thm.duty, _, e, step, by omega, Nat.le_refl _, fun hk _ _ => ?_⟩
        have room := Nat.mod_lt f (Nat.sub_pos_of_lt hc)
        have clock : v.supply.clockFor = top := by rw [← htop, hk]; rfl
        omega
      next => exact ⟨v, v.mould, v.thm.duty, v.thm.mCap, rfl, step, Nat.le_refl _, Nat.le_refl _, fun _ _ h => h⟩

theorem State.powerAct_step (est coreW mv : Nat) (ack : Bool × Bool) : State.PowerStep (s.powerHigh est coreW) ack s (s.powerAct est coreW mv ack) := by
  by_cases h : s.powerHigh est coreW
  · obtain ⟨m, d, c, e, hc, hd, hcap, hduty⟩ := State.powerAct_high h mv ack
    have step := State.avsToward_step ({ s with thm := { s.thm with mCap := c, duty := d }, mould := m } : State) mv ack
    rw [← e] at step
    generalize s.powerAct est coreW mv ack = t at step
    have duty : t.thm.duty = d := congrArg (fun u : State => u.thm.duty) step.frame
    refine ⟨?_, fun _ => ⟨step.le.trans hc, duty ▸ hd, fun h => ⟨step.le.trans_lt (hcap h).1, step.least (hcap h).2⟩, fun h1 h2 => duty ▸ hduty h1 h2⟩,
      fun hn => absurd h hn, step.silent, step.up, step.down⟩
    rw [duty]
    exact step.frame
  · obtain ⟨v, m, d, c, e, step, hc, hd, hk⟩ := State.powerAct_low h mv ack
    rw [e]
    have duty : v.thm.duty = s.thm.duty := (congrArg (fun u : State => u.thm.duty) step.frame).trans rfl
    refine ⟨?_, fun hn => absurd hn h, fun _ ha => ⟨step.answered ha ▸ hc, duty ▸ hd⟩, fun hs ha => ?_, step.up, step.down⟩
    · have frame := congrArg (fun u : State => ({ u with thm := { u.thm with mCap := c, duty := d }, mould := m } : State)) step.frame
      exact frame
    · obtain ⟨hok, hreq, hack, hcap⟩ := step.silent hs ha
      have clock : v.supply.clockFor = s.supply.clockFor := by rw [Supply.clockFor, Supply.clockFor, hack]
      exact ⟨hok, hreq, hack, clock ▸ hk hok hs (clock ▸ hcap)⟩

/-! ### The scale of the estimate -/

theorem State.warmBandCap_form (s : State) : ∃ b w k p o, s.warmBandCap = { s with
    dev := { s.dev with warmBand := b }, thm := { s.thm with warmCapped := w }, cal := k, damem := { s.damem with page := p }, out := o } := by
  unfold State.warmBandCap
  dsimp only
  split
  · split
    · exact ⟨_, _, _, _, _, rfl⟩
    · obtain ⟨k, p, o, h⟩ := State.log_form ({ s with dev := { s.dev with warmBand := false }, thm := { s.thm with warmCapped := true } } : State)
        0x6007 (param [(2, s.thm.capW)]) none true false true
      exact ⟨false, true, k, p, o, h⟩
  · exact ⟨s.dev.warmBand, false, s.cal, s.damem.page, s.out, rfl⟩

/-- The scale that the readings give: it follows fresh telemetry, and stays while some is stale. -/
def State.scaled (s : State) : Nat :=
  if !(s.supply.tele.toList.any (·.stale)) ∧ s.thm.pkgW ≠ 0 then
    s.thm.scale * ((s.supply.tele.toList.map fun t => t.vout * t.iout).sum / 10000) / s.thm.pkgW
  else s.thm.scale

/-- The samples of the serving reference, with the one of this step. -/
def State.sampled10ms (s : State) : List Int :=
  match s.dieMean with
  | some m => if s.dev.state = DevState.serving then (m :: s.dev.servingSamples).take 6000 else s.dev.servingSamples
  | none => s.dev.servingSamples

/-- The device that has rescaled its estimate and taken its sample. -/
def State.rescaled (s : State) : State :=
  { s with thm := { s.thm with scale := s.scaled }, dev := { s.dev with servingSamples := s.sampled10ms } }

/-- The WARM loop's step: the floor rises while the band is not met. -/
def State.warmLoop (s : State) : State :=
  match s.dieMean with
  | some m =>
    if s.dev.state = DevState.anneal ∧ ¬ s.rampMode then
      if s.bandMet then { s with dev := { s.dev with warmBand := true }, thm := { s.thm with warmCapped := false } }
      else
        ({ s with dev := { s.dev with warmBand := false },
                  thm := { s.thm with warmFloor :=
                    if s.thm.warmFloor < s.row.warmW then
                      s.thm.warmFloor + 1 + Config.freeOf 11 [s.thm.warmFloor, m.toNat] % (s.row.warmW - s.thm.warmFloor)
                    else s.thm.warmFloor } } : State).warmBandCap
    else s
  | none => s

/-- A sample of the serving reference: the device that has rescaled takes it. -/
def State.sampleTaken (s : State) : State :=
  match s.dieMean with
  | some m =>
    if s.dev.state = DevState.serving then { s with dev := { s.dev with servingSamples := (m :: s.dev.servingSamples).take 6000 } } else s
  | none => s

theorem State.sampleTaken_eq (s : State) : s.sampleTaken = { s with dev := { s.dev with servingSamples := s.sampled10ms } } := by
  unfold State.sampleTaken State.sampled10ms
  split
  · split
    · rfl
    · rfl
  · rfl

theorem State.evRescale_eq (s : State) : s.evRescale = s.rescaled.warmLoop := by
  have scale : (if !(s.supply.tele.toList.any (·.stale)) ∧ s.thm.pkgW ≠ 0 then
      { s with thm := { s.thm with
        scale := s.thm.scale * ((s.supply.tele.toList.map fun t => t.vout * t.iout).sum / 10000) / s.thm.pkgW } }
      else s) = { s with thm := { s.thm with scale := s.scaled } } := by
    unfold State.scaled
    split
    · rfl
    · rfl
  exact congrArg State.warmLoop ((congrArg State.sampleTaken scale).trans (State.sampleTaken_eq _))

/-- The WARM loop moves its floor and its signs, and nothing else. -/
theorem State.warmLoop_form (s : State) : ∃ b f w k p o, s.warmLoop = { s with
    dev := { s.dev with warmBand := b }, thm := { s.thm with warmFloor := f, warmCapped := w }, cal := k, damem := { s.damem with page := p }, out := o } := by
  have same : ∃ b f w k p o, s = ({ s with
      dev := { s.dev with warmBand := b }, thm := { s.thm with warmFloor := f, warmCapped := w }, cal := k, damem := { s.damem with page := p }, out := o } : State) :=
    ⟨s.dev.warmBand, s.thm.warmFloor, s.thm.warmCapped, s.cal, s.damem.page, s.out, rfl⟩
  unfold State.warmLoop
  split
  · split
    · split
      · exact ⟨_, s.thm.warmFloor, _, s.cal, s.damem.page, s.out, rfl⟩
      · generalize (if s.thm.warmFloor < s.row.warmW then _ else s.thm.warmFloor) = f
        obtain ⟨b, w, k, p, o, h⟩ := State.warmBandCap_form ({ s with dev := { s.dev with warmBand := false }, thm := { s.thm with warmFloor := f } } : State)
        exact ⟨b, f, w, k, p, o, h⟩
    · exact same
  · exact same

/-! ### The samples of a start -/

/-- The partitions that a start sets going leave the thermal state as it is. -/
theorem State.startsRun_thm (s : State) : s.startsRun.thm = s.thm := by
  have entered : (if s.dev.state = .anneal then s.stateTo .serving .partStart else s).thm = s.thm := by
    refine State.ite_keeps State.thm ?_ rfl
    obtain ⟨w, x, p, c, d, o, h⟩ := State.stateTo_form s .serving .partStart
    rw [h]
  have refresh (u : State) (r : Nat) : (u.ringRefresh r).thm = u.thm := by
    unfold State.ringRefresh
    split
    · rfl
    · rfl
  have begun (u : State) (p : Nat) (st : PState) : (u.partTo p st).thm = u.thm :=
    (State.log_thm ..).trans (State.foldl_keeps State.thm refresh _ _)
  refine (State.foldl_keeps State.thm (fun u p => State.ite_keeps State.thm ((State.answerWaiting_thm ..).trans ?_) rfl) _ _).trans entered
  exact begun _ p .started

/-- Without a start's samples a step takes none; the first two it keeps; no step changes the scale. -/
theorem State.seedStep_none (h : s.thm.seed = none) : s.seedStep = s := by
  rw [State.seedStep, h]

theorem State.seedStep_keeps {m : Int} {l : List Int} (hm : s.dieMean = some m) (hs : s.thm.seed = some l) (hl : l.length < 2) :
    s.seedStep = { s with thm := { s.thm with seed := some (m :: l) } } := by
  rw [State.seedStep, hm, hs]
  exact if_pos (Nat.succ_lt_succ hl)

theorem State.seedStep_scale (s : State) : s.seedStep.thm.scale = s.thm.scale := by
  unfold State.seedStep
  split
  · split
    · rfl
    · rw [State.startsRun_thm]
  · rfl

/-! ### The predictor -/

/-- What the ramp limiter leaves of the prediction. -/
def Thermal.prediction (x : Thermal) : Int × Nat := (x.tPred, x.history)

theorem State.rampStep_prediction (s : State) (tin : Int) : (s.rampStep tin).thm.prediction = s.thm.prediction := by
  let view (u : State) : Int × Nat := u.thm.prediction
  refine State.ite_keeps view ?_ (State.ite_keeps view rfl rfl)
  refine State.ite_keeps view (State.ite_keeps view rfl ?_) rfl
  exact (congrArg Thermal.prediction (State.log_thm ..)).trans rfl

/-- The temperature that a step of the predictor arrives at from an inlet reading. -/
def State.predicted (s : State) (t : Int) : Int :=
  let drive := t * 65536 / 100 + ((s.thm.rTh * s.thm.coreW * 65536 : Nat) : Int) / 1000000
  let t1 := s.thm.tPred + (drive - s.thm.tPred) / ((max 1 s.thm.tau : Nat) : Int)
  match meanOf (s.validTemps (List.range 80)) with
  | some m => t1 + (m * 65536 / 100 - t1) / 64
  | none => t1

theorem State.evPredictor_blind (h : s.thm.tIn = none) : s.evPredictor = { s with thm := { s.thm with
    history := if s.inService then min 600000 (s.thm.history + 1) else s.thm.history } } := by
  rw [State.evPredictor]
  dsimp only
  rw [h]

theorem State.evPredictor_at {t : Int} (h : s.thm.tIn = some t) : s.evPredictor = ({ s with thm := { s.thm with
    history := if s.inService then min 600000 (s.thm.history + 1) else s.thm.history, tPred := s.predicted t } } : State).rampStep (t * 65536 / 100) := by
  rw [State.evPredictor]
  dsimp only
  rw [h]
  rfl

end

/-- Settles O56: a tick's act is a step of the controller, the scale and the samples are the forms of a rescale, and the prediction is what
the ramp limiter leaves. -/
theorem powerAndPredictionAct : Obligations.PowerAndPredictionAct := by
  refine ⟨?_, ?_, ?_⟩
  · intro s a c v ack est high
    have step := State.powerAct_step (s := s) est c v ack
    have power : (s.powerAct est c v ack).thm.power = s.thm.power := (congrArg (fun u : State => u.thm.power) step.frame).trans rfl
    refine ⟨s.evPowerTick a c v ack, effect_of rfl rfl, ?_, ⟨rfl, rfl⟩, step.falls, step.rises, step.silent, step.up, step.down, ?_⟩
    · rw [← power]
      rfl
    · have frame := congrArg (fun u : State => ({ u with thm := (s.evPowerTick a c v ack).thm } : State)) step.frame
      exact frame
  · intro s
    obtain ⟨b, f, w, k, p, o, form⟩ := State.warmLoop_form s.rescaled
    have rescale : s.evRescale = _ := (State.evRescale_eq s).trans form
    have scale : s.evRescale.seedStep.thm.scale = s.scaled := (State.seedStep_scale _).trans ((congrArg (fun u : State => u.thm.scale) rescale).trans rfl)
    have mean : s.evRescale.dieMean = s.dieMean := (congrArg State.dieMean rescale).trans rfl
    have seed : s.evRescale.thm.seed = s.thm.seed := (congrArg (fun u : State => u.thm.seed) rescale).trans rfl
    refine ⟨s.evRescale.seedStep, effect_of rfl rfl, fun h => scale.trans (if_neg fun e => ?_), fun hf hp => scale.trans (if_pos ⟨by rw [hf]; rfl, hp⟩),
      fun m l hm hs hl => ?_, fun hs => ?_⟩
    · exact h.elim (fun h => by rw [h] at e; exact Bool.false_ne_true e.1) e.2
    · rw [State.seedStep_keeps (mean.trans hm) (seed.trans hs) hl]
    · rw [State.seedStep_none (seed.trans hs), rescale]
      refine ⟨fun m hm hd => ?_, rfl, rfl, rfl, rfl⟩
      show s.sampled10ms = _
      rw [State.sampled10ms, hm]
      exact if_pos hd
  · intro s hist
    refine ⟨fun h => effect_of rfl (State.evPredictor_blind h), fun t ht => ?_, fun r u h => effect_of rfl (if_pos h),
      fun r u h => effect_of rfl (if_neg h)⟩
    intro drive t1 t2
    have told := (congrArg (fun u : State => u.thm.prediction) (State.evPredictor_at ht)).trans (State.rampStep_prediction _ _)
    refine ⟨⟨s.evPredictor, effect_of rfl rfl, congrArg Prod.fst told, congrArg Prod.snd told⟩, fun hr ha => ?_⟩
    refine effect_of rfl ((State.evPredictor_at ht).trans ((if_neg fun e => ?_).trans (if_pos ha)))
    exact Bool.false_ne_true (hr.symm.trans e)

end Sys2Proof.Machine
end

section
/-! SUPPORT. The analog array (O57). -/
namespace Sys2Proof.Machine

/-! ### Rounding -/

/-- A quotient rounded to nearest is within half of its divisor. -/
theorem rneDiv_near (n : Int) {d : Nat} (hd : d ≠ 0) : 2 * (rneDiv n d * (d : Int) - n).natAbs ≤ d := by
  have split_ := Int.mul_ediv_add_emod n d
  have low := Int.emod_nonneg n (Int.natCast_ne_zero.2 hd)
  have high := Int.emod_lt_of_pos n (Int.natCast_pos.2 (Nat.pos_of_ne_zero hd))
  have down : n / d * d - n = -(n % d) := by linarith [Int.mul_comm (n / d) d]
  have up : (n / d + 1) * d - n = d - n % d := by linarith [Int.mul_comm (n / d) d, Int.add_mul (n / d) 1 d]
  unfold rneDiv
  dsimp only
  show 2 * ((if 2 * (n % d) < d then n / d else if 2 * (n % d) > d then n / d + 1 else if n / d % 2 = 0 then n / d else n / d + 1) * (d : Int) - n).natAbs ≤ d
  split
  · rw [down]; omega
  · split
    · rw [up]; omega
    · split
      · rw [down]; omega
      · rw [up]; omega

/-- A value held between two ends. -/
theorem clampInt_eq {lo hi : Int} (h : lo ≤ hi) (x : Int) : clampInt lo hi x = max lo (min hi x) := by
  unfold clampInt
  split
  · omega
  · split
    · omega
    · omega

/-! ### Conversions -/

section
variable {s : State} {n k : Nat}

/-- A converter with no step of Planish under way at it goes on. -/
theorem State.planishBoundary_none {q : Nat} (h : ∀ p, Table.at s.pln.dom 0 none = some p → p.qty ≠ q ∨ p.index ≠ n) :
    s.planishBoundary q n = (false, s) := by
  unfold State.planishBoundary
  split
  next p hp => exact if_neg fun e => (h p hp).elim (· e.1) (· e.2)
  next => rfl

/-- A conversion of a converter with no step of Planish, and no scan of the steward, is its own event. -/
theorem exec_dsConversion {t : State} {i : DsInput} (hn : n < 4) (hk : k < 8) (hs : s.stew.scanSeen = none)
    (hp : ∀ p, Table.at s.pln.dom 0 none = some p → p.qty ≠ 0x0010 ∨ p.index ≠ n) (h : s.evDsConversion n k i.vin i.vt = t)
    (hstew : t.stew = s.stew) (hpln : t.pln = s.pln) : exec (.dsConversion n k i) s = s.finish t := by
  have scan : t.stewScan n k = t := by rw [State.stewScan, hstew, hs]
  have bound : t.planishBoundary 0x0010 n = (false, t) := State.planishBoundary_none (hpln ▸ hp)
  refine (if_pos ⟨hn, hk⟩).trans ?_
  rw [h, scan, bound, State.safeCause_none]

theorem exec_sarConversion {t : State} {vin : Int} (hn : n < 2) (hk : k < 16)
    (hp : ∀ p, Table.at s.pln.dom 0 none = some p → p.qty ≠ 0x0011 ∨ p.index ≠ n) (h : s.evSarConversion n k vin = t)
    (hpln : t.pln = s.pln) : exec (.sarConversion n k vin) s = s.finish t := by
  have bound : t.planishBoundary 0x0011 n = (false, t) := State.planishBoundary_none (hpln ▸ hp)
  refine (if_pos ⟨hn, hk⟩).trans ?_
  rw [h, bound, State.safeCause_none]

/-- A value that is over range stands at its end. -/
theorem clamped_value (exc : Bool) (raw : Int) :
    (if (exc || decide (2 ^ 23 ≤ raw ∨ raw < -(2 ^ 23))) = true then (if raw < 0 then -(2 ^ 23) else 2 ^ 23 - 1) else raw) =
      if exc = true ∧ 0 ≤ raw then 2 ^ 23 - 1 else if exc = true then -(2 ^ 23) else max (-(2 ^ 23)) (min (2 ^ 23 - 1) raw) := by
  cases exc
  · simp only [Bool.false_or, decide_eq_true_eq, Bool.false_eq_true, false_and, if_false]
    split
    · split
      · omega
      · omega
    · omega
  · simp only [Bool.true_or, if_true, true_and]
    split
    · rw [if_neg (by omega)]
    · rw [if_pos (by omega)]

/-- Over range is the loss of the string or a value beyond the ends. -/
theorem over_range (exc : Bool) (raw : Int) :
    (exc || decide (2 ^ 23 ≤ raw ∨ raw < -(2 ^ 23))) = decide (exc = true ∨ raw < -(2 ^ 23) ∨ 2 ^ 23 ≤ raw) := by
  cases exc
  · simp [or_comm]
  · simp

/-- What the window of over-range becomes. -/
theorem windowAfter_eq (left full : Nat) (p : Prop) [Decidable p] (x : Int) :
    windowAfter left (decide p) full x = if p then max (left - 1) (if 2 * x.natAbs ≤ 3 * full then 2 else 8) else left - 1 := by
  unfold windowAfter recoveryWindow
  simp only [decide_eq_true_eq]

/-- What the plate's temperatures follow is in the thermal state. -/
theorem State.plateFollow_form (s : State) (n k : Nat) (w : Reg32) (gain : Nat) : ∃ x, s.plateFollow n k w gain = { s with thm := x } := by
  by_cases hi : s.prog.inlet = some (n, k)
  · simp only [State.plateFollow, if_pos hi]
    split
    · exact ⟨_, rfl⟩
    · exact ⟨_, rfl⟩
  · simp only [State.plateFollow, if_neg hi]
    split
    · exact ⟨_, rfl⟩
    · exact ⟨s.thm, rfl⟩

/-- The word that a conversion reports. -/
def DsConv.word (d : DsConv) (k : Nat) (raw : Int) (exc : Bool) : Reg32 :=
  sampleWord (unsgn 24 (if exc = true ∧ 0 ≤ raw then 2 ^ 23 - 1 else if exc = true then -(2 ^ 23) else max (-(2 ^ 23)) (min (2 ^ 23 - 1) raw)))
    (decide (exc = true ∨ raw < -(2 ^ 23) ∨ 2 ^ 23 ≤ raw)) (decide (0 < d.nbr)) exc false (swSeq (Table.at d.sample k 0) + 1)

/-- A converter that has reported the entry whose turn it is. -/
def DsConv.reported (d : DsConv) (k : Nat) (raw : Int) (exc : Bool) : DsConv :=
  { d with
    sample := Table.put d.sample k (d.word k raw exc)
    nbr := if exc = true ∨ raw < -(2 ^ 23) ∨ 2 ^ 23 ≤ raw then max (d.nbr - 1) (if 2 * raw.natAbs ≤ 3 * 2 ^ 23 then 2 else 8) else d.nbr - 1
    next := if d.nscan ≤ k then 0 else k + 1 }

section
variable {vin : Int} {vt : Nat}

theorem State.evDsConversion_idle (h : s.arrayRuns = false ∨ (Table.at s.aar.ds n {}).en = false ∨ k ≠ (Table.at s.aar.ds n {}).next) :
    s.evDsConversion n k vin vt = s :=
  if_neg fun ⟨hr, he, hk⟩ => h.elim (fun h => Bool.false_ne_true (h.symm.trans hr)) fun h =>
    h.elim (fun h => Bool.false_ne_true (h.symm.trans he)) (· hk)

variable (hr : s.arrayRuns = true) (he : (Table.at s.aar.ds n {}).en = true) (hk : k = (Table.at s.aar.ds n {}).next)
include hr he hk

theorem State.evDsConversion_withdrawn (hc : (Table.at s.aar.ds n {}).cal = true) : s.evDsConversion n k vin vt =
    { s with aar := { s.aar with ds := Table.upd s.aar.ds n fun d => { d with
      sample := Table.put d.sample k (Table.at (Table.at s.aar.ds n {}).sample k 0 ||| 16#32)
      next := if (Table.at s.aar.ds n {}).nscan ≤ k then 0 else k + 1 } } } :=
  (if_pos ⟨hr, he, hk⟩).trans (if_pos hc)

/-- The word is reported, and the plate follows it where the string measures it. -/
theorem State.evDsConversion_reports (hc : (Table.at s.aar.ds n {}).cal = false) {f : DsConv → DsConv}
    (hf : (Table.at s.aar.ds n {}).reported k ((Table.at s.aar.ds n {}).code vin vt) ((Table.at s.aar.ds n {}).touch && !s.aar.stringOk) =
      f (Table.at s.aar.ds n {})) {t : State} (ht : { s with aar := { s.aar with ds := Table.upd s.aar.ds n f } } = t) : s.evDsConversion n k vin vt =
    if (Table.at s.aar.ds n {}).touch && (Table.at s.aar.ds n {}).nbr == 0 then
      t.plateFollow n k ((Table.at s.aar.ds n {}).word k ((Table.at s.aar.ds n {}).code vin vt) ((Table.at s.aar.ds n {}).touch && !s.aar.stringOk))
        (Table.at s.aar.ds n {}).gain
    else t := by
  subst ht
  unfold State.evDsConversion
  rw [if_pos ⟨hr, he, hk⟩]
  dsimp only
  rw [if_neg (by rw [hc]; nofun), clamped_value, over_range, Table.upd_congr s.aar.ds n {} (g := f)]
  · rfl
  · rw [windowAfter_eq]
    exact hf

end

/-- A converter code is the rounded ratio of its inputs. -/
theorem DsConv.code_near (d : DsConv) (vin : Int) (vt : Nat) (h : (if d.touch = true then (vt : Int) else 2500000000) ≠ 0) :
    2 * (d.code vin vt * (if d.touch = true then (vt : Int) else 2500000000) - 2 ^ d.gain * vin * 2 ^ 23).natAbs ≤
      (if d.touch = true then (vt : Int) else 2500000000) := by
  have ref : (if d.touch = true then (vt : Int) else 2500000000) = ((if d.touch then vt else 2500000000 : Nat) : Int) := by
    split
    · rfl
    · rfl
  rw [ref] at h ⊢
  have hd : (if d.touch then vt else 2500000000 : Nat) ≠ 0 := fun e => h (by rw [e]; rfl)
  have near := rneDiv_near (2 ^ d.gain * vin * 2 ^ 23) hd
  have code : d.code vin vt = rneDiv (2 ^ d.gain * vin * 2 ^ 23) (if d.touch then vt else 2500000000) := if_neg hd
  rw [code]
  exact_mod_cast near

theorem sarCode_near (vin : Int) : 2 * (sarCode vin * 5000000000 - vin * 65536).natAbs ≤ 5000000000 :=
  rneDiv_near (vin * 65536) (d := 5000000000) (by decide)

section
variable {vin : Int}

theorem State.evSarConversion_idle (h : s.arrayRuns = false ∨ (Table.at s.aar.sar n {}).nscan = 0 ∨ k ≠ (Table.at s.aar.sar n {}).next ∨
    ((Table.at s.aar.sar n {}).trigger ≠ none ∧ (Table.at s.aar.sar n {}).armed = false)) : s.evSarConversion n k vin = s :=
  if_neg fun ⟨hr, hk, hn, ht⟩ => by
    obtain h | h | h | ⟨h, ha⟩ := h
    · exact Bool.false_ne_true (h.symm.trans hr)
    · exact hn h
    · exact h hk
    · exact ht.elim h fun ht => Bool.false_ne_true (ha.symm.trans ht)

variable (hr : s.arrayRuns = true) (hn : (Table.at s.aar.sar n {}).nscan ≠ 0) (hk : k = (Table.at s.aar.sar n {}).next)
  (ht : (Table.at s.aar.sar n {}).trigger = none ∨ (Table.at s.aar.sar n {}).armed = true)
include hr hn hk ht

theorem State.evSarConversion_withdrawn (hc : (Table.at s.aar.sar n {}).cal = true) : s.evSarConversion n k vin =
    { s with aar := { s.aar with sar := Table.upd s.aar.sar n fun d => { d with
      sample := Table.put d.sample k (Table.at (Table.at s.aar.sar n {}).sample k 0 ||| 16#32)
      next := if (Table.at s.aar.sar n {}).nscan ≤ k + 1 then 0 else k + 1
      armed := (if (Table.at s.aar.sar n {}).nscan ≤ k + 1 then 0 else k + 1) != 0 } } } :=
  (if_pos ⟨hr, hk, hn, ht⟩).trans (if_pos hc)

/-- The code of an entry, bipolar where it is told to. -/
def SarConv.codeOf (d : SarConv) (k : Nat) (vin : Int) : Int := if d.bi.getLsbD k then sarCode vin + 32768 else sarCode vin

/-- A converter that has reported the entry whose turn it is. -/
def SarConv.reported (d : SarConv) (k : Nat) (vin : Int) : SarConv :=
  { d with
    sample := Table.put d.sample k (sampleWord (256 * (max 0 (min 65535 (d.codeOf k vin))).toNat) (decide (d.codeOf k vin < 0 ∨ 65535 < d.codeOf k vin))
      (decide (0 < d.nbr)) false false (swSeq (Table.at d.sample k 0) + 1))
    nbr := if d.codeOf k vin < 0 ∨ 65535 < d.codeOf k vin then
        max (d.nbr - 1) (if 2 * (sarCode vin).natAbs ≤ 3 * (if d.bi.getLsbD k then 32768 else 65536) then 2 else 8)
      else d.nbr - 1
    next := if d.nscan ≤ k + 1 then 0 else k + 1
    armed := (if d.nscan ≤ k + 1 then 0 else k + 1) != 0 }

theorem State.evSarConversion_reports (hc : (Table.at s.aar.sar n {}).cal = false) {f : SarConv → SarConv}
    (hf : (Table.at s.aar.sar n {}).reported k vin = f (Table.at s.aar.sar n {})) :
    s.evSarConversion n k vin = { s with aar := { s.aar with sar := Table.upd s.aar.sar n f } } := by
  unfold State.evSarConversion
  rw [if_pos ⟨hr, hk, hn, ht⟩]
  dsimp only
  rw [if_neg (by rw [hc]; nofun), clampInt_eq (by decide), Table.upd_congr s.aar.sar n {} (g := f)]
  rw [windowAfter_eq]
  exact hf

end

/-! ### Outputs -/

theorem State.spanDone_none (h : (s.aoutAt n).hold = none) : s.spanDone n = s := by
  rw [State.spanDone, h]

theorem State.spanDone_first {sp : Nat} (h : (s.aoutAt n).hold = some (sp, none)) :
    s.spanDone n = s.updAout n fun o => { o with span := sp, code := safeCode sp, hold := none } := by
  rw [State.spanDone, h]

/-- The last code held is taken within the clamps of the new span. -/
theorem State.spanDone_held {sp c : Nat} (h : (s.aoutAt n).hold = some (sp, some c)) : s.spanDone n = s.updAout n fun o => { o with
    span := sp, hold := none, code := c, clamp := decide (c < (spanClamp sp).1 ∨ (spanClamp sp).2 < c) } := by
  rw [State.spanDone, h]
  exact State.updAout_updAout ..

/-- What an output's sense must differ by, by its span. -/
theorem AOut.differs_iff (o : AOut) (v : Nat) (lim : Bool) : o.differs v lim = true ↔
    (o.span = 1 ∧ 400 < ((v : Int) - o.driven).natAbs) ∨ (o.span = 2 ∧ (320 < ((v : Int) - o.driven).natAbs ∨ lim = true)) ∨
      (o.span ≠ 1 ∧ o.span ≠ 2 ∧ (160 < ((v : Int) - o.driven).natAbs ∨ lim = true)) := by
  unfold AOut.differs
  dsimp only
  split
  next h => simp [h]
  next h =>
    split
    next h2 => simp [h2]
    next h2 => simp [h, h2]

section
variable {lim : Bool} {v : Nat} (hv : v < 65536)
include hv

theorem State.evCompliance_same (h : ((s.aoutAt n).differs v lim && s.compliedTo n) = (s.aoutAt n).complLost) :
    s.evCompliance n lim v = s.updAout n fun o => { o with sense := v } := by
  unfold State.evCompliance
  rw [Nat.mod_eq_of_lt hv]
  exact if_pos h

/-- A change of compliance is recorded, and output 0 takes the plate's flow with it. -/
theorem State.evCompliance_changes {lost : Bool} (hl : ((s.aoutAt n).differs v lim && s.compliedTo n) = lost) (h : lost ≠ (s.aoutAt n).complLost)
    {t : State} (ht : ((s.updAout n fun o => { o with sense := v, complLost := lost }).log 0x7004 (param [(1, n)]) none lost true) = t) :
    s.evCompliance n lim v = if n = 0 then (if lost then t.fixedFlowFollow.warnSet 5 else t.fixedFlowFollow) else t := by
  subst ht hl
  unfold State.evCompliance
  rw [Nat.mod_eq_of_lt hv]
  refine (if_neg h).trans ?_
  rw [State.updAout_updAout]

end

end

/-- Settles O57: a conversion is its own event where neither Planish nor the steward is at it, its code within half of the last place; each
other event acts by the branch that its condition leads to. -/
theorem analogArrayConverts : Obligations.AnalogArrayConverts := by
  refine ⟨?_, fun d vin vt => d.code_near vin vt, ?_, sarCode_near, ?_, ?_⟩
  · intro s n k vin vt hn hk hs hp d prev next set
    refine ⟨fun h => ?_, fun hr he hk' hc => ?_, fun hr he hk' hc => ?_⟩
    · exact effect_of (exec_dsConversion hn hk hs hp (State.evDsConversion_idle h) rfl rfl) rfl
    · exact effect_of (exec_dsConversion hn hk hs hp (State.evDsConversion_withdrawn hr he hk' hc) rfl rfl) rfl
    · intro raw exc ov t
      have run : s.evDsConversion n k vin vt = _ := State.evDsConversion_reports hr he hk' hc (t := t) rfl rfl
      refine ⟨fun h => ?_, ?_⟩
      · have idle : ¬ ((Table.at s.aar.ds n {}).touch && (Table.at s.aar.ds n {}).nbr == 0) = true := fun e => by
          obtain ⟨ht, hz⟩ := Bool.and_eq_true_iff.1 e
          exact h.elim (fun h => Bool.false_ne_true (h.symm.trans ht)) fun h => h (eq_of_beq hz)
        exact effect_of (exec_dsConversion hn hk hs hp (run.trans (if_neg idle)) rfl rfl) rfl
      · obtain ⟨x, e⟩ : ∃ x, s.evDsConversion n k vin vt = { t with thm := x } := by
          rw [run]
          split
          · exact State.plateFollow_form ..
          · exact ⟨t.thm, rfl⟩
        exact ⟨_, effect_of (exec_dsConversion hn hk hs hp e rfl rfl) rfl, rfl⟩
  · intro s n k vin hn hk hp d prev next set
    refine ⟨fun h => ?_, fun hr hs hk' ht => ⟨fun hc => ?_, fun hc => ?_⟩⟩
    · exact effect_of (exec_sarConversion hn hk hp (State.evSarConversion_idle h) rfl) rfl
    · exact effect_of (exec_sarConversion hn hk hp (State.evSarConversion_withdrawn hr hs hk' ht hc) rfl) rfl
    · intro c full
      exact effect_of (exec_sarConversion hn hk hp (State.evSarConversion_reports hr hs hk' ht hc rfl) rfl) rfl
  · intro s n hn o
    have on {u v : State} (h : u = v) : s.onUnit n 8 u = s.finish v := h ▸ State.onUnit_of_lt hn
    refine ⟨fun sp hs hf => effect_of (on (if_pos ⟨hf, hs⟩)) rfl, fun sp h => ?_, fun h => effect_of (on (State.spanDone_none h)) rfl,
      fun sp h => effect_of (on (State.spanDone_first h)) rfl, fun sp c h => effect_of (on (State.spanDone_held h)) rfl, fun lim v hv => ?_⟩
    · exact effect_of (on (if_neg fun e => h.elim (fun h => absurd e.2 (Nat.not_lt.2 h)) fun h => Bool.false_ne_true (h.symm.trans e.1))) rfl
    · intro d
      refine ⟨?_, ?_⟩
      · have driven : ((s.aoutAt n).driven : Int) = max (spanClamp (s.aoutAt n).span).1 (min (spanClamp (s.aoutAt n).span).2 (s.aoutAt n).code) := by
          simp [AOut.driven]
        have told := (s.aoutAt n).differs_iff v lim
        rw [driven] at told
        exact told
      · intro lost t
        refine ⟨fun h => effect_of (on (State.evCompliance_same hv h)) rfl, fun h0 h => ?_, fun h0 hl hc => ?_, fun h0 hl hc => ?_⟩
        · exact effect_of (on ((State.evCompliance_changes hv rfl h rfl).trans (if_neg h0))) rfl
        · exact effect_of (on ((State.evCompliance_changes hv rfl (by rw [hc]; exact ne_of_eq_of_ne hl nofun) rfl).trans ((if_pos h0).trans (if_pos hl)))) rfl
        · refine effect_of (on ((State.evCompliance_changes hv rfl (by rw [hc]; exact ne_of_eq_of_ne hl nofun) rfl).trans
            ((if_pos h0).trans (if_neg fun e => ?_)))) rfl
          exact Bool.false_ne_true (hl.symm.trans e)
  · intro s
    have off {b : Bool} {p : Prop} (h : b = false) : ¬ (b = true ∧ p) := fun e => Bool.false_ne_true (h.symm.trans e.1)
    have paths (h : s.sineRuns = false ∨ (Table.at s.aar.sine 0 {}).en = false ∨ (Table.at s.aar.sine 1 {}).en = false) :
        ¬ (s.sineOn 0 = true ∧ s.sineOn 1 = true) := fun ⟨h0, h1⟩ => by
      obtain ⟨hr, h0⟩ := Bool.and_eq_true_iff.1 h0
      obtain ⟨_, h1⟩ := Bool.and_eq_true_iff.1 h1
      exact h.elim (fun h => Bool.false_ne_true (h.symm.trans hr)) fun h => h.elim (fun h => Bool.false_ne_true (h.symm.trans h0)) fun h =>
        Bool.false_ne_true (h.symm.trans h1)
    refine ⟨fun he hs => effect_of rfl (if_pos ⟨he, hs⟩), fun h => effect_of rfl (if_neg fun e => ?_), fun h => effect_of rfl (if_pos h),
      fun h => effect_of rfl (if_neg (by rw [h]; nofun)), fun h => effect_of rfl (if_pos h), fun h => effect_of rfl (if_neg (by rw [h]; nofun)),
      fun h => effect_of rfl (if_neg (by rw [h]; nofun)), fun h => effect_of rfl (if_pos h),
      fun n en inc am hn hr ha => effect_of (State.onUnit_of_lt hn) (if_pos ⟨hr, ha⟩),
      fun n en inc am hn h => effect_of (State.onUnit_of_lt hn) (if_neg fun e => ?_),
      fun hr h0 h1 => effect_of rfl (if_pos ⟨Bool.and_eq_true_iff.2 ⟨hr, h0⟩, Bool.and_eq_true_iff.2 ⟨hr, h1⟩⟩), fun h => effect_of rfl (if_neg (paths h))⟩
    · exact h.elim (fun h => off h e) fun h => Bool.false_ne_true (h.symm.trans e.2)
    · exact h.elim (fun h => off h e) fun h => absurd e.2 (Nat.not_le.2 h)

end Sys2Proof.Machine
end

section
/-! SUPPORT. Slots of the loop engine (O58). -/
namespace Sys2Proof.Machine

section
variable {s : State} {n m : Nat}

/-! ### What a sample computes -/

/-- The slot that a sample leaves: judged, acting on what it has lost, and computed or held. -/
def State.sampleSlot (s : State) (n t : Nat) (j : Slot × List (Bool × Bool × Bool)) : Slot :=
  let bit (f : Bool × Bool × Bool → Bool) : BitVec 4 :=
    BitVec.ofNat 4 (maskOf ((List.range j.2.length).filter fun i => f ((j.2[i]?).getD (false, false, false))))
  let x2 := { j.1.act with stale := bit (·.1), frozen := bit (·.2.1), impl := bit (·.2.2), lastStart := some t }
  if x2.stopped || (n == 1 && s.pho.fixedFlow) then { x2 with setUsed := x2.setpoint, arith := false, sat := false }
  else x2.compute (s.bankInForce n x2)

/-- What a computation leaves of a slot besides its outputs. -/
def Slot.acting (x : Slot) : Option Nat × BitVec 4 × Nat := (x.lastStart, x.alt, x.action)

theorem Slot.compute_acting (x : Slot) (b : Vector Reg32 256) : (x.compute b).acting = x.acting := by
  unfold Slot.compute
  dsimp only
  split
  · rfl
  · rfl

theorem State.sampleSlot_acting (s : State) (n t : Nat) (j : Slot × List (Bool × Bool × Bool)) :
    (s.sampleSlot n t j).acting = (some t, j.1.act.alt, j.1.act.action) := by
  unfold State.sampleSlot
  dsimp only
  split
  · rfl
  · exact Slot.compute_acting _ _

/-- A slot that is stopped, and slot 1 under a fixed flow, hold their outputs. -/
theorem State.sampleSlot_holds {t : Nat} {j : Slot × List (Bool × Bool × Bool)} (h : j.1.act.stopped = true ∨ (n = 1 ∧ s.pho.fixedFlow = true)) :
    (s.sampleSlot n t j).out = j.1.act.out ∧ (s.sampleSlot n t j).sec = j.1.act.sec ∧ (s.sampleSlot n t j).setUsed = j.1.act.setpoint := by
  have holds : (j.1.act.stopped || (n == 1 && s.pho.fixedFlow)) = true := by
    rcases h with h | ⟨rfl, h⟩
    · rw [h, Bool.true_or]
    · rw [h]
      exact Bool.or_true _
  have run : s.sampleSlot n t j = _ := if_pos holds
  rw [run]
  exact ⟨rfl, rfl, rfl⟩

/-- Any other computes its law, whatever its signs of lost feedback say. -/
theorem State.sampleSlot_computes {t : Nat} {j : Slot × List (Bool × Bool × Bool)} (h : j.1.act.stopped = false) (hn : n = 1 → s.pho.fixedFlow = false) :
    (s.sampleSlot n t j).out = (j.1.act.compute (s.bankInForce n j.1.act)).out ∧
      (s.sampleSlot n t j).sec = (j.1.act.compute (s.bankInForce n j.1.act)).sec ∧
      (s.sampleSlot n t j).xh = (j.1.act.compute (s.bankInForce n j.1.act)).xh ∧
      (s.sampleSlot n t j).sat = (j.1.act.compute (s.bankInForce n j.1.act)).sat := by
  have goes : ¬ (j.1.act.stopped || (n == 1 && s.pho.fixedFlow)) = true := by
    rw [h, Bool.false_or]
    intro e
    obtain ⟨h1, hf⟩ := Bool.and_eq_true_iff.1 e
    exact Bool.false_ne_true ((hn (eq_of_beq h1)).symm.trans hf)
  have run : s.sampleSlot n t j = _ := if_neg goes
  have bank (x : Slot) (a b c : BitVec 4) (l : Option Nat) :
      s.bankInForce n { x with stale := a, frozen := b, impl := c, lastStart := l } = s.bankInForce n x := rfl
  rw [run, bank]
  unfold Slot.compute
  dsimp only
  split
  · exact ⟨rfl, rfl, rfl, rfl⟩
  · exact ⟨rfl, rfl, rfl, rfl⟩

/-! ### What follows a sample -/

/-- The device that has written its sample, before what the sample's judgement leads to. -/
def State.sampleBase (s : State) (n t : Nat) (x : Slot) : State :=
  let s0 := if n = 1 then { s with pho := { s.pho with zoneRef := some s.zoneFollow } } else s
  (({ s0 with lpe := { s0.lpe with tick := t } } : State).updSlot n fun _ => x).sarTrigger n

/-- The records of a sample's judgement. -/
def State.sampleRecords (s1 : State) (n : Nat) (x0 x3 : Slot) (conds : List (Bool × Bool × Bool)) : State :=
  let changed := (List.range x0.cfg.nin).filter fun i =>
    x0.stale.getLsbD i != x3.stale.getLsbD i || x0.frozen.getLsbD i != x3.frozen.getLsbD i ||
    x0.impl.getLsbD i != x3.impl.getLsbD i || x0.alt.getLsbD i != x3.alt.getLsbD i
  let named := if changed.isEmpty ∧ x0.action ≠ x3.action then
      [((List.range x0.cfg.nin).find? fun i => (x3.inUse i).good == (Table.at x3.cfg.inp i {}).recoverN).getD 0]
    else changed
  let s2 := named.foldl (fun s i =>
    let c := condBits ((conds[i]?).getD (false, false, false))
    s.log 0x7001 (param [(1, n), (1, i), (1, Config.codeOf 5 c), (1, x3.action)]) none (c != 0) true) s1
  if x3.arith ∧ ¬ x0.arith then s2.log 0x7002 (param [(1, n)]) none true true else s2

/-- What the judgement of a sample leads to after its records: the plate's flow, or a warning. -/
def State.sampleTail (s3 : State) (n : Nat) (x0 x3 : Slot) : State :=
  if n = 0 then
    if x3.stopped ∧ ¬ x0.stopped ∧ x3.action % 3 = 2 then s3.fixedFlowFollow.warnSet 5 else s3.fixedFlowFollow
  else if x3.action ≠ 0 ∧ x0.action = 0 ∧ x3.cfg.warn then s3.lossWarning n x3
  else s3

theorem State.evSlotSample_eq (hr : s.engineRuns = true) (he : (s.slotAt n).en = true) (hl : (s.slotAt n).cfg.law ≠ 0) : s.evSlotSample n =
    ((s.sampleBase n (s.nextStart (s.slotAt n)) (s.sampleSlot n (s.nextStart (s.slotAt n))
      (s.judgeInputs (s.nextStart (s.slotAt n)) (s.slotAt n).swap))).sampleRecords n (s.slotAt n)
      (s.sampleSlot n (s.nextStart (s.slotAt n)) (s.judgeInputs (s.nextStart (s.slotAt n)) (s.slotAt n).swap))
      (s.judgeInputs (s.nextStart (s.slotAt n)) (s.slotAt n).swap).2).sampleTail n (s.slotAt n)
      (s.sampleSlot n (s.nextStart (s.slotAt n)) (s.judgeInputs (s.nextStart (s.slotAt n)) (s.slotAt n).swap)) :=
  if_pos ⟨hr, he, hl⟩

/-- A slot but for its preload, which the plate's flow may set. -/
def Slot.results (x : Slot) : Slot := { x with preload := false }

/-- Slots of one result agree in all of it. -/
theorem Slot.of_results {x y : Slot} (h : x.results = y.results) : x.out = y.out ∧ x.sec = y.sec ∧ x.xh = y.xh ∧ x.sat = y.sat ∧
    x.setUsed = y.setUsed ∧ x.acting = y.acting :=
  ⟨(congrArg Slot.out h :), (congrArg Slot.sec h :), (congrArg Slot.xh h :), (congrArg Slot.sat h :), (congrArg Slot.setUsed h :),
    (congrArg Slot.acting h :)⟩

/-- What a sample's judgement leaves as it is: the tick, the triggers, the partitions, memory and every slot, slot 0 but for its preload. -/
def State.sampleView (m : Nat) (u : State) : Nat × Vector SarConv 2 × Vector Part 16 × Memory × Slot :=
  (u.lpe.tick, u.aar.sar, u.part, u.mem, if m = 0 then (u.slotAt m).results else u.slotAt m)

theorem State.log_sampleView (s : State) (m code : Nat) (prm : List Byte) (part : Option Nat) (raise hw notice : Bool) :
    (s.log code prm part raise hw notice).sampleView m = s.sampleView m := by
  obtain ⟨_, _, _, h⟩ := State.log_form s code prm part raise hw notice
  rw [h]
  rfl

theorem State.warnSet_sampleView (s : State) (m c : Nat) : (s.warnSet c).sampleView m = s.sampleView m := by
  obtain ⟨_, _, _, _, h⟩ := State.warnSet_form s c
  rw [h]
  rfl

theorem State.fixedFlowFollow_sampleView (s : State) (m : Nat) : s.fixedFlowFollow.sampleView m = s.sampleView m := by
  refine State.ite_keeps (State.sampleView m) rfl (State.ite_keeps (State.sampleView m) rfl ?_)
  by_cases h : m = 0
  · subst h
    simp only [State.sampleView, if_true, State.slotAt_updSlot_same _ (show 0 < 64 by decide)]
    rfl
  · simp only [State.sampleView, if_neg h, State.slotAt_updSlot_other _ (Ne.symm h)]
    rfl

theorem State.lossWarning_sampleView (s : State) (m n : Nat) (x : Slot) : (s.lossWarning n x).sampleView m = s.sampleView m :=
  State.ite_keeps (State.sampleView m) ((State.warnSet_sampleView ..).trans rfl)
    (State.ite_keeps (State.sampleView m) (State.warnSet_sampleView ..) rfl)

theorem State.sampleRecords_view (s1 : State) (m n : Nat) (x0 x3 : Slot) (conds : List (Bool × Bool × Bool)) :
    (s1.sampleRecords n x0 x3 conds).sampleView m = s1.sampleView m := by
  unfold State.sampleRecords
  dsimp only
  refine (State.ite_keeps (State.sampleView m) (State.log_sampleView ..) rfl).trans ?_
  exact State.foldl_keeps (State.sampleView m) (fun u i => State.log_sampleView ..) _ _

theorem State.sampleTail_view (s3 : State) (m n : Nat) (x0 x3 : Slot) : (s3.sampleTail n x0 x3).sampleView m = s3.sampleView m := by
  unfold State.sampleTail
  split
  · refine State.ite_keeps (State.sampleView m) ((State.warnSet_sampleView ..).trans ?_) ?_
    · exact State.fixedFlowFollow_sampleView s3 m
    · exact State.fixedFlowFollow_sampleView s3 m
  · exact State.ite_keeps (State.sampleView m) (State.lossWarning_sampleView ..) rfl

/-- The tick, the triggers, the partitions, memory and the slots once a sample has been written. -/
theorem State.sampleBase_view (hn : n < 64) (t : Nat) (x : Slot) : (s.sampleBase n t x).lpe.tick = t ∧ (s.sampleBase n t x).slotAt n = x ∧
    (∀ m, m ≠ n → (s.sampleBase n t x).slotAt m = s.slotAt m) ∧ (s.sampleBase n t x).part = s.part ∧ (s.sampleBase n t x).mem = s.mem ∧
    ∀ k, k < 2 → (Table.at s.aar.sar k {}).trigger = some n → (Table.at (s.sampleBase n t x).aar.sar k {}).armed = true := by
  have base (u : State) (hs : u.lpe.slot = s.lpe.slot) (hp : u.part = s.part) (hm : u.mem = s.mem) (ha : u.aar = s.aar) :
      let v := (({ u with lpe := { u.lpe with tick := t } } : State).updSlot n fun _ => x).sarTrigger n
      v.lpe.tick = t ∧ v.slotAt n = x ∧ (∀ m, m ≠ n → v.slotAt m = s.slotAt m) ∧ v.part = s.part ∧ v.mem = s.mem ∧
        ∀ k, k < 2 → (Table.at s.aar.sar k {}).trigger = some n → (Table.at v.aar.sar k {}).armed = true := by
    refine ⟨rfl, Table.at_upd_same _ hn _ _, fun m h => (Table.at_upd_other _ (Ne.symm h) _ _).trans (by rw [hs]; rfl), hp, hm, fun k hk ht => ?_⟩
    refine (congrArg SarConv.armed (Table.at_map u.aar.sar hk _ {} {})).trans ?_
    rw [ha]
    split
    · rfl
    next h => exact Bool.eq_true_of_not_eq_false fun e => h ⟨ht, by rw [e]; nofun⟩
  unfold State.sampleBase
  dsimp only
  split
  · exact base _ rfl rfl rfl rfl
  · exact base _ rfl rfl rfl rfl

/-- What a sample leaves, but for slot 0's preload. -/
theorem State.evSlotSample_view (hr : s.engineRuns = true) (he : (s.slotAt n).en = true) (hl : (s.slotAt n).cfg.law ≠ 0) (m : Nat) :
    (s.evSlotSample n).sampleView m = (s.sampleBase n (s.nextStart (s.slotAt n)) (s.sampleSlot n (s.nextStart (s.slotAt n))
      (s.judgeInputs (s.nextStart (s.slotAt n)) (s.slotAt n).swap))).sampleView m := by
  rw [State.evSlotSample_eq hr he hl, State.sampleTail_view, State.sampleRecords_view]

/-- Where the views of a slot agree so do its results. -/
theorem State.results_of_view {u v : State} (h : u.sampleView n = v.sampleView n) : (u.slotAt n).results = (v.slotAt n).results := by
  have told := congrArg (fun w => w.2.2.2.2) h
  simp only [State.sampleView] at told
  split at told
  · exact told
  · exact congrArg Slot.results told

/-! ### Outputs, set-points and enables -/

theorem State.evOutputPhase_idle (h : s.engineRuns = false ∨ (s.slotAt n).cfg.law = 0 ∨
    ((s.slotAt n).disabling = false ∧ ((s.slotAt n).en = false ∨ (s.slotAt n).lastStart = none))) : s.evOutputPhase n = s :=
  if_neg fun ⟨hr, hl, hd⟩ => by
    obtain h | h | ⟨h, hs⟩ := h
    · exact Bool.false_ne_true (h.symm.trans hr)
    · exact hl h
    · refine hd.elim (fun hd => Bool.false_ne_true (h.symm.trans hd)) fun ⟨he, hl⟩ => ?_
      exact hs.elim (fun hs => Bool.false_ne_true (hs.symm.trans he)) fun hs => by rw [hs] at hl; exact Bool.false_ne_true hl

/-- A set-point is written where it is accepted, marked where the guard rejects it, and else not. -/
theorem State.writeSetpoint_accepted {v : Reg32} (h : s.judgeSetpoint n v = .accepted) :
    (s.writeSetpoint n v).2 = s.updSlot n fun x => { x with setpoint := v, guardRej := false } := by
  rw [State.writeSetpoint, h]

theorem State.writeSetpoint_guard {v : Reg32} (h : s.judgeSetpoint n v = .guard) : (s.writeSetpoint n v).2 =
    (s.updSlot n fun x => { x with guardRej := true }).log 0x7003 (param [(1, n), (4, v.toNat)]) := by
  rw [State.writeSetpoint, h]

theorem State.writeSetpoint_refused {v : Reg32} (h : s.judgeSetpoint n v = .parent ∨ s.judgeSetpoint n v = .envelope) :
    (s.writeSetpoint n v).2 = s := by
  rcases h with h | h
  · rw [State.writeSetpoint, h]
  · rw [State.writeSetpoint, h]

end

/-- Settles O58: a sample's slot is the one that its judgement and its law leave, whatever follows it; each other event acts by the branch
that its condition leads to. -/
theorem loopSlotsRun : Obligations.LoopSlotsRun := by
  intro s n hn x
  have on {u v : State} (h : u = v) : s.onUnit n 64 u = s.finish v := h ▸ State.onUnit_of_lt hn
  refine ⟨fun h => ?_, fun hr he hl => ?_, fun h => effect_of (on (State.evOutputPhase_idle h)) rfl, fun h => if_neg h, fun hr hl hd => ?_,
    fun v hf hl hv => ⟨fun h => ?_, fun h => ?_, fun h => ?_⟩, fun v h => ?_, fun hf hl he => ?_, fun h => ?_, fun hf he => ?_, fun h => ?_⟩
  · refine effect_of (on (if_neg fun ⟨hr, he, hl⟩ => ?_)) rfl
    exact h.elim (fun h => Bool.false_ne_true (h.symm.trans hr)) fun h => h.elim (fun h => Bool.false_ne_true (h.symm.trans he)) hl
  · intro t j y
    have view := State.evSlotSample_view hr he hl
    obtain ⟨tick, own, others, part, mem, armed⟩ := State.sampleBase_view (s := s) hn t (s.sampleSlot n t j)
    obtain ⟨out_, sec_, xh_, sat_, used_, acting_⟩ := Slot.of_results ((State.results_of_view (view n)).trans (congrArg Slot.results own))
    have acting : ((s.evSlotSample n).slotAt n).acting = (some t, y.alt, y.action) :=
      acting_.trans (State.sampleSlot_acting s n t j)
    have eff : Effect (.slotSample n) s (s.evSlotSample n) := effect_of (State.onUnit_of_lt hn) rfl
    have start : ((s.evSlotSample n).slotAt n).lastStart = some t := congrArg Prod.fst acting
    have alt : ((s.evSlotSample n).slotAt n).alt = y.alt := congrArg (·.2.1) acting
    have action : ((s.evSlotSample n).slotAt n).action = y.action := congrArg (·.2.2) acting
    have tick_ : (s.evSlotSample n).lpe.tick = t := (congrArg Prod.fst (view 0)).trans tick
    refine ⟨s.evSlotSample n, eff, tick_, start, alt, action, fun h => ?_,
      fun h hf => ?_, fun k hk ht => ?_, fun m hm h0 => ?_, ?_, ?_⟩
    · obtain ⟨out, sec, used⟩ := State.sampleSlot_holds (n := n) (t := t) (j := j) h
      exact ⟨out_.trans out, sec_.trans sec, used_.trans used⟩
    · obtain ⟨out, sec, xh, sat⟩ := State.sampleSlot_computes (n := n) (t := t) (j := j) h hf
      exact ⟨out_.trans out, sec_.trans sec, xh_.trans xh, sat_.trans sat⟩
    · have sar : (s.evSlotSample n).aar.sar = _ := congrArg (·.2.1) (view 0)
      rw [sar]
      exact armed k hk ht
    · have slot := congrArg (·.2.2.2.2) (view m)
      simp only [State.sampleView, if_neg h0] at slot
      exact slot.trans (others m hm)
    · exact (congrArg (·.2.2.1) (view 0)).trans part
    · exact (congrArg (·.2.2.2.1) (view 0)).trans mem
  · exact effect_of (on (if_pos ⟨hr, hl, hd⟩)) rfl
  · exact effect_of (on ((if_pos ⟨hf, hl, hv⟩).trans (State.writeSetpoint_accepted h))) rfl
  · exact effect_of (on ((if_pos ⟨hf, hl, hv⟩).trans (State.writeSetpoint_guard h))) rfl
  · exact effect_of (on ((if_pos ⟨hf, hl, hv⟩).trans (State.writeSetpoint_refused h))) rfl
  · refine effect_of (on (if_neg fun e => ?_)) rfl
    exact h.elim (fun h => Bool.false_ne_true (h.symm.trans e.1)) fun h => Bool.false_ne_true (h.symm.trans e.2.2)
  · have run : s.evSlotEnable n = s.updSlot n fun x =>
        { x with en := true, preload := true, disabling := false, out := x.delivered, action := 0, alt := 0, stale := 0,
                 frozen := 0, impl := 0, lastStart := none,
                 ins := Vector.replicate 4 { src := { newAt := s.lpe.tick }, alt := { newAt := s.lpe.tick } } } :=
      (if_pos hf).trans (if_neg fun e => e.elim hl fun e => Bool.false_ne_true (he.symm.trans e))
    refine ⟨_, effect_of (on run) rfl, ?_⟩
    rw [State.slotAt_updSlot_same _ hn]
    exact ⟨rfl, rfl, rfl, rfl, rfl, fun m hm => State.slotAt_updSlot_other _ (Ne.symm hm) _, rfl⟩
  · by_cases hf : s.fwRuns = true
    · refine effect_of (on ((if_pos hf).trans (if_pos ?_))) rfl
      exact h.elim .inl fun h => h.elim .inr fun h => absurd (h.symm.trans hf) nofun
    · exact effect_of (on (if_neg hf)) rfl
  · exact effect_of (on ((if_pos hf).trans (if_pos he))) rfl
  · by_cases hf : s.fwRuns = true
    · refine effect_of (on ((if_pos hf).trans (if_neg fun e => ?_))) rfl
      exact h.elim (fun h => Bool.false_ne_true (h.symm.trans e)) fun h => Bool.false_ne_true (h.symm.trans hf)
    · exact effect_of (on (if_neg hf)) rfl

end Sys2Proof.Machine
end

section
/-! SUPPORT. Calibration steps (O59). -/
namespace Sys2Proof.Machine

section
variable {s : State} {q i : Nat}

/-! ### Items -/

/-- A write to an item that keeps its name is read back from it. -/
theorem State.itemAt_updItem {f : PItem → PItem} (hf : ∀ x, (f x).qty = x.qty ∧ (f x).index = x.index) :
    (s.updItem q i f).itemAt q i = f (s.itemAt q i) := by
  have named (x : PItem) (h : (x.qty == q && x.index == i) = true) : x.qty = q ∧ x.index = i := by simpa using h
  unfold State.itemAt State.updItem
  dsimp only
  split
  next h =>
    have key : ((fun x : PItem => x.qty == q && x.index == i) ∘ fun x => if x.qty = q ∧ x.index = i then f x else x) =
        fun x => x.qty == q && x.index == i := by
      funext x
      simp only [Function.comp_apply]
      split
      · rw [(hf x).1, (hf x).2]
      · rfl
    rw [List.find?_map, key]
    obtain ⟨x, hx⟩ := Option.isSome_iff_exists.1 (List.find?_isSome.2 (List.any_eq_true.1 h))
    rw [hx]
    exact if_pos (named x (List.find?_some (p := fun x : PItem => x.qty == q && x.index == i) hx))
  next h =>
    have none_ : s.pln.items.find? (fun x => x.qty == q && x.index == i) = none :=
      List.find?_eq_none.2 fun x hx e => h (List.any_eq_true.2 ⟨x, hx, e⟩)
    rw [List.find?_append, none_]
    simp [(hf { qty := q, index := i }).1, (hf { qty := q, index := i }).2]

/-- Items are those of Planish's own state. -/
theorem State.itemAt_of_items {s t : State} (h : s.pln.items = t.pln.items) (q i : Nat) : s.itemAt q i = t.itemAt q i :=
  congrArg (fun l : List PItem => (l.find? fun x : PItem => x.qty == q && x.index == i).getD { qty := q, index := i }) h

theorem State.itemAt_of_pln {s t : State} (h : s.pln = t.pln) (q i : Nat) : s.itemAt q i = t.itemAt q i :=
  State.itemAt_of_items (congrArg Planish.items h) q i

/-! ### The end of a step -/

/-- The item that the end of a step leaves. -/
def PItem.ended (x : PItem) (timeS : Nat) (out : POut) : PItem :=
  { x with
    last := some out.status
    timeS := timeS
    count := satInc 32 x.count
    fails := if out = .done then 0 else min 3 (x.fails + 1)
    failed := if out = .done then false else x.failed || ((if out = .done then 0 else min 3 (x.fails + 1)) == 3 && x.fails == 2)
    overdue := x.overdue && out != .done
    doneOnce := x.doneOnce || out == .done }

theorem State.unwithdraw_pln (s : State) (q i : Nat) : (s.unwithdraw q i).pln = s.pln := by
  unfold State.unwithdraw
  split
  · rfl
  · rfl
  · rfl
  · exact State.ite_keeps State.pln rfl rfl
  · rfl

theorem State.firstPassCheck_itemAt (s : State) (q i : Nat) : s.firstPassCheck.itemAt q i = s.itemAt q i := by
  refine State.ite_keeps (fun u : State => u.itemAt q i) rfl (State.ite_keeps (fun u : State => u.itemAt q i) ?_ rfl)
  exact (State.itemAt_of_pln (State.log_pln ..) q i).trans rfl

theorem State.itemConsequence_none (hq : q ≠ 0x0020) (hw : q ≠ 0x0050) (out : POut) (failed : Bool) :
    s.itemConsequence q i out failed = (false, s) :=
  (if_neg hw).trans (if_neg hq)

/-- An item without consequences of its own ends its step as the outcome says. -/
theorem State.endStep_itemAt (hq : q ≠ 0x0020) (hw : q ≠ 0x0050) (phase : Nat) (out : POut) (ppm : Int) :
    ((s.endStep q i phase out ppm).2.itemAt q i) = (s.itemAt q i).ended s.stamp.2.1 out := by
  have conv (u : State) : (if q = 0x0002 ∨ q = 0x0010 ∨ q = 0x0011 then u.convCalRefresh else u).itemAt q i = u.itemAt q i :=
    State.ite_keeps (fun u : State => u.itemAt q i) rfl rfl
  have before (d : Option PStep → Option PStep) : ({ s.unwithdraw q i with pln := { (s.unwithdraw q i).pln with
      dom := Table.upd (s.unwithdraw q i).pln.dom (planishDomain q) d } } : State).itemAt q i = s.itemAt q i :=
    State.itemAt_of_items (congrArg Planish.items (State.unwithdraw_pln s q i)) q i
  unfold State.endStep
  dsimp only
  rw [State.itemConsequence_none hq hw, State.firstPassCheck_itemAt, State.itemAt_of_pln (State.answerWaiting_pln ..) q i, conv,
    State.itemAt_of_pln (State.log_pln ..) q i, State.itemAt_updItem, before]
  · rfl
  · exact fun _ => ⟨rfl, rfl⟩

/-! ### What a step runs -/

/-- A step waits while its item, its domain or the firmware is not there for it. -/
theorem State.stepMayRun_false (h : s.fwRuns = false ∨ s.boot.complete = false ∨ s.itemUsed q i = false ∨ planishCount q ≤ i ∨
    Table.at s.pln.dom (planishDomain q) none ≠ none) : s.stepMayRun q i = false := by
  unfold State.stepMayRun State.domBusy
  rcases h with h | h | h | h | h
  · simp [h]
  · simp [h]
  · simp [h]
  · simp [Nat.not_lt.2 h]
  · simp [Option.isSome_iff_ne_none.2 h]

/-- It may run with its domain free and no run of the domain waiting. -/
theorem State.stepMayRun_true (hi : i < planishCount q) (hf : s.fwRuns = true) (hb : s.boot.complete = true) (hu : s.itemUsed q i = true)
    (hd : Table.at s.pln.dom (planishDomain q) none = none)
    (hw : ∀ f ∈ s.damem.inflight, ∀ q' i', f.wait = .planish q' i' → planishDomain q' ≠ planishDomain q) : s.stepMayRun q i = true := by
  unfold State.stepMayRun State.domBusy
  rw [hd, hf, hb, hu, decide_eq_true hi]
  refine Bool.or_eq_true_iff.2 (.inr (congrArg (! ·) (List.any_eq_false.2 fun f hm => ?_)))
  split
  next q' i' e => exact fun e' => hw f hm q' i' e (eq_of_beq e')
  next => exact Bool.false_ne_true

/-- The device whose Touchstone a step has checked, where the step rests on it. -/
def State.touched (s : State) (q : Nat) (m : PMeas) : State := if q = 0x0001 ∨ planishDepends q then s.touchCheck m.touchOhm else s

variable {m : PMeas} {ask : Bool}

/-- Without a good Touchstone a step that rests on it has no precondition. -/
theorem State.runStep_touch (h : q = 0x0001 ∨ planishDepends q = true) (ht : (s.touched q m).supply.touchFault = true) :
    s.runStep q i m ask = (s.touched q m).endStep q i 1 .precond 0 :=
  if_pos ⟨h, ht⟩

theorem State.runStep_touchstone (h : q = 0x0001) (ht : (s.touched q m).supply.touchFault = false) :
    s.runStep q i m ask = (s.touched q m).endStep q i 5 .done 0 :=
  (if_neg fun e => Bool.false_ne_true (ht.symm.trans e.2)).trans (if_pos h)

section
variable (hq : q ≠ 0x0001) (ht : planishDepends q = false ∨ (s.touched q m).supply.touchFault = false)
include hq ht

theorem touch_passes : ¬ ((q = 0x0001 ∨ planishDepends q = true) ∧ (s.touched q m).supply.touchFault = true) := fun ⟨h, e⟩ =>
  ht.elim (fun ht => h.elim hq fun h => Bool.false_ne_true (ht.symm.trans h)) fun ht => Bool.false_ne_true (ht.symm.trans e)

theorem State.runStep_precond (h : (s.touched q m).itemUsed q i = false ∨ (s.touched q m).itemPre q i = false ∨ m.pre = false) :
    s.runStep q i m ask = (s.touched q m).endStep q i 2 .precond 0 := by
  refine (if_neg (touch_passes hq ht)).trans ((if_neg hq).trans (if_pos fun ⟨hu, hp, hm⟩ => ?_))
  exact h.elim (fun h => Bool.false_ne_true (h.symm.trans hu)) fun h => h.elim (fun h => Bool.false_ne_true (h.symm.trans hp)) fun h =>
    Bool.false_ne_true (h.symm.trans hm)

/-- The results against which a step is judged. -/
def State.judgedBy (s : State) (q i : Nat) : Option (List Int) := if (s.itemAt q i).doneOnce then some (s.itemAt q i).coef else none

variable (hu : (s.touched q m).itemUsed q i = true) (hp : (s.touched q m).itemPre q i = true) (hm : m.pre = true)
include hu hp hm

theorem State.runStep_reject
    (h : plausible q ((s.touched q m).judgedBy q i) ((s.touched q m).ringCoefs i) ((s.touched q m).stepResult q i m.result) = false) :
    s.runStep q i m ask = (s.touched q m).endStep q i 4 .reject m.ppm := by
  refine (if_neg (touch_passes hq ht)).trans ((if_neg hq).trans ((if_neg (not_not.2 ⟨hu, hp, hm⟩)).trans (if_pos fun e => ?_)))
  exact Bool.false_ne_true (h.symm.trans e)

/-- A plausible result without taps to move is taken at once. -/
theorem State.runStep_done (hk : q = 0x0020 ∨ q = 0x0002)
    (h : plausible q ((s.touched q m).judgedBy q i) ((s.touched q m).ringCoefs i) m.result = true) : s.runStep q i m ask =
      (((s.touched q m).applyBoundary q i m.result).updItem q i fun x => { x with coef := m.result }).endStep q i 5 .done m.ppm := by
  have result : (s.touched q m).stepResult q i m.result = m.result := if_neg fun e => by omega
  have whole : plausible q ((s.touched q m).judgedBy q i) ((s.touched q m).ringCoefs i) ((s.touched q m).stepResult q i m.result) = true :=
    result.symm ▸ h
  refine (if_neg (touch_passes hq ht)).trans ((if_neg hq).trans ((if_neg (not_not.2 ⟨hu, hp, hm⟩)).trans ((if_neg (not_not.2 whole)).trans ?_)))
  rcases hk with rfl | rfl
  · simp only [State.tapsTo, tapFrom, State.withdraw]
    rfl
  · simp only [State.tapsTo, tapFrom, State.withdraw]
    rfl

end

/-! ### Taps, time-outs and overdue items -/

/-- The converters count as calibrated only while none of their items is overdue. -/
theorem State.convCalNow_overdue (hi : i < planishCount q) (hq : q = 0x0002 ∨ q = 0x0010 ∨ q = 0x0011) (h : (s.itemAt q i).overdue = true) :
    s.convCalNow = false := by
  unfold State.convCalNow
  rcases hq with rfl | rfl | rfl
  · obtain rfl : i = 0 := Nat.lt_one_iff.1 hi
    rw [h]
    simp
  · have bad : ((((List.range 4).map fun i => (0x0010, i)) ++ [(0x0011, 0), (0x0011, 1)]).all fun e =>
        (s.itemAt e.1 e.2).doneOnce && !(s.itemAt e.1 e.2).failed && !(s.itemAt e.1 e.2).overdue) = false :=
      List.all_eq_false.2 ⟨(0x0010, i), List.mem_append_left _ (List.mem_map.2 ⟨i, List.mem_range.2 hi, rfl⟩), by simp [h]⟩
    rw [bad]
    exact Bool.and_false _
  · have bad : ((((List.range 4).map fun i => (0x0010, i)) ++ [(0x0011, 0), (0x0011, 1)]).all fun e =>
        (s.itemAt e.1 e.2).doneOnce && !(s.itemAt e.1 e.2).failed && !(s.itemAt e.1 e.2).overdue) = false := by
      have mem : (0x0011, i) ∈ ((List.range 4).map fun i => (0x0010, i)) ++ [(0x0011, 0), (0x0011, 1)] := by
        have two : i < 2 := hi
        refine List.mem_append_right _ ?_
        obtain rfl | rfl : i = 0 ∨ i = 1 := by omega
        · exact List.mem_cons_self
        · exact List.mem_cons_of_mem _ List.mem_cons_self
      exact List.all_eq_false.2 ⟨_, mem, by simp [h]⟩
    rw [bad]
    exact Bool.and_false _

/-- The item that is overdue, with its record. -/
def State.overdue (s : State) (q i : Nat) : State :=
  (s.updItem q i fun x => { x with overdue := true }).log 0x5008 (planishParam q i 0x5008 0 0)

theorem State.evPlanishOverdue_conv (hi : i < planishCount q) (h : (s.itemAt q i).overdue = false) (hc : q = 0x0002 ∨ q = 0x0010 ∨ q = 0x0011) :
    s.evPlanishOverdue q i = { s.overdue q i with aar := { (s.overdue q i).aar with convCal := false } } := by
  have late : ((s.overdue q i).itemAt q i).overdue = true := by
    rw [State.overdue, State.itemAt_of_pln (State.log_pln ..), State.itemAt_updItem]
    exact fun _ => ⟨rfl, rfl⟩
  refine (if_pos ⟨hi, by omega, by rw [h]; nofun⟩).trans ((if_pos hc).trans ?_)
  show ({ s.overdue q i with aar := { (s.overdue q i).aar with convCal := (s.overdue q i).convCalNow } } : State) = _
  rw [State.convCalNow_overdue hi hc late]

section
variable {d : Nat} {p : PStep}

theorem State.evPlanishTap_none (h : Table.at s.pln.dom d none = none) : s.evPlanishTap d = (false, s) := by
  rw [State.evPlanishTap, h]

theorem State.evPlanishTap_converter (h : Table.at s.pln.dom d none = some p) (hq : p.qty = 0x0010 ∨ p.qty = 0x0011) :
    s.evPlanishTap d = (false, s) := by
  rw [State.evPlanishTap, h]
  exact if_pos hq

/-- A tap moves each coefficient one tap; with the last of them the step is done. -/
theorem State.evPlanishTap_moves (h : Table.at s.pln.dom d none = some p) (h0 : p.qty ≠ 0x0010) (h1 : p.qty ≠ 0x0011)
    {t : State × PStep} (ht : (s.planishCommit p.qty p.index).tapOnce p = t) : s.evPlanishTap d =
      if t.2.taps.all fun x => x.2 == 0 then t.1.finishStep t.2
      else (false, { t.1 with pln := { t.1.pln with dom := Table.put t.1.pln.dom d (some t.2) } }) := by
  subst ht
  rw [State.evPlanishTap, h]
  exact if_neg fun e => e.elim h0 h1

theorem State.evPlanishTimeout_none (h : Table.at s.pln.dom d none = none) : s.evPlanishTimeout d = (false, s) := by
  rw [State.evPlanishTimeout, h]

theorem State.evPlanishTimeout_some (h : Table.at s.pln.dom d none = some p) : s.evPlanishTimeout d =
    ((List.range p.taps.length).foldl (fun s k =>
      if ((p.taps[k]?).getD (0, 0)).1 = ((p.taps[k]?).getD (0, 0)).2 then s
      else s.moveTap p.qty p.index k (((p.taps[k]?).getD (0, 0)).2 - ((p.taps[k]?).getD (0, 0)).1)) s).endStep p.qty p.index p.phase .timeout p.ppm := by
  rw [State.evPlanishTimeout, h]

end

end

/-- Settles O59: a step runs by the first of its checks that fails, a result without taps at once; the item that the end of a step leaves is
read back through everything that follows it. -/
theorem calibrationStepsEnd : Obligations.CalibrationStepsEnd := by
  refine ⟨?_, ?_, ?_, ?_⟩
  · intro s q i m
    have idle {r : Bool × State} (h : r = (false, s)) : State.safeCause r 6 = s := h ▸ State.safeCause_none s 6
    refine ⟨fun h => ⟨?_, ?_⟩, fun h4 h5 => ?_, fun hi hf hb hu hd hw => State.stepMayRun_true hi hf hb hu hd hw, State.stepMayRun_false,
      fun hr => ?_, fun ask => ?_⟩
    · exact effect_of rfl (idle (if_neg fun e => Bool.false_ne_true (h.symm.trans e.1)))
    · exact effect_of rfl (idle (if_neg fun e => Bool.false_ne_true (h.symm.trans e.1)))
    · exact effect_of rfl (idle (if_neg fun e => e.2.elim h4 h5))
    · intro ask
      refine ⟨fun h => ?_, fun ha hq hf => ?_, fun h => ?_⟩
      · have gap : s.runAsked q i = true ∨ s.gapOpen q = true := h.imp_right fun h => by
          rcases h with h | h
          · simp [State.gapOpen, h]
          · simp [State.gapOpen, h]
        exact effect_of rfl (congrArg (State.safeCause · 6) (if_pos ⟨hr, gap⟩))
      · refine effect_of rfl (idle (if_neg fun e => e.2.elim (fun e => Bool.false_ne_true (ha.symm.trans e)) fun e => ?_))
        rw [State.gapOpen, hq] at e
        exact hf (List.isEmpty_iff.1 e)
      · exact effect_of rfl (congrArg (State.safeCause · 6) (if_pos ⟨hr, h⟩))
    · intro t prev
      refine ⟨State.runStep_touch, State.runStep_touchstone, State.runStep_precond, State.runStep_reject, fun hk ht hu hp hm h => ?_⟩
      exact State.runStep_done (by omega) (.inr ht) hu hp hm hk h
  · intro s d hd
    have on {r : Bool × State} {v : State} (h : State.safeCause r 6 = v) : s.onUnit d 5 (State.safeCause r 6) = s.finish v := h ▸ State.onUnit_of_lt hd
    have idle {r : Bool × State} (h : r = (false, s)) : State.safeCause r 6 = s := h ▸ State.safeCause_none s 6
    refine ⟨fun h => ⟨?_, ?_⟩, fun p hp => ⟨fun hq => ?_, fun h0 h1 => ?_, ?_⟩⟩
    · exact effect_of (on (idle (State.evPlanishTap_none h))) rfl
    · exact effect_of (on (idle (State.evPlanishTimeout_none h))) rfl
    · exact effect_of (on (idle (State.evPlanishTap_converter hp hq))) rfl
    · intro t
      have run := State.evPlanishTap_moves hp h0 h1 (t := t) rfl
      refine ⟨fun h => ?_, fun h => ?_⟩
      · have stays : s.evPlanishTap d = (false, { t.1 with pln := { t.1.pln with dom := Table.put t.1.pln.dom d (some t.2) } }) :=
          run.trans (if_neg fun e => Bool.false_ne_true (h.symm.trans e))
        exact effect_of (on ((congrArg (State.safeCause · 6) stays).trans (State.safeCause_none _ 6))) rfl
      · exact effect_of (on (congrArg (State.safeCause · 6) (run.trans (if_pos h)))) rfl
    · exact effect_of (on (congrArg (State.safeCause · 6) (State.evPlanishTimeout_some hp))) rfl
  · intro s q i
    refine ⟨fun h1 hi ho => ⟨fun h2 h10 h11 => ?_, fun hc => effect_of rfl (State.evPlanishOverdue_conv hi ho hc)⟩, fun h => ?_⟩
    · exact effect_of rfl ((if_pos ⟨hi, h1, by rw [ho]; nofun⟩).trans (if_neg fun e => e.elim h2 fun e => e.elim h10 h11))
    · refine effect_of rfl (if_neg fun ⟨hi, h1, ho⟩ => ?_)
      exact h.elim h1 fun h => h.elim (Nat.not_le.2 hi) ho
  · intro s q i ph out ppm hq hw
    have own := State.endStep_itemAt (s := s) (i := i) hq hw ph out ppm
    refine ⟨congrArg PItem.last own, congrArg PItem.fails own, congrArg PItem.doneOnce own, (congrArg PItem.coef own).trans rfl,
      (congrArg PItem.failed own).trans ?_⟩
    unfold PItem.ended
    dsimp only
    split
    · rfl
    · rfl

end Sys2Proof.Machine
end

section
/-! SUPPORT. Events of the Filigree fabric (O60): what each leaves in the record of its sector or its port, and that the log, the answers and
the order of the swap windows leave the sectors alone. -/
namespace Sys2Proof.Machine

section
variable {s : State} {n m : Nat}

/-! ### A sector's state -/

theorem State.sectorAt_log (m code : Nat) (prm : List Byte) : (s.log code prm).sectorAt m = s.sectorAt m := by
  simp only [State.sectorAt, State.log_fil]

/-- A state change moves STATE alone. -/
theorem State.sectorAt_sectorTo_same (h : n < 16) (st : SecState) : (s.sectorTo n st).sectorAt n = { s.sectorAt n with state := st } := by
  unfold State.sectorTo
  dsimp only
  split
  · next e => rw [← e]
  · rw [State.sectorAt_log, State.sectorAt_updSector_same s h]

theorem State.sectorAt_sectorTo_other (h : n ≠ m) (st : SecState) : (s.sectorTo n st).sectorAt m = s.sectorAt m := by
  unfold State.sectorTo
  dsimp only
  split
  · rfl
  · rw [State.sectorAt_log, State.sectorAt_updSector_other s h]

theorem State.sectorTo_release (st : SecState) : (s.sectorTo n st).fil.release = s.fil.release := by
  unfold State.sectorTo
  dsimp only
  split
  · rfl
  · rw [State.log_fil]; rfl

/-! ### The staged release (18 R731) -/

/-- What one stage of the release leaves of a sector. -/
def Sector.staged (x : Sector) : Sector :=
  { x with
    release := min 3 (x.release + 1), releasing := decide (x.release + 1 < 3), state := if 3 ≤ x.release + 1 then .running else x.state }

/-- One stage of one sector, as the model's event takes it. -/
def State.releaseOne (s : State) (n : Nat) : State :=
  let st := (s.sectorAt n).release + 1
  let s1 := s.updSector n fun x => { x with release := min 3 st, releasing := decide (st < 3) }
  if 3 ≤ st then s1.sectorTo n .running else s1

theorem State.releaseOne_same (h : n < 16) : (s.releaseOne n).sectorAt n = (s.sectorAt n).staged := by
  have kept := State.sectorAt_updSector_same s h fun x =>
    { x with release := min 3 ((s.sectorAt n).release + 1), releasing := decide ((s.sectorAt n).release + 1 < 3) }
  unfold State.releaseOne Sector.staged
  dsimp only
  split
  · rw [State.sectorAt_sectorTo_same h, kept]
  · rw [kept]

theorem State.releaseOne_other (h : n ≠ m) : (s.releaseOne n).sectorAt m = s.sectorAt m := by
  unfold State.releaseOne
  dsimp only
  split
  · rw [State.sectorAt_sectorTo_other h, State.sectorAt_updSector_other s h]
  · rw [State.sectorAt_updSector_other s h]

theorem State.releaseOne_release : (s.releaseOne n).fil.release = s.fil.release := by
  unfold State.releaseOne
  dsimp only
  split
  · rw [State.sectorTo_release]; rfl
  · rfl

/-- Each sector of the list goes on by one stage, and no other. -/
theorem State.releaseOne_foldl {l : List Nat} (nodup : l.Nodup) (lt : ∀ k ∈ l, k < 16) :
    (l.foldl State.releaseOne s).sectorAt n = if n ∈ l then (s.sectorAt n).staged else s.sectorAt n := by
  induction l generalizing s with
  | nil => rfl
  | cons k l ih =>
    obtain ⟨fresh, nodup⟩ := List.nodup_cons.1 nodup
    rw [List.foldl_cons, ih nodup fun j hj => lt j (List.mem_cons_of_mem k hj)]
    by_cases e : k = n
    · subst e
      rw [if_neg fresh, if_pos List.mem_cons_self, State.releaseOne_same (lt k List.mem_cons_self)]
    · rw [State.releaseOne_other e]
      exact if_congr (by simp [Ne.symm e]) rfl rfl

/-- The sectors whose release is in progress. -/
def State.releasing (s : State) : List Nat := (List.range 16).filter fun n => (s.sectorAt n).releasing

/-- FIL_STAT.RELEASE follows the release at boot. -/
def State.bootStage (s : State) : State :=
  if s.boot.complete ∧ s.fil.release < 3 then { s with fil := { s.fil with release := s.fil.release + 1 } } else s

theorem State.bootStage_sectorAt : s.bootStage.sectorAt n = s.sectorAt n :=
  State.ite_keeps (fun s => s.sectorAt n) rfl rfl

theorem State.evFilReleaseStage_eq : s.evFilReleaseStage = s.releasing.foldl State.releaseOne s.bootStage := rfl

theorem State.evFilReleaseStage_sectorAt (h : n < 16) :
    s.evFilReleaseStage.sectorAt n = if (s.sectorAt n).releasing then (s.sectorAt n).staged else s.sectorAt n := by
  rw [State.evFilReleaseStage_eq, State.releasing, State.releaseOne_foldl (List.nodup_range.filter _) fun k hk => List.mem_range.1 (List.mem_filter.1 hk).1,
    State.bootStage_sectorAt]
  exact if_congr (by simp [h]) rfl rfl

theorem State.evFilReleaseStage_release : s.evFilReleaseStage.fil.release =
    if s.boot.complete = true ∧ s.fil.release < 3 then s.fil.release + 1 else s.fil.release :=
  calc s.evFilReleaseStage.fil.release
    _ = s.bootStage.fil.release := State.foldl_keeps (fun s => s.fil.release) (fun _ _ => State.releaseOne_release) _ _
    _ = _ := apply_ite (fun s : State => s.fil.release) _ _ _

/-! ### The swap window (18 R737-R740) -/

/-- Whether the CARRY flip-flops keep their values over a swap. -/
def Sector.keeps (x : Sector) (im : SecImage) : Bool :=
  x.state != .empty && x.state != .fault && (x.image.map (·.carryId) == some im.carryId)

/-- What the swap window loads into a sector, whose STATE it leaves. -/
def Sector.loaded (x o : Sector) (ev : SwapEvents) (im : SecImage) : Sector :=
  let declared := ev.captured &&& BitVec.ofNat 16 (2 ^ im.capCount - 1)
  let kept := o.capture &&& ~~~ ev.cleared
  { x with
    image := some im, carryFf := if o.keeps im then x.carryFf else im.initial 0, historyFf := ev.history, otherFf := im.initial 2,
    capture := kept ||| declared, capOvf := satAdd 8 x.capOvf (popCount 16 (declared &&& kept).toNat),
    lostEdges := satAdd 16 x.lostEdges ev.lost, release := 3, releasing := false, parked := false }

/-- The window itself: the sector swaps, loads and runs, its ports empty. -/
def State.swapLoad (s : State) (n : Nat) (ev : SwapEvents) (im : SecImage) : State :=
  (((s.sectorTo n .swap).updSector n fun x => x.loaded (s.sectorAt n) ev im).portsEmpty n).sectorTo n .running

/-- The record of lost edges, where there were any. -/
def State.swapRecord (s : State) (n : Nat) (ev : SwapEvents) : State :=
  if ev.lost = 0 then s else s.log 0x9002 (param [(1, n), (4, ev.lost)])

/-- The answer to the request whose window it was, and the next one's turn. -/
def State.swapAnswer (s : State) (n : Nat) (ev : SwapEvents) (asked : Option Nat) : State :=
  if asked = some n then (s.answerWaiting (.swap n) .ok 0 fun _ => leBytes 4 ev.lost).filNext else s

theorem State.swapRecord_sectorAt (ev : SwapEvents) : (s.swapRecord n ev).sectorAt m = s.sectorAt m :=
  State.ite_keeps (fun s => s.sectorAt m) rfl (State.sectorAt_log _ _ _)

theorem State.swapAnswer_sectorAt (ev : SwapEvents) (asked : Option Nat) : (s.swapAnswer n ev asked).sectorAt m = s.sectorAt m :=
  State.ite_keeps (fun s => s.sectorAt m)
    (congrArg (fun f : Filigree => Table.at f.sector m {}) (State.answerWaiting_fil s (.swap n) .ok 0 fun _ => leBytes 4 ev.lost) :) rfl

theorem State.evSwapWindow_eq {ev : SwapEvents} {im : SecImage} (ready : s.swapReady n = true) (h : (s.sectorAt n).shadow = some im) :
    s.evSwapWindow n ev = ((s.swapLoad n ev im).swapRecord n ev).swapAnswer n ev s.fil.busy := by
  unfold State.evSwapWindow
  rw [if_pos ready, h]
  rfl

/-- The window leaves the sector RUNNING on the image that it loaded. -/
theorem State.evSwapWindow_same {ev : SwapEvents} {im : SecImage} (hn : n < 16) (ready : s.swapReady n = true)
    (h : (s.sectorAt n).shadow = some im) :
    (s.evSwapWindow n ev).sectorAt n = { (s.sectorAt n).loaded (s.sectorAt n) ev im with state := .running } := by
  rw [State.evSwapWindow_eq ready h, State.swapAnswer_sectorAt, State.swapRecord_sectorAt, State.swapLoad, State.sectorAt_sectorTo_same hn]
  change { ((s.sectorTo n .swap).updSector n _).sectorAt n with state := SecState.running } = _
  rw [State.sectorAt_updSector_same _ hn, State.sectorAt_sectorTo_same hn]
  rfl

theorem State.evSwapWindow_other {ev : SwapEvents} {im : SecImage} (hm : m ≠ n) (ready : s.swapReady n = true)
    (h : (s.sectorAt n).shadow = some im) : (s.evSwapWindow n ev).sectorAt m = s.sectorAt m := by
  rw [State.evSwapWindow_eq ready h, State.swapAnswer_sectorAt, State.swapRecord_sectorAt, State.swapLoad,
    State.sectorAt_sectorTo_other hm.symm]
  change ((s.sectorTo n .swap).updSector n _).sectorAt m = _
  rw [State.sectorAt_updSector_other _ hm.symm, State.sectorAt_sectorTo_other hm.symm]

theorem Sector.keeps_of_same {x : Sector} {im : SecImage} (h1 : x.state ≠ .empty) (h2 : x.state ≠ .fault)
    (h3 : x.image.map (·.carryId) = some im.carryId) : x.keeps im = true := by
  simp [Sector.keeps, h1, h2, h3]

theorem Sector.keeps_of_other {x : Sector} {im : SecImage}
    (h : x.state = .empty ∨ x.state = .fault ∨ x.image.map (·.carryId) ≠ some im.carryId) : x.keeps im = false := by
  rcases h with h | h | h
  · simp [Sector.keeps, h]
  · simp [Sector.keeps, h]
  · rw [Sector.keeps, beq_false_of_ne h, Bool.and_false]

/-! ### The scrub (18 R742) -/

/-- Whether a shadow copy passes its CRC. -/
def SecImage.passes (im : SecImage) : Bool := crc32 im.payload == im.crc

/-- A scrub that finds nothing, an empty sector and one in FAULT already stay. -/
theorem State.evConfigScrub_same {ok : Bool} (h : ok = true ∨ (s.sectorAt n).image = none ∨ (s.sectorAt n).state = .fault) :
    s.evConfigScrub n ok = s :=
  if_pos h

/-- The sector parks in FAULT and keeps what passes its CRC. -/
theorem State.evConfigScrub_fault (hn : n < 16) (h1 : (s.sectorAt n).image ≠ none) (h2 : (s.sectorAt n).state ≠ .fault) :
    (s.evConfigScrub n false).sectorAt n =
      { s.sectorAt n with
        release := 0, releasing := false, state := .fault
        shadow := if (s.sectorAt n).shadow.any SecImage.passes then (s.sectorAt n).shadow else none } := by
  unfold State.evConfigScrub
  rw [if_neg fun e => e.elim Bool.false_ne_true fun e => e.elim h1 h2]
  dsimp only
  rw [State.sectorAt_sectorTo_same hn, State.sectorAt_updSector_same s hn]
  cases (s.sectorAt n).shadow <;> rfl

/-! ### The serial ports (18 R723, R724) -/

/-- A change of one port is seen at the port's present contents alone. -/
theorem State.port_congr {p : Nat} {f g : SPort → SPort} (h : f (Table.at s.fil.port p {}) = g (Table.at s.fil.port p {})) :
    ({ s with fil := { s.fil with port := Table.upd s.fil.port p f } } : State) =
      { s with fil := { s.fil with port := Table.upd s.fil.port p g } } := by
  rw [Table.upd_congr s.fil.port p {} h]

theorem State.port_same {p : Nat} {f : SPort → SPort} (h : f (Table.at s.fil.port p {}) = Table.at s.fil.port p {}) :
    ({ s with fil := { s.fil with port := Table.upd s.fil.port p f } } : State) = s := by
  rw [Table.upd_of_same s.fil.port p {} h]

/-- A port that is off, a device out of service and a sector in reset carry no character. -/
theorem State.evSerialCharacter_idle {p : Nat} (rx : Bool) (b : Byte) (gap : Bool) (h : (Table.at s.fil.port p {}).mode = 0 ∨
    s.inService = false ∨ (s.sectorAt (Table.at s.fil.port p {}).sector).release = 0) : s.evSerialCharacter p rx b gap = s :=
  if_pos (h.imp_right (Or.imp_left fun h => by rw [State.filRuns, h]; rfl))

/-- A port that carries characters is past the model's first guard. -/
theorem State.serialRuns {p : Nat} (h1 : (Table.at s.fil.port p {}).mode ≠ 0) (h2 : s.inService = true)
    (h3 : (s.sectorAt (Table.at s.fil.port p {}).sector).release ≠ 0) : ¬ ((Table.at s.fil.port p {}).mode = 0 ∨ (!s.filRuns) = true ∨
      (s.sectorAt (Table.at s.fil.port p {}).sector).release = 0) := by
  rw [State.filRuns, h2]
  exact fun e => e.elim h1 fun e => e.elim nofun h3

/-! ### Input registers (18 R728) -/

theorem State.strobes_off {r : Nat} (h : s.fil.regWrite.getLsbD r = false ∨ s.inService = false) : ¬ s.strobes r = true := by
  rcases h with h | h
  · simp [State.strobes, h]
  · simp [State.strobes, State.filRuns, h]

/-- The sectors, by their numbers. -/
theorem State.sector_any {q : Sector → Bool} : s.fil.sector.any q = true ↔ ∃ n, n < 16 ∧ q (s.sectorAt n) = true := by
  rw [Vector.any_eq_true]
  refine exists_congr fun i => ⟨fun ⟨h, e⟩ => ⟨h, ?_⟩, fun ⟨h, e⟩ => ⟨h, ?_⟩⟩
  · simpa [State.sectorAt, Table.at, h] using e
  · simpa [State.sectorAt, Table.at, h] using e

/-- A released sector whose image writes the register makes it take a sample. -/
theorem State.strobes_of {r n : Nat} {im : SecImage} (hn : n < 16) (h1 : s.fil.regWrite.getLsbD r = true) (h2 : s.inService = true)
    (h3 : (s.sectorAt n).image = some im) (h4 : im.writesReg r = true) (h5 : 2 ≤ (s.sectorAt n).release) : s.strobes r = true := by
  have one := State.sector_any (s := s) (q := fun x => decide (2 ≤ x.release) && x.image.any fun i => i.writesReg r) |>.2
    ⟨n, hn, by simp [h3, h4, h5]⟩
  rw [State.strobes, State.filRuns, h1, h2, one]
  rfl

theorem State.strobes_sector {r : Nat} (h : s.strobes r = true) :
    ∃ n im, n < 16 ∧ (s.sectorAt n).image = some im ∧ im.writesReg r = true ∧ 2 ≤ (s.sectorAt n).release := by
  rw [State.strobes, Bool.and_eq_true, State.sector_any] at h
  obtain ⟨-, n, hn, h⟩ := h
  rw [Bool.and_eq_true, Option.any_eq_true] at h
  obtain ⟨open_, im, hi, hw⟩ := h
  exact ⟨n, im, hn, hi, hw, of_decide_eq_true open_⟩

/-! ### The fabric's flash (18 R722, R749) -/

/-- A write of one page leaves every other page. -/
theorem Mem.get_page {m : Mem} (wf : Mem.wf 0xFF m = true) (left : Nat → Byte) {a w : Nat} (ha : a / 4096 ≠ w) :
    Mem.get 0xFF (Mem.write 0xFF m (4096 * w) ((List.range 4096).map left)) a = Mem.get 0xFF m a := by
  rw [Mem.get_write wf, List.length_map, List.length_range, if_neg (by omega)]

/-- Another content of the fabric's flash. -/
def State.withFlash (s : State) (m : Mem) (l : List Nat) : State := { s with fil := { s.fil with flash := m, programmed := l } }

theorem State.withFlash_flash {m : Mem} {l : List Nat} : (s.withFlash m l).fil.flash = m := rfl

theorem State.withFlash_eq {m : Mem} {l : List Nat} : s.withFlash m l =
    { s with fil := { s.fil with flash := (s.withFlash m l).fil.flash, programmed := (s.withFlash m l).fil.programmed } } := rfl

/-- The words of a page whose erase was cut off count as programmed. -/
theorem mem_cutPage {w i : Nat} (hi : i < 512) (l : List Nat) : 512 * w + i ∈ (List.range 512).map (512 * w + ·) ++ l :=
  List.mem_append_left _ (List.mem_map.2 ⟨i, List.mem_range.2 hi, rfl⟩)

end

/-- Settles O60: a release and a swap are read in the record of each sector, through the log and the answers; the other events by the branch
that their conditions take, a port's at its present contents. -/
theorem fabricEventsAct : Obligations.FabricEventsAct := by
  refine ⟨fun s => ?_, ?_, fun s n ev hn h => ?_, fun s n h => ?_, fun s h => ?_, ?_, ?_, ?_, ?_, fun s => effect_of rfl rfl, fun s a b => ?_⟩
  · refine ⟨_, effect_of rfl rfl, fun n hn h => ?_, fun n hn h => ?_, State.evFilReleaseStage_release⟩
    · rw [State.evFilReleaseStage_sectorAt hn, if_pos h]
      exact ⟨rfl, rfl, fun h => if_pos (Nat.succ_le_succ h)⟩
    · rw [State.evFilReleaseStage_sectorAt hn, h]
      rfl
  · intro s n ev im hn ready h x
    refine ⟨_, effect_of (State.onUnit_of_lt hn) rfl, ?_⟩
    rw [State.evSwapWindow_same hn ready h]
    refine ⟨rfl, rfl, rfl, rfl, fun h1 h2 h3 => ?_, fun h => ?_, ⟨rfl, rfl⟩, rfl, fun m hm => State.evSwapWindow_other hm ready h⟩
    · exact if_pos (Sector.keeps_of_same h1 h2 h3)
    · exact if_neg fun e => Bool.false_ne_true ((Sector.keeps_of_other h).symm.trans e)
  · exact effect_of (State.onUnit_of_lt hn) (if_neg fun e => Bool.false_ne_true (h.symm.trans e))
  · exact effect_of rfl (by rw [State.evSwapStagingTimeout, h])
  · exact effect_of rfl (by rw [State.evSwapStagingTimeout, h])
  · intro s n hn x
    refine ⟨effect_of (State.onUnit_of_lt hn) (State.evConfigScrub_same (.inl rfl)),
      fun h => effect_of (State.onUnit_of_lt hn) (State.evConfigScrub_same (.inr h)), fun h1 h2 => ?_⟩
    refine ⟨_, effect_of (State.onUnit_of_lt hn) rfl, ?_⟩
    rw [State.evConfigScrub_fault hn h1 h2]
    refine ⟨rfl, rfl, rfl, fun im hs hc => if_neg fun e => ?_, fun im hs hc => (if_pos ?_).trans hs⟩
    · rw [show (s.sectorAt n).shadow = some im from hs] at e
      exact Bool.false_ne_true (hc.symm.trans e)
    · rw [show (s.sectorAt n).shadow = some im from hs]
      exact hc
  · intro s p hp q x port
    have on {u v : State} (h : u = v) : s.onUnit p 8 u = s.finish v := h ▸ State.onUnit_of_lt hp
    refine ⟨fun h => ?_, fun h2 h => ?_, fun h2 h => ?_, fun rx b gap h => ?_, fun b gap h0 h1 h3 h4 => ?_, fun b gap h2 h => ?_,
      fun b gap h => ?_, fun b gap h0 h1 h2 => ?_⟩
    · exact effect_of (on (State.port_same (if_pos h))) rfl
    · exact effect_of (on (State.port_congr ((if_neg (not_not_intro h2)).trans (if_pos h)))) rfl
    · exact effect_of (on (State.port_congr ((if_neg (not_not_intro h2)).trans (if_neg h)))) rfl
    · exact effect_of (on (State.evSerialCharacter_idle rx b gap h)) rfl
    · refine ⟨(s.free 63).1 % (q.rx.length + 1), Nat.le_of_lt_succ (Nat.mod_lt _ (Nat.succ_pos _)), effect_of (on ?_) rfl⟩
      refine (if_neg (State.serialRuns h0 h1 h3)).trans ((if_pos rfl).trans ((if_neg fun e => h4.elim (· e.1) fun h => ?_).trans ?_))
      · exact Bool.false_ne_true (h.symm.trans e.2)
      · refine congrArg (fun s : State => { s with freeCtr := s.freeCtr + 1 }) (State.port_congr ?_)
        simp only [List.length_drop]
        rfl
    · by_cases run : q.mode = 0 ∨ (!s.filRuns) = true ∨ x.release = 0
      · exact effect_of (on (if_pos run)) rfl
      · exact effect_of (on ((if_neg run).trans ((if_pos rfl).trans (if_pos ⟨h2, h⟩)))) rfl
    · by_cases run : q.mode = 0 ∨ (!s.filRuns) = true ∨ x.release = 0
      · exact effect_of (on (if_pos run)) rfl
      · exact effect_of (on ((if_neg run).trans ((if_neg Bool.false_ne_true).trans (if_pos h)))) rfl
    · refine effect_of (on ?_) rfl
      exact (if_neg (State.serialRuns h0 h1 (Nat.ne_zero_of_lt h2))).trans ((if_neg Bool.false_ne_true).trans ((if_neg (Nat.not_lt.2 h2)).trans
        (congrArg (State.emit · _) (State.port_congr rfl))))
  · intro s n w v hn
    have on {u v : State} (h : u = v) : s.onUnit n 16 u = s.finish v := h ▸ State.onUnit_of_lt hn
    refine ⟨fun h1 h2 h3 h4 => ?_, fun h cut => effect_of (on (if_neg ?_)) rfl, fun h1 h2 h3 => ?_,
      fun h cut => effect_of (on (if_neg ?_)) rfl⟩
    · have may : Table.at s.fil.region (w / 8192) none = some n ∧ 2 ≤ (s.sectorAt n).release ∧ s.filRuns = true ∧
          ¬ s.fil.programmed.contains w = true := ⟨h1, h2, h3, fun e => h4 (List.contains_iff_mem.1 e)⟩
      exact ⟨effect_of (on (if_pos may)) rfl, (s.free 62).1 % 2 == 1, effect_of (on (if_pos may)) rfl⟩
    · rintro ⟨h1, h2, h3, h4⟩
      rcases h with h | h | h | h
      · exact h h1
      · omega
      · exact Bool.false_ne_true (h.symm.trans h3)
      · exact h4 (List.contains_iff_mem.2 h)
    · have cut : s.evFabricFlashErase n w true = s.withFlash _ _ := (if_pos ⟨h1, h2, h3⟩).trans (if_pos rfl)
      refine ⟨effect_of (on ((if_pos ⟨h1, h2, h3⟩).trans (if_neg Bool.false_ne_true))) rfl, _, effect_of (on cut) rfl,
        fun i hi => mem_cutPage hi _, fun wf a ha => ?_, State.withFlash_eq⟩
      rw [State.withFlash_flash]
      exact Mem.get_page wf _ ha
    · rintro ⟨h1, h2, h3⟩
      rcases h with h | h | h
      · exact h h1
      · omega
      · exact Bool.false_ne_true (h.symm.trans h3)
  · intro s r v hr
    have on {u v : State} (h : u = v) : s.onUnit r 32 u = s.finish v := h ▸ State.onUnit_of_lt hr
    refine ⟨fun h => effect_of (on (if_neg (State.strobes_off h))) rfl, fun h => effect_of (on (if_neg fun e => ?_)) rfl,
      fun n im hn h1 h2 h3 h4 h5 => effect_of (on (if_pos (State.strobes_of hn h1 h2 h3 h4 h5))) rfl⟩
    obtain ⟨n, im, hn, h1, h2, h3⟩ := State.strobes_sector e
    exact Nat.not_lt.2 h3 (h n im hn h1 h2)
  · refine ⟨fun h => effect_of rfl (if_pos h), fun h1 h2 h3 => effect_of rfl (if_neg fun e => ?_)⟩
    exact e.elim (fun e => Bool.false_ne_true (h1.symm.trans e)) fun e => e.elim h2 h3

end Sys2Proof.Machine
end

section
/-! SUPPORT. The life of partitions (O28): what a request grants, starts, stops and takes away, one lemma per operation, and what each leaves
alone. -/
namespace Sys2Proof.Machine

section
variable {s t u a : State} {c p q : Nat} {r : Req} {f : InFlight}

/-! ### The partition that a request names -/

/-- A judged request's fields are in their ranges. -/
theorem Judged.inRange (h : Judged s c r) {x : Nat × Bool} (hx : x ∈ (s.accepted c r).rangeFaults c r) : x.2 = false := by
  obtain ⟨-, known, -, -, arg, -⟩ := h
  have good : (s.accepted c r).badArg c r = none := by
    unfold State.argFault at arg
    split at arg
    · exact absurd arg nofun
    · next e => exact e
  unfold State.badArg at good
  split at good
  · next unknown =>
    rw [unknown] at known
    exact absurd known nofun
  · split at good
    · exact absurd good nofun
    · split at good
      · exact absurd good nofun
      · dsimp only at good
        split at good
        · exact absurd good nofun
        · next faults =>
          refine Bool.eq_false_iff.2 fun e => ?_
          have none_ := List.min?_eq_none_iff.1 faults
          have mem : x.1 ∈ (((s.accepted c r).rangeFaults c r).filter (·.2)).map (·.1) :=
            List.mem_map.2 ⟨x, List.mem_filter.2 ⟨hx, e⟩, rfl⟩
          rw [(List.append_eq_nil_iff.1 none_).1] at mem
          exact absurd mem List.not_mem_nil

theorem Judged.create_lt (h : Judged s 0x0201 r) : r.f 0 1 < 16 := by
  have := h.inRange (x := (0, decide (15 < r.f 0 1))) List.mem_cons_self
  exact Nat.lt_succ_of_le (Nat.not_lt.1 (of_decide_eq_false this))

/-! ### The acts of the partition opcodes -/

theorem State.perform_partCreate (h : f.opcode = 0x0201) : a.perform f = a.doPartCreate f := by
  rw [State.perform_of_general (by omega)]
  simp only [State.performGeneral, h]

theorem State.perform_partResize (h : f.opcode = 0x0202) : a.perform f = a.doPartResize f := by
  rw [State.perform_of_general (by omega)]
  simp only [State.performGeneral, h]

theorem State.perform_partDestroy (h : f.opcode = 0x0203) : a.perform f = a.doPartDestroy f := by
  rw [State.perform_of_general (by omega)]
  simp only [State.performGeneral, h]

theorem State.perform_partStart (h : f.opcode = 0x0204) : a.perform f = a.doPartStart f := by
  rw [State.perform_of_general (by omega)]
  simp only [State.performGeneral, h]

theorem State.perform_partStop (h : f.opcode = 0x0205) : a.perform f = a.doPartStop f := by
  rw [State.perform_of_general (by omega)]
  simp only [State.performGeneral, h]

theorem State.perform_partReset (h : f.opcode = 0x0206) : a.perform f = a.doPartReset f := by
  rw [State.perform_of_general (by omega)]
  simp only [State.performGeneral, h]

/-! ### Moulds that join (06 R243) -/

theorem State.mem_byGrant {l : List Nat} {m : Nat} : m ∈ s.byGrant l ↔ m ∈ l := by
  rw [State.byGrant_eq_insertionSort]
  exact (List.perm_insertionSort _ l).mem_iff

theorem State.mouldJoin_partAt_other {m : Nat} {anew : Bool} (h : p ≠ q) : (s.mouldJoin m p anew).partAt q = s.partAt q :=
  State.partAt_updPart_other _ h _

/-- Moulds that join are among their partition's, in some order, and nothing else of it changes. -/
theorem State.mouldJoin_foldl (hp : p < 16) (l : List Nat) : ∃ ms, (l.foldl (fun (s : State) m => s.mouldJoin m p true) s).partAt p =
    { s.partAt p with moulds := ms } ∧ ∀ m, m ∈ ms ↔ m ∈ (s.partAt p).moulds ∨ m ∈ l := by
  induction l generalizing s with
  | nil => exact ⟨(s.partAt p).moulds, rfl, fun m => by simp⟩
  | cons k l ih =>
    obtain ⟨ms, part, mem⟩ := ih (s := s.mouldJoin k p true)
    have joined : ∃ g : State, (s.mouldJoin k p true).partAt p = { s.partAt p with moulds := g.byGrant ((s.partAt p).moulds ++ [k]) } :=
      ⟨_, State.partAt_updPart_same _ hp _⟩
    obtain ⟨g, joined⟩ := joined
    rw [joined] at part mem
    refine ⟨ms, part, fun m => (mem m).trans ?_⟩
    simp only [State.mem_byGrant, List.mem_append, List.mem_cons, List.not_mem_nil, or_false, or_assoc]

/-! ### Grants (05 R209, 06 R243) -/

theorem State.markUnits_part (gr sl : List Nat) : (s.markUnits gr sl).part = s.part :=
  (State.foldl_keeps State.part (h := fun (s : State) n => (rfl : (s.markBlocks (sliceBlocks n)).part = s.part)) sl _).trans
    (State.foldl_keeps State.part (h := fun (s : State) g => (rfl : (s.markBlocks (granuleBlocks g)).part = s.part)) gr s)

/-- How many more of its wants a partition needs. -/
def State.needs (s : State) (p : Nat) (want : List Nat) (i : Nat) : Nat := (want[i]?).getD 0 - ((s.counts p)[i]?).getD 0

/-- A partition with its Moulds in some order, and more units of the kinds that are its own alone. -/
def Part.grown (x : Part) (l sl gr ri ta : List Nat) : Part :=
  { x with moulds := l, slices := x.slices ++ sl, granules := x.granules ++ gr, rings := x.rings ++ ri, tallies := x.tallies ++ ta }

/-- A partition grows by the lowest free units of each kind, after those that it holds. -/
theorem State.grow_partAt (hp : p < 16) (want : List Nat) : ∃ l, (s.grow p want).partAt p =
    (s.partAt p).grown l ((s.unowned 48 (·.slices)).take (s.needs p want 1)) ((s.unowned 96 (·.granules)).take (s.needs p want 2))
      ((s.unowned 64 (·.rings)).take (s.needs p want 3)) ((s.unowned 32 (·.tallies)).take (s.needs p want 4)) ∧
    ∀ m, m ∈ l ↔ m ∈ (s.partAt p).moulds ∨ m ∈ s.freeMoulds.take (s.needs p want 0) := by
  obtain ⟨l, part, mem⟩ := State.mouldJoin_foldl (s := s) hp (s.freeMoulds.take (s.needs p want 0))
  refine ⟨l, ?_, mem⟩
  rw [State.grow, State.partAt, State.markUnits_part]
  exact (State.partAt_updPart_same _ hp _).trans (congrArg (fun x : Part => x.grown x.moulds _ _ _ _) part :)

theorem State.grow_partAt_other (h : q ≠ p) (want : List Nat) : (s.grow p want).partAt q = s.partAt q := by
  rw [State.grow, State.partAt, State.markUnits_part]
  refine (State.partAt_updPart_other _ h.symm _).trans ?_
  exact State.foldl_keeps (fun s => s.partAt q) (fun _ _ => State.mouldJoin_partAt_other h.symm) _ s

/-- What no partition holds stays so where a partition changes without changing what it holds. -/
theorem State.unowned_updPart {held : Part → List Nat} {g : Part → Part} (h : ∀ x, held (g x) = held x) (n : Nat) :
    (s.updPart p g).unowned n held = s.unowned n held := by
  have all (i : Nat) (v : Vector Part 16) :
      (v.toList.all fun x => !(held x).contains i) = (v.map held).toList.all fun l => !l.contains i := by
    rw [Vector.toList_map, List.all_map]
    rfl
  unfold State.unowned
  refine List.filter_congr fun i _ => ?_
  rw [all, all, State.updPart, Table.map_upd s.part p h]

theorem State.freeMoulds_updPart {g : Part → Part} : (s.updPart p g).freeMoulds = s.freeMoulds := rfl

/-- A partition's configuration, as PART_CREATE sets it. -/
def Part.created (x : Part) (r : Req) : Part :=
  { (x.freshRegs.configure r) with late := 0, memLost := false, image := none, intakeOff := true }

/-- A created partition, its units granted. -/
def State.created (a : State) (r : Req) : State := (a.updPart (r.f 0 1) fun x => x.created r).grow (r.f 0 1) r.wants

theorem State.needs_created (hp : p < 16) : (a.updPart p fun x => x.created r).needs p r.wants 0 =
      r.f 1 1 - ((a.partAt p).moulds.length + a.mouldsOut p) ∧
    (a.updPart p fun x => x.created r).needs p r.wants 1 = r.f 2 1 - (a.partAt p).slices.length ∧
    (a.updPart p fun x => x.created r).needs p r.wants 2 = r.f 3 1 - (a.partAt p).granules.length ∧
    (a.updPart p fun x => x.created r).needs p r.wants 3 = r.f 4 1 - (a.partAt p).rings.length ∧
    (a.updPart p fun x => x.created r).needs p r.wants 4 = r.f 5 1 - (a.partAt p).tallies.length := by
  simp only [State.needs, State.counts, State.partAt_updPart_same a hp]
  exact ⟨rfl, rfl, rfl, rfl, rfl⟩

/-- A created partition, by what it is granted. -/
def Part.granted (x : Part) (r : Req) (l sl gr ri ta : List Nat) : Part :=
  { x.freshRegs with
    chl := r.f 6 1
    wmk := r.f 7 1
    tag := r.f 8 2
    optical := bitOf (r.f 0x0A 1) 0
    fallback := bitOf (r.f 0x0A 1) 1
    drainMs := r.f 0x0C 2
    late := 0
    memLost := false
    image := none
    intakeOff := true
    moulds := l
    slices := sl
    granules := gr
    rings := ri
    tallies := ta }

theorem Part.created_grown {x : Part} {l sl gr ri ta : List Nat} : (x.created r).grown l sl gr ri ta =
    x.granted r l (x.slices ++ sl) (x.granules ++ gr) (x.rings ++ ri) (x.tallies ++ ta) := rfl

/-- What a created partition is, but for the order of its Moulds. -/
theorem State.created_partAt (hp : r.f 0 1 = p) (h16 : p < 16) : ∃ l, (a.created r).partAt p =
    (a.partAt p).granted r l
      ((a.partAt p).slices ++ (a.unowned 48 (·.slices)).take (r.f 2 1 - (a.partAt p).slices.length))
      ((a.partAt p).granules ++ (a.unowned 96 (·.granules)).take (r.f 3 1 - (a.partAt p).granules.length))
      ((a.partAt p).rings ++ (a.unowned 64 (·.rings)).take (r.f 4 1 - (a.partAt p).rings.length))
      ((a.partAt p).tallies ++ (a.unowned 32 (·.tallies)).take (r.f 5 1 - (a.partAt p).tallies.length)) ∧
    ∀ m, m ∈ l ↔ m ∈ (a.partAt p).moulds ∨ m ∈ a.freeMoulds.take (r.f 1 1 - ((a.partAt p).moulds.length + a.mouldsOut p)) := by
  subst hp
  obtain ⟨l, part, mem⟩ := State.grow_partAt (s := a.updPart (r.f 0 1) fun x => x.created r) h16 r.wants
  obtain ⟨n0, n1, n2, n3, n4⟩ := State.needs_created (a := a) (r := r) h16
  have config := State.partAt_updPart_same a h16 fun x => x.created r
  rw [config, n1, n2, n3, n4, Part.created_grown,
    State.unowned_updPart (s := a) (g := fun x => x.created r) (held := fun x => x.slices) (fun _ => rfl),
    State.unowned_updPart (s := a) (g := fun x => x.created r) (held := fun x => x.granules) (fun _ => rfl),
    State.unowned_updPart (s := a) (g := fun x => x.created r) (held := fun x => x.rings) (fun _ => rfl),
    State.unowned_updPart (s := a) (g := fun x => x.created r) (held := fun x => x.tallies) (fun _ => rfl)] at part
  rw [config, n0, State.freeMoulds_updPart] at mem
  exact ⟨l, part, mem⟩

theorem State.unowned_accepted (n : Nat) (held : Part → List Nat) : (s.accepted c r).unowned n held = s.unowned n held := by
  have same : (s.accepted c r).part = s.part := State.of_accepted State.part (fun _ _ => rfl) c
  rw [State.unowned, same]
  rfl

theorem State.created_partAt_other (h : q ≠ r.f 0 1) : (a.created r).partAt q = a.partAt q :=
  (State.grow_partAt_other h _).trans (State.partAt_updPart_other a h.symm _)

/-- A partition that is not there, for which there is enough of everything, is created. -/
theorem State.doPartCreate_creates (hs : (a.partAt (f.req.f 0 1)).state = .none) (hg : a.grantLack f.req false = none) {u : State}
    (hu : ((a.created f.req).talliesReset ((a.created f.req).partAt (f.req.f 0 1)).tallies).partTo (f.req.f 0 1) .stopped = u) :
    a.doPartCreate f = u.answer f .ok 0 (u.partAt (f.req.f 0 1)).grants := by
  subst hu
  unfold State.doPartCreate
  dsimp only
  rw [if_neg (not_not_intro hs), hg]
  rfl

theorem State.doPartCreate_lacks {d : Nat} (hs : (a.partAt (f.req.f 0 1)).state = .none) (hg : a.grantLack f.req false = some d) :
    a.doPartCreate f = a.answer f .precond d := by
  unfold State.doPartCreate
  dsimp only
  rw [if_neg (not_not_intro hs), hg]

/-- A partition that may be resized gives back and takes what it is asked to. -/
theorem State.doPartResize_resizes (hs : (a.partAt (f.req.f 0 1)).state ≠ .none) (hb : a.partBusy (f.req.f 0 1) = false)
    (hg : a.grantLack f.req ((a.partAt (f.req.f 0 1)).state != .stopped) = none) {u : State}
    (hu : (((a.shrink (f.req.f 0 1) f.req.wants).grow (f.req.f 0 1) f.req.wants).updPart (f.req.f 0 1) fun y =>
      y.configure f.req).ringsRefresh (f.req.f 0 1) = u) : a.doPartResize f = u.answer f .ok 0 (u.partAt (f.req.f 0 1)).grants := by
  subst hu
  unfold State.doPartResize
  dsimp only
  rw [if_neg (by simp [hs, hb]), hg]
  rfl

theorem State.doPartResize_lacks {d : Nat} (hs : (a.partAt (f.req.f 0 1)).state ≠ .none) (hb : a.partBusy (f.req.f 0 1) = false)
    (hg : a.grantLack f.req ((a.partAt (f.req.f 0 1)).state != .stopped) = some d) : a.doPartResize f = a.answer f .precond d := by
  unfold State.doPartResize
  dsimp only
  rw [if_neg (by simp [hs, hb]), hg]

/-! ### What a partition's request reaches beside itself -/

/-- Nothing but partitions, rings, the Calender, the mailboxes with the journal, and what is sent, is different. -/
def State.OnlyParts (s t : State) : Prop :=
  t = { s with part := t.part, ring := t.ring, cal := t.cal, damem := t.damem, out := t.out }

theorem State.OnlyParts.refl (s : State) : s.OnlyParts s := rfl

theorem State.OnlyParts.trans (h : s.OnlyParts t) (k : t.OnlyParts u) : s.OnlyParts u :=
  Eq.trans k (congrArg (fun x : State => { x with part := u.part, ring := u.ring, cal := u.cal, damem := u.damem, out := u.out }) h)

/-- What is made of nothing else is the same. -/
theorem State.OnlyParts.view {β : Type} (h : s.OnlyParts t) (view : State → β)
    (keep : ∀ (s : State) p r c d o, view { s with part := p, ring := r, cal := c, damem := d, out := o } = view s) : view t = view s := by
  rw [show t = _ from h]
  exact keep _ _ _ _ _ _

theorem State.OnlyParts.foldl {α : Type} {g : State → α → State} (h : ∀ (s : State) b, s.OnlyParts (g s b)) :
    ∀ (l : List α) (s : State), s.OnlyParts (l.foldl g s)
  | [], s => refl s
  | b :: l, s => (h s b).trans (foldl h l _)

theorem State.OnlyParts.log (s : State) (code : Nat) (prm : List Byte) (part : Option Nat) :
    s.OnlyParts (s.log code prm part) := by
  obtain ⟨_, _, _, e⟩ := State.log_form s code prm part true false true
  rw [e]
  rfl

theorem State.OnlyParts.answerWaiting (s : State) (w : Wait) (st : Status) (payload : InFlight → List Byte) :
    s.OnlyParts (s.answerWaiting w st 0 payload) := by
  obtain ⟨_, _, e⟩ := State.answerWaiting_form s w st 0 payload
  rw [e]
  rfl

theorem State.OnlyParts.ringRefresh (s : State) (r : Nat) : s.OnlyParts (s.ringRefresh r) := by
  unfold State.ringRefresh
  split <;> rfl

theorem State.OnlyParts.partTo (s : State) (p : Nat) (st : PState) : s.OnlyParts (s.partTo p st) :=
  State.OnlyParts.trans (t := s.updPart p fun x => { x with state := st }) rfl
    (State.OnlyParts.trans (State.OnlyParts.foldl State.OnlyParts.ringRefresh _ _) (State.OnlyParts.log ..))

theorem State.OnlyParts.accepted (s : State) (c : Nat) (r : Req) : s.OnlyParts (s.accepted c r) := by
  obtain ⟨_, _, e⟩ := s.accepted_form c r
  rw [e]
  rfl

/-! ### A partition's state -/

theorem State.partTo_partAt_other (h : q ≠ p) (st : PState) (detail : Nat) : (s.partTo p st detail).partAt q = s.partAt q := by
  rw [State.partAt, State.partTo, State.log_part, State.ringsRefresh_part]
  exact State.partAt_updPart_other s h.symm _

theorem State.ringsRefresh_damem : (s.ringsRefresh p).damem = s.damem :=
  State.foldl_keeps State.damem (fun s r => by unfold State.ringRefresh; split <;> rfl) _ s

theorem State.partTo_inflight (st : PState) : (s.partTo p st).damem.inflight = s.damem.inflight := by
  unfold State.partTo
  dsimp only
  obtain ⟨_, _, _, e⟩ := State.log_form ((s.updPart p fun x => { x with state := st }).ringsRefresh p) 0x2001
    (param [(1, st.code), (1, (((s.updPart p fun x => { x with state := st }).ringsRefresh p).partAt p).cause), (2, 0)]) (some p) true false true
  rw [e]
  exact (congrArg DamemSt.inflight State.ringsRefresh_damem :)

/-! ### The start (05 R211, 06 R252) -/

/-- A partition that is starting, in the device that holds its request and has the start waiting. -/
def State.startWaits (a : State) (f : InFlight) (p : Nat) : State :=
  ((a.hold f (.partStart p)).partTo p .starting).updDev fun d => { d with startsWaiting := d.startsWaiting ++ [p] }

theorem State.startWaits_partAt (hp : p < 16) : (a.startWaits f p).partAt p = { a.partAt p with state := .starting } :=
  State.partTo_partAt _ hp _ _

theorem State.startWaits_partAt_other (h : q ≠ p) : (a.startWaits f p).partAt q = a.partAt q :=
  State.partTo_partAt_other h _ _

/-- Beside the partitions, a start that waits is one more of those. -/
theorem State.startWaits_only : { a with dev := { a.dev with startsWaiting := a.dev.startsWaiting ++ [p] } }.OnlyParts (a.startWaits f p) := by
  have only : a.OnlyParts ((a.hold f (.partStart p)).partTo p .starting) :=
    State.OnlyParts.trans (t := a.hold f (.partStart p)) rfl (State.OnlyParts.partTo _ _ _)
  have dev : ((a.hold f (.partStart p)).partTo p .starting).dev = a.dev := (congrArg State.dev (show _ = _ from only) :)
  unfold State.startWaits State.updDev
  rw [dev]
  exact congrArg (fun x : State => { x with dev := { a.dev with startsWaiting := a.dev.startsWaiting ++ [p] } }) only

theorem State.startWaits_inflight (h : f ∈ a.damem.inflight) :
    ∃ g ∈ (a.startWaits f p).damem.inflight, g.req = f.req ∧ g.wait = .partStart p := by
  have kept : (a.startWaits f p).damem.inflight = (a.hold f (.partStart p)).damem.inflight := State.partTo_inflight _
  rw [kept]
  exact State.mem_hold h

/-- A partition whose start was waited for is started. -/
theorem State.partStarted_partAt (hp : p < 16) (h : (s.partAt p).state = .starting) :
    (s.partStarted p).partAt p = { s.partAt p with state := .started, intakeOff := false, memLost := false } := by
  rw [State.partStarted, if_pos h, State.partAt, State.answerWaiting_part]
  refine (State.partTo_partAt _ hp _ _).trans ?_
  rw [State.partAt_updPart_same s hp]

theorem State.partStarted_partAt_other (h : q ≠ p) : (s.partStarted p).partAt q = s.partAt q := by
  unfold State.partStarted
  split
  · rw [State.partAt, State.answerWaiting_part]
    refine (State.partTo_partAt_other h _ _).trans ?_
    rw [State.partAt_updPart_other s h.symm]
  · rfl

theorem State.OnlyParts.partStarted (s : State) (p : Nat) : s.OnlyParts (s.partStarted p) := by
  unfold State.partStarted
  split
  · exact State.OnlyParts.trans (t := s.updPart p fun x => { x with intakeOff := false, memLost := false }) rfl
      (State.OnlyParts.trans (State.OnlyParts.partTo _ _ _) (State.OnlyParts.answerWaiting _ _ _ _))
  · rfl

/-- A stopped partition that can run, has its start waited for and gone on with. -/
theorem State.doPartStart_goes (hp : f.req.f 0 1 = p) (hs : (a.partAt p).state = .stopped) (hi : (a.partAt p).image ≠ none)
    (hf : (a.partAt p).faulted = false) (hv : a.sriov.vfEnable = true) (hn : p < a.sriov.numVfs) (hd : a.dev.state ≠ .safe)
    (he : a.dev.episode = none) : a.doPartStart f = (a.startWaits f p).startsGo := by
  subst hp
  unfold State.doPartStart
  dsimp only
  rw [if_neg (by simp [hs]), if_neg (by simp [hs]), if_neg (by simp [hi, hf, hv, hn, hd, he])]
  rfl

/-- One that cannot is refused. -/
theorem State.doPartStart_refused (hp : f.req.f 0 1 = p) (hs : (a.partAt p).state = .stopped)
    (h : (a.partAt p).image = none ∨ (a.partAt p).faulted = true ∨ a.sriov.vfEnable = false ∨ a.sriov.numVfs < p + 1 ∨
      a.dev.state = .safe ∨ a.dev.episode.isSome = true) : a.doPartStart f = a.answer f .precond 0xFFFF := by
  subst hp
  unfold State.doPartStart
  dsimp only
  rw [if_neg (by simp [hs]), if_neg (by simp [hs]), if_pos]
  rcases h with h | h | h | h | h | h
  · exact .inl (by rw [h]; rfl)
  · exact .inr (.inl h)
  · exact .inr (.inr (.inl (by simp [h])))
  · exact .inr (.inr (.inr (.inl h)))
  · exact .inr (.inr (.inr (.inr (.inl h))))
  · exact .inr (.inr (.inr (.inr (.inr h))))

/-- Starts that wait on a device that may run them, outside RAMP mode, are carried out. -/
theorem State.startsGo_runs (hw : s.dev.startsWaiting ≠ []) (ht : s.dev.trans = false) (hs : s.thm.seed = none)
    (hd : s.dev.state = .anneal ∨ s.dev.state = .serving) (hr : s.rampMode = false) : s.startsGo = s.startsRun := by
  have awake : s.dev.state ≠ .standby := by rcases hd with h | h <;> rw [h] <;> nofun
  unfold State.startsGo
  rw [if_neg (by simp [hw, ht, hs])]
  dsimp only
  rw [if_neg awake, if_pos hd, if_neg (by simp [hr])]

/-- In RAMP mode, in SERVING, samples that seed the limiter are awaited first. -/
theorem State.startsGo_seeds (hw : s.dev.startsWaiting ≠ []) (ht : s.dev.trans = false) (hs : s.thm.seed = none)
    (hd : s.dev.state = .serving) (hr : s.rampMode = true) : s.startsGo = { s with thm := { s.thm with seed := some [] } } := by
  have awake : s.dev.state ≠ .standby := by rw [hd]; nofun
  have serving : s.dev.state ≠ .anneal := by rw [hd]; nofun
  unfold State.startsGo
  rw [if_neg (by simp [hw, ht, hs])]
  dsimp only
  rw [if_neg awake, if_pos (.inr hd), if_pos hr, if_neg serving]

/-- The device with no start waiting. -/
def State.startsTaken (s : State) : State := s.updDev fun d => { d with startsWaiting := [] }

theorem State.startsRun_serving (hw : s.dev.startsWaiting = [p]) (hd : s.dev.state = .serving) :
    s.startsRun = s.startsTaken.partStarted p := by
  have serving : s.dev.state ≠ .anneal := by rw [hd]; nofun
  unfold State.startsRun
  rw [if_neg serving]
  dsimp only
  rw [hw]
  rfl

/-- SERVING is entered first, which leaves the starts waiting and the partitions as they are. -/
theorem State.startsRun_anneal (hw : s.dev.startsWaiting = [p]) (hd : s.dev.state = .anneal) :
    ∃ t : State, s.startsRun = t.startsTaken.partStarted p ∧ t.part = s.part ∧ t.dev.state = .serving := by
  refine ⟨s.stateTo .serving .partStart, ?_⟩
  obtain ⟨w, x, l, c, d, o, e⟩ := State.stateTo_form s .serving .partStart
  unfold State.startsRun
  rw [if_pos hd, e]
  refine ⟨?_, rfl, rfl⟩
  dsimp only
  rw [hw]
  rfl

/-- Once the one start that waited is taken, beside the partitions nothing is left of it. -/
theorem State.startTaken_only (h : a.dev.startsWaiting = []) : a.OnlyParts (a.startWaits f p).startsTaken :=
  calc (a.startWaits f p).startsTaken
    _ = _ := (congrArg State.startsTaken (show _ = _ from State.startWaits_only (a := a) (f := f) (p := p)) :)
    _ = _ := congrArg (fun l => { a with
        dev := { a.dev with startsWaiting := l }, part := (a.startWaits f p).part, ring := (a.startWaits f p).ring,
        cal := (a.startWaits f p).cal, damem := (a.startWaits f p).damem, out := (a.startWaits f p).out }) h.symm

section
variable (hw : a.dev.startsWaiting = []) (ht : a.dev.trans = false) (hq : a.thm.seed = none)

include hw in
/-- The one start that waits. -/
theorem State.startWaits_dev : (a.startWaits f p).dev = { a.dev with startsWaiting := [p] } := by
  rw [State.startWaits_only.view State.dev fun _ _ _ _ _ _ => rfl, hw]
  rfl

theorem State.startWaits_thm : (a.startWaits f p).thm = a.thm := State.startWaits_only.view State.thm fun _ _ _ _ _ _ => rfl

theorem State.startWaits_rampMode : (a.startWaits f p).rampMode = a.rampMode :=
  State.startWaits_only.view State.rampMode fun _ _ _ _ _ _ => rfl

include hw ht hq in
theorem State.startWaits_runs (hd : a.dev.state = .anneal ∨ a.dev.state = .serving) (hr : a.rampMode = false) :
    (a.startWaits f p).startsGo = (a.startWaits f p).startsRun := by
  have dev := State.startWaits_dev (f := f) (p := p) hw
  refine State.startsGo_runs ?_ ?_ ?_ ?_ (State.startWaits_rampMode.trans hr)
  · rw [dev]; nofun
  · rw [dev]; exact ht
  · rw [State.startWaits_thm]; exact hq
  · rw [dev]; exact hd

include hw ht hq in
/-- In SERVING a start is carried out at once, and nothing but its partition is different. -/
theorem State.start_serving (h16 : p < 16) (hd : a.dev.state = .serving) (hr : a.rampMode = false) :
    ∃ u, (a.startWaits f p).startsGo = u ∧ u.partAt p = { a.partAt p with state := .started, intakeOff := false, memLost := false } ∧
      (∀ q, q ≠ p → u.partAt q = a.partAt q) ∧ a.OnlyParts u := by
  have dev := State.startWaits_dev (f := f) (p := p) hw
  have starting : (a.startWaits f p).startsTaken.partAt p = { a.partAt p with state := .starting } := State.startWaits_partAt h16
  refine ⟨_, (State.startWaits_runs hw ht hq (.inr hd) hr).trans (State.startsRun_serving (by rw [dev]) (by rw [dev]; exact hd)), ?_,
    fun q hq => (State.partStarted_partAt_other hq).trans (State.startWaits_partAt_other hq),
    (State.startTaken_only hw).trans (State.OnlyParts.partStarted _ _)⟩
  rw [State.partStarted_partAt h16 (by rw [starting]), starting]

include hw ht hq in
/-- In RAMP mode it waits for the samples that seed the limiter. -/
theorem State.start_ramp (h16 : p < 16) (hd : a.dev.state = .serving) (hr : a.rampMode = true) (hf : f ∈ a.damem.inflight) :
    ∃ u, (a.startWaits f p).startsGo = u ∧ (u.partAt p).state = .starting ∧ u.dev = { a.dev with startsWaiting := [p] } ∧
      u.thm = { a.thm with seed := some [] } ∧ ∃ g ∈ u.damem.inflight, g.req = f.req ∧ g.wait = .partStart p := by
  have dev := State.startWaits_dev (f := f) (p := p) hw
  have run := State.startsGo_seeds (s := a.startWaits f p) (by rw [dev]; nofun) (by rw [dev]; exact ht) (by rw [State.startWaits_thm]; exact hq)
    (by rw [dev]; exact hd) (State.startWaits_rampMode.trans hr)
  refine ⟨_, run, congrArg Part.state (State.startWaits_partAt h16), dev, ?_, State.startWaits_inflight hf⟩
  dsimp only
  rw [State.startWaits_thm]

include hw ht hq in
/-- From ANNEAL, SERVING is entered with it. -/
theorem State.start_anneal (h16 : p < 16) (hd : a.dev.state = .anneal) (hr : a.rampMode = false) :
    ∃ u, (a.startWaits f p).startsGo = u ∧ (u.partAt p).state = .started ∧ u.dev.state = .serving ∧ u.dev.startsWaiting = [] := by
  have dev := State.startWaits_dev (f := f) (p := p) hw
  obtain ⟨t, run, tables, serving⟩ := State.startsRun_anneal (s := a.startWaits f p) (by rw [dev]) (by rw [dev]; exact hd)
  have same : t.startsTaken.partAt p = (a.startWaits f p).partAt p := congrArg (fun v : Vector Part 16 => Table.at v p {}) tables
  have starting := same.trans (State.startWaits_partAt h16)
  have left : (t.startsTaken.partStarted p).dev = t.startsTaken.dev :=
    (State.OnlyParts.partStarted t.startsTaken p).view State.dev fun _ _ _ _ _ _ => rfl
  refine ⟨_, (State.startWaits_runs hw ht hq (.inl hd) hr).trans run, ?_, (congrArg Dev.state left).trans serving,
    congrArg Dev.startsWaiting left⟩
  rw [State.partStarted_partAt h16 (by rw [starting])]

end

/-! ### The stop (05 R211, 06 R273, R274) -/

/-- Sheets, ring by ring. -/
theorem State.sheets_of_map (h : t.ring.map Ring.sheets = s.ring.map Ring.sheets) (i : Nat) : (t.ringAt i).sheets = (s.ringAt i).sheets := by
  have at_ (v : Vector Ring 64) : (Table.at v i {}).sheets = Table.at (v.map Ring.sheets) i [] := by
    unfold Table.at
    rw [Vector.getElem?_map]
    cases v[i]? <;> rfl
  exact (at_ _).trans ((congrArg (Table.at · i []) h).trans (at_ _).symm)

theorem State.ringsRefresh_sheets : (s.ringsRefresh p).ring.map Ring.sheets = s.ring.map Ring.sheets := by
  refine State.foldl_keeps (fun s => s.ring.map Ring.sheets) (fun s i => ?_) _ s
  unfold State.ringRefresh
  split
  · exact Table.map_upd _ _ fun _ => rfl
  · exact Table.map_upd _ _ fun _ => rfl

theorem State.partTo_sheets (st : PState) (detail : Nat) : (s.partTo p st detail).ring.map Ring.sheets = s.ring.map Ring.sheets := by
  unfold State.partTo
  dsimp only
  rw [State.log_ring]
  exact State.ringsRefresh_sheets

/-- A partition whose intake stops, in the device that holds the request. -/
def State.drainStarts (a : State) (f : InFlight) (p : Nat) : State :=
  ((a.hold f (.partStop p)).updPart p fun x =>
    { x with intakeOff := true, done := 0, aborted := 0, stopCause := some .drainDeadline }).partTo p .draining

theorem State.drainStarts_partAt (hp : p < 16) : (a.drainStarts f p).partAt p =
    { a.partAt p with state := .draining, intakeOff := true, done := 0, aborted := 0, stopCause := some .drainDeadline } := by
  unfold State.drainStarts
  rw [State.partTo_partAt _ hp, State.partAt_updPart_same _ hp]
  rfl

theorem State.drainStarts_partAt_other (h : q ≠ p) : (a.drainStarts f p).partAt q = a.partAt q :=
  (State.partTo_partAt_other h _ _).trans (State.partAt_updPart_other _ h.symm _)

theorem State.drainStarts_only : a.OnlyParts (a.drainStarts f p) :=
  State.OnlyParts.trans (t := (a.hold f (.partStop p)).updPart p _) rfl (State.OnlyParts.partTo _ _ _)

theorem State.drainStarts_inflight (h : f ∈ a.damem.inflight) :
    ∃ g ∈ (a.drainStarts f p).damem.inflight, g.req = f.req ∧ g.wait = .partStop p := by
  have kept : (a.drainStarts f p).damem.inflight = (a.hold f (.partStop p)).damem.inflight := State.partTo_inflight _
  rw [kept]
  exact State.mem_hold h

theorem Part.live_iff {x : Part} : x.live = true ↔ x.state = .starting ∨ x.state = .started ∨ x.state = .draining := by
  simp only [Part.live, Bool.or_eq_true, beq_iff_eq, or_assoc]

theorem Part.live_ne {x : Part} (h : x.live = true) : x.state ≠ .none ∧ x.state ≠ .stopped := by
  rcases Part.live_iff.1 h with h | h | h <;> rw [h] <;> exact ⟨nofun, nofun⟩

/-- A DRAIN waits for the sheets that the partition still holds. -/
theorem State.doPartStop_drains (hp : f.req.f 0 1 = p) (h16 : p < 16) (hl : (a.partAt p).live = true) (hf : f.req.f 1 1 = 0)
    (hi : a.partIdle p = false) : a.doPartStop f = a.drainStarts f p := by
  subst hp
  obtain ⟨there, runs⟩ := Part.live_ne hl
  have busy : (a.drainStarts f (f.req.f 0 1)).partIdle (f.req.f 0 1) = false := by
    have sheets (i : Nat) : ((a.drainStarts f (f.req.f 0 1)).ringAt i).sheets = (a.ringAt i).sheets :=
      State.sheets_of_map (State.partTo_sheets ..) i
    rw [State.partIdle, State.drainStarts_partAt h16]
    simp only [sheets]
    exact hi
  unfold State.doPartStop
  dsimp only
  rw [if_neg there, if_neg runs, if_neg (by omega)]
  exact if_neg fun e => Bool.false_ne_true (busy.symm.trans e.2)

/-- An ABORT is answered with what it ended. -/
theorem State.doPartStop_aborts (hp : f.req.f 0 1 = p) (hl : (a.partAt p).live = true) (hf : f.req.f 1 1 = 1) :
    a.doPartStop f = (a.abortFor p .abort).2.done' f (countBytes 0 (a.abortFor p .abort).1) := by
  subst hp
  obtain ⟨there, runs⟩ := Part.live_ne hl
  unfold State.doPartStop
  dsimp only
  rw [if_neg there, if_neg runs, if_pos hf]

/-- The device as an ABORT begins: its counts begin anew, where no DRAIN goes on. -/
def State.abortZero (a : State) (p : Nat) : State :=
  if (a.partAt p).state = .draining then a else a.updPart p fun x => { x with done := 0, aborted := 0 }

theorem State.abortFor_live {cause : StopCause} (hl : (a.partAt p).live = true) : a.abortFor p cause =
    (((a.partAt p).rings.map fun i => (a.ringAt i).sheets.length).foldl (· + ·) 0,
      ((a.abortZero p).abortPart p cause cause.detail).answerStop p .aborted) := if_pos hl

theorem State.answerStop_partAt {st : Status} : (s.answerStop p st).partAt q = s.partAt q := by
  simp only [State.answerStop, State.partAt, State.answerWaiting_part]

theorem State.abortPart_stopped (hp : p < 16) (cause : StopCause) (detail : Nat) : ((a.abortPart p cause detail).partAt p).state = .stopped :=
  congrArg Part.state (State.partTo_partAt _ hp _ _)

/-- How an ABORT begins. -/
def State.abortBegins (a : State) (p : Nat) (cause : StopCause) : State :=
  (a.updPart p fun x =>
    { x with state := .aborting, epoch := (x.epoch + 1) % 65536, intakeOff := true, stopCause := some cause }).ringsRefresh p

theorem State.abortBegins_partAt (hp : p < 16) (cause : StopCause) : (a.abortBegins p cause).partAt p =
    { a.partAt p with state := .aborting, epoch := ((a.partAt p).epoch + 1) % 65536, intakeOff := true, stopCause := some cause } := by
  rw [State.abortBegins, State.partAt, State.ringsRefresh_part]
  exact State.partAt_updPart_same a hp _

/-- The partition's requests and batches are cancelled. -/
def State.cancelled (a : State) (p : Nat) : State := (a.cancelRequests p).cancelBatches p

theorem State.cancelled_partAt : (a.cancelled p).partAt q = a.partAt q := rfl

theorem State.cancelled_ringAt (i : Nat) : (a.cancelled p).ringAt i = a.ringAt i := rfl

/-- Its sheets are ended. -/
def State.sheetsEnd (a : State) (cause : StopCause) (rings : List Nat) : State :=
  rings.foldl (fun s r => (s.ringAt r).sheets.foldl
    (fun s h => (s.updSheet r h.subIndex fun h => { h with stop := some cause }).endSheet r h.subIndex) s) a

theorem State.sheetsEnd_empty {rings : List Nat} (cause : StopCause) (h : ∀ i ∈ rings, (a.ringAt i).sheets = []) :
    a.sheetsEnd cause rings = a :=
  foldl_of_fixed fun i hi => by rw [h i hi]; rfl

theorem State.abortPart_eq (cause : StopCause) (detail : Nat) : a.abortPart p cause detail =
    ((((a.abortBegins p cause).cancelled p).sheetsEnd cause (a.partAt p).rings).updPart p fun x => { x with stopCause := none }).partTo p
      .stopped detail := rfl

/-- An ABORT of a partition without sheets stops it, and counts its epoch on. -/
theorem State.abortPart_empty (hp : p < 16) (cause : StopCause) (detail : Nat)
    (he : ∀ i ∈ (a.partAt p).rings, (a.ringAt i).sheets = []) : (a.abortPart p cause detail).partAt p =
      { a.partAt p with state := .stopped, epoch := ((a.partAt p).epoch + 1) % 65536, intakeOff := true, stopCause := none } := by
  have empty (i : Nat) (hi : i ∈ (a.partAt p).rings) : (((a.abortBegins p cause).cancelled p).ringAt i).sheets = [] := by
    rw [State.cancelled_ringAt]
    exact (State.sheets_of_map State.ringsRefresh_sheets i).trans (he i hi)
  rw [State.abortPart_eq, State.partTo_partAt _ hp, State.partAt_updPart_same _ hp, State.sheetsEnd_empty cause empty, State.cancelled_partAt,
    State.abortBegins_partAt hp]

theorem State.abortZero_partAt (hp : p < 16) : (a.abortZero p).partAt p =
    { a.partAt p with
      done := if (a.partAt p).state = .draining then (a.partAt p).done else 0
      aborted := if (a.partAt p).state = .draining then (a.partAt p).aborted else 0 } := by
  unfold State.abortZero
  split
  · rfl
  · exact State.partAt_updPart_same a hp _

theorem State.abortZero_ringAt (i : Nat) : (a.abortZero p).ringAt i = a.ringAt i :=
  State.ite_keeps (fun s => s.ringAt i) rfl rfl

/-! ### A start that has nothing to do, and the reset (05 R211, 06 R256) -/

/-- A partition that starts or has started is answered at once, whoever holds it. -/
theorem State.contend_started (hc : f.opcode = 0x0204) (hp : f.req.f 0 1 = p)
    (h : (a.partAt p).state = .started ∨ (a.partAt p).state = .starting) : a.contend f = a.answer f .ok := by
  subst hp
  have there : (a.partAt (f.req.f 0 1)).state ≠ .none := by rcases h with h | h <;> rw [h] <;> nofun
  have allowed : ¬ a.partRefuses f.opcode f.req = true := by
    rw [hc]
    simp [State.partRefuses, there]
  exact (if_neg allowed).trans (if_pos ⟨hc, h.symm⟩)

/-- A partition's registers, rings, memory and tallies, as after PART_CREATE. -/
def State.partCleared (a : State) (p : Nat) (x : Part) : State :=
  let s2 := ((x.rings.foldl State.ringTear a).updPart p fun y => { y.freshRegs with image := none, memLost := false }).markUnits
    x.granules x.slices
  let s4 := x.moulds.foldl (fun (s : State) m => s.updMould m fun y => { y with scratch := [] })
    ((s2.talliesReset x.tallies).dropCaches p)
  if x.live then s4 else s4.partTo p .stopped 3

/-- A PART_RESET ends what runs, and then clears. -/
theorem State.doPartReset_resets {x : Part} (hp : f.req.f 0 1 = p) (hx : a.partAt p = x) (hs : x.state ≠ .none) : a.doPartReset f =
    ((a.abortFor p .reset).2.partCleared p x).done' f (countBytes 0 (a.abortFor p .reset).1) := by
  subst hp hx
  exact if_neg hs

end

/-- Settles O28: each request is one branch of its opcode; what a partition then is, is read through the operations of its branch, each of which
writes its own partition alone. -/
theorem partitionsLiveAndStop : Obligations.PartitionsLiveAndStop := by
  refine ⟨fun s r => ?grants, fun s r => ?runs⟩
  case grants =>
    intro p x f
    refine ⟨fun h hs => ?_, fun d h hs hg => ?_, fun h hs hg => ?_, fun h hs => ?_, fun d h hs hb hg => ?_, fun h hs hb hg => ?_,
      fun h hs => ?_, fun h hs => ?_⟩
    · exact Judged.refused rfl h (by decide) (by simpa [State.partRefuses] using hs)
    · exact effect_of_reply rfl h fun q o => (State.perform_partCreate rfl).trans <|
        State.doPartCreate_lacks (a := { s with damem := q, out := o }) (f := f 0x0201) hs hg
    · obtain ⟨judged, -⟩ := id h
      have none_ : ((s.accepted 0x0201 r).partAt p).state = .none := (congrArg Part.state (State.accepted_partAt p)).trans hs
      have enough : (s.accepted 0x0201 r).grantLack r false = none :=
        (State.of_accepted (fun s => s.grantLack r false) (fun _ _ => rfl) _).trans hg
      have free : (s.accepted 0x0201 r).freeMoulds = s.freeMoulds := State.of_accepted State.freeMoulds (fun _ _ => rfl) _
      have out_ : (s.accepted 0x0201 r).mouldsOut p = s.mouldsOut p := State.of_accepted (fun s => s.mouldsOut p) (fun _ _ => rfl) _
      obtain ⟨l, part, mem⟩ := State.created_partAt (a := s.accepted 0x0201 r) (p := p) rfl judged.create_lt
      simp only [State.accepted_partAt, State.unowned_accepted] at part
      rw [State.accepted_partAt, free, out_] at mem
      have run := State.doPartCreate_creates (a := s.accepted 0x0201 r) (f := f 0x0201) none_ enough rfl
      refine ⟨_, l, effect_of_request rfl h ((State.perform_partCreate rfl).trans run), part, mem, fun q hq => ?_⟩
      exact (State.created_partAt_other hq).trans (State.accepted_partAt q)
    · exact Judged.refused rfl h (by decide) (by simpa [State.partRefuses] using hs)
    · exact effect_of_reply rfl h fun q o => (State.perform_partResize rfl).trans <|
        State.doPartResize_lacks (a := { s with damem := q, out := o }) (f := f 0x0202) hs hb hg
    · obtain ⟨q, o, -, e⟩ := s.accepted_mailbox 0x0202 r
      refine effect_of_request rfl h ((State.perform_partResize rfl).trans ?_)
      rw [e]
      exact State.doPartResize_resizes (a := { s with damem := q, out := o }) (f := f 0x0202) hs hb hg rfl
    · exact Judged.refused rfl h (by decide) (by simpa [State.partRefuses] using hs)
    · have part : (s.accepted 0x0203 r).partAt p = x := State.accepted_partAt p
      refine effect_of_request rfl h ((State.perform_partDestroy rfl).trans (if_neg (not_not_intro ?_)))
      exact (congrArg Part.state part).trans hs
  case runs =>
    intro p x f
    have part (c : Nat) : (s.accepted c r).partAt p = x := State.accepted_partAt p
    have other (c q : Nat) : (s.accepted c r).partAt q = s.partAt q := State.accepted_partAt q
    have dev (c : Nat) : (s.accepted c r).dev = s.dev := State.of_accepted State.dev (fun _ _ => rfl) c
    have sriov (c : Nat) : (s.accepted c r).sriov = s.sriov := State.of_accepted State.sriov (fun _ _ => rfl) c
    have thm_ (c : Nat) : (s.accepted c r).thm = s.thm := State.of_accepted State.thm (fun _ _ => rfl) c
    have ramp (c : Nat) : (s.accepted c r).rampMode = s.rampMode := State.of_accepted State.rampMode (fun _ _ => rfl) c
    have ring (c i : Nat) : (s.accepted c r).ringAt i = s.ringAt i := State.of_accepted (fun s => s.ringAt i) (fun _ _ => rfl) c
    have idle (c : Nat) : (s.accepted c r).partIdle p = s.partIdle p := State.of_accepted (fun s => s.partIdle p) (fun _ _ => rfl) c
    have entered (c : Nat) : f c ∈ (s.accepted c r).damem.inflight := by
      obtain ⟨q, o, mem, e⟩ := s.accepted_mailbox c r
      rw [e]
      exact mem
    have stopRow {k : Instr} (hk : k ∈ [.partStopDrain r, .partStopAbort r]) : exec k s = s.finish (s.evDamem 0x0205 r) := by
      simp only [List.mem_cons, List.not_mem_nil, or_false] at hk
      rcases hk with rfl | rfl <;> rfl
    have start (h : Served s 0x0204 r) (hs : x.state = .stopped) (hi : x.image ≠ none) (hf : x.faulted = false)
        (hv : s.sriov.vfEnable = true) (hn : p < s.sriov.numVfs) (hd : s.dev.state ≠ .safe) (he : s.dev.episode = none) {u : State}
        (run : ((s.accepted 0x0204 r).startWaits (f 0x0204) p).startsGo = u) : Effect (.partStart r) s u := by
      refine effect_of_request rfl h ((State.perform_partStart rfl).trans (Eq.trans ?_ run))
      refine State.doPartStart_goes rfl ?_ ?_ ?_ ?_ ?_ ?_ ?_
      · rw [part]; exact hs
      · rw [part]; exact hi
      · rw [part]; exact hf
      · rw [sriov]; exact hv
      · rw [sriov]; exact hn
      · rw [dev]; exact hd
      · rw [dev]; exact he
    refine ⟨fun h hs => ?_, fun h hs => ?_, fun h hs => ?_, fun h hs hr => ?_, fun h hs hi hf hv hn hd ht hw he hq hr h16 => ?_,
      fun h hs hi hf hv hn hd ht hw he hq hr h16 => ?_, fun h hs hi hf hv hn hd ht hw he hq hr h16 => ?_, fun k hk h hs => ?_,
      fun k hk h hs => ?_, fun h hf hl hi h16 => ?_, fun h hf hl => ?_, fun h hs => ?_, fun h hs => ?_⟩
    · refine effect_of rfl (h.evDamem.trans ((if_neg (by decide)).trans (State.contend_started (p := p) rfl rfl ?_)))
      rw [part]
      exact hs
    · exact Judged.refused rfl h (by decide) (by simpa [State.partRefuses] using hs)
    · refine effect_of_request rfl h ((State.perform_partStart rfl).trans (if_pos (.inr (.inr (.inr ?_)))))
      exact (congrArg Part.state (part _)).trans hs
    · refine effect_of_request rfl h ((State.perform_partStart rfl).trans (State.doPartStart_refused rfl ?_ ?_))
      · exact (congrArg Part.state (part _)).trans hs
      · change ((s.accepted _ r).partAt p).image = none ∨ ((s.accepted _ r).partAt p).faulted = true ∨ _
        rw [part, sriov, dev]
        exact hr
    · have only := State.OnlyParts.accepted s 0x0204 r
      obtain ⟨u, run, started, others, after⟩ := State.start_serving (a := s.accepted 0x0204 r) (f := f 0x0204) (by rw [dev]; exact hw)
        (by rw [dev]; exact ht) (by rw [thm_]; exact hq) h16 (by rw [dev]; exact hd) ((ramp _).trans hr)
      rw [part] at started
      exact ⟨u, start h hs hi hf hv hn (by rw [hd]; nofun) he run, started, fun q hq => (others q hq).trans (other _ q),
        (only.trans after).view State.dev fun _ _ _ _ _ _ => rfl, only.trans after⟩
    · obtain ⟨u, run, state, after, seeds, held⟩ := State.start_ramp (a := s.accepted 0x0204 r) (f := f 0x0204) (by rw [dev]; exact hw)
        (by rw [dev]; exact ht) (by rw [thm_]; exact hq) h16 (by rw [dev]; exact hd) ((ramp _).trans hr) (entered _)
      rw [dev] at after
      rw [thm_] at seeds
      exact ⟨u, start h hs hi hf hv hn (by rw [hd]; nofun) he run, state, after, seeds, held⟩
    · obtain ⟨u, run, state, after, none_⟩ := State.start_anneal (a := s.accepted 0x0204 r) (f := f 0x0204) (by rw [dev]; exact hw)
        (by rw [dev]; exact ht) (by rw [thm_]; exact hq) h16 (by rw [dev]; exact hd) ((ramp _).trans hr)
      exact ⟨u, start h hs hi hf hv hn (by rw [hd]; nofun) he run, state, after, none_⟩
    · exact Judged.refused (stopRow hk) h (by decide) (by simpa [State.partRefuses] using hs)
    · have stopped : ((s.accepted 0x0205 r).partAt p).state = .stopped := (congrArg Part.state (part _)).trans hs
      have there : ((s.accepted 0x0205 r).partAt p).state ≠ .none := by rw [stopped]; nofun
      exact effect_of_request (stopRow hk) h ((State.perform_partStop rfl).trans ((if_neg there).trans (if_pos stopped)))
    · have run := State.doPartStop_drains (a := s.accepted 0x0205 r) (f := f 0x0205) (p := p) rfl h16 (by rw [part]; exact hl) hf
        (by rw [idle]; exact hi)
      refine ⟨_, effect_of_request rfl h ((State.perform_partStop rfl).trans run), ?_, fun q hq => ?_, State.drainStarts_inflight (entered _),
        (State.OnlyParts.accepted s _ r).trans State.drainStarts_only⟩
      · rw [State.drainStarts_partAt h16, part]
      · rw [State.drainStarts_partAt_other hq, other]
    · intro n
      have live : ((s.accepted 0x0205 r).partAt p).live = true := by rw [part]; exact hl
      have run := State.doPartStop_aborts (a := s.accepted 0x0205 r) (f := f 0x0205) (p := p) rfl live hf
      rw [State.abortFor_live live] at run
      simp only [part, ring] at run
      refine ⟨_, effect_of_request rfl h ((State.perform_partStop rfl).trans run), fun h16 => ?_, fun h16 empty => ?_⟩
      · rw [State.answerStop_partAt]
        exact State.abortPart_stopped h16 _ _
      · rw [State.answerStop_partAt, State.abortPart_empty h16, State.abortZero_partAt h16, part]
        rw [State.abortZero_partAt h16, part]
        intro i hi
        rw [State.abortZero_ringAt, ring]
        exact empty i hi
    · exact Judged.refused rfl h (by decide) (by simpa [State.partRefuses] using hs)
    · exact effect_of_request rfl h ((State.perform_partReset rfl).trans (State.doPartReset_resets rfl (part _) hs))

end Sys2Proof.Machine
end
